-- ==== Sys2Proof/Word.lean ====
section
/-! DEFINITION. The word types of the register network and of byte strings, and their plainest arithmetic. -/

namespace Sys2Proof

/-- A register word: BAR0 is made of 32-bit registers (02, R36). -/
abbrev Word := BitVec 32

/-- A byte of a frame, of DRAM or of the keep-alive store. -/
abbrev Byte := BitVec 8

/-- A word from a natural number, modulo 2^32. -/
abbrev W (n : Nat) : Word := BitVec.ofNat 32 n

/-- A byte from a natural number, modulo 2^8. -/
abbrev B8 (n : Nat) : Byte := BitVec.ofNat 8 n

end Sys2Proof
end

