-- ==== Sys2Proof/Syntax.lean ====
section
/-! DEFINITION. The commands of the block: one constructor per row of the opcode table, with the row's operands. An
operand that names what the world outside determines (the bytes of a frame, a measured value, a verdict of a check
whose inputs lie outside the block) is what the sender of the command supplies. One with a default names the plain case where
nothing is supplied: no code error, read-backs that agree, no line replaced, a frame whose SOF is now, an error before any delay is
measured, a pulse longer than any filter, all byte enables. -/

namespace Sys2Proof

/-- A command to the block. -/
inductive Instr where

  /-- REGISTER_WRITE (R23): A write to a register that has no row of its own is stored and acts in the controlled logic within the region's time. -/
  | registerWrite (req addr be : Nat) (val : Word)
  /-- UNMAPPED_ACCESS (R34): An access to an unmapped BAR0 address returns an error response and is logged UNMAP. -/
  | unmappedAccess (req addr be : Nat) (wr : Bool)
  /-- UNLOCK_WRITE (R41): A write to GLB_UNLOCK arms the requester's unlock with 0x5AFE_C0DE or disarms it otherwise. -/
  | unlockWrite (req : Nat) (val : Word)
  /-- UNLOCK_EXPIRY (R43): An armed unlock expires 10 us after the arming write completed. -/
  | unlockExpiry (req : Nat)
  /-- LO_WORD_READ (R38): A read of a _LO word returns the live value and copies the higher words into the requester's shadow. -/
  | loWordRead (req addr : Nat)
  /-- HOLDING_WORD_WRITE (R39): A write to a _LO or intermediate word goes into the requester's holding register and does not act. -/
  | holdingWordWrite (req addr : Nat) (val : Word)
  /-- HI_WORD_COMMIT (R39): A write to a _HI word commits the whole multiword value from held and live words. -/
  | hiWordCommit (req addr : Nat) (val : Word)
  /-- DMA_MULTIWORD_WRITE (R40): A DMA write to a word of a multiword value is ignored and logged DMAW. -/
  | dmaMultiwordWrite (addr : Nat) (val : Word)
  /-- COUNTER_CLEAR (R51): GLB_CTR_CLR clears every counter of the named region at one instant. -/
  | counterClear (req blk : Nat)
  /-- SOFT_RESET (R59): GLB_SRST soft-resets the named region, which takes the state its chapter gives. -/
  | softReset (req blk : Nat)
  /-- POWER_ON (R373): VS is applied; power die registers take reset values, INH high and PWR_WK_FIRST POWERON. -/
  | powerOn 
  /-- PWR_GOOD_FALL (R493): A fall of PWR_GOOD acts as a power-on reset of the core die. -/
  | pwrGoodFall 
  /-- RESET_N_ASSERT (R77): RESET_N asserted ends a start in progress and aborts PREPARE and READY. -/
  | resetNAssert 
  /-- CORE_DIE_START (R54): At the later rising edge of PWR_GOOD and RESET_N the core die leaves reset and a start begins. -/
  | coreDieStart (bad : List Nat)
  /-- PLL_LOCK (R55): The fabric, time-base, CAN and management PLLs lock. -/
  | pllLock (lostMs : Nat)
  /-- FLASH_DIRECTORY_READ (R61): The xSPI master discovers the flash and reads the directory copies. -/
  | flashDirectoryRead (err0 err1 : Bool)
  /-- SELFTEST_COMPLETE (R60): Self-test and soft repair of every macro, core and ply ends; reduced units assert DEGRADED. -/
  | selftestComplete (cores plies : List Nat) (bufRows : Nat) (tables queues objs slots sram : List Nat) (entropyOk : Bool)
      (lines : List (Bool × Nat × Nat × Nat × Nat) := [])
  /-- CANDIDATE_HEADER_CHECK (R69): The header of a candidate image is read and checked in order. -/
  | candidateHeaderCheck (err : Bool)
  /-- BODY_READ_COMPLETE (R64): The body and trailer are read, hashed and decrypted into staging and the GCM tag is checked. -/
  | bodyReadComplete (err : Bool)
  /-- SIGNATURE_VERIFY_COMPLETE (R65): The image signatures are verified and the records checked. -/
  | signatureVerifyComplete 
  /-- APPLY_BEGIN (R55): Once self-test and verification are both done the loader enters APPLY. -/
  | applyBegin 
  /-- REG32 (R67): A REG32 record makes 32-bit register writes by requester CFG. -/
  | reg32 
  /-- REGBLK (R67): A REGBLK record writes consecutive words from an offset. -/
  | regblk 
  /-- REGPOLL (R67): A REGPOLL record starts waiting until a masked register read equals a value. -/
  | regpoll 
  /-- REGPOLL_MATCH (R67): The polled register matches and application continues. -/
  | regpollMatch 
  /-- REGPOLL_TIMEOUT (R69): A REGPOLL reaches its timeout and the image is rejected with APPLY. -/
  | regpollTimeout 
  /-- REGWAIT (R67): A REGWAIT record starts a wait of its given time. -/
  | regwait 
  /-- REGWAIT_EXPIRY (R67): The REGWAIT time elapses and application continues. -/
  | regwaitExpiry 
  /-- TBLLOAD (R67): A TBLLOAD record writes table entries with WRITE commands. -/
  | tblload (bad : Option Nat)
  /-- KEYBLOB (R315): A KEYBLOB record is unwrapped into its slot by the vault using the Grit pool. -/
  | keyblob 
  /-- KEYBLOB_COMPLETE (R315): The vault finishes a KEYBLOB unwrap, filling the slot or rejecting the image with APPLY. -/
  | keyblobComplete (differ : Bool)
  /-- MDIO_RECORD (R67): An MDIO record makes PHY register writes on an MDIO master. -/
  | mdioRecord 
  /-- NOTE (R67): A NOTE record is ignored. -/
  | noteRecord 
  /-- UNKNOWN_RECORD (R68): A record of unknown TYPE is skipped if not CRIT, else the image is rejected. -/
  | unknownRecord 
  /-- END (R67): The END record ends the body and the loader enters COMMIT. -/
  | endRecord 
  /-- COMMIT_ENABLES (R508): At commit the stored time-base, generator, capture, gPTP, CAN and MAC enables act in order and load channels take their states. -/
  | commitEnables 
  /-- FORWARDING_ENABLE (R55): Forwarding is enabled, CFG_STS RUN and LOADED set. -/
  | forwardingEnable 
  /-- RELOAD (R76): CFG_CMD RELOAD runs selection, checks and apply again in DEGRADED. -/
  | cfgReload (req : Nat)
  /-- FLOOR_RAISE (R73): A guarded write to CFG_FLOOR.EPOCH starts blowing epoch fuses if the value is permitted. -/
  | floorRaise (req epoch : Nat)
  /-- FLOOR_DONE (R73): Fuse blowing of the configuration epoch ends and FLOOR_DONE is set. -/
  | floorDone 
  /-- TENON_LINK_LOSS_DETECT (R457): The core die sees no valid link traffic for 100 us, records source 224 and starts retraining. -/
  | tenonLinkLossDetect 
  /-- LINK_LOST_STATE (R14): The power die sees no valid link traffic for 1 ms and enters the link-lost state. -/
  | linkLostState 
  /-- TENON_LINK_RETRAIN (R457): The link retrains; the power die reports LOST_MS and the core die resumes command. -/
  | tenonLinkRetrain (ms : Nat)
  /-- TENON_RETRAIN_TIMEOUT (R457): The link has not retrained within 1 s and source 226 occurs. -/
  | tenonRetrainTimeout 
  /-- PWR_ACCESS_COMPLETE (R11): A non-posted PWR register access completes with data or storage on the power die. -/
  | pwrAccessComplete 
  /-- TENON_TIMEOUT (R12): A PWR access uncompleted after 25 us ends with an error response and a Tenon timeout. -/
  | tenonTimeout 
  /-- MAC_ENABLE (R80): MAC_CFG.EN 0 to 1 samples SPEED and FEC and starts lane training or sets CFG_ERR. -/
  | macEnable (req port : Nat) (val : Word)
  /-- MAC_DISABLE (R82): MAC_CFG.EN cleared takes the port to DISABLED after the frame in transmission. -/
  | macDisable (req port : Nat) (val : Word)
  /-- LANE_TRAINED (R509): The SerDes lane finishes training. -/
  | laneTrained (port : Nat)
  /-- PCS_LOCK_GAIN (R509): PCS lock is achieved on a valid signal from the PHY. -/
  | pcsLockGain (port : Nat)
  /-- PCS_LOCK_LOSS (R81): PCS lock is lost and LINK falls within 1 us. -/
  | pcsLockLoss (port : Nat)
  /-- MDIO_POLL_COMPLETE (R85): A link poll read of a PHY completes and updates PHY_UP and LINK. -/
  | mdioPollComplete (master data : Nat)
  /-- MDIO_ROUND_GAP_EXPIRY (R84): The GAP wait after a poll round ends and the next round starts. -/
  | mdioRoundGapExpiry (master : Nat)
  /-- MDIO_WRITE (R83): MAC_MDIO_CMD OP write issues an MDIO write before the next poll. -/
  | mdioWrite (req master : Nat) (val : Word)
  /-- MDIO_READ (R83): MAC_MDIO_CMD OP read issues an MDIO read before the next poll. -/
  | mdioRead (req master : Nat) (val : Word)
  /-- MDIO_COMMAND_COMPLETE (R84): An MDIO command access ends and its data and status are visible. -/
  | mdioCommandComplete (master data : Nat)
  /-- FRAME_RECEIVE (R86): A frame received at a port is sized, checked, counted, classified, admitted and handled by its stream context. -/
  | frameReceive (port : Nat) (bytes : List Byte) (more pcsErr : Bool)
  /-- MM_ENABLE (R95): MAC_MM_CFG.EN set starts verification or NOVERIFY preemption. -/
  | mmEnable (req port : Nat) (val : Word)
  /-- MM_VERIFY_TIMEOUT (R95): The verify wait ends; the next verify is sent or VSTATE becomes FAILED. -/
  | mmVerifyTimeout (port : Nat)
  /-- MM_RESPOND_RECEIVED (R95): A respond mPacket makes VSTATE SUCCEEDED. -/
  | mmRespondReceived (port : Nat)
  /-- MM_VERIFY_RECEIVED (R96): A received verify mPacket is answered with a respond mPacket. -/
  | mmVerifyReceived (port : Nat)
  /-- MM_FRAGMENT_RECEIVED (R96): A preemptable fragment is reassembled or discarded as an assembly error. -/
  | mmFragmentReceived (port : Nat) (cont final : Bool) (count : Nat) (bytes : List Byte) (crcOk : Bool) (pcsErr : Bool := false)
  /-- PAUSE_RECEIVED (R99): A valid PAUSE frame stops every class at the port for its time. -/
  | pauseReceived (port quanta : Nat)
  /-- PFC_RECEIVED (R99): A valid PFC frame pauses the named classes. -/
  | pfcReceived (port classes : Nat) (times : List Nat)
  /-- PAUSE_TIMER_EXPIRY (R99): A received pause time runs out and the class or port resumes. -/
  | pauseTimerExpiry (port : Nat) (cls : Option Nat)
  /-- PAUSE_REFRESH (R101): While a threshold stays asserted, PAUSE or PFC is sent again every REFRESH quanta. -/
  | pauseRefresh (port : Nat)
  /-- FRAME_TRANSMIT (R92): An egress copy is tagged, padded, trailered, size-checked and sent at the MAC. -/
  | frameTransmit (port : Nat) (express : Bool) (cuts : List Nat)
  /-- LEARN_PROCESS (R125): The learn engine takes a request and inserts, refreshes, moves or refuses the entry. -/
  | learnProcess (differs : Bool := false)
  /-- AGEING_SECOND (R128): TBL_NOW increments each second and starts an ageing sweep. -/
  | ageingSecond 
  /-- AGEING_BUCKET_SCAN (R128): The scanner visits one bucket per us, checking parity, clearing MV and ageing out entries. -/
  | ageingBucketScan (bad : Nat)
  /-- TABLE_SCRUB (R130): The background scrubber reads table entries and handles parity errors. -/
  | tableScrub (table index bad : Nat)
  /-- TABLE_ROW_REPAIR (R131): Shim maps a table row whose write read-back differed to a spare. -/
  | tableRowRepair (table row : Nat)
  /-- READ (R133): TBL_CMD READ copies entry INDEX into TBL_DATA. -/
  | tblRead (req ch table index : Nat)
  /-- WRITE (R133): TBL_CMD WRITE writes TBL_DATA into entry INDEX and advances the epoch. -/
  | tblWrite (req ch table index : Nat) (differs : Bool)
  /-- INVAL (R133): TBL_CMD INVAL clears VALID of entry INDEX. -/
  | tblInval (req ch table index : Nat) (differs : Bool := false)
  /-- INSERT (R133): TBL_CMD INSERT inserts a learning key under R121. -/
  | tblInsert (req ch : Nat) (differs : Bool := false)
  /-- DELETE (R133): TBL_CMD DELETE invalidates the learning entry of a key. -/
  | tblDelete (req ch : Nat) (differs : Bool := false)
  /-- SEARCH (R133): TBL_CMD SEARCH returns the learning entry of a key and its index. -/
  | tblSearch (req ch : Nat)
  /-- FLUSH (R133): TBL_CMD FLUSH starts sweeping the learning table for selected entries. -/
  | tblFlush (req ch : Nat)
  /-- FLUSH_COMPLETE (R120): A flush sweep ends and a full flush makes SEED the active seed. -/
  | tblFlushComplete (rows : List Nat := [])
  /-- TBL_DRAIN (R135): A write to TBL_DRAIN captures the epoch and starts a drain. -/
  | tblDrain (req tmo : Nat)
  /-- DRAINED (R135): No frame of an older epoch remains and the drain completes. -/
  | tblDrained 
  /-- DRAIN_TMO (R135): The drain timeout passes and the drain ends failed. -/
  | tblDrainTmo 
  /-- MCGRP_WRITE (R160): A write that changes SW_MCGRP advances the table epoch. -/
  | mcgrpWrite (req g mask : Nat)
  /-- MATCHING_CYCLE (R150): Each 9 ns the matcher assigns cells to ply slots and inputs send them in rotation. -/
  | matchingCycle (retried : List Nat)
  /-- CELL_ARRIVAL (R153): A cell reaches Dovetail at its output and is released in SEQ order. -/
  | cellArrival (n : Nat)
  /-- RESEQ_GAP_TIMEOUT (R153): A sequence gap outlasts GAP_NS and its frame is discarded. -/
  | reseqGapTimeout (src dst : Nat)
  /-- EGRESS_FETCH (R154): With room in staging, the egress scheduler picks the next frame by class and applies age limits. -/
  | egressFetch (out : Nat)
  /-- AGE_SCAN (R167): The age scanner visits queue heads and drops copies past their age limit. -/
  | ageScan 
  /-- MC_TMO (R162): A multicast copy not fetched within MC_TMO_US is dropped. -/
  | mcTmo (out ingress cls : Nat)
  /-- OUTPUT_FLUSH_COMPLETE (R163): An output's flush completes and it goes to DOWN or UP. -/
  | outputFlushComplete (out : Nat)
  /-- PLY_FAIL (R168): A ply in service fails; it leaves the rotation, markers declare lost cells and the spare trains. -/
  | plyFail (ply : Nat)
  /-- PLY_READY (R168): A training ply passes self-test and joins the rotation, or fails. -/
  | plyReady (ply : Nat) (pass : Bool)
  /-- PLY_DRAINED (R168): A DRAINING ply empties and becomes SPARE. -/
  | plyDrained (ply : Nat)
  /-- RETIRE (R171): SW_PLY_CMD RETIRE puts an active ply into DRAINING. -/
  | plyRetire (req ply : Nat)
  /-- PLY_RETEST (R171): SW_PLY_CMD RETEST runs the ply test on a FAILED ply. -/
  | plyRetest (req ply : Nat)
  /-- PLY_RETEST_DONE (R171): A ply retest completes and the ply becomes SPARE or stays FAILED. -/
  | plyRetestDone (pass : Bool)
  /-- STR_ENABLE (R199): STR_CFG.EN set samples the context, applies persisted HIGH or reservations and enters ACTIVE. -/
  | strEnable (req n : Nat) (val : Word)
  /-- STR_DISABLE (R199): STR_CFG.EN cleared disables the context and drops frames before step 6. -/
  | strDisable (req n : Nat) (val : Word)
  /-- VERIFY_JOB_DONE (R187): A verification verdict arrives and the context commits sequence, window, watchdog and tap or drops the frame. -/
  | verifyJobDone (core : Nat)
  /-- GENERATE_JOB_DONE (R192): A generated tag is ready and the frame becomes eligible with its trailer. -/
  | generateJobDone (core : Nat)
  /-- ROLL_TIMER_EXPIRY (R191): ROLL_MS ends; the old entry's VALID and ROLLING are cleared. -/
  | rollTimerExpiry (n : Nat)
  /-- KEY_ENTRY_WRITE (R191): A write to STR_KEYA or STR_KEYB during ROLLING cancels the timer. -/
  | keyEntryWrite (req n entry : Nat) (val : Word)
  /-- SILENT (R197): The silence watchdog expires and the context enters SILENT. -/
  | strSilent (n : Nat)
  /-- SEQ_RESET (R195): The sequence recovery reset time passes and recovery resets. -/
  | strSeqReset (n : Nat)
  /-- HIGH_PERSIST (R190): Once per second HIGH of persisting verify contexts and entries is written to the keep-alive store. -/
  | strHighPersist 
  /-- CAN_ENABLE (R209): CAN_CFG.EN set samples timing and starts INTEGRATING or sets CFG_ERR. -/
  | canEnable (req c : Nat) (val : Word)
  /-- CAN_DISABLE (R209): CAN_CFG.EN cleared takes the controller to OFF after the frame on the bus. -/
  | canDisable (req c : Nat) (val : Word)
  /-- INTEGRATION_DONE (R209): Eleven recessive bits end INTEGRATING and the controller becomes ERR_ACTIVE. -/
  | integrationDone (c : Nat)
  /-- BUS_OFF_RECOVERY (R209): The 128th recessive sequence returns a BUS_OFF controller to ERR_ACTIVE. -/
  | busOffRecovery (c n : Nat)
  /-- CAN_FRAME_RECEIVED (R213): A CAN frame received without error selects its object and is stored, delivered or dropped. -/
  | canFrameReceived (c fmt id : Nat) (ide rtr brs esi sec : Bool) (sdt vcid af dlc : Nat) (data : List Byte) (age : Nat := 0)
  /-- CAN_TX_START (R219): When the controller may start a frame it picks an object and copies it at SOF. -/
  | canTxStart (c : Nat)
  /-- CAN_TX_SUCCESS (R219): A frame is sent with success; REQ cleared, DONE set, TXLAST written. -/
  | canTxSuccess (c tdcv : Nat)
  /-- CAN_ARB_LOST (R219): The controller loses arbitration and retries. -/
  | canArbLost (c : Nat)
  /-- CAN_ERROR (R210): A bus error is detected and counted, changing TEC, REC and the error state. -/
  | canError (c kind : Nat) (tx : Bool) (weight : Nat) (loop : Option Nat := none)
  /-- TX_REQUEST (R220): A write setting REQ on a transmit object makes it pending or refuses it. -/
  | txRequest (req c obj : Nat) (val : Word)
  /-- ABORT (R222): CAN_TXCMD ABORT clears REQ of one object. -/
  | canAbort (req c obj : Nat)
  /-- ABORT_ALL (R222): CAN_TXCMD ABORT_ALL clears REQ of every object. -/
  | canAbortAll (req c : Nat)
  /-- RX_OBJECT_W0_WRITE (R216): A write to W0 of a receive object clears NEW and LOST if SEQ matches. -/
  | rxObjectW0Write (req c obj : Nat) (val : Word)
  /-- CROSS_CAPTURE (R218): Every 1 ms the SOF counter and TB0-TB3 are captured into CAN_XCAP. -/
  | crossCapture 
  /-- MATRIX_START (R223): The schedule matrix starts at the next matrix-cycle boundary, sampling its fields. -/
  | matrixStart (c : Nat)
  /-- WINDOW_START (R224): A schedule window begins and its EXCL, ARB or QUIET rule takes effect. -/
  | windowStart (c : Nat)
  /-- EXCL_LATE_EXPIRY (R225): LATE passes without success and the EXCL window counts as missed. -/
  | exclLateExpiry (c : Nat)
  /-- FIFO_OBJECT_REFILL (R236): FIFO_OBJ's REQ becomes 0 and the gateway writes the next FIFO frame into it. -/
  | fifoObjectRefill (dst : Nat)
  /-- TOKEN_REFILL (R238): A destination bucket gains a token every PER_US us. -/
  | tokenRefill (dst : Nat)
  /-- GW_RATE_WRITE (R238): A write of GW_DST_RATE refills the bucket. -/
  | gwRateWrite (req dst : Nat) (val : Word)
  /-- PACK_ENABLE (R241): GW_PK_CFG.EN set samples the packing context and restarts sequence_num. -/
  | packEnable (req k : Nat) (val : Word)
  /-- PACK_DISABLE (R241): GW_PK_CFG.EN cleared closes the open PDU. -/
  | packDisable (req k : Nat) (val : Word)
  /-- HOLD_EXPIRY (R241): HOLD_US after the first message closes the PDU. -/
  | holdExpiry (k : Nat)
  /-- PDU_PRESENT (R242): The head packed frame is presented to CANB when its class is not in XOFF. -/
  | pduPresent 
  /-- UNPACK (R244): A frame delivered to CANB is unpacked and its messages sent to controller FIFOs. -/
  | gwUnpack 
  /-- JIG_TRIGGER (R246): A store triggers the Jig, which makes the moves of its entries in order. -/
  | jigTrigger 
  /-- JIG_TIMEOUT (R248): A Jig entry timer expiry is seen and the substitute written once. -/
  | jigTimeout (entry : Nat)
  /-- JIG_ENTRY_COMMIT (R247): A write of GW_JIG_HI commits an entry between triggers and restarts its timer. -/
  | jigEntryCommit (req entry : Nat) (val : Word)
  /-- CMA_ENABLE (R249): GW_CMA_CFG.EN set samples the entry and applies HIGH or reservation. -/
  | cmaEnable (req entry : Nat) (val : Word)
  /-- CMA_VERIFY_DONE (R251): A CAN verification verdict updates HIGH and GW_CMA_STS and routing continues. -/
  | cmaVerifyDone (core : Nat)
  /-- CMA_GENERATE_DONE (R252): A CAN generate job writes freshness, MAC and padding into the object. -/
  | cmaGenerateDone (core : Nat)
  /-- TB_ENABLE (R259): TB_CFG.EN set starts the time base counting from TB_TIME. -/
  | tbEnable (req t : Nat) (val : Word)
  /-- TB_DISABLE (R259): TB_CFG.EN cleared stops the time base and abandons a slew. -/
  | tbDisable (req t : Nat) (val : Word)
  /-- TB_INC_COMMIT (R258): A commit of TB_INC sets the increment, ignored or clamped under the range. -/
  | tbIncCommit (req t : Nat) (val : Word)
  /-- SET (R260): TB_CMD SET steps the time base to TB_SET at the next tick. -/
  | tbSet (req t : Nat)
  /-- ADD (R260): TB_CMD ADD steps the time base by TB_OFS. -/
  | tbAdd (req t : Nat)
  /-- SLEW (R260): TB_CMD SLEW starts absorbing TB_OFS at 500 ppm. -/
  | tbSlew (req t : Nat)
  /-- SLEW_COMPLETE (R260): The slew offset is spent and TB_CMD shows done. -/
  | slewComplete (t : Nat)
  /-- ADJ_ZERO (R260): TB_CMD ADJ_ZERO sets ADJ and the integral to zero. -/
  | tbAdjZero (req t : Nat)
  /-- SERVO_ENABLE (R262): TB_CFG.SRV_EN set samples the servo and enters ACQUIRE or CFG_ERR. -/
  | servoEnable (req t : Nat) (val : Word)
  /-- SERVO_TB_SAMPLE (R262): Every 1 ms a servo referenced to another time base takes an update. -/
  | servoTbSample (t : Nat)
  /-- HOLDOVER (R264): No update for HOLD_MS puts the servo in HOLDOVER. -/
  | servoHoldover (t : Nat)
  /-- PDELAY_REQ_TIMER (R267): Every 2^PD_LOG s the port sends Pdelay_Req and judges the previous response. -/
  | pdelayReqTimer (n : Nat)
  /-- PDELAY_REQ_RECEIVED (R267): A received Pdelay_Req is answered with Pdelay_Resp and Follow_Up. -/
  | pdelayReqReceived 
  /-- PDELAY_RESP_RECEIVED (R267): A Pdelay response updates meanLinkDelay, rate ratio and AS_CAPABLE. -/
  | pdelayRespReceived 
  /-- SYNC_RECEIVED (R268): A Sync at the slave port is accepted, feeds servos and is relayed on master ports. -/
  | syncReceived 
  /-- FOLLOW_UP_RECEIVED (R268): A Follow_Up completes a two-step Sync for acceptance. -/
  | followUpReceived 
  /-- FOLLOW_UP_TIMEOUT (R268): A two-step Sync's Follow_Up does not arrive within 2^SYNC_LOG s. -/
  | followUpTimeout (d : Nat)
  /-- GPTP_OTHER_MESSAGE (R265): Another gPTP message is copied to TP_GLB.Q or discarded. -/
  | gptpOtherMessage 
  /-- SYNC_TMO (R271): No Sync accepted for three intervals stops relaying and clears SYNC_OK. -/
  | syncTmo (d : Nat)
  /-- GRANDMASTER_SYNC (R269): As grandmaster the device sends Sync every 2^SYNC_LOG s. -/
  | grandmasterSync (d : Nat)
  /-- TP_DOM_ENABLE (R271): TP_DOM_CFG.EN set samples the domain or sets CFG_ERR. -/
  | tpDomEnable (req d : Nat) (val : Word)
  /-- TG_ENABLE (R273): TG_CFG.EN set samples the generator and schedules its first edge or sets CFG_ERR. -/
  | tgEnable (req g : Nat) (val : Word)
  /-- TG_DISABLE (R274): TG_CFG.EN cleared stops the generator and clears CFG_ERR. -/
  | tgDisable (req g : Nat) (val : Word)
  /-- TG_EDGE (R273): A generator's scheduled edge occurs, driving its pin, followers, DMA and recorder consumers. -/
  | tgEdge (g : Nat)
  /-- TG_PIN_WIDTH_END (R276): WIDTH after an edge the TRIG pin returns to its inactive level. -/
  | tgPinWidthEnd (g : Nat)
  /-- TG_EDGE_COMMAND (R277): 2 us before a due edge the core die sends it to the power die as a command. -/
  | tgEdgeCommand (g : Nat)
  /-- POWER_DIE_EDGE (R277): The power die acts on an edge command for pulse periods or ADC conversions. -/
  | powerDieEdge (late : Bool)
  /-- CAP_EDGE (R278): A selected edge at a capture input is stamped into the ring or dropped. -/
  | capEdge (unit : Nat) (rising : Bool) (pulse : Nat := 1000000)
  /-- SJQ_ENABLE (R289): CRY_SJQ_CFG.EN set samples the ring and sets CI to PI. -/
  | sjqEnable (req queue : Nat) (val : Word)
  /-- SJQ_PI_WRITE (R289): A write of CRY_SJQ_PI offers descriptors or halts the queue. -/
  | sjqPiWrite (req queue : Nat) (val : Word) (host : List (Nat × BitVec 8))
  /-- JOB_DISPATCH (R287): An idle core takes the oldest job of the highest waiting level. -/
  | jobDispatch (unit : Nat) (late : List Nat) (drbgFail : Bool)
  /-- SEGMENT_END (R287): A segment of a level 4-6 job ends and the job rejoins its level. -/
  | segmentEnd (core : Nat)
  /-- SW_JOB_COMPLETE (R292): A software job completes, writes output, CMPL and CI and sets DONE. -/
  | swJobComplete (core : Nat) (host : List (Nat × BitVec 8))
  /-- SW_WAIT (R288): A software job waits past WAIT_US without a core. -/
  | swWait (queue index : Nat)
  /-- CORE_ABORT (R298): A core parity or redundancy error aborts its job and quarantines the core. -/
  | coreAbort (core : Nat)
  /-- QUARANTINE_TEST_DONE (R299): Quarantine tests end and the core returns to ACTIVE or is RETIRED. -/
  | quarantineTestDone (core : Nat) (pass sparePass : Bool)
  /-- CORE_RETIRE (R300): CRY_CMD RETIRE retires an active core after its job. -/
  | coreRetire (req core : Nat) (sparePass : Bool)
  /-- CORE_RETEST (R300): CRY_CMD RETEST tests a retired core. -/
  | coreRetest (req core : Nat)
  /-- CORE_RETEST_DONE (R299): A retest passes and the core becomes SPARE. -/
  | coreRetestDone (pass : Bool)
  /-- DRBG_RESTART (R297): CRY_CMD DRBG_RESTART instantiates the DRBG afresh in FAIL. -/
  | drbgRestart (req : Nat) (ok : Bool)
  /-- DRBG_RESEED (R297): A reseed falls due every RESEED_MS or each 1 s in NORESEED. -/
  | drbgReseed (ok : Bool)
  /-- DERIVE (R316): KEY_CMD DERIVE derives a slot key by KDF from its parent. -/
  | keyDerive (req : Nat) (val : Word)
  /-- UNWRAP (R316): KEY_CMD UNWRAP unwraps a blob into a slot. -/
  | keyUnwrap (req : Nat) (val : Word)
  /-- GENERATE (R316): KEY_CMD GENERATE fills a slot with a random key. -/
  | keyGenerate (req : Nat) (val : Word)
  /-- INVALIDATE (R312): KEY_CMD INVALIDATE zeroes a VALID slot, increments GEN and orphans descendants. -/
  | keyInvalidate (req : Nat) (val : Word)
  /-- FREE (R313): KEY_CMD FREE returns an INVALID, ORPHANED or ZEROED slot to EMPTY. -/
  | keyFree (req : Nat) (val : Word)
  /-- PROVISION (R321): KEY_CMD PROVISION installs RS from a K_TR blob. -/
  | keyProvision (req : Nat) (val : Word)
  /-- ZEROISE (R324): KEY_CMD ZEROISE raises tamper source SOFT. -/
  | keyZeroise (req : Nat) (val : Word)
  /-- FUSE_SIGNER (R322): KEY_CMD FUSE_SIGNER blows a signer digest. -/
  | fuseSigner (req : Nat) (val : Word)
  /-- FUSE_REVOKE (R322): KEY_CMD FUSE_REVOKE revokes a signer index. -/
  | fuseRevoke (req : Nat) (val : Word)
  /-- FUSE_POLICY (R322): KEY_CMD FUSE_POLICY adds required signature algorithms. -/
  | fusePolicy (req : Nat) (val : Word)
  /-- FUSE_LOCK (R323): KEY_CMD FUSE_LOCK makes GLB_LOCK fields permanent. -/
  | fuseLock (req : Nat) (val : Word)
  /-- RES_INIT (R329): KEY_CMD RES_INIT makes a LOST reservation record VALID. -/
  | resInit (req : Nat) (val : Word)
  /-- KEY_COMMAND_COMPLETE (R317): A KEY_CMD ends done or failed with its result code, swapping a replacement key if it passed. -/
  | keyCommandComplete (host : List (Nat × BitVec 8)) (differ : Bool)
  /-- ORPHAN_SWEEP_DONE (R312): The sweeper finishes zeroing the material of orphaned descendants. -/
  | orphanSweepDone 
  /-- SHARE_RERANDOMISE (R320): Every 1 ms the vault re-randomises slot key shares. -/
  | shareRerandomise 
  /-- TAMPER_DETECTED (R325): A tamper source is detected; RS and slots are zeroed and the tamper log written. -/
  | tamperDetected (src : Nat) (present : Bool)
  /-- ATTEST (R331): KEY_ATT_CMD starts building and signing an attestation statement. -/
  | keyAttest (req nlen : Nat)
  /-- ATTEST_COMPLETE (R333): The statement is written to KEY_ATT_BUF and KEY_ATTEST increments. -/
  | attestComplete 
  /-- RESERVATION_ADVANCE_DONE (R328): A ceiling write completes and frames waiting under RES_WAIT go on. -/
  | reservationAdvanceDone (record : Nat)
  /-- LOAD_MODE_WRITE (R339): A write of PWR_LD_CTL sets the channel mode and requests a start or turn-off. -/
  | loadModeWrite (req ch : Nat) (val : Word)
  /-- LOAD_START (R341): A waiting start finds its group free and asks the budget, turning on or being refused. -/
  | loadStart 
  /-- INRUSH_WINDOW_END (R343): The inrush window ends; the claim falls and the over-current trip arms. -/
  | inrushWindowEnd (ch : Nat)
  /-- PULSE_PERIOD_START (R339): A PULSE period starts on the power-die timeline. -/
  | pulsePeriodStart (ch : Nat)
  /-- PULSE_TURN_ON (R342): A pulse turn-on asks its claim of the budget. -/
  | pulseTurnOn (ch : Nat)
  /-- PULSE_TURN_OFF (R339): The pulse end instant turns the output off and releases the claim. -/
  | pulseTurnOff (ch : Nat)
  /-- EDGE_MISS (R340): No edge arrives before S_k + PER and a TLOCK period starts on its own. -/
  | ldEdgeMiss (ch : Nat)
  /-- SHORT (R344): A short is detected and the channel turned off within 5 us. -/
  | ldShort (ch : Nat) (hot : Bool)
  /-- OVERCUR (R345): Current above IOC for OC_FILT turns the channel off. -/
  | ldOvercur (ch : Nat)
  /-- CLAMP_EVENT (R346): A clamp event adds energy to the bucket and may lock the channel. -/
  | clampEvent (ch nj : Nat)
  /-- THERMAL_LATCH_SET (R347): A junction reaches 175 C and the channel turns off into THERM. -/
  | thermalLatchSet (ch : Nat)
  /-- GROUP_THERMAL_SHUTDOWN (R347): A group region reaches 165 C and every on channel of it enters THERM. -/
  | groupThermalShutdown (grp treg : Nat)
  /-- TWARN (R347): A group region passes TWARN. -/
  | ldTwarn (grp treg : Nat)
  /-- THERMAL_LATCH_RELEASE (R348): The latch releases and a thermal restart falls due. -/
  | thermalLatchRelease (ch : Nat)
  /-- RETRY (R348): RETRY_MS after a trip the channel retries as a start. -/
  | ldRetry (ch : Nat)
  /-- RTY_CLR (R348): RTY_CLR_MS of trip-free on-time returns RTY_CNT to 0. -/
  | ldRtyClr (ch : Nat)
  /-- OPEN (R351): 10 ms of on-time below IOL sets OPEN. -/
  | ldOpen (ch : Nat)
  /-- OPEN_CLEAR (R351): 10 ms of on-time above IOL clears OPEN. -/
  | ldOpenClear (ch : Nat)
  /-- UV (R352): VS below VS_UV for 10 us turns every channel off into UV. -/
  | ldUv 
  /-- UV_RECOVERY (R352): VS above threshold for UV_REC_MS queues channels in UV for staggered restart. -/
  | ldUvRecovery 
  /-- STAGGER_START (R352): Every STAGGER_MS one queued start is made. -/
  | staggerStart 
  /-- SAFE_OFF_ASSERT (R353): SAFE_OFF high for 2 us turns masked channels off with MODE OFF. -/
  | safeOffAssert 
  /-- SAFE_OFF_RELEASE (R353): SAFE_OFF falls and masked channels may be commanded again. -/
  | safeOffRelease 
  /-- CLR_LOCK (R346): PWR_LD_CMD CLR_LOCK returns a locked channel to OFF if the bucket allows. -/
  | ldClrLock (req : Nat) (val : Word)
  /-- ADC_NOW (R355): PWR_LD_CMD ADC_NOW starts one conversion. -/
  | ldAdcNow (req : Nat) (val : Word)
  /-- ALL_OFF (R349): PWR_LD_CMD ALL_OFF writes MODE OFF on every channel. -/
  | ldAllOff (req : Nat) (val : Word)
  /-- ADC_PERIODIC_CONVERSION (R355): With TRIG_EN 0 each channel is converted every 100 us. -/
  | adcPeriodicConversion 
  /-- ADC_RESULT (R355): A conversion ends and its result, SEQ and TJ become visible. -/
  | adcResult (ch code tj : Nat)
  /-- TRX_MODE_WRITE (R360): A write of PWR_TRX_CFG.MODE changes the transceiver mode or takes it over from WOKEN. -/
  | trxModeWrite (req c : Nat) (val : Word)
  /-- WUP (R361): A wake-up pattern wakes a sleeping transceiver. -/
  | trxWup (c : Nat)
  /-- WUF (R362): A matching wake-up frame wakes a SLEEP_SW transceiver. -/
  | trxWuf (c : Nat) (ide rtr : Bool) (id dlc : Nat) (data : List Byte)
  /-- FDERR (R362): The decoder error count reaches 32 and wakes the transceiver. -/
  | trxFderr (c n : Nat)
  /-- BUS_IDLE_BIAS_RETURN (R362): After 1 s of bus idle the bias returns to ground and the count to zero. -/
  | busIdleBiasReturn (c : Nat)
  /-- PIN (R363): A filtered WAKE input change latches a wake. -/
  | wakePin (pin : Nat) (high : Bool)
  /-- TIMER (R364): The sleep timer latches a wake after SEC seconds in SLEEP. -/
  | wakeTimer 
  /-- TRX_FS (R360): FS_MS in WOKEN returns the transceiver to its sleep mode. -/
  | trxFs (c : Nat)
  /-- PREPARE (R366): PWR_SLP_CMD PREPARE arms latching, requests announcements, runs MDIO sleep and starts silence timers. -/
  | slpPrepare (req : Nat)
  /-- COMMIT (R369): PWR_SLP_CMD COMMIT saves reservations, sleeps buses and turns channels off. -/
  | slpCommit (req : Nat)
  /-- SLEEP_ABORT (R368): PWR_SLP_CMD ABORT returns to AWAKE and runs the wake-phase MDIO entries. -/
  | sleepAbort (req : Nat)
  /-- BUS_SILENCE (R367): A bus is silent for SILENCE_MS; with every step done the master enters READY. -/
  | busSilence (c : Nat)
  /-- PREP_TMO (R366): PREPARE lasts PREP_TMO_MS and aborts with TIMEOUT. -/
  | slpPrepTmo 
  /-- INH_FALL (R369): INH falls at the later of INH_DLY_MS and the end of commit steps, entering SLEEP. -/
  | slpInhFall 
  /-- MOD_FS (R366): MOD_FS in WAKING without the core die reaching RUN returns to SLEEP. -/
  | slpModFs 
  /-- INBOUND_WRITE (R378): An inbound BAR0 memory write is acknowledged and made as 32-bit accesses. -/
  | inboundWrite (rid off beFirst beLast : Nat) (ep : Bool) (data : List Word)
  /-- INBOUND_READ (R380): An inbound BAR0 read is issued and completed or answered with Completer Abort. -/
  | inboundRead (rid tag off n : Nat) (beFirst : Nat := 15) (beLast : Nat := 15)
  /-- RD_TMO (R381): A BAR0 read not complete within RD_TMO_US gets Completer Abort. -/
  | brgRdTmo (rid tag : Nat)
  /-- BAR2_ACCESS (R379): A BAR2 request goes to DRAM through the window. -/
  | bar2Access (rid tag : Nat) (wr : Bool) (off beFirst beLast n : Nat) (ep : Bool) (data : List Word)
  /-- ATOMIC_OP (R389): An AtomicOp is emulated under a semaphore and returns the original value. -/
  | atomicOp (rid tag bar off op size a b : Nat)
  /-- UNSUPPORTED_REQUEST (R382): A request the bridge does not serve gets Unsupported Request. -/
  | unsupportedRequest (rid tag kind : Nat)
  /-- CONFIGURATION_REQUEST (R377): A configuration request is served or answered with retry status before ready. -/
  | configurationRequest (rid tag : Nat) (wr : Bool) (reg be : Nat) (val : Word) (ready : Bool)
  /-- PCIE_LINK_TRAINED (R377): The PCIe link trains and the bridge becomes ATTACHED. -/
  | pcieLinkTrained (width speed : Nat)
  /-- OUTBOUND_WRITE (R390): A device-initiated write is split and sent to host memory. -/
  | outboundWrite (addr : Nat) (data : List (BitVec 8))
  /-- OUTBOUND_READ (R390): A device-initiated read is issued with completion space reserved. -/
  | outboundRead (addr n : Nat)
  /-- OUTBOUND_COMPLETION (R390): A completion for an outbound read arrives, good or in error. -/
  | outboundCompletion (tag status : Nat) (data : List (BitVec 8))
  /-- CPL_TMO (R390): No completion within CTO_MS ends the outbound request in error. -/
  | brgCplTmo (tag : Nat)
  /-- DETACH (R394): Data link down or hot reset detaches the host and ends outbound work. -/
  | brgDetach 
  /-- ATTACH (R393): The data link comes up and the function returns with reset configuration space. -/
  | brgAttach (width speed : Nat)
  /-- START (R402): DMA_CH_CMD START takes an enabled channel to ACTIVE or ARMED. -/
  | dmaStart (req ch : Nat)
  /-- STOP (R402): DMA_CH_CMD STOP takes the channel to IDLE. -/
  | dmaStop (req ch : Nat)
  /-- CLEAR (R402): DMA_CH_CMD CLEAR takes a halted channel to IDLE. -/
  | dmaClear (req ch : Nat)
  /-- DMA_CHANNEL_DISABLE (R402): Clearing DMA_CH_CFG.EN stops an ARMED or ACTIVE channel. -/
  | dmaChannelDisable (req ch : Nat) (val : Word)
  /-- DESCRIPTOR_FETCH (R401): A fetched descriptor is checked and the channel starts or halts with DESC. -/
  | descriptorFetch (ch : Nat) (host : List (Nat × BitVec 8))
  /-- BURST_GRANT (R404): A freed burst slot goes to the highest-priority ready channel of its block. -/
  | burstGrant (block : Nat)
  /-- DESCRIPTOR_COMPLETE (R405): A descriptor completes; WB, DONE, chain and next fetch follow. -/
  | descriptorComplete (ch : Nat)
  /-- DMA_HALT (R406): An error response halts the channel and latches the first failure. -/
  | dmaHalt (ch code : Nat) (write desc : Bool) (addr : Nat)
  /-- IN_QUEUE_TAKE (R413): The device takes the next IN-queue entry, presenting it or halting the queue. -/
  | inQueueTake (queue : Nat)
  /-- QUE_RD_WRITE (R414): A write of QUE_RD consumes OUT-queue words or is ignored and logged PTR. -/
  | queRdWrite (req queue : Nat) (val : Word)
  /-- QUE_WR_WRITE (R414): A write of QUE_WR commits IN-queue words or is ignored and logged PTR. -/
  | queWrWrite (req queue : Nat) (val : Word)
  /-- DROP_REM (R414): QUE_CMD DROP_REM skips the entry at RD. -/
  | queDropRem (req queue : Nat)
  /-- QUEUE_FLUSH (R414): QUE_CMD FLUSH empties the queue. -/
  | queFlush (req queue : Nat)
  /-- RESUME (R414): QUE_CMD RESUME clears HALT. -/
  | queResume (req queue : Nat)
  /-- FLUSH_TIMER (R415): FLUSH_US after the oldest unrequested entry, a bound queue requests a padded burst. -/
  | queFlushTimer (queue : Nat)
  /-- CQP_TRANSACTION_START (R418): CQ_CS_N falls, sampling QUAD and shifting out the status byte. -/
  | cqpTransactionStart 
  /-- WR32 (R420): Companion WR32 writes consecutive registers. -/
  | cqpWr32 (addr : Nat) (data : List Word)
  /-- RD32 (R421): Companion RD32 reads consecutive registers after a marker. -/
  | cqpRd32 (addr n : Nat)
  /-- QTAKE (R420): Companion QTAKE shifts out and consumes whole queue entries. -/
  | cqpQtake (queue n : Nat)
  /-- QPEEK (R420): Companion QPEEK shifts out queue words without consuming. -/
  | cqpQpeek (queue n : Nat)
  /-- QPUT (R420): Companion QPUT commits whole entries into an IN queue. -/
  | cqpQput (queue : Nat) (data : List Word)
  /-- QSKIP (R420): Companion QSKIP applies DROP_REM to a queue. -/
  | cqpQskip (queue : Nat)
  /-- STATUS (R420): Companion STATUS returns CQP_STS. -/
  | cqpStatus 
  /-- CQP_TRANSACTION_END (R420): CQ_CS_N rises, committing whole entries and recording the outcome in LAST. -/
  | cqpTransactionEnd (shifted : Nat) (other : Bool)
  /-- CQP_INACTIVITY (R422): No CQ_CS_N fall for ALIVE_MS makes the companion port inactive. -/
  | cqpInactivity 
  /-- MEM_INIT_DONE (R440): The DRAM controller finishes initialising check bits and sets INIT. -/
  | memInitDone 
  /-- DRAM_SCRUB (R430): The scrubber reads DRAM lines, correcting or poisoning them. -/
  | dramScrub (line err : Nat)
  /-- REC_COPY_ARRIVAL (R434): A REC copy reaches the recorder and is buffered or dropped. -/
  | recCopyArrival 
  /-- RECORD_WRITE (R433): A buffered copy is written as a record into its ring. -/
  | recordWrite (ue : List Nat)
  /-- RING_ENABLE (R437): MEM_RING_CFG.EN set empties a valid ring into RUN or sets CFG_ERR. -/
  | ringEnable (req r : Nat) (val : Word)
  /-- RING_DISABLE (R437): EN cleared takes a ring OFF and aborts its export. -/
  | ringDisable (req r : Nat) (val : Word)
  /-- TRIGGER (R435): MEM_REC_CMD TRIGGER triggers a RUN ring into POST. -/
  | recTrigger (req r : Nat)
  /-- POST_EXPIRY (R436): POST_MS passes and the ring freezes. -/
  | recPostExpiry (r : Nat)
  /-- UNFREEZE (R437): MEM_REC_CMD UNFREEZE empties a FROZEN or ERROR ring into RUN. -/
  | recUnfreeze (req r : Nat)
  /-- EXPORT (R438): MEM_REC_CMD EXPORT starts exporting a frozen ring in chunks. -/
  | recExport (req r : Nat)
  /-- ABORT_EXP (R439): MEM_REC_CMD ABORT_EXP ends the export FAILED ABORTED. -/
  | recAbortExp (req r : Nat)
  /-- CHUNK (R439): A computed chunk is committed in index order when the area has room. -/
  | recChunk (index : Nat) (ue : List Nat)
  /-- FAULT_OCCURRENCE (R445): A fault source occurs and is captured by class, FATAL taking the fatal path. -/
  | faultOccurrence (src : Nat) (info : Word)
  /-- DUMP_START (R451): The dump engine starts writing a dump into a dump slot. -/
  | fltDumpStart 
  /-- DUMP_DONE (R451): A dump ends; with ACT RESTART the core die restarts. -/
  | fltDumpDone 
  /-- DUMP (R453): FLT_DUMP_CMD DUMP runs a SOFT dump. -/
  | fltDump (req : Nat)
  /-- INVAL_DUMP (R453): FLT_DUMP_CMD INVAL clears VALID of a dump slot. -/
  | fltInvalDump (req slot : Nat)
  /-- RELEASE (R449): FLT_DUMP_CMD RELEASE ends a fatal hold. -/
  | fltRelease (req : Nat)
  /-- FATAL_CLEAR (R450): Writing 1 to FLT_STS.FATAL clears it and may release FAULT_N. -/
  | fltFatalClear (req : Nat)
  /-- HOLD_UP_MEASURED (R454): The power die measures VHOLD capacitance and usable energy. -/
  | holdUpMeasured (uf vs vhold : Nat)
  /-- SAVING (R456): VS below VS_SAVE for 2 us starts the save: forwarding stops, reservations advanced, HIGH and record written. -/
  | saveSaving (vs vhold : Nat)
  /-- SAVED (R455): The save steps complete and the module becomes quiescent. -/
  | saveSaved (us : Nat)
  /-- SAVE_RECOVERY (R455): VS recovers for 10 ms in SAVED and the core die restarts as for RESET_N. -/
  | saveRecovery 
  /-- SAVE_POWER_LOST (R455): VPMIC_OUT falls below 3.5 V during SAVING and the save is incomplete. -/
  | savePowerLost 
  /-- ARRAY_ROW_REPAIR (R458): Shim replaces an ECC array row that reached ROW_LIM or an uncorrectable error. -/
  | arrayRowRepair (region unit row src : Nat) (spare : Option Nat) (frames lostQueues lostObjs lostSlots : List Nat) (bufRows : Nat) (queues objs slots sram : List Nat)
  /-- MGT_RST (R473): MGT_RST resets the management cluster with CAUSE 1. -/
  | mgtRst (req : Nat) (val : Word)
  /-- WATCHDOG_EXPIRY (R473): The watchdog expires and the cluster resets. -/
  | watchdogExpiry 
  /-- WATCHDOG_KICK (R473): A write of MGT_WDT_KICK by an MGT requester restarts the count. -/
  | watchdogKick (req : Nat) (val : Word)
  /-- LOCKSTEP_MISMATCH (R466): A paired core mismatch raises source 304 and resets the cluster. -/
  | lockstepMismatch (pair : Nat)
  /-- LOADER_BEGIN (R479): Once CFG_STS is RUN or DEGRADED the resident loader orders and checks firmware candidates. -/
  | loaderBegin 
  /-- FW_CANDIDATE_CHECKED (R479): A firmware candidate passes or fails; on pass settings are read and cores released. -/
  | fwCandidateChecked (err : Bool)
  /-- CHECK (R484): MGT_FW_CMD CHECK checks a flash firmware slot. -/
  | fwCheck (req slot : Nat)
  /-- CHECK_DONE (R484): A CHECK or RECOVER check ends with its result. -/
  | fwCheckDone (err : Bool)
  /-- ACTIVATE (R485): MGT_FW_CMD ACTIVATE sets TRIAL and resets the cluster. -/
  | fwActivate (req : Nat)
  /-- CONFIRM (R485): MGT_FW_CMD CONFIRM makes the trial slot the confirmed slot. -/
  | fwConfirm (req : Nat)
  /-- RECOVER (R481): MGT_FW_CMD RECOVER checks and runs an image from DRAM in NOFW. -/
  | fwRecover (req : Nat)
  /-- FLASH_READ (R483): MGT_FL_CMD READ copies flash bytes to a device address. -/
  | flashRead (req : Nat)
  /-- PROGRAM (R483): MGT_FL_CMD PROGRAM writes flash bytes from a device address. -/
  | flProgram (req : Nat)
  /-- ERASE (R483): MGT_FL_CMD ERASE erases a 64 KiB flash sector. -/
  | flErase (req : Nat)
  /-- FL_DONE (R483): A flash command ends. -/
  | flDone (err : Bool) (host : List (Nat × BitVec 8))
  /-- FW_FLOOR_RAISE (R478): A guarded write to MGT_FLOOR.EPOCH raises the firmware epoch fuses. -/
  | fwFloorRaise (req epoch : Nat)
  /-- MTIMECMP_REACHED (R472): MGT_MTIME reaches a core's MTIMECMP and sets its MTIP. -/
  | mtimecmpReached (core : Nat)
  /-- PEX_END (R211): After a protocol exception, the next 11 recessive bits return the controller to taking part in the bus and clear CAN_STS.PEX. -/
  | pexEnd (c : Nat)
  /-- FEC_BLOCK_RECEIVED (R107): A received FEC block is corrected or found uncorrectable, incrementing MAC_FEC_CORR or MAC_FEC_UNCORR and setting FEC_UNCORR. -/
  | fecBlockReceived (port : Nat) (corrected : Bool)
  /-- FW_FLOOR_DONE (R478): Blowing of the firmware epoch fuses ends and MGT_FLOOR.FUSING clears. -/
  | fwFloorDone 
  /-- KEEP_ALIVE_STORE_LOSS (R494): VKA and VS both fall below 2.2 V, so the island leaves its supply window and the keep-alive store is lost, with KA_VOLT tamper if enabled. -/
  | keepAliveStoreLoss 
  /-- MGT_MEMORY_ACCESS (R469): A management core load, store, AMO, LR or SC to SRAM or DRAM acts, takes the R389 semaphore, or raises an access fault when refused, poisoned or out of map. -/
  | mgtMemoryAccess (core kind addr size data ecc : Nat)
  deriving DecidableEq, Repr

end Sys2Proof
end

