-- ==== Sys2Proof/Decode.lean ====
section
/-! DEFINITION. The decoder asked of every model. The rows of this block's table are commands and events and give no
bits, so no word spells one. -/

namespace Sys2Proof

/-- The command a word spells by the table's bits: none, since no row of the table gives bits. -/
def decodeTableWord (_nbits _w : Nat) : Option Instr := none

end Sys2Proof
end

