-- ==== Sys2Proof/Machine/Tab.lean ====
section
/-! DEFINITION. Sparse tables: sorted lists of (index, value) pairs in one canonical form, the form in which the
model holds every array of the block (registers, contexts, objects, DRAM bytes). An index that is not listed holds
its default value, and no listed value equals its default. -/

namespace Sys2Proof.Machine

/-- A sparse table from natural-number indices. -/
abbrev Tab (α : Type) := List (Nat × α)

/-- The listed value at index `k`, if any. -/
def Tab.find? {α : Type} : Tab α → Nat → Option α
  | [], _ => none
  | (a, v) :: t, k => if a = k then some v else Tab.find? t k

/-- Lists `v` at `k`, in index order, in place of what was listed there. -/
def Tab.put {α : Type} : Tab α → Nat → α → Tab α
  | [], k, v => [(k, v)]
  | (a, x) :: t, k, v =>
    if k < a then (k, v) :: (a, x) :: t
    else if k = a then (k, v) :: t
    else (a, x) :: Tab.put t k v

/-- Lists nothing at `k`. -/
def Tab.del {α : Type} : Tab α → Nat → Tab α
  | [], _ => []
  | (a, x) :: t, k => if a = k then Tab.del t k else (a, x) :: Tab.del t k

/-- The value at `k`: what is listed there, else the default `d k`. -/
def Tab.get {α : Type} (d : Nat → α) (m : Tab α) (k : Nat) : α :=
  match m.find? k with
  | some v => v
  | none => d k

/-- Makes the value at `k` be `v`; a default value is not listed, so equal tables are equal data. -/
def Tab.set {α : Type} [DecidableEq α] (d : Nat → α) (m : Tab α) (k : Nat) (v : α) : Tab α :=
  if v = d k then m.del k else m.put k v

/-- Every listed index is above `b`, in rising order, and no listed value is its default. -/
def Tab.wfFrom {α : Type} [DecidableEq α] (d : Nat → α) : Option Nat → Tab α → Bool
  | _, [] => true
  | b, (a, v) :: t =>
    (match b with | none => true | some x => decide (x < a)) && decide (v ≠ d a) && Tab.wfFrom d (some a) t

/-- The canonical form of a sparse table: indices strictly rising, no value equal to the default. -/
def Tab.wf {α : Type} [DecidableEq α] (d : Nat → α) (m : Tab α) : Bool := Tab.wfFrom d none m

/-- Drops every listed index that satisfies `p`: those indices hold their defaults again (a region's reset). -/
def Tab.clear {α : Type} (p : Nat → Bool) : Tab α → Tab α
  | [] => []
  | (a, v) :: t => if p a then Tab.clear p t else (a, v) :: Tab.clear p t

/-- Keeps only the listed indices that satisfy `p`. -/
def Tab.keep {α : Type} (p : Nat → Bool) (m : Tab α) : Tab α := m.clear (fun a => !p a)

end Sys2Proof.Machine
end

