-- ==== Sys2Proof/Machine/Bits.lean ====
section
/-! DEFINITION. Byte strings and words: byte order, sign, the CRC-32 of IEEE 802.3, big- and little-endian fields. -/

namespace Sys2Proof.Machine

/-- The number a little-endian byte string spells. -/
def leNat : List Byte → Nat
  | [] => 0
  | b :: t => b.toNat + 256 * leNat t

/-- `n` little-endian bytes of a number. -/
def leBytes : Nat → Nat → List Byte
  | 0, _ => []
  | n + 1, v => B8 v :: leBytes n (v / 256)

/-- The number a big-endian byte string spells. -/
def beNat (l : List Byte) : Nat := l.foldl (fun a b => 256 * a + b.toNat) 0

/-- `n` big-endian bytes of a number. -/
def beBytes (n v : Nat) : List Byte := (leBytes n v).reverse

/-- `n` bytes from offset `o`; bytes beyond the end read as zero. -/
def slice (l : List Byte) (o n : Nat) : List Byte :=
  let p := (l.drop o).take n
  p ++ List.replicate (n - p.length) 0

/-- The little-endian field of `n` bytes at offset `o`. -/
def leAt (l : List Byte) (o n : Nat) : Nat := leNat (slice l o n)

/-- The big-endian field of `n` bytes at offset `o`. -/
def beAt (l : List Byte) (o n : Nat) : Nat := beNat (slice l o n)

/-- The bytes with those from offset `o` replaced by `p`. -/
def splice (l : List Byte) (o : Nat) (p : List Byte) : List Byte := slice l 0 o ++ p ++ l.drop (o + p.length)

/-- Words of a byte string, lowest byte first, the last padded with zeros; `n` is the number of words. -/
def wordsOf : Nat → List Byte → List Word
  | 0, _ => []
  | n + 1, l => W (leAt l 0 4) :: wordsOf n (l.drop 4)

/-- All words of a byte string. -/
def toWords (l : List Byte) : List Word := wordsOf ((l.length + 3) / 4) l

/-- Bytes of words, lowest byte first. -/
def ofWords (ws : List Word) : List Byte := ws.flatMap (fun w => leBytes 4 w.toNat)

/-- One bit step of the reflected CRC-32. -/
def crcBit (c : Nat) : Nat := if c % 2 = 1 then (c / 2) ^^^ 0xEDB88320 else c / 2

/-- One byte step of the reflected CRC-32. -/
def crcByte (c : Nat) (b : Byte) : Nat :=
  let x := c ^^^ b.toNat
  crcBit (crcBit (crcBit (crcBit (crcBit (crcBit (crcBit (crcBit x)))))))

/-- CRC-32 of IEEE 802.3 over a byte string (R61, R86, R452). -/
def crc32 (l : List Byte) : Nat := (l.foldl crcByte 0xFFFFFFFF) ^^^ 0xFFFFFFFF

/-- The four FCS bytes of a frame, in transmission order. -/
def fcsOf (l : List Byte) : List Byte := leBytes 4 (crc32 l)

/-- The signed number of an `n`-bit two's complement field. -/
def signed (n v : Nat) : Int := if v % 2 ^ n < 2 ^ (n - 1) then (v % 2 ^ n : Nat) else (v % 2 ^ n : Nat) - (2 ^ n : Nat)

/-- The `n`-bit two's complement field of a signed number. -/
def unsigned (n : Nat) (v : Int) : Nat := (v % (2 ^ n : Nat)).toNat

/-- A value held within two limits. -/
def clampInt (lo hi v : Int) : Int := if v < lo then lo else if hi < v then hi else v

/-- A value held within two limits. -/
def clampNat (lo hi v : Nat) : Nat := if v < lo then lo else if hi < v then hi else v

/-- Bit `n` of a number. -/
def bit (v n : Nat) : Bool := v / 2 ^ n % 2 == 1

/-- The numbers below `n` whose bit is set in the mask, rising. -/
def bitsOf (n mask : Nat) : List Nat := (List.range n).filter (fun k => bit mask k)

/-- Sets or clears a bit of a mask. -/
def setBit (v n : Nat) (b : Bool) : Nat := if bit v n = b then v else if b then v + 2 ^ n else v - 2 ^ n

/-- The first element of greatest key. -/
def maxBy {α : Type} (key : α → Nat) : List α → Option α
  | [] => none
  | a :: t =>
    match maxBy key t with
    | none => some a
    | some b => if key a < key b then some b else some a

/-- The first element of least key. -/
def minBy {α : Type} (key : α → Nat) : List α → Option α
  | [] => none
  | a :: t =>
    match minBy key t with
    | none => some a
    | some b => if key b < key a then some b else some a

end Sys2Proof.Machine
end

