-- ==== Sys2Proof/Config.lean ====
section
/-! DEFINITION. What an implementation fixes and what the spec leaves open: constants without a body, so that no
proof can see a value of them, and a claim about them holds whatever they are. -/

namespace Sys2Proof.Config

/-- A free value: what the spec leaves undefined at the moment with this number (log 3). -/
opaque freeNat : Nat → Nat

/-- A free truth value at the moment with this number (log 3). -/
opaque freeBool : Nat → Bool

/-- The order code: true for HKR9256-MB16, false for HKR9256-MB08 (R2-R4; log 4). -/
opaque mb16 : Bool

/-- Class of a fault source that no rule lists (R444; log 5). -/
opaque unlistedClass : Nat → BitVec 2

/-- The fuse secret FS, 32 bytes (R305; log 7). -/
opaque fuseSecret : List Byte

/-- The device serial, 64 bits (R305; log 7). -/
opaque serial : Nat

/-- The permutation of the rows of the slot store, derived from FS in a way the spec does not give (R320; log 7). -/
opaque slotRows : Fin 4096 → Fin 4096

/-- RS as the keep-alive island stores it, encrypted under a storage key derived from FS in a way the spec does not give
(R305, R320; log 7). -/
opaque storedRoot : List (BitVec 8) → List (BitVec 8)

/-- Subsystem IDs, from fuses (R376). -/
opaque subsystemIds : BitVec 32

/-- Configuration-space offsets, in words, of the PCI Express and MSI-X capabilities (R376; log 44). -/
opaque pcieCap : Nat
opaque msixCap : Nat

end Sys2Proof.Config
end

