-- ==== Sys2Proof/Machine/RegTable.lean ====
section
/-! DEFINITION. The register map: one row per register array of the spec's register tables (all chapters), with
its BAR0 base, strides and counts (R5), the place of a word in its multiword value (R37), its reset value (R6) and,
per access code of R7, the mask of the bits that hold it. A bit in no mask is RO. -/

namespace Sys2Proof.Machine

/-- One register array of BAR0 (R5-R7, R33, R37). -/
structure Row where
  /-- name in the manual -/
  name : String
  /-- BAR0 offset of instance 0 -/
  base : Nat
  /-- stride and count of the first index -/
  s1 : Nat
  c1 : Nat
  /-- stride and count of the second index (count 1 where there is none) -/
  s2 : Nat
  c2 : Nat
  /-- index of this word in its multiword value, and the number of words of that value -/
  mwIdx : Nat
  mwLen : Nat
  reset : Nat
  rw : Nat
  rwg : Nat
  w1c : Nat
  w1x : Nat
  cmd : Nat
  res : Nat
  /-- whether it is a word of a counter of R51 -/
  ctr : Bool
  deriving DecidableEq, Repr

/-- Registers of region 0, GLB. -/
def rowsGlb0 : List Row := [
  ⟨"GLB_YIELD_LO", 0x400, 8, 8, 0, 1, 0, 2, 0, 0, 0, 0, 0, 0, 0, true⟩,
  ⟨"GLB_YIELD_HI", 0x404, 8, 8, 0, 1, 1, 2, 0, 0, 0, 0, 0, 0, 0, true⟩,
  ⟨"GLB_YIELD_EVT", 0x440, 0, 1, 0, 1, 0, 1, 0, 0, 0, 0xfe, 0, 0, 0xffffff01, false⟩,
  ⟨"GLB_YIELD_EN", 0x444, 0, 1, 0, 1, 0, 1, 0xfe, 0xfe, 0, 0, 0, 0, 0xffffff01, false⟩,
  ⟨"GLB_ID", 0, 0, 1, 0, 1, 0, 1, 0xd7e59256, 0, 0, 0, 0, 0, 0, false⟩,
  ⟨"GLB_REV", 4, 0, 1, 0, 1, 0, 1, 0x1010100, 0, 0, 0, 0, 0, 0xff, false⟩,
  ⟨"GLB_CAP", 8, 0, 1, 0, 1, 0, 1, 0, 0, 0, 0, 0, 0, 0xffffff00, false⟩,
  ⟨"GLB_WHO", 0xc, 0, 1, 0, 1, 0, 1, 0, 0, 0, 0, 0, 0, 0xfffffff8, false⟩,
  ⟨"GLB_UNLOCK", 0x10, 0, 1, 0, 1, 0, 1, 0, 0xffffffff, 0, 0, 0, 0, 0, false⟩,
  ⟨"GLB_UNLOCK_STS", 0x14, 0, 1, 0, 1, 0, 1, 0, 0, 0, 0, 0, 0, 0xffffff80, false⟩,
  ⟨"GLB_LOCK", 0x20, 0, 1, 0, 1, 0, 1, 0, 0, 0, 0, 7, 0, 0xfffffff8, false⟩,
  ⟨"GLB_CTR_CLR", 0x30, 0, 1, 0, 1, 0, 1, 0, 0, 0, 0, 0, 0xc000001f, 0x3fffffe0, false⟩,
  ⟨"GLB_SRST", 0x34, 0, 1, 0, 1, 0, 1, 0, 0, 0, 0, 0, 0xc000001f, 0x3fffffe0, false⟩,
  ⟨"GLB_EVT_SUM", 0x100, 0, 1, 0, 1, 0, 1, 0, 0, 0, 0, 0, 0, 0xfff80000, false⟩,
  ⟨"GLB_EVT", 0x104, 0, 1, 0, 1, 0, 1, 0, 0, 0, 1, 0, 0, 0xfffffffe, false⟩,
  ⟨"GLB_EVT_RT", 0x110, 0, 1, 0, 1, 0, 1, 0, 0x7ffff, 0, 0, 0, 0, 0xfff80000, false⟩,
  ⟨"GLB_EVT_RT", 0x114, 0, 1, 0, 1, 0, 1, 0x7ffff, 0x7ffff, 0, 0, 0, 0, 0xfff80000, false⟩,
  ⟨"GLB_EVT_RT", 0x118, 0, 1, 0, 1, 0, 1, 0, 0x7ffff, 0, 0, 0, 0, 0xfff80000, false⟩,
  ⟨"GLB_EVT_RT", 0x11c, 0, 1, 0, 1, 0, 1, 2, 0x7ffff, 0, 0, 0, 0, 0xfff80000, false⟩,
  ⟨"GLB_ACCLOG_ADDR", 0x200, 8, 16, 0, 1, 0, 1, 0, 0, 0, 0, 0, 0, 0xfc000000, false⟩,
  ⟨"GLB_ACCLOG_INFO", 0x204, 8, 16, 0, 1, 0, 1, 0, 0, 0, 0, 0, 0, 0xfffff000, false⟩,
  ⟨"GLB_ACCLOG_PTR", 0x280, 0, 1, 0, 1, 0, 1, 0, 0, 0, 0, 0, 0, 0xfffffff0, false⟩,
  ⟨"GLB_ACCLOG_CNT_LO", 0x288, 0, 1, 0, 1, 0, 2, 0, 0, 0, 0, 0, 0, 0, true⟩,
  ⟨"GLB_ACCLOG_CNT_HI", 0x28c, 0, 1, 0, 1, 1, 2, 0, 0, 0, 0, 0, 0, 0, true⟩,
  ⟨"GLB_EVT_EN", 0x108, 0, 1, 0, 1, 0, 1, 1, 1, 0, 0, 0, 0, 0xfffffffe, false⟩]

/-- All registers of region 0, GLB (R33). -/
def rowsGlb : List Row := rowsGlb0

/-- Registers of region 1, FLT. -/
def rowsFlt0 : List Row := [
  ⟨"FLT_STS", 0x100000, 0, 1, 0, 1, 0, 1, 0, 0, 0, 0x80000000, 0, 0, 0x7e00, false⟩,
  ⟨"FLT_FATAL_CFG", 0x10000c, 0, 1, 0, 1, 0, 1, 2, 4, 3, 0, 0, 0, 0xfffffff8, false⟩,
  ⟨"FLT_DEGR", 0x100018, 0, 1, 0, 1, 0, 1, 0, 0, 0, 0, 0, 0, 0xffffffe0, false⟩,
  ⟨"FLT_DUMP_STS", 0x100020, 4, 2, 0, 1, 0, 1, 0, 0, 0, 0, 0, 0, 0x3fff0000, false⟩,
  ⟨"FLT_DUMP_CMD", 0x100028, 0, 1, 0, 1, 0, 1, 0, 0, 0, 0, 0, 0xc0000007, 0x3ffffff8, false⟩,
  ⟨"FLT_TENON", 0x100030, 0, 1, 0, 1, 0, 1, 0, 0, 0, 0, 0, 0, 0x7fff0000, false⟩,
  ⟨"FLT_SAVE_REC", 0x100400, 4, 32, 0, 1, 0, 1, 0, 0, 0, 0, 0, 0, 0, false⟩,
  ⟨"FLT_SRC_CFG", 0x101000, 0x20, 320, 0, 1, 0, 1, 0, 0x20000000, 0, 0, 0, 0, 0x1fffffff, false⟩,
  ⟨"FLT_SRC_STS", 0x101004, 0x20, 320, 0, 1, 0, 1, 0, 0, 0, 0x80000000, 0, 0, 0x7fff0000, false⟩,
  ⟨"FLT_EVT", 0x100010, 0, 1, 0, 1, 0, 1, 0, 0, 0, 0x1f, 0, 0, 0xffffffe0, false⟩,
  ⟨"FLT_FATAL_SRC", 0x100004, 0, 1, 0, 1, 0, 1, 0, 0, 0, 0, 0, 0, 0, false⟩,
  ⟨"FLT_FATAL_INFO", 0x100008, 0, 1, 0, 1, 0, 1, 0, 0, 0, 0, 0, 0, 0, false⟩,
  ⟨"FLT_FIRST_INFO", 0x101008, 0x20, 320, 0, 1, 0, 1, 0, 0, 0, 0, 0, 0, 0, false⟩,
  ⟨"FLT_FIRST_TS_LO", 0x10100c, 0x20, 320, 0, 1, 0, 2, 0, 0, 0, 0, 0, 0, 0, false⟩,
  ⟨"FLT_FIRST_TS_HI", 0x101010, 0x20, 320, 0, 1, 1, 2, 0, 0, 0, 0, 0, 0, 0, false⟩,
  ⟨"FLT_LAST_INFO", 0x101014, 0x20, 320, 0, 1, 0, 1, 0, 0, 0, 0, 0, 0, 0, false⟩,
  ⟨"FLT_LAST_TS_LO", 0x101018, 0x20, 320, 0, 1, 0, 2, 0, 0, 0, 0, 0, 0, 0, false⟩,
  ⟨"FLT_LAST_TS_HI", 0x10101c, 0x20, 320, 0, 1, 1, 2, 0, 0, 0, 0, 0, 0, 0, false⟩,
  ⟨"FLT_EVT_EN", 0x100014, 0, 1, 0, 1, 0, 1, 0xe, 0x1f, 0, 0, 0, 0, 0xffffffe0, false⟩,
  ⟨"FLT_CLASS_CNT_LO", 0x100800, 8, 4, 0, 1, 0, 2, 0, 0, 0, 0, 0, 0, 0, true⟩,
  ⟨"FLT_CLASS_CNT_HI", 0x100804, 8, 4, 0, 1, 1, 2, 0, 0, 0, 0, 0, 0, 0, true⟩,
  ⟨"FLT_FATAL_LO", 0x100820, 0, 1, 0, 1, 0, 2, 0, 0, 0, 0, 0, 0, 0, true⟩,
  ⟨"FLT_FATAL_HI", 0x100824, 0, 1, 0, 1, 1, 2, 0, 0, 0, 0, 0, 0, 0, true⟩,
  ⟨"FLT_DUMP_LO", 0x100828, 0, 1, 0, 1, 0, 2, 0, 0, 0, 0, 0, 0, 0, true⟩,
  ⟨"FLT_DUMP_HI", 0x10082c, 0, 1, 0, 1, 1, 2, 0, 0, 0, 0, 0, 0, 0, true⟩,
  ⟨"FLT_SAVE_LO", 0x100830, 0, 1, 0, 1, 0, 2, 0, 0, 0, 0, 0, 0, 0, true⟩,
  ⟨"FLT_SAVE_HI", 0x100834, 0, 1, 0, 1, 1, 2, 0, 0, 0, 0, 0, 0, 0, true⟩,
  ⟨"FLT_SAVE_FAIL_LO", 0x100838, 0, 1, 0, 1, 0, 2, 0, 0, 0, 0, 0, 0, 0, true⟩,
  ⟨"FLT_SAVE_FAIL_HI", 0x10083c, 0, 1, 0, 1, 1, 2, 0, 0, 0, 0, 0, 0, 0, true⟩,
  ⟨"FLT_TENON_LOST_LO", 0x100840, 0, 1, 0, 1, 0, 2, 0, 0, 0, 0, 0, 0, 0, true⟩,
  ⟨"FLT_TENON_LOST_HI", 0x100844, 0, 1, 0, 1, 1, 2, 0, 0, 0, 0, 0, 0, 0, true⟩]

/-- All registers of region 1, FLT (R33). -/
def rowsFlt : List Row := rowsFlt0

/-- Registers of region 2, CFG. -/
def rowsCfg0 : List Row := [
  ⟨"CFG_STS", 0x200000, 0, 1, 0, 1, 0, 1, 0x31, 0, 0, 0, 0, 0, 0xffffffc0, false⟩,
  ⟨"CFG_ACT_SEQ", 0x200004, 0, 1, 0, 1, 0, 1, 0, 0, 0, 0, 0, 0, 0, false⟩,
  ⟨"CFG_FLOOR", 0x200008, 0, 1, 0, 1, 0, 1, 0, 0, 0xff, 0, 0, 0, 0xfffffe00, false⟩,
  ⟨"CFG_CMD", 0x20000c, 0, 1, 0, 1, 0, 1, 0, 0, 0, 0, 0, 0xc000000f, 0x3ffffff0, false⟩,
  ⟨"CFG_PREFER", 0x200010, 0, 1, 0, 1, 0, 1, 0, 7, 0, 0, 0, 0, 0xfffffff8, false⟩,
  ⟨"CFG_REJ_INFO", 0x200020, 8, 2, 0, 1, 0, 1, 0, 0, 0, 0, 0, 0, 0xf00, false⟩,
  ⟨"CFG_REJ_OFS", 0x200024, 8, 2, 0, 1, 0, 1, 0, 0, 0, 0, 0, 0, 0xffc00000, false⟩,
  ⟨"CFG_T_FWD", 0x200030, 0, 1, 0, 1, 0, 1, 0, 0, 0, 0, 0, 0, 0, false⟩,
  ⟨"CFG_BUILD", 0x200040, 4, 8, 0, 1, 0, 1, 0, 0, 0, 0, 0, 0, 0, false⟩,
  ⟨"CFG_EVT", 0x200080, 0, 1, 0, 1, 0, 1, 0, 0, 0, 0x1f, 0, 0, 0xffffffe0, false⟩,
  ⟨"CFG_SKIP_LO", 0x200100, 0, 1, 0, 1, 0, 2, 0, 0, 0, 0, 0, 0, 0, true⟩,
  ⟨"CFG_SKIP_HI", 0x200104, 0, 1, 0, 1, 1, 2, 0, 0, 0, 0, 0, 0, 0, true⟩,
  ⟨"CFG_FALLBACK_LO", 0x200108, 0, 1, 0, 1, 0, 2, 0, 0, 0, 0, 0, 0, 0, true⟩,
  ⟨"CFG_FALLBACK_HI", 0x20010c, 0, 1, 0, 1, 1, 2, 0, 0, 0, 0, 0, 0, 0, true⟩,
  ⟨"CFG_DEGR_LO", 0x200110, 0, 1, 0, 1, 0, 2, 0, 0, 0, 0, 0, 0, 0, true⟩,
  ⟨"CFG_DEGR_HI", 0x200114, 0, 1, 0, 1, 1, 2, 0, 0, 0, 0, 0, 0, 0, true⟩,
  ⟨"CFG_EVT_EN", 0x200084, 0, 1, 0, 1, 0, 1, 0x1f, 0x1f, 0, 0, 0, 0, 0xffffffe0, false⟩]

/-- All registers of region 2, CFG (R33). -/
def rowsCfg : List Row := rowsCfg0

/-- Registers of region 3, MAC. -/
def rowsMac0 : List Row := [
  ⟨"MAC_CFG", 0x400000, 0x4000, 24, 0, 1, 0, 1, 0, 0x8fefc000, 0, 0, 0, 0, 0x70103fff, false⟩,
  ⟨"MAC_MAXF", 0x400004, 0x4000, 24, 0, 1, 0, 1, 0x5f2, 0x3fff, 0, 0, 0, 0, 0xffffc000, false⟩,
  ⟨"MAC_STS", 0x400008, 0x4000, 24, 0, 1, 0, 1, 0, 0, 0, 0, 0, 0, 0x7f00ff, false⟩,
  ⟨"MAC_PHY", 0x40000c, 0x4000, 24, 0, 1, 0, 1, 0x40320001, 0xffffffff, 0, 0, 0, 0, 0, false⟩,
  ⟨"MAC_MM_CFG", 0x400010, 0x4000, 24, 0, 1, 0, 1, 0xa, 0xc30000ff, 0, 0, 0, 0, 0x3cffff00, false⟩,
  ⟨"MAC_MM_STS", 0x400014, 0x4000, 24, 0, 1, 0, 1, 0, 0, 0, 0, 0, 0, 0xfffffff0, false⟩,
  ⟨"MAC_FC_CFG", 0x400020, 0x4000, 24, 0, 1, 0, 1, 0xc03f, 0xf000ffff, 0, 0, 0, 0, 0xfff0000, false⟩,
  ⟨"MAC_FC_TIME", 0x400024, 0x4000, 24, 0, 1, 0, 1, 0x7fffffff, 0xffffffff, 0, 0, 0, 0, 0, false⟩,
  ⟨"MAC_TS_CFG", 0x400030, 0x4000, 24, 0, 1, 0, 1, 0, 3, 0, 0, 0, 0, 0xfffffffc, false⟩,
  ⟨"MAC_TS_LAT", 0x400034, 0x4000, 24, 0, 1, 0, 1, 0, 0xffffffff, 0, 0, 0, 0, 0, false⟩,
  ⟨"MAC_SA_LO", 0x400038, 0x4000, 24, 0, 1, 0, 2, 0, 0xffffffff, 0, 0, 0, 0, 0, false⟩,
  ⟨"MAC_SA_HI", 0x40003c, 0x4000, 24, 0, 1, 1, 2, 0, 0xffff, 0, 0, 0, 0, 0xffff0000, false⟩,
  ⟨"MAC_EVT", 0x400040, 0x4000, 24, 0, 1, 0, 1, 0, 0, 0, 0x1fff, 0, 0, 0xffffe000, false⟩,
  ⟨"MAC_MDIO_CFG", 0x460000, 0x100, 2, 0, 1, 0, 1, 0x3e800c7, 0xffff00ff, 0, 0, 0, 0, 0xff00, false⟩,
  ⟨"MAC_MDIO_CMD", 0x460004, 0x100, 2, 0, 1, 0, 1, 0, 0, 0, 0, 0, 0xfffeffff, 0x10000, false⟩,
  ⟨"MAC_MDIO_RD", 0x460008, 0x100, 2, 0, 1, 0, 1, 0, 0xffff0000, 0, 0, 0, 0, 0, false⟩,
  ⟨"MAC_RX_FRAMES_LO", 0x400100, 0x4000, 24, 0, 1, 0, 2, 0, 0, 0, 0, 0, 0, 0, true⟩,
  ⟨"MAC_RX_FRAMES_HI", 0x400104, 0x4000, 24, 0, 1, 1, 2, 0, 0, 0, 0, 0, 0, 0, true⟩,
  ⟨"MAC_SLP_MDIO_A", 0x460400, 8, 32, 0, 1, 0, 1, 0x10000000, 0xfffc0000, 0, 0, 0, 0, 0x3ffff, false⟩,
  ⟨"MAC_SLP_MDIO_B", 0x460404, 8, 32, 0, 1, 0, 1, 0, 0xffffffff, 0, 0, 0, 0, 0, false⟩,
  ⟨"MAC_EVT_EN", 0x400044, 0x4000, 24, 0, 1, 0, 1, 0x886, 0x1fff, 0, 0, 0, 0, 0xffffe000, false⟩,
  ⟨"MAC_RX_OCTETS_LO", 0x400108, 0x4000, 24, 0, 1, 0, 2, 0, 0, 0, 0, 0, 0, 0, true⟩,
  ⟨"MAC_RX_OCTETS_HI", 0x40010c, 0x4000, 24, 0, 1, 1, 2, 0, 0, 0, 0, 0, 0, 0, true⟩,
  ⟨"MAC_RX_MCAST_LO", 0x400110, 0x4000, 24, 0, 1, 0, 2, 0, 0, 0, 0, 0, 0, 0, true⟩,
  ⟨"MAC_RX_MCAST_HI", 0x400114, 0x4000, 24, 0, 1, 1, 2, 0, 0, 0, 0, 0, 0, 0, true⟩,
  ⟨"MAC_RUNT_LO", 0x400118, 0x4000, 24, 0, 1, 0, 2, 0, 0, 0, 0, 0, 0, 0, true⟩,
  ⟨"MAC_RUNT_HI", 0x40011c, 0x4000, 24, 0, 1, 1, 2, 0, 0, 0, 0, 0, 0, 0, true⟩,
  ⟨"MAC_OVERSIZE_LO", 0x400120, 0x4000, 24, 0, 1, 0, 2, 0, 0, 0, 0, 0, 0, 0, true⟩,
  ⟨"MAC_OVERSIZE_HI", 0x400124, 0x4000, 24, 0, 1, 1, 2, 0, 0, 0, 0, 0, 0, 0, true⟩,
  ⟨"MAC_FCS_ERR_LO", 0x400128, 0x4000, 24, 0, 1, 0, 2, 0, 0, 0, 0, 0, 0, 0, true⟩,
  ⟨"MAC_FCS_ERR_HI", 0x40012c, 0x4000, 24, 0, 1, 1, 2, 0, 0, 0, 0, 0, 0, 0, true⟩,
  ⟨"MAC_PCS_ERR_LO", 0x400130, 0x4000, 24, 0, 1, 0, 2, 0, 0, 0, 0, 0, 0, 0, true⟩,
  ⟨"MAC_PCS_ERR_HI", 0x400134, 0x4000, 24, 0, 1, 1, 2, 0, 0, 0, 0, 0, 0, 0, true⟩,
  ⟨"MAC_RX_PAUSE_LO", 0x400138, 0x4000, 24, 0, 1, 0, 2, 0, 0, 0, 0, 0, 0, 0, true⟩,
  ⟨"MAC_RX_PAUSE_HI", 0x40013c, 0x4000, 24, 0, 1, 1, 2, 0, 0, 0, 0, 0, 0, 0, true⟩,
  ⟨"MAC_RX_PFC_LO", 0x400140, 0x4000, 24, 0, 1, 0, 2, 0, 0, 0, 0, 0, 0, 0, true⟩,
  ⟨"MAC_RX_PFC_HI", 0x400144, 0x4000, 24, 0, 1, 1, 2, 0, 0, 0, 0, 0, 0, 0, true⟩,
  ⟨"MAC_RX_CTL_DROP_LO", 0x400148, 0x4000, 24, 0, 1, 0, 2, 0, 0, 0, 0, 0, 0, 0, true⟩,
  ⟨"MAC_RX_CTL_DROP_HI", 0x40014c, 0x4000, 24, 0, 1, 1, 2, 0, 0, 0, 0, 0, 0, 0, true⟩,
  ⟨"MAC_ERR_DEL_LO", 0x400150, 0x4000, 24, 0, 1, 0, 2, 0, 0, 0, 0, 0, 0, 0, true⟩]

/-- Registers of region 3, MAC. -/
def rowsMac1 : List Row := [
  ⟨"MAC_ERR_DEL_HI", 0x400154, 0x4000, 24, 0, 1, 1, 2, 0, 0, 0, 0, 0, 0, 0, true⟩,
  ⟨"MAC_ERR_DROP_LO", 0x400158, 0x4000, 24, 0, 1, 0, 2, 0, 0, 0, 0, 0, 0, 0, true⟩,
  ⟨"MAC_ERR_DROP_HI", 0x40015c, 0x4000, 24, 0, 1, 1, 2, 0, 0, 0, 0, 0, 0, 0, true⟩,
  ⟨"MAC_MM_ASSY_OK_LO", 0x400160, 0x4000, 24, 0, 1, 0, 2, 0, 0, 0, 0, 0, 0, 0, true⟩,
  ⟨"MAC_MM_ASSY_OK_HI", 0x400164, 0x4000, 24, 0, 1, 1, 2, 0, 0, 0, 0, 0, 0, 0, true⟩,
  ⟨"MAC_MM_ASSY_ERR_LO", 0x400168, 0x4000, 24, 0, 1, 0, 2, 0, 0, 0, 0, 0, 0, 0, true⟩,
  ⟨"MAC_MM_ASSY_ERR_HI", 0x40016c, 0x4000, 24, 0, 1, 1, 2, 0, 0, 0, 0, 0, 0, 0, true⟩,
  ⟨"MAC_MM_FRAG_RX_LO", 0x400170, 0x4000, 24, 0, 1, 0, 2, 0, 0, 0, 0, 0, 0, 0, true⟩,
  ⟨"MAC_MM_FRAG_RX_HI", 0x400174, 0x4000, 24, 0, 1, 1, 2, 0, 0, 0, 0, 0, 0, 0, true⟩,
  ⟨"MAC_MM_FRAG_TX_LO", 0x400178, 0x4000, 24, 0, 1, 0, 2, 0, 0, 0, 0, 0, 0, 0, true⟩,
  ⟨"MAC_MM_FRAG_TX_HI", 0x40017c, 0x4000, 24, 0, 1, 1, 2, 0, 0, 0, 0, 0, 0, 0, true⟩,
  ⟨"MAC_TX_FRAMES_LO", 0x400180, 0x4000, 24, 0, 1, 0, 2, 0, 0, 0, 0, 0, 0, 0, true⟩,
  ⟨"MAC_TX_FRAMES_HI", 0x400184, 0x4000, 24, 0, 1, 1, 2, 0, 0, 0, 0, 0, 0, 0, true⟩,
  ⟨"MAC_TX_OCTETS_LO", 0x400188, 0x4000, 24, 0, 1, 0, 2, 0, 0, 0, 0, 0, 0, 0, true⟩,
  ⟨"MAC_TX_OCTETS_HI", 0x40018c, 0x4000, 24, 0, 1, 1, 2, 0, 0, 0, 0, 0, 0, 0, true⟩,
  ⟨"MAC_TX_PAUSE_LO", 0x400190, 0x4000, 24, 0, 1, 0, 2, 0, 0, 0, 0, 0, 0, 0, true⟩,
  ⟨"MAC_TX_PAUSE_HI", 0x400194, 0x4000, 24, 0, 1, 1, 2, 0, 0, 0, 0, 0, 0, 0, true⟩,
  ⟨"MAC_TX_PFC_LO", 0x400198, 0x4000, 24, 0, 1, 0, 2, 0, 0, 0, 0, 0, 0, 0, true⟩,
  ⟨"MAC_TX_PFC_HI", 0x40019c, 0x4000, 24, 0, 1, 1, 2, 0, 0, 0, 0, 0, 0, 0, true⟩,
  ⟨"MAC_TX_LIMIT_LO", 0x4001a0, 0x4000, 24, 0, 1, 0, 2, 0, 0, 0, 0, 0, 0, 0, true⟩,
  ⟨"MAC_TX_LIMIT_HI", 0x4001a4, 0x4000, 24, 0, 1, 1, 2, 0, 0, 0, 0, 0, 0, 0, true⟩,
  ⟨"MAC_TX_PAD_LO", 0x4001a8, 0x4000, 24, 0, 1, 0, 2, 0, 0, 0, 0, 0, 0, 0, true⟩,
  ⟨"MAC_TX_PAD_HI", 0x4001ac, 0x4000, 24, 0, 1, 1, 2, 0, 0, 0, 0, 0, 0, 0, true⟩,
  ⟨"MAC_TX_STOMP_LO", 0x4001b0, 0x4000, 24, 0, 1, 0, 2, 0, 0, 0, 0, 0, 0, 0, true⟩,
  ⟨"MAC_TX_STOMP_HI", 0x4001b4, 0x4000, 24, 0, 1, 1, 2, 0, 0, 0, 0, 0, 0, 0, true⟩,
  ⟨"MAC_LINK_DOWN_LO", 0x4001b8, 0x4000, 24, 0, 1, 0, 2, 0, 0, 0, 0, 0, 0, 0, true⟩,
  ⟨"MAC_LINK_DOWN_HI", 0x4001bc, 0x4000, 24, 0, 1, 1, 2, 0, 0, 0, 0, 0, 0, 0, true⟩,
  ⟨"MAC_FEC_CORR_LO", 0x4001c0, 0x4000, 24, 0, 1, 0, 2, 0, 0, 0, 0, 0, 0, 0, true⟩,
  ⟨"MAC_FEC_CORR_HI", 0x4001c4, 0x4000, 24, 0, 1, 1, 2, 0, 0, 0, 0, 0, 0, 0, true⟩,
  ⟨"MAC_FEC_UNCORR_LO", 0x4001c8, 0x4000, 24, 0, 1, 0, 2, 0, 0, 0, 0, 0, 0, 0, true⟩,
  ⟨"MAC_FEC_UNCORR_HI", 0x4001cc, 0x4000, 24, 0, 1, 1, 2, 0, 0, 0, 0, 0, 0, 0, true⟩]

/-- All registers of region 3, MAC (R33). -/
def rowsMac : List Row := rowsMac0 ++ rowsMac1

/-- Registers of region 4, TBL. -/
def rowsTbl0 : List Row := [
  ⟨"TBL_PORT", 0x800000, 4, 28, 0, 1, 0, 1, 0x40010000, 0xffffffc0, 0, 0, 0, 0, 0x3f, false⟩,
  ⟨"TBL_HASH", 0x800080, 0, 1, 0, 1, 0, 1, 0, 0xfff, 0, 0, 0, 0, 0xf000f000, false⟩,
  ⟨"TBL_AGE", 0x800084, 0, 1, 0, 1, 0, 1, 0x12c, 0x7fff, 0, 0, 0, 0, 0xffff8000, false⟩,
  ⟨"TBL_NOW", 0x800088, 0, 1, 0, 1, 0, 1, 0, 0, 0, 0, 0, 0, 0xffff0000, false⟩,
  ⟨"TBL_STORM", 0x80008c, 0, 1, 0, 1, 0, 1, 0x80000004, 0x80000007, 0, 0, 0, 0, 0x7ffffff8, false⟩,
  ⟨"TBL_EPOCH", 0x800090, 0, 1, 0, 1, 0, 1, 0, 0, 0, 0, 0, 0, 0, false⟩,
  ⟨"TBL_DRAIN", 0x800094, 0, 1, 0, 1, 0, 1, 0, 0, 0, 0, 0, 0xc000ffff, 0x3fff0000, false⟩,
  ⟨"TBL_DRAIN_EP", 0x800098, 0, 1, 0, 1, 0, 1, 0, 0, 0, 0, 0, 0, 0, false⟩,
  ⟨"TBL_LEARN_STS", 0x80009c, 0, 1, 0, 1, 0, 1, 0, 0, 0, 0, 0, 0, 0x7ffffe00, false⟩,
  ⟨"TBL_PERR_LOG", 0x8000a0, 0, 1, 0, 1, 0, 1, 0, 0, 0, 0, 0, 0, 0x3fff0000, false⟩,
  ⟨"TBL_STORM_LOG", 0x8000a4, 0, 1, 0, 1, 0, 1, 0, 0, 0, 0, 0, 0, 0xffe0c000, false⟩,
  ⟨"TBL_EVT", 0x8000c0, 0, 1, 0, 1, 0, 1, 0, 0, 0, 0xff, 0, 0, 0xffffff00, false⟩,
  ⟨"TBL_CMD", 0x800200, 0x20, 7, 0, 1, 0, 1, 0, 0, 0, 0, 0, 0xff003fff, 0xffc000, false⟩,
  ⟨"TBL_DATA_LO", 0x800204, 0x20, 7, 0, 1, 0, 4, 0, 0xffffffff, 0, 0, 0, 0, 0, false⟩,
  ⟨"TBL_ACCEPT_DROP_LO", 0x800400, 0, 1, 0, 1, 0, 2, 0, 0, 0, 0, 0, 0, 0, true⟩,
  ⟨"TBL_ACCEPT_DROP_HI", 0x800404, 0, 1, 0, 1, 1, 2, 0, 0, 0, 0, 0, 0, 0, true⟩,
  ⟨"TBL_EVT_EN", 0x8000c4, 0, 1, 0, 1, 0, 1, 0x97, 0xff, 0, 0, 0, 0, 0xffffff00, false⟩,
  ⟨"TBL_DATA_W1", 0x800208, 0x20, 7, 0, 1, 1, 4, 0, 0xffffffff, 0, 0, 0, 0, 0, false⟩,
  ⟨"TBL_DATA_W2", 0x80020c, 0x20, 7, 0, 1, 2, 4, 0, 0xffffffff, 0, 0, 0, 0, 0, false⟩,
  ⟨"TBL_DATA_HI", 0x800210, 0x20, 7, 0, 1, 3, 4, 0, 0xffffffff, 0, 0, 0, 0, 0, false⟩,
  ⟨"TBL_VLAN_DROP_LO", 0x800408, 0, 1, 0, 1, 0, 2, 0, 0, 0, 0, 0, 0, 0, true⟩,
  ⟨"TBL_VLAN_DROP_HI", 0x80040c, 0, 1, 0, 1, 1, 2, 0, 0, 0, 0, 0, 0, 0, true⟩,
  ⟨"TBL_SA_VIOL_LO", 0x800410, 0, 1, 0, 1, 0, 2, 0, 0, 0, 0, 0, 0, 0, true⟩,
  ⟨"TBL_SA_VIOL_HI", 0x800414, 0, 1, 0, 1, 1, 2, 0, 0, 0, 0, 0, 0, 0, true⟩,
  ⟨"TBL_DEF_ACT_LO", 0x800418, 0, 1, 0, 1, 0, 2, 0, 0, 0, 0, 0, 0, 0, true⟩,
  ⟨"TBL_DEF_ACT_HI", 0x80041c, 0, 1, 0, 1, 1, 2, 0, 0, 0, 0, 0, 0, 0, true⟩,
  ⟨"TBL_FLOW_DROP_LO", 0x800420, 0, 1, 0, 1, 0, 2, 0, 0, 0, 0, 0, 0, 0, true⟩,
  ⟨"TBL_FLOW_DROP_HI", 0x800424, 0, 1, 0, 1, 1, 2, 0, 0, 0, 0, 0, 0, 0, true⟩,
  ⟨"TBL_NO_DEST_LO", 0x800428, 0, 1, 0, 1, 0, 2, 0, 0, 0, 0, 0, 0, 0, true⟩,
  ⟨"TBL_NO_DEST_HI", 0x80042c, 0, 1, 0, 1, 1, 2, 0, 0, 0, 0, 0, 0, 0, true⟩,
  ⟨"TBL_CLS_DEMOTE_LO", 0x800430, 0, 1, 0, 1, 0, 2, 0, 0, 0, 0, 0, 0, 0, true⟩,
  ⟨"TBL_CLS_DEMOTE_HI", 0x800434, 0, 1, 0, 1, 1, 2, 0, 0, 0, 0, 0, 0, 0, true⟩,
  ⟨"TBL_LEARN_LO", 0x800438, 0, 1, 0, 1, 0, 2, 0, 0, 0, 0, 0, 0, 0, true⟩,
  ⟨"TBL_LEARN_HI", 0x80043c, 0, 1, 0, 1, 1, 2, 0, 0, 0, 0, 0, 0, 0, true⟩,
  ⟨"TBL_LEARN_DROP_LO", 0x800440, 0, 1, 0, 1, 0, 2, 0, 0, 0, 0, 0, 0, 0, true⟩,
  ⟨"TBL_LEARN_DROP_HI", 0x800444, 0, 1, 0, 1, 1, 2, 0, 0, 0, 0, 0, 0, 0, true⟩,
  ⟨"TBL_LEARN_FULL_LO", 0x800448, 0, 1, 0, 1, 0, 2, 0, 0, 0, 0, 0, 0, 0, true⟩,
  ⟨"TBL_LEARN_FULL_HI", 0x80044c, 0, 1, 0, 1, 1, 2, 0, 0, 0, 0, 0, 0, 0, true⟩,
  ⟨"TBL_RELOC_LO", 0x800450, 0, 1, 0, 1, 0, 2, 0, 0, 0, 0, 0, 0, 0, true⟩,
  ⟨"TBL_RELOC_HI", 0x800454, 0, 1, 0, 1, 1, 2, 0, 0, 0, 0, 0, 0, 0, true⟩]

/-- Registers of region 4, TBL. -/
def rowsTbl1 : List Row := [
  ⟨"TBL_MOVE_LO", 0x800458, 0, 1, 0, 1, 0, 2, 0, 0, 0, 0, 0, 0, 0, true⟩,
  ⟨"TBL_MOVE_HI", 0x80045c, 0, 1, 0, 1, 1, 2, 0, 0, 0, 0, 0, 0, 0, true⟩,
  ⟨"TBL_MOVE_REFUSED_LO", 0x800460, 0, 1, 0, 1, 0, 2, 0, 0, 0, 0, 0, 0, 0, true⟩,
  ⟨"TBL_MOVE_REFUSED_HI", 0x800464, 0, 1, 0, 1, 1, 2, 0, 0, 0, 0, 0, 0, 0, true⟩,
  ⟨"TBL_MOVE_STORM_LO", 0x800468, 0, 1, 0, 1, 0, 2, 0, 0, 0, 0, 0, 0, 0, true⟩,
  ⟨"TBL_MOVE_STORM_HI", 0x80046c, 0, 1, 0, 1, 1, 2, 0, 0, 0, 0, 0, 0, 0, true⟩,
  ⟨"TBL_AGED_LO", 0x800470, 0, 1, 0, 1, 0, 2, 0, 0, 0, 0, 0, 0, 0, true⟩,
  ⟨"TBL_AGED_HI", 0x800474, 0, 1, 0, 1, 1, 2, 0, 0, 0, 0, 0, 0, 0, true⟩,
  ⟨"TBL_PAR_ERR_LO", 0x800478, 0, 1, 0, 1, 0, 2, 0, 0, 0, 0, 0, 0, 0, true⟩,
  ⟨"TBL_PAR_ERR_HI", 0x80047c, 0, 1, 0, 1, 1, 2, 0, 0, 0, 0, 0, 0, 0, true⟩,
  ⟨"TBL_ROW_REPAIR_LO", 0x800480, 0, 1, 0, 1, 0, 2, 0, 0, 0, 0, 0, 0, 0, true⟩,
  ⟨"TBL_ROW_REPAIR_HI", 0x800484, 0, 1, 0, 1, 1, 2, 0, 0, 0, 0, 0, 0, 0, true⟩,
  ⟨"TBL_DRAIN_TMO_LO", 0x800488, 0, 1, 0, 1, 0, 2, 0, 0, 0, 0, 0, 0, 0, true⟩,
  ⟨"TBL_DRAIN_TMO_HI", 0x80048c, 0, 1, 0, 1, 1, 2, 0, 0, 0, 0, 0, 0, 0, true⟩]

/-- All registers of region 4, TBL (R33). -/
def rowsTbl : List Row := rowsTbl0 ++ rowsTbl1

/-- Registers of region 5, SW. -/
def rowsSw0 : List Row := [
  ⟨"SW_CFG", 0xc00000, 0, 1, 0, 1, 0, 1, 0x7d003e8, 0xffffffff, 0, 0, 0, 0, 0, false⟩,
  ⟨"SW_POOL_STS", 0xc00004, 0, 1, 0, 1, 0, 1, 0x40000, 0, 0, 0, 0, 0, 0x7ff80000, false⟩,
  ⟨"SW_POOL_RES", 0xc00008, 0, 1, 0, 1, 0, 1, 0, 0, 0, 0, 0, 0, 0xfff80000, false⟩,
  ⟨"SW_PLY_STS", 0xc00010, 0, 1, 0, 1, 0, 1, 0x492, 0, 0, 0, 0, 0, 0xffff8000, false⟩,
  ⟨"SW_PLY_CFG", 0xc00014, 0, 1, 0, 1, 0, 1, 0x80000010, 0x800000ff, 0, 0, 0, 0, 0x7fffff00, false⟩,
  ⟨"SW_PLY_CMD", 0xc00018, 0, 1, 0, 1, 0, 1, 0, 0, 0, 0, 0, 0xc000003f, 0x3fffffc0, false⟩,
  ⟨"SW_INT_TS", 0xc0001c, 0, 1, 0, 1, 0, 1, 0, 0x3f, 0, 0, 0, 0, 0xffffffc0, false⟩,
  ⟨"SW_EVT", 0xc00020, 0, 1, 0, 1, 0, 1, 0, 0, 0, 0xfff, 0, 0, 0xfffff000, false⟩,
  ⟨"SW_LIM", 0xc00400, 4, 224, 0, 1, 0, 1, 0, 0xffffffff, 0, 0, 0, 0, 0, false⟩,
  ⟨"SW_FC", 0xc00800, 4, 224, 0, 1, 0, 1, 0, 0xffffffff, 0, 0, 0, 0, 0, false⟩,
  ⟨"SW_USED", 0xc00c00, 4, 224, 0, 1, 0, 1, 0, 0, 0, 0, 0, 0, 0x7ff80000, false⟩,
  ⟨"SW_SCHED", 0xc01000, 0x10, 28, 0, 1, 0, 1, 0x18181818, 0xffffffff, 0, 0, 0, 0, 0, false⟩,
  ⟨"SW_CBS5", 0xc01004, 0x10, 28, 0, 1, 0, 1, 0, 0x803fffff, 0, 0, 0, 0, 0x7fc00000, false⟩,
  ⟨"SW_OUT_STS", 0xc0100c, 0x10, 28, 0, 1, 0, 1, 0, 0, 0, 0, 0, 0, 0x3fffff80, false⟩,
  ⟨"SW_MCGRP", 0xc02000, 4, 1024, 0, 1, 0, 1, 0, 0xfffffff, 0, 0, 0, 0, 0xf0000000, false⟩,
  ⟨"SW_LIM_DROP_LO", 0xc04000, 8, 28, 0, 1, 0, 2, 0, 0, 0, 0, 0, 0, 0, true⟩,
  ⟨"SW_LIM_DROP_HI", 0xc04004, 8, 28, 0, 1, 1, 2, 0, 0, 0, 0, 0, 0, 0, true⟩,
  ⟨"SW_EVT_EN", 0xc00024, 0, 1, 0, 1, 0, 1, 0x207, 0xfff, 0, 0, 0, 0, 0xfffff000, false⟩,
  ⟨"SW_CBS4", 0xc01008, 0x10, 28, 0, 1, 0, 1, 0, 0x803fffff, 0, 0, 0, 0, 0x7fc00000, false⟩,
  ⟨"SW_BORROW_LO", 0xc04100, 8, 28, 0, 1, 0, 2, 0, 0, 0, 0, 0, 0, 0, true⟩,
  ⟨"SW_BORROW_HI", 0xc04104, 8, 28, 0, 1, 1, 2, 0, 0, 0, 0, 0, 0, 0, true⟩,
  ⟨"SW_XOFF_LO", 0xc04200, 8, 28, 0, 1, 0, 2, 0, 0, 0, 0, 0, 0, 0, true⟩,
  ⟨"SW_XOFF_HI", 0xc04204, 8, 28, 0, 1, 1, 2, 0, 0, 0, 0, 0, 0, 0, true⟩,
  ⟨"SW_DOWN_DROP_LO", 0xc04300, 8, 28, 0, 1, 0, 2, 0, 0, 0, 0, 0, 0, 0, true⟩,
  ⟨"SW_DOWN_DROP_HI", 0xc04304, 8, 28, 0, 1, 1, 2, 0, 0, 0, 0, 0, 0, 0, true⟩,
  ⟨"SW_FLUSH_DROP_LO", 0xc04400, 8, 28, 0, 1, 0, 2, 0, 0, 0, 0, 0, 0, 0, true⟩,
  ⟨"SW_FLUSH_DROP_HI", 0xc04404, 8, 28, 0, 1, 1, 2, 0, 0, 0, 0, 0, 0, 0, true⟩,
  ⟨"SW_AGE_DROP_LO", 0xc04500, 8, 28, 0, 1, 0, 2, 0, 0, 0, 0, 0, 0, 0, true⟩,
  ⟨"SW_AGE_DROP_HI", 0xc04504, 8, 28, 0, 1, 1, 2, 0, 0, 0, 0, 0, 0, 0, true⟩,
  ⟨"SW_MC_TMO_LO", 0xc04600, 8, 28, 0, 1, 0, 2, 0, 0, 0, 0, 0, 0, 0, true⟩,
  ⟨"SW_MC_TMO_HI", 0xc04604, 8, 28, 0, 1, 1, 2, 0, 0, 0, 0, 0, 0, 0, true⟩,
  ⟨"SW_RESEQ_DROP_LO", 0xc04700, 8, 28, 0, 1, 0, 2, 0, 0, 0, 0, 0, 0, 0, true⟩,
  ⟨"SW_RESEQ_DROP_HI", 0xc04704, 8, 28, 0, 1, 1, 2, 0, 0, 0, 0, 0, 0, 0, true⟩,
  ⟨"SW_PLY_RETRY_LO", 0xc04800, 0, 1, 0, 1, 0, 2, 0, 0, 0, 0, 0, 0, 0, true⟩,
  ⟨"SW_PLY_RETRY_HI", 0xc04804, 0, 1, 0, 1, 1, 2, 0, 0, 0, 0, 0, 0, 0, true⟩,
  ⟨"SW_PLY_LOSS_LO", 0xc04808, 0, 1, 0, 1, 0, 2, 0, 0, 0, 0, 0, 0, 0, true⟩,
  ⟨"SW_PLY_LOSS_HI", 0xc0480c, 0, 1, 0, 1, 1, 2, 0, 0, 0, 0, 0, 0, 0, true⟩,
  ⟨"SW_PLY_FAIL_LO", 0xc04810, 0, 1, 0, 1, 0, 2, 0, 0, 0, 0, 0, 0, 0, true⟩,
  ⟨"SW_PLY_FAIL_HI", 0xc04814, 0, 1, 0, 1, 1, 2, 0, 0, 0, 0, 0, 0, 0, true⟩,
  ⟨"SW_AGE_TBERR_LO", 0xc04818, 0, 1, 0, 1, 0, 2, 0, 0, 0, 0, 0, 0, 0, true⟩]

/-- Registers of region 5, SW. -/
def rowsSw1 : List Row := [
  ⟨"SW_AGE_TBERR_HI", 0xc0481c, 0, 1, 0, 1, 1, 2, 0, 0, 0, 0, 0, 0, 0, true⟩]

/-- All registers of region 5, SW (R33). -/
def rowsSw : List Row := rowsSw0 ++ rowsSw1

/-- Registers of region 6, STR. -/
def rowsStr0 : List Row := [
  ⟨"STR_CFG", 0x1000000, 0x80, 256, 0, 1, 0, 1, 0x8804000, 0xffffe000, 0, 0, 0, 0, 0x1fff, false⟩,
  ⟨"STR_METER", 0x1000004, 0x80, 256, 0, 1, 0, 1, 0, 0xffffffff, 0, 0, 0, 0, 0, false⟩,
  ⟨"STR_LIM", 0x1000008, 0x80, 256, 0, 1, 0, 1, 0x64020000, 0xff3f3fff, 0, 0, 0, 0, 0xc0c000, false⟩,
  ⟨"STR_WDOG", 0x100000c, 0x80, 256, 0, 1, 0, 1, 0x2710, 0xffff, 0, 0, 0, 0, 0xffff0000, false⟩,
  ⟨"STR_KEYA", 0x1000010, 0x80, 256, 0, 1, 0, 1, 0, 0x800fffff, 0, 0, 0, 0, 0x7ff00000, false⟩,
  ⟨"STR_ROLL", 0x1000018, 0x80, 256, 0, 1, 0, 1, 0x3e8, 0x8000ffff, 0, 0, 0, 0, 0x7fff0000, false⟩,
  ⟨"STR_STS", 0x100001c, 0x80, 256, 0, 1, 0, 1, 0, 0, 0, 0, 0, 0, 0x7ff0000, false⟩,
  ⟨"STR_FRESH_LO", 0x1000020, 0x80, 256, 0, 1, 0, 2, 0, 0xffffffff, 0, 0, 0, 0, 0, false⟩,
  ⟨"STR_WIN_LO", 0x1000028, 0x80, 256, 0, 1, 0, 2, 0, 0, 0, 0, 0, 0, 0, false⟩,
  ⟨"STR_SEQ_STS", 0x1000030, 0x80, 256, 0, 1, 0, 1, 1, 0, 0, 0, 0, 0, 0xfffe, false⟩,
  ⟨"STR_ALARM", 0x1000034, 0x80, 256, 0, 1, 0, 1, 0, 0, 0, 0x7fff, 0, 0, 0xffff8000, false⟩,
  ⟨"STR_BUDGET", 0x1010100, 0, 1, 0, 1, 0, 1, 0, 0, 0, 0, 0, 0, 0x3ffe0000, false⟩,
  ⟨"STR_PASS_LO", 0x1020000, 8, 256, 0, 1, 0, 2, 0, 0, 0, 0, 0, 0, 0, true⟩,
  ⟨"STR_PASS_HI", 0x1020004, 8, 256, 0, 1, 1, 2, 0, 0, 0, 0, 0, 0, 0, true⟩,
  ⟨"STR_KEYB", 0x1000014, 0x80, 256, 0, 1, 0, 1, 0, 0x800fffff, 0, 0, 0, 0, 0x7ff00000, false⟩,
  ⟨"STR_FRESH_HI", 0x1000024, 0x80, 256, 0, 1, 1, 2, 0, 0xffffffff, 0, 0, 0, 0, 0, false⟩,
  ⟨"STR_WIN_HI", 0x100002c, 0x80, 256, 0, 1, 1, 2, 0, 0, 0, 0, 0, 0, 0, false⟩,
  ⟨"STR_EVT0", 0x1010000, 0, 1, 0, 1, 0, 1, 0, 0, 0, 0x8000, 0, 0, 0xffff0000, false⟩,
  ⟨"STR_EVT", 0x1010010, 0x10, 3, 0, 1, 0, 1, 0, 0, 0, 0, 0, 0, 0xffff8000, false⟩,
  ⟨"STR_EVT_EN", 0x1010004, 0x10, 4, 0, 1, 0, 1, 0xb215, 0xffff, 0, 0, 0, 0, 0xffff0000, false⟩,
  ⟨"STR_DIS_DROP_LO", 0x1020800, 8, 256, 0, 1, 0, 2, 0, 0, 0, 0, 0, 0, 0, true⟩,
  ⟨"STR_DIS_DROP_HI", 0x1020804, 8, 256, 0, 1, 1, 2, 0, 0, 0, 0, 0, 0, 0, true⟩,
  ⟨"STR_METER_DROP_LO", 0x1021000, 8, 256, 0, 1, 0, 2, 0, 0, 0, 0, 0, 0, 0, true⟩,
  ⟨"STR_METER_DROP_HI", 0x1021004, 8, 256, 0, 1, 1, 2, 0, 0, 0, 0, 0, 0, 0, true⟩,
  ⟨"STR_SDU_DROP_LO", 0x1021800, 8, 256, 0, 1, 0, 2, 0, 0, 0, 0, 0, 0, 0, true⟩,
  ⟨"STR_SDU_DROP_HI", 0x1021804, 8, 256, 0, 1, 1, 2, 0, 0, 0, 0, 0, 0, 0, true⟩,
  ⟨"STR_FMT_ERR_LO", 0x1022000, 8, 256, 0, 1, 0, 2, 0, 0, 0, 0, 0, 0, 0, true⟩,
  ⟨"STR_FMT_ERR_HI", 0x1022004, 8, 256, 0, 1, 1, 2, 0, 0, 0, 0, 0, 0, 0, true⟩,
  ⟨"STR_LABEL_ERR_LO", 0x1022800, 8, 256, 0, 1, 0, 2, 0, 0, 0, 0, 0, 0, 0, true⟩,
  ⟨"STR_LABEL_ERR_HI", 0x1022804, 8, 256, 0, 1, 1, 2, 0, 0, 0, 0, 0, 0, 0, true⟩,
  ⟨"STR_NOKEY_LO", 0x1023000, 8, 256, 0, 1, 0, 2, 0, 0, 0, 0, 0, 0, 0, true⟩,
  ⟨"STR_NOKEY_HI", 0x1023004, 8, 256, 0, 1, 1, 2, 0, 0, 0, 0, 0, 0, 0, true⟩,
  ⟨"STR_AUTH_FAIL_LO", 0x1023800, 8, 256, 0, 1, 0, 2, 0, 0, 0, 0, 0, 0, 0, true⟩,
  ⟨"STR_AUTH_FAIL_HI", 0x1023804, 8, 256, 0, 1, 1, 2, 0, 0, 0, 0, 0, 0, 0, true⟩,
  ⟨"STR_REPLAY_LO", 0x1024000, 8, 256, 0, 1, 0, 2, 0, 0, 0, 0, 0, 0, 0, true⟩,
  ⟨"STR_REPLAY_HI", 0x1024004, 8, 256, 0, 1, 1, 2, 0, 0, 0, 0, 0, 0, 0, true⟩,
  ⟨"STR_FRESH_REJ_LO", 0x1024800, 8, 256, 0, 1, 0, 2, 0, 0, 0, 0, 0, 0, 0, true⟩,
  ⟨"STR_FRESH_REJ_HI", 0x1024804, 8, 256, 0, 1, 1, 2, 0, 0, 0, 0, 0, 0, 0, true⟩,
  ⟨"STR_AGE_DROP_LO", 0x1025000, 8, 256, 0, 1, 0, 2, 0, 0, 0, 0, 0, 0, 0, true⟩,
  ⟨"STR_AGE_DROP_HI", 0x1025004, 8, 256, 0, 1, 1, 2, 0, 0, 0, 0, 0, 0, 0, true⟩]

/-- Registers of region 6, STR. -/
def rowsStr1 : List Row := [
  ⟨"STR_GEN_LO", 0x1025800, 8, 256, 0, 1, 0, 2, 0, 0, 0, 0, 0, 0, 0, true⟩,
  ⟨"STR_GEN_HI", 0x1025804, 8, 256, 0, 1, 1, 2, 0, 0, 0, 0, 0, 0, 0, true⟩,
  ⟨"STR_FRESH_EXH_LO", 0x1026000, 8, 256, 0, 1, 0, 2, 0, 0, 0, 0, 0, 0, 0, true⟩,
  ⟨"STR_FRESH_EXH_HI", 0x1026004, 8, 256, 0, 1, 1, 2, 0, 0, 0, 0, 0, 0, 0, true⟩,
  ⟨"STR_RES_WAIT_LO", 0x1026800, 8, 256, 0, 1, 0, 2, 0, 0, 0, 0, 0, 0, 0, true⟩,
  ⟨"STR_RES_WAIT_HI", 0x1026804, 8, 256, 0, 1, 1, 2, 0, 0, 0, 0, 0, 0, 0, true⟩,
  ⟨"STR_SEQ_DUP_LO", 0x1027000, 8, 256, 0, 1, 0, 2, 0, 0, 0, 0, 0, 0, 0, true⟩,
  ⟨"STR_SEQ_DUP_HI", 0x1027004, 8, 256, 0, 1, 1, 2, 0, 0, 0, 0, 0, 0, 0, true⟩,
  ⟨"STR_SEQ_OOO_LO", 0x1027800, 8, 256, 0, 1, 0, 2, 0, 0, 0, 0, 0, 0, 0, true⟩,
  ⟨"STR_SEQ_OOO_HI", 0x1027804, 8, 256, 0, 1, 1, 2, 0, 0, 0, 0, 0, 0, 0, true⟩,
  ⟨"STR_SEQ_ROGUE_LO", 0x1028000, 8, 256, 0, 1, 0, 2, 0, 0, 0, 0, 0, 0, 0, true⟩,
  ⟨"STR_SEQ_ROGUE_HI", 0x1028004, 8, 256, 0, 1, 1, 2, 0, 0, 0, 0, 0, 0, 0, true⟩,
  ⟨"STR_SEQ_LOST_LO", 0x1028800, 8, 256, 0, 1, 0, 2, 0, 0, 0, 0, 0, 0, 0, true⟩,
  ⟨"STR_SEQ_LOST_HI", 0x1028804, 8, 256, 0, 1, 1, 2, 0, 0, 0, 0, 0, 0, 0, true⟩,
  ⟨"STR_SEQ_TAGLESS_LO", 0x1029000, 8, 256, 0, 1, 0, 2, 0, 0, 0, 0, 0, 0, 0, true⟩,
  ⟨"STR_SEQ_TAGLESS_HI", 0x1029004, 8, 256, 0, 1, 1, 2, 0, 0, 0, 0, 0, 0, 0, true⟩,
  ⟨"STR_SEQ_RESET_LO", 0x1029800, 8, 256, 0, 1, 0, 2, 0, 0, 0, 0, 0, 0, 0, true⟩,
  ⟨"STR_SEQ_RESET_HI", 0x1029804, 8, 256, 0, 1, 1, 2, 0, 0, 0, 0, 0, 0, 0, true⟩,
  ⟨"STR_SILENT_LO", 0x102a000, 8, 256, 0, 1, 0, 2, 0, 0, 0, 0, 0, 0, 0, true⟩,
  ⟨"STR_SILENT_HI", 0x102a004, 8, 256, 0, 1, 1, 2, 0, 0, 0, 0, 0, 0, 0, true⟩,
  ⟨"STR_ROLL_LO", 0x102a800, 8, 256, 0, 1, 0, 2, 0, 0, 0, 0, 0, 0, 0, true⟩,
  ⟨"STR_ROLL_HI", 0x102a804, 8, 256, 0, 1, 1, 2, 0, 0, 0, 0, 0, 0, 0, true⟩,
  ⟨"STR_DEMOTE_LO", 0x102b000, 8, 256, 0, 1, 0, 2, 0, 0, 0, 0, 0, 0, 0, true⟩,
  ⟨"STR_DEMOTE_HI", 0x102b004, 8, 256, 0, 1, 1, 2, 0, 0, 0, 0, 0, 0, 0, true⟩,
  ⟨"STR_TAP_LO", 0x102b800, 8, 256, 0, 1, 0, 2, 0, 0, 0, 0, 0, 0, 0, true⟩,
  ⟨"STR_TAP_HI", 0x102b804, 8, 256, 0, 1, 1, 2, 0, 0, 0, 0, 0, 0, 0, true⟩]

/-- All registers of region 6, STR (R33). -/
def rowsStr : List Row := rowsStr0 ++ rowsStr1

/-- Registers of region 7, CAN. -/
def rowsCan0 : List Row := [
  ⟨"CAN_CFG", 0x1400000, 0x10000, 16, 0, 1, 0, 1, 0x4000000, 0xfc000000, 0, 0, 0, 0, 0x3ffffff, false⟩,
  ⟨"CAN_NBT", 0x1400004, 0x10000, 16, 0, 1, 0, 1, 0xbe3cf00, 0xffffff00, 0, 0, 0, 0, 0xff, false⟩,
  ⟨"CAN_DBT", 0x1400008, 0x10000, 16, 0, 1, 0, 1, 0x1c990000, 0xffff0000, 0, 0, 0, 0, 0xffff, false⟩,
  ⟨"CAN_TDC", 0x1400010, 0x10000, 16, 0, 1, 0, 1, 0x61e0080, 0xffff0080, 0, 0, 0, 0, 0x7f, false⟩,
  ⟨"CAN_TSC", 0x1400014, 0x10000, 16, 0, 1, 0, 1, 0xc, 0xff, 0, 0, 0, 0, 0xffffff00, false⟩,
  ⟨"CAN_STS", 0x1400018, 0x10000, 16, 0, 1, 0, 1, 0, 0, 0, 0, 0, 0, 0xff, false⟩,
  ⟨"CAN_ERRC", 0x140001c, 0x10000, 16, 0, 1, 0, 1, 0, 0, 0, 0, 0, 0, 0xfe00ff00, false⟩,
  ⟨"CAN_SCH_CFG", 0x1400020, 0x10000, 16, 0, 1, 0, 1, 0x1400, 0xff80ff00, 0, 0, 0, 0, 0x7f00ff, false⟩,
  ⟨"CAN_SCH_BC", 0x1400024, 0x10000, 16, 0, 1, 0, 1, 0x2710, 0xffff, 0, 0, 0, 0, 0xffff0000, false⟩,
  ⟨"CAN_SCH_OFS", 0x1400028, 0x10000, 16, 0, 1, 0, 1, 0, 0xffffffff, 0, 0, 0, 0, 0, false⟩,
  ⟨"CAN_SCH_STS", 0x140002c, 0x10000, 16, 0, 1, 0, 1, 0, 0, 0, 0, 0, 0, 0xfffff, false⟩,
  ⟨"CAN_TXCMD", 0x1400030, 0x10000, 16, 0, 1, 0, 1, 0, 0, 0, 0, 0, 0xf00001ff, 0xffffe00, false⟩,
  ⟨"CAN_TXLAST_LO", 0x1400034, 0x10000, 16, 0, 1, 0, 2, 0, 0, 0, 0, 0, 0, 0, false⟩,
  ⟨"CAN_TXLAST_HI", 0x1400038, 0x10000, 16, 0, 1, 1, 2, 0, 0, 0, 0, 0, 0, 0x7ffffe00, false⟩,
  ⟨"CAN_RXC", 0x1400800, 0x10000, 16, 4, 2560, 0, 1, 0, 0xff800000, 0, 0, 0, 0, 0x7fffff, false⟩,
  ⟨"CAN_XID", 0x1403000, 0x10000, 16, 4, 512, 0, 1, 0, 0x9fffffff, 0, 0, 0, 0, 0x60000000, false⟩,
  ⟨"CAN_XLM_MATCH", 0x1403800, 0x10000, 16, 8, 256, 0, 1, 0, 0xe7ffffff, 0, 0, 0, 0, 0x18000000, false⟩,
  ⟨"CAN_XLM_ACT", 0x1403804, 0x10000, 16, 8, 256, 0, 1, 0, 0xff0001ff, 0, 0, 0, 0, 0xfffe00, false⟩,
  ⟨"CAN_SCH", 0x140e000, 0x10000, 16, 4, 2048, 0, 1, 0, 0xe1ffffff, 0, 0, 0, 0, 0x1e000000, false⟩,
  ⟨"CAN_SOF_CTR_LO", 0x17f0000, 0, 1, 0, 1, 0, 2, 0, 0, 0, 0, 0, 0, 0, false⟩,
  ⟨"CAN_EVT", 0x1400040, 0x10000, 16, 0, 1, 0, 1, 0, 0, 0, 0xfff, 0, 0, 0xfffff000, false⟩,
  ⟨"CAN_RX_OK_LO", 0x1400100, 0x10000, 16, 0, 1, 0, 2, 0, 0, 0, 0, 0, 0, 0, true⟩,
  ⟨"CAN_RX_OK_HI", 0x1400104, 0x10000, 16, 0, 1, 1, 2, 0, 0, 0, 0, 0, 0, 0, true⟩,
  ⟨"CAN_XBT", 0x140000c, 0x10000, 16, 0, 1, 0, 1, 0x4110000, 0xffff0000, 0, 0, 0, 0, 0xffff, false⟩,
  ⟨"CAN_SOF_CTR_HI", 0x17f0004, 0, 1, 0, 1, 1, 2, 0, 0, 0, 0, 0, 0, 0, false⟩,
  ⟨"CAN_EVT_EN", 0x1400044, 0x10000, 16, 0, 1, 0, 1, 0x143, 0xfff, 0, 0, 0, 0, 0xfffff000, false⟩,
  ⟨"CAN_XCAP_LO", 0x17f0010, 0, 1, 0, 1, 0, 15, 0, 0, 0, 0, 0, 0, 0, false⟩,
  ⟨"CAN_XCAP_W1", 0x17f0014, 0, 1, 0, 1, 1, 15, 0, 0, 0, 0, 0, 0, 0, false⟩,
  ⟨"CAN_XCAP_W2", 0x17f0018, 0, 1, 0, 1, 2, 15, 0, 0, 0, 0, 0, 0, 0, false⟩,
  ⟨"CAN_XCAP_W3", 0x17f001c, 0, 1, 0, 1, 3, 15, 0, 0, 0, 0, 0, 0, 0, false⟩,
  ⟨"CAN_XCAP_W4", 0x17f0020, 0, 1, 0, 1, 4, 15, 0, 0, 0, 0, 0, 0, 0, false⟩,
  ⟨"CAN_XCAP_W5", 0x17f0024, 0, 1, 0, 1, 5, 15, 0, 0, 0, 0, 0, 0, 0, false⟩,
  ⟨"CAN_XCAP_W6", 0x17f0028, 0, 1, 0, 1, 6, 15, 0, 0, 0, 0, 0, 0, 0, false⟩,
  ⟨"CAN_XCAP_W7", 0x17f002c, 0, 1, 0, 1, 7, 15, 0, 0, 0, 0, 0, 0, 0, false⟩,
  ⟨"CAN_XCAP_W8", 0x17f0030, 0, 1, 0, 1, 8, 15, 0, 0, 0, 0, 0, 0, 0, false⟩,
  ⟨"CAN_XCAP_W9", 0x17f0034, 0, 1, 0, 1, 9, 15, 0, 0, 0, 0, 0, 0, 0, false⟩,
  ⟨"CAN_XCAP_W10", 0x17f0038, 0, 1, 0, 1, 10, 15, 0, 0, 0, 0, 0, 0, 0, false⟩,
  ⟨"CAN_XCAP_W11", 0x17f003c, 0, 1, 0, 1, 11, 15, 0, 0, 0, 0, 0, 0, 0, false⟩,
  ⟨"CAN_XCAP_W12", 0x17f0040, 0, 1, 0, 1, 12, 15, 0, 0, 0, 0, 0, 0, 0, false⟩,
  ⟨"CAN_XCAP_W13", 0x17f0044, 0, 1, 0, 1, 13, 15, 0, 0, 0, 0, 0, 0, 0, false⟩]

/-- Registers of region 7, CAN. -/
def rowsCan1 : List Row := [
  ⟨"CAN_XCAP_HI", 0x17f0048, 0, 1, 0, 1, 14, 15, 0, 0, 0, 0, 0, 0, 0xfff00000, false⟩,
  ⟨"CAN_TXO_W0", 0x1404000, 0x10000, 16, 0x50, 512, 0, 1, 0, 0xffffffff, 0, 0, 0, 0, 0, false⟩,
  ⟨"CAN_TXO_W1", 0x1404004, 0x10000, 16, 0x50, 512, 0, 1, 0, 0xf8000fff, 0, 0x4000000, 0, 0, 0x3fff000, false⟩,
  ⟨"CAN_TXO_W2", 0x1404008, 0x10000, 16, 0x50, 512, 0, 1, 0, 0xffff8000, 0, 0, 0, 0, 0x7fff, false⟩,
  ⟨"CAN_TXO_W3", 0x140400c, 0x10000, 16, 0x50, 512, 0, 1, 0, 0xffffffff, 0, 0, 0, 0, 0, false⟩,
  ⟨"CAN_TXO_W4", 0x1404010, 0x10000, 16, 0x50, 512, 0, 1, 0, 0xffffffff, 0, 0, 0, 0, 0, false⟩,
  ⟨"CAN_TXO_W5", 0x1404014, 0x10000, 16, 0x50, 512, 0, 1, 0, 0xffffffff, 0, 0, 0, 0, 0, false⟩,
  ⟨"CAN_TXO_W6", 0x1404018, 0x10000, 16, 0x50, 512, 0, 1, 0, 0xffffffff, 0, 0, 0, 0, 0, false⟩,
  ⟨"CAN_TXO_W7", 0x140401c, 0x10000, 16, 0x50, 512, 0, 1, 0, 0xffffffff, 0, 0, 0, 0, 0, false⟩,
  ⟨"CAN_TXO_W8", 0x1404020, 0x10000, 16, 0x50, 512, 0, 1, 0, 0xffffffff, 0, 0, 0, 0, 0, false⟩,
  ⟨"CAN_TXO_W9", 0x1404024, 0x10000, 16, 0x50, 512, 0, 1, 0, 0xffffffff, 0, 0, 0, 0, 0, false⟩,
  ⟨"CAN_TXO_W10", 0x1404028, 0x10000, 16, 0x50, 512, 0, 1, 0, 0xffffffff, 0, 0, 0, 0, 0, false⟩,
  ⟨"CAN_TXO_W11", 0x140402c, 0x10000, 16, 0x50, 512, 0, 1, 0, 0xffffffff, 0, 0, 0, 0, 0, false⟩,
  ⟨"CAN_TXO_W12", 0x1404030, 0x10000, 16, 0x50, 512, 0, 1, 0, 0xffffffff, 0, 0, 0, 0, 0, false⟩,
  ⟨"CAN_TXO_W13", 0x1404034, 0x10000, 16, 0x50, 512, 0, 1, 0, 0xffffffff, 0, 0, 0, 0, 0, false⟩,
  ⟨"CAN_TXO_W14", 0x1404038, 0x10000, 16, 0x50, 512, 0, 1, 0, 0xffffffff, 0, 0, 0, 0, 0, false⟩,
  ⟨"CAN_TXO_W15", 0x140403c, 0x10000, 16, 0x50, 512, 0, 1, 0, 0xffffffff, 0, 0, 0, 0, 0, false⟩,
  ⟨"CAN_TXO_W16", 0x1404040, 0x10000, 16, 0x50, 512, 0, 1, 0, 0xffffffff, 0, 0, 0, 0, 0, false⟩,
  ⟨"CAN_TXO_W17", 0x1404044, 0x10000, 16, 0x50, 512, 0, 1, 0, 0xffffffff, 0, 0, 0, 0, 0, false⟩,
  ⟨"CAN_TXO_W18", 0x1404048, 0x10000, 16, 0x50, 512, 0, 1, 0, 0xffffffff, 0, 0, 0, 0, 0, false⟩,
  ⟨"CAN_TXO_W19", 0x140404c, 0x10000, 16, 0x50, 512, 0, 1, 0, 0xffffffff, 0, 0, 0, 0, 0, false⟩,
  ⟨"CAN_RXO_W0", 0x1500000, 0x2d000, 16, 0x48, 2560, 0, 1, 0, 0, 0, 0xc0000000, 0, 0, 0x7f000, false⟩,
  ⟨"CAN_RXO_W1", 0x1500004, 0x2d000, 16, 0x48, 2560, 0, 1, 0, 0, 0, 0, 0, 0, 0, false⟩,
  ⟨"CAN_RXO_W2", 0x1500008, 0x2d000, 16, 0x48, 2560, 0, 1, 0, 0, 0, 0, 0, 0, 0, false⟩,
  ⟨"CAN_RXO_W3", 0x150000c, 0x2d000, 16, 0x48, 2560, 0, 1, 0, 0, 0, 0, 0, 0, 0, false⟩,
  ⟨"CAN_RXO_W4", 0x1500010, 0x2d000, 16, 0x48, 2560, 0, 1, 0, 0, 0, 0, 0, 0, 0, false⟩,
  ⟨"CAN_RXO_W5", 0x1500014, 0x2d000, 16, 0x48, 2560, 0, 1, 0, 0, 0, 0, 0, 0, 0, false⟩,
  ⟨"CAN_RXO_W6", 0x1500018, 0x2d000, 16, 0x48, 2560, 0, 1, 0, 0, 0, 0, 0, 0, 0, false⟩,
  ⟨"CAN_RXO_W7", 0x150001c, 0x2d000, 16, 0x48, 2560, 0, 1, 0, 0, 0, 0, 0, 0, 0, false⟩,
  ⟨"CAN_RXO_W8", 0x1500020, 0x2d000, 16, 0x48, 2560, 0, 1, 0, 0, 0, 0, 0, 0, 0, false⟩,
  ⟨"CAN_RXO_W9", 0x1500024, 0x2d000, 16, 0x48, 2560, 0, 1, 0, 0, 0, 0, 0, 0, 0, false⟩,
  ⟨"CAN_RXO_W10", 0x1500028, 0x2d000, 16, 0x48, 2560, 0, 1, 0, 0, 0, 0, 0, 0, 0, false⟩,
  ⟨"CAN_RXO_W11", 0x150002c, 0x2d000, 16, 0x48, 2560, 0, 1, 0, 0, 0, 0, 0, 0, 0, false⟩,
  ⟨"CAN_RXO_W12", 0x1500030, 0x2d000, 16, 0x48, 2560, 0, 1, 0, 0, 0, 0, 0, 0, 0, false⟩,
  ⟨"CAN_RXO_W13", 0x1500034, 0x2d000, 16, 0x48, 2560, 0, 1, 0, 0, 0, 0, 0, 0, 0, false⟩,
  ⟨"CAN_RXO_W14", 0x1500038, 0x2d000, 16, 0x48, 2560, 0, 1, 0, 0, 0, 0, 0, 0, 0, false⟩,
  ⟨"CAN_RXO_W15", 0x150003c, 0x2d000, 16, 0x48, 2560, 0, 1, 0, 0, 0, 0, 0, 0, 0, false⟩,
  ⟨"CAN_RXO_W16", 0x1500040, 0x2d000, 16, 0x48, 2560, 0, 1, 0, 0, 0, 0, 0, 0, 0, false⟩,
  ⟨"CAN_RXO_W17", 0x1500044, 0x2d000, 16, 0x48, 2560, 0, 1, 0, 0, 0, 0, 0, 0, 0, false⟩,
  ⟨"CAN_TX_OK_LO", 0x1400108, 0x10000, 16, 0, 1, 0, 2, 0, 0, 0, 0, 0, 0, 0, true⟩]

/-- Registers of region 7, CAN. -/
def rowsCan2 : List Row := [
  ⟨"CAN_TX_OK_HI", 0x140010c, 0x10000, 16, 0, 1, 1, 2, 0, 0, 0, 0, 0, 0, 0, true⟩,
  ⟨"CAN_RX_LOST_LO", 0x1400110, 0x10000, 16, 0, 1, 0, 2, 0, 0, 0, 0, 0, 0, 0, true⟩,
  ⟨"CAN_RX_LOST_HI", 0x1400114, 0x10000, 16, 0, 1, 1, 2, 0, 0, 0, 0, 0, 0, 0, true⟩,
  ⟨"CAN_RX_NOOBJ_LO", 0x1400118, 0x10000, 16, 0, 1, 0, 2, 0, 0, 0, 0, 0, 0, 0, true⟩,
  ⟨"CAN_RX_NOOBJ_HI", 0x140011c, 0x10000, 16, 0, 1, 1, 2, 0, 0, 0, 0, 0, 0, 0, true⟩,
  ⟨"CAN_DEL_DROP_LO", 0x1400120, 0x10000, 16, 0, 1, 0, 2, 0, 0, 0, 0, 0, 0, 0, true⟩,
  ⟨"CAN_DEL_DROP_HI", 0x1400124, 0x10000, 16, 0, 1, 1, 2, 0, 0, 0, 0, 0, 0, 0, true⟩,
  ⟨"CAN_BIT_ERR_LO", 0x1400128, 0x10000, 16, 0, 1, 0, 2, 0, 0, 0, 0, 0, 0, 0, true⟩,
  ⟨"CAN_BIT_ERR_HI", 0x140012c, 0x10000, 16, 0, 1, 1, 2, 0, 0, 0, 0, 0, 0, 0, true⟩,
  ⟨"CAN_STUFF_ERR_LO", 0x1400130, 0x10000, 16, 0, 1, 0, 2, 0, 0, 0, 0, 0, 0, 0, true⟩,
  ⟨"CAN_STUFF_ERR_HI", 0x1400134, 0x10000, 16, 0, 1, 1, 2, 0, 0, 0, 0, 0, 0, 0, true⟩,
  ⟨"CAN_FORM_ERR_LO", 0x1400138, 0x10000, 16, 0, 1, 0, 2, 0, 0, 0, 0, 0, 0, 0, true⟩,
  ⟨"CAN_FORM_ERR_HI", 0x140013c, 0x10000, 16, 0, 1, 1, 2, 0, 0, 0, 0, 0, 0, 0, true⟩,
  ⟨"CAN_CRC_ERR_LO", 0x1400140, 0x10000, 16, 0, 1, 0, 2, 0, 0, 0, 0, 0, 0, 0, true⟩,
  ⟨"CAN_CRC_ERR_HI", 0x1400144, 0x10000, 16, 0, 1, 1, 2, 0, 0, 0, 0, 0, 0, 0, true⟩,
  ⟨"CAN_ACK_ERR_LO", 0x1400148, 0x10000, 16, 0, 1, 0, 2, 0, 0, 0, 0, 0, 0, 0, true⟩,
  ⟨"CAN_ACK_ERR_HI", 0x140014c, 0x10000, 16, 0, 1, 1, 2, 0, 0, 0, 0, 0, 0, 0, true⟩,
  ⟨"CAN_ARB_LOST_LO", 0x1400150, 0x10000, 16, 0, 1, 0, 2, 0, 0, 0, 0, 0, 0, 0, true⟩,
  ⟨"CAN_ARB_LOST_HI", 0x1400154, 0x10000, 16, 0, 1, 1, 2, 0, 0, 0, 0, 0, 0, 0, true⟩,
  ⟨"CAN_PASSIVE_LO", 0x1400158, 0x10000, 16, 0, 1, 0, 2, 0, 0, 0, 0, 0, 0, 0, true⟩,
  ⟨"CAN_PASSIVE_HI", 0x140015c, 0x10000, 16, 0, 1, 1, 2, 0, 0, 0, 0, 0, 0, 0, true⟩,
  ⟨"CAN_BUSOFF_LO", 0x1400160, 0x10000, 16, 0, 1, 0, 2, 0, 0, 0, 0, 0, 0, 0, true⟩,
  ⟨"CAN_BUSOFF_HI", 0x1400164, 0x10000, 16, 0, 1, 1, 2, 0, 0, 0, 0, 0, 0, 0, true⟩,
  ⟨"CAN_PEX_LO", 0x1400168, 0x10000, 16, 0, 1, 0, 2, 0, 0, 0, 0, 0, 0, 0, true⟩,
  ⟨"CAN_PEX_HI", 0x140016c, 0x10000, 16, 0, 1, 1, 2, 0, 0, 0, 0, 0, 0, 0, true⟩,
  ⟨"CAN_SCH_MISS_LO", 0x1400170, 0x10000, 16, 0, 1, 0, 2, 0, 0, 0, 0, 0, 0, 0, true⟩,
  ⟨"CAN_SCH_MISS_HI", 0x1400174, 0x10000, 16, 0, 1, 1, 2, 0, 0, 0, 0, 0, 0, 0, true⟩,
  ⟨"CAN_SCH_EMPTY_LO", 0x1400178, 0x10000, 16, 0, 1, 0, 2, 0, 0, 0, 0, 0, 0, 0, true⟩,
  ⟨"CAN_SCH_EMPTY_HI", 0x140017c, 0x10000, 16, 0, 1, 1, 2, 0, 0, 0, 0, 0, 0, 0, true⟩,
  ⟨"CAN_TX_BAD_LO", 0x1400180, 0x10000, 16, 0, 1, 0, 2, 0, 0, 0, 0, 0, 0, 0, true⟩,
  ⟨"CAN_TX_BAD_HI", 0x1400184, 0x10000, 16, 0, 1, 1, 2, 0, 0, 0, 0, 0, 0, 0, true⟩,
  ⟨"CAN_XL_TRUNC_LO", 0x1400188, 0x10000, 16, 0, 1, 0, 2, 0, 0, 0, 0, 0, 0, 0, true⟩,
  ⟨"CAN_XL_TRUNC_HI", 0x140018c, 0x10000, 16, 0, 1, 1, 2, 0, 0, 0, 0, 0, 0, 0, true⟩]

/-- All registers of region 7, CAN (R33). -/
def rowsCan : List Row := rowsCan0 ++ rowsCan1 ++ rowsCan2

/-- Registers of region 8, GW. -/
def rowsGw0 : List Row := [
  ⟨"GW_CFG", 0x1800000, 0, 1, 0, 1, 0, 1, 0, 0xff, 0, 0, 0, 0, 0xffffff00, false⟩,
  ⟨"GW_DST_CFG", 0x1800100, 0x10, 16, 0, 1, 0, 1, 0, 0x800001ff, 0, 0, 0, 0, 0x7ffffe00, false⟩,
  ⟨"GW_DST_RATE", 0x1800104, 0x10, 16, 0, 1, 0, 1, 0x1000, 0xffffff00, 0, 0, 0, 0, 0xff, false⟩,
  ⟨"GW_DST_STS", 0x1800108, 0x10, 16, 0, 1, 0, 1, 0, 0, 0, 0, 0, 0, 0xffffff80, false⟩,
  ⟨"GW_RT_MATCH", 0x1810000, 0x10, 1024, 0, 1, 0, 1, 0, 0xfffffff8, 0, 0, 0, 0, 7, false⟩,
  ⟨"GW_RT_ACT", 0x1810004, 0x10, 1024, 0, 1, 0, 1, 0x20, 0xffffffe0, 0, 0, 0, 0, 0x1f, false⟩,
  ⟨"GW_RT_ID", 0x1810008, 0x10, 1024, 0, 1, 0, 1, 0, 0x9fffffff, 0, 0, 0, 0, 0x60000000, false⟩,
  ⟨"GW_RT_TXO", 0x181000c, 0x10, 1024, 0, 1, 0, 1, 0, 0x1ff, 0, 0, 0, 0, 0xfffffe00, false⟩,
  ⟨"GW_PK_CFG", 0x1820000, 0x40, 32, 0, 1, 0, 1, 0x10000000, 0xffc03fff, 0, 0, 0, 0, 0x3fc000, false⟩,
  ⟨"GW_PK_LIM", 0x1820004, 0x40, 32, 0, 1, 0, 1, 0x1405f2, 0xffffffff, 0, 0, 0, 0, 0, false⟩,
  ⟨"GW_PK_TIME", 0x1820008, 0x40, 32, 0, 1, 0, 1, 0x3e8, 0xffffffff, 0, 0, 0, 0, 0, false⟩,
  ⟨"GW_PK_STS", 0x182001c, 0x40, 32, 0, 1, 0, 1, 0, 0, 0, 0, 0, 0, 0xffffc0, false⟩,
  ⟨"GW_UP_CFG", 0x1830000, 0x10, 32, 0, 1, 0, 1, 0, 0x8000ffff, 0, 0, 0, 0, 0x7fff0000, false⟩,
  ⟨"GW_JIG_LO", 0x1840000, 0x10, 4096, 0, 1, 0, 4, 0, 0xffffffff, 0, 0, 0, 0, 0, false⟩,
  ⟨"GW_JIG_W1", 0x1840004, 0x10, 4096, 0, 1, 1, 4, 0, 0xfffffff8, 0, 0, 0, 0, 7, false⟩,
  ⟨"GW_JIG_STS", 0x1850000, 4, 4096, 0, 1, 0, 1, 0, 0, 0, 0, 0, 0, 0x3fffffff, false⟩,
  ⟨"GW_JIG_TMO", 0x1854000, 4, 7, 0, 1, 0, 1, 0x64, 0xffff, 0, 0, 0, 0, 0xffff0000, false⟩,
  ⟨"GW_CMA_CFG", 0x1860000, 0x20, 256, 0, 1, 0, 1, 0x500, 0xffffffff, 0, 0, 0, 0, 0, false⟩,
  ⟨"GW_CMA_ID", 0x1860004, 0x20, 256, 0, 1, 0, 1, 0, 0xffff0fff, 0, 0, 0, 0, 0xf000, false⟩,
  ⟨"GW_CMA_STS", 0x1860010, 0x20, 256, 0, 1, 0, 1, 0, 0, 0, 0, 0, 0, 0xffffff, false⟩,
  ⟨"GW_EVT", 0x1800010, 0, 1, 0, 1, 0, 1, 0, 0, 0, 0x7ff, 0, 0, 0xfffff800, false⟩,
  ⟨"GW_SA_LO", 0x1800008, 0, 1, 0, 1, 0, 2, 0, 0xffffffff, 0, 0, 0, 0, 0, false⟩,
  ⟨"GW_SA_HI", 0x180000c, 0, 1, 0, 1, 1, 2, 0, 0xffff, 0, 0, 0, 0, 0xffff0000, false⟩,
  ⟨"GW_PK_SID_LO", 0x182000c, 0x40, 32, 0, 1, 0, 2, 0, 0xffffffff, 0, 0, 0, 0, 0, false⟩,
  ⟨"GW_PK_SID_HI", 0x1820010, 0x40, 32, 0, 1, 1, 2, 0, 0xffffffff, 0, 0, 0, 0, 0, false⟩,
  ⟨"GW_PK_DA_LO", 0x1820014, 0x40, 32, 0, 1, 0, 2, 0, 0xffffffff, 0, 0, 0, 0, 0, false⟩,
  ⟨"GW_PK_DA_HI", 0x1820018, 0x40, 32, 0, 1, 1, 2, 0, 0xffff, 0, 0, 0, 0, 0xffff0000, false⟩,
  ⟨"GW_UP_SID_LO", 0x1830004, 0x10, 32, 0, 1, 0, 2, 0, 0xffffffff, 0, 0, 0, 0, 0, false⟩,
  ⟨"GW_UP_SID_HI", 0x1830008, 0x10, 32, 0, 1, 1, 2, 0, 0xffffffff, 0, 0, 0, 0, 0, false⟩,
  ⟨"GW_JIG_W2", 0x1840008, 0x10, 4096, 0, 1, 2, 4, 0, 0xffffffff, 0, 0, 0, 0, 0, false⟩,
  ⟨"GW_JIG_HI", 0x184000c, 0x10, 4096, 0, 1, 3, 4, 0, 0xffffffff, 0, 0, 0, 0, 0, false⟩,
  ⟨"GW_CMA_FRESH_LO", 0x1860008, 0x20, 256, 0, 1, 0, 2, 0, 0xffffffff, 0, 0, 0, 0, 0, false⟩,
  ⟨"GW_CMA_FRESH_HI", 0x186000c, 0x20, 256, 0, 1, 1, 2, 0, 0xffffffff, 0, 0, 0, 0, 0, false⟩,
  ⟨"GW_EVT_EN", 0x1800014, 0, 1, 0, 1, 0, 1, 0x650, 0x7ff, 0, 0, 0, 0, 0xfffff800, false⟩,
  ⟨"GW_RT_IN_LO", 0x1880000, 8, 16, 0, 1, 0, 2, 0, 0, 0, 0, 0, 0, 0, true⟩,
  ⟨"GW_RT_IN_HI", 0x1880004, 8, 16, 0, 1, 1, 2, 0, 0, 0, 0, 0, 0, 0, true⟩,
  ⟨"GW_RT_NOROUTE_LO", 0x1880080, 8, 16, 0, 1, 0, 2, 0, 0, 0, 0, 0, 0, 0, true⟩,
  ⟨"GW_RT_NOROUTE_HI", 0x1880084, 8, 16, 0, 1, 1, 2, 0, 0, 0, 0, 0, 0, 0, true⟩,
  ⟨"GW_CMA_PASS_LO", 0x1880100, 8, 16, 0, 1, 0, 2, 0, 0, 0, 0, 0, 0, 0, true⟩,
  ⟨"GW_CMA_PASS_HI", 0x1880104, 8, 16, 0, 1, 1, 2, 0, 0, 0, 0, 0, 0, 0, true⟩]

/-- Registers of region 8, GW. -/
def rowsGw1 : List Row := [
  ⟨"GW_CMA_FAIL_LO", 0x1880180, 8, 16, 0, 1, 0, 2, 0, 0, 0, 0, 0, 0, 0, true⟩,
  ⟨"GW_CMA_FAIL_HI", 0x1880184, 8, 16, 0, 1, 1, 2, 0, 0, 0, 0, 0, 0, 0, true⟩,
  ⟨"GW_CMA_UNVER_LO", 0x1880200, 8, 16, 0, 1, 0, 2, 0, 0, 0, 0, 0, 0, 0, true⟩,
  ⟨"GW_CMA_UNVER_HI", 0x1880204, 8, 16, 0, 1, 1, 2, 0, 0, 0, 0, 0, 0, 0, true⟩,
  ⟨"GW_TX_IN_LO", 0x1880280, 8, 16, 0, 1, 0, 2, 0, 0, 0, 0, 0, 0, 0, true⟩,
  ⟨"GW_TX_IN_HI", 0x1880284, 8, 16, 0, 1, 1, 2, 0, 0, 0, 0, 0, 0, 0, true⟩,
  ⟨"GW_OVW_LO", 0x1880300, 8, 16, 0, 1, 0, 2, 0, 0, 0, 0, 0, 0, 0, true⟩,
  ⟨"GW_OVW_HI", 0x1880304, 8, 16, 0, 1, 1, 2, 0, 0, 0, 0, 0, 0, 0, true⟩,
  ⟨"GW_BUSY_DROP_LO", 0x1880380, 8, 16, 0, 1, 0, 2, 0, 0, 0, 0, 0, 0, 0, true⟩,
  ⟨"GW_BUSY_DROP_HI", 0x1880384, 8, 16, 0, 1, 1, 2, 0, 0, 0, 0, 0, 0, 0, true⟩,
  ⟨"GW_NOSEND_LO", 0x1880400, 8, 16, 0, 1, 0, 2, 0, 0, 0, 0, 0, 0, 0, true⟩,
  ⟨"GW_NOSEND_HI", 0x1880404, 8, 16, 0, 1, 1, 2, 0, 0, 0, 0, 0, 0, 0, true⟩,
  ⟨"GW_RATE_DROP_LO", 0x1880480, 8, 16, 0, 1, 0, 2, 0, 0, 0, 0, 0, 0, 0, true⟩,
  ⟨"GW_RATE_DROP_HI", 0x1880484, 8, 16, 0, 1, 1, 2, 0, 0, 0, 0, 0, 0, 0, true⟩,
  ⟨"GW_CMA_GEN_LO", 0x1880500, 8, 16, 0, 1, 0, 2, 0, 0, 0, 0, 0, 0, 0, true⟩,
  ⟨"GW_CMA_GEN_HI", 0x1880504, 8, 16, 0, 1, 1, 2, 0, 0, 0, 0, 0, 0, 0, true⟩,
  ⟨"GW_CMA_HELD_LO", 0x1880580, 8, 16, 0, 1, 0, 2, 0, 0, 0, 0, 0, 0, 0, true⟩,
  ⟨"GW_CMA_HELD_HI", 0x1880584, 8, 16, 0, 1, 1, 2, 0, 0, 0, 0, 0, 0, 0, true⟩,
  ⟨"GW_PK_MSG_LO", 0x1880600, 8, 32, 0, 1, 0, 2, 0, 0, 0, 0, 0, 0, 0, true⟩,
  ⟨"GW_PK_MSG_HI", 0x1880604, 8, 32, 0, 1, 1, 2, 0, 0, 0, 0, 0, 0, 0, true⟩,
  ⟨"GW_PK_PDU_LO", 0x1880700, 8, 32, 0, 1, 0, 2, 0, 0, 0, 0, 0, 0, 0, true⟩,
  ⟨"GW_PK_PDU_HI", 0x1880704, 8, 32, 0, 1, 1, 2, 0, 0, 0, 0, 0, 0, 0, true⟩,
  ⟨"GW_PK_DROP_LO", 0x1880800, 8, 32, 0, 1, 0, 2, 0, 0, 0, 0, 0, 0, 0, true⟩,
  ⟨"GW_PK_DROP_HI", 0x1880804, 8, 32, 0, 1, 1, 2, 0, 0, 0, 0, 0, 0, 0, true⟩,
  ⟨"GW_UP_PDU_LO", 0x1880900, 8, 32, 0, 1, 0, 2, 0, 0, 0, 0, 0, 0, 0, true⟩,
  ⟨"GW_UP_PDU_HI", 0x1880904, 8, 32, 0, 1, 1, 2, 0, 0, 0, 0, 0, 0, 0, true⟩,
  ⟨"GW_UP_MSG_LO", 0x1880a00, 8, 32, 0, 1, 0, 2, 0, 0, 0, 0, 0, 0, 0, true⟩,
  ⟨"GW_UP_MSG_HI", 0x1880a04, 8, 32, 0, 1, 1, 2, 0, 0, 0, 0, 0, 0, 0, true⟩,
  ⟨"GW_UP_ERR_LO", 0x1880b00, 8, 32, 0, 1, 0, 2, 0, 0, 0, 0, 0, 0, 0, true⟩,
  ⟨"GW_UP_ERR_HI", 0x1880b04, 8, 32, 0, 1, 1, 2, 0, 0, 0, 0, 0, 0, 0, true⟩,
  ⟨"GW_UP_SEQ_LO", 0x1880c00, 8, 32, 0, 1, 0, 2, 0, 0, 0, 0, 0, 0, 0, true⟩,
  ⟨"GW_UP_SEQ_HI", 0x1880c04, 8, 32, 0, 1, 1, 2, 0, 0, 0, 0, 0, 0, 0, true⟩,
  ⟨"GW_UP_NOCTX_LO", 0x1880d00, 0, 1, 0, 1, 0, 2, 0, 0, 0, 0, 0, 0, 0, true⟩,
  ⟨"GW_UP_NOCTX_HI", 0x1880d04, 0, 1, 0, 1, 1, 2, 0, 0, 0, 0, 0, 0, 0, true⟩,
  ⟨"GW_JIG_MOVE_LO", 0x1880d08, 0, 1, 0, 1, 0, 2, 0, 0, 0, 0, 0, 0, 0, true⟩,
  ⟨"GW_JIG_MOVE_HI", 0x1880d0c, 0, 1, 0, 1, 1, 2, 0, 0, 0, 0, 0, 0, 0, true⟩,
  ⟨"GW_JIG_SHORT_LO", 0x1880d10, 0, 1, 0, 1, 0, 2, 0, 0, 0, 0, 0, 0, 0, true⟩,
  ⟨"GW_JIG_SHORT_HI", 0x1880d14, 0, 1, 0, 1, 1, 2, 0, 0, 0, 0, 0, 0, 0, true⟩,
  ⟨"GW_JIG_BAD_LO", 0x1880d18, 0, 1, 0, 1, 0, 2, 0, 0, 0, 0, 0, 0, 0, true⟩,
  ⟨"GW_JIG_BAD_HI", 0x1880d1c, 0, 1, 0, 1, 1, 2, 0, 0, 0, 0, 0, 0, 0, true⟩]

/-- Registers of region 8, GW. -/
def rowsGw2 : List Row := [
  ⟨"GW_JIG_TMO_LO", 0x1880d20, 0, 1, 0, 1, 0, 2, 0, 0, 0, 0, 0, 0, 0, true⟩,
  ⟨"GW_JIG_TMO_HI", 0x1880d24, 0, 1, 0, 1, 1, 2, 0, 0, 0, 0, 0, 0, 0, true⟩,
  ⟨"GW_JIG_DROP_LO", 0x1880d28, 0, 1, 0, 1, 0, 2, 0, 0, 0, 0, 0, 0, 0, true⟩,
  ⟨"GW_JIG_DROP_HI", 0x1880d2c, 0, 1, 0, 1, 1, 2, 0, 0, 0, 0, 0, 0, 0, true⟩]

/-- All registers of region 8, GW (R33). -/
def rowsGw : List Row := rowsGw0 ++ rowsGw1 ++ rowsGw2

/-- Registers of region 9, TIME. -/
def rowsTime0 : List Row := [
  ⟨"TB_CFG", 0x1a00000, 0x100, 4, 0, 1, 0, 1, 0x32000000, 0xfe000000, 0, 0, 0, 0, 0x1ffffff, false⟩,
  ⟨"TB_STS", 0x1a00004, 0x100, 4, 0, 1, 0, 1, 0, 0, 0, 0, 0, 0, 0x7ffff00, false⟩,
  ⟨"TB_TIME_LO", 0x1a00008, 0x100, 4, 0, 1, 0, 3, 0, 0, 0, 0, 0, 0, 0xc0000000, false⟩,
  ⟨"TB_INC_LO", 0x1a00014, 0x100, 4, 0, 1, 0, 2, 0, 0xffffffff, 0, 0, 0, 0, 0, false⟩,
  ⟨"TB_INC_HI", 0x1a00018, 0x100, 4, 0, 1, 1, 2, 2, 0xff, 0, 0, 0, 0, 0xffffff00, false⟩,
  ⟨"TB_CMD", 0x1a00030, 0x100, 4, 0, 1, 0, 1, 0, 0, 0, 0, 0, 0xc0000007, 0x3ffffff8, false⟩,
  ⟨"TB_SRV_GAIN", 0x1a00034, 0x100, 4, 0, 1, 0, 1, 0x800100, 0xffffffff, 0, 0, 0, 0, 0, false⟩,
  ⟨"TB_SRV_THR", 0x1a00038, 0x100, 4, 0, 1, 0, 1, 0x3e80064, 0xffffffff, 0, 0, 0, 0, 0, false⟩,
  ⟨"TB_SRV_TMO", 0x1a0003c, 0x100, 4, 0, 1, 0, 1, 0x80003e8, 0xff00ffff, 0, 0, 0, 0, 0xff0000, false⟩,
  ⟨"TB_SRV_OFS", 0x1a00040, 0x100, 4, 0, 1, 0, 1, 0, 0, 0, 0, 0, 0, 0, false⟩,
  ⟨"TB_SRV_ADJ", 0x1a00044, 0x100, 4, 0, 1, 0, 1, 0, 0, 0, 0, 0, 0, 0, false⟩,
  ⟨"TB_EVT", 0x1a00048, 0x100, 4, 0, 1, 0, 1, 0, 0, 0, 0x3f, 0, 0, 0xffffffc0, false⟩,
  ⟨"TIME_EVT", 0x1a40000, 0, 1, 0, 1, 0, 1, 0, 0, 0, 0x1ff, 0, 0, 0xfffffe00, false⟩,
  ⟨"TG_CFG", 0x1a10000, 0x40, 32, 0, 1, 0, 1, 0, 0xfff00000, 0, 0, 0, 0, 0xfffff, false⟩,
  ⟨"TG_PER_LO", 0x1a10010, 0x40, 32, 0, 1, 0, 2, 0, 0xffffffff, 0, 0, 0, 0, 0, false⟩,
  ⟨"TG_PER_HI", 0x1a10014, 0x40, 32, 0, 1, 1, 2, 0, 0xff, 0, 0, 0, 0, 0xffffff00, false⟩,
  ⟨"TG_WIDTH", 0x1a10018, 0x40, 32, 0, 1, 0, 1, 0x2710, 0xffffffff, 0, 0, 0, 0, 0, false⟩,
  ⟨"TG_STS", 0x1a1001c, 0x40, 32, 0, 1, 0, 1, 0, 0, 0, 0, 0, 0, 0x3fff0000, false⟩,
  ⟨"CAP_CFG", 0x1a20000, 0x200, 9, 0, 1, 0, 1, 0x20000000, 0xf800ffff, 0, 0, 0, 0, 0x7ff0000, false⟩,
  ⟨"CAP_PTR", 0x1a20004, 0x200, 9, 0, 1, 0, 1, 0, 0x1f, 0, 0, 0, 0, 0xffe0ffe0, false⟩,
  ⟨"TP_GLB", 0x1a30000, 0, 1, 0, 1, 0, 1, 0x20, 0x8000003f, 0, 0, 0, 0, 0x7fffffc0, false⟩,
  ⟨"TP_DOM_CFG", 0x1a30100, 0x20, 4, 0, 1, 0, 1, 0x4f8d0000, 0xff8f00ff, 0, 0, 0, 0, 0x70ff00, false⟩,
  ⟨"TP_DOM_MASTER", 0x1a30104, 0x20, 4, 0, 1, 0, 1, 0, 0xffffff, 0, 0, 0, 0, 0xff000000, false⟩,
  ⟨"TP_DOM_STS", 0x1a30108, 0x20, 4, 0, 1, 0, 1, 0, 0, 0, 0, 0, 0, 0x3fff0000, false⟩,
  ⟨"TP_DOM_RR", 0x1a3010c, 0x20, 4, 0, 1, 0, 1, 0, 0, 0, 0, 0, 0, 0, false⟩,
  ⟨"TP_PORT_CFG", 0x1a31000, 0x10, 24, 0, 1, 0, 1, 0x300320, 0xcfffffff, 0, 0, 0, 0, 0x30000000, false⟩,
  ⟨"TP_PORT_DLY", 0x1a31004, 0x10, 24, 0, 1, 0, 1, 0, 0, 0, 0, 0, 0, 0, false⟩,
  ⟨"TP_PORT_NRR", 0x1a31008, 0x10, 24, 0, 1, 0, 1, 0, 0, 0, 0, 0, 0, 0, false⟩,
  ⟨"TP_PORT_STS", 0x1a3100c, 0x10, 24, 0, 1, 0, 1, 0, 0, 0, 0, 0, 0, 0x7fffff00, false⟩,
  ⟨"TB_SET_LO", 0x1a0001c, 0x100, 4, 0, 1, 0, 3, 0, 0xffffffff, 0, 0, 0, 0, 0, false⟩,
  ⟨"TB_SET_W1", 0x1a00020, 0x100, 4, 0, 1, 1, 3, 0, 0xffffffff, 0, 0, 0, 0, 0, false⟩,
  ⟨"TB_SET_HI", 0x1a00024, 0x100, 4, 0, 1, 2, 3, 0, 0xffffffff, 0, 0, 0, 0, 0, false⟩,
  ⟨"TB_TIME_W1", 0x1a0000c, 0x100, 4, 0, 1, 1, 3, 0, 0, 0, 0, 0, 0, 0, false⟩,
  ⟨"TB_TIME_HI", 0x1a00010, 0x100, 4, 0, 1, 2, 3, 0, 0, 0, 0, 0, 0, 0, false⟩,
  ⟨"TB_OFS_LO", 0x1a00028, 0x100, 4, 0, 1, 0, 2, 0, 0xffffffff, 0, 0, 0, 0, 0, false⟩,
  ⟨"TB_OFS_HI", 0x1a0002c, 0x100, 4, 0, 1, 1, 2, 0, 0xffffffff, 0, 0, 0, 0, 0, false⟩,
  ⟨"TB_EVT_EN", 0x1a0004c, 0x100, 4, 0, 1, 0, 1, 0x2c, 0x3f, 0, 0, 0, 0, 0xffffffc0, false⟩,
  ⟨"TIME_EVT_EN", 0x1a40004, 0, 1, 0, 1, 0, 1, 0x124, 0x1ff, 0, 0, 0, 0, 0xfffffe00, false⟩,
  ⟨"TG_START_LO", 0x1a10004, 0x40, 32, 0, 1, 0, 3, 0, 0xffffffff, 0, 0, 0, 0, 0, false⟩,
  ⟨"TG_START_W1", 0x1a10008, 0x40, 32, 0, 1, 1, 3, 0, 0xffffffff, 0, 0, 0, 0, 0, false⟩]

/-- Registers of region 9, TIME. -/
def rowsTime1 : List Row := [
  ⟨"TG_START_HI", 0x1a1000c, 0x40, 32, 0, 1, 2, 3, 0, 0xffffffff, 0, 0, 0, 0, 0, false⟩,
  ⟨"CAP_ENT_LO", 0x1a20010, 0x200, 9, 0x10, 16, 0, 3, 0, 0, 0, 0, 0, 0, 0, false⟩,
  ⟨"CAP_ENT_W1", 0x1a20014, 0x200, 9, 0x10, 16, 1, 3, 0, 0, 0, 0, 0, 0, 0, false⟩,
  ⟨"CAP_ENT_HI", 0x1a20018, 0x200, 9, 0x10, 16, 2, 3, 0, 0, 0, 0, 0, 0, 0, false⟩,
  ⟨"TP_CLKID_LO", 0x1a30004, 0, 1, 0, 1, 0, 2, 0, 0xffffffff, 0, 0, 0, 0, 0, false⟩,
  ⟨"TP_CLKID_HI", 0x1a30008, 0, 1, 0, 1, 1, 2, 0, 0xffffffff, 0, 0, 0, 0, 0, false⟩,
  ⟨"TB_STEP_LO", 0x1a50000, 8, 4, 0, 1, 0, 2, 0, 0, 0, 0, 0, 0, 0, true⟩,
  ⟨"TB_STEP_HI", 0x1a50004, 8, 4, 0, 1, 1, 2, 0, 0, 0, 0, 0, 0, 0, true⟩,
  ⟨"TB_CLAMP_LO", 0x1a50040, 8, 4, 0, 1, 0, 2, 0, 0, 0, 0, 0, 0, 0, true⟩,
  ⟨"TB_CLAMP_HI", 0x1a50044, 8, 4, 0, 1, 1, 2, 0, 0, 0, 0, 0, 0, 0, true⟩,
  ⟨"TP_RX_SYNC_LO", 0x1a50080, 8, 4, 0, 1, 0, 2, 0, 0, 0, 0, 0, 0, 0, true⟩,
  ⟨"TP_RX_SYNC_HI", 0x1a50084, 8, 4, 0, 1, 1, 2, 0, 0, 0, 0, 0, 0, 0, true⟩,
  ⟨"TP_TX_SYNC_LO", 0x1a500a0, 8, 4, 0, 1, 0, 2, 0, 0, 0, 0, 0, 0, 0, true⟩,
  ⟨"TP_TX_SYNC_HI", 0x1a500a4, 8, 4, 0, 1, 1, 2, 0, 0, 0, 0, 0, 0, 0, true⟩,
  ⟨"TP_SYNC_DROP_LO", 0x1a500c0, 8, 4, 0, 1, 0, 2, 0, 0, 0, 0, 0, 0, 0, true⟩,
  ⟨"TP_SYNC_DROP_HI", 0x1a500c4, 8, 4, 0, 1, 1, 2, 0, 0, 0, 0, 0, 0, 0, true⟩,
  ⟨"TP_SYNC_TMO_LO", 0x1a50100, 8, 4, 0, 1, 0, 2, 0, 0, 0, 0, 0, 0, 0, true⟩,
  ⟨"TP_SYNC_TMO_HI", 0x1a50104, 8, 4, 0, 1, 1, 2, 0, 0, 0, 0, 0, 0, 0, true⟩,
  ⟨"TP_PD_LOST_LO", 0x1a50200, 8, 24, 0, 1, 0, 2, 0, 0, 0, 0, 0, 0, 0, true⟩,
  ⟨"TP_PD_LOST_HI", 0x1a50204, 8, 24, 0, 1, 1, 2, 0, 0, 0, 0, 0, 0, 0, true⟩,
  ⟨"TP_Q_DROP_LO", 0x1a50300, 0, 1, 0, 1, 0, 2, 0, 0, 0, 0, 0, 0, 0, true⟩,
  ⟨"TP_Q_DROP_HI", 0x1a50304, 0, 1, 0, 1, 1, 2, 0, 0, 0, 0, 0, 0, 0, true⟩,
  ⟨"TG_SKIP_LO", 0x1a50400, 8, 32, 0, 1, 0, 2, 0, 0, 0, 0, 0, 0, 0, true⟩,
  ⟨"TG_SKIP_HI", 0x1a50404, 8, 32, 0, 1, 1, 2, 0, 0, 0, 0, 0, 0, 0, true⟩,
  ⟨"TG_SUPP_LO", 0x1a50500, 8, 32, 0, 1, 0, 2, 0, 0, 0, 0, 0, 0, 0, true⟩,
  ⟨"TG_SUPP_HI", 0x1a50504, 8, 32, 0, 1, 1, 2, 0, 0, 0, 0, 0, 0, 0, true⟩,
  ⟨"TG_LATE_LO", 0x1a50600, 8, 32, 0, 1, 0, 2, 0, 0, 0, 0, 0, 0, 0, true⟩,
  ⟨"TG_LATE_HI", 0x1a50604, 8, 32, 0, 1, 1, 2, 0, 0, 0, 0, 0, 0, 0, true⟩,
  ⟨"CAP_OVF_LO", 0x1a50700, 8, 9, 0, 1, 0, 2, 0, 0, 0, 0, 0, 0, 0, true⟩,
  ⟨"CAP_OVF_HI", 0x1a50704, 8, 9, 0, 1, 1, 2, 0, 0, 0, 0, 0, 0, 0, true⟩]

/-- All registers of region 9, TIME (R33). -/
def rowsTime : List Row := rowsTime0 ++ rowsTime1

/-- Registers of region 10, CRY. -/
def rowsCry0 : List Row := [
  ⟨"CRY_POOL_STS", 0x1c00000, 0, 1, 0, 1, 0, 1, 0x8000, 0, 0, 0, 0, 0, 0xff0000ff, false⟩,
  ⟨"CRY_SCHED", 0x1c00004, 0, 1, 0, 1, 0, 1, 0x64, 0xffff, 0, 0, 0, 0, 0xffff0000, false⟩,
  ⟨"CRY_CMD", 0x1c00008, 0, 1, 0, 1, 0, 1, 0, 0, 0, 0, 0, 0xc0000fff, 0x3ffff000, false⟩,
  ⟨"CRY_DRBG_CFG", 0x1c00010, 0, 1, 0, 1, 0, 1, 0x3e8, 0xffff, 0, 0, 0, 0, 0xffff0000, false⟩,
  ⟨"CRY_DRBG_STS", 0x1c00014, 0, 1, 0, 1, 0, 1, 0, 0, 0, 0, 0, 0, 0x3fffffff, false⟩,
  ⟨"CRY_CORE", 0x1c00400, 0x44, 8, 0, 1, 0, 1, 0x40000000, 0, 0, 0, 0, 0, 0x3ff07f00, false⟩,
  ⟨"CRY_CORE", 0x1c00404, 0x44, 8, 0, 1, 0, 1, 0x40010000, 0, 0, 0, 0, 0, 0x3ff07f00, false⟩,
  ⟨"CRY_CORE", 0x1c00408, 0x44, 8, 0, 1, 0, 1, 0x40020000, 0, 0, 0, 0, 0, 0x3ff07f00, false⟩,
  ⟨"CRY_CORE", 0x1c0040c, 0x44, 8, 0, 1, 0, 1, 0x40030000, 0, 0, 0, 0, 0, 0x3ff07f00, false⟩,
  ⟨"CRY_CORE", 0x1c00410, 0x44, 8, 0, 1, 0, 1, 0x40040000, 0, 0, 0, 0, 0, 0x3ff07f00, false⟩,
  ⟨"CRY_CORE", 0x1c00414, 0x44, 8, 0, 1, 0, 1, 0x40050000, 0, 0, 0, 0, 0, 0x3ff07f00, false⟩,
  ⟨"CRY_CORE", 0x1c00418, 0x44, 8, 0, 1, 0, 1, 0x40060000, 0, 0, 0, 0, 0, 0x3ff07f00, false⟩,
  ⟨"CRY_CORE", 0x1c0041c, 0x44, 8, 0, 1, 0, 1, 0x40070000, 0, 0, 0, 0, 0, 0x3ff07f00, false⟩,
  ⟨"CRY_CORE", 0x1c00420, 0x44, 8, 0, 1, 0, 1, 0x40080000, 0, 0, 0, 0, 0, 0x3ff07f00, false⟩,
  ⟨"CRY_CORE", 0x1c00424, 0x44, 8, 0, 1, 0, 1, 0x40090000, 0, 0, 0, 0, 0, 0x3ff07f00, false⟩,
  ⟨"CRY_CORE", 0x1c00428, 0x44, 8, 0, 1, 0, 1, 0x400a0000, 0, 0, 0, 0, 0, 0x3ff07f00, false⟩,
  ⟨"CRY_CORE", 0x1c0042c, 0x44, 8, 0, 1, 0, 1, 0x400b0000, 0, 0, 0, 0, 0, 0x3ff07f00, false⟩,
  ⟨"CRY_CORE", 0x1c00430, 0x44, 8, 0, 1, 0, 1, 0x400c0000, 0, 0, 0, 0, 0, 0x3ff07f00, false⟩,
  ⟨"CRY_CORE", 0x1c00434, 0x44, 8, 0, 1, 0, 1, 0x400d0000, 0, 0, 0, 0, 0, 0x3ff07f00, false⟩,
  ⟨"CRY_CORE", 0x1c00438, 0x44, 8, 0, 1, 0, 1, 0x400e0000, 0, 0, 0, 0, 0, 0x3ff07f00, false⟩,
  ⟨"CRY_CORE", 0x1c0043c, 0x44, 8, 0, 1, 0, 1, 0x400f0000, 0, 0, 0, 0, 0, 0x3ff07f00, false⟩,
  ⟨"CRY_CORE", 0x1c00440, 0x44, 8, 0, 1, 0, 1, 0, 0, 0, 0, 0, 0, 0x3ff07f00, false⟩,
  ⟨"CRY_SJQ_CFG", 0x1c01000, 0x20, 8, 0, 1, 0, 1, 0x4030000, 0x8f0f0000, 0, 0, 0, 0, 0x70f0ffff, false⟩,
  ⟨"CRY_SJQ_PI", 0x1c0100c, 0x20, 8, 0, 1, 0, 1, 0, 0xfff, 0, 0, 0, 0, 0xfffff000, false⟩,
  ⟨"CRY_SJQ_CI", 0x1c01010, 0x20, 8, 0, 1, 0, 1, 0, 0, 0, 0, 0, 0, 0x7ffff000, false⟩,
  ⟨"CRY_EVT", 0x1c00020, 0, 1, 0, 1, 0, 1, 0, 0, 0, 0xffff, 0, 0, 0xffff0000, false⟩,
  ⟨"CRY_SJQ_BASE_LO", 0x1c01004, 0x20, 8, 0, 1, 0, 2, 0, 0xffffffc0, 0, 0, 0, 0, 0x3f, false⟩,
  ⟨"CRY_SJQ_BASE_HI", 0x1c01008, 0x20, 8, 0, 1, 1, 2, 0, 0xffffffff, 0, 0, 0, 0, 0, false⟩,
  ⟨"CRY_EVT_EN", 0x1c00024, 0, 1, 0, 1, 0, 1, 0xdf00, 0xffff, 0, 0, 0, 0, 0xffff0000, false⟩,
  ⟨"CRY_JOB_LO", 0x1c02000, 8, 7, 0, 1, 0, 2, 0, 0, 0, 0, 0, 0, 0, true⟩,
  ⟨"CRY_JOB_HI", 0x1c02004, 8, 7, 0, 1, 1, 2, 0, 0, 0, 0, 0, 0, 0, true⟩,
  ⟨"CRY_SW_WAIT_LO", 0x1c02040, 0, 1, 0, 1, 0, 2, 0, 0, 0, 0, 0, 0, 0, true⟩,
  ⟨"CRY_SW_WAIT_HI", 0x1c02044, 0, 1, 0, 1, 1, 2, 0, 0, 0, 0, 0, 0, 0, true⟩,
  ⟨"CRY_ABORT_LO", 0x1c02048, 0, 1, 0, 1, 0, 2, 0, 0, 0, 0, 0, 0, 0, true⟩,
  ⟨"CRY_ABORT_HI", 0x1c0204c, 0, 1, 0, 1, 1, 2, 0, 0, 0, 0, 0, 0, 0, true⟩,
  ⟨"CRY_RETRY_LO", 0x1c02050, 0, 1, 0, 1, 0, 2, 0, 0, 0, 0, 0, 0, 0, true⟩,
  ⟨"CRY_RETRY_HI", 0x1c02054, 0, 1, 0, 1, 1, 2, 0, 0, 0, 0, 0, 0, 0, true⟩,
  ⟨"CRY_HW_LOST_LO", 0x1c02058, 0, 1, 0, 1, 0, 2, 0, 0, 0, 0, 0, 0, 0, true⟩,
  ⟨"CRY_HW_LOST_HI", 0x1c0205c, 0, 1, 0, 1, 1, 2, 0, 0, 0, 0, 0, 0, 0, true⟩,
  ⟨"CRY_CTR_REFUSE_LO", 0x1c02060, 0, 1, 0, 1, 0, 2, 0, 0, 0, 0, 0, 0, 0, true⟩]

/-- Registers of region 10, CRY. -/
def rowsCry1 : List Row := [
  ⟨"CRY_CTR_REFUSE_HI", 0x1c02064, 0, 1, 0, 1, 1, 2, 0, 0, 0, 0, 0, 0, 0, true⟩,
  ⟨"CRY_BADDESC_LO", 0x1c02068, 0, 1, 0, 1, 0, 2, 0, 0, 0, 0, 0, 0, 0, true⟩,
  ⟨"CRY_BADDESC_HI", 0x1c0206c, 0, 1, 0, 1, 1, 2, 0, 0, 0, 0, 0, 0, 0, true⟩,
  ⟨"CRY_BUS_ERR_LO", 0x1c02070, 0, 1, 0, 1, 0, 2, 0, 0, 0, 0, 0, 0, 0, true⟩,
  ⟨"CRY_BUS_ERR_HI", 0x1c02074, 0, 1, 0, 1, 1, 2, 0, 0, 0, 0, 0, 0, 0, true⟩,
  ⟨"CRY_ZERO_LO", 0x1c02078, 0, 1, 0, 1, 0, 2, 0, 0, 0, 0, 0, 0, 0, true⟩,
  ⟨"CRY_ZERO_HI", 0x1c0207c, 0, 1, 0, 1, 1, 2, 0, 0, 0, 0, 0, 0, 0, true⟩,
  ⟨"CRY_MASK_WAIT_LO", 0x1c02080, 0, 1, 0, 1, 0, 2, 0, 0, 0, 0, 0, 0, 0, true⟩,
  ⟨"CRY_MASK_WAIT_HI", 0x1c02084, 0, 1, 0, 1, 1, 2, 0, 0, 0, 0, 0, 0, 0, true⟩,
  ⟨"CRY_RESEED_LO", 0x1c02088, 0, 1, 0, 1, 0, 2, 0, 0, 0, 0, 0, 0, 0, true⟩,
  ⟨"CRY_RESEED_HI", 0x1c0208c, 0, 1, 0, 1, 1, 2, 0, 0, 0, 0, 0, 0, 0, true⟩,
  ⟨"CRY_HEALTH_LO", 0x1c02090, 0, 1, 0, 1, 0, 2, 0, 0, 0, 0, 0, 0, 0, true⟩,
  ⟨"CRY_HEALTH_HI", 0x1c02094, 0, 1, 0, 1, 1, 2, 0, 0, 0, 0, 0, 0, 0, true⟩,
  ⟨"CRY_TAG_FAIL_LO", 0x1c02098, 0, 1, 0, 1, 0, 2, 0, 0, 0, 0, 0, 0, 0, true⟩,
  ⟨"CRY_TAG_FAIL_HI", 0x1c0209c, 0, 1, 0, 1, 1, 2, 0, 0, 0, 0, 0, 0, 0, true⟩]

/-- All registers of region 10, CRY (R33). -/
def rowsCry : List Row := rowsCry0 ++ rowsCry1

/-- Registers of region 11, KEY. -/
def rowsKey0 : List Row := [
  ⟨"KEY_STS", 0x1d00000, 0, 1, 0, 1, 0, 1, 0, 0, 0, 0, 0, 0, 0xf000000, false⟩,
  ⟨"KEY_CMD", 0x1d00004, 0, 1, 0, 1, 0, 1, 0, 0, 0, 0, 0, 0xffffffff, 0, false⟩,
  ⟨"KEY_RESULT", 0x1d00008, 0, 1, 0, 1, 0, 1, 0, 0, 0, 0, 0, 0, 0xffffff00, false⟩,
  ⟨"KEY_NEW", 0x1d0000c, 0, 1, 0, 1, 0, 1, 0, 0x9ff00000, 0, 0, 0, 0, 0x600fffff, false⟩,
  ⟨"KEY_ARG", 0x1d00200, 0x40, 7, 4, 16, 0, 1, 0, 0xffffffff, 0, 0, 0, 0, 0, false⟩,
  ⟨"KEY_ATT_CMD", 0x1d00028, 0, 1, 0, 1, 0, 1, 0, 0, 0, 0, 0, 0xc000003f, 0x3fffffc0, false⟩,
  ⟨"KEY_ATT_LEN", 0x1d0002c, 0, 1, 0, 1, 0, 1, 0, 0, 0, 0, 0, 0, 0xfffff800, false⟩,
  ⟨"KEY_TAMP_EN", 0x1d00100, 0, 1, 0, 1, 0, 1, 0, 0, 0, 0, 0x1f, 0, 0xffffffe0, false⟩,
  ⟨"KEY_TAMP_STS", 0x1d00104, 0, 1, 0, 1, 0, 1, 0, 0, 0, 0, 0, 0, 0xffffff80, false⟩,
  ⟨"KEY_TLOG_PTR", 0x1d00108, 0, 1, 0, 1, 0, 1, 0, 0, 0, 0, 0, 0, 0xfff0, false⟩,
  ⟨"KEY_KA_TIME", 0x1d0010c, 0, 1, 0, 1, 0, 1, 0, 0, 0, 0, 0, 0, 0, false⟩,
  ⟨"KEY_TLOG_LO", 0x1d00180, 8, 16, 0, 1, 0, 2, 0, 0, 0, 0, 0, 0, 0, false⟩,
  ⟨"KEY_SLOT_CFG", 0x1d10000, 0x10, 4096, 0, 1, 0, 1, 0, 0, 0, 0, 0, 0, 0x3000, false⟩,
  ⟨"KEY_SLOT_GEN", 0x1d10004, 0x10, 4096, 0, 1, 0, 1, 0, 0, 0, 0, 0, 0, 0, false⟩,
  ⟨"KEY_EVT", 0x1d00020, 0, 1, 0, 1, 0, 1, 0, 0, 0, 0xff, 0, 0, 0xffffff00, false⟩,
  ⟨"KEY_SRC_LO", 0x1d00010, 0, 1, 0, 1, 0, 2, 0, 0xffffffff, 0, 0, 0, 0, 0, false⟩,
  ⟨"KEY_SRC_HI", 0x1d00014, 0, 1, 0, 1, 1, 2, 0, 0xffffffff, 0, 0, 0, 0, 0, false⟩,
  ⟨"KEY_EXP_KCV_LO", 0x1d00018, 0, 1, 0, 1, 0, 2, 0, 0xffffffff, 0, 0, 0, 0, 0, false⟩,
  ⟨"KEY_EXP_KCV_HI", 0x1d0001c, 0, 1, 0, 1, 1, 2, 0, 0xffffffff, 0, 0, 0, 0, 0, false⟩,
  ⟨"KEY_ROOT_KCV_LO", 0x1d00030, 0, 1, 0, 1, 0, 2, 0, 0, 0, 0, 0, 0, 0, false⟩,
  ⟨"KEY_ROOT_KCV_HI", 0x1d00034, 0, 1, 0, 1, 1, 2, 0, 0, 0, 0, 0, 0, 0, false⟩,
  ⟨"KEY_SERIAL_LO", 0x1d00038, 0, 1, 0, 1, 0, 2, 0, 0, 0, 0, 0, 0, 0, false⟩,
  ⟨"KEY_SERIAL_HI", 0x1d0003c, 0, 1, 0, 1, 1, 2, 0, 0, 0, 0, 0, 0, 0, false⟩,
  ⟨"KEY_ATT_PUB", 0x1d00080, 4, 16, 0, 1, 0, 1, 0, 0, 0, 0, 0, 0, 0, false⟩,
  ⟨"KEY_ATT_BUF", 0x1d00400, 4, 256, 0, 1, 0, 1, 0, 0, 0, 0, 0, 0, 0, false⟩,
  ⟨"KEY_TLOG_HI", 0x1d00184, 8, 16, 0, 1, 1, 2, 0, 0, 0, 0, 0, 0, 0xff00ff80, false⟩,
  ⟨"KEY_RES_LO", 0x1d01000, 0x10, 512, 0, 1, 0, 2, 0, 0, 0, 0, 0, 0, 0, false⟩,
  ⟨"KEY_RES_HI", 0x1d01004, 0x10, 512, 0, 1, 1, 2, 0, 0, 0, 0, 0, 0, 0, false⟩,
  ⟨"KEY_RES_STS", 0x1d01008, 0x10, 512, 0, 1, 0, 1, 0, 0, 0, 0, 0, 0, 0x1fffffff, false⟩,
  ⟨"KEY_SLOT_KCV_LO", 0x1d10008, 0x10, 4096, 0, 1, 0, 2, 0, 0, 0, 0, 0, 0, 0, false⟩,
  ⟨"KEY_SLOT_KCV_HI", 0x1d1000c, 0x10, 4096, 0, 1, 1, 2, 0, 0, 0, 0, 0, 0, 0, false⟩,
  ⟨"KEY_EVT_EN", 0x1d00024, 0, 1, 0, 1, 0, 1, 0xd7, 0xff, 0, 0, 0, 0, 0xffffff00, false⟩,
  ⟨"KEY_FILL_LO", 0x1d00800, 0, 1, 0, 1, 0, 2, 0, 0, 0, 0, 0, 0, 0, true⟩,
  ⟨"KEY_FILL_HI", 0x1d00804, 0, 1, 0, 1, 1, 2, 0, 0, 0, 0, 0, 0, 0, true⟩,
  ⟨"KEY_CMD_FAIL_LO", 0x1d00808, 0, 1, 0, 1, 0, 2, 0, 0, 0, 0, 0, 0, 0, true⟩,
  ⟨"KEY_CMD_FAIL_HI", 0x1d0080c, 0, 1, 0, 1, 1, 2, 0, 0, 0, 0, 0, 0, 0, true⟩,
  ⟨"KEY_REPL_FAIL_LO", 0x1d00810, 0, 1, 0, 1, 0, 2, 0, 0, 0, 0, 0, 0, 0, true⟩,
  ⟨"KEY_REPL_FAIL_HI", 0x1d00814, 0, 1, 0, 1, 1, 2, 0, 0, 0, 0, 0, 0, 0, true⟩,
  ⟨"KEY_ORPHAN_LO", 0x1d00818, 0, 1, 0, 1, 0, 2, 0, 0, 0, 0, 0, 0, 0, true⟩,
  ⟨"KEY_ORPHAN_HI", 0x1d0081c, 0, 1, 0, 1, 1, 2, 0, 0, 0, 0, 0, 0, 0, true⟩]

/-- Registers of region 11, KEY. -/
def rowsKey1 : List Row := [
  ⟨"KEY_RES_ADV_LO", 0x1d00820, 0, 1, 0, 1, 0, 2, 0, 0, 0, 0, 0, 0, 0, true⟩,
  ⟨"KEY_RES_ADV_HI", 0x1d00824, 0, 1, 0, 1, 1, 2, 0, 0, 0, 0, 0, 0, 0, true⟩,
  ⟨"KEY_TAMPER_LO", 0x1d00828, 0, 1, 0, 1, 0, 2, 0, 0, 0, 0, 0, 0, 0, true⟩,
  ⟨"KEY_TAMPER_HI", 0x1d0082c, 0, 1, 0, 1, 1, 2, 0, 0, 0, 0, 0, 0, 0, true⟩,
  ⟨"KEY_ATTEST_LO", 0x1d00830, 0, 1, 0, 1, 0, 2, 0, 0, 0, 0, 0, 0, 0, true⟩,
  ⟨"KEY_ATTEST_HI", 0x1d00834, 0, 1, 0, 1, 1, 2, 0, 0, 0, 0, 0, 0, 0, true⟩]

/-- All registers of region 11, KEY (R33). -/
def rowsKey : List Row := rowsKey0 ++ rowsKey1

/-- Registers of region 12, PWR. -/
def rowsPwr0 : List Row := [
  ⟨"PWR_LD_CTL", 0x1e01000, 0x40, 24, 0, 1, 0, 1, 0, 0xfe1fffff, 0, 0, 0, 0, 0x1e00000, false⟩,
  ⟨"PWR_LD_PER", 0x1e01004, 0x40, 24, 0, 1, 0, 1, 0xf4240, 0x7ffffff, 0, 0, 0, 0, 0xf8000000, false⟩,
  ⟨"PWR_LD_PROT", 0x1e01008, 0x40, 8, 0, 1, 0, 1, 0x50325205, 0xffffffff, 0, 0, 0, 0, 0, false⟩,
  ⟨"PWR_LD_PROT", 0x1e01208, 0x40, 16, 0, 1, 0, 1, 0x1e321205, 0xffffffff, 0, 0, 0, 0, 0, false⟩,
  ⟨"PWR_LD_RTY", 0x1e0100c, 0x40, 24, 0, 1, 0, 1, 0x306403e8, 0xffffffff, 0, 0, 0, 0, 0, false⟩,
  ⟨"PWR_LD_BUD", 0x1e01010, 0x40, 8, 0, 1, 0, 1, 0xb4032, 0xe0ffffff, 0, 0, 0, 0, 0x1f000000, false⟩,
  ⟨"PWR_LD_BUD", 0x1e01210, 0x40, 16, 0, 1, 0, 1, 0x3c00f, 0xe0ffffff, 0, 0, 0, 0, 0x1f000000, false⟩,
  ⟨"PWR_LD_CLMP", 0x1e01014, 0x40, 8, 0, 1, 0, 1, 0x780f01f4, 0xffffffff, 0, 0, 0, 0, 0, false⟩,
  ⟨"PWR_LD_CLMP", 0x1e01214, 0x40, 16, 0, 1, 0, 1, 0x1e03c0c8, 0xffffffff, 0, 0, 0, 0, 0, false⟩,
  ⟨"PWR_LD_ADCC", 0x1e01018, 0x40, 24, 0, 1, 0, 1, 0, 0xff000000, 0, 0, 0, 0, 0xffffff, false⟩,
  ⟨"PWR_LD_ADC", 0x1e0101c, 0x40, 24, 0, 1, 0, 1, 0, 0, 0, 0, 0, 0, 0xf000, false⟩,
  ⟨"PWR_LD_STS", 0x1e01020, 0x40, 24, 0, 1, 0, 1, 0, 0, 0, 0, 0, 0, 0, false⟩,
  ⟨"PWR_LD_GLB", 0x1e00800, 0, 1, 0, 1, 0, 1, 0x3c0a0200, 0xffffff00, 0, 0, 0, 0, 0xff, false⟩,
  ⟨"PWR_LD_BUDGET", 0x1e00804, 0, 1, 0, 1, 0, 1, 0x190, 0, 0xfff, 0, 0, 0, 0xf000f000, false⟩,
  ⟨"PWR_SO", 0x1e00808, 0, 1, 0, 1, 0, 1, 0xffffff, 0, 0xffffff, 0, 0, 0, 0x7f000000, false⟩,
  ⟨"PWR_LD_CMD", 0x1e0080c, 0, 1, 0, 1, 0, 1, 0, 0, 0, 0, 0, 0xc000031f, 0x3ffffce0, false⟩,
  ⟨"PWR_LD_GRP", 0x1e00900, 4, 6, 0, 1, 0, 1, 0xc2000000, 0xff000000, 0, 0, 0, 0, 0x7c1f, false⟩,
  ⟨"PWR_LD_EVT", 0x1e00810, 0, 1, 0, 1, 0, 1, 0, 0, 0, 0xfff, 0, 0, 0xfffff000, false⟩,
  ⟨"PWR_SLP_CMD", 0x1e00000, 0, 1, 0, 1, 0, 1, 0, 0, 0, 0, 0, 0xc0000003, 0x3ffffffc, false⟩,
  ⟨"PWR_SLP_STS", 0x1e00004, 0, 1, 0, 1, 0, 1, 0, 0, 0, 0, 0, 0, 0x3ff0000, false⟩,
  ⟨"PWR_SLP_CFG", 0x1e00008, 0, 1, 0, 1, 0, 1, 0x7d06405, 0xffffffff, 0, 0, 0, 0, 0, false⟩,
  ⟨"PWR_SLP_TMO", 0x1e0000c, 0, 1, 0, 1, 0, 1, 0x3e81401, 0xffffff0f, 0, 0, 0, 0, 0xf0, false⟩,
  ⟨"PWR_SLP_MASK", 0x1e00010, 0, 1, 0, 1, 0, 1, 0, 0x1ffff, 0, 0, 0, 0, 0xfffe0000, false⟩,
  ⟨"PWR_SLP_TIMER", 0x1e00014, 0, 1, 0, 1, 0, 1, 0, 0xffffffff, 0, 0, 0, 0, 0, false⟩,
  ⟨"PWR_SLP_ANN", 0x1e00040, 4, 16, 0, 1, 0, 1, 0, 0x800001ff, 0, 0, 0, 0, 0x7ffffe00, false⟩,
  ⟨"PWR_WK_CFG", 0x1e00080, 4, 4, 0, 1, 0, 1, 0x400, 0xf000ff00, 0, 0, 0, 0, 0xfff00ff, false⟩,
  ⟨"PWR_WK_SRC", 0x1e00090, 0, 1, 0, 1, 0, 1, 0x200000, 0, 0, 0x3fffff, 0, 0, 0xffc00000, false⟩,
  ⟨"PWR_WK_FIRST", 0x1e00094, 0, 1, 0, 1, 0, 1, 0x10000000, 0, 0, 0, 0, 0, 0xffffff, false⟩,
  ⟨"PWR_WK_SLEPT", 0x1e00098, 0, 1, 0, 1, 0, 1, 0, 0, 0, 0, 0, 0, 0, false⟩,
  ⟨"PWR_SLP_EVT", 0x1e000a0, 0, 1, 0, 1, 0, 1, 0, 0, 0, 0x3f, 0, 0, 0xffffffc0, false⟩,
  ⟨"PWR_TRX_CFG", 0x1e04000, 0x40, 16, 0, 1, 0, 1, 0x30000000, 0xfff00000, 0, 0, 0, 0, 0xfffff, false⟩,
  ⟨"PWR_TRX_STS", 0x1e04014, 0x40, 16, 0, 1, 0, 1, 0x20000000, 0, 0, 0, 0, 0, 0x7c0ffff, false⟩,
  ⟨"PWR_SUP_CFG", 0x1e00c00, 0, 1, 0, 1, 0, 1, 0x2d280000, 0, 0xffff0000, 0, 0, 0, 0xffff, false⟩,
  ⟨"PWR_SUP_STS", 0x1e00c04, 0, 1, 0, 1, 0, 1, 0, 0, 0, 0, 0, 0, 0x1f, false⟩,
  ⟨"PWR_SUP_CAP", 0x1e00c08, 0, 1, 0, 1, 0, 1, 0, 0, 0, 0, 0, 0, 0, false⟩,
  ⟨"PWR_LD_EVT_EN", 0x1e00814, 0, 1, 0, 1, 0, 1, 0xb35, 0xfff, 0, 0, 0, 0, 0xfffff000, false⟩,
  ⟨"PWR_LD_PEND", 0x1e00818, 0, 1, 0, 1, 0, 1, 0, 0, 0, 0xffffff, 0, 0, 0xff000000, false⟩,
  ⟨"PWR_SLP_EVT_EN", 0x1e000a4, 0, 1, 0, 1, 0, 1, 0x3d, 0x3f, 0, 0, 0, 0, 0xffffffc0, false⟩,
  ⟨"PWR_TRX_ID", 0x1e04004, 0x40, 16, 0, 1, 0, 1, 0, 0x1fffffff, 0, 0, 0, 0, 0xe0000000, false⟩,
  ⟨"PWR_TRX_IDM", 0x1e04008, 0x40, 16, 0, 1, 0, 1, 0x1fffffff, 0x1fffffff, 0, 0, 0, 0, 0xe0000000, false⟩]

/-- Registers of region 12, PWR. -/
def rowsPwr1 : List Row := [
  ⟨"PWR_TRX_DATA_LO", 0x1e0400c, 0x40, 16, 0, 1, 0, 2, 0, 0xffffffff, 0, 0, 0, 0, 0, false⟩,
  ⟨"PWR_TRX_DATA_HI", 0x1e04010, 0x40, 16, 0, 1, 1, 2, 0, 0xffffffff, 0, 0, 0, 0, 0, false⟩,
  ⟨"PWR_LD_SHORT_LO", 0x1e03000, 8, 24, 0, 1, 0, 2, 0, 0, 0, 0, 0, 0, 0, true⟩,
  ⟨"PWR_LD_SHORT_HI", 0x1e03004, 8, 24, 0, 1, 1, 2, 0, 0, 0, 0, 0, 0, 0, true⟩,
  ⟨"PWR_LD_OC_LO", 0x1e030c0, 8, 24, 0, 1, 0, 2, 0, 0, 0, 0, 0, 0, 0, true⟩,
  ⟨"PWR_LD_OC_HI", 0x1e030c4, 8, 24, 0, 1, 1, 2, 0, 0, 0, 0, 0, 0, 0, true⟩,
  ⟨"PWR_LD_THERM_LO", 0x1e03180, 8, 24, 0, 1, 0, 2, 0, 0, 0, 0, 0, 0, 0, true⟩,
  ⟨"PWR_LD_THERM_HI", 0x1e03184, 8, 24, 0, 1, 1, 2, 0, 0, 0, 0, 0, 0, 0, true⟩,
  ⟨"PWR_LD_RETRY_LO", 0x1e03240, 8, 24, 0, 1, 0, 2, 0, 0, 0, 0, 0, 0, 0, true⟩,
  ⟨"PWR_LD_RETRY_HI", 0x1e03244, 8, 24, 0, 1, 1, 2, 0, 0, 0, 0, 0, 0, 0, true⟩,
  ⟨"PWR_LD_FAULT_LO", 0x1e03300, 8, 24, 0, 1, 0, 2, 0, 0, 0, 0, 0, 0, 0, true⟩,
  ⟨"PWR_LD_FAULT_HI", 0x1e03304, 8, 24, 0, 1, 1, 2, 0, 0, 0, 0, 0, 0, 0, true⟩,
  ⟨"PWR_LD_LOCK_LO", 0x1e033c0, 8, 24, 0, 1, 0, 2, 0, 0, 0, 0, 0, 0, 0, true⟩,
  ⟨"PWR_LD_LOCK_HI", 0x1e033c4, 8, 24, 0, 1, 1, 2, 0, 0, 0, 0, 0, 0, 0, true⟩,
  ⟨"PWR_LD_OPEN_LO", 0x1e03480, 8, 24, 0, 1, 0, 2, 0, 0, 0, 0, 0, 0, 0, true⟩,
  ⟨"PWR_LD_OPEN_HI", 0x1e03484, 8, 24, 0, 1, 1, 2, 0, 0, 0, 0, 0, 0, 0, true⟩,
  ⟨"PWR_LD_BUD_REFUSE_LO", 0x1e03540, 8, 24, 0, 1, 0, 2, 0, 0, 0, 0, 0, 0, 0, true⟩,
  ⟨"PWR_LD_BUD_REFUSE_HI", 0x1e03544, 8, 24, 0, 1, 1, 2, 0, 0, 0, 0, 0, 0, 0, true⟩,
  ⟨"PWR_LD_SO_REFUSE_LO", 0x1e03600, 8, 24, 0, 1, 0, 2, 0, 0, 0, 0, 0, 0, 0, true⟩,
  ⟨"PWR_LD_SO_REFUSE_HI", 0x1e03604, 8, 24, 0, 1, 1, 2, 0, 0, 0, 0, 0, 0, 0, true⟩,
  ⟨"PWR_LD_EDGE_MISS_LO", 0x1e036c0, 8, 24, 0, 1, 0, 2, 0, 0, 0, 0, 0, 0, 0, true⟩,
  ⟨"PWR_LD_EDGE_MISS_HI", 0x1e036c4, 8, 24, 0, 1, 1, 2, 0, 0, 0, 0, 0, 0, 0, true⟩,
  ⟨"PWR_LD_HOLD_OFF_LO", 0x1e03780, 8, 24, 0, 1, 0, 2, 0, 0, 0, 0, 0, 0, 0, true⟩,
  ⟨"PWR_LD_HOLD_OFF_HI", 0x1e03784, 8, 24, 0, 1, 1, 2, 0, 0, 0, 0, 0, 0, 0, true⟩,
  ⟨"PWR_LD_UV_LO", 0x1e03840, 0, 1, 0, 1, 0, 2, 0, 0, 0, 0, 0, 0, 0, true⟩,
  ⟨"PWR_LD_UV_HI", 0x1e03844, 0, 1, 0, 1, 1, 2, 0, 0, 0, 0, 0, 0, 0, true⟩,
  ⟨"PWR_SLEEP_LO", 0x1e05000, 0, 1, 0, 1, 0, 2, 0, 0, 0, 0, 0, 0, 0, true⟩,
  ⟨"PWR_SLEEP_HI", 0x1e05004, 0, 1, 0, 1, 1, 2, 0, 0, 0, 0, 0, 0, 0, true⟩,
  ⟨"PWR_SLP_ABORT_LO", 0x1e05008, 0, 1, 0, 1, 0, 2, 0, 0, 0, 0, 0, 0, 0, true⟩,
  ⟨"PWR_SLP_ABORT_HI", 0x1e0500c, 0, 1, 0, 1, 1, 2, 0, 0, 0, 0, 0, 0, 0, true⟩,
  ⟨"PWR_MOD_FS_LO", 0x1e05010, 0, 1, 0, 1, 0, 2, 0, 0, 0, 0, 0, 0, 0, true⟩,
  ⟨"PWR_MOD_FS_HI", 0x1e05014, 0, 1, 0, 1, 1, 2, 0, 0, 0, 0, 0, 0, 0, true⟩,
  ⟨"PWR_TRX_WAKE_LO", 0x1e05080, 8, 16, 0, 1, 0, 2, 0, 0, 0, 0, 0, 0, 0, true⟩,
  ⟨"PWR_TRX_WAKE_HI", 0x1e05084, 8, 16, 0, 1, 1, 2, 0, 0, 0, 0, 0, 0, 0, true⟩,
  ⟨"PWR_TRX_FS_LO", 0x1e05100, 8, 16, 0, 1, 0, 2, 0, 0, 0, 0, 0, 0, 0, true⟩,
  ⟨"PWR_TRX_FS_HI", 0x1e05104, 8, 16, 0, 1, 1, 2, 0, 0, 0, 0, 0, 0, 0, true⟩]

/-- All registers of region 12, PWR (R33). -/
def rowsPwr : List Row := rowsPwr0 ++ rowsPwr1

/-- Registers of region 13, BRG. -/
def rowsBrg0 : List Row := [
  ⟨"BRG_CFG", 0x2000000, 0, 1, 0, 1, 0, 1, 0x3e80a00, 0xffffff00, 0, 0, 0, 0, 0xff, false⟩,
  ⟨"BRG_LINK", 0x2000004, 0, 1, 0, 1, 0, 1, 0, 0, 0, 0, 0, 0, 0xfffff, false⟩,
  ⟨"BRG_WIN", 0x2000008, 0, 1, 0, 1, 0, 1, 0, 0x3fff, 0, 0, 0, 0, 0xffffc000, false⟩,
  ⟨"BRG_LFL_PTR", 0x200000c, 0, 1, 0, 1, 0, 1, 0, 0, 0, 0, 0, 0, 0xfffffff0, false⟩,
  ⟨"BRG_LFL_ADDR", 0x2000100, 8, 16, 0, 1, 0, 1, 0, 0, 0, 0, 0, 0, 0, false⟩,
  ⟨"BRG_LFL_INFO", 0x2000104, 8, 16, 0, 1, 0, 1, 0, 0, 0, 0, 0, 0, 0xf007, false⟩,
  ⟨"BRG_SEM", 0x2000200, 4, 16, 0, 1, 0, 1, 0, 0xffffffff, 0, 0, 0, 0, 0, false⟩,
  ⟨"BRG_EVT", 0x2000010, 0, 1, 0, 1, 0, 1, 0, 0, 0, 0x1ff, 0, 0, 0xfffffe00, false⟩,
  ⟨"MSIX_PBA", 0x2011000, 4, 2, 0, 1, 0, 1, 0, 0, 0, 0, 0, 0, 0, false⟩,
  ⟨"BRG_EVT_EN", 0x2000014, 0, 1, 0, 1, 0, 1, 0x1e5, 0x1ff, 0, 0, 0, 0, 0xfffffe00, false⟩,
  ⟨"MSIX_TAB_W0", 0x2010000, 0x10, 64, 0, 1, 0, 1, 0, 0xfffffffc, 0, 0, 0, 0, 3, false⟩,
  ⟨"MSIX_TAB_W1", 0x2010004, 0x10, 64, 0, 1, 0, 1, 0, 0xffffffff, 0, 0, 0, 0, 0, false⟩,
  ⟨"MSIX_TAB_W2", 0x2010008, 0x10, 64, 0, 1, 0, 1, 0, 0xffffffff, 0, 0, 0, 0, 0, false⟩,
  ⟨"MSIX_TAB_W3", 0x201000c, 0x10, 64, 0, 1, 0, 1, 1, 1, 0, 0, 0, 0, 0xfffffffe, false⟩,
  ⟨"BRG_IN_WR_LO", 0x2000800, 0, 1, 0, 1, 0, 2, 0, 0, 0, 0, 0, 0, 0, true⟩,
  ⟨"BRG_IN_WR_HI", 0x2000804, 0, 1, 0, 1, 1, 2, 0, 0, 0, 0, 0, 0, 0, true⟩,
  ⟨"BRG_IN_RD_LO", 0x2000808, 0, 1, 0, 1, 0, 2, 0, 0, 0, 0, 0, 0, 0, true⟩,
  ⟨"BRG_IN_RD_HI", 0x200080c, 0, 1, 0, 1, 1, 2, 0, 0, 0, 0, 0, 0, 0, true⟩,
  ⟨"BRG_LATE_FAIL_LO", 0x2000810, 0, 1, 0, 1, 0, 2, 0, 0, 0, 0, 0, 0, 0, true⟩,
  ⟨"BRG_LATE_FAIL_HI", 0x2000814, 0, 1, 0, 1, 1, 2, 0, 0, 0, 0, 0, 0, 0, true⟩,
  ⟨"BRG_RD_CA_LO", 0x2000818, 0, 1, 0, 1, 0, 2, 0, 0, 0, 0, 0, 0, 0, true⟩,
  ⟨"BRG_RD_CA_HI", 0x200081c, 0, 1, 0, 1, 1, 2, 0, 0, 0, 0, 0, 0, 0, true⟩,
  ⟨"BRG_RD_TMO_LO", 0x2000820, 0, 1, 0, 1, 0, 2, 0, 0, 0, 0, 0, 0, 0, true⟩,
  ⟨"BRG_RD_TMO_HI", 0x2000824, 0, 1, 0, 1, 1, 2, 0, 0, 0, 0, 0, 0, 0, true⟩,
  ⟨"BRG_UR_LO", 0x2000828, 0, 1, 0, 1, 0, 2, 0, 0, 0, 0, 0, 0, 0, true⟩,
  ⟨"BRG_UR_HI", 0x200082c, 0, 1, 0, 1, 1, 2, 0, 0, 0, 0, 0, 0, 0, true⟩,
  ⟨"BRG_POISON_RX_LO", 0x2000830, 0, 1, 0, 1, 0, 2, 0, 0, 0, 0, 0, 0, 0, true⟩,
  ⟨"BRG_POISON_RX_HI", 0x2000834, 0, 1, 0, 1, 1, 2, 0, 0, 0, 0, 0, 0, 0, true⟩,
  ⟨"BRG_POISON_TX_LO", 0x2000838, 0, 1, 0, 1, 0, 2, 0, 0, 0, 0, 0, 0, 0, true⟩,
  ⟨"BRG_POISON_TX_HI", 0x200083c, 0, 1, 0, 1, 1, 2, 0, 0, 0, 0, 0, 0, 0, true⟩,
  ⟨"BRG_ATOMIC_LO", 0x2000840, 0, 1, 0, 1, 0, 2, 0, 0, 0, 0, 0, 0, 0, true⟩,
  ⟨"BRG_ATOMIC_HI", 0x2000844, 0, 1, 0, 1, 1, 2, 0, 0, 0, 0, 0, 0, 0, true⟩,
  ⟨"BRG_OUT_WR_LO", 0x2000848, 0, 1, 0, 1, 0, 2, 0, 0, 0, 0, 0, 0, 0, true⟩,
  ⟨"BRG_OUT_WR_HI", 0x200084c, 0, 1, 0, 1, 1, 2, 0, 0, 0, 0, 0, 0, 0, true⟩,
  ⟨"BRG_OUT_RD_LO", 0x2000850, 0, 1, 0, 1, 0, 2, 0, 0, 0, 0, 0, 0, 0, true⟩,
  ⟨"BRG_OUT_RD_HI", 0x2000854, 0, 1, 0, 1, 1, 2, 0, 0, 0, 0, 0, 0, 0, true⟩,
  ⟨"BRG_OUT_ERR_LO", 0x2000858, 0, 1, 0, 1, 0, 2, 0, 0, 0, 0, 0, 0, 0, true⟩,
  ⟨"BRG_OUT_ERR_HI", 0x200085c, 0, 1, 0, 1, 1, 2, 0, 0, 0, 0, 0, 0, 0, true⟩,
  ⟨"BRG_CPL_TMO_LO", 0x2000860, 0, 1, 0, 1, 0, 2, 0, 0, 0, 0, 0, 0, 0, true⟩,
  ⟨"BRG_CPL_TMO_HI", 0x2000864, 0, 1, 0, 1, 1, 2, 0, 0, 0, 0, 0, 0, 0, true⟩]

/-- Registers of region 13, BRG. -/
def rowsBrg1 : List Row := [
  ⟨"BRG_DETACH_LO", 0x2000868, 0, 1, 0, 1, 0, 2, 0, 0, 0, 0, 0, 0, 0, true⟩,
  ⟨"BRG_DETACH_HI", 0x200086c, 0, 1, 0, 1, 1, 2, 0, 0, 0, 0, 0, 0, 0, true⟩,
  ⟨"BRG_MSIX_LO", 0x2000870, 0, 1, 0, 1, 0, 2, 0, 0, 0, 0, 0, 0, 0, true⟩,
  ⟨"BRG_MSIX_HI", 0x2000874, 0, 1, 0, 1, 1, 2, 0, 0, 0, 0, 0, 0, 0, true⟩,
  ⟨"BRG_MSIX_LOST_LO", 0x2000878, 0, 1, 0, 1, 0, 2, 0, 0, 0, 0, 0, 0, 0, true⟩,
  ⟨"BRG_MSIX_LOST_HI", 0x200087c, 0, 1, 0, 1, 1, 2, 0, 0, 0, 0, 0, 0, 0, true⟩]

/-- All registers of region 13, BRG (R33). -/
def rowsBrg : List Row := rowsBrg0 ++ rowsBrg1

/-- Registers of region 14, DMA. -/
def rowsDma0 : List Row := [
  ⟨"DMA_CH_CFG", 0x2100000, 0x40, 256, 0, 1, 0, 1, 0x4000000, 0xfffff800, 0, 0, 0, 0, 0x7ff, false⟩,
  ⟨"DMA_CH_CMD", 0x2100004, 0x40, 256, 0, 1, 0, 1, 0, 0, 0, 0, 0, 0xc0000003, 0x3ffffffc, false⟩,
  ⟨"DMA_CH_STS", 0x2100010, 0x40, 256, 0, 1, 0, 1, 0, 0, 0, 0, 0, 0, 0x6000000, false⟩,
  ⟨"DMA_CH_ERR_INFO", 0x2100024, 0x40, 256, 0, 1, 0, 1, 0, 0, 0, 0, 0, 0, 0x1ffffff0, false⟩,
  ⟨"DMA_CH_DESC_LO", 0x2100008, 0x40, 256, 0, 1, 0, 2, 0, 0xffffffe0, 0, 0, 0, 0, 0x1f, false⟩,
  ⟨"DMA_CH_DESC_HI", 0x210000c, 0x40, 256, 0, 1, 1, 2, 0, 0xffffffff, 0, 0, 0, 0, 0, false⟩,
  ⟨"DMA_CH_CUR_LO", 0x2100014, 0x40, 256, 0, 1, 0, 2, 0, 0, 0, 0, 0, 0, 0, false⟩,
  ⟨"DMA_CH_CUR_HI", 0x2100018, 0x40, 256, 0, 1, 1, 2, 0, 0, 0, 0, 0, 0, 0, false⟩,
  ⟨"DMA_CH_ERR_ADDR_LO", 0x210001c, 0x40, 256, 0, 1, 0, 2, 0, 0, 0, 0, 0, 0, 0, false⟩,
  ⟨"DMA_CH_ERR_ADDR_HI", 0x2100020, 0x40, 256, 0, 1, 1, 2, 0, 0, 0, 0, 0, 0, 0, false⟩,
  ⟨"DMA_CH_EVT", 0x2100028, 0x40, 256, 0, 1, 0, 1, 0, 0, 0, 0xf, 0, 0, 0xfffffff0, false⟩,
  ⟨"DMA_CH_EVT_EN", 0x210002c, 0x40, 256, 0, 1, 0, 1, 2, 0xf, 0, 0, 0, 0, 0xfffffff0, false⟩,
  ⟨"DMA_DONE_LO", 0x2108000, 8, 256, 0, 1, 0, 2, 0, 0, 0, 0, 0, 0, 0, true⟩,
  ⟨"DMA_DONE_HI", 0x2108004, 8, 256, 0, 1, 1, 2, 0, 0, 0, 0, 0, 0, 0, true⟩,
  ⟨"DMA_ERR_LO", 0x2108800, 8, 256, 0, 1, 0, 2, 0, 0, 0, 0, 0, 0, 0, true⟩,
  ⟨"DMA_ERR_HI", 0x2108804, 8, 256, 0, 1, 1, 2, 0, 0, 0, 0, 0, 0, 0, true⟩,
  ⟨"DMA_UNDERRUN_LO", 0x2109000, 8, 256, 0, 1, 0, 2, 0, 0, 0, 0, 0, 0, 0, true⟩,
  ⟨"DMA_UNDERRUN_HI", 0x2109004, 8, 256, 0, 1, 1, 2, 0, 0, 0, 0, 0, 0, 0, true⟩,
  ⟨"DMA_TRIG_MISS_LO", 0x2109800, 8, 256, 0, 1, 0, 2, 0, 0, 0, 0, 0, 0, 0, true⟩,
  ⟨"DMA_TRIG_MISS_HI", 0x2109804, 8, 256, 0, 1, 1, 2, 0, 0, 0, 0, 0, 0, 0, true⟩]

/-- All registers of region 14, DMA (R33). -/
def rowsDma : List Row := rowsDma0

/-- Registers of region 15, QUE. -/
def rowsQue0 : List Row := [
  ⟨"QUE_CFG", 0x2200000, 0x40, 64, 0, 1, 0, 1, 0x38000000, 0xffe00000, 0, 0, 0, 0, 0x1fffff, false⟩,
  ⟨"QUE_WM", 0x2200004, 0x40, 64, 0, 1, 0, 1, 0x10000, 0x7fff7fff, 0, 0, 0, 0, 0x80008000, false⟩,
  ⟨"QUE_STS", 0x2200014, 0x40, 64, 0, 1, 0, 1, 0, 0, 0, 0, 0, 0, 0x1fff8000, false⟩,
  ⟨"QUE_CMD", 0x2200018, 0x40, 64, 0, 1, 0, 1, 0, 0, 0, 0, 0, 0xc0000003, 0x3ffffffc, false⟩,
  ⟨"QUE_WIN", 0x2280000, 0x1000, 64, 4, 1024, 0, 1, 0, 0xffffffff, 0, 0, 0, 0, 0, false⟩,
  ⟨"CQP_CFG", 0x2210000, 0, 1, 0, 1, 0, 1, 0, 0xc000ffff, 0, 0, 0, 0, 0x3fff0000, false⟩,
  ⟨"QUE_TMO", 0x2200008, 0x40, 64, 0, 1, 0, 1, 0, 0xffff, 0, 0, 0, 0, 0xffff0000, false⟩,
  ⟨"QUE_RD", 0x220000c, 0x40, 64, 0, 1, 0, 1, 0, 0x7fff, 0, 0, 0, 0, 0xffff8000, false⟩,
  ⟨"QUE_WR", 0x2200010, 0x40, 64, 0, 1, 0, 1, 0, 0x7fff, 0, 0, 0, 0, 0xffff8000, false⟩,
  ⟨"QUE_EVT", 0x220001c, 0x40, 64, 0, 1, 0, 1, 0, 0, 0, 0x1f, 0, 0, 0xffffffe0, false⟩,
  ⟨"QUE_EVT_EN", 0x2200020, 0x40, 64, 0, 1, 0, 1, 0x18, 0x1f, 0, 0, 0, 0, 0xffffffe0, false⟩,
  ⟨"CQP_STS", 0x2210004, 0, 1, 0, 1, 0, 1, 0, 0, 0, 0, 0, 0, 0, false⟩,
  ⟨"CQP_FAIL_ADDR", 0x2210008, 0, 1, 0, 1, 0, 1, 0, 0, 0, 0, 0, 0, 0, false⟩,
  ⟨"QUE_ENTRY_LO", 0x2220000, 8, 64, 0, 1, 0, 2, 0, 0, 0, 0, 0, 0, 0, true⟩,
  ⟨"QUE_ENTRY_HI", 0x2220004, 8, 64, 0, 1, 1, 2, 0, 0, 0, 0, 0, 0, 0, true⟩,
  ⟨"QUE_DROP_LO", 0x2220200, 8, 64, 0, 1, 0, 2, 0, 0, 0, 0, 0, 0, 0, true⟩,
  ⟨"QUE_DROP_HI", 0x2220204, 8, 64, 0, 1, 1, 2, 0, 0, 0, 0, 0, 0, 0, true⟩,
  ⟨"QUE_OWNER_DROP_LO", 0x2220400, 8, 64, 0, 1, 0, 2, 0, 0, 0, 0, 0, 0, 0, true⟩,
  ⟨"QUE_OWNER_DROP_HI", 0x2220404, 8, 64, 0, 1, 1, 2, 0, 0, 0, 0, 0, 0, 0, true⟩,
  ⟨"QUE_FMT_ERR_LO", 0x2220600, 8, 64, 0, 1, 0, 2, 0, 0, 0, 0, 0, 0, 0, true⟩,
  ⟨"QUE_FMT_ERR_HI", 0x2220604, 8, 64, 0, 1, 1, 2, 0, 0, 0, 0, 0, 0, 0, true⟩,
  ⟨"QUE_PORT_DROP_LO", 0x2220800, 8, 2, 0, 1, 0, 2, 0, 0, 0, 0, 0, 0, 0, true⟩,
  ⟨"QUE_PORT_DROP_HI", 0x2220804, 8, 2, 0, 1, 1, 2, 0, 0, 0, 0, 0, 0, 0, true⟩,
  ⟨"CQP_TXN_LO", 0x2220810, 0, 1, 0, 1, 0, 2, 0, 0, 0, 0, 0, 0, 0, true⟩,
  ⟨"CQP_TXN_HI", 0x2220814, 0, 1, 0, 1, 1, 2, 0, 0, 0, 0, 0, 0, 0, true⟩,
  ⟨"CQP_ERR_LO", 0x2220818, 0, 1, 0, 1, 0, 2, 0, 0, 0, 0, 0, 0, 0, true⟩,
  ⟨"CQP_ERR_HI", 0x222081c, 0, 1, 0, 1, 1, 2, 0, 0, 0, 0, 0, 0, 0, true⟩,
  ⟨"CQP_PARTIAL_LO", 0x2220820, 0, 1, 0, 1, 0, 2, 0, 0, 0, 0, 0, 0, 0, true⟩,
  ⟨"CQP_PARTIAL_HI", 0x2220824, 0, 1, 0, 1, 1, 2, 0, 0, 0, 0, 0, 0, 0, true⟩]

/-- All registers of region 15, QUE (R33). -/
def rowsQue : List Row := rowsQue0

/-- Registers of region 16, MEM. -/
def rowsMem0 : List Row := [
  ⟨"MEM_STS", 0x2400000, 0, 1, 0, 1, 0, 1, 0, 0, 0, 0, 0, 0, 0x7fffff00, false⟩,
  ⟨"MEM_REC_AREA", 0x2400004, 0, 1, 0, 1, 0, 1, 0, 0xffffffff, 0, 0, 0, 0, 0, false⟩,
  ⟨"MEM_EXP_CFG", 0x240000c, 0, 1, 0, 1, 0, 1, 0xf000000, 0xf000fff, 0, 0, 0, 0, 0xf0fff000, false⟩,
  ⟨"MEM_EXP_STS", 0x2400018, 0, 1, 0, 1, 0, 1, 0, 0, 0, 0, 0, 0, 0x7c0ffff, false⟩,
  ⟨"MEM_REC_CMD", 0x2400020, 0, 1, 0, 1, 0, 1, 0, 0, 0, 0, 0, 0xc000073f, 0x3ffff8c0, false⟩,
  ⟨"MEM_ELOG", 0x2400100, 4, 8, 0, 1, 0, 1, 0, 0, 0, 0, 0, 0, 0x30000000, false⟩,
  ⟨"MEM_EXP_AREA", 0x2400008, 0, 1, 0, 1, 0, 1, 0, 0xffffffff, 0, 0, 0, 0, 0, false⟩,
  ⟨"MEM_EXP_WR", 0x2400010, 0, 1, 0, 1, 0, 1, 0, 0, 0, 0, 0, 0, 0, false⟩,
  ⟨"MEM_EXP_RD", 0x2400014, 0, 1, 0, 1, 0, 1, 0, 0xffffffff, 0, 0, 0, 0, 0, false⟩,
  ⟨"MEM_EXP_ID", 0x240001c, 0, 1, 0, 1, 0, 1, 0, 0, 0, 0, 0, 0, 0, false⟩,
  ⟨"MEM_ELOG_PTR", 0x2400120, 0, 1, 0, 1, 0, 1, 0, 0, 0, 0, 0, 0, 0xfffffff8, false⟩,
  ⟨"MEM_RING_CFG", 0x2410000, 0x40, 64, 0, 1, 0, 1, 0, 0xe0000000, 0, 0, 0, 0, 0x1fffffff, false⟩,
  ⟨"MEM_RING_AREA", 0x2410004, 0x40, 64, 0, 1, 0, 1, 0, 0xffffffff, 0, 0, 0, 0, 0, false⟩,
  ⟨"MEM_RING_WIN", 0x2410008, 0x40, 64, 0, 1, 0, 1, 0x3e80000, 0xffffffff, 0, 0, 0, 0, 0, false⟩,
  ⟨"MEM_RING_TRIG", 0x241000c, 0x40, 64, 0, 1, 0, 1, 0, 0xfe1f0f03, 0, 0, 0, 0, 0x1e0f0fc, false⟩,
  ⟨"MEM_RING_STS", 0x2410010, 0x40, 64, 0, 1, 0, 1, 0, 0, 0, 0, 0, 0, 0x1ffffff, false⟩,
  ⟨"MEM_RING_WR", 0x2410014, 0x40, 64, 0, 1, 0, 1, 0, 0, 0, 0, 0, 0, 0, false⟩,
  ⟨"MEM_RING_OLD", 0x2410018, 0x40, 64, 0, 1, 0, 1, 0, 0, 0, 0, 0, 0, 0, false⟩,
  ⟨"MEM_RING_TSEQ", 0x241001c, 0x40, 64, 0, 1, 0, 1, 0, 0, 0, 0, 0, 0, 0, false⟩,
  ⟨"MEM_RING_T_LO", 0x2410020, 0x40, 64, 0, 1, 0, 3, 0, 0, 0, 0, 0, 0, 0, false⟩,
  ⟨"MEM_RING_T_W1", 0x2410024, 0x40, 64, 0, 1, 1, 3, 0, 0, 0, 0, 0, 0, 0, false⟩,
  ⟨"MEM_RING_T_HI", 0x2410028, 0x40, 64, 0, 1, 2, 3, 0, 0, 0, 0, 0, 0, 0, false⟩,
  ⟨"MEM_EVT", 0x2400030, 0, 1, 0, 1, 0, 1, 0, 0, 0, 0x7ff, 0, 0, 0xfffff800, false⟩,
  ⟨"MEM_EVT_EN", 0x2400034, 0, 1, 0, 1, 0, 1, 0x751, 0x7ff, 0, 0, 0, 0, 0xfffff800, false⟩,
  ⟨"MEM_CE_LO", 0x2420000, 0, 1, 0, 1, 0, 2, 0, 0, 0, 0, 0, 0, 0, true⟩,
  ⟨"MEM_CE_HI", 0x2420004, 0, 1, 0, 1, 1, 2, 0, 0, 0, 0, 0, 0, 0, true⟩,
  ⟨"MEM_UE_LO", 0x2420008, 0, 1, 0, 1, 0, 2, 0, 0, 0, 0, 0, 0, 0, true⟩,
  ⟨"MEM_UE_HI", 0x242000c, 0, 1, 0, 1, 1, 2, 0, 0, 0, 0, 0, 0, 0, true⟩,
  ⟨"MEM_REFUSED_LO", 0x2420010, 0, 1, 0, 1, 0, 2, 0, 0, 0, 0, 0, 0, 0, true⟩,
  ⟨"MEM_REFUSED_HI", 0x2420014, 0, 1, 0, 1, 1, 2, 0, 0, 0, 0, 0, 0, 0, true⟩,
  ⟨"MEM_EXP_CHUNK_LO", 0x2420018, 0, 1, 0, 1, 0, 2, 0, 0, 0, 0, 0, 0, 0, true⟩,
  ⟨"MEM_EXP_CHUNK_HI", 0x242001c, 0, 1, 0, 1, 1, 2, 0, 0, 0, 0, 0, 0, 0, true⟩,
  ⟨"MEM_REC_WR_LO", 0x2420100, 8, 64, 0, 1, 0, 2, 0, 0, 0, 0, 0, 0, 0, true⟩,
  ⟨"MEM_REC_WR_HI", 0x2420104, 8, 64, 0, 1, 1, 2, 0, 0, 0, 0, 0, 0, 0, true⟩,
  ⟨"MEM_REC_DROP_LO", 0x2420300, 8, 64, 0, 1, 0, 2, 0, 0, 0, 0, 0, 0, 0, true⟩,
  ⟨"MEM_REC_DROP_HI", 0x2420304, 8, 64, 0, 1, 1, 2, 0, 0, 0, 0, 0, 0, 0, true⟩,
  ⟨"MEM_REC_IDLE_LO", 0x2420500, 8, 64, 0, 1, 0, 2, 0, 0, 0, 0, 0, 0, 0, true⟩,
  ⟨"MEM_REC_IDLE_HI", 0x2420504, 8, 64, 0, 1, 1, 2, 0, 0, 0, 0, 0, 0, 0, true⟩,
  ⟨"MEM_TRIG_LOST_LO", 0x2420700, 8, 64, 0, 1, 0, 2, 0, 0, 0, 0, 0, 0, 0, true⟩,
  ⟨"MEM_TRIG_LOST_HI", 0x2420704, 8, 64, 0, 1, 1, 2, 0, 0, 0, 0, 0, 0, 0, true⟩]

/-- All registers of region 16, MEM (R33). -/
def rowsMem : List Row := rowsMem0

/-- Registers of region 17, MGT. -/
def rowsMgt0 : List Row := [
  ⟨"MGT_STS", 0x2600004, 0, 1, 0, 1, 0, 1, 0x18000000, 0, 0, 0, 0, 0, 0x3fffff, false⟩,
  ⟨"MGT_FW_SEL", 0x2600020, 0, 1, 0, 1, 0, 1, 0, 0x10, 0, 0, 0, 0, 0xffffffc0, false⟩,
  ⟨"MGT_FW_CMD", 0x2600028, 0, 1, 0, 1, 0, 1, 0, 0, 0, 0, 0, 0xc000001f, 0x3fffffe0, false⟩,
  ⟨"MGT_FW_CHK", 0x260002c, 0, 1, 0, 1, 0, 1, 0, 0, 0, 0, 0, 0, 0x3f00ff80, false⟩,
  ⟨"MGT_FL_CMD", 0x2600100, 0, 1, 0, 1, 0, 1, 0, 0, 0, 0, 0, 0xc0000003, 0x3ffffffc, false⟩,
  ⟨"MGT_CFG", 0x2600000, 0, 1, 0, 1, 0, 1, 3, 0, 3, 0, 0, 0, 0xfffffffc, false⟩,
  ⟨"MGT_RST", 0x2600008, 0, 1, 0, 1, 0, 1, 0, 0, 0, 0, 0, 0xc0000001, 0x3ffffffe, false⟩,
  ⟨"MGT_WDT", 0x260000c, 0, 1, 0, 1, 0, 1, 0x800007d0, 0x8000ffff, 0, 0, 0, 0, 0x7fff0000, false⟩,
  ⟨"MGT_WDT_KICK", 0x2600010, 0, 1, 0, 1, 0, 1, 0, 0xffffffff, 0, 0, 0, 0, 0, false⟩,
  ⟨"MGT_FLOOR", 0x2600024, 0, 1, 0, 1, 0, 1, 0, 0, 0xff, 0, 0, 0, 0xfffffe00, false⟩,
  ⟨"MGT_FW_VER", 0x2600030, 0, 1, 0, 1, 0, 1, 0, 0, 0, 0, 0, 0, 0, false⟩,
  ⟨"MGT_FW_SEQ", 0x2600034, 0, 1, 0, 1, 0, 1, 0, 0, 0, 0, 0, 0, 0, false⟩,
  ⟨"MGT_REC_ADDR_LO", 0x2600038, 0, 1, 0, 1, 0, 2, 0, 0xffffffff, 0, 0, 0, 0, 0, false⟩,
  ⟨"MGT_REC_ADDR_HI", 0x260003c, 0, 1, 0, 1, 1, 2, 0, 0xffffffff, 0, 0, 0, 0, 0, false⟩,
  ⟨"MGT_FW_DIG", 0x2600040, 4, 12, 0, 1, 0, 1, 0, 0, 0, 0, 0, 0, 0, false⟩,
  ⟨"MGT_FL_OFS", 0x2600104, 0, 1, 0, 1, 0, 1, 0, 0xffffffff, 0, 0, 0, 0, 0, false⟩,
  ⟨"MGT_FL_LEN", 0x2600108, 0, 1, 0, 1, 0, 1, 0, 0xffffffff, 0, 0, 0, 0, 0, false⟩,
  ⟨"MGT_FL_BUF_LO", 0x260010c, 0, 1, 0, 1, 0, 2, 0, 0xffffffff, 0, 0, 0, 0, 0, false⟩,
  ⟨"MGT_FL_BUF_HI", 0x2600110, 0, 1, 0, 1, 1, 2, 0, 0xffffffff, 0, 0, 0, 0, 0, false⟩,
  ⟨"MGT_MTIME_LO", 0x2600200, 0, 1, 0, 1, 0, 2, 0, 0, 0, 0, 0, 0, 0, false⟩,
  ⟨"MGT_MTIME_HI", 0x2600204, 0, 1, 0, 1, 1, 2, 0, 0, 0, 0, 0, 0, 0, false⟩,
  ⟨"MGT_IP0", 0x2600208, 0, 1, 0, 1, 0, 1, 0, 0, 0, 0, 0, 0, 0, false⟩,
  ⟨"MGT_IP1", 0x260020c, 0, 1, 0, 1, 0, 1, 0, 0, 0, 0, 0, 0, 0, false⟩,
  ⟨"MGT_IEN0", 0x2600400, 0x40, 4, 0, 1, 0, 1, 0, 0xffffffff, 0, 0, 0, 0, 0, false⟩,
  ⟨"MGT_IEN1", 0x2600404, 0x40, 4, 0, 1, 0, 1, 0, 0xffffffff, 0, 0, 0, 0, 0, false⟩,
  ⟨"MGT_MTIMECMP_LO", 0x2600408, 0x40, 4, 0, 1, 0, 2, 0xffffffff, 0xffffffff, 0, 0, 0, 0, 0, false⟩,
  ⟨"MGT_MTIMECMP_HI", 0x260040c, 0x40, 4, 0, 1, 1, 2, 0xffffffff, 0xffffffff, 0, 0, 0, 0, 0, false⟩,
  ⟨"MGT_MSIP", 0x2600410, 0x40, 4, 0, 1, 0, 1, 0, 1, 0, 0, 0, 0, 0xfffffffe, false⟩,
  ⟨"MGT_SRAM_RED", 0x2600600, 4, 16, 0, 1, 0, 1, 0, 0, 0, 0, 0, 0, 0x7fff8000, false⟩,
  ⟨"MGT_EVT", 0x2600014, 0, 1, 0, 1, 0, 1, 0, 0, 0, 0x3f, 0, 0, 0xffffffc0, false⟩,
  ⟨"MGT_EVT_EN", 0x2600018, 0, 1, 0, 1, 0, 1, 0xf, 0x3f, 0, 0, 0, 0, 0xffffffc0, false⟩,
  ⟨"MGT_RESET_LO", 0x2600800, 0, 1, 0, 1, 0, 2, 0, 0, 0, 0, 0, 0, 0, true⟩,
  ⟨"MGT_RESET_HI", 0x2600804, 0, 1, 0, 1, 1, 2, 0, 0, 0, 0, 0, 0, 0, true⟩,
  ⟨"MGT_WDT_EXP_LO", 0x2600808, 0, 1, 0, 1, 0, 2, 0, 0, 0, 0, 0, 0, 0, true⟩,
  ⟨"MGT_WDT_EXP_HI", 0x260080c, 0, 1, 0, 1, 1, 2, 0, 0, 0, 0, 0, 0, 0, true⟩,
  ⟨"MGT_LOCK_ERR_LO", 0x2600810, 0, 1, 0, 1, 0, 2, 0, 0, 0, 0, 0, 0, 0, true⟩,
  ⟨"MGT_LOCK_ERR_HI", 0x2600814, 0, 1, 0, 1, 1, 2, 0, 0, 0, 0, 0, 0, 0, true⟩,
  ⟨"MGT_FALLBACK_LO", 0x2600818, 0, 1, 0, 1, 0, 2, 0, 0, 0, 0, 0, 0, 0, true⟩,
  ⟨"MGT_FALLBACK_HI", 0x260081c, 0, 1, 0, 1, 1, 2, 0, 0, 0, 0, 0, 0, 0, true⟩]

/-- All registers of region 17, MGT (R33). -/
def rowsMgt : List Row := rowsMgt0

/-- Registers of region 18, REP. -/
def rowsRep0 : List Row := [
  ⟨"REP_CFG", 0x2800000, 0, 1, 0, 1, 0, 1, 8, 0xff, 0, 0, 0, 0, 0xffffff00, false⟩,
  ⟨"REP_EVT", 0x2800010, 0, 1, 0, 1, 0, 1, 0, 0, 0, 7, 0, 0, 0xfffffff8, false⟩,
  ⟨"REP_REC_N", 0x2800004, 0, 1, 0, 1, 0, 1, 0, 0, 0, 0, 0, 0, 0xfffffc00, false⟩,
  ⟨"REP_REC_W0", 0x2801000, 8, 512, 0, 1, 0, 1, 0, 0, 0, 0, 0, 0, 0, false⟩,
  ⟨"REP_REC_W1", 0x2801004, 8, 512, 0, 1, 0, 1, 0, 0, 0, 0, 0, 0, 0, false⟩,
  ⟨"REP_FUSE_W0", 0x2802000, 8, 256, 0, 1, 0, 1, 0, 0, 0, 0, 0, 0, 0, false⟩,
  ⟨"REP_FUSE_W1", 0x2802004, 8, 256, 0, 1, 0, 1, 0, 0, 0, 0, 0, 0, 0, false⟩,
  ⟨"REP_EVT_EN", 0x2800014, 0, 1, 0, 1, 0, 1, 6, 7, 0, 0, 0, 0, 0xfffffff8, false⟩,
  ⟨"REP_REPAIR_LO", 0x2800800, 0, 1, 0, 1, 0, 2, 0, 0, 0, 0, 0, 0, 0, true⟩,
  ⟨"REP_REPAIR_HI", 0x2800804, 0, 1, 0, 1, 1, 2, 0, 0, 0, 0, 0, 0, 0, true⟩,
  ⟨"REP_REC_FULL_LO", 0x2800808, 0, 1, 0, 1, 0, 2, 0, 0, 0, 0, 0, 0, 0, true⟩,
  ⟨"REP_REC_FULL_HI", 0x280080c, 0, 1, 0, 1, 1, 2, 0, 0, 0, 0, 0, 0, 0, true⟩]

/-- All registers of region 18, REP (R33). -/
def rowsRep : List Row := rowsRep0

/-- The base of each region, in region-number order (R33). -/
def regionBases : List Nat := [0, 0x100000, 0x200000, 0x400000, 0x800000, 0xc00000, 0x1000000, 0x1400000, 0x1800000, 0x1a00000, 0x1c00000, 0x1d00000, 0x1e00000, 0x2000000, 0x2100000, 0x2200000, 0x2400000, 0x2600000, 0x2800000]

/-- The number of the region that holds BAR0 offset `a` (R33). -/
def regionOf (a : Nat) : Nat := (regionBases.countP (fun b => b ≤ a)) - 1

/-- The rows of a region. -/
def regionRows : Nat → List Row
  | 0 => rowsGlb
  | 1 => rowsFlt
  | 2 => rowsCfg
  | 3 => rowsMac
  | 4 => rowsTbl
  | 5 => rowsSw
  | 6 => rowsStr
  | 7 => rowsCan
  | 8 => rowsGw
  | 9 => rowsTime
  | 10 => rowsCry
  | 11 => rowsKey
  | 12 => rowsPwr
  | 13 => rowsBrg
  | 14 => rowsDma
  | 15 => rowsQue
  | 16 => rowsMem
  | 17 => rowsMgt
  | 18 => rowsRep
  | _ => []

/-- Whether BAR0 offset `a` is an instance of the array (R5). -/
def Row.holds (r : Row) (a : Nat) : Bool :=
  decide (r.base ≤ a) &&
    (let d := a - r.base
     let i := if r.s1 = 0 then 0 else d / r.s1
     let e := d - i * r.s1
     let j := if r.s2 = 0 then 0 else e / r.s2
     decide (i < r.c1) && decide (j < r.c2) && decide (e = j * r.s2))

/-- The register array that holds BAR0 offset `a`; none where the offset is unmapped (R34). -/
def rowOf (a : Nat) : Option Row := (regionRows (regionOf a)).find? (fun r => r.holds a)

/-- The reset value of the register at BAR0 offset `a` (R6); an unmapped offset holds nothing. -/
def resetOf (a : Nat) : Word :=
  match rowOf a with
  | some r => W r.reset
  | none => 0

end Sys2Proof.Machine
end

