-- ==== Sys2Proof/Machine/Regs.lean ====
section
/-! DEFINITION. Names of registers and fields, by the register tables of the spec: `R.X i` is the BAR0 offset of
instance `i` of register X (R5), and `R.X.F i` the place of its field F. Only the names the model uses stand here;
the whole map is in RegTable.lean. -/

namespace Sys2Proof.Machine

/-- The place of a field: BAR0 offset of its register, lowest bit, width. -/
structure Loc where
  addr : Nat
  lo : Nat
  wd : Nat
  deriving DecidableEq, Repr

namespace R

/-- BAR0 offset of GLB_YIELD_LO. -/
def GLB_YIELD_LO (i : Nat) : Nat := 0x400 + 0x8 * i
/-- BAR0 offset of GLB_YIELD_EVT. -/
def GLB_YIELD_EVT  : Nat := 0x440
/-- BAR0 offset of GLB_ID. -/
def GLB_ID  : Nat := 0x0
def GLB_ID.PART  : Loc := ⟨GLB_ID, 0, 16⟩
/-- BAR0 offset of GLB_REV. -/
def GLB_REV  : Nat := 0x4
/-- BAR0 offset of GLB_CAP. -/
def GLB_CAP  : Nat := 0x8
/-- BAR0 offset of GLB_WHO. -/
def GLB_WHO  : Nat := 0xc
/-- BAR0 offset of GLB_UNLOCK. -/
def GLB_UNLOCK  : Nat := 0x10
/-- BAR0 offset of GLB_UNLOCK_STS. -/
def GLB_UNLOCK_STS  : Nat := 0x14
/-- BAR0 offset of GLB_LOCK. -/
def GLB_LOCK  : Nat := 0x20
def GLB_LOCK.CQP_GUARD  : Loc := ⟨GLB_LOCK, 2, 1⟩
def GLB_LOCK.HOST_GUARD  : Loc := ⟨GLB_LOCK, 1, 1⟩
def GLB_LOCK.TAP  : Loc := ⟨GLB_LOCK, 0, 1⟩
/-- BAR0 offset of GLB_CTR_CLR. -/
def GLB_CTR_CLR  : Nat := 0x30
/-- BAR0 offset of GLB_SRST. -/
def GLB_SRST  : Nat := 0x34
/-- BAR0 offset of GLB_EVT_SUM. -/
def GLB_EVT_SUM  : Nat := 0x100
/-- BAR0 offset of GLB_EVT. -/
def GLB_EVT  : Nat := 0x104
def GLB_EVT.ACCLOG  : Loc := ⟨GLB_EVT, 0, 1⟩
/-- BAR0 offset of GLB_EVT_RT. -/
def GLB_EVT_RT (i : Nat) : Nat := 0x110 + 0x4 * i
def GLB_EVT_RT.MASK (i : Nat) : Loc := ⟨GLB_EVT_RT i, 0, 19⟩
/-- BAR0 offset of GLB_ACCLOG_ADDR. -/
def GLB_ACCLOG_ADDR (i : Nat) : Nat := 0x200 + 0x8 * i
/-- BAR0 offset of GLB_ACCLOG_INFO. -/
def GLB_ACCLOG_INFO (i : Nat) : Nat := 0x204 + 0x8 * i
/-- BAR0 offset of GLB_ACCLOG_PTR. -/
def GLB_ACCLOG_PTR  : Nat := 0x280
def GLB_ACCLOG_PTR.NEXT  : Loc := ⟨GLB_ACCLOG_PTR, 0, 4⟩
/-- BAR0 offset of GLB_ACCLOG_CNT_LO. -/
def GLB_ACCLOG_CNT_LO  : Nat := 0x288
/-- BAR0 offset of CFG_STS. -/
def CFG_STS  : Nat := 0x200000
def CFG_STS.SLOT  : Loc := ⟨CFG_STS, 4, 2⟩
def CFG_STS.STATE  : Loc := ⟨CFG_STS, 0, 4⟩
/-- BAR0 offset of CFG_ACT_SEQ. -/
def CFG_ACT_SEQ  : Nat := 0x200004
/-- BAR0 offset of CFG_FLOOR. -/
def CFG_FLOOR  : Nat := 0x200008
def CFG_FLOOR.FUSING  : Loc := ⟨CFG_FLOOR, 8, 1⟩
/-- BAR0 offset of CFG_CMD. -/
def CFG_CMD  : Nat := 0x20000c
/-- BAR0 offset of CFG_PREFER. -/
def CFG_PREFER  : Nat := 0x200010
def CFG_PREFER.ONCE  : Loc := ⟨CFG_PREFER, 1, 1⟩
def CFG_PREFER.SLOT  : Loc := ⟨CFG_PREFER, 0, 1⟩
def CFG_PREFER.VALID  : Loc := ⟨CFG_PREFER, 2, 1⟩
/-- BAR0 offset of CFG_REJ_INFO. -/
def CFG_REJ_INFO (i : Nat) : Nat := 0x200020 + 0x8 * i
/-- BAR0 offset of CFG_REJ_OFS. -/
def CFG_REJ_OFS (i : Nat) : Nat := 0x200024 + 0x8 * i
/-- BAR0 offset of CFG_T_FWD. -/
def CFG_T_FWD  : Nat := 0x200030
/-- BAR0 offset of CFG_BUILD. -/
def CFG_BUILD (i : Nat) : Nat := 0x200040 + 0x4 * i
/-- BAR0 offset of CFG_EVT. -/
def CFG_EVT  : Nat := 0x200080
def CFG_EVT.DEGRADED  : Loc := ⟨CFG_EVT, 2, 1⟩
def CFG_EVT.FALLBACK  : Loc := ⟨CFG_EVT, 1, 1⟩
def CFG_EVT.FLOOR_DONE  : Loc := ⟨CFG_EVT, 4, 1⟩
def CFG_EVT.LOADED  : Loc := ⟨CFG_EVT, 0, 1⟩
def CFG_EVT.SKIP  : Loc := ⟨CFG_EVT, 3, 1⟩
/-- BAR0 offset of CFG_SKIP_LO. -/
def CFG_SKIP_LO  : Nat := 0x200100
/-- BAR0 offset of CFG_FALLBACK_LO. -/
def CFG_FALLBACK_LO  : Nat := 0x200108
/-- BAR0 offset of CFG_DEGR_LO. -/
def CFG_DEGR_LO  : Nat := 0x200110
/-- BAR0 offset of MAC_CFG. -/
def MAC_CFG (i : Nat) : Nat := 0x400000 + 0x4000 * i
def MAC_CFG.EN (i : Nat) : Loc := ⟨MAC_CFG i, 31, 1⟩
def MAC_CFG.ERR_DEL (i : Nat) : Loc := ⟨MAC_CFG i, 21, 1⟩
def MAC_CFG.ERR_Q (i : Nat) : Loc := ⟨MAC_CFG i, 14, 6⟩
def MAC_CFG.FEC (i : Nat) : Loc := ⟨MAC_CFG i, 22, 2⟩
def MAC_CFG.SPEED (i : Nat) : Loc := ⟨MAC_CFG i, 24, 4⟩
/-- BAR0 offset of MAC_MAXF. -/
def MAC_MAXF (i : Nat) : Nat := 0x400004 + 0x4000 * i
def MAC_MAXF.MAX (i : Nat) : Loc := ⟨MAC_MAXF i, 0, 14⟩
/-- BAR0 offset of MAC_STS. -/
def MAC_STS (i : Nat) : Nat := 0x400008 + 0x4000 * i
def MAC_STS.CFG_ERR (i : Nat) : Loc := ⟨MAC_STS i, 28, 1⟩
def MAC_STS.LINK (i : Nat) : Loc := ⟨MAC_STS i, 31, 1⟩
def MAC_STS.PCS_LOCK (i : Nat) : Loc := ⟨MAC_STS i, 29, 1⟩
def MAC_STS.PFC_PAUSED (i : Nat) : Loc := ⟨MAC_STS i, 8, 8⟩
def MAC_STS.PHY_UP (i : Nat) : Loc := ⟨MAC_STS i, 30, 1⟩
def MAC_STS.RATE (i : Nat) : Loc := ⟨MAC_STS i, 24, 4⟩
def MAC_STS.TX_PAUSED (i : Nat) : Loc := ⟨MAC_STS i, 23, 1⟩
/-- BAR0 offset of MAC_PHY. -/
def MAC_PHY (i : Nat) : Nat := 0x40000c + 0x4000 * i
def MAC_PHY.BIT (i : Nat) : Loc := ⟨MAC_PHY i, 16, 4⟩
def MAC_PHY.POLL_EN (i : Nat) : Loc := ⟨MAC_PHY i, 31, 1⟩
/-- BAR0 offset of MAC_MM_CFG. -/
def MAC_MM_CFG (i : Nat) : Nat := 0x400010 + 0x4000 * i
def MAC_MM_CFG.ADD_FRAG (i : Nat) : Loc := ⟨MAC_MM_CFG i, 24, 2⟩
def MAC_MM_CFG.EN (i : Nat) : Loc := ⟨MAC_MM_CFG i, 31, 1⟩
/-- BAR0 offset of MAC_MM_STS. -/
def MAC_MM_STS (i : Nat) : Nat := 0x400014 + 0x4000 * i
def MAC_MM_STS.VSTATE (i : Nat) : Loc := ⟨MAC_MM_STS i, 0, 4⟩
/-- BAR0 offset of MAC_FC_CFG. -/
def MAC_FC_CFG (i : Nat) : Nat := 0x400020 + 0x4000 * i
def MAC_FC_CFG.MODE (i : Nat) : Loc := ⟨MAC_FC_CFG i, 30, 2⟩
def MAC_FC_CFG.PFC_IGN (i : Nat) : Loc := ⟨MAC_FC_CFG i, 8, 8⟩
def MAC_FC_CFG.PFC_TX_EN (i : Nat) : Loc := ⟨MAC_FC_CFG i, 0, 8⟩
def MAC_FC_CFG.RX_EN (i : Nat) : Loc := ⟨MAC_FC_CFG i, 29, 1⟩
def MAC_FC_CFG.TX_EN (i : Nat) : Loc := ⟨MAC_FC_CFG i, 28, 1⟩
/-- BAR0 offset of MAC_FC_TIME. -/
def MAC_FC_TIME (i : Nat) : Nat := 0x400024 + 0x4000 * i
def MAC_FC_TIME.QUANTA (i : Nat) : Loc := ⟨MAC_FC_TIME i, 0, 16⟩
def MAC_FC_TIME.REFRESH (i : Nat) : Loc := ⟨MAC_FC_TIME i, 16, 16⟩
/-- BAR0 offset of MAC_TS_CFG. -/
def MAC_TS_CFG (i : Nat) : Nat := 0x400030 + 0x4000 * i
def MAC_TS_CFG.TB (i : Nat) : Loc := ⟨MAC_TS_CFG i, 0, 2⟩
/-- BAR0 offset of MAC_TS_LAT. -/
def MAC_TS_LAT (i : Nat) : Nat := 0x400034 + 0x4000 * i
def MAC_TS_LAT.RX_LAT (i : Nat) : Loc := ⟨MAC_TS_LAT i, 0, 16⟩
def MAC_TS_LAT.TX_LAT (i : Nat) : Loc := ⟨MAC_TS_LAT i, 16, 16⟩
/-- BAR0 offset of MAC_SA_LO. -/
def MAC_SA_LO (i : Nat) : Nat := 0x400038 + 0x4000 * i
/-- BAR0 offset of MAC_SA_HI. -/
def MAC_SA_HI (i : Nat) : Nat := 0x40003c + 0x4000 * i
/-- BAR0 offset of MAC_EVT. -/
def MAC_EVT (i : Nat) : Nat := 0x400040 + 0x4000 * i
def MAC_EVT.CFG_ERR (i : Nat) : Loc := ⟨MAC_EVT i, 2, 1⟩
def MAC_EVT.ERR_DROP (i : Nat) : Loc := ⟨MAC_EVT i, 4, 1⟩
def MAC_EVT.FEC_UNCORR (i : Nat) : Loc := ⟨MAC_EVT i, 10, 1⟩
def MAC_EVT.LINK_DOWN (i : Nat) : Loc := ⟨MAC_EVT i, 1, 1⟩
def MAC_EVT.LINK_UP (i : Nat) : Loc := ⟨MAC_EVT i, 0, 1⟩
def MAC_EVT.MM_ASSY (i : Nat) : Loc := ⟨MAC_EVT i, 8, 1⟩
def MAC_EVT.MM_FAILED (i : Nat) : Loc := ⟨MAC_EVT i, 7, 1⟩
def MAC_EVT.MM_VERIFIED (i : Nat) : Loc := ⟨MAC_EVT i, 6, 1⟩
def MAC_EVT.PAUSE_RX (i : Nat) : Loc := ⟨MAC_EVT i, 9, 1⟩
def MAC_EVT.PCS_LOSS (i : Nat) : Loc := ⟨MAC_EVT i, 11, 1⟩
def MAC_EVT.RX_ERR (i : Nat) : Loc := ⟨MAC_EVT i, 3, 1⟩
def MAC_EVT.STOMP (i : Nat) : Loc := ⟨MAC_EVT i, 12, 1⟩
def MAC_EVT.TX_LIMIT (i : Nat) : Loc := ⟨MAC_EVT i, 5, 1⟩
/-- BAR0 offset of MAC_MDIO_CMD. -/
def MAC_MDIO_CMD (i : Nat) : Nat := 0x460004 + 0x100 * i
/-- BAR0 offset of MAC_MDIO_RD. -/
def MAC_MDIO_RD (i : Nat) : Nat := 0x460008 + 0x100 * i
def MAC_MDIO_RD.ADDR (i : Nat) : Loc := ⟨MAC_MDIO_RD i, 16, 16⟩
def MAC_MDIO_RD.DATA (i : Nat) : Loc := ⟨MAC_MDIO_RD i, 0, 16⟩
/-- BAR0 offset of MAC_RX_FRAMES_LO. -/
def MAC_RX_FRAMES_LO (i : Nat) : Nat := 0x400100 + 0x4000 * i
/-- BAR0 offset of TBL_PORT. -/
def TBL_PORT (i : Nat) : Nat := 0x800000 + 0x4 * i
def TBL_PORT.ACCEPT (i : Nat) : Loc := ⟨TBL_PORT i, 28, 2⟩
def TBL_PORT.DEF_ACT (i : Nat) : Loc := ⟨TBL_PORT i, 12, 1⟩
def TBL_PORT.DEF_PCP (i : Nat) : Loc := ⟨TBL_PORT i, 13, 3⟩
def TBL_PORT.DEF_Q (i : Nat) : Loc := ⟨TBL_PORT i, 6, 6⟩
def TBL_PORT.IFILT (i : Nat) : Loc := ⟨TBL_PORT i, 30, 1⟩
def TBL_PORT.LEARN (i : Nat) : Loc := ⟨TBL_PORT i, 31, 1⟩
def TBL_PORT.PVID (i : Nat) : Loc := ⟨TBL_PORT i, 16, 12⟩
/-- BAR0 offset of TBL_HASH. -/
def TBL_HASH  : Nat := 0x800080
def TBL_HASH.SEED  : Loc := ⟨TBL_HASH, 0, 12⟩
def TBL_HASH.SEED_ACT  : Loc := ⟨TBL_HASH, 16, 12⟩
/-- BAR0 offset of TBL_AGE. -/
def TBL_AGE  : Nat := 0x800084
def TBL_AGE.LIMIT  : Loc := ⟨TBL_AGE, 0, 15⟩
/-- BAR0 offset of TBL_NOW. -/
def TBL_NOW  : Nat := 0x800088
def TBL_NOW.SEC  : Loc := ⟨TBL_NOW, 0, 16⟩
/-- BAR0 offset of TBL_STORM. -/
def TBL_STORM  : Nat := 0x80008c
def TBL_STORM.HOLD  : Loc := ⟨TBL_STORM, 31, 1⟩
def TBL_STORM.LIMIT  : Loc := ⟨TBL_STORM, 0, 3⟩
/-- BAR0 offset of TBL_EPOCH. -/
def TBL_EPOCH  : Nat := 0x800090
/-- BAR0 offset of TBL_DRAIN. -/
def TBL_DRAIN  : Nat := 0x800094
/-- BAR0 offset of TBL_DRAIN_EP. -/
def TBL_DRAIN_EP  : Nat := 0x800098
/-- BAR0 offset of TBL_LEARN_STS. -/
def TBL_LEARN_STS  : Nat := 0x80009c
def TBL_LEARN_STS.LEVEL  : Loc := ⟨TBL_LEARN_STS, 0, 9⟩
/-- BAR0 offset of TBL_PERR_LOG. -/
def TBL_PERR_LOG  : Nat := 0x8000a0
/-- BAR0 offset of TBL_STORM_LOG. -/
def TBL_STORM_LOG  : Nat := 0x8000a4
/-- BAR0 offset of TBL_EVT. -/
def TBL_EVT  : Nat := 0x8000c0
def TBL_EVT.DRAINED  : Loc := ⟨TBL_EVT, 6, 1⟩
def TBL_EVT.DRAIN_TMO  : Loc := ⟨TBL_EVT, 7, 1⟩
def TBL_EVT.LEARN_DROP  : Loc := ⟨TBL_EVT, 3, 1⟩
def TBL_EVT.LEARN_FULL  : Loc := ⟨TBL_EVT, 2, 1⟩
def TBL_EVT.MOVE_STORM  : Loc := ⟨TBL_EVT, 4, 1⟩
def TBL_EVT.PERR  : Loc := ⟨TBL_EVT, 0, 1⟩
def TBL_EVT.REPAIR_EXH  : Loc := ⟨TBL_EVT, 1, 1⟩
def TBL_EVT.SA_VIOL  : Loc := ⟨TBL_EVT, 5, 1⟩
/-- BAR0 offset of TBL_CMD. -/
def TBL_CMD (i : Nat) : Nat := 0x800200 + 0x20 * i
def TBL_CMD.INDEX (i : Nat) : Loc := ⟨TBL_CMD i, 0, 14⟩
def TBL_CMD.OP (i : Nat) : Loc := ⟨TBL_CMD i, 26, 4⟩
def TBL_CMD.TABLE (i : Nat) : Loc := ⟨TBL_CMD i, 24, 2⟩
/-- BAR0 offset of TBL_DATA_LO. -/
def TBL_DATA_LO (i : Nat) : Nat := 0x800204 + 0x20 * i
/-- BAR0 offset of TBL_ACCEPT_DROP_LO. -/
def TBL_ACCEPT_DROP_LO  : Nat := 0x800400
/-- BAR0 offset of SW_POOL_STS. -/
def SW_POOL_STS  : Nat := 0xc00004
def SW_POOL_STS.FREE  : Loc := ⟨SW_POOL_STS, 0, 19⟩
def SW_POOL_STS.OVERCOMMIT  : Loc := ⟨SW_POOL_STS, 31, 1⟩
/-- BAR0 offset of SW_POOL_RES. -/
def SW_POOL_RES  : Nat := 0xc00008
def SW_POOL_RES.RES  : Loc := ⟨SW_POOL_RES, 0, 19⟩
/-- BAR0 offset of SW_PLY_STS. -/
def SW_PLY_STS  : Nat := 0xc00010
/-- BAR0 offset of SW_PLY_CFG. -/
def SW_PLY_CFG  : Nat := 0xc00014
def SW_PLY_CFG.AUTO  : Loc := ⟨SW_PLY_CFG, 31, 1⟩
def SW_PLY_CFG.ERR_LIM  : Loc := ⟨SW_PLY_CFG, 0, 8⟩
/-- BAR0 offset of SW_PLY_CMD. -/
def SW_PLY_CMD  : Nat := 0xc00018
def SW_PLY_CMD.PLY  : Loc := ⟨SW_PLY_CMD, 3, 3⟩
/-- BAR0 offset of SW_INT_TS. -/
def SW_INT_TS  : Nat := 0xc0001c
def SW_INT_TS.CANB_TB  : Loc := ⟨SW_INT_TS, 4, 2⟩
def SW_INT_TS.HOST_TB  : Loc := ⟨SW_INT_TS, 0, 2⟩
def SW_INT_TS.MGT_TB  : Loc := ⟨SW_INT_TS, 2, 2⟩
/-- BAR0 offset of SW_EVT. -/
def SW_EVT  : Nat := 0xc00020
def SW_EVT.AGE_DROP  : Loc := ⟨SW_EVT, 6, 1⟩
def SW_EVT.AGE_TBERR  : Loc := ⟨SW_EVT, 10, 1⟩
def SW_EVT.BORROW  : Loc := ⟨SW_EVT, 5, 1⟩
def SW_EVT.FLUSH  : Loc := ⟨SW_EVT, 8, 1⟩
def SW_EVT.LIM_DROP  : Loc := ⟨SW_EVT, 4, 1⟩
def SW_EVT.MC_TMO  : Loc := ⟨SW_EVT, 7, 1⟩
def SW_EVT.OVERCOMMIT  : Loc := ⟨SW_EVT, 9, 1⟩
def SW_EVT.PLY_FAIL  : Loc := ⟨SW_EVT, 0, 1⟩
def SW_EVT.PLY_LOSS  : Loc := ⟨SW_EVT, 2, 1⟩
def SW_EVT.PLY_READY  : Loc := ⟨SW_EVT, 11, 1⟩
def SW_EVT.RESEQ_DROP  : Loc := ⟨SW_EVT, 3, 1⟩
def SW_EVT.SPARE_EXH  : Loc := ⟨SW_EVT, 1, 1⟩
/-- BAR0 offset of SW_LIM. -/
def SW_LIM (i : Nat) : Nat := 0xc00400 + 0x4 * i
def SW_LIM.MAX (i : Nat) : Loc := ⟨SW_LIM i, 14, 18⟩
def SW_LIM.MIN (i : Nat) : Loc := ⟨SW_LIM i, 0, 14⟩
/-- BAR0 offset of SW_FC. -/
def SW_FC (i : Nat) : Nat := 0xc00800 + 0x4 * i
def SW_FC.XOFF (i : Nat) : Loc := ⟨SW_FC i, 16, 16⟩
def SW_FC.XON (i : Nat) : Loc := ⟨SW_FC i, 0, 16⟩
/-- BAR0 offset of SW_USED. -/
def SW_USED (i : Nat) : Nat := 0xc00c00 + 0x4 * i
def SW_USED.USED (i : Nat) : Loc := ⟨SW_USED i, 0, 19⟩
def SW_USED.XOFF (i : Nat) : Loc := ⟨SW_USED i, 31, 1⟩
/-- BAR0 offset of SW_SCHED. -/
def SW_SCHED (i : Nat) : Nat := 0xc01000 + 0x10 * i
def SW_SCHED.QUANTUM0 (i : Nat) : Loc := ⟨SW_SCHED i, 0, 8⟩
def SW_SCHED.QUANTUM1 (i : Nat) : Loc := ⟨SW_SCHED i, 8, 8⟩
def SW_SCHED.QUANTUM2 (i : Nat) : Loc := ⟨SW_SCHED i, 16, 8⟩
def SW_SCHED.QUANTUM3 (i : Nat) : Loc := ⟨SW_SCHED i, 24, 8⟩
/-- BAR0 offset of SW_CBS5. -/
def SW_CBS5 (i : Nat) : Nat := 0xc01004 + 0x10 * i
def SW_CBS5.EN (i : Nat) : Loc := ⟨SW_CBS5 i, 31, 1⟩
def SW_CBS5.IDLE (i : Nat) : Loc := ⟨SW_CBS5 i, 0, 22⟩
/-- BAR0 offset of SW_OUT_STS. -/
def SW_OUT_STS (i : Nat) : Nat := 0xc0100c + 0x10 * i
def SW_OUT_STS.FLUSHING (i : Nat) : Loc := ⟨SW_OUT_STS i, 30, 1⟩
def SW_OUT_STS.STAGED (i : Nat) : Loc := ⟨SW_OUT_STS i, 0, 7⟩
def SW_OUT_STS.UP (i : Nat) : Loc := ⟨SW_OUT_STS i, 31, 1⟩
/-- BAR0 offset of SW_MCGRP. -/
def SW_MCGRP (i : Nat) : Nat := 0xc02000 + 0x4 * i
def SW_MCGRP.MASK (i : Nat) : Loc := ⟨SW_MCGRP i, 0, 28⟩
/-- BAR0 offset of SW_LIM_DROP_LO. -/
def SW_LIM_DROP_LO (i : Nat) : Nat := 0xc04000 + 0x8 * i
/-- BAR0 offset of STR_CFG. -/
def STR_CFG (i : Nat) : Nat := 0x1000000 + 0x80 * i
def STR_CFG.EN (i : Nat) : Loc := ⟨STR_CFG i, 31, 1⟩
def STR_CFG.TAP_EN (i : Nat) : Loc := ⟨STR_CFG i, 22, 1⟩
/-- BAR0 offset of STR_METER. -/
def STR_METER (i : Nat) : Nat := 0x1000004 + 0x80 * i
def STR_METER.CBS (i : Nat) : Loc := ⟨STR_METER i, 0, 16⟩
def STR_METER.CIR (i : Nat) : Loc := ⟨STR_METER i, 16, 16⟩
/-- BAR0 offset of STR_LIM. -/
def STR_LIM (i : Nat) : Nat := 0x1000008 + 0x80 * i
def STR_LIM.MAXSDU (i : Nat) : Loc := ⟨STR_LIM i, 0, 14⟩
def STR_LIM.SEQ_HIST (i : Nat) : Loc := ⟨STR_LIM i, 16, 6⟩
/-- BAR0 offset of STR_KEYA. -/
def STR_KEYA (i : Nat) : Nat := 0x1000010 + 0x80 * i
def STR_KEYA.LABEL (i : Nat) : Loc := ⟨STR_KEYA i, 12, 8⟩
def STR_KEYA.SLOT (i : Nat) : Loc := ⟨STR_KEYA i, 0, 12⟩
def STR_KEYA.VALID (i : Nat) : Loc := ⟨STR_KEYA i, 31, 1⟩
/-- BAR0 offset of STR_ROLL. -/
def STR_ROLL (i : Nat) : Nat := 0x1000018 + 0x80 * i
def STR_ROLL.CUR (i : Nat) : Loc := ⟨STR_ROLL i, 31, 1⟩
def STR_ROLL.ROLL_MS (i : Nat) : Loc := ⟨STR_ROLL i, 0, 16⟩
/-- BAR0 offset of STR_STS. -/
def STR_STS (i : Nat) : Nat := 0x100001c + 0x80 * i
def STR_STS.CFG_ERR (i : Nat) : Loc := ⟨STR_STS i, 28, 1⟩
def STR_STS.PEND (i : Nat) : Loc := ⟨STR_STS i, 0, 16⟩
def STR_STS.ROLLING (i : Nat) : Loc := ⟨STR_STS i, 27, 1⟩
def STR_STS.STATE (i : Nat) : Loc := ⟨STR_STS i, 29, 3⟩
/-- BAR0 offset of STR_FRESH_LO. -/
def STR_FRESH_LO (i : Nat) : Nat := 0x1000020 + 0x80 * i
/-- BAR0 offset of STR_WIN_LO. -/
def STR_WIN_LO (i : Nat) : Nat := 0x1000028 + 0x80 * i
/-- BAR0 offset of STR_SEQ_STS. -/
def STR_SEQ_STS (i : Nat) : Nat := 0x1000030 + 0x80 * i
def STR_SEQ_STS.RECOV_SEQ (i : Nat) : Loc := ⟨STR_SEQ_STS i, 16, 16⟩
def STR_SEQ_STS.TAKE_ANY (i : Nat) : Loc := ⟨STR_SEQ_STS i, 0, 1⟩
/-- BAR0 offset of STR_ALARM. -/
def STR_ALARM (i : Nat) : Nat := 0x1000034 + 0x80 * i
def STR_ALARM.AGE_DROP (i : Nat) : Loc := ⟨STR_ALARM i, 12, 1⟩
def STR_ALARM.AUTH_FAIL (i : Nat) : Loc := ⟨STR_ALARM i, 2, 1⟩
def STR_ALARM.BLOCKED (i : Nat) : Loc := ⟨STR_ALARM i, 6, 1⟩
def STR_ALARM.CFG_ERR (i : Nat) : Loc := ⟨STR_ALARM i, 13, 1⟩
def STR_ALARM.FMT (i : Nat) : Loc := ⟨STR_ALARM i, 14, 1⟩
def STR_ALARM.FRESH_EXH (i : Nat) : Loc := ⟨STR_ALARM i, 9, 1⟩
def STR_ALARM.METER (i : Nat) : Loc := ⟨STR_ALARM i, 5, 1⟩
def STR_ALARM.NOKEY (i : Nat) : Loc := ⟨STR_ALARM i, 4, 1⟩
def STR_ALARM.REPLAY (i : Nat) : Loc := ⟨STR_ALARM i, 3, 1⟩
def STR_ALARM.RESUMED (i : Nat) : Loc := ⟨STR_ALARM i, 1, 1⟩
def STR_ALARM.RES_WAIT (i : Nat) : Loc := ⟨STR_ALARM i, 11, 1⟩
def STR_ALARM.ROLL (i : Nat) : Loc := ⟨STR_ALARM i, 10, 1⟩
def STR_ALARM.SEQ_RESET (i : Nat) : Loc := ⟨STR_ALARM i, 8, 1⟩
def STR_ALARM.SEQ_ROGUE (i : Nat) : Loc := ⟨STR_ALARM i, 7, 1⟩
def STR_ALARM.SILENT (i : Nat) : Loc := ⟨STR_ALARM i, 0, 1⟩
/-- BAR0 offset of STR_BUDGET. -/
def STR_BUDGET  : Nat := 0x1010100
def STR_BUDGET.OVER  : Loc := ⟨STR_BUDGET, 31, 1⟩
def STR_BUDGET.SUM  : Loc := ⟨STR_BUDGET, 0, 17⟩
def STR_BUDGET.UNMETERED  : Loc := ⟨STR_BUDGET, 30, 1⟩
/-- BAR0 offset of STR_PASS_LO. -/
def STR_PASS_LO (i : Nat) : Nat := 0x1020000 + 0x8 * i
/-- BAR0 offset of CAN_CFG. -/
def CAN_CFG (i : Nat) : Nat := 0x1400000 + 0x10000 * i
def CAN_CFG.EN (i : Nat) : Loc := ⟨CAN_CFG i, 31, 1⟩
def CAN_CFG.XL_SIC (i : Nat) : Loc := ⟨CAN_CFG i, 27, 1⟩
/-- BAR0 offset of CAN_NBT. -/
def CAN_NBT (i : Nat) : Nat := 0x1400004 + 0x10000 * i
/-- BAR0 offset of CAN_DBT. -/
def CAN_DBT (i : Nat) : Nat := 0x1400008 + 0x10000 * i
/-- BAR0 offset of CAN_TDC. -/
def CAN_TDC (i : Nat) : Nat := 0x1400010 + 0x10000 * i
def CAN_TDC.TDCV (i : Nat) : Loc := ⟨CAN_TDC i, 8, 8⟩
/-- BAR0 offset of CAN_TSC. -/
def CAN_TSC (i : Nat) : Nat := 0x1400014 + 0x10000 * i
def CAN_TSC.DLY (i : Nat) : Loc := ⟨CAN_TSC i, 0, 8⟩
/-- BAR0 offset of CAN_STS. -/
def CAN_STS (i : Nat) : Nat := 0x1400018 + 0x10000 * i
def CAN_STS.BO_CNT (i : Nat) : Loc := ⟨CAN_STS i, 8, 8⟩
def CAN_STS.CFG_ERR (i : Nat) : Loc := ⟨CAN_STS i, 28, 1⟩
def CAN_STS.PEX (i : Nat) : Loc := ⟨CAN_STS i, 27, 1⟩
def CAN_STS.STATE (i : Nat) : Loc := ⟨CAN_STS i, 29, 3⟩
def CAN_STS.TXBUSY (i : Nat) : Loc := ⟨CAN_STS i, 26, 1⟩
def CAN_STS.TXOBJ (i : Nat) : Loc := ⟨CAN_STS i, 16, 9⟩
def CAN_STS.WARN (i : Nat) : Loc := ⟨CAN_STS i, 25, 1⟩
/-- BAR0 offset of CAN_ERRC. -/
def CAN_ERRC (i : Nat) : Nat := 0x140001c + 0x10000 * i
def CAN_ERRC.REC (i : Nat) : Loc := ⟨CAN_ERRC i, 0, 8⟩
def CAN_ERRC.TEC (i : Nat) : Loc := ⟨CAN_ERRC i, 16, 9⟩
/-- BAR0 offset of CAN_SCH_CFG. -/
def CAN_SCH_CFG (i : Nat) : Nat := 0x1400020 + 0x10000 * i
def CAN_SCH_CFG.CYC (i : Nat) : Loc := ⟨CAN_SCH_CFG i, 23, 6⟩
def CAN_SCH_CFG.EN (i : Nat) : Loc := ⟨CAN_SCH_CFG i, 31, 1⟩
def CAN_SCH_CFG.LATE (i : Nat) : Loc := ⟨CAN_SCH_CFG i, 8, 8⟩
def CAN_SCH_CFG.TB (i : Nat) : Loc := ⟨CAN_SCH_CFG i, 29, 2⟩
/-- BAR0 offset of CAN_SCH_BC. -/
def CAN_SCH_BC (i : Nat) : Nat := 0x1400024 + 0x10000 * i
def CAN_SCH_BC.BC_US (i : Nat) : Loc := ⟨CAN_SCH_BC i, 0, 16⟩
/-- BAR0 offset of CAN_SCH_OFS. -/
def CAN_SCH_OFS (i : Nat) : Nat := 0x1400028 + 0x10000 * i
def CAN_SCH_OFS.OFS_US (i : Nat) : Loc := ⟨CAN_SCH_OFS i, 0, 32⟩
/-- BAR0 offset of CAN_SCH_STS. -/
def CAN_SCH_STS (i : Nat) : Nat := 0x140002c + 0x10000 * i
def CAN_SCH_STS.CYCLE (i : Nat) : Loc := ⟨CAN_SCH_STS i, 25, 6⟩
def CAN_SCH_STS.RUN (i : Nat) : Loc := ⟨CAN_SCH_STS i, 31, 1⟩
def CAN_SCH_STS.WIN (i : Nat) : Loc := ⟨CAN_SCH_STS i, 20, 5⟩
/-- BAR0 offset of CAN_TXCMD. -/
def CAN_TXCMD (i : Nat) : Nat := 0x1400030 + 0x10000 * i
/-- BAR0 offset of CAN_TXLAST_LO. -/
def CAN_TXLAST_LO (i : Nat) : Nat := 0x1400034 + 0x10000 * i
/-- BAR0 offset of CAN_TXLAST_HI. -/
def CAN_TXLAST_HI (i : Nat) : Nat := 0x1400038 + 0x10000 * i
/-- BAR0 offset of CAN_RXC. -/
def CAN_RXC (i j : Nat) : Nat := 0x1400800 + 0x10000 * i + 0x4 * j
def CAN_RXC.DEL (i j : Nat) : Loc := ⟨CAN_RXC i j, 29, 2⟩
def CAN_RXC.EN (i j : Nat) : Loc := ⟨CAN_RXC i j, 31, 1⟩
def CAN_RXC.Q (i j : Nat) : Loc := ⟨CAN_RXC i j, 23, 6⟩
/-- BAR0 offset of CAN_XID. -/
def CAN_XID (i j : Nat) : Nat := 0x1403000 + 0x10000 * i + 0x4 * j
def CAN_XID.ID (i j : Nat) : Loc := ⟨CAN_XID i j, 0, 29⟩
def CAN_XID.VALID (i j : Nat) : Loc := ⟨CAN_XID i j, 31, 1⟩
/-- BAR0 offset of CAN_XLM_MATCH. -/
def CAN_XLM_MATCH (i j : Nat) : Nat := 0x1403800 + 0x10000 * i + 0x8 * j
def CAN_XLM_MATCH.PRIO (i j : Nat) : Loc := ⟨CAN_XLM_MATCH i j, 16, 11⟩
def CAN_XLM_MATCH.SDT (i j : Nat) : Loc := ⟨CAN_XLM_MATCH i j, 0, 8⟩
def CAN_XLM_MATCH.SDT_ANY (i j : Nat) : Loc := ⟨CAN_XLM_MATCH i j, 29, 1⟩
def CAN_XLM_MATCH.VALID (i j : Nat) : Loc := ⟨CAN_XLM_MATCH i j, 31, 1⟩
def CAN_XLM_MATCH.VCID (i j : Nat) : Loc := ⟨CAN_XLM_MATCH i j, 8, 8⟩
def CAN_XLM_MATCH.VCID_ANY (i j : Nat) : Loc := ⟨CAN_XLM_MATCH i j, 30, 1⟩
/-- BAR0 offset of CAN_XLM_ACT. -/
def CAN_XLM_ACT (i j : Nat) : Nat := 0x1403804 + 0x10000 * i + 0x8 * j
def CAN_XLM_ACT.DEL (i j : Nat) : Loc := ⟨CAN_XLM_ACT i j, 30, 2⟩
def CAN_XLM_ACT.OBJ (i j : Nat) : Loc := ⟨CAN_XLM_ACT i j, 0, 9⟩
def CAN_XLM_ACT.Q (i j : Nat) : Loc := ⟨CAN_XLM_ACT i j, 24, 6⟩
/-- BAR0 offset of CAN_SCH. -/
def CAN_SCH (i j : Nat) : Nat := 0x140e000 + 0x10000 * i + 0x4 * j
/-- BAR0 offset of CAN_SOF_CTR_LO. -/
def CAN_SOF_CTR_LO  : Nat := 0x17f0000
/-- BAR0 offset of CAN_EVT. -/
def CAN_EVT (i : Nat) : Nat := 0x1400040 + 0x10000 * i
def CAN_EVT.BUSOFF (i : Nat) : Loc := ⟨CAN_EVT i, 0, 1⟩
def CAN_EVT.CFG_ERR (i : Nat) : Loc := ⟨CAN_EVT i, 8, 1⟩
def CAN_EVT.DEL_DROP (i : Nat) : Loc := ⟨CAN_EVT i, 10, 1⟩
def CAN_EVT.LOST (i : Nat) : Loc := ⟨CAN_EVT i, 4, 1⟩
def CAN_EVT.NOOBJ (i : Nat) : Loc := ⟨CAN_EVT i, 5, 1⟩
def CAN_EVT.PASSIVE (i : Nat) : Loc := ⟨CAN_EVT i, 2, 1⟩
def CAN_EVT.PEX (i : Nat) : Loc := ⟨CAN_EVT i, 7, 1⟩
def CAN_EVT.RECOVERED (i : Nat) : Loc := ⟨CAN_EVT i, 1, 1⟩
def CAN_EVT.SCH_MISS (i : Nat) : Loc := ⟨CAN_EVT i, 6, 1⟩
def CAN_EVT.TDC_RANGE (i : Nat) : Loc := ⟨CAN_EVT i, 11, 1⟩
def CAN_EVT.TX_BAD (i : Nat) : Loc := ⟨CAN_EVT i, 9, 1⟩
def CAN_EVT.WARN (i : Nat) : Loc := ⟨CAN_EVT i, 3, 1⟩
/-- BAR0 offset of CAN_RX_OK_LO. -/
def CAN_RX_OK_LO (i : Nat) : Nat := 0x1400100 + 0x10000 * i
/-- BAR0 offset of GW_CFG. -/
def GW_CFG  : Nat := 0x1800000
def GW_CFG.PAD  : Loc := ⟨GW_CFG, 0, 8⟩
/-- BAR0 offset of GW_DST_CFG. -/
def GW_DST_CFG (i : Nat) : Nat := 0x1800100 + 0x10 * i
def GW_DST_CFG.FIFO_EN (i : Nat) : Loc := ⟨GW_DST_CFG i, 31, 1⟩
def GW_DST_CFG.FIFO_OBJ (i : Nat) : Loc := ⟨GW_DST_CFG i, 0, 9⟩
/-- BAR0 offset of GW_DST_RATE. -/
def GW_DST_RATE (i : Nat) : Nat := 0x1800104 + 0x10 * i
def GW_DST_RATE.BURST (i : Nat) : Loc := ⟨GW_DST_RATE i, 8, 8⟩
def GW_DST_RATE.PER_US (i : Nat) : Loc := ⟨GW_DST_RATE i, 16, 16⟩
/-- BAR0 offset of GW_DST_STS. -/
def GW_DST_STS (i : Nat) : Nat := 0x1800108 + 0x10 * i
def GW_DST_STS.LEVEL (i : Nat) : Loc := ⟨GW_DST_STS i, 0, 7⟩
/-- BAR0 offset of GW_RT_ACT. -/
def GW_RT_ACT (i : Nat) : Nat := 0x1810004 + 0x10 * i
def GW_RT_ACT.DST (i : Nat) : Loc := ⟨GW_RT_ACT i, 16, 16⟩
def GW_RT_ACT.FIFO (i : Nat) : Loc := ⟨GW_RT_ACT i, 15, 1⟩
def GW_RT_ACT.FMT (i : Nat) : Loc := ⟨GW_RT_ACT i, 13, 2⟩
def GW_RT_ACT.ID_REPL (i : Nat) : Loc := ⟨GW_RT_ACT i, 12, 1⟩
def GW_RT_ACT.OVW (i : Nat) : Loc := ⟨GW_RT_ACT i, 5, 1⟩
def GW_RT_ACT.PACK (i : Nat) : Loc := ⟨GW_RT_ACT i, 6, 5⟩
def GW_RT_ACT.PACK_EN (i : Nat) : Loc := ⟨GW_RT_ACT i, 11, 1⟩
/-- BAR0 offset of GW_RT_ID. -/
def GW_RT_ID (i : Nat) : Nat := 0x1810008 + 0x10 * i
def GW_RT_ID.ID (i : Nat) : Loc := ⟨GW_RT_ID i, 0, 29⟩
def GW_RT_ID.IDE (i : Nat) : Loc := ⟨GW_RT_ID i, 31, 1⟩
/-- BAR0 offset of GW_RT_TXO. -/
def GW_RT_TXO (i : Nat) : Nat := 0x181000c + 0x10 * i
def GW_RT_TXO.TXO (i : Nat) : Loc := ⟨GW_RT_TXO i, 0, 9⟩
/-- BAR0 offset of GW_PK_CFG. -/
def GW_PK_CFG (i : Nat) : Nat := 0x1820000 + 0x40 * i
def GW_PK_CFG.EN (i : Nat) : Loc := ⟨GW_PK_CFG i, 31, 1⟩
/-- BAR0 offset of GW_PK_LIM. -/
def GW_PK_LIM (i : Nat) : Nat := 0x1820004 + 0x40 * i
/-- BAR0 offset of GW_PK_TIME. -/
def GW_PK_TIME (i : Nat) : Nat := 0x1820008 + 0x40 * i
/-- BAR0 offset of GW_PK_STS. -/
def GW_PK_STS (i : Nat) : Nat := 0x182001c + 0x40 * i
def GW_PK_STS.MSG (i : Nat) : Loc := ⟨GW_PK_STS i, 0, 6⟩
def GW_PK_STS.SEQ (i : Nat) : Loc := ⟨GW_PK_STS i, 24, 8⟩
/-- BAR0 offset of GW_UP_CFG. -/
def GW_UP_CFG (i : Nat) : Nat := 0x1830000 + 0x10 * i
def GW_UP_CFG.DST (i : Nat) : Loc := ⟨GW_UP_CFG i, 0, 16⟩
def GW_UP_CFG.EN (i : Nat) : Loc := ⟨GW_UP_CFG i, 31, 1⟩
/-- BAR0 offset of GW_JIG_LO. -/
def GW_JIG_LO (i : Nat) : Nat := 0x1840000 + 0x10 * i
def GW_JIG_LO.LEN (i : Nat) : Loc := ⟨GW_JIG_LO i, 0, 6⟩
def GW_JIG_LO.SRC_BE (i : Nat) : Loc := ⟨GW_JIG_LO i, 6, 1⟩
def GW_JIG_LO.SRC_BIT (i : Nat) : Loc := ⟨GW_JIG_LO i, 7, 9⟩
def GW_JIG_LO.SRC_CAN (i : Nat) : Loc := ⟨GW_JIG_LO i, 28, 4⟩
def GW_JIG_LO.SRC_OBJ (i : Nat) : Loc := ⟨GW_JIG_LO i, 16, 12⟩
/-- BAR0 offset of GW_JIG_W1. -/
def GW_JIG_W1 (i : Nat) : Nat := 0x1840004 + 0x10 * i
def GW_JIG_W1.DST_BE (i : Nat) : Loc := ⟨GW_JIG_W1 i, 8, 1⟩
def GW_JIG_W1.DST_BIT (i : Nat) : Loc := ⟨GW_JIG_W1 i, 9, 9⟩
def GW_JIG_W1.DST_CAN (i : Nat) : Loc := ⟨GW_JIG_W1 i, 27, 4⟩
def GW_JIG_W1.DST_OBJ (i : Nat) : Loc := ⟨GW_JIG_W1 i, 18, 9⟩
def GW_JIG_W1.SET_REQ (i : Nat) : Loc := ⟨GW_JIG_W1 i, 7, 1⟩
def GW_JIG_W1.SUB_EN (i : Nat) : Loc := ⟨GW_JIG_W1 i, 6, 1⟩
def GW_JIG_W1.TMO_SEL (i : Nat) : Loc := ⟨GW_JIG_W1 i, 3, 3⟩
def GW_JIG_W1.VALID (i : Nat) : Loc := ⟨GW_JIG_W1 i, 31, 1⟩
/-- BAR0 offset of GW_JIG_STS. -/
def GW_JIG_STS (i : Nat) : Nat := 0x1850000 + 0x4 * i
def GW_JIG_STS.BAD (i : Nat) : Loc := ⟨GW_JIG_STS i, 30, 1⟩
def GW_JIG_STS.TIMED_OUT (i : Nat) : Loc := ⟨GW_JIG_STS i, 31, 1⟩
/-- BAR0 offset of GW_CMA_CFG. -/
def GW_CMA_CFG (i : Nat) : Nat := 0x1860000 + 0x20 * i
def GW_CMA_CFG.EN (i : Nat) : Loc := ⟨GW_CMA_CFG i, 31, 1⟩
/-- BAR0 offset of GW_CMA_ID. -/
def GW_CMA_ID (i : Nat) : Nat := 0x1860004 + 0x20 * i
def GW_CMA_ID.DATA_ID (i : Nat) : Loc := ⟨GW_CMA_ID i, 16, 16⟩
def GW_CMA_ID.SLOT (i : Nat) : Loc := ⟨GW_CMA_ID i, 0, 12⟩
/-- BAR0 offset of GW_CMA_STS. -/
def GW_CMA_STS (i : Nat) : Nat := 0x1860010 + 0x20 * i
def GW_CMA_STS.PASS (i : Nat) : Loc := ⟨GW_CMA_STS i, 28, 1⟩
def GW_CMA_STS.SEQ (i : Nat) : Loc := ⟨GW_CMA_STS i, 24, 4⟩
def GW_CMA_STS.STATE (i : Nat) : Loc := ⟨GW_CMA_STS i, 29, 3⟩
/-- BAR0 offset of GW_EVT. -/
def GW_EVT  : Nat := 0x1800010
def GW_EVT.BUSY_DROP  : Loc := ⟨GW_EVT, 2, 1⟩
def GW_EVT.CMA_FAIL  : Loc := ⟨GW_EVT, 9, 1⟩
def GW_EVT.CMA_HELD  : Loc := ⟨GW_EVT, 10, 1⟩
def GW_EVT.JIG_BAD  : Loc := ⟨GW_EVT, 7, 1⟩
def GW_EVT.JIG_DROP  : Loc := ⟨GW_EVT, 8, 1⟩
def GW_EVT.JIG_TMO  : Loc := ⟨GW_EVT, 6, 1⟩
def GW_EVT.NOROUTE  : Loc := ⟨GW_EVT, 0, 1⟩
def GW_EVT.NOSEND  : Loc := ⟨GW_EVT, 1, 1⟩
def GW_EVT.PACK_DROP  : Loc := ⟨GW_EVT, 4, 1⟩
def GW_EVT.RATE  : Loc := ⟨GW_EVT, 3, 1⟩
def GW_EVT.UP_ERR  : Loc := ⟨GW_EVT, 5, 1⟩
/-- BAR0 offset of TB_CFG. -/
def TB_CFG (i : Nat) : Nat := 0x1a00000 + 0x100 * i
def TB_CFG.EN (i : Nat) : Loc := ⟨TB_CFG i, 31, 1⟩
def TB_CFG.SRC (i : Nat) : Loc := ⟨TB_CFG i, 28, 2⟩
def TB_CFG.SRC_IDX (i : Nat) : Loc := ⟨TB_CFG i, 26, 2⟩
def TB_CFG.SRV_EN (i : Nat) : Loc := ⟨TB_CFG i, 30, 1⟩
def TB_CFG.STEP_EN (i : Nat) : Loc := ⟨TB_CFG i, 25, 1⟩
/-- BAR0 offset of TB_STS. -/
def TB_STS (i : Nat) : Nat := 0x1a00004 + 0x100 * i
def TB_STS.CFG_ERR (i : Nat) : Loc := ⟨TB_STS i, 27, 1⟩
def TB_STS.RUN (i : Nat) : Loc := ⟨TB_STS i, 31, 1⟩
def TB_STS.SRV (i : Nat) : Loc := ⟨TB_STS i, 28, 3⟩
def TB_STS.STEPS (i : Nat) : Loc := ⟨TB_STS i, 0, 8⟩
/-- BAR0 offset of TB_TIME_LO. -/
def TB_TIME_LO (i : Nat) : Nat := 0x1a00008 + 0x100 * i
/-- BAR0 offset of TB_INC_LO. -/
def TB_INC_LO (i : Nat) : Nat := 0x1a00014 + 0x100 * i
/-- BAR0 offset of TB_INC_HI. -/
def TB_INC_HI (i : Nat) : Nat := 0x1a00018 + 0x100 * i
def TB_INC_HI.INT (i : Nat) : Loc := ⟨TB_INC_HI i, 0, 8⟩
/-- BAR0 offset of TB_CMD. -/
def TB_CMD (i : Nat) : Nat := 0x1a00030 + 0x100 * i
/-- BAR0 offset of TB_SRV_GAIN. -/
def TB_SRV_GAIN (i : Nat) : Nat := 0x1a00034 + 0x100 * i
def TB_SRV_GAIN.KI (i : Nat) : Loc := ⟨TB_SRV_GAIN i, 0, 16⟩
def TB_SRV_GAIN.KP (i : Nat) : Loc := ⟨TB_SRV_GAIN i, 16, 16⟩
/-- BAR0 offset of TB_SRV_THR. -/
def TB_SRV_THR (i : Nat) : Nat := 0x1a00038 + 0x100 * i
def TB_SRV_THR.LOCK_NS (i : Nat) : Loc := ⟨TB_SRV_THR i, 0, 16⟩
def TB_SRV_THR.STEP_US (i : Nat) : Loc := ⟨TB_SRV_THR i, 16, 16⟩
/-- BAR0 offset of TB_SRV_TMO. -/
def TB_SRV_TMO (i : Nat) : Nat := 0x1a0003c + 0x100 * i
def TB_SRV_TMO.LOCK_N (i : Nat) : Loc := ⟨TB_SRV_TMO i, 24, 8⟩
/-- BAR0 offset of TB_SRV_OFS. -/
def TB_SRV_OFS (i : Nat) : Nat := 0x1a00040 + 0x100 * i
/-- BAR0 offset of TB_SRV_ADJ. -/
def TB_SRV_ADJ (i : Nat) : Nat := 0x1a00044 + 0x100 * i
/-- BAR0 offset of TB_EVT. -/
def TB_EVT (i : Nat) : Nat := 0x1a00048 + 0x100 * i
def TB_EVT.CFG_ERR (i : Nat) : Loc := ⟨TB_EVT i, 5, 1⟩
def TB_EVT.CLAMP (i : Nat) : Loc := ⟨TB_EVT i, 4, 1⟩
def TB_EVT.HOLDOVER (i : Nat) : Loc := ⟨TB_EVT i, 3, 1⟩
def TB_EVT.LOCKED (i : Nat) : Loc := ⟨TB_EVT i, 1, 1⟩
def TB_EVT.STEP (i : Nat) : Loc := ⟨TB_EVT i, 0, 1⟩
def TB_EVT.UNLOCKED (i : Nat) : Loc := ⟨TB_EVT i, 2, 1⟩
/-- BAR0 offset of TIME_EVT. -/
def TIME_EVT  : Nat := 0x1a40000
def TIME_EVT.CAP  : Loc := ⟨TIME_EVT, 3, 1⟩
def TIME_EVT.CAP_OVF  : Loc := ⟨TIME_EVT, 4, 1⟩
def TIME_EVT.TG_LATE  : Loc := ⟨TIME_EVT, 2, 1⟩
def TIME_EVT.TG_SKIP  : Loc := ⟨TIME_EVT, 0, 1⟩
def TIME_EVT.TG_SUPP  : Loc := ⟨TIME_EVT, 1, 1⟩
def TIME_EVT.TP_ASCAP  : Loc := ⟨TIME_EVT, 6, 1⟩
def TIME_EVT.TP_CFG_ERR  : Loc := ⟨TIME_EVT, 8, 1⟩
def TIME_EVT.TP_SYNC_DROP  : Loc := ⟨TIME_EVT, 7, 1⟩
def TIME_EVT.TP_SYNC_TMO  : Loc := ⟨TIME_EVT, 5, 1⟩
/-- BAR0 offset of TG_CFG. -/
def TG_CFG (i : Nat) : Nat := 0x1a10000 + 0x40 * i
def TG_CFG.EN (i : Nat) : Loc := ⟨TG_CFG i, 31, 1⟩
def TG_CFG.LINK (i : Nat) : Loc := ⟨TG_CFG i, 25, 1⟩
/-- BAR0 offset of TG_PER_LO. -/
def TG_PER_LO (i : Nat) : Nat := 0x1a10010 + 0x40 * i
def TG_PER_LO.NS (i : Nat) : Loc := ⟨TG_PER_LO i, 0, 32⟩
/-- BAR0 offset of TG_PER_HI. -/
def TG_PER_HI (i : Nat) : Nat := 0x1a10014 + 0x40 * i
def TG_PER_HI.FRAC (i : Nat) : Loc := ⟨TG_PER_HI i, 0, 8⟩
/-- BAR0 offset of TG_WIDTH. -/
def TG_WIDTH (i : Nat) : Nat := 0x1a10018 + 0x40 * i
def TG_WIDTH.NS (i : Nat) : Loc := ⟨TG_WIDTH i, 0, 32⟩
/-- BAR0 offset of TG_STS. -/
def TG_STS (i : Nat) : Nat := 0x1a1001c + 0x40 * i
def TG_STS.CFG_ERR (i : Nat) : Loc := ⟨TG_STS i, 30, 1⟩
def TG_STS.EDGES (i : Nat) : Loc := ⟨TG_STS i, 0, 16⟩
def TG_STS.RUN (i : Nat) : Loc := ⟨TG_STS i, 31, 1⟩
/-- BAR0 offset of CAP_CFG. -/
def CAP_CFG (i : Nat) : Nat := 0x1a20000 + 0x200 * i
def CAP_CFG.DLY (i : Nat) : Loc := ⟨CAP_CFG i, 0, 8⟩
def CAP_CFG.EDGE (i : Nat) : Loc := ⟨CAP_CFG i, 29, 2⟩
def CAP_CFG.EN (i : Nat) : Loc := ⟨CAP_CFG i, 31, 1⟩
def CAP_CFG.FILT (i : Nat) : Loc := ⟨CAP_CFG i, 8, 8⟩
def CAP_CFG.TB (i : Nat) : Loc := ⟨CAP_CFG i, 27, 2⟩
/-- BAR0 offset of CAP_PTR. -/
def CAP_PTR (i : Nat) : Nat := 0x1a20004 + 0x200 * i
def CAP_PTR.RD (i : Nat) : Loc := ⟨CAP_PTR i, 0, 5⟩
def CAP_PTR.WR (i : Nat) : Loc := ⟨CAP_PTR i, 16, 5⟩
/-- BAR0 offset of TP_GLB. -/
def TP_GLB  : Nat := 0x1a30000
def TP_GLB.COPY  : Loc := ⟨TP_GLB, 31, 1⟩
def TP_GLB.Q  : Loc := ⟨TP_GLB, 0, 6⟩
/-- BAR0 offset of TP_DOM_CFG. -/
def TP_DOM_CFG (i : Nat) : Nat := 0x1a30100 + 0x20 * i
def TP_DOM_CFG.DOMAIN (i : Nat) : Loc := ⟨TP_DOM_CFG i, 0, 8⟩
def TP_DOM_CFG.EN (i : Nat) : Loc := ⟨TP_DOM_CFG i, 31, 1⟩
def TP_DOM_CFG.ONE_STEP (i : Nat) : Loc := ⟨TP_DOM_CFG i, 30, 1⟩
def TP_DOM_CFG.SLAVE (i : Nat) : Loc := ⟨TP_DOM_CFG i, 23, 5⟩
def TP_DOM_CFG.SYNC_LOG (i : Nat) : Loc := ⟨TP_DOM_CFG i, 16, 4⟩
def TP_DOM_CFG.TB (i : Nat) : Loc := ⟨TP_DOM_CFG i, 28, 2⟩
/-- BAR0 offset of TP_DOM_MASTER. -/
def TP_DOM_MASTER (i : Nat) : Nat := 0x1a30104 + 0x20 * i
def TP_DOM_MASTER.MASK (i : Nat) : Loc := ⟨TP_DOM_MASTER i, 0, 24⟩
/-- BAR0 offset of TP_DOM_STS. -/
def TP_DOM_STS (i : Nat) : Nat := 0x1a30108 + 0x20 * i
def TP_DOM_STS.CFG_ERR (i : Nat) : Loc := ⟨TP_DOM_STS i, 30, 1⟩
def TP_DOM_STS.SEQ (i : Nat) : Loc := ⟨TP_DOM_STS i, 0, 16⟩
def TP_DOM_STS.SYNC_OK (i : Nat) : Loc := ⟨TP_DOM_STS i, 31, 1⟩
/-- BAR0 offset of TP_DOM_RR. -/
def TP_DOM_RR (i : Nat) : Nat := 0x1a3010c + 0x20 * i
/-- BAR0 offset of TP_PORT_CFG. -/
def TP_PORT_CFG (i : Nat) : Nat := 0x1a31000 + 0x10 * i
def TP_PORT_CFG.EN (i : Nat) : Loc := ⟨TP_PORT_CFG i, 31, 1⟩
def TP_PORT_CFG.LOST_MAX (i : Nat) : Loc := ⟨TP_PORT_CFG i, 20, 4⟩
def TP_PORT_CFG.PD_EN (i : Nat) : Loc := ⟨TP_PORT_CFG i, 30, 1⟩
def TP_PORT_CFG.PD_LOG (i : Nat) : Loc := ⟨TP_PORT_CFG i, 24, 4⟩
def TP_PORT_CFG.THRESH_NS (i : Nat) : Loc := ⟨TP_PORT_CFG i, 0, 20⟩
/-- BAR0 offset of TP_PORT_DLY. -/
def TP_PORT_DLY (i : Nat) : Nat := 0x1a31004 + 0x10 * i
/-- BAR0 offset of TP_PORT_NRR. -/
def TP_PORT_NRR (i : Nat) : Nat := 0x1a31008 + 0x10 * i
/-- BAR0 offset of TP_PORT_STS. -/
def TP_PORT_STS (i : Nat) : Nat := 0x1a3100c + 0x10 * i
def TP_PORT_STS.AS_CAPABLE (i : Nat) : Loc := ⟨TP_PORT_STS i, 31, 1⟩
def TP_PORT_STS.LOST (i : Nat) : Loc := ⟨TP_PORT_STS i, 0, 8⟩
/-- BAR0 offset of CRY_POOL_STS. -/
def CRY_POOL_STS  : Nat := 0x1c00000
def CRY_POOL_STS.IDLE  : Loc := ⟨CRY_POOL_STS, 16, 8⟩
def CRY_POOL_STS.INSVC  : Loc := ⟨CRY_POOL_STS, 8, 8⟩
/-- BAR0 offset of CRY_CMD. -/
def CRY_CMD  : Nat := 0x1c00008
def CRY_CMD.CORE  : Loc := ⟨CRY_CMD, 0, 8⟩
def CRY_CMD.OP  : Loc := ⟨CRY_CMD, 8, 4⟩
/-- BAR0 offset of CRY_DRBG_STS. -/
def CRY_DRBG_STS  : Nat := 0x1c00014
def CRY_DRBG_STS.STATE  : Loc := ⟨CRY_DRBG_STS, 30, 2⟩
/-- BAR0 offset of CRY_CORE. -/
def CRY_CORE (i : Nat) : Nat := 0x1c00400 + 0x4 * i
def CRY_CORE.BUSY (i : Nat) : Loc := ⟨CRY_CORE i, 15, 1⟩
def CRY_CORE.FAULTS (i : Nat) : Loc := ⟨CRY_CORE i, 0, 8⟩
def CRY_CORE.LOGICAL (i : Nat) : Loc := ⟨CRY_CORE i, 16, 4⟩
def CRY_CORE.STATE (i : Nat) : Loc := ⟨CRY_CORE i, 30, 2⟩
/-- BAR0 offset of CRY_SJQ_CFG. -/
def CRY_SJQ_CFG (i : Nat) : Nat := 0x1c01000 + 0x20 * i
def CRY_SJQ_CFG.DEPTH (i : Nat) : Loc := ⟨CRY_SJQ_CFG i, 16, 4⟩
def CRY_SJQ_CFG.EN (i : Nat) : Loc := ⟨CRY_SJQ_CFG i, 31, 1⟩
def CRY_SJQ_CFG.SIZE (i : Nat) : Loc := ⟨CRY_SJQ_CFG i, 24, 4⟩
/-- BAR0 offset of CRY_SJQ_PI. -/
def CRY_SJQ_PI (i : Nat) : Nat := 0x1c0100c + 0x20 * i
def CRY_SJQ_PI.PI (i : Nat) : Loc := ⟨CRY_SJQ_PI i, 0, 12⟩
/-- BAR0 offset of CRY_SJQ_CI. -/
def CRY_SJQ_CI (i : Nat) : Nat := 0x1c01010 + 0x20 * i
def CRY_SJQ_CI.CI (i : Nat) : Loc := ⟨CRY_SJQ_CI i, 0, 12⟩
def CRY_SJQ_CI.HALT (i : Nat) : Loc := ⟨CRY_SJQ_CI i, 31, 1⟩
/-- BAR0 offset of CRY_EVT. -/
def CRY_EVT  : Nat := 0x1c00020
def CRY_EVT.BUS_ERR  : Loc := ⟨CRY_EVT, 15, 1⟩
def CRY_EVT.CORE_FAULT  : Loc := ⟨CRY_EVT, 8, 1⟩
def CRY_EVT.CORE_RETIRED  : Loc := ⟨CRY_EVT, 9, 1⟩
def CRY_EVT.DRBG_FAIL  : Loc := ⟨CRY_EVT, 12, 1⟩
def CRY_EVT.DRBG_HEALTH  : Loc := ⟨CRY_EVT, 11, 1⟩
def CRY_EVT.HW_LOST  : Loc := ⟨CRY_EVT, 14, 1⟩
def CRY_EVT.SPARE_EXH  : Loc := ⟨CRY_EVT, 10, 1⟩
def CRY_EVT.SW_WAIT  : Loc := ⟨CRY_EVT, 13, 1⟩
/-- BAR0 offset of KEY_STS. -/
def KEY_STS  : Nat := 0x1d00000
def KEY_STS.KA_LOST  : Loc := ⟨KEY_STS, 29, 1⟩
def KEY_STS.PROV  : Loc := ⟨KEY_STS, 30, 2⟩
def KEY_STS.PROV_CNT  : Loc := ⟨KEY_STS, 0, 16⟩
def KEY_STS.SWEEP  : Loc := ⟨KEY_STS, 28, 1⟩
/-- BAR0 offset of KEY_CMD. -/
def KEY_CMD  : Nat := 0x1d00004
/-- BAR0 offset of KEY_RESULT. -/
def KEY_RESULT  : Nat := 0x1d00008
def KEY_RESULT.CODE  : Loc := ⟨KEY_RESULT, 0, 8⟩
/-- BAR0 offset of KEY_NEW. -/
def KEY_NEW  : Nat := 0x1d0000c
def KEY_NEW.REPL  : Loc := ⟨KEY_NEW, 31, 1⟩
def KEY_NEW.SIZE  : Loc := ⟨KEY_NEW, 28, 1⟩
def KEY_NEW.USE  : Loc := ⟨KEY_NEW, 20, 8⟩
/-- BAR0 offset of KEY_ARG. -/
def KEY_ARG (i j : Nat) : Nat := 0x1d00200 + 0x40 * i + 0x4 * j
/-- BAR0 offset of KEY_ATT_CMD. -/
def KEY_ATT_CMD  : Nat := 0x1d00028
/-- BAR0 offset of KEY_ATT_LEN. -/
def KEY_ATT_LEN  : Nat := 0x1d0002c
def KEY_ATT_LEN.LEN  : Loc := ⟨KEY_ATT_LEN, 0, 11⟩
/-- BAR0 offset of KEY_TAMP_EN. -/
def KEY_TAMP_EN  : Nat := 0x1d00100
def KEY_TAMP_EN.EN  : Loc := ⟨KEY_TAMP_EN, 0, 5⟩
/-- BAR0 offset of KEY_TAMP_STS. -/
def KEY_TAMP_STS  : Nat := 0x1d00104
def KEY_TAMP_STS.LVL  : Loc := ⟨KEY_TAMP_STS, 0, 7⟩
/-- BAR0 offset of KEY_TLOG_PTR. -/
def KEY_TLOG_PTR  : Nat := 0x1d00108
def KEY_TLOG_PTR.NEXT  : Loc := ⟨KEY_TLOG_PTR, 0, 4⟩
def KEY_TLOG_PTR.TOTAL  : Loc := ⟨KEY_TLOG_PTR, 16, 16⟩
/-- BAR0 offset of KEY_KA_TIME. -/
def KEY_KA_TIME  : Nat := 0x1d0010c
def KEY_KA_TIME.SEC  : Loc := ⟨KEY_KA_TIME, 0, 32⟩
/-- BAR0 offset of KEY_TLOG_LO. -/
def KEY_TLOG_LO (i : Nat) : Nat := 0x1d00180 + 0x8 * i
/-- BAR0 offset of KEY_SLOT_CFG. -/
def KEY_SLOT_CFG (i : Nat) : Nat := 0x1d10000 + 0x10 * i
def KEY_SLOT_CFG.DEPTH (i : Nat) : Loc := ⟨KEY_SLOT_CFG i, 16, 4⟩
def KEY_SLOT_CFG.PARENT (i : Nat) : Loc := ⟨KEY_SLOT_CFG i, 0, 12⟩
def KEY_SLOT_CFG.PEND (i : Nat) : Loc := ⟨KEY_SLOT_CFG i, 14, 1⟩
def KEY_SLOT_CFG.ROOTP (i : Nat) : Loc := ⟨KEY_SLOT_CFG i, 15, 1⟩
def KEY_SLOT_CFG.STATE (i : Nat) : Loc := ⟨KEY_SLOT_CFG i, 29, 3⟩
def KEY_SLOT_CFG.USE (i : Nat) : Loc := ⟨KEY_SLOT_CFG i, 20, 8⟩
/-- BAR0 offset of KEY_SLOT_GEN. -/
def KEY_SLOT_GEN (i : Nat) : Nat := 0x1d10004 + 0x10 * i
def KEY_SLOT_GEN.GEN (i : Nat) : Loc := ⟨KEY_SLOT_GEN i, 16, 16⟩
def KEY_SLOT_GEN.PGEN (i : Nat) : Loc := ⟨KEY_SLOT_GEN i, 0, 16⟩
/-- BAR0 offset of KEY_EVT. -/
def KEY_EVT  : Nat := 0x1d00020
def KEY_EVT.CMD_DONE  : Loc := ⟨KEY_EVT, 3, 1⟩
def KEY_EVT.CMD_FAIL  : Loc := ⟨KEY_EVT, 4, 1⟩
def KEY_EVT.KA_LOST  : Loc := ⟨KEY_EVT, 1, 1⟩
def KEY_EVT.LOSS_EXH  : Loc := ⟨KEY_EVT, 6, 1⟩
def KEY_EVT.NOROOT  : Loc := ⟨KEY_EVT, 7, 1⟩
def KEY_EVT.ORPHAN  : Loc := ⟨KEY_EVT, 5, 1⟩
def KEY_EVT.RES_LOST  : Loc := ⟨KEY_EVT, 2, 1⟩
def KEY_EVT.TAMPER  : Loc := ⟨KEY_EVT, 0, 1⟩
/-- BAR0 offset of PWR_LD_CTL. -/
def PWR_LD_CTL (i : Nat) : Nat := 0x1e01000 + 0x40 * i
def PWR_LD_CTL.DUTY (i : Nat) : Loc := ⟨PWR_LD_CTL i, 0, 11⟩
def PWR_LD_CTL.MODE (i : Nat) : Loc := ⟨PWR_LD_CTL i, 30, 2⟩
def PWR_LD_CTL.TG (i : Nat) : Loc := ⟨PWR_LD_CTL i, 25, 5⟩
/-- BAR0 offset of PWR_LD_PROT. -/
def PWR_LD_PROT (i : Nat) : Nat := 0x1e01008 + 0x40 * i
def PWR_LD_PROT.INRUSH_MS (i : Nat) : Loc := ⟨PWR_LD_PROT i, 11, 5⟩
def PWR_LD_PROT.OL_EN (i : Nat) : Loc := ⟨PWR_LD_PROT i, 7, 1⟩
/-- BAR0 offset of PWR_LD_RTY. -/
def PWR_LD_RTY (i : Nat) : Nat := 0x1e0100c + 0x40 * i
def PWR_LD_RTY.RTY_MAX (i : Nat) : Loc := ⟨PWR_LD_RTY i, 28, 4⟩
/-- BAR0 offset of PWR_LD_BUD. -/
def PWR_LD_BUD (i : Nat) : Nat := 0x1e01010 + 0x40 * i
def PWR_LD_BUD.CLAIM (i : Nat) : Loc := ⟨PWR_LD_BUD i, 0, 12⟩
def PWR_LD_BUD.ICLAIM (i : Nat) : Loc := ⟨PWR_LD_BUD i, 12, 12⟩
def PWR_LD_BUD.PRIO (i : Nat) : Loc := ⟨PWR_LD_BUD i, 29, 3⟩
/-- BAR0 offset of PWR_LD_CLMP. -/
def PWR_LD_CLMP (i : Nat) : Nat := 0x1e01014 + 0x40 * i
def PWR_LD_CLMP.DRAIN (i : Nat) : Loc := ⟨PWR_LD_CLMP i, 0, 12⟩
def PWR_LD_CLMP.EBUD (i : Nat) : Loc := ⟨PWR_LD_CLMP i, 12, 12⟩
def PWR_LD_CLMP.EMAX (i : Nat) : Loc := ⟨PWR_LD_CLMP i, 24, 8⟩
/-- BAR0 offset of PWR_LD_ADCC. -/
def PWR_LD_ADCC (i : Nat) : Nat := 0x1e01018 + 0x40 * i
def PWR_LD_ADCC.TG (i : Nat) : Loc := ⟨PWR_LD_ADCC i, 26, 5⟩
def PWR_LD_ADCC.TRIG_EN (i : Nat) : Loc := ⟨PWR_LD_ADCC i, 31, 1⟩
/-- BAR0 offset of PWR_LD_ADC. -/
def PWR_LD_ADC (i : Nat) : Nat := 0x1e0101c + 0x40 * i
def PWR_LD_ADC.CODE (i : Nat) : Loc := ⟨PWR_LD_ADC i, 0, 12⟩
def PWR_LD_ADC.SAT (i : Nat) : Loc := ⟨PWR_LD_ADC i, 30, 1⟩
def PWR_LD_ADC.SEQ (i : Nat) : Loc := ⟨PWR_LD_ADC i, 24, 6⟩
def PWR_LD_ADC.TJ (i : Nat) : Loc := ⟨PWR_LD_ADC i, 16, 8⟩
def PWR_LD_ADC.VALID (i : Nat) : Loc := ⟨PWR_LD_ADC i, 31, 1⟩
/-- BAR0 offset of PWR_LD_STS. -/
def PWR_LD_STS (i : Nat) : Nat := 0x1e01020 + 0x40 * i
def PWR_LD_STS.CAUSE (i : Nat) : Loc := ⟨PWR_LD_STS i, 24, 4⟩
def PWR_LD_STS.OPEN (i : Nat) : Loc := ⟨PWR_LD_STS i, 22, 1⟩
def PWR_LD_STS.OUT (i : Nat) : Loc := ⟨PWR_LD_STS i, 21, 1⟩
def PWR_LD_STS.OWNER (i : Nat) : Loc := ⟨PWR_LD_STS i, 12, 3⟩
def PWR_LD_STS.RTY_CNT (i : Nat) : Loc := ⟨PWR_LD_STS i, 16, 4⟩
def PWR_LD_STS.STATE (i : Nat) : Loc := ⟨PWR_LD_STS i, 28, 4⟩
def PWR_LD_STS.TLATCH (i : Nat) : Loc := ⟨PWR_LD_STS i, 23, 1⟩
/-- BAR0 offset of PWR_LD_GLB. -/
def PWR_LD_GLB  : Nat := 0x1e00800
def PWR_LD_GLB.VS_UV  : Loc := ⟨PWR_LD_GLB, 24, 8⟩
/-- BAR0 offset of PWR_LD_BUDGET. -/
def PWR_LD_BUDGET  : Nat := 0x1e00804
def PWR_LD_BUDGET.LIMIT  : Loc := ⟨PWR_LD_BUDGET, 0, 12⟩
/-- BAR0 offset of PWR_SO. -/
def PWR_SO  : Nat := 0x1e00808
def PWR_SO.MASK  : Loc := ⟨PWR_SO, 0, 24⟩
def PWR_SO.PIN  : Loc := ⟨PWR_SO, 31, 1⟩
/-- BAR0 offset of PWR_LD_CMD. -/
def PWR_LD_CMD  : Nat := 0x1e0080c
/-- BAR0 offset of PWR_LD_GRP. -/
def PWR_LD_GRP (i : Nat) : Nat := 0x1e00900 + 0x4 * i
def PWR_LD_GRP.TREG (i : Nat) : Loc := ⟨PWR_LD_GRP i, 16, 8⟩
/-- BAR0 offset of PWR_LD_EVT. -/
def PWR_LD_EVT  : Nat := 0x1e00810
def PWR_LD_EVT.BUD_REFUSE  : Loc := ⟨PWR_LD_EVT, 7, 1⟩
def PWR_LD_EVT.EDGE_MISS  : Loc := ⟨PWR_LD_EVT, 10, 1⟩
def PWR_LD_EVT.FAULT  : Loc := ⟨PWR_LD_EVT, 4, 1⟩
def PWR_LD_EVT.HOLD_OFF  : Loc := ⟨PWR_LD_EVT, 11, 1⟩
def PWR_LD_EVT.LOCK  : Loc := ⟨PWR_LD_EVT, 5, 1⟩
def PWR_LD_EVT.OC  : Loc := ⟨PWR_LD_EVT, 1, 1⟩
def PWR_LD_EVT.OPEN  : Loc := ⟨PWR_LD_EVT, 6, 1⟩
def PWR_LD_EVT.SAFE  : Loc := ⟨PWR_LD_EVT, 9, 1⟩
def PWR_LD_EVT.SHORT  : Loc := ⟨PWR_LD_EVT, 0, 1⟩
def PWR_LD_EVT.THERM  : Loc := ⟨PWR_LD_EVT, 2, 1⟩
def PWR_LD_EVT.TWARN  : Loc := ⟨PWR_LD_EVT, 3, 1⟩
def PWR_LD_EVT.UV  : Loc := ⟨PWR_LD_EVT, 8, 1⟩
/-- BAR0 offset of MAC_SLP_MDIO_A. -/
def MAC_SLP_MDIO_A (i : Nat) : Nat := 0x460400 + 0x8 * i
def MAC_SLP_MDIO_A.CL45 (i : Nat) : Loc := ⟨MAC_SLP_MDIO_A i, 28, 1⟩
def MAC_SLP_MDIO_A.DEVAD (i : Nat) : Loc := ⟨MAC_SLP_MDIO_A i, 18, 5⟩
def MAC_SLP_MDIO_A.M (i : Nat) : Loc := ⟨MAC_SLP_MDIO_A i, 29, 1⟩
def MAC_SLP_MDIO_A.PHASE (i : Nat) : Loc := ⟨MAC_SLP_MDIO_A i, 30, 1⟩
def MAC_SLP_MDIO_A.PRTAD (i : Nat) : Loc := ⟨MAC_SLP_MDIO_A i, 23, 5⟩
def MAC_SLP_MDIO_A.VALID (i : Nat) : Loc := ⟨MAC_SLP_MDIO_A i, 31, 1⟩
/-- BAR0 offset of MAC_SLP_MDIO_B. -/
def MAC_SLP_MDIO_B (i : Nat) : Nat := 0x460404 + 0x8 * i
def MAC_SLP_MDIO_B.DATA (i : Nat) : Loc := ⟨MAC_SLP_MDIO_B i, 0, 16⟩
def MAC_SLP_MDIO_B.REG (i : Nat) : Loc := ⟨MAC_SLP_MDIO_B i, 16, 16⟩
/-- BAR0 offset of PWR_SLP_CMD. -/
def PWR_SLP_CMD  : Nat := 0x1e00000
/-- BAR0 offset of PWR_SLP_STS. -/
def PWR_SLP_STS  : Nat := 0x1e00004
def PWR_SLP_STS.QUIET  : Loc := ⟨PWR_SLP_STS, 0, 16⟩
def PWR_SLP_STS.REASON  : Loc := ⟨PWR_SLP_STS, 26, 3⟩
def PWR_SLP_STS.STATE  : Loc := ⟨PWR_SLP_STS, 29, 3⟩
/-- BAR0 offset of PWR_SLP_MASK. -/
def PWR_SLP_MASK  : Nat := 0x1e00010
def PWR_SLP_MASK.BUS  : Loc := ⟨PWR_SLP_MASK, 0, 16⟩
def PWR_SLP_MASK.PHY_EN  : Loc := ⟨PWR_SLP_MASK, 16, 1⟩
/-- BAR0 offset of PWR_SLP_TIMER. -/
def PWR_SLP_TIMER  : Nat := 0x1e00014
/-- BAR0 offset of PWR_SLP_ANN. -/
def PWR_SLP_ANN (i : Nat) : Nat := 0x1e00040 + 0x4 * i
def PWR_SLP_ANN.EN (i : Nat) : Loc := ⟨PWR_SLP_ANN i, 31, 1⟩
def PWR_SLP_ANN.OBJ (i : Nat) : Loc := ⟨PWR_SLP_ANN i, 0, 9⟩
/-- BAR0 offset of PWR_WK_CFG. -/
def PWR_WK_CFG (i : Nat) : Nat := 0x1e00080 + 0x4 * i
def PWR_WK_CFG.EN (i : Nat) : Loc := ⟨PWR_WK_CFG i, 31, 1⟩
def PWR_WK_CFG.TYPE (i : Nat) : Loc := ⟨PWR_WK_CFG i, 28, 3⟩
/-- BAR0 offset of PWR_WK_SRC. -/
def PWR_WK_SRC  : Nat := 0x1e00090
/-- BAR0 offset of PWR_WK_FIRST. -/
def PWR_WK_FIRST  : Nat := 0x1e00094
def PWR_WK_FIRST.CODE  : Loc := ⟨PWR_WK_FIRST, 28, 4⟩
def PWR_WK_FIRST.IDX  : Loc := ⟨PWR_WK_FIRST, 24, 4⟩
/-- BAR0 offset of PWR_WK_SLEPT. -/
def PWR_WK_SLEPT  : Nat := 0x1e00098
/-- BAR0 offset of PWR_SLP_EVT. -/
def PWR_SLP_EVT  : Nat := 0x1e000a0
def PWR_SLP_EVT.ABORT  : Loc := ⟨PWR_SLP_EVT, 2, 1⟩
def PWR_SLP_EVT.MOD_FS  : Loc := ⟨PWR_SLP_EVT, 4, 1⟩
def PWR_SLP_EVT.READY  : Loc := ⟨PWR_SLP_EVT, 1, 1⟩
def PWR_SLP_EVT.SW_CFG_ERR  : Loc := ⟨PWR_SLP_EVT, 5, 1⟩
def PWR_SLP_EVT.TRX_FS  : Loc := ⟨PWR_SLP_EVT, 3, 1⟩
def PWR_SLP_EVT.WAKE  : Loc := ⟨PWR_SLP_EVT, 0, 1⟩
/-- BAR0 offset of PWR_TRX_CFG. -/
def PWR_TRX_CFG (i : Nat) : Nat := 0x1e04000 + 0x40 * i
def PWR_TRX_CFG.MODE (i : Nat) : Loc := ⟨PWR_TRX_CFG i, 29, 3⟩
/-- BAR0 offset of PWR_TRX_STS. -/
def PWR_TRX_STS (i : Nat) : Nat := 0x1e04014 + 0x40 * i
def PWR_TRX_STS.BIAS (i : Nat) : Loc := ⟨PWR_TRX_STS i, 28, 1⟩
def PWR_TRX_STS.ERRCNT (i : Nat) : Loc := ⟨PWR_TRX_STS i, 16, 6⟩
def PWR_TRX_STS.STATE (i : Nat) : Loc := ⟨PWR_TRX_STS i, 29, 3⟩
def PWR_TRX_STS.SW_CFG_ERR (i : Nat) : Loc := ⟨PWR_TRX_STS i, 27, 1⟩
/-- BAR0 offset of BRG_LINK. -/
def BRG_LINK  : Nat := 0x2000004
def BRG_LINK.BME  : Loc := ⟨BRG_LINK, 30, 1⟩
def BRG_LINK.FMASK  : Loc := ⟨BRG_LINK, 27, 1⟩
def BRG_LINK.MSE  : Loc := ⟨BRG_LINK, 29, 1⟩
def BRG_LINK.MSIX_EN  : Loc := ⟨BRG_LINK, 28, 1⟩
def BRG_LINK.SPEED  : Loc := ⟨BRG_LINK, 20, 4⟩
def BRG_LINK.UP  : Loc := ⟨BRG_LINK, 31, 1⟩
def BRG_LINK.WIDTH  : Loc := ⟨BRG_LINK, 24, 3⟩
/-- BAR0 offset of BRG_WIN. -/
def BRG_WIN  : Nat := 0x2000008
def BRG_WIN.BASE_MIB  : Loc := ⟨BRG_WIN, 0, 14⟩
/-- BAR0 offset of BRG_LFL_PTR. -/
def BRG_LFL_PTR  : Nat := 0x200000c
def BRG_LFL_PTR.NEXT  : Loc := ⟨BRG_LFL_PTR, 0, 4⟩
/-- BAR0 offset of BRG_LFL_ADDR. -/
def BRG_LFL_ADDR (i : Nat) : Nat := 0x2000100 + 0x8 * i
/-- BAR0 offset of BRG_LFL_INFO. -/
def BRG_LFL_INFO (i : Nat) : Nat := 0x2000104 + 0x8 * i
/-- BAR0 offset of BRG_SEM. -/
def BRG_SEM (i : Nat) : Nat := 0x2000200 + 0x4 * i
/-- BAR0 offset of BRG_EVT. -/
def BRG_EVT  : Nat := 0x2000010
def BRG_EVT.ATTACH  : Loc := ⟨BRG_EVT, 8, 1⟩
def BRG_EVT.CPL_TMO  : Loc := ⟨BRG_EVT, 6, 1⟩
def BRG_EVT.DETACH  : Loc := ⟨BRG_EVT, 7, 1⟩
def BRG_EVT.LATE  : Loc := ⟨BRG_EVT, 0, 1⟩
def BRG_EVT.OUT_ERR  : Loc := ⟨BRG_EVT, 5, 1⟩
def BRG_EVT.POISON  : Loc := ⟨BRG_EVT, 4, 1⟩
def BRG_EVT.RD_CA  : Loc := ⟨BRG_EVT, 1, 1⟩
def BRG_EVT.RD_TMO  : Loc := ⟨BRG_EVT, 2, 1⟩
def BRG_EVT.UR  : Loc := ⟨BRG_EVT, 3, 1⟩
/-- BAR0 offset of MSIX_PBA. -/
def MSIX_PBA (i : Nat) : Nat := 0x2011000 + 0x4 * i
/-- BAR0 offset of DMA_CH_CFG. -/
def DMA_CH_CFG (i : Nat) : Nat := 0x2100000 + 0x40 * i
def DMA_CH_CFG.BURST (i : Nat) : Loc := ⟨DMA_CH_CFG i, 25, 3⟩
def DMA_CH_CFG.EN (i : Nat) : Loc := ⟨DMA_CH_CFG i, 31, 1⟩
def DMA_CH_CFG.PRIO (i : Nat) : Loc := ⟨DMA_CH_CFG i, 28, 3⟩
def DMA_CH_CFG.REARM (i : Nat) : Loc := ⟨DMA_CH_CFG i, 17, 1⟩
def DMA_CH_CFG.TG (i : Nat) : Loc := ⟨DMA_CH_CFG i, 18, 5⟩
def DMA_CH_CFG.TRIG (i : Nat) : Loc := ⟨DMA_CH_CFG i, 23, 2⟩
def DMA_CH_CFG.VEC (i : Nat) : Loc := ⟨DMA_CH_CFG i, 11, 5⟩
def DMA_CH_CFG.VEC_EN (i : Nat) : Loc := ⟨DMA_CH_CFG i, 16, 1⟩
/-- BAR0 offset of DMA_CH_CMD. -/
def DMA_CH_CMD (i : Nat) : Nat := 0x2100004 + 0x40 * i
/-- BAR0 offset of DMA_CH_STS. -/
def DMA_CH_STS (i : Nat) : Nat := 0x2100010 + 0x40 * i
def DMA_CH_STS.REM (i : Nat) : Loc := ⟨DMA_CH_STS i, 0, 25⟩
def DMA_CH_STS.STATE (i : Nat) : Loc := ⟨DMA_CH_STS i, 29, 3⟩
def DMA_CH_STS.STOPPED (i : Nat) : Loc := ⟨DMA_CH_STS i, 27, 1⟩
def DMA_CH_STS.UNDERRUN (i : Nat) : Loc := ⟨DMA_CH_STS i, 28, 1⟩
/-- BAR0 offset of DMA_CH_ERR_INFO. -/
def DMA_CH_ERR_INFO (i : Nat) : Nat := 0x2100024 + 0x40 * i
def DMA_CH_ERR_INFO.VALID (i : Nat) : Loc := ⟨DMA_CH_ERR_INFO i, 31, 1⟩
/-- BAR0 offset of QUE_CFG. -/
def QUE_CFG (i : Nat) : Nat := 0x2200000 + 0x40 * i
def QUE_CFG.DIR (i : Nat) : Loc := ⟨QUE_CFG i, 30, 1⟩
def QUE_CFG.EN (i : Nat) : Loc := ⟨QUE_CFG i, 31, 1⟩
def QUE_CFG.OWNER (i : Nat) : Loc := ⟨QUE_CFG i, 27, 3⟩
def QUE_CFG.VEC (i : Nat) : Loc := ⟨QUE_CFG i, 21, 5⟩
def QUE_CFG.VEC_EN (i : Nat) : Loc := ⟨QUE_CFG i, 26, 1⟩
/-- BAR0 offset of QUE_WM. -/
def QUE_WM (i : Nat) : Nat := 0x2200004 + 0x40 * i
def QUE_WM.HI (i : Nat) : Loc := ⟨QUE_WM i, 16, 15⟩
def QUE_WM.LO (i : Nat) : Loc := ⟨QUE_WM i, 0, 15⟩
/-- BAR0 offset of QUE_STS. -/
def QUE_STS (i : Nat) : Nat := 0x2200014 + 0x40 * i
def QUE_STS.BOUND (i : Nat) : Loc := ⟨QUE_STS i, 29, 1⟩
def QUE_STS.HALT (i : Nat) : Loc := ⟨QUE_STS i, 30, 1⟩
def QUE_STS.LEVEL (i : Nat) : Loc := ⟨QUE_STS i, 0, 15⟩
def QUE_STS.WM (i : Nat) : Loc := ⟨QUE_STS i, 31, 1⟩
/-- BAR0 offset of QUE_CMD. -/
def QUE_CMD (i : Nat) : Nat := 0x2200018 + 0x40 * i
/-- BAR0 offset of QUE_WIN. -/
def QUE_WIN (i j : Nat) : Nat := 0x2280000 + 0x1000 * i + 0x4 * j
/-- BAR0 offset of CQP_CFG. -/
def CQP_CFG  : Nat := 0x2210000
def CQP_CFG.ALIVE_MS  : Loc := ⟨CQP_CFG, 0, 16⟩
def CQP_CFG.EN  : Loc := ⟨CQP_CFG, 31, 1⟩
def CQP_CFG.QUAD  : Loc := ⟨CQP_CFG, 30, 1⟩
/-- BAR0 offset of MEM_STS. -/
def MEM_STS  : Nat := 0x2400000
def MEM_STS.INIT  : Loc := ⟨MEM_STS, 31, 1⟩
/-- BAR0 offset of MEM_REC_AREA. -/
def MEM_REC_AREA  : Nat := 0x2400004
def MEM_REC_AREA.BASE_MIB  : Loc := ⟨MEM_REC_AREA, 0, 16⟩
def MEM_REC_AREA.SIZE_MIB  : Loc := ⟨MEM_REC_AREA, 16, 16⟩
/-- BAR0 offset of MEM_EXP_CFG. -/
def MEM_EXP_CFG  : Nat := 0x240000c
def MEM_EXP_CFG.CHUNK  : Loc := ⟨MEM_EXP_CFG, 24, 4⟩
def MEM_EXP_CFG.SLOT  : Loc := ⟨MEM_EXP_CFG, 0, 12⟩
/-- BAR0 offset of MEM_EXP_STS. -/
def MEM_EXP_STS  : Nat := 0x2400018
def MEM_EXP_STS.CODE  : Loc := ⟨MEM_EXP_STS, 27, 3⟩
def MEM_EXP_STS.RING  : Loc := ⟨MEM_EXP_STS, 16, 6⟩
def MEM_EXP_STS.STATE  : Loc := ⟨MEM_EXP_STS, 30, 2⟩
/-- BAR0 offset of MEM_REC_CMD. -/
def MEM_REC_CMD  : Nat := 0x2400020
/-- BAR0 offset of MEM_ELOG. -/
def MEM_ELOG (i : Nat) : Nat := 0x2400100 + 0x4 * i
/-- BAR0 offset of FLT_STS. -/
def FLT_STS  : Nat := 0x100000
def FLT_STS.DUMPING  : Loc := ⟨FLT_STS, 30, 1⟩
def FLT_STS.FATAL  : Loc := ⟨FLT_STS, 31, 1⟩
def FLT_STS.FATAL_OVF  : Loc := ⟨FLT_STS, 16, 14⟩
def FLT_STS.HOLD  : Loc := ⟨FLT_STS, 15, 1⟩
def FLT_STS.INSVC_N  : Loc := ⟨FLT_STS, 0, 9⟩
/-- BAR0 offset of FLT_FATAL_CFG. -/
def FLT_FATAL_CFG  : Nat := 0x10000c
def FLT_FATAL_CFG.ACT  : Loc := ⟨FLT_FATAL_CFG, 0, 2⟩
def FLT_FATAL_CFG.PAYLOAD  : Loc := ⟨FLT_FATAL_CFG, 2, 1⟩
/-- BAR0 offset of FLT_DEGR. -/
def FLT_DEGR  : Nat := 0x100018
def FLT_DEGR.ARRAY  : Loc := ⟨FLT_DEGR, 4, 1⟩
def FLT_DEGR.CIPHER  : Loc := ⟨FLT_DEGR, 3, 1⟩
def FLT_DEGR.CONFIG  : Loc := ⟨FLT_DEGR, 0, 1⟩
def FLT_DEGR.PLY  : Loc := ⟨FLT_DEGR, 2, 1⟩
def FLT_DEGR.TABLE  : Loc := ⟨FLT_DEGR, 1, 1⟩
/-- BAR0 offset of FLT_DUMP_STS. -/
def FLT_DUMP_STS (i : Nat) : Nat := 0x100020 + 0x4 * i
def FLT_DUMP_STS.COMPLETE (i : Nat) : Loc := ⟨FLT_DUMP_STS i, 30, 1⟩
def FLT_DUMP_STS.VALID (i : Nat) : Loc := ⟨FLT_DUMP_STS i, 31, 1⟩
/-- BAR0 offset of FLT_DUMP_CMD. -/
def FLT_DUMP_CMD  : Nat := 0x100028
/-- BAR0 offset of FLT_TENON. -/
def FLT_TENON  : Nat := 0x100030
def FLT_TENON.LOST  : Loc := ⟨FLT_TENON, 31, 1⟩
def FLT_TENON.LOST_MS  : Loc := ⟨FLT_TENON, 0, 16⟩
/-- BAR0 offset of FLT_SAVE_REC. -/
def FLT_SAVE_REC (i : Nat) : Nat := 0x100400 + 0x4 * i
/-- BAR0 offset of FLT_SRC_CFG. -/
def FLT_SRC_CFG (i : Nat) : Nat := 0x101000 + 0x20 * i
def FLT_SRC_CFG.MASK (i : Nat) : Loc := ⟨FLT_SRC_CFG i, 29, 1⟩
/-- BAR0 offset of FLT_SRC_STS. -/
def FLT_SRC_STS (i : Nat) : Nat := 0x101004 + 0x20 * i
def FLT_SRC_STS.INSVC (i : Nat) : Loc := ⟨FLT_SRC_STS i, 31, 1⟩
def FLT_SRC_STS.OVF (i : Nat) : Loc := ⟨FLT_SRC_STS i, 0, 16⟩
/-- BAR0 offset of PWR_SUP_CFG. -/
def PWR_SUP_CFG  : Nat := 0x1e00c00
def PWR_SUP_CFG.VHOLD_SET  : Loc := ⟨PWR_SUP_CFG, 16, 8⟩
def PWR_SUP_CFG.VS_SAVE  : Loc := ⟨PWR_SUP_CFG, 24, 8⟩
/-- BAR0 offset of PWR_SUP_STS. -/
def PWR_SUP_STS  : Nat := 0x1e00c04
def PWR_SUP_STS.CHARGED  : Loc := ⟨PWR_SUP_STS, 5, 1⟩
def PWR_SUP_STS.SAVE  : Loc := ⟨PWR_SUP_STS, 6, 2⟩
def PWR_SUP_STS.VHOLD  : Loc := ⟨PWR_SUP_STS, 8, 12⟩
def PWR_SUP_STS.VS  : Loc := ⟨PWR_SUP_STS, 20, 12⟩
/-- BAR0 offset of PWR_SUP_CAP. -/
def PWR_SUP_CAP  : Nat := 0x1e00c08
def PWR_SUP_CAP.E  : Loc := ⟨PWR_SUP_CAP, 16, 16⟩
def PWR_SUP_CAP.UF  : Loc := ⟨PWR_SUP_CAP, 0, 16⟩
/-- BAR0 offset of FLT_EVT. -/
def FLT_EVT  : Nat := 0x100010
def FLT_EVT.CORRECTED  : Loc := ⟨FLT_EVT, 0, 1⟩
def FLT_EVT.DUMP_DONE  : Loc := ⟨FLT_EVT, 4, 1⟩
def FLT_EVT.ERROR  : Loc := ⟨FLT_EVT, 1, 1⟩
def FLT_EVT.FATAL  : Loc := ⟨FLT_EVT, 3, 1⟩
def FLT_EVT.REDUCED  : Loc := ⟨FLT_EVT, 2, 1⟩
/-- BAR0 offset of REP_EVT. -/
def REP_EVT  : Nat := 0x2800010
def REP_EVT.EXH  : Loc := ⟨REP_EVT, 1, 1⟩
def REP_EVT.REC_FULL  : Loc := ⟨REP_EVT, 2, 1⟩
def REP_EVT.REPAIR  : Loc := ⟨REP_EVT, 0, 1⟩
/-- BAR0 offset of MGT_STS. -/
def MGT_STS  : Nat := 0x2600004
def MGT_STS.CAUSE  : Loc := ⟨MGT_STS, 22, 3⟩
def MGT_STS.FALLBACK  : Loc := ⟨MGT_STS, 25, 1⟩
def MGT_STS.SLOT  : Loc := ⟨MGT_STS, 27, 2⟩
def MGT_STS.STATE  : Loc := ⟨MGT_STS, 29, 3⟩
def MGT_STS.TRIAL  : Loc := ⟨MGT_STS, 26, 1⟩
/-- BAR0 offset of MGT_FW_SEL. -/
def MGT_FW_SEL  : Nat := 0x2600020
def MGT_FW_SEL.ACT  : Loc := ⟨MGT_FW_SEL, 0, 1⟩
def MGT_FW_SEL.DEFAULTS  : Loc := ⟨MGT_FW_SEL, 4, 1⟩
def MGT_FW_SEL.KNOWN  : Loc := ⟨MGT_FW_SEL, 3, 1⟩
def MGT_FW_SEL.TRIAL  : Loc := ⟨MGT_FW_SEL, 2, 1⟩
def MGT_FW_SEL.TRIED  : Loc := ⟨MGT_FW_SEL, 5, 1⟩
def MGT_FW_SEL.TSLOT  : Loc := ⟨MGT_FW_SEL, 1, 1⟩
/-- BAR0 offset of MGT_FW_CMD. -/
def MGT_FW_CMD  : Nat := 0x2600028
/-- BAR0 offset of MGT_FW_CHK. -/
def MGT_FW_CHK  : Nat := 0x260002c
def MGT_FW_CHK.CHECKED  : Loc := ⟨MGT_FW_CHK, 31, 1⟩
def MGT_FW_CHK.SLOT  : Loc := ⟨MGT_FW_CHK, 30, 1⟩
/-- BAR0 offset of MGT_FL_CMD. -/
def MGT_FL_CMD  : Nat := 0x2600100
/-- BAR0 offset of TBL_DATA_W1. -/
def TBL_DATA_W1 (i : Nat) : Nat := 0x800208 + 0x20 * i
/-- BAR0 offset of TBL_DATA_W2. -/
def TBL_DATA_W2 (i : Nat) : Nat := 0x80020c + 0x20 * i
/-- BAR0 offset of TBL_DATA_HI. -/
def TBL_DATA_HI (i : Nat) : Nat := 0x800210 + 0x20 * i
/-- BAR0 offset of SW_CBS4. -/
def SW_CBS4 (i : Nat) : Nat := 0xc01008 + 0x10 * i
def SW_CBS4.EN (i : Nat) : Loc := ⟨SW_CBS4 i, 31, 1⟩
def SW_CBS4.IDLE (i : Nat) : Loc := ⟨SW_CBS4 i, 0, 22⟩
/-- BAR0 offset of STR_KEYB. -/
def STR_KEYB (i : Nat) : Nat := 0x1000014 + 0x80 * i
def STR_KEYB.LABEL (i : Nat) : Loc := ⟨STR_KEYB i, 12, 8⟩
def STR_KEYB.SLOT (i : Nat) : Loc := ⟨STR_KEYB i, 0, 12⟩
def STR_KEYB.VALID (i : Nat) : Loc := ⟨STR_KEYB i, 31, 1⟩
/-- BAR0 offset of STR_EVT0. -/
def STR_EVT0  : Nat := 0x1010000
def STR_EVT0.BUDGET  : Loc := ⟨STR_EVT0, 15, 1⟩
/-- BAR0 offset of STR_EVT. -/
def STR_EVT (i : Nat) : Nat := 0x1010010 + 0x10 * i
/-- BAR0 offset of CAN_XBT. -/
def CAN_XBT (i : Nat) : Nat := 0x140000c + 0x10000 * i
/-- BAR0 offset of CAN_SOF_CTR_HI. -/
def CAN_SOF_CTR_HI  : Nat := 0x17f0004
/-- BAR0 offset of CAN_XCAP_LO. -/
def CAN_XCAP_LO  : Nat := 0x17f0010
/-- BAR0 offset of CAN_XCAP_HI. -/
def CAN_XCAP_HI  : Nat := 0x17f0048
def CAN_XCAP_HI.CAPSEQ  : Loc := ⟨CAN_XCAP_HI, 0, 16⟩
/-- BAR0 offset of CAN_TXO_W0. -/
def CAN_TXO_W0 (i j : Nat) : Nat := 0x1404000 + 0x10000 * i + 0x50 * j
def CAN_TXO_W0.FMT (i j : Nat) : Loc := ⟨CAN_TXO_W0 i j, 29, 2⟩
def CAN_TXO_W0.ID (i j : Nat) : Loc := ⟨CAN_TXO_W0 i j, 0, 29⟩
def CAN_TXO_W0.IDE (i j : Nat) : Loc := ⟨CAN_TXO_W0 i j, 31, 1⟩
/-- BAR0 offset of CAN_TXO_W1. -/
def CAN_TXO_W1 (i j : Nat) : Nat := 0x1404004 + 0x10000 * i + 0x50 * j
def CAN_TXO_W1.BRS (i j : Nat) : Loc := ⟨CAN_TXO_W1 i j, 29, 1⟩
def CAN_TXO_W1.DONE (i j : Nat) : Loc := ⟨CAN_TXO_W1 i j, 26, 1⟩
def CAN_TXO_W1.LEN (i j : Nat) : Loc := ⟨CAN_TXO_W1 i j, 0, 12⟩
def CAN_TXO_W1.READY (i j : Nat) : Loc := ⟨CAN_TXO_W1 i j, 31, 1⟩
def CAN_TXO_W1.REQ (i j : Nat) : Loc := ⟨CAN_TXO_W1 i j, 30, 1⟩
def CAN_TXO_W1.RTR (i j : Nat) : Loc := ⟨CAN_TXO_W1 i j, 28, 1⟩
def CAN_TXO_W1.SCHED (i j : Nat) : Loc := ⟨CAN_TXO_W1 i j, 27, 1⟩
/-- BAR0 offset of CAN_TXO_W2. -/
def CAN_TXO_W2 (i j : Nat) : Nat := 0x1404008 + 0x10000 * i + 0x50 * j
def CAN_TXO_W2.SDT (i j : Nat) : Loc := ⟨CAN_TXO_W2 i j, 24, 8⟩
def CAN_TXO_W2.SEC (i j : Nat) : Loc := ⟨CAN_TXO_W2 i j, 15, 1⟩
def CAN_TXO_W2.VCID (i j : Nat) : Loc := ⟨CAN_TXO_W2 i j, 16, 8⟩
/-- BAR0 offset of CAN_TXO_W3. -/
def CAN_TXO_W3 (i j : Nat) : Nat := 0x140400c + 0x10000 * i + 0x50 * j
/-- BAR0 offset of CAN_TXO_W4. -/
def CAN_TXO_W4 (i j : Nat) : Nat := 0x1404010 + 0x10000 * i + 0x50 * j
/-- BAR0 offset of CAN_RXO_W0. -/
def CAN_RXO_W0 (i j : Nat) : Nat := 0x1500000 + 0x2d000 * i + 0x48 * j
def CAN_RXO_W0.LOST (i j : Nat) : Loc := ⟨CAN_RXO_W0 i j, 30, 1⟩
def CAN_RXO_W0.NEW (i j : Nat) : Loc := ⟨CAN_RXO_W0 i j, 31, 1⟩
def CAN_RXO_W0.SEQ (i j : Nat) : Loc := ⟨CAN_RXO_W0 i j, 26, 4⟩
/-- BAR0 offset of CAN_RXO_W1. -/
def CAN_RXO_W1 (i j : Nat) : Nat := 0x1500004 + 0x2d000 * i + 0x48 * j
/-- BAR0 offset of CAN_RXO_W2. -/
def CAN_RXO_W2 (i j : Nat) : Nat := 0x1500008 + 0x2d000 * i + 0x48 * j
/-- BAR0 offset of GW_SA_LO. -/
def GW_SA_LO  : Nat := 0x1800008
/-- BAR0 offset of GW_SA_HI. -/
def GW_SA_HI  : Nat := 0x180000c
/-- BAR0 offset of GW_PK_SID_LO. -/
def GW_PK_SID_LO (i : Nat) : Nat := 0x182000c + 0x40 * i
/-- BAR0 offset of GW_PK_SID_HI. -/
def GW_PK_SID_HI (i : Nat) : Nat := 0x1820010 + 0x40 * i
/-- BAR0 offset of GW_PK_DA_LO. -/
def GW_PK_DA_LO (i : Nat) : Nat := 0x1820014 + 0x40 * i
/-- BAR0 offset of GW_PK_DA_HI. -/
def GW_PK_DA_HI (i : Nat) : Nat := 0x1820018 + 0x40 * i
/-- BAR0 offset of GW_UP_SID_LO. -/
def GW_UP_SID_LO (i : Nat) : Nat := 0x1830004 + 0x10 * i
/-- BAR0 offset of GW_JIG_W2. -/
def GW_JIG_W2 (i : Nat) : Nat := 0x1840008 + 0x10 * i
/-- BAR0 offset of GW_JIG_HI. -/
def GW_JIG_HI (i : Nat) : Nat := 0x184000c + 0x10 * i
/-- BAR0 offset of GW_CMA_FRESH_LO. -/
def GW_CMA_FRESH_LO (i : Nat) : Nat := 0x1860008 + 0x20 * i
/-- BAR0 offset of TB_SET_LO. -/
def TB_SET_LO (i : Nat) : Nat := 0x1a0001c + 0x100 * i
/-- BAR0 offset of TB_OFS_LO. -/
def TB_OFS_LO (i : Nat) : Nat := 0x1a00028 + 0x100 * i
/-- BAR0 offset of TG_START_LO. -/
def TG_START_LO (i : Nat) : Nat := 0x1a10004 + 0x40 * i
/-- BAR0 offset of CAP_ENT_LO. -/
def CAP_ENT_LO (i j : Nat) : Nat := 0x1a20010 + 0x200 * i + 0x10 * j
/-- BAR0 offset of TP_CLKID_LO. -/
def TP_CLKID_LO  : Nat := 0x1a30004
/-- BAR0 offset of TP_CLKID_HI. -/
def TP_CLKID_HI  : Nat := 0x1a30008
/-- BAR0 offset of CRY_SJQ_BASE_LO. -/
def CRY_SJQ_BASE_LO (i : Nat) : Nat := 0x1c01004 + 0x20 * i
/-- BAR0 offset of KEY_SRC_LO. -/
def KEY_SRC_LO  : Nat := 0x1d00010
/-- BAR0 offset of KEY_EXP_KCV_LO. -/
def KEY_EXP_KCV_LO  : Nat := 0x1d00018
/-- BAR0 offset of KEY_ROOT_KCV_LO. -/
def KEY_ROOT_KCV_LO  : Nat := 0x1d00030
/-- BAR0 offset of KEY_SERIAL_LO. -/
def KEY_SERIAL_LO  : Nat := 0x1d00038
/-- BAR0 offset of KEY_SERIAL_HI. -/
def KEY_SERIAL_HI  : Nat := 0x1d0003c
/-- BAR0 offset of KEY_ATT_PUB. -/
def KEY_ATT_PUB (i : Nat) : Nat := 0x1d00080 + 0x4 * i
/-- BAR0 offset of KEY_ATT_BUF. -/
def KEY_ATT_BUF (i : Nat) : Nat := 0x1d00400 + 0x4 * i
/-- BAR0 offset of KEY_TLOG_HI. -/
def KEY_TLOG_HI (i : Nat) : Nat := 0x1d00184 + 0x8 * i
/-- BAR0 offset of KEY_RES_LO. -/
def KEY_RES_LO (i : Nat) : Nat := 0x1d01000 + 0x10 * i
/-- BAR0 offset of KEY_RES_STS. -/
def KEY_RES_STS (i : Nat) : Nat := 0x1d01008 + 0x10 * i
def KEY_RES_STS.ADV (i : Nat) : Loc := ⟨KEY_RES_STS i, 29, 1⟩
def KEY_RES_STS.STATE (i : Nat) : Loc := ⟨KEY_RES_STS i, 30, 2⟩
/-- BAR0 offset of KEY_SLOT_KCV_LO. -/
def KEY_SLOT_KCV_LO (i : Nat) : Nat := 0x1d10008 + 0x10 * i
/-- BAR0 offset of PWR_LD_PEND. -/
def PWR_LD_PEND  : Nat := 0x1e00818
/-- BAR0 offset of PWR_TRX_ID. -/
def PWR_TRX_ID (i : Nat) : Nat := 0x1e04004 + 0x40 * i
/-- BAR0 offset of PWR_TRX_IDM. -/
def PWR_TRX_IDM (i : Nat) : Nat := 0x1e04008 + 0x40 * i
/-- BAR0 offset of PWR_TRX_DATA_LO. -/
def PWR_TRX_DATA_LO (i : Nat) : Nat := 0x1e0400c + 0x40 * i
/-- BAR0 offset of PWR_TRX_DATA_HI. -/
def PWR_TRX_DATA_HI (i : Nat) : Nat := 0x1e04010 + 0x40 * i
/-- BAR0 offset of MSIX_TAB_W0. -/
def MSIX_TAB_W0 (i : Nat) : Nat := 0x2010000 + 0x10 * i
/-- BAR0 offset of MSIX_TAB_W1. -/
def MSIX_TAB_W1 (i : Nat) : Nat := 0x2010004 + 0x10 * i
/-- BAR0 offset of MSIX_TAB_W2. -/
def MSIX_TAB_W2 (i : Nat) : Nat := 0x2010008 + 0x10 * i
/-- BAR0 offset of MSIX_TAB_W3. -/
def MSIX_TAB_W3 (i : Nat) : Nat := 0x201000c + 0x10 * i
/-- BAR0 offset of DMA_CH_DESC_LO. -/
def DMA_CH_DESC_LO (i : Nat) : Nat := 0x2100008 + 0x40 * i
/-- BAR0 offset of DMA_CH_CUR_LO. -/
def DMA_CH_CUR_LO (i : Nat) : Nat := 0x2100014 + 0x40 * i
/-- BAR0 offset of DMA_CH_ERR_ADDR_LO. -/
def DMA_CH_ERR_ADDR_LO (i : Nat) : Nat := 0x210001c + 0x40 * i
/-- BAR0 offset of DMA_CH_EVT. -/
def DMA_CH_EVT (i : Nat) : Nat := 0x2100028 + 0x40 * i
def DMA_CH_EVT.DONE (i : Nat) : Loc := ⟨DMA_CH_EVT i, 0, 1⟩
def DMA_CH_EVT.HALT (i : Nat) : Loc := ⟨DMA_CH_EVT i, 1, 1⟩
def DMA_CH_EVT.TRIG_MISS (i : Nat) : Loc := ⟨DMA_CH_EVT i, 3, 1⟩
def DMA_CH_EVT.UNDERRUN (i : Nat) : Loc := ⟨DMA_CH_EVT i, 2, 1⟩
/-- BAR0 offset of QUE_TMO. -/
def QUE_TMO (i : Nat) : Nat := 0x2200008 + 0x40 * i
def QUE_TMO.FLUSH_US (i : Nat) : Loc := ⟨QUE_TMO i, 0, 16⟩
/-- BAR0 offset of QUE_RD. -/
def QUE_RD (i : Nat) : Nat := 0x220000c + 0x40 * i
def QUE_RD.RD (i : Nat) : Loc := ⟨QUE_RD i, 0, 15⟩
/-- BAR0 offset of QUE_WR. -/
def QUE_WR (i : Nat) : Nat := 0x2200010 + 0x40 * i
def QUE_WR.WR (i : Nat) : Loc := ⟨QUE_WR i, 0, 15⟩
/-- BAR0 offset of QUE_EVT. -/
def QUE_EVT (i : Nat) : Nat := 0x220001c + 0x40 * i
def QUE_EVT.DROP (i : Nat) : Loc := ⟨QUE_EVT i, 3, 1⟩
def QUE_EVT.ENTRY (i : Nat) : Loc := ⟨QUE_EVT i, 0, 1⟩
def QUE_EVT.HALT (i : Nat) : Loc := ⟨QUE_EVT i, 4, 1⟩
def QUE_EVT.WM_CLR (i : Nat) : Loc := ⟨QUE_EVT i, 2, 1⟩
def QUE_EVT.WM_SET (i : Nat) : Loc := ⟨QUE_EVT i, 1, 1⟩
/-- BAR0 offset of CQP_STS. -/
def CQP_STS  : Nat := 0x2210004
def CQP_STS.LAST  : Loc := ⟨CQP_STS, 0, 4⟩
/-- BAR0 offset of CQP_FAIL_ADDR. -/
def CQP_FAIL_ADDR  : Nat := 0x2210008
/-- BAR0 offset of MEM_EXP_AREA. -/
def MEM_EXP_AREA  : Nat := 0x2400008
def MEM_EXP_AREA.BASE_MIB  : Loc := ⟨MEM_EXP_AREA, 0, 16⟩
def MEM_EXP_AREA.SIZE_MIB  : Loc := ⟨MEM_EXP_AREA, 16, 16⟩
/-- BAR0 offset of MEM_EXP_WR. -/
def MEM_EXP_WR  : Nat := 0x2400010
/-- BAR0 offset of MEM_EXP_RD. -/
def MEM_EXP_RD  : Nat := 0x2400014
/-- BAR0 offset of MEM_EXP_ID. -/
def MEM_EXP_ID  : Nat := 0x240001c
/-- BAR0 offset of MEM_ELOG_PTR. -/
def MEM_ELOG_PTR  : Nat := 0x2400120
def MEM_ELOG_PTR.NEXT  : Loc := ⟨MEM_ELOG_PTR, 0, 3⟩
/-- BAR0 offset of MEM_RING_CFG. -/
def MEM_RING_CFG (i : Nat) : Nat := 0x2410000 + 0x40 * i
def MEM_RING_CFG.EN (i : Nat) : Loc := ⟨MEM_RING_CFG i, 31, 1⟩
def MEM_RING_CFG.TB (i : Nat) : Loc := ⟨MEM_RING_CFG i, 29, 2⟩
/-- BAR0 offset of MEM_RING_AREA. -/
def MEM_RING_AREA (i : Nat) : Nat := 0x2410004 + 0x40 * i
def MEM_RING_AREA.BASE_MIB (i : Nat) : Loc := ⟨MEM_RING_AREA i, 0, 16⟩
def MEM_RING_AREA.SIZE_MIB (i : Nat) : Loc := ⟨MEM_RING_AREA i, 16, 16⟩
/-- BAR0 offset of MEM_RING_WIN. -/
def MEM_RING_WIN (i : Nat) : Nat := 0x2410008 + 0x40 * i
def MEM_RING_WIN.PRE_MIB (i : Nat) : Loc := ⟨MEM_RING_WIN i, 0, 16⟩
/-- BAR0 offset of MEM_RING_TRIG. -/
def MEM_RING_TRIG (i : Nat) : Nat := 0x241000c + 0x40 * i
def MEM_RING_TRIG.CAPSEL (i : Nat) : Loc := ⟨MEM_RING_TRIG i, 8, 4⟩
def MEM_RING_TRIG.GROUP (i : Nat) : Loc := ⟨MEM_RING_TRIG i, 0, 2⟩
def MEM_RING_TRIG.SRC (i : Nat) : Loc := ⟨MEM_RING_TRIG i, 25, 7⟩
def MEM_RING_TRIG.TGSEL (i : Nat) : Loc := ⟨MEM_RING_TRIG i, 16, 5⟩
/-- BAR0 offset of MEM_RING_STS. -/
def MEM_RING_STS (i : Nat) : Nat := 0x2410010 + 0x40 * i
def MEM_RING_STS.CFG_ERR (i : Nat) : Loc := ⟨MEM_RING_STS i, 28, 1⟩
def MEM_RING_STS.EXP (i : Nat) : Loc := ⟨MEM_RING_STS i, 26, 1⟩
def MEM_RING_STS.SHORT (i : Nat) : Loc := ⟨MEM_RING_STS i, 27, 1⟩
def MEM_RING_STS.STATE (i : Nat) : Loc := ⟨MEM_RING_STS i, 29, 3⟩
def MEM_RING_STS.WRAP (i : Nat) : Loc := ⟨MEM_RING_STS i, 25, 1⟩
/-- BAR0 offset of MEM_RING_WR. -/
def MEM_RING_WR (i : Nat) : Nat := 0x2410014 + 0x40 * i
/-- BAR0 offset of MEM_RING_OLD. -/
def MEM_RING_OLD (i : Nat) : Nat := 0x2410018 + 0x40 * i
/-- BAR0 offset of MEM_RING_TSEQ. -/
def MEM_RING_TSEQ (i : Nat) : Nat := 0x241001c + 0x40 * i
/-- BAR0 offset of MEM_RING_T_LO. -/
def MEM_RING_T_LO (i : Nat) : Nat := 0x2410020 + 0x40 * i
/-- BAR0 offset of MEM_EVT. -/
def MEM_EVT  : Nat := 0x2400030
def MEM_EVT.CE  : Loc := ⟨MEM_EVT, 1, 1⟩
def MEM_EVT.CFG_ERR  : Loc := ⟨MEM_EVT, 10, 1⟩
def MEM_EVT.CHUNK  : Loc := ⟨MEM_EVT, 7, 1⟩
def MEM_EVT.EXP_DONE  : Loc := ⟨MEM_EVT, 8, 1⟩
def MEM_EVT.EXP_FAIL  : Loc := ⟨MEM_EVT, 9, 1⟩
def MEM_EVT.FROZEN  : Loc := ⟨MEM_EVT, 4, 1⟩
def MEM_EVT.REC_DROP  : Loc := ⟨MEM_EVT, 5, 1⟩
def MEM_EVT.REFUSED  : Loc := ⟨MEM_EVT, 2, 1⟩
def MEM_EVT.RING_ERR  : Loc := ⟨MEM_EVT, 6, 1⟩
def MEM_EVT.TRIG  : Loc := ⟨MEM_EVT, 3, 1⟩
def MEM_EVT.UE  : Loc := ⟨MEM_EVT, 0, 1⟩
/-- BAR0 offset of FLT_FATAL_SRC. -/
def FLT_FATAL_SRC  : Nat := 0x100004
/-- BAR0 offset of FLT_FATAL_INFO. -/
def FLT_FATAL_INFO  : Nat := 0x100008
/-- BAR0 offset of FLT_FIRST_INFO. -/
def FLT_FIRST_INFO (i : Nat) : Nat := 0x101008 + 0x20 * i
/-- BAR0 offset of FLT_FIRST_TS_LO. -/
def FLT_FIRST_TS_LO (i : Nat) : Nat := 0x10100c + 0x20 * i
/-- BAR0 offset of FLT_LAST_INFO. -/
def FLT_LAST_INFO (i : Nat) : Nat := 0x101014 + 0x20 * i
/-- BAR0 offset of FLT_LAST_TS_LO. -/
def FLT_LAST_TS_LO (i : Nat) : Nat := 0x101018 + 0x20 * i
/-- BAR0 offset of REP_REC_N. -/
def REP_REC_N  : Nat := 0x2800004
def REP_REC_N.N  : Loc := ⟨REP_REC_N, 0, 10⟩
/-- BAR0 offset of REP_REC_W0. -/
def REP_REC_W0 (i : Nat) : Nat := 0x2801000 + 0x8 * i
/-- BAR0 offset of REP_REC_W1. -/
def REP_REC_W1 (i : Nat) : Nat := 0x2801004 + 0x8 * i
/-- BAR0 offset of REP_FUSE_W0. -/
def REP_FUSE_W0 (i : Nat) : Nat := 0x2802000 + 8 * i
/-- BAR0 offset of REP_FUSE_W1. -/
def REP_FUSE_W1 (i : Nat) : Nat := 0x2802004 + 8 * i
/-- BAR0 offset of MGT_CFG. -/
def MGT_CFG  : Nat := 0x2600000
def MGT_CFG.PAIR  : Loc := ⟨MGT_CFG, 0, 2⟩
/-- BAR0 offset of MGT_RST. -/
def MGT_RST  : Nat := 0x2600008
/-- BAR0 offset of MGT_WDT. -/
def MGT_WDT  : Nat := 0x260000c
def MGT_WDT.EN  : Loc := ⟨MGT_WDT, 31, 1⟩
def MGT_WDT.TMO_MS  : Loc := ⟨MGT_WDT, 0, 16⟩
/-- BAR0 offset of MGT_WDT_KICK. -/
def MGT_WDT_KICK  : Nat := 0x2600010
/-- BAR0 offset of MGT_FLOOR. -/
def MGT_FLOOR  : Nat := 0x2600024
def MGT_FLOOR.FUSING  : Loc := ⟨MGT_FLOOR, 8, 1⟩
/-- BAR0 offset of MGT_FW_VER. -/
def MGT_FW_VER  : Nat := 0x2600030
/-- BAR0 offset of MGT_FW_SEQ. -/
def MGT_FW_SEQ  : Nat := 0x2600034
/-- BAR0 offset of MGT_REC_ADDR_LO. -/
def MGT_REC_ADDR_LO  : Nat := 0x2600038
/-- BAR0 offset of MGT_FW_DIG. -/
def MGT_FW_DIG (i : Nat) : Nat := 0x2600040 + 0x4 * i
/-- BAR0 offset of MGT_FL_OFS. -/
def MGT_FL_OFS  : Nat := 0x2600104
/-- BAR0 offset of MGT_FL_LEN. -/
def MGT_FL_LEN  : Nat := 0x2600108
/-- BAR0 offset of MGT_FL_BUF_LO. -/
def MGT_FL_BUF_LO  : Nat := 0x260010c
/-- BAR0 offset of MGT_MTIME_LO. -/
def MGT_MTIME_LO  : Nat := 0x2600200
/-- BAR0 offset of MGT_MTIME_HI. -/
def MGT_MTIME_HI  : Nat := 0x2600204
/-- BAR0 offset of MGT_IP0. -/
def MGT_IP0  : Nat := 0x2600208
/-- BAR0 offset of MGT_IP1. -/
def MGT_IP1  : Nat := 0x260020c
/-- BAR0 offset of MGT_IEN0. -/
def MGT_IEN0 (i : Nat) : Nat := 0x2600400 + 0x40 * i
/-- BAR0 offset of MGT_MTIMECMP_LO. -/
def MGT_MTIMECMP_LO (i : Nat) : Nat := 0x2600408 + 0x40 * i
/-- BAR0 offset of MGT_MSIP. -/
def MGT_MSIP (i : Nat) : Nat := 0x2600410 + 0x40 * i
def MGT_MSIP.MSIP (i : Nat) : Loc := ⟨MGT_MSIP i, 0, 1⟩
/-- BAR0 offset of MGT_SRAM_RED. -/
def MGT_SRAM_RED (i : Nat) : Nat := 0x2600600 + 0x4 * i
def MGT_SRAM_RED.ROW (i : Nat) : Loc := ⟨MGT_SRAM_RED i, 0, 15⟩
def MGT_SRAM_RED.VALID (i : Nat) : Loc := ⟨MGT_SRAM_RED i, 31, 1⟩
/-- BAR0 offset of MGT_EVT. -/
def MGT_EVT  : Nat := 0x2600014
def MGT_EVT.CHECK_DONE  : Loc := ⟨MGT_EVT, 4, 1⟩
def MGT_EVT.FALLBACK  : Loc := ⟨MGT_EVT, 1, 1⟩
def MGT_EVT.FL_DONE  : Loc := ⟨MGT_EVT, 5, 1⟩
def MGT_EVT.LOCK  : Loc := ⟨MGT_EVT, 3, 1⟩
def MGT_EVT.NOFW  : Loc := ⟨MGT_EVT, 0, 1⟩
def MGT_EVT.WDT  : Loc := ⟨MGT_EVT, 2, 1⟩
/-- BAR0 offset of MAC_RX_OCTETS_LO. -/
def MAC_RX_OCTETS_LO (i : Nat) : Nat := 0x400108 + 0x4000 * i
/-- BAR0 offset of MAC_RX_MCAST_LO. -/
def MAC_RX_MCAST_LO (i : Nat) : Nat := 0x400110 + 0x4000 * i
/-- BAR0 offset of MAC_RUNT_LO. -/
def MAC_RUNT_LO (i : Nat) : Nat := 0x400118 + 0x4000 * i
/-- BAR0 offset of MAC_OVERSIZE_LO. -/
def MAC_OVERSIZE_LO (i : Nat) : Nat := 0x400120 + 0x4000 * i
/-- BAR0 offset of MAC_FCS_ERR_LO. -/
def MAC_FCS_ERR_LO (i : Nat) : Nat := 0x400128 + 0x4000 * i
/-- BAR0 offset of MAC_PCS_ERR_LO. -/
def MAC_PCS_ERR_LO (i : Nat) : Nat := 0x400130 + 0x4000 * i
/-- BAR0 offset of MAC_RX_PAUSE_LO. -/
def MAC_RX_PAUSE_LO (i : Nat) : Nat := 0x400138 + 0x4000 * i
/-- BAR0 offset of MAC_RX_PFC_LO. -/
def MAC_RX_PFC_LO (i : Nat) : Nat := 0x400140 + 0x4000 * i
/-- BAR0 offset of MAC_RX_CTL_DROP_LO. -/
def MAC_RX_CTL_DROP_LO (i : Nat) : Nat := 0x400148 + 0x4000 * i
/-- BAR0 offset of MAC_ERR_DEL_LO. -/
def MAC_ERR_DEL_LO (i : Nat) : Nat := 0x400150 + 0x4000 * i
/-- BAR0 offset of MAC_ERR_DROP_LO. -/
def MAC_ERR_DROP_LO (i : Nat) : Nat := 0x400158 + 0x4000 * i
/-- BAR0 offset of MAC_MM_ASSY_OK_LO. -/
def MAC_MM_ASSY_OK_LO (i : Nat) : Nat := 0x400160 + 0x4000 * i
/-- BAR0 offset of MAC_MM_ASSY_ERR_LO. -/
def MAC_MM_ASSY_ERR_LO (i : Nat) : Nat := 0x400168 + 0x4000 * i
/-- BAR0 offset of MAC_MM_FRAG_RX_LO. -/
def MAC_MM_FRAG_RX_LO (i : Nat) : Nat := 0x400170 + 0x4000 * i
/-- BAR0 offset of MAC_MM_FRAG_TX_LO. -/
def MAC_MM_FRAG_TX_LO (i : Nat) : Nat := 0x400178 + 0x4000 * i
/-- BAR0 offset of MAC_TX_FRAMES_LO. -/
def MAC_TX_FRAMES_LO (i : Nat) : Nat := 0x400180 + 0x4000 * i
/-- BAR0 offset of MAC_TX_OCTETS_LO. -/
def MAC_TX_OCTETS_LO (i : Nat) : Nat := 0x400188 + 0x4000 * i
/-- BAR0 offset of MAC_TX_PAUSE_LO. -/
def MAC_TX_PAUSE_LO (i : Nat) : Nat := 0x400190 + 0x4000 * i
/-- BAR0 offset of MAC_TX_PFC_LO. -/
def MAC_TX_PFC_LO (i : Nat) : Nat := 0x400198 + 0x4000 * i
/-- BAR0 offset of MAC_TX_LIMIT_LO. -/
def MAC_TX_LIMIT_LO (i : Nat) : Nat := 0x4001a0 + 0x4000 * i
/-- BAR0 offset of MAC_TX_PAD_LO. -/
def MAC_TX_PAD_LO (i : Nat) : Nat := 0x4001a8 + 0x4000 * i
/-- BAR0 offset of MAC_TX_STOMP_LO. -/
def MAC_TX_STOMP_LO (i : Nat) : Nat := 0x4001b0 + 0x4000 * i
/-- BAR0 offset of MAC_LINK_DOWN_LO. -/
def MAC_LINK_DOWN_LO (i : Nat) : Nat := 0x4001b8 + 0x4000 * i
/-- BAR0 offset of MAC_FEC_CORR_LO. -/
def MAC_FEC_CORR_LO (i : Nat) : Nat := 0x4001c0 + 0x4000 * i
/-- BAR0 offset of MAC_FEC_UNCORR_LO. -/
def MAC_FEC_UNCORR_LO (i : Nat) : Nat := 0x4001c8 + 0x4000 * i
/-- BAR0 offset of TBL_VLAN_DROP_LO. -/
def TBL_VLAN_DROP_LO  : Nat := 0x800408
/-- BAR0 offset of TBL_SA_VIOL_LO. -/
def TBL_SA_VIOL_LO  : Nat := 0x800410
/-- BAR0 offset of TBL_DEF_ACT_LO. -/
def TBL_DEF_ACT_LO  : Nat := 0x800418
/-- BAR0 offset of TBL_FLOW_DROP_LO. -/
def TBL_FLOW_DROP_LO  : Nat := 0x800420
/-- BAR0 offset of TBL_NO_DEST_LO. -/
def TBL_NO_DEST_LO  : Nat := 0x800428
/-- BAR0 offset of TBL_CLS_DEMOTE_LO. -/
def TBL_CLS_DEMOTE_LO  : Nat := 0x800430
/-- BAR0 offset of TBL_LEARN_LO. -/
def TBL_LEARN_LO  : Nat := 0x800438
/-- BAR0 offset of TBL_LEARN_DROP_LO. -/
def TBL_LEARN_DROP_LO  : Nat := 0x800440
/-- BAR0 offset of TBL_LEARN_FULL_LO. -/
def TBL_LEARN_FULL_LO  : Nat := 0x800448
/-- BAR0 offset of TBL_RELOC_LO. -/
def TBL_RELOC_LO  : Nat := 0x800450
/-- BAR0 offset of TBL_MOVE_LO. -/
def TBL_MOVE_LO  : Nat := 0x800458
/-- BAR0 offset of TBL_MOVE_REFUSED_LO. -/
def TBL_MOVE_REFUSED_LO  : Nat := 0x800460
/-- BAR0 offset of TBL_MOVE_STORM_LO. -/
def TBL_MOVE_STORM_LO  : Nat := 0x800468
/-- BAR0 offset of TBL_AGED_LO. -/
def TBL_AGED_LO  : Nat := 0x800470
/-- BAR0 offset of TBL_PAR_ERR_LO. -/
def TBL_PAR_ERR_LO  : Nat := 0x800478
/-- BAR0 offset of TBL_ROW_REPAIR_LO. -/
def TBL_ROW_REPAIR_LO  : Nat := 0x800480
/-- BAR0 offset of TBL_DRAIN_TMO_LO. -/
def TBL_DRAIN_TMO_LO  : Nat := 0x800488
/-- BAR0 offset of SW_BORROW_LO. -/
def SW_BORROW_LO (i : Nat) : Nat := 0xc04100 + 0x8 * i
/-- BAR0 offset of SW_XOFF_LO. -/
def SW_XOFF_LO (i : Nat) : Nat := 0xc04200 + 0x8 * i
/-- BAR0 offset of SW_DOWN_DROP_LO. -/
def SW_DOWN_DROP_LO (i : Nat) : Nat := 0xc04300 + 0x8 * i
/-- BAR0 offset of SW_FLUSH_DROP_LO. -/
def SW_FLUSH_DROP_LO (i : Nat) : Nat := 0xc04400 + 0x8 * i
/-- BAR0 offset of SW_AGE_DROP_LO. -/
def SW_AGE_DROP_LO (i : Nat) : Nat := 0xc04500 + 0x8 * i
/-- BAR0 offset of SW_MC_TMO_LO. -/
def SW_MC_TMO_LO (i : Nat) : Nat := 0xc04600 + 0x8 * i
/-- BAR0 offset of SW_RESEQ_DROP_LO. -/
def SW_RESEQ_DROP_LO (i : Nat) : Nat := 0xc04700 + 0x8 * i
/-- BAR0 offset of SW_PLY_RETRY_LO. -/
def SW_PLY_RETRY_LO  : Nat := 0xc04800
/-- BAR0 offset of SW_PLY_LOSS_LO. -/
def SW_PLY_LOSS_LO  : Nat := 0xc04808
/-- BAR0 offset of SW_PLY_FAIL_LO. -/
def SW_PLY_FAIL_LO  : Nat := 0xc04810
/-- BAR0 offset of SW_AGE_TBERR_LO. -/
def SW_AGE_TBERR_LO  : Nat := 0xc04818
/-- BAR0 offset of STR_DIS_DROP_LO. -/
def STR_DIS_DROP_LO (i : Nat) : Nat := 0x1020800 + 0x8 * i
/-- BAR0 offset of STR_METER_DROP_LO. -/
def STR_METER_DROP_LO (i : Nat) : Nat := 0x1021000 + 0x8 * i
/-- BAR0 offset of STR_SDU_DROP_LO. -/
def STR_SDU_DROP_LO (i : Nat) : Nat := 0x1021800 + 0x8 * i
/-- BAR0 offset of STR_FMT_ERR_LO. -/
def STR_FMT_ERR_LO (i : Nat) : Nat := 0x1022000 + 0x8 * i
/-- BAR0 offset of STR_LABEL_ERR_LO. -/
def STR_LABEL_ERR_LO (i : Nat) : Nat := 0x1022800 + 0x8 * i
/-- BAR0 offset of STR_NOKEY_LO. -/
def STR_NOKEY_LO (i : Nat) : Nat := 0x1023000 + 0x8 * i
/-- BAR0 offset of STR_AUTH_FAIL_LO. -/
def STR_AUTH_FAIL_LO (i : Nat) : Nat := 0x1023800 + 0x8 * i
/-- BAR0 offset of STR_REPLAY_LO. -/
def STR_REPLAY_LO (i : Nat) : Nat := 0x1024000 + 0x8 * i
/-- BAR0 offset of STR_FRESH_REJ_LO. -/
def STR_FRESH_REJ_LO (i : Nat) : Nat := 0x1024800 + 0x8 * i
/-- BAR0 offset of STR_AGE_DROP_LO. -/
def STR_AGE_DROP_LO (i : Nat) : Nat := 0x1025000 + 0x8 * i
/-- BAR0 offset of STR_GEN_LO. -/
def STR_GEN_LO (i : Nat) : Nat := 0x1025800 + 0x8 * i
/-- BAR0 offset of STR_FRESH_EXH_LO. -/
def STR_FRESH_EXH_LO (i : Nat) : Nat := 0x1026000 + 0x8 * i
/-- BAR0 offset of STR_RES_WAIT_LO. -/
def STR_RES_WAIT_LO (i : Nat) : Nat := 0x1026800 + 0x8 * i
/-- BAR0 offset of STR_SEQ_DUP_LO. -/
def STR_SEQ_DUP_LO (i : Nat) : Nat := 0x1027000 + 0x8 * i
/-- BAR0 offset of STR_SEQ_OOO_LO. -/
def STR_SEQ_OOO_LO (i : Nat) : Nat := 0x1027800 + 0x8 * i
/-- BAR0 offset of STR_SEQ_ROGUE_LO. -/
def STR_SEQ_ROGUE_LO (i : Nat) : Nat := 0x1028000 + 0x8 * i
/-- BAR0 offset of STR_SEQ_LOST_LO. -/
def STR_SEQ_LOST_LO (i : Nat) : Nat := 0x1028800 + 0x8 * i
/-- BAR0 offset of STR_SEQ_TAGLESS_LO. -/
def STR_SEQ_TAGLESS_LO (i : Nat) : Nat := 0x1029000 + 0x8 * i
/-- BAR0 offset of STR_SEQ_RESET_LO. -/
def STR_SEQ_RESET_LO (i : Nat) : Nat := 0x1029800 + 0x8 * i
/-- BAR0 offset of STR_SILENT_LO. -/
def STR_SILENT_LO (i : Nat) : Nat := 0x102a000 + 0x8 * i
/-- BAR0 offset of STR_ROLL_LO. -/
def STR_ROLL_LO (i : Nat) : Nat := 0x102a800 + 0x8 * i
/-- BAR0 offset of STR_DEMOTE_LO. -/
def STR_DEMOTE_LO (i : Nat) : Nat := 0x102b000 + 0x8 * i
/-- BAR0 offset of STR_TAP_LO. -/
def STR_TAP_LO (i : Nat) : Nat := 0x102b800 + 0x8 * i
/-- BAR0 offset of CAN_TX_OK_LO. -/
def CAN_TX_OK_LO (i : Nat) : Nat := 0x1400108 + 0x10000 * i
/-- BAR0 offset of CAN_RX_LOST_LO. -/
def CAN_RX_LOST_LO (i : Nat) : Nat := 0x1400110 + 0x10000 * i
/-- BAR0 offset of CAN_RX_NOOBJ_LO. -/
def CAN_RX_NOOBJ_LO (i : Nat) : Nat := 0x1400118 + 0x10000 * i
/-- BAR0 offset of CAN_DEL_DROP_LO. -/
def CAN_DEL_DROP_LO (i : Nat) : Nat := 0x1400120 + 0x10000 * i
/-- BAR0 offset of CAN_BIT_ERR_LO. -/
def CAN_BIT_ERR_LO (i : Nat) : Nat := 0x1400128 + 0x10000 * i
/-- BAR0 offset of CAN_STUFF_ERR_LO. -/
def CAN_STUFF_ERR_LO (i : Nat) : Nat := 0x1400130 + 0x10000 * i
/-- BAR0 offset of CAN_FORM_ERR_LO. -/
def CAN_FORM_ERR_LO (i : Nat) : Nat := 0x1400138 + 0x10000 * i
/-- BAR0 offset of CAN_CRC_ERR_LO. -/
def CAN_CRC_ERR_LO (i : Nat) : Nat := 0x1400140 + 0x10000 * i
/-- BAR0 offset of CAN_ACK_ERR_LO. -/
def CAN_ACK_ERR_LO (i : Nat) : Nat := 0x1400148 + 0x10000 * i
/-- BAR0 offset of CAN_ARB_LOST_LO. -/
def CAN_ARB_LOST_LO (i : Nat) : Nat := 0x1400150 + 0x10000 * i
/-- BAR0 offset of CAN_PASSIVE_LO. -/
def CAN_PASSIVE_LO (i : Nat) : Nat := 0x1400158 + 0x10000 * i
/-- BAR0 offset of CAN_BUSOFF_LO. -/
def CAN_BUSOFF_LO (i : Nat) : Nat := 0x1400160 + 0x10000 * i
/-- BAR0 offset of CAN_PEX_LO. -/
def CAN_PEX_LO (i : Nat) : Nat := 0x1400168 + 0x10000 * i
/-- BAR0 offset of CAN_SCH_MISS_LO. -/
def CAN_SCH_MISS_LO (i : Nat) : Nat := 0x1400170 + 0x10000 * i
/-- BAR0 offset of CAN_SCH_EMPTY_LO. -/
def CAN_SCH_EMPTY_LO (i : Nat) : Nat := 0x1400178 + 0x10000 * i
/-- BAR0 offset of CAN_TX_BAD_LO. -/
def CAN_TX_BAD_LO (i : Nat) : Nat := 0x1400180 + 0x10000 * i
/-- BAR0 offset of CAN_XL_TRUNC_LO. -/
def CAN_XL_TRUNC_LO (i : Nat) : Nat := 0x1400188 + 0x10000 * i
/-- BAR0 offset of GW_RT_IN_LO. -/
def GW_RT_IN_LO (i : Nat) : Nat := 0x1880000 + 0x8 * i
/-- BAR0 offset of GW_RT_NOROUTE_LO. -/
def GW_RT_NOROUTE_LO (i : Nat) : Nat := 0x1880080 + 0x8 * i
/-- BAR0 offset of GW_CMA_PASS_LO. -/
def GW_CMA_PASS_LO (i : Nat) : Nat := 0x1880100 + 0x8 * i
/-- BAR0 offset of GW_CMA_FAIL_LO. -/
def GW_CMA_FAIL_LO (i : Nat) : Nat := 0x1880180 + 0x8 * i
/-- BAR0 offset of GW_CMA_UNVER_LO. -/
def GW_CMA_UNVER_LO (i : Nat) : Nat := 0x1880200 + 0x8 * i
/-- BAR0 offset of GW_TX_IN_LO. -/
def GW_TX_IN_LO (i : Nat) : Nat := 0x1880280 + 0x8 * i
/-- BAR0 offset of GW_OVW_LO. -/
def GW_OVW_LO (i : Nat) : Nat := 0x1880300 + 0x8 * i
/-- BAR0 offset of GW_BUSY_DROP_LO. -/
def GW_BUSY_DROP_LO (i : Nat) : Nat := 0x1880380 + 0x8 * i
/-- BAR0 offset of GW_NOSEND_LO. -/
def GW_NOSEND_LO (i : Nat) : Nat := 0x1880400 + 0x8 * i
/-- BAR0 offset of GW_RATE_DROP_LO. -/
def GW_RATE_DROP_LO (i : Nat) : Nat := 0x1880480 + 0x8 * i
/-- BAR0 offset of GW_CMA_GEN_LO. -/
def GW_CMA_GEN_LO (i : Nat) : Nat := 0x1880500 + 0x8 * i
/-- BAR0 offset of GW_CMA_HELD_LO. -/
def GW_CMA_HELD_LO (i : Nat) : Nat := 0x1880580 + 0x8 * i
/-- BAR0 offset of GW_PK_MSG_LO. -/
def GW_PK_MSG_LO (i : Nat) : Nat := 0x1880600 + 0x8 * i
/-- BAR0 offset of GW_PK_PDU_LO. -/
def GW_PK_PDU_LO (i : Nat) : Nat := 0x1880700 + 0x8 * i
/-- BAR0 offset of GW_PK_DROP_LO. -/
def GW_PK_DROP_LO (i : Nat) : Nat := 0x1880800 + 0x8 * i
/-- BAR0 offset of GW_UP_PDU_LO. -/
def GW_UP_PDU_LO (i : Nat) : Nat := 0x1880900 + 0x8 * i
/-- BAR0 offset of GW_UP_MSG_LO. -/
def GW_UP_MSG_LO (i : Nat) : Nat := 0x1880a00 + 0x8 * i
/-- BAR0 offset of GW_UP_ERR_LO. -/
def GW_UP_ERR_LO (i : Nat) : Nat := 0x1880b00 + 0x8 * i
/-- BAR0 offset of GW_UP_SEQ_LO. -/
def GW_UP_SEQ_LO (i : Nat) : Nat := 0x1880c00 + 0x8 * i
/-- BAR0 offset of GW_UP_NOCTX_LO. -/
def GW_UP_NOCTX_LO  : Nat := 0x1880d00
/-- BAR0 offset of GW_JIG_MOVE_LO. -/
def GW_JIG_MOVE_LO  : Nat := 0x1880d08
/-- BAR0 offset of GW_JIG_SHORT_LO. -/
def GW_JIG_SHORT_LO  : Nat := 0x1880d10
/-- BAR0 offset of GW_JIG_BAD_LO. -/
def GW_JIG_BAD_LO  : Nat := 0x1880d18
/-- BAR0 offset of GW_JIG_TMO_LO. -/
def GW_JIG_TMO_LO  : Nat := 0x1880d20
/-- BAR0 offset of GW_JIG_DROP_LO. -/
def GW_JIG_DROP_LO  : Nat := 0x1880d28
/-- BAR0 offset of TB_STEP_LO. -/
def TB_STEP_LO (i : Nat) : Nat := 0x1a50000 + 0x8 * i
/-- BAR0 offset of TB_CLAMP_LO. -/
def TB_CLAMP_LO (i : Nat) : Nat := 0x1a50040 + 0x8 * i
/-- BAR0 offset of TP_RX_SYNC_LO. -/
def TP_RX_SYNC_LO (i : Nat) : Nat := 0x1a50080 + 0x8 * i
/-- BAR0 offset of TP_TX_SYNC_LO. -/
def TP_TX_SYNC_LO (i : Nat) : Nat := 0x1a500a0 + 0x8 * i
/-- BAR0 offset of TP_SYNC_DROP_LO. -/
def TP_SYNC_DROP_LO (i : Nat) : Nat := 0x1a500c0 + 0x8 * i
/-- BAR0 offset of TP_SYNC_TMO_LO. -/
def TP_SYNC_TMO_LO (i : Nat) : Nat := 0x1a50100 + 0x8 * i
/-- BAR0 offset of TP_PD_LOST_LO. -/
def TP_PD_LOST_LO (i : Nat) : Nat := 0x1a50200 + 0x8 * i
/-- BAR0 offset of TP_Q_DROP_LO. -/
def TP_Q_DROP_LO  : Nat := 0x1a50300
/-- BAR0 offset of TG_SKIP_LO. -/
def TG_SKIP_LO (i : Nat) : Nat := 0x1a50400 + 0x8 * i
/-- BAR0 offset of TG_SUPP_LO. -/
def TG_SUPP_LO (i : Nat) : Nat := 0x1a50500 + 0x8 * i
/-- BAR0 offset of TG_LATE_LO. -/
def TG_LATE_LO (i : Nat) : Nat := 0x1a50600 + 0x8 * i
/-- BAR0 offset of CAP_OVF_LO. -/
def CAP_OVF_LO (i : Nat) : Nat := 0x1a50700 + 0x8 * i
/-- BAR0 offset of CRY_JOB_LO. -/
def CRY_JOB_LO (i : Nat) : Nat := 0x1c02000 + 0x8 * i
/-- BAR0 offset of CRY_SW_WAIT_LO. -/
def CRY_SW_WAIT_LO  : Nat := 0x1c02040
/-- BAR0 offset of CRY_ABORT_LO. -/
def CRY_ABORT_LO  : Nat := 0x1c02048
/-- BAR0 offset of CRY_RETRY_LO. -/
def CRY_RETRY_LO  : Nat := 0x1c02050
/-- BAR0 offset of CRY_HW_LOST_LO. -/
def CRY_HW_LOST_LO  : Nat := 0x1c02058
/-- BAR0 offset of CRY_CTR_REFUSE_LO. -/
def CRY_CTR_REFUSE_LO  : Nat := 0x1c02060
/-- BAR0 offset of CRY_BADDESC_LO. -/
def CRY_BADDESC_LO  : Nat := 0x1c02068
/-- BAR0 offset of CRY_BUS_ERR_LO. -/
def CRY_BUS_ERR_LO  : Nat := 0x1c02070
/-- BAR0 offset of CRY_ZERO_LO. -/
def CRY_ZERO_LO  : Nat := 0x1c02078
/-- BAR0 offset of CRY_MASK_WAIT_LO. -/
def CRY_MASK_WAIT_LO  : Nat := 0x1c02080
/-- BAR0 offset of CRY_RESEED_LO. -/
def CRY_RESEED_LO  : Nat := 0x1c02088
/-- BAR0 offset of CRY_HEALTH_LO. -/
def CRY_HEALTH_LO  : Nat := 0x1c02090
/-- BAR0 offset of CRY_TAG_FAIL_LO. -/
def CRY_TAG_FAIL_LO  : Nat := 0x1c02098
/-- BAR0 offset of KEY_FILL_LO. -/
def KEY_FILL_LO  : Nat := 0x1d00800
/-- BAR0 offset of KEY_CMD_FAIL_LO. -/
def KEY_CMD_FAIL_LO  : Nat := 0x1d00808
/-- BAR0 offset of KEY_REPL_FAIL_LO. -/
def KEY_REPL_FAIL_LO  : Nat := 0x1d00810
/-- BAR0 offset of KEY_ORPHAN_LO. -/
def KEY_ORPHAN_LO  : Nat := 0x1d00818
/-- BAR0 offset of KEY_RES_ADV_LO. -/
def KEY_RES_ADV_LO  : Nat := 0x1d00820
/-- BAR0 offset of KEY_TAMPER_LO. -/
def KEY_TAMPER_LO  : Nat := 0x1d00828
/-- BAR0 offset of KEY_ATTEST_LO. -/
def KEY_ATTEST_LO  : Nat := 0x1d00830
/-- BAR0 offset of PWR_LD_SHORT_LO. -/
def PWR_LD_SHORT_LO (i : Nat) : Nat := 0x1e03000 + 0x8 * i
/-- BAR0 offset of PWR_LD_OC_LO. -/
def PWR_LD_OC_LO (i : Nat) : Nat := 0x1e030c0 + 0x8 * i
/-- BAR0 offset of PWR_LD_THERM_LO. -/
def PWR_LD_THERM_LO (i : Nat) : Nat := 0x1e03180 + 0x8 * i
/-- BAR0 offset of PWR_LD_RETRY_LO. -/
def PWR_LD_RETRY_LO (i : Nat) : Nat := 0x1e03240 + 0x8 * i
/-- BAR0 offset of PWR_LD_FAULT_LO. -/
def PWR_LD_FAULT_LO (i : Nat) : Nat := 0x1e03300 + 0x8 * i
/-- BAR0 offset of PWR_LD_LOCK_LO. -/
def PWR_LD_LOCK_LO (i : Nat) : Nat := 0x1e033c0 + 0x8 * i
/-- BAR0 offset of PWR_LD_OPEN_LO. -/
def PWR_LD_OPEN_LO (i : Nat) : Nat := 0x1e03480 + 0x8 * i
/-- BAR0 offset of PWR_LD_BUD_REFUSE_LO. -/
def PWR_LD_BUD_REFUSE_LO (i : Nat) : Nat := 0x1e03540 + 0x8 * i
/-- BAR0 offset of PWR_LD_SO_REFUSE_LO. -/
def PWR_LD_SO_REFUSE_LO (i : Nat) : Nat := 0x1e03600 + 0x8 * i
/-- BAR0 offset of PWR_LD_EDGE_MISS_LO. -/
def PWR_LD_EDGE_MISS_LO (i : Nat) : Nat := 0x1e036c0 + 0x8 * i
/-- BAR0 offset of PWR_LD_HOLD_OFF_LO. -/
def PWR_LD_HOLD_OFF_LO (i : Nat) : Nat := 0x1e03780 + 0x8 * i
/-- BAR0 offset of PWR_LD_UV_LO. -/
def PWR_LD_UV_LO  : Nat := 0x1e03840
/-- BAR0 offset of PWR_SLEEP_LO. -/
def PWR_SLEEP_LO  : Nat := 0x1e05000
/-- BAR0 offset of PWR_SLP_ABORT_LO. -/
def PWR_SLP_ABORT_LO  : Nat := 0x1e05008
/-- BAR0 offset of PWR_MOD_FS_LO. -/
def PWR_MOD_FS_LO  : Nat := 0x1e05010
/-- BAR0 offset of PWR_TRX_WAKE_LO. -/
def PWR_TRX_WAKE_LO (i : Nat) : Nat := 0x1e05080 + 0x8 * i
/-- BAR0 offset of PWR_TRX_FS_LO. -/
def PWR_TRX_FS_LO (i : Nat) : Nat := 0x1e05100 + 0x8 * i
/-- BAR0 offset of BRG_IN_WR_LO. -/
def BRG_IN_WR_LO  : Nat := 0x2000800
/-- BAR0 offset of BRG_IN_RD_LO. -/
def BRG_IN_RD_LO  : Nat := 0x2000808
/-- BAR0 offset of BRG_LATE_FAIL_LO. -/
def BRG_LATE_FAIL_LO  : Nat := 0x2000810
/-- BAR0 offset of BRG_RD_CA_LO. -/
def BRG_RD_CA_LO  : Nat := 0x2000818
/-- BAR0 offset of BRG_RD_TMO_LO. -/
def BRG_RD_TMO_LO  : Nat := 0x2000820
/-- BAR0 offset of BRG_UR_LO. -/
def BRG_UR_LO  : Nat := 0x2000828
/-- BAR0 offset of BRG_POISON_RX_LO. -/
def BRG_POISON_RX_LO  : Nat := 0x2000830
/-- BAR0 offset of BRG_POISON_TX_LO. -/
def BRG_POISON_TX_LO  : Nat := 0x2000838
/-- BAR0 offset of BRG_ATOMIC_LO. -/
def BRG_ATOMIC_LO  : Nat := 0x2000840
/-- BAR0 offset of BRG_OUT_WR_LO. -/
def BRG_OUT_WR_LO  : Nat := 0x2000848
/-- BAR0 offset of BRG_OUT_RD_LO. -/
def BRG_OUT_RD_LO  : Nat := 0x2000850
/-- BAR0 offset of BRG_OUT_ERR_LO. -/
def BRG_OUT_ERR_LO  : Nat := 0x2000858
/-- BAR0 offset of BRG_CPL_TMO_LO. -/
def BRG_CPL_TMO_LO  : Nat := 0x2000860
/-- BAR0 offset of BRG_DETACH_LO. -/
def BRG_DETACH_LO  : Nat := 0x2000868
/-- BAR0 offset of BRG_MSIX_LO. -/
def BRG_MSIX_LO  : Nat := 0x2000870
/-- BAR0 offset of BRG_MSIX_LOST_LO. -/
def BRG_MSIX_LOST_LO  : Nat := 0x2000878
/-- BAR0 offset of DMA_DONE_LO. -/
def DMA_DONE_LO (i : Nat) : Nat := 0x2108000 + 0x8 * i
/-- BAR0 offset of DMA_ERR_LO. -/
def DMA_ERR_LO (i : Nat) : Nat := 0x2108800 + 0x8 * i
/-- BAR0 offset of DMA_UNDERRUN_LO. -/
def DMA_UNDERRUN_LO (i : Nat) : Nat := 0x2109000 + 0x8 * i
/-- BAR0 offset of DMA_TRIG_MISS_LO. -/
def DMA_TRIG_MISS_LO (i : Nat) : Nat := 0x2109800 + 0x8 * i
/-- BAR0 offset of QUE_ENTRY_LO. -/
def QUE_ENTRY_LO (i : Nat) : Nat := 0x2220000 + 0x8 * i
/-- BAR0 offset of QUE_DROP_LO. -/
def QUE_DROP_LO (i : Nat) : Nat := 0x2220200 + 0x8 * i
/-- BAR0 offset of QUE_OWNER_DROP_LO. -/
def QUE_OWNER_DROP_LO (i : Nat) : Nat := 0x2220400 + 0x8 * i
/-- BAR0 offset of QUE_FMT_ERR_LO. -/
def QUE_FMT_ERR_LO (i : Nat) : Nat := 0x2220600 + 0x8 * i
/-- BAR0 offset of QUE_PORT_DROP_LO. -/
def QUE_PORT_DROP_LO (i : Nat) : Nat := 0x2220800 + 0x8 * i
/-- BAR0 offset of CQP_TXN_LO. -/
def CQP_TXN_LO  : Nat := 0x2220810
/-- BAR0 offset of CQP_ERR_LO. -/
def CQP_ERR_LO  : Nat := 0x2220818
/-- BAR0 offset of CQP_PARTIAL_LO. -/
def CQP_PARTIAL_LO  : Nat := 0x2220820
/-- BAR0 offset of MEM_CE_LO. -/
def MEM_CE_LO  : Nat := 0x2420000
/-- BAR0 offset of MEM_UE_LO. -/
def MEM_UE_LO  : Nat := 0x2420008
/-- BAR0 offset of MEM_REFUSED_LO. -/
def MEM_REFUSED_LO  : Nat := 0x2420010
/-- BAR0 offset of MEM_EXP_CHUNK_LO. -/
def MEM_EXP_CHUNK_LO  : Nat := 0x2420018
/-- BAR0 offset of MEM_REC_WR_LO. -/
def MEM_REC_WR_LO (i : Nat) : Nat := 0x2420100 + 0x8 * i
/-- BAR0 offset of MEM_REC_DROP_LO. -/
def MEM_REC_DROP_LO (i : Nat) : Nat := 0x2420300 + 0x8 * i
/-- BAR0 offset of MEM_REC_IDLE_LO. -/
def MEM_REC_IDLE_LO (i : Nat) : Nat := 0x2420500 + 0x8 * i
/-- BAR0 offset of MEM_TRIG_LOST_LO. -/
def MEM_TRIG_LOST_LO (i : Nat) : Nat := 0x2420700 + 0x8 * i
/-- BAR0 offset of FLT_CLASS_CNT_LO. -/
def FLT_CLASS_CNT_LO (i : Nat) : Nat := 0x100800 + 0x8 * i
/-- BAR0 offset of FLT_FATAL_LO. -/
def FLT_FATAL_LO  : Nat := 0x100820
/-- BAR0 offset of FLT_DUMP_LO. -/
def FLT_DUMP_LO  : Nat := 0x100828
/-- BAR0 offset of FLT_SAVE_LO. -/
def FLT_SAVE_LO  : Nat := 0x100830
/-- BAR0 offset of FLT_SAVE_FAIL_LO. -/
def FLT_SAVE_FAIL_LO  : Nat := 0x100838
/-- BAR0 offset of FLT_TENON_LOST_LO. -/
def FLT_TENON_LOST_LO  : Nat := 0x100840
/-- BAR0 offset of REP_REPAIR_LO. -/
def REP_REPAIR_LO  : Nat := 0x2800800
/-- BAR0 offset of REP_REC_FULL_LO. -/
def REP_REC_FULL_LO  : Nat := 0x2800808
/-- BAR0 offset of MGT_RESET_LO. -/
def MGT_RESET_LO  : Nat := 0x2600800
/-- BAR0 offset of MGT_WDT_EXP_LO. -/
def MGT_WDT_EXP_LO  : Nat := 0x2600808
/-- BAR0 offset of MGT_LOCK_ERR_LO. -/
def MGT_LOCK_ERR_LO  : Nat := 0x2600810
/-- BAR0 offset of MGT_FALLBACK_LO. -/
def MGT_FALLBACK_LO  : Nat := 0x2600818

end R

end Sys2Proof.Machine
end

