-- ==== Sys2Proof/Machine/State.lean ====
section
/-! DEFINITION. The state of the block as plain data: its register map, the state the spec gives it beyond the
registers, the queue of waiting commands, and the reasons a command can stop. -/

namespace Sys2Proof.Machine

/-! ### Register interface (02) -/

/-- A requester's shadow of the higher words of one multiword value (R38): the _LO address it is tagged with,
and the words copied. -/
structure Shadow where
  tag : Nat := 0
  words : List Word := []
  deriving DecidableEq, Repr

/-- A requester's holding register (R39): the _LO address of its tag and the words written since. -/
structure Holding where
  tag : Nat := 0
  words : Tab Word := []
  deriving DecidableEq, Repr

/-- What a requester sees of its last access: the word returned, and whether it was an error response (R35). -/
structure Resp where
  err : Bool := false
  data : Word := 0
  /-- bits 63:32 of a doubleword access of a management core (R468) -/
  hi : Word := 0
  deriving DecidableEq, Repr

/-- The register-interface state of a requester (R35): unlock, shadows and holding registers by region number,
and the response to its last access. -/
structure Requester where
  armed : Bool := false
  shadows : Tab (Option Shadow) := []
  holds : Tab (Option Holding) := []
  resp : Resp := {}
  deriving DecidableEq, Repr

/-- Why an access ends with an error response (R12, R34, R57, R428, R390). -/
inductive BusErr where
  | unmap | load | tenon | mem | host
  deriving DecidableEq, Repr

/-- What a PWR access belongs to: an access of its requester's own, an inbound write of a Requester ID (R383), an inbound
read of a Requester ID and tag (R380), the companion transaction in progress or one before it (R419, R421), or nothing
any more. -/
inductive PwrSrc where
  | port
  /-- bytes `ofs` to `ofs + n - 1` of an access of a core, or with `hi` its bits 63:32 (R468) -/
  | core (ofs n : Nat) (hi : Bool)
  | inWrite (rid : Nat)
  | inRead (rid tag : Nat)
  | cqp
  | cqpPast
  | gone
  deriving DecidableEq, Repr

/-- A PWR access on its way over the Tenon link (R11): requester, direction, offset, byte enables, data, whether
its guard check passed at the port (R43), and what it belongs to. -/
structure PwrAcc where
  req : Nat
  wr : Bool
  addr : Nat
  be : Nat
  val : Word
  granted : Bool
  src : PwrSrc
  deriving DecidableEq, Repr

/-- The Tenon link (R10-R14, R457). -/
structure Tenon where
  /-- the link carries valid traffic -/
  up : Bool := true
  /-- the core die is retraining the link (R457) -/
  retraining : Bool := false
  /-- the power die is in the link-lost state (R14) -/
  lostState : Bool := false
  /-- occurrences of R354 counted while the link is lost, not yet in GLB_YIELD -/
  heldYield : Nat := 0
  acc : List PwrAcc := []
  deriving DecidableEq, Repr

/-! ### Start and configuration (03) -/

/-- A record of the configuration image (R66, R67). -/
inductive Rec where
  | endRec (count : Nat)
  | reg32 (pairs : List (Nat × Word))
  | regblk (off : Nat) (vals : List Word)
  | regpoll (off : Nat) (mask value : Word) (us : Nat)
  | regwait (us : Nat)
  | tblload (table first count : Nat) (entries : List Word)
  | keyblob (slot : Nat) (blob : List Byte)
  | mdio (entries : List (List Byte))
  | note
  | unknown (type : Nat) (crit : Bool)
  | bad
  deriving DecidableEq, Repr

/-- A record with its index and its byte offset in the image. -/
structure RecAt where
  idx : Nat
  ofs : Nat
  body : Rec
  deriving DecidableEq, Repr

/-- What the loader waits for between two records. -/
inductive LoaderWait where
  | none
  | poll (off : Nat) (mask value : Word)
  | time
  | blob (slot : Nat)
  deriving DecidableEq, Repr

/-- The configuration loader (R54-R77). -/
structure Loader where
  /-- a start is in progress, not yet RUN or DEGRADED -/
  active : Bool := false
  pllLocked : Bool := false
  selfTest : Bool := false
  /-- the entries (TYPE, OFFSET, SIZE) of the directory copy in use; none while no valid copy is known -/
  dir : Option (List (Nat × Nat × Nat)) := none
  dirRead : Bool := false
  /-- candidate slots not yet taken, and the one in hand -/
  order : List Nat := []
  cand : Option Nat := none
  /-- candidates taken so far at this start -/
  taken : Nat := 0
  header : List Byte := []
  /-- the staging area: ciphertext, tag and signature block as read, and the provisional plaintext -/
  cipher : List Byte := []
  plain : List Byte := []
  bodyRead : Bool := false
  verified : Bool := false
  recs : List RecAt := []
  wait : LoaderWait := .none
  /-- regions 3-18 written by this image, KEY among them once a KEYBLOB record has run (R71) -/
  written : List Nat := []
  /-- header of the active image, and the SHA-384 digest of header, body and tag; empty in DEGRADED (R65, R332) -/
  act : List Byte := []
  actDigest : List Byte := []
  /-- enable fields the loader has stored in APPLY and that act at COMMIT (R508): register and bit -/
  stored : List (Nat × Nat) := []
  /-- the epoch that fuses are being blown up to (R73) -/
  fusing : Option Nat := none
  /-- the enables of R508 have acted in COMMIT -/
  committed : Bool := false
  /-- a RELOAD is in progress (R76) -/
  reload : Bool := false
  /-- the tick of t = 0, and the us by which t runs ahead of the ticks since: 5000 in a RELOAD (R55, R76) -/
  since : Nat := 0
  lead : Nat := 0
  deriving DecidableEq, Repr

/-- The supplies and reset pins that start and stop the core die (R54, R77, R493). -/
structure Pins where
  vs : Bool := false
  pwrGood : Bool := false
  resetN : Bool := false
  /-- forwarding is enabled (R55) -/
  forwarding : Bool := false
  deriving DecidableEq, Repr

/-! ### Frames -/

/-- A frame inside the switch: its bytes from DA to the end of the payload, without FCS, and the lookup result that
travels with it (R109). -/
structure Frame where
  bytes : List Byte := []
  /-- ingress port -/
  ingress : Nat := 0
  /-- size in bytes as received, FCS included (R9) -/
  size : Nat := 0
  /-- receive stamp: time base and value in 2^-32 ns (R102, R166) -/
  stampTb : Nat := 0
  stamp : Nat := 0
  cls : Nat := 0
  /-- flow handle; 0 where the default action applies -/
  flow : Nat := 0
  /-- stream context, if any -/
  ctx : Option Nat := none
  /-- destination mask (R8, R113) -/
  dest : Nat := 0
  /-- reason of the queue header (R409), and the queue at HOST or MGT -/
  reason : Nat := 0
  queue : Nat := 0
  /-- VID of tagged copies, FID of the VLAN, ports whose copies leave untagged (R114, R116) -/
  vid : Nat := 0
  fid : Nat := 0
  untag : Nat := 0
  /-- frame-age limit in us and its time base (R115) -/
  ageLim : Nat := 0
  ageTb : Nat := 0
  /-- cut-through permission -/
  ct : Bool := false
  /-- table epoch under which it was classified (R134) -/
  epoch : Nat := 0
  /-- a learn request is due if the FCS is good (R123) -/
  learn : Bool := false
  deriving DecidableEq, Repr

/-! ### Tables (05) -/

/-- An entry of a table: four words (R115-R118). -/
structure Ent where
  w0 : Word := 0
  w1 : Word := 0
  w2 : Word := 0
  w3 : Word := 0
  deriving DecidableEq, Repr

/-- A learn request (R123, R124): W0 and W1 of the key, and the ingress port. -/
structure LearnReq where
  lo : Word
  hi : Word
  port : Nat
  deriving DecidableEq, Repr

/-- The classification tables beyond their registers. -/
structure Tbl where
  /-- entries by 16384 x table + index: 0 flow, 1 VLAN, 2 stream match, 3 learning -/
  ents : Tab Ent := []
  /-- mask of the words that fail parity, by the same number (R129) -/
  bad : Tab Nat := []
  /-- spare rows left, per table (R131) -/
  spares : Tab Nat := []
  /-- rot[b] of R121 -/
  rot : Tab Nat := []
  /-- the learn FIFO, oldest first -/
  fifo : List LearnReq := []
  /-- a FLUSH in progress: channel, selection word -/
  flush : Option (Nat × Word) := none
  /-- a write of a command whose read-back differed: channel, table, index, entry (R131) -/
  repair : Option (Nat × Nat × Nat × Ent) := none
  /-- channels whose commands wait, oldest first, and whether the read-back of the write will differ (R131, R132) -/
  waiting : List (Nat × Bool) := []
  /-- the next bucket of the ageing sweep in progress -/
  sweep : Option Nat := none
  deriving DecidableEq, Repr

/-! ### The Carcass (06) -/

/-- A copy of a frame: its output, whether it stands in the multicast queue, whether it is being or has been fetched,
and how many of its cells have been sent to the plies and have arrived (R148-R154, R161). -/
structure Copy where
  out : Nat
  mcq : Bool := false
  fetched : Bool := false
  sent : Nat := 0
  got : Nat := 0
  /-- it cuts through (R147) -/
  ct : Bool := false
  /-- MAX of the egress port when its transmission began (R87) -/
  max : Option Nat := none
  deriving DecidableEq, Repr

/-- A frame in the buffer. -/
structure SwFrame where
  f : Frame
  /-- cells charged to its own class, and to each lending class in the order borrowed (R141-R144) -/
  own : Nat := 0
  lent : List (Nat × Nat) := []
  copies : List Copy := []
  /-- reception has ended with good FCS -/
  whole : Bool := false
  /-- eligible under R146 -/
  elig : Bool := false
  /-- a stream context handles it until step 10 (R180) -/
  stream : Bool := false
  /-- bytes reserved of its context's meter (R181) -/
  resv : Nat := 0
  /-- bytes of a trailer to strip, a trailer to append (R187, R192) -/
  strip : Nat := 0
  trailer : List Byte := []
  /-- recorder ring of its REC copy (R198) -/
  ring : Option Nat := none
  /-- a copy of it has been dropped under R165 (R187) -/
  aged : Bool := false
  deriving DecidableEq, Repr

/-- A cell on a ply (R149): source, destination, frame, place in the frame, sequence number, and the header W0-W3. -/
structure Cell where
  src : Nat
  dst : Nat
  frame : Nat
  first : Bool
  last : Bool
  seq : Nat
  ply : Nat
  hdr : List Word := []
  /-- lost on a failed ply: Dovetail declares it lost when its turn comes (R169) -/
  lost : Bool := false
  deriving DecidableEq, Repr

/-- Dovetail at one output for one source (R153). -/
structure Dove where
  next : Nat := 0
  held : List Cell := []
  /-- cells are discarded until the next one marked FIRST -/
  skip : Bool := false
  deriving DecidableEq, Repr

/-- The egress scheduler of an output (R154-R156): frames fetched and not yet sent, by MAC; the source served last per
class; deficits; the class the deficit round robin stands at; credits of classes 5 and 4 in 10^-6 bits. -/
structure Sched where
  exq : List Nat := []
  prq : List Nat := []
  rr : Tab Nat := []
  deficit : Tab Nat := []
  cur : Nat := 3
  visited : Bool := false
  credit : Tab Int := []
  deriving DecidableEq, Repr

/-- What a port has received of a frame still coming in (R86, R108). -/
structure RxOpen where
  bytes : List Byte
  /-- MAX in force at the first byte (R87) -/
  max : Nat
  /-- time base of the port's stamps and its receive stamp in each of the four time bases, taken at the first bit; the time
  bases that have stepped since (R102, R271) -/
  tb : Nat := 0
  stamps : List Nat := []
  stepped : Nat := 0
  /-- its first 64 bytes have been classified; the lookup result, until its first cell is formed; number of the frame in the
  buffer; the learn request due (R108, R142) -/
  looked : Bool := false
  found : Option Frame := none
  frame : Option Nat := none
  learn : Option Frame := none
  deriving DecidableEq, Repr

/-- The Carcass beyond its registers. -/
structure Sw where
  next : Nat := 0
  frames : Tab SwFrame := []
  rx : Tab (Option RxOpen) := []
  sched : Tab Sched := []
  /-- the ply of each input's previous cell, and the output served last (R150, R151) -/
  inPly : Tab Nat := []
  inOut : Tab Nat := []
  /-- next SEQ by 32 x source + destination, and Dovetail by the same number -/
  seq : Tab Nat := []
  dove : Tab Dove := []
  flight : List Cell := []
  /-- the input the next matching cycle begins with -/
  turn : Nat := 0
  /-- ticks of the retries of each ply within the last 1 ms (R152) -/
  retries : Tab (List Nat) := []
  /-- the failed ply a training one replaces (R458) -/
  replaced : Option Nat := none
  /-- cells of unrepairable buffer rows (R460) -/
  gone : Nat := 0
  /-- frames handed to the gateway and to the recorder, oldest first -/
  canbq : List Frame := []
  recq : List (Nat × Frame) := []
  deriving DecidableEq, Repr

/-! ### Ethernet ports (04) -/

/-- The link state of a port (R82). -/
inductive PortSt where
  | disabled | down | up
  deriving DecidableEq, Repr

/-- A frame of the preemptable MAC in assembly: what has come of it, and its frame count (R96). -/
structure Assembly where
  rx : RxOpen
  count : Nat
  deriving DecidableEq, Repr

/-- The state of a port beyond its registers. -/
structure Port where
  st : PortSt := .disabled
  trained : Bool := false
  /-- SPEED and FEC sampled at enable (R80) -/
  speed : Nat := 0
  fec : Nat := 0
  /-- the two latest polls, latest first (R81) -/
  poll1 : Bool := false
  poll2 : Bool := false
  /-- VERIFY_DIS sampled with EN, the attempt in progress, verify and respond mPackets sent (R95, R96) -/
  verDis : Bool := false
  attempt : Nat := 0
  verifySent : Nat := 0
  respondSent : Nat := 0
  asm : Option Assembly := none
  /-- received pause times in quanta: the port's, and per class -/
  pause : Nat := 0
  pfc : Tab Nat := []
  /-- classes whose XOFF this port has signalled and that still stand (R101) -/
  xoffSent : Nat := 0
  /-- transmissions in progress: a cut-through frame being sent, and a preemptable one that it interrupts -/
  txCut : Option Nat := none
  txHeld : Option Nat := none
  /-- an express frame has interrupted the preemptable cut-through frame being sent (R94, R95) -/
  interrupted : Bool := false
  /-- frame count of the preemptable MAC, modulo 4 (R94) -/
  frameCount : Nat := 0
  /-- EN has been cleared and the frame in transmission completes first (R82); SPEED and FEC as EN was set again (R80) -/
  closing : Bool := false
  again : Option (Nat × Nat) := none
  /-- the control or gPTP frame sent last by the MAC itself, and the gPTP event message before it -/
  sent : List Byte := []
  event : List Byte := []
  deriving DecidableEq, Repr

/-- An access on an MDIO master: clause 45, read or write, PHY, device, register, data. -/
structure MdioAcc where
  cl45 : Bool
  write : Bool
  prt : Nat
  dev : Nat
  reg : Nat
  data : Nat
  /-- an entry of the sleep phase of PREPARE (R367) -/
  sleep : Bool := false
  deriving DecidableEq, Repr

/-- An MDIO master (R83-R85): the port polled last in this round, and the command waiting or in progress. -/
structure Mdio where
  poll : Option Nat := none
  gap : Bool := false
  /-- the access in progress is a command's or a write's, not a poll -/
  started : Bool := false
  /-- that access is a queued write's (R84) -/
  writing : Bool := false
  /-- the command issued by MAC_MDIO_CMD -/
  cmd : Option MdioAcc := none
  /-- writes of MDIO records and of the sleep master, in order -/
  writes : List MdioAcc := []
  /-- the last access driven on the bus -/
  last : Option MdioAcc := none
  deriving DecidableEq, Repr

/-! ### Stream contexts (07) -/

/-- A frame of a context between steps 5 and 10 of R177. -/
structure StrPend where
  frame : Nat
  seq : Option Nat := none
  /-- the key entry matched at step 4 or used at step 9: 0 A, 1 B -/
  entry : Nat := 0
  fresh : Nat := 0
  /-- label of the trailer being generated (R192) -/
  label : Nat := 0
  /-- 0 waiting for an equal sequence number, 1 awaiting its verdict, 2 waiting for a reservation, 3 awaiting its tag -/
  stage : Nat := 0
  deriving DecidableEq, Repr

/-- A stream context beyond its registers. -/
structure StrCtx where
  /-- STR_CFG sampled at EN (R199) -/
  cfg : Word := 0
  /-- the meter's bucket in 1/4000 byte, and the tick of its last fill (R181) -/
  bucket : Nat := 0
  filled : Nat := 0
  /-- bit i: sequence number RECOV_SEQ - i has been received; how many numbers the history spans (R195) -/
  hist : Nat := 0
  span : Nat := 0
  /-- the silence watchdog runs (R197) -/
  armed : Bool := false
  /-- the old entry while STR_STS.ROLLING is 1 (R191): 0 A, 1 B -/
  old : Nat := 0
  pend : List StrPend := []
  deriving DecidableEq, Repr

/-! ### CAN controllers (08) -/

/-- A CAN frame: format (0 classical, 1 FD, 2 XL), identifier, flags, XL fields, LEN, data, SOF stamp. -/
structure CFrame where
  fmt : Nat := 0
  ide : Bool := false
  id : Nat := 0
  rtr : Bool := false
  brs : Bool := false
  esi : Bool := false
  sec : Bool := false
  sdt : Nat := 0
  vcid : Nat := 0
  af : Nat := 0
  len : Nat := 0
  data : List Byte := []
  stamp : Nat := 0
  deriving DecidableEq, Repr

/-- The frame a controller has on the bus (R219-R225): its object, the copy made at SOF, whether it is the attempt of
an exclusive window, whether that window's limit has passed since, and whether a backward step has made the window recur. -/
structure CanTx where
  obj : Nat
  f : CFrame
  excl : Bool := false
  late : Bool := false
  past : Bool := false
  deriving DecidableEq, Repr

/-- The schedule matrix of a controller (R223-R227): the fields sampled at its start, the start of the basic cycle in
hand and the entries read at it, the window in hand, its start, and whether its EXCL frame is still owed. Times in ns
of the time base. -/
structure Matrix where
  armed : Bool := false
  run : Bool := false
  cyc : Nat := 0
  bc : Nat := 1
  ofs : Nat := 0
  tb : Nat := 0
  at0 : Option Nat := none
  ents : List Word := []
  win : Option Nat := none
  since : Nat := 0
  owed : Bool := false
  /-- EN has been cleared and the frame on the bus ends first -/
  stop : Bool := false
  /-- no event frame fits the rest of the window in hand (R226) -/
  shut : Bool := false
  deriving DecidableEq, Repr

/-- CAN_CFG, CAN_NBT, CAN_DBT, CAN_XBT and CAN_TDC as EN was set (R208). -/
structure CanCfg where
  cfg : Word
  nbt : Word
  dbt : Word
  xbt : Word
  tdc : Word
  deriving DecidableEq, Repr

/-- A controller beyond its registers: configuration sampled at EN (R208), the frame on the bus, EN cleared while one is, the
configuration sampled where EN has been set again since, and whether its transceiver is in SIC fast mode (R207). -/
structure Can where
  cfg : Word := 0
  nbt : Word := 0
  dbt : Word := 0
  xbt : Word := 0
  tdc : Word := 0
  tx : Option CanTx := none
  closing : Bool := false
  again : Option CanCfg := none
  sic : Bool := false
  m : Matrix := {}
  deriving DecidableEq, Repr

/-! ### CAN gateway (09) -/

/-- An open PDU of a packing context (R239-R241): GW_PK_CFG sampled at EN, the limits sampled at its first message, its
messages in order, and the next sequence_num. -/
structure Pack where
  cfg : Word := 0
  lim : Word := 0
  time : Word := 0
  msgs : List (List Byte) := []
  seq : Nat := 0
  deriving DecidableEq, Repr

/-- A closed PDU waiting for CANB: context, messages, frame, flow handle, PCP of its tag if it has one (R242). -/
structure PduOut where
  k : Nat
  msgs : Nat
  frame : List Byte
  fh : Nat
  pcp : Option Nat
  deriving DecidableEq, Repr

/-- A store in the Jig trigger queue (R246). -/
structure JigTrig where
  can : Nat
  obj : Nat
  len : Nat
  data : List Byte
  deriving DecidableEq, Repr

/-- A frame taken from a receive object (R232): controller, object, DEL, whether stored, SEQ of the object. -/
structure GwIn where
  can : Nat
  obj : Nat
  del : Nat
  seq : Nat
  f : CFrame
  deriving DecidableEq, Repr

/-- An enabled authentication entry (R249-R252): its configuration, the frames awaiting a verdict, a job in progress
and its freshness, changes waiting for a job or a reservation, and the object's authenticated content. -/
structure Cma where
  cfg : Word := 0
  ver : List GwIn := []
  busy : Bool := false
  f : Nat := 0
  more : Nat := 0
  waitRes : Nat := 0
  auth : Option (List Word) := none
  deriving DecidableEq, Repr

/-- What bars the object of an entry that left EXHAUSTED by EN 0 (R252): the controller and object, the key it wore out,
and whether GW_CMA_FRESH has been written since. -/
structure CmaSpent where
  can : Nat
  obj : Nat
  slot : Nat
  gen : Nat
  fresh : Bool := false
  deriving DecidableEq, Repr

/-- The gateway beyond its registers. -/
structure Gw where
  fifo : Tab (List CFrame) := []
  /-- the object the long XL frame at the head of a FIFO stands in (R237) -/
  long : Tab (Option Nat) := []
  /-- tokens of each destination (R238) -/
  tok : Tab Nat := []
  packs : Tab Pack := []
  out : List PduOut := []
  upSeq : Tab (Option Nat) := []
  trig : List JigTrig := []
  /-- Jig entries whose timer runs (R248) -/
  timer : Tab Bool := []
  cma : Tab Cma := []
  /-- entries disabled while EXHAUSTED (R252) -/
  spent : Tab CmaSpent := []
  /-- the two latest captures of R218, latest first: counter, and whole ns of the four time bases; and per time base
  how many of them (up to two) were taken while it ran and since its last step -/
  caps : List (Nat × List Nat) := []
  capGood : Tab Nat := []
  deriving DecidableEq, Repr

/-! ### The Marl vault (12) -/

/-- A KEY_CMD in progress with the arguments it took when written (R316). -/
structure KeyCmd where
  op : Nat
  root : Bool := false
  parent : Nat := 0
  slot : Nat := 0
  req : Nat := 0
  repl : Bool := false
  size : Bool := false
  use : Nat := 0
  arg : List Byte := []
  src : Nat := 0
  exp : Nat := 0
  deriving DecidableEq, Repr

/-- The vault beyond its registers: slot keys, the root seed, fuses, the keep-alive store. -/
structure Vault where
  keys : Tab (List Byte) := []
  /-- RS, while PROVISIONED (keep-alive) -/
  rs : Option (List Byte) := none
  cmd : Option KeyCmd := none
  /-- the nonce of an attestation in progress -/
  att : Option (List Byte) := none
  /-- signer digests by 4 x algorithm + index, blown digests only (R322) -/
  signers : Tab (List Byte) := []
  revoked : Nat := 0
  policy : Nat := 0
  /-- lock fuses (R323), and epoch fuses -/
  locks : Nat := 0
  lossEpoch : Nat := 0
  cfgEpoch : Nat := 0
  fwEpoch : Nat := 0
  /-- HIGH values in the keep-alive store: stream contexts, then 256 + CAN entry (R190) -/
  high : Tab Nat := []
  /-- numbers of the random strings that the shares of each slot's key, by slot, are made with (R320) -/
  masks : Tab Nat := []
  /-- KCV of each reservation record, and the ceiling being written (R327, R328) -/
  resKcv : Tab Nat := []
  adv : Tab Nat := []
  /-- the keep-alive store has been lost since the last start -/
  lost : Bool := true
  /-- a tamper was detected while the core die was down -/
  tampered : Bool := false
  deriving DecidableEq, Repr

/-! ### The Grit pool (11) -/

/-- What a job is for (R286). -/
inductive JobUser where
  | strVerify (ctx frame : Nat)
  | strGenerate (ctx frame : Nat)
  | canVerify (entry : Nat)
  | canGenerate (entry fresh : Nat)
  /-- a CAN job whose entry has been disabled: it ends without effect -/
  | canGone
  | vault
  /-- the second computation of the KCV of a fill (R309) -/
  | vaultKcv
  /-- an attestation signature, and a check of a firmware image, in the public-key unit (R301, R484) -/
  | attest
  | fwCheck
  | chunk (index : Nat)
  | soft (queue index : Nat)
  deriving DecidableEq, Repr

/-- A job of the pool or of a unit beside it. -/
structure Job where
  level : Nat
  user : JobUser
  slot : Nat := 0
  /-- AES blocks left to compute -/
  blocks : Nat := 0
  /-- the key resolved at its start, and GEN of the slot then (R295) -/
  key : List Byte := []
  gen : Nat := 0
  started : Bool := false
  /-- restarted once after an abort; counted as a long wait (R298, R288) -/
  retried : Bool := false
  waited : Bool := false
  /-- 0 the pool, 1 the start-up unit, 2 the public-key unit, 3 the DRBG -/
  unit : Nat := 0
  /-- its slot was unusable at the start of a segment (R295) -/
  nokey : Bool := false
  /-- the core that aborted it (R298) -/
  avoid : Option Nat := none
  /-- it has ended a segment and stands at the head of its level (R287) -/
  head : Bool := false
  /-- a software job's descriptor and its device address (R290) -/
  desc : List Byte := []
  addr : Nat := 0
  deriving DecidableEq, Repr

/-- A software job queue beyond its registers (R289): ring sampled at EN, next descriptor to read, indices of the descriptors
read whose jobs have not completed; how many jobs of an earlier enable still run (index plus 4,096 in their JobUser). -/
structure Sjq where
  before : Nat := 0
  base : Nat := 0
  size : Nat := 16
  next : Nat := 0
  prog : List Nat := []
  deriving DecidableEq, Repr

/-- The pool beyond its registers. -/
structure Grit where
  waiting : List Job := []
  /-- jobs running, by physical core; 136 the start-up unit, 137 the public-key unit, 138 the DRBG -/
  running : Tab Job := []
  lastTile : Nat := 7
  lastSjq : Nat := 7
  sjq : Tab Sjq := []
  /-- tick of each core's last abort plus one, and whether it followed another within 1 s (R299) -/
  lastAbort : Tab Nat := []
  again : Tab Bool := []
  /-- cores to retire once their job completes, and whether the tile's spare passes its tests -/
  retiring : Tab Bool := []
  /-- the cores that wait for masks (R296) -/
  maskWait : List Nat := []
  /-- generate requests since the last seed (R297) -/
  requests : Nat := 0
  deriving DecidableEq, Repr

/-! ### Time bases, triggers and captures (10) -/

/-- A time base beyond its registers (R257-R264): value and slew in 2^-32 ns, ADJ and integral in 2^-12 ppb. -/
structure TimeBase where
  v : Nat := 0
  adj : Int := 0
  integ : Int := 0
  /-- the offset still to absorb -/
  slew : Option Int := none
  /-- TB_SET was last given an invalid value (R256) -/
  setBad : Bool := false
  /-- servo configuration sampled at SRV_EN (R262) -/
  src : Nat := 3
  idx : Nat := 0
  stepEn : Bool := false
  /-- no update has been taken since SRV_EN -/
  first : Bool := true
  /-- consecutive updates within LOCK_NS -/
  good : Nat := 0
  deriving DecidableEq, Repr

/-- A trigger generator beyond its registers (R273-R276): sampled configuration, number of its next edge, and the
real time, in ticks, of its last edge. Times are in 1/256 ns. -/
structure Gen where
  oneShot : Bool := false
  tb : Nat := 0
  pol : Bool := false
  pinEn : Bool := false
  link : Bool := false
  lead : Nat := 0
  start : Nat := 0
  per : Nat := 0
  width : Nat := 0
  next : Nat := 0
  /-- the latest edge numbers made, latest first, and the tick of the latest -/
  made : List Nat := []
  lastTick : Nat := 0
  /-- TRIG pin level -/
  pin : Bool := false
  startBad : Bool := false
  deriving DecidableEq, Repr

/-- A gPTP message taken by the time engine (R265): port, frame without FCS with its stamp in the port's time base, and
the value of each of the four time bases at its receive stamp point. -/
structure TpMsg where
  port : Nat
  frame : Frame
  stamps : List Nat
  /-- the time bases that have stepped since the receive stamp -/
  stepped : Nat := 0
  deriving DecidableEq, Repr

/-- A Sync being handled (R268): sequenceId, stamps in the four time bases, correctionField in 2^-16 ns, and the time
bases that have stepped since its receive stamp (R271). -/
structure SyncRec where
  seq : Nat
  stamps : List Nat
  corr : Int
  stepped : Nat := 0
  deriving DecidableEq, Repr

/-- A gPTP message that waits to be sent (R99, R101, R266, R269): a Pdelay_Req; the two parts of an answer to one; a Sync of domain
`d`, relayed, with what the relay adds up; one of the grandmaster; the Follow_Up of such a Sync already sent. -/
inductive TpOut where
  | pdReq (body : List Byte)
  | pdResp (domain seq t2 : Nat) (source : List Byte)
  | relay (d seq : Nat) (r : SyncRec) (origin : Nat) (corr mldGm csro : Int) (shown : Nat) (rest : List Byte)
  | gm (d seq : Nat)
  | follow (d : Nat) (body : List Byte)
  deriving DecidableEq, Repr

/-- A gPTP domain beyond its registers: sampled configuration, the two-step Sync awaiting its Follow_Up, and whether the
timeout of R271 runs. -/
structure Dom where
  en : Bool := false
  oneStep : Bool := true
  log : Nat := 0
  tb : Nat := 0
  slave : Nat := 31
  number : Nat := 0
  masters : Nat := 0
  await : Option SyncRec := none
  timing : Bool := false
  deriving DecidableEq, Repr

/-- The link-delay service of a port (R267): sequenceId of the last request, whether it awaits its response, its
transmit stamp, and of the response: receive stamp t4, t2 and its correction, parts received (bit 0 Resp, bit 1
Follow_Up), more than one response, valid; whether any has been valid; t3 and t4 of the previous valid one; the
neighbour rate ratio less 1 in 2^-41, and meanLinkDelay in 1/256 ns. -/
structure Pdelay where
  seq : Nat := 0
  pending : Bool := false
  t1 : Nat := 0
  t4 : Nat := 0
  t2 : Nat := 0
  corr : Int := 0
  parts : Nat := 0
  dup : Bool := false
  valid : Bool := false
  known : Bool := false
  prev : Option (Nat × Nat) := none
  nrr : Int := 0
  mld : Int := 0
  deriving DecidableEq, Repr

/-! ### Load channels and the sleep master (13, 14) -/

/-- What a start of a load channel is (R341): commanded by a MODE write, a retry, a thermal restart, a restart after
undervoltage or at the commit of R55. -/
inductive StartKind where
  | command | retry | thermal | undervoltage | commit
  deriving DecidableEq, Repr

/-- A load channel beyond its registers (R339-R356). -/
structure Load where
  /-- the start in hand, or that a latch defers -/
  kind : StartKind := .command
  /-- RTY_CNT advances at the next turn-on (R348) -/
  retrying : Bool := false
  /-- the claim held, in 0.1 A (R342) -/
  claim : Nat := 0
  /-- DUTY sampled at the period start, and of the pulse the output is on for (R339) -/
  duty : Nat := 0
  pulse : Nat := 0
  /-- a period is in progress: S_k is defined (R340) -/
  period : Bool := false
  /-- a conversion is in progress (R355) -/
  conv : Bool := false
  /-- clamp bucket in pJ, and the tick at which it had that level (R346) -/
  bucket : Nat := 0
  since : Nat := 0
  /-- CTL has been written: OWNER names a requester (R354) -/
  owned : Bool := false
  /-- held by the degraded configuration until the next CTL write (R354) -/
  degr : Bool := false
  /-- a CTL write of the loader that waits for commit (R356) -/
  staged : Option Word := none
  deriving DecidableEq, Repr

/-- The load channels, the queue of staggered starts (R352), and the registers of every channel as they were at t = 0
(R356). -/
structure Loads where
  ch : Tab Load := []
  stag : List Nat := []
  snap : Tab Word := []
  deriving DecidableEq, Repr

/-- The sleep master and the transceivers beyond their registers (R360-R370). -/
structure Slp where
  /-- bus, CAN_CFG.EN and transceiver state before COMMIT (R369, R370) -/
  saved : List (Nat × Bool × Nat) := []
  /-- PWR_TRX_CFG, ID, IDM, DATA_LO, DATA_HI sampled when SLEEP_SW was entered (R362) -/
  sampled : Tab (List Word) := []
  /-- buses whose announcement is not sent yet, MDIO entries of the sleep phase not written yet (R367) -/
  ann : List Nat := []
  mdio : Nat := 0
  /-- filtered levels of the WAKE inputs (R363) -/
  level : Nat := 0
  /-- the next wake is the first since PREPARE (R365) -/
  firstFree : Bool := false
  inh : Bool := true
  /-- a module fail-safe has occurred since the last start (R374) -/
  modFs : Bool := false
  /-- the tick at which SLEEP was entered (R365) -/
  since : Nat := 0
  deriving DecidableEq, Repr

/-! ### Host bridge (15) -/

/-- A TLP the bridge has sent. -/
inductive Tlp where
  | memWr (addr : Nat) (data : List Byte)
  | memRd (tag addr len : Nat)
  | msix (vec addr : Nat) (data : Word)
  | cplData (rid tag : Nat) (data : List Word) (ep : Bool)
  | cplAbort (rid tag : Nat)
  | cplUr (rid tag : Nat)
  | cplRetry (rid tag : Nat)
  | cplOk (rid tag : Nat)
  | fatalMsg
  deriving DecidableEq, Repr

/-- An inbound BAR0 read (R380, R381), or a companion RD32 (R421), that waits for the power die: whose it is, the next
word's offset, words left and words read. -/
structure InRead where
  src : PwrSrc
  addr : Nat
  left : Nat
  got : List Word
  /-- byte enables of its first and of its last DWORD -/
  beFirst : Nat := 15
  beLast : Nat := 15
  deriving DecidableEq, Repr

/-- Who asked for an outbound request. -/
inductive OutSrc where
  | dma (ch : Nat)
  /-- of a channel that has halted: its response is awaited and then discarded (R406) -/
  | dmaPast (ch : Nat)
  | other
  deriving DecidableEq, Repr

/-- An outbound read outstanding (R390). -/
structure OutRead where
  tag : Nat
  src : OutSrc
  addr : Nat
  len : Nat
  /-- the data, once its completion has arrived -/
  got : Option (List Byte) := none
  deriving DecidableEq, Repr

/-- Errors that AER records (R376, R382, R390). -/
inductive Aer where
  | unsupported | poisoned | completionTimeout | unexpectedCompletion | malformed | overflow
  deriving DecidableEq, Repr

/-- The host bridge beyond its registers. -/
structure Brg where
  /-- the link trains (R377) -/
  training : Bool := false
  ready : Bool := false
  bar0 : Nat := 0
  bar2 : Nat := 0
  inReads : List InRead := []
  outReads : List OutRead := []
  nextTag : Nat := 0
  aer : List Aer := []
  /-- Max Payload Size and Max Read Request Size as the host has programmed them, in bytes (R376) -/
  mps : Nat := 128
  mrrs : Nat := 512
  /-- the TLPs sent by the last command that sent any -/
  tlps : List Tlp := []
  deriving DecidableEq, Repr

/-! ### DMA, queues, companion port (16) -/

/-- A DMA descriptor (R400). -/
structure Desc where
  addr : Nat
  src : Nat
  dst : Nat
  next : Nat
  len : Nat
  ctl : Nat
  deriving DecidableEq, Repr

/-- A burst whose outbound read is on its way (R404, R405): its length, the destination address, or the IN queue. -/
structure Burst where
  len : Nat
  dst : Nat
  queue : Option Nat := none
  /-- words of an entry not yet whole that stood beyond WR of the queue when the burst was issued (R415) -/
  part : Nat := 0
  deriving DecidableEq, Repr

/-- A DMA channel beyond its registers (R402-R406). -/
structure Chan where
  /-- DMA_CH_DESC as sampled while ARMED -/
  list : Nat := 0
  /-- the address of a descriptor fetch that is due -/
  fetch : Option Nat := none
  desc : Option Desc := none
  /-- bytes of the descriptor issued -/
  ofs : Nat := 0
  inflight : Option Burst := none
  /-- real words of a burst requested by the flush timer (R415) -/
  timer : Option Nat := none
  /-- words stored beyond WR of the IN queue named, of an entry not yet whole (R415) -/
  part : Nat := 0
  deriving DecidableEq, Repr

/-- The DMA engine: channels, and per block the channel granted last. -/
structure Dma where
  chans : Tab Chan := []
  last : Tab Nat := []
  deriving DecidableEq, Repr

/-- The companion port (R418-R422). -/
structure Cqp where
  sel : Bool := false
  quad : Bool := false
  inactive : Bool := false
  /-- the command of this transaction has been taken -/
  cmd : Bool := false
  /-- outcome of the transaction in progress, and its first failed access -/
  outcome : Nat := 0
  failAddr : Option Nat := none
  /-- bytes shifted out in the transaction, from the status byte on -/
  out : List Byte := []
  /-- queue and words asked for by QTAKE -/
  take : Option (Nat × Nat) := none
  /-- queue and words of a QPUT -/
  put : Option (Nat × List Word) := none
  deriving DecidableEq, Repr

/-! ### DRAM and recorder (17) -/

/-- A REC copy in the recorder's buffer (R434). -/
structure RecCopy where
  ring : Nat
  frame : List Byte
  tb : Nat
  stamp : Nat
  deriving DecidableEq, Repr

/-- A record of a ring (R433): its offset in the ring and its length in bytes, its number; a pad record has none. -/
structure RingRec where
  ofs : Nat
  len : Nat
  num : Nat
  pad : Bool
  deriving DecidableEq, Repr

/-- A recorder ring beyond its registers: number of the next record, its records, oldest first. -/
structure Ring where
  seq : Nat := 0
  recs : List RingRec := []
  /-- sampled base and size in bytes -/
  base : Nat := 0
  size : Nat := 0
  deriving DecidableEq, Repr

/-- A chunk of an export not committed yet (R438): its records, whether it is the last, whether a record has been left
out, and the key of its CMAC once it has been computed. -/
structure ChunkSt where
  index : Nat
  recs : List RingRec
  last : Bool
  gap : Bool
  key : Option (List Byte) := none
  deriving DecidableEq, Repr

/-- An export in progress (R438, R439): ring, key slot and data limit sampled at its start, index of the next chunk to
take up, records left, chunks in hand in index order, and whether the last has been taken up. -/
structure ExportSt where
  ring : Nat
  slot : Nat
  limit : Nat
  next : Nat := 0
  left : List RingRec := []
  chunks : List ChunkSt := []
  all : Bool := false
  deriving DecidableEq, Repr

/-- The DRAM and the recorder beyond their registers. -/
structure Mem where
  dram : List Host.Cell := []
  /-- poisoned lines, by line number -/
  poison : Tab Bool := []
  bufUsed : Nat := 0
  buf : List RecCopy := []
  rings : Tab Ring := []
  exp : Option ExportSt := none
  deriving DecidableEq, Repr

/-! ### Faults, dump and save (18) -/

/-- A dump in progress: slot, header FLAGS, SRC, INFO, T_START and TB0 at the start (R451, R452). -/
structure DumpSt where
  slot : Nat
  flags : Nat
  src : Nat
  info : Nat
  tStart : Nat
  tb0 : List Byte
  deriving DecidableEq, Repr

/-- The aggregator, the dump engine and the save engine beyond their registers. -/
structure Flt where
  /-- the fatal path has started and has not ended -/
  path : Bool := false
  /-- forwarding is held: no frame starts, nothing is admitted, no burst starts (R448, R449) -/
  held : Bool := false
  dump : Option DumpSt := none
  /-- a dump is due: of the fatal path, or of a command -/
  dumpWanted : Bool := false
  dumpId : Nat := 0
  /-- SRC and INFO of the dump that is due; SRC is 0xFFFF for a SOFT one -/
  dumpSrc : Nat := 0
  dumpInfo : Nat := 0
  /-- DUMP_ID of the dump in each slot -/
  slotIds : List Nat := [0, 0]
  /-- a save has begun and has not ended, and no start has reported it yet (R456) -/
  saveOpen : Bool := false
  deriving DecidableEq, Repr

/-- What Shim could not repair (R460): queues, CAN objects by 4096 x controller + object (transmit objects from 2560),
and key slots in the unrepairable rows. -/
structure Worn where
  queues : List Nat := []
  objs : List Nat := []
  slots : List Nat := []
  deriving DecidableEq, Repr

/-- A repair of Shim in force (R458): kind, region, macro or unit, the failed row, column or unit, and its spare. -/
structure Repair where
  kind : Nat
  region : Nat
  index : Nat
  failed : Nat
  spare : Nat
  deriving DecidableEq, Repr

/-! ### Management cluster (19) -/

/-- What CHECK or RECOVER checks: a firmware slot, or an image at a device address (R481, R484). -/
inductive FwSrc where
  | slot (n : Nat)
  | ram (addr : Nat)
  deriving DecidableEq, Repr

/-- A flash command in progress with the arguments it took (R483). -/
structure FlCmd where
  op : Nat
  ofs : Nat
  len : Nat
  buf : Nat
  deriving DecidableEq, Repr

/-- The management cluster beyond its registers. -/
structure Mgt where
  /-- the cores have been released to firmware -/
  running : Bool := false
  /-- the tick at which the core die left reset, and of the last restart of the watchdog count (R472, R473) -/
  base : Nat := 0
  kick : Nat := 0
  /-- PAIR as sampled at the last management-cluster reset (R466) -/
  pair : Nat := 3
  /-- MTIP of the four cores (R472) -/
  mtip : Nat := 0
  /-- SRAM by byte offset (R467) -/
  sram : Tab Byte := []
  /-- LR reservations by core: address and size (R469) -/
  resv : Tab (Option (Nat × Nat)) := []
  /-- the resident loader has ordered its candidates; those it has not checked; the first of them; the codes of slots A
  and B; a trial start (R479) -/
  begun : Bool := false
  order : List Nat := []
  first : Nat := 0
  codes : List Nat := [0, 0]
  trial : Bool := false
  /-- CHECK or RECOVER in progress -/
  check : Option FwSrc := none
  fl : Option FlCmd := none
  /-- the epoch that fuses are being blown up to (R478) -/
  fusing : Option Nat := none
  deriving DecidableEq, Repr

/-! ### The whole -/

/-- Reasons the machine stops with a fault. -/
inductive Fault where
  /-- raised by no meaning: a block has no access that faults (safe) -/
  | none
  deriving DecidableEq, Repr

/-- Reasons a command is refused a meaning. -/
inductive Refusal where
  /-- raised by exec's arm of a command that has no meaning yet (safe) -/
  | notModelled (mnemonic : String)
  deriving DecidableEq, Repr

/-- The state of the block. -/
structure State where
  /-- commands waiting, first in first out -/
  pending : List Instr := []
  /-- the register map, sparse: a register not listed holds its reset value -/
  regs : Tab Word := []
  /-- the model's own: number of the next free value -/
  freeCtr : Nat := 0
  /-- 2 ns ticks of the idle block since power was applied -/
  tick : Nat := 0
  reqs : Tab Requester := []
  /-- addresses of registers with a W1X field written since the reset of that field (R45) -/
  once : List Nat := []
  tenon : Tenon := {}
  loader : Loader := {}
  pins : Pins := {}
  tbl : Tbl := {}
  sw : Sw := {}
  ports : Tab Port := []
  mdio : Tab Mdio := []
  str : Tab StrCtx := []
  vault : Vault := {}
  grit : Grit := {}
  tbs : Tab TimeBase := []
  gens : Tab Gen := []
  /-- edge commands on their way to the power die, by generator, oldest first (R277) -/
  edges : List Nat := []
  doms : Tab Dom := []
  pdelay : Tab Pdelay := []
  /-- gPTP frames taken by the time engine and not yet handled, oldest first (R265) -/
  tpIn : List TpMsg := []
  /-- gPTP messages that wait to be sent, with their port, the oldest first (R99, R269) -/
  tpOut : List (Nat × TpOut) := []
  can : Tab Can := []
  gw : Gw := {}
  /-- CAN start-of-frame counter offset: CAN_SOF_CTR counts from the tick held here (R217) -/
  sofBase : Nat := 0
  loads : Loads := {}
  slp : Slp := {}
  brg : Brg := {}
  dma : Dma := {}
  /-- queue memory, word i of queue q at 16384 q + i -/
  qmem : Tab Word := []
  cqp : Cqp := {}
  mem : Mem := {}
  flt : Flt := {}
  /-- the xSPI flash, by byte offset; a byte never programmed reads 0xFF -/
  flash : Tab Byte := []
  worn : Worn := {}
  /-- the repairs in force since the last start, oldest first (R60, R458) -/
  shim : List Repair := []
  mgt : Mgt := {}
  deriving DecidableEq, Repr

/-- The state after reset: every register at its reset value, nothing running, nothing waiting. -/
def State.reset : State := {}

end Sys2Proof.Machine
end

