-- ==== Sys2Proof/Machine/Ops.lean ====
section
/-! DEFINITION. The named operations on registers, fields, counters and events that every meaning shares. -/

namespace Sys2Proof.Machine

/-- The word a register holds: its stored value, else its reset value (R6, R23). -/
def State.rd (s : State) (a : Nat) : Word := s.regs.get resetOf a

/-- Stores a register's word. -/
def State.wr (s : State) (a : Nat) (v : Word) : State := { s with regs := s.regs.set resetOf a v }

/-- Stores the bits of `v` that `m` marks in the register at `a`, leaving the others. -/
def State.wrBits (s : State) (a m : Nat) (v : Word) : State := s.wr a ((s.rd a &&& ~~~(W m)) ||| (v &&& W m))

/-- A write of a register's RW and RWG fields (R7); RO, reserved and other bits keep their values. -/
def State.store (s : State) (a : Nat) (v : Word) : State :=
  match rowOf a with
  | some r => s.wrBits a (r.rw ||| r.rwg) v
  | none => s

/-- Stores the CMD fields of a command register (R7, R48). -/
def State.storeCmd (s : State) (a : Nat) (v : Word) : State :=
  match rowOf a with
  | some r => s.wrBits a r.cmd v
  | none => s

/-- Bits `lo .. lo + wd - 1` of a word, as a number. -/
def fieldOf (w : Word) (lo wd : Nat) : Nat := w.toNat / 2 ^ lo % 2 ^ wd

/-- A word with bits `lo .. lo + wd - 1` replaced by `v`. -/
def withField (w : Word) (lo wd v : Nat) : Word :=
  (w &&& ~~~(W ((2 ^ wd - 1) * 2 ^ lo))) ||| W ((v % 2 ^ wd) * 2 ^ lo)

/-- The number a field holds. -/
def State.g (s : State) (l : Loc) : Nat := fieldOf (s.rd l.addr) l.lo l.wd

/-- Whether a field holds anything but zero (a one-bit field: whether it is set). -/
def State.on (s : State) (l : Loc) : Bool := s.g l != 0

/-- Makes a field hold `v`. -/
def State.p (s : State) (l : Loc) (v : Nat) : State := s.wr l.addr (withField (s.rd l.addr) l.lo l.wd v)

/-- Makes a one-bit field hold a truth value. -/
def State.pb (s : State) (l : Loc) (b : Bool) : State := s.p l (if b then 1 else 0)

/-- The 64-bit value of a _LO/_HI pair whose _LO word is at `a` (R37). -/
def State.rd64 (s : State) (a : Nat) : Nat := (s.rd a).toNat + 2 ^ 32 * (s.rd (a + 4)).toNat

/-- Stores a 64-bit value, modulo 2^64, in the _LO/_HI pair at `a` (R37). -/
def State.wr64 (s : State) (a n : Nat) : State := (s.wr a (W n)).wr (a + 4) (W (n / 2 ^ 32))

/-- A counter advances by `n`, whatever is going on; it wraps from 2^64 - 1 to zero (R51). -/
def State.count (s : State) (a n : Nat) : State := s.wr64 a (s.rd64 a + n)

/-- An event bit is set, enabled or not (R49). -/
def State.ev (s : State) (l : Loc) : State := s.p l 1

/-- The guarantee of rank `r` (1-8) gives way once: GLB_YIELD[r-1] counts it and GAVE is set; rank 1 never
gives way (R30; GLB_YIELD_LO, GLB_YIELD_EVT). -/
def State.yield (s : State) (r : Nat) : State :=
  if r ≤ 1 then s
  else (s.count (R.GLB_YIELD_LO (r - 1)) 1).wr R.GLB_YIELD_EVT (s.rd R.GLB_YIELD_EVT ||| W (2 ^ (r - 1)))

/-- A hold-up save is in progress (R455). -/
def State.saving (s : State) : Bool := s.g R.PWR_SUP_STS.SAVE == 1

/-- A counter advances by `n` (R51). An update of the core die that falls due during a save is not made, and rank 8
gives way (R31, R456); the power die keeps its own counters. -/
def State.bumpBy (s : State) (a n : Nat) : State :=
  if s.saving && regionOf a != 12 then s.yield 8 else s.count a n

/-- A counter advances by one (R51). -/
def State.bump (s : State) (a : Nat) : State := s.bumpBy a 1

/-- The field value advances by one and stays at its largest value. -/
def State.sat (s : State) (l : Loc) : State := if s.g l + 1 < 2 ^ l.wd then s.p l (s.g l + 1) else s

/-- The field value advances by one modulo its width. -/
def State.inc (s : State) (l : Loc) : State := s.p l (s.g l + 1)

/-- Applies `f` when the condition holds. -/
def State.when (s : State) (c : Bool) (f : State → State) : State := if c then f s else s

/-- Applies `f` for every element of the list, in order. -/
def State.each {α : Type} (s : State) (l : List α) (f : α → State → State) : State := l.foldl (fun t x => f x t) s

/-- Writes `ws` to consecutive registers from `a`. -/
def State.wrList (s : State) (a : Nat) : List Word → State
  | [] => s
  | w :: ws => State.wrList (s.wr a w) (a + 4) ws

/-- `n` consecutive registers from `a`. -/
def State.rdList (s : State) (a n : Nat) : List Word := (List.range n).map (fun k => s.rd (a + 4 * k))

/-- Registers for which `p` holds take their reset values again (R6, R59). -/
def State.resetRegs (s : State) (p : Nat → Bool) : State := { s with regs := s.regs.clear p }

/-- The free value of this moment: nothing in the model says what it is. -/
def State.freeNat (s : State) : Nat := Config.freeNat s.freeCtr

/-- The free truth value of this moment. -/
def State.freeBool (s : State) : Bool := Config.freeBool s.freeCtr

/-- A free value has been used: the next one is another. -/
def State.used (s : State) : State := { s with freeCtr := s.freeCtr + 1 }

/-- The reasons of the access log (R52). -/
inductive LogReason where
  | guard | locked | once | dmaw | unlk | res | part | busy | unmap | load | ptr
  deriving DecidableEq, Repr

/-- The code of a reason (R52). -/
def LogReason.code : LogReason → Nat
  | .guard => 1 | .locked => 2 | .once => 3 | .dmaw => 4 | .unlk => 5 | .res => 6
  | .part => 7 | .busy => 8 | .unmap => 9 | .load => 10 | .ptr => 11

/-- One entry of the access log: written at NEXT, which then advances modulo 16; CNT counts it and
GLB_EVT.ACCLOG is set (R52). -/
def State.logAccess (s : State) (req addr be : Nat) (wr : Bool) (reason : LogReason) : State :=
  let n := s.g R.GLB_ACCLOG_PTR.NEXT
  let info := req % 8 + (if wr then 8 else 0) + 16 * reason.code + 256 * (be % 16)
  ((((s.wr (R.GLB_ACCLOG_ADDR n) (W (addr % 2 ^ 26))).wr (R.GLB_ACCLOG_INFO n) (W info)).p
    R.GLB_ACCLOG_PTR.NEXT (n + 1)).bump R.GLB_ACCLOG_CNT_LO).ev R.GLB_EVT.ACCLOG

end Sys2Proof.Machine
end

