-- ==== Sys2Proof/Machine/Tv.lean ====
section
/-! DEFINITION. Time values and the reading of time bases and of the CAN start-of-frame counter (10, R256-R259;
08, R217). A value is held as a number of 2^-32 ns since value zero, modulo 2^48 s. -/

namespace Sys2Proof.Machine

/-- 2^-32 ns in one second. -/
def tvSec : Nat := 1000000000 * 4294967296

/-- The modulus of a time value: 2^48 seconds (R256). -/
def tvMod : Nat := 281474976710656 * tvSec

/-- Whole nanoseconds since the epoch (R256). -/
def tvNs (v : Nat) : Nat := v / 4294967296

/-- W0 of a value: NS (R256). -/
def tvW0 (v : Nat) : Word := W (tvNs v % 1000000000)
/-- W1 of a value: SEC_LO (R256). -/
def tvW1 (v : Nat) : Word := W (tvNs v / 1000000000)
/-- W2 of a value: FRAC and SEC_HI (R256). -/
def tvW2 (v : Nat) : Word := W ((v / 16777216 % 256) * 16777216 + tvNs v / 1000000000 / 4294967296 % 65536)

/-- The three words of a value (R256). -/
def tvWords (v : Nat) : List Word := [tvW0 v, tvW1 v, tvW2 v]

/-- The value three words hold; none where NS exceeds 999,999,999 (R256). -/
def tvOf (w0 w1 w2 : Word) : Option Nat :=
  let ns := fieldOf w0 0 30
  if ns > 999999999 then none
  else
    let sec := w1.toNat + 4294967296 * fieldOf w2 0 16
    some (sec * tvSec + ns * 4294967296 + fieldOf w2 24 8 * 16777216)

/-- The state of time base `t`. -/
def State.tb (s : State) (t : Nat) : TimeBase := s.tbs.get (fun _ => {}) t

/-- Changes the state of time base `t`. -/
def State.modTb (s : State) (t : Nat) (f : TimeBase → TimeBase) : State :=
  { s with tbs := s.tbs.set (fun _ => {}) t (f (s.tb t)) }

/-- Whether time base `t` counts (R259). -/
def State.tbRun (s : State) (t : Nat) : Bool := s.on (R.TB_STS.RUN t)

/-- The value of time base `t` now. -/
def State.tbVal (s : State) (t : Nat) : Nat := (s.tb t).v

/-- TB_INC in 2^-32 ns per tick (R257). -/
def State.tbInc (s : State) (t : Nat) : Nat := s.g (R.TB_INC_HI.INT t) * 4294967296 + (s.rd (R.TB_INC_LO t)).toNat

/-- The limits of E (R258). -/
def tbEMin : Int := 0x01FF7CED92
def tbEMax : Int := 0x020083126E

/-- INC x (1 + ADJ x 10^-9) in 8.32, rounded down, before the limit (R257); ADJ in 2^-12 ppb. -/
def tbRaw (inc : Nat) (adj : Int) : Int := ((inc : Int) * (4096000000000 + adj)) / 4096000000000

/-- The effective increment E (R257, R258). -/
def State.tbE (s : State) (t : Nat) : Int := clampInt tbEMin tbEMax (tbRaw (s.tbInc t) (s.tb t).adj)

/-- 500 ppm of the nominal 2 ns, in 2^-32 ns per tick (R260; log 20). -/
def slewRate : Int := 4294967

/-- What a slew adds to E at the next tick: 500 ppm of its sign, within the limit of R258 and the offset left. -/
def State.slewStep (s : State) (t : Nat) : Int :=
  match (s.tb t).slew with
  | none => 0
  | some r =>
    let e := s.tbE t
    if 0 ≤ r then min r (clampInt 0 slewRate (tbEMax - e)) else max r (clampInt (-slewRate) 0 (tbEMin - e))

/-- A value moved by a signed number of 2^-32 ns, modulo 2^48 s. -/
def tvAdd (v : Nat) (d : Int) : Nat := (((v : Int) + d) % (tvMod : Int)).toNat

/-- One 2 ns tick of a time base (R257, R260). -/
def State.tbTick (s : State) (t : Nat) : State :=
  if s.tbRun t then
    let d := s.slewStep t
    s.modTb t (fun b => { b with v := tvAdd b.v (s.tbE t + d), slew := b.slew.map (fun r => r - d) })
  else s

/-- The 64-bit start-of-frame counter: 80 MHz, 4 counts in 25 ticks (R217). -/
def State.sofCtr (s : State) : Nat := (s.tick - s.sofBase) * 4 / 25 % 2 ^ 64

/-- Stores a time value in the three registers from `a`. -/
def State.wrTv (s : State) (a v : Nat) : State := s.wrList a (tvWords v)

/-- The time value in the three registers from `a`; none where it is invalid (R256). -/
def State.rdTv (s : State) (a : Nat) : Option Nat := tvOf (s.rd a) (s.rd (a + 4)) (s.rd (a + 8))

end Sys2Proof.Machine
end

