-- ==== Sys2Proof/Machine/Fault.lean ====
section
/-! DEFINITION. Recorder triggers (17, R435) and the fault aggregator: capture, classes, the fatal path (18,
R443-R450). -/

namespace Sys2Proof.Machine

/-- Ring states of MEM_RING_STS.STATE (R437). -/
abbrev ringOff : Nat := 0
abbrev ringRun : Nat := 1
abbrev ringPost : Nat := 2
abbrev ringFrozen : Nat := 3
abbrev ringError : Nat := 4

/-- The state of ring `r` beyond its registers. -/
def State.ring (s : State) (r : Nat) : Ring := s.mem.rings.get (fun _ => {}) r

/-- Changes the state of ring `r`. -/
def State.modRing (s : State) (r : Nat) (f : Ring → Ring) : State :=
  { s with mem := { s.mem with rings := s.mem.rings.set (fun _ => {}) r (f (s.ring r)) } }

/-- The value a ring takes as T at a trigger: that of its time base now (R435), which a stopped base keeps (R259; log 31). -/
def State.ringNow (s : State) (r : Nat) : Nat := s.tbVal (s.g (R.MEM_RING_CFG.TB r))

/-- One ring meets a trigger: RUN goes to POST with T and TSEQ; POST and FROZEN count it as lost (R435, R437). -/
def State.ringMeet (s : State) (r T : Nat) : State :=
  let st := s.g (R.MEM_RING_STS.STATE r)
  if st = ringRun then
    (((s.wrTv (R.MEM_RING_T_LO r) T).wr (R.MEM_RING_TSEQ r) (W (s.ring r).seq)).p (R.MEM_RING_STS.STATE r) ringPost).ev
      R.MEM_EVT.TRIG
  else if st = ringPost ∨ st = ringFrozen then s.bump (R.MEM_TRIG_LOST_LO r)
  else s

/-- A trigger source (bit `b` of SRC) of ring `r` occurs: where enabled, the ring is triggered, and with it each
ring of its GROUP that takes group triggers, with the same T (R435). -/
def State.ringTrigger (s : State) (r b : Nat) : State :=
  if bit (s.g (R.MEM_RING_TRIG.SRC r)) b then
    let T := s.ringNow r
    let was := s.g (R.MEM_RING_STS.STATE r)
    let s1 := s.ringMeet r T
    if was = ringRun then
      s1.each ((List.range 64).filter (fun q =>
          q != r && s.g (R.MEM_RING_TRIG.GROUP q) == s.g (R.MEM_RING_TRIG.GROUP r) && bit (s.g (R.MEM_RING_TRIG.SRC q)) 6))
        (fun q t => t.ringMeet q T)
    else s1
  else s

/-- Class of a fault source (R444); the class of a source that no rule lists is the implementation's. -/
def faultClass (n : Nat) : Nat :=
  if n ∈ [0, 4, 86, 201, 226, 312] then 3
  else if n ∈ [68, 69, 70, 71, 85, 200, 313] then 2
  else if n ∈ [87, 296] then 0
  else if n ∈ [1, 2, 3, 16, 64, 65, 66, 67, 80, 81, 82, 83, 84, 88, 208, 209, 224, 225, 227, 228, 297, 304] ∨
      (32 ≤ n ∧ n ≤ 61) ∨ (192 ≤ n ∧ n ≤ 199) then 1
  else (Config.unlistedClass n).toNat

/-- The class event of FLT_EVT (R443). -/
def classEvent : Nat → Loc
  | 0 => R.FLT_EVT.CORRECTED
  | 1 => R.FLT_EVT.ERROR
  | 2 => R.FLT_EVT.REDUCED
  | _ => R.FLT_EVT.FATAL

/-- ACT of the fatal path; 3 acts as 2 (FLT_FATAL_CFG). -/
def State.fatalAct (s : State) : Nat := min (s.g R.FLT_FATAL_CFG.ACT) 2

/-- Capture of an occurrence in its source's record (R445). -/
def State.capture (s : State) (n : Nat) (info : Word) : State :=
  let now := s.sofCtr
  let last := ((s.wr (R.FLT_LAST_INFO n) info).wr64 (R.FLT_LAST_TS_LO n) now)
  let s1 :=
    if s.on (R.FLT_SRC_STS.INSVC n) then last.sat (R.FLT_SRC_STS.OVF n)
    else
      ((((last.wr (R.FLT_FIRST_INFO n) info).wr64 (R.FLT_FIRST_TS_LO n) now).p (R.FLT_SRC_STS.OVF n) 0).p
        (R.FLT_SRC_STS.INSVC n) 1).p R.FLT_STS.INSVC_N (s.g R.FLT_STS.INSVC_N + 1)
  let c := faultClass n
  let quiet := s.on (R.FLT_SRC_STS.INSVC n) || (s.on (R.FLT_SRC_CFG.MASK n) && c != 3)
  let s2 := if quiet then s1 else s1.ev (classEvent c)
  s2.bump (R.FLT_CLASS_CNT_LO c)

/-- The fatal path (R447, R448): the first FATAL occurrence writes FATAL and the fatal record, triggers the
recorder, holds forwarding with ACT HOLD or RESTART, and asks for the dump; a later one only counts. FATAL_OVF counts
from zero for each path. -/
def State.fatalPath (s : State) (n : Nat) (info : Word) : State :=
  if s.flt.path then s.sat R.FLT_STS.FATAL_OVF
  else
    let s1 := ((((s.p R.FLT_STS.FATAL 1).p R.FLT_STS.FATAL_OVF 0).wr R.FLT_FATAL_SRC (W n)).wr R.FLT_FATAL_INFO info).bump R.FLT_FATAL_LO
    let s2 := s1.each (List.range 64) (fun r t => t.ringTrigger r 5)
    let hold := s.fatalAct != 0
    let s3 := { s2 with
      flt := { s2.flt with path := true, held := hold, dumpWanted := true, dumpSrc := n, dumpInfo := info.toNat } }
    if s.fatalAct = 1 then s3.p R.FLT_STS.HOLD 1 else s3

/-- A fault source occurs (R445-R448). While a save runs nothing is recorded of later occurrences' counters beyond
what the aggregator captures. -/
def State.fault (s : State) (n : Nat) (info : Word) : State :=
  let s1 := s.capture n info
  if faultClass n = 3 then s1.fatalPath n info else s1

/-- Whether forwarding is held by the fatal path (R448, R449). -/
def State.held (s : State) : Bool := s.flt.held

/-- INFO of an occurrence: unit, instance, detail (R444). -/
def faultInfo (unit inst detail : Nat) : Word := W ((unit % 16) * 2 ^ 28 + (inst % 4096) * 2 ^ 16 + detail % 65536)

/-- A bit of FLT_DEGR: DEGRADED is asserted while any is 1 (R461). -/
def State.degrade (s : State) (l : Loc) (b : Bool) : State := s.pb l b

/-- The DEGRADED pin (R461). -/
def State.degraded (s : State) : Bool := s.rd R.FLT_DEGR != 0

end Sys2Proof.Machine
end

