-- ==== Sys2Proof/Machine/Shim.lean ====
section
/-! DEFINITION. Shim's in-service repairs: repair records in the keep-alive store, reduced units (18, R458-R461). -/

namespace Sys2Proof.Machine

/-- Kinds of a repair record (R458). -/
abbrev repRow : Nat := 1
abbrev repColumn : Nat := 2
abbrev repCore : Nat := 3
abbrev repPly : Nat := 4

/-- A repair is in force from now on. -/
def State.inForce (s : State) (r : Repair) : State := if s.shim.contains r then s else { s with shim := s.shim ++ [r] }

/-- A repair is made: in force, counted, and its two-word record written; with 512 records held it is not stored and acts for
this start only (R458). -/
def State.shimRepair (s : State) (kind region index failed spare : Nat) : State :=
  let s0 := s.inForce ⟨kind, region % 256, index % 65536, failed % 65536, spare % 65536⟩
  let s1 := (s0.bump R.REP_REPAIR_LO).ev R.REP_EVT.REPAIR
  let n := s.g R.REP_REC_N.N
  if n < 512 then
    ((s1.wr (R.REP_REC_W0 n) (W (kind * 2 ^ 28 + (region % 256) * 2 ^ 16 + index % 65536))).wr (R.REP_REC_W1 n)
      (W ((failed % 65536) * 2 ^ 16 + spare % 65536))).p R.REP_REC_N.N (n + 1)
  else (s1.bump R.REP_REC_FULL_LO).ev R.REP_EVT.REC_FULL

/-- Takes the records that name a core or ply out of the store (R299, R168: a retest passes), closing the gap. -/
def State.dropRecords (s : State) (kind index failed : Nat) : State :=
  let n := s.g R.REP_REC_N.N
  let all := (List.range n).map (fun k => (s.rd (R.REP_REC_W0 k), s.rd (R.REP_REC_W1 k)))
  let left := all.filter (fun r => !(fieldOf r.1 28 4 == kind && fieldOf r.1 0 16 == index && fieldOf r.2 16 16 == failed))
  let s1 := s.each (List.range n) (fun k t => (t.wr (R.REP_REC_W0 k) 0).wr (R.REP_REC_W1 k) 0)
  let s2 := s1.each left.zipIdx (fun r t => (t.wr (R.REP_REC_W0 r.2) r.1.1).wr (R.REP_REC_W1 r.2) r.1.2)
  { s2.p R.REP_REC_N.N left.length with
    shim := s.shim.filter (fun (r : Repair) => !(r.kind == kind && r.index == index && r.failed == failed)) }

/-- A unit needed a spare and had none: it is reduced (R460). -/
def State.shimReduced (s : State) : State := s.ev R.REP_EVT.EXH

end Sys2Proof.Machine
end

