-- ==== Sys2Proof/Machine/Cipher.lean ====
section
/-! DEFINITION. The algorithms the spec names by their standards: AES of FIPS 197, SHA-2 of FIPS 180-4, GHASH of
SP 800-38D, ECDSA over P-256 of FIPS 186-5 (3, R65; 11, R284; 12, R333; log 6). -/

namespace Sys2Proof.Machine

/-! ### AES (FIPS 197) -/

/-- The S-box. -/
def sboxTab : List Nat :=
  [99, 124, 119, 123, 242, 107, 111, 197, 48, 1, 103, 43, 254, 215, 171, 118, 202, 130, 201, 125, 250, 89, 71, 240, 173, 212, 162, 175, 156, 164, 114, 192] ++
  [183, 253, 147, 38, 54, 63, 247, 204, 52, 165, 229, 241, 113, 216, 49, 21, 4, 199, 35, 195, 24, 150, 5, 154, 7, 18, 128, 226, 235, 39, 178, 117] ++
  [9, 131, 44, 26, 27, 110, 90, 160, 82, 59, 214, 179, 41, 227, 47, 132, 83, 209, 0, 237, 32, 252, 177, 91, 106, 203, 190, 57, 74, 76, 88, 207] ++
  [208, 239, 170, 251, 67, 77, 51, 133, 69, 249, 2, 127, 80, 60, 159, 168, 81, 163, 64, 143, 146, 157, 56, 245, 188, 182, 218, 33, 16, 255, 243, 210] ++
  [205, 12, 19, 236, 95, 151, 68, 23, 196, 167, 126, 61, 100, 93, 25, 115, 96, 129, 79, 220, 34, 42, 144, 136, 70, 238, 184, 20, 222, 94, 11, 219] ++
  [224, 50, 58, 10, 73, 6, 36, 92, 194, 211, 172, 98, 145, 149, 228, 121, 231, 200, 55, 109, 141, 213, 78, 169, 108, 86, 244, 234, 101, 122, 174, 8] ++
  [186, 120, 37, 46, 28, 166, 180, 198, 232, 221, 116, 31, 75, 189, 139, 138, 112, 62, 181, 102, 72, 3, 246, 14, 97, 53, 87, 185, 134, 193, 29, 158] ++
  [225, 248, 152, 17, 105, 217, 142, 148, 155, 30, 135, 233, 206, 85, 40, 223, 140, 161, 137, 13, 191, 230, 66, 104, 65, 153, 45, 15, 176, 84, 187, 22]

/-- The inverse S-box. -/
def isboxTab : List Nat :=
  [82, 9, 106, 213, 48, 54, 165, 56, 191, 64, 163, 158, 129, 243, 215, 251, 124, 227, 57, 130, 155, 47, 255, 135, 52, 142, 67, 68, 196, 222, 233, 203] ++
  [84, 123, 148, 50, 166, 194, 35, 61, 238, 76, 149, 11, 66, 250, 195, 78, 8, 46, 161, 102, 40, 217, 36, 178, 118, 91, 162, 73, 109, 139, 209, 37] ++
  [114, 248, 246, 100, 134, 104, 152, 22, 212, 164, 92, 204, 93, 101, 182, 146, 108, 112, 72, 80, 253, 237, 185, 218, 94, 21, 70, 87, 167, 141, 157, 132] ++
  [144, 216, 171, 0, 140, 188, 211, 10, 247, 228, 88, 5, 184, 179, 69, 6, 208, 44, 30, 143, 202, 63, 15, 2, 193, 175, 189, 3, 1, 19, 138, 107] ++
  [58, 145, 17, 65, 79, 103, 220, 234, 151, 242, 207, 206, 240, 180, 230, 115, 150, 172, 116, 34, 231, 173, 53, 133, 226, 249, 55, 232, 28, 117, 223, 110] ++
  [71, 241, 26, 113, 29, 41, 197, 137, 111, 183, 98, 14, 170, 24, 190, 27, 252, 86, 62, 75, 198, 210, 121, 32, 154, 219, 192, 254, 120, 205, 90, 244] ++
  [31, 221, 168, 51, 136, 7, 199, 49, 177, 18, 16, 89, 39, 128, 236, 95, 96, 81, 127, 169, 25, 181, 74, 13, 45, 229, 122, 159, 147, 201, 156, 239] ++
  [160, 224, 59, 77, 174, 42, 245, 176, 200, 235, 187, 60, 131, 83, 153, 97, 23, 43, 4, 126, 186, 119, 214, 38, 225, 105, 20, 99, 85, 33, 12, 125]

def sbox (x : Nat) : Nat := sboxTab.getD x 0
def isbox (x : Nat) : Nat := isboxTab.getD x 0

/-- Multiplication by x in GF(2^8). -/
def xtime (x : Nat) : Nat := if x < 128 then 2 * x else (2 * x) ^^^ 0x11B

/-- Multiplication in GF(2^8) by a constant below 16. -/
def gmul (c x : Nat) : Nat :=
  let x2 := xtime x
  let x4 := xtime x2
  let x8 := xtime x4
  (if bit c 0 then x else 0) ^^^ (if bit c 1 then x2 else 0) ^^^ (if bit c 2 then x4 else 0) ^^^ (if bit c 3 then x8 else 0)

/-- One column through a circulant matrix with first row `m`. -/
def mixCol (m c : List Nat) : List Nat :=
  (List.range 4).map (fun i => (List.range 4).foldl (fun acc j => acc ^^^ gmul (m.getD ((j + 4 - i) % 4) 0) (c.getD j 0)) 0)

/-- MixColumns, or its inverse, of a state of 16 bytes, column by column. -/
def mixCols (m st : List Nat) : List Nat := (List.range 4).flatMap (fun k => mixCol m ((st.drop (4 * k)).take 4))

/-- ShiftRows by `r` columns a row: 1 forward, 3 inverse. -/
def shiftRows (r : Nat) (st : List Nat) : List Nat := (List.range 16).map (fun k => st.getD ((4 * (k / 4 + r * (k % 4)) + k % 4) % 16) 0)

def xorNats (a b : List Nat) : List Nat := List.zipWith (fun x y => x ^^^ y) a b

/-- The key schedule: words of four bytes, latest first; `n` more from word `i` on, `nk` words of key. -/
def expandKey (nk : Nat) : Nat → Nat → Nat → List (List Nat) → List (List Nat)
  | 0, _, _, ws => ws
  | n + 1, i, rcon, ws =>
    let t := ws.headD []
    let r := if i % nk = 0 then
        (match (t.drop 1 ++ t.take 1).map sbox with | a :: l => (a ^^^ rcon) :: l | [] => [])
      else if 6 < nk ∧ i % nk = 4 then t.map sbox else t
    expandKey nk n (i + 1) (if i % nk = 0 then xtime rcon else rcon) (xorNats (ws.getD (nk - 1) []) r :: ws)

/-- The round keys of a key of 16 or 32 bytes, 16 bytes each, first round first. -/
def roundKeys (key : List Byte) : List (List Nat) :=
  let nk := if key.length = 32 then 8 else 4
  let k := (slice key 0 (4 * nk)).map (·.toNat)
  let first := ((List.range nk).map (fun i => (k.drop (4 * i)).take 4)).reverse
  let ws := (expandKey nk (4 * (nk + 7) - nk) nk 1 first).reverse
  (List.range (nk + 7)).map (fun r => ((ws.drop (4 * r)).take 4).flatten)

/-- The rounds of the cipher after the first key addition. -/
def encRounds : List (List Nat) → List Nat → List Nat
  | [], st => st
  | [k], st => xorNats (shiftRows 1 (st.map sbox)) k
  | k :: ks, st => encRounds ks (xorNats (mixCols [2, 3, 1, 1] (shiftRows 1 (st.map sbox))) k)

/-- The rounds of the inverse cipher after the first key addition. -/
def decRounds : List (List Nat) → List Nat → List Nat
  | [], st => st
  | [k], st => xorNats ((shiftRows 3 st).map isbox) k
  | k :: ks, st => decRounds ks (mixCols [14, 11, 13, 9] (xorNats ((shiftRows 3 st).map isbox) k))

/-- AES encryption of one block of 16 bytes under a key of 16 or 32 bytes. -/
def aesEnc (key b : List Byte) : List Byte :=
  match roundKeys key with
  | [] => b
  | k :: ks => (encRounds ks (xorNats ((slice b 0 16).map (·.toNat)) k)).map B8

/-- AES decryption of one block. -/
def aesDec (key b : List Byte) : List Byte :=
  match (roundKeys key).reverse with
  | [] => b
  | k :: ks => (decRounds ks (xorNats ((slice b 0 16).map (·.toNat)) k)).map B8

/-! ### SHA-2 (FIPS 180-4) -/

/-- The constants of SHA-512; those of SHA-256 are the upper halves of the first 64. -/
def shaK : List Nat :=
  [0x428a2f98d728ae22, 0x7137449123ef65cd, 0xb5c0fbcfec4d3b2f, 0xe9b5dba58189dbbc] ++
  [0x3956c25bf348b538, 0x59f111f1b605d019, 0x923f82a4af194f9b, 0xab1c5ed5da6d8118] ++
  [0xd807aa98a3030242, 0x12835b0145706fbe, 0x243185be4ee4b28c, 0x550c7dc3d5ffb4e2] ++
  [0x72be5d74f27b896f, 0x80deb1fe3b1696b1, 0x9bdc06a725c71235, 0xc19bf174cf692694] ++
  [0xe49b69c19ef14ad2, 0xefbe4786384f25e3, 0x0fc19dc68b8cd5b5, 0x240ca1cc77ac9c65] ++
  [0x2de92c6f592b0275, 0x4a7484aa6ea6e483, 0x5cb0a9dcbd41fbd4, 0x76f988da831153b5] ++
  [0x983e5152ee66dfab, 0xa831c66d2db43210, 0xb00327c898fb213f, 0xbf597fc7beef0ee4] ++
  [0xc6e00bf33da88fc2, 0xd5a79147930aa725, 0x06ca6351e003826f, 0x142929670a0e6e70] ++
  [0x27b70a8546d22ffc, 0x2e1b21385c26c926, 0x4d2c6dfc5ac42aed, 0x53380d139d95b3df] ++
  [0x650a73548baf63de, 0x766a0abb3c77b2a8, 0x81c2c92e47edaee6, 0x92722c851482353b] ++
  [0xa2bfe8a14cf10364, 0xa81a664bbc423001, 0xc24b8b70d0f89791, 0xc76c51a30654be30] ++
  [0xd192e819d6ef5218, 0xd69906245565a910, 0xf40e35855771202a, 0x106aa07032bbd1b8] ++
  [0x19a4c116b8d2d0c8, 0x1e376c085141ab53, 0x2748774cdf8eeb99, 0x34b0bcb5e19b48a8] ++
  [0x391c0cb3c5c95a63, 0x4ed8aa4ae3418acb, 0x5b9cca4f7763e373, 0x682e6ff3d6b2b8a3] ++
  [0x748f82ee5defb2fc, 0x78a5636f43172f60, 0x84c87814a1f0ab72, 0x8cc702081a6439ec] ++
  [0x90befffa23631e28, 0xa4506cebde82bde9, 0xbef9a3f7b2c67915, 0xc67178f2e372532b] ++
  [0xca273eceea26619c, 0xd186b8c721c0c207, 0xeada7dd6cde0eb1e, 0xf57d4f7fee6ed178] ++
  [0x06f067aa72176fba, 0x0a637dc5a2c898a6, 0x113f9804bef90dae, 0x1b710b35131c471b] ++
  [0x28db77f523047d84, 0x32caab7b40c72493, 0x3c9ebe0a15c9bebc, 0x431d67c49c100d4c] ++
  [0x4cc5d4becb3e42b6, 0x597f299cfc657e2a, 0x5fcb6fab3ad6faec, 0x6c44198c4a475817]

/-- Initial values of SHA-512; those of SHA-256 are their upper halves. -/
def sha512Iv : List Nat :=
  [0x6a09e667f3bcc908, 0xbb67ae8584caa73b, 0x3c6ef372fe94f82b, 0xa54ff53a5f1d36f1] ++
  [0x510e527fade682d1, 0x9b05688c2b3e6c1f, 0x1f83d9abfb41bd6b, 0x5be0cd19137e2179]

/-- Initial values of SHA-384. -/
def sha384Iv : List Nat :=
  [0xcbbb9d5dc1059ed8, 0x629a292a367cd507, 0x9159015a3070dd17, 0x152fecd8f70e5939] ++
  [0x67332667ffc00b31, 0x8eb44a8768581511, 0xdb0c2e0d64f98fa7, 0x47b5481dbefa4fa4]

/-- Rotation of a `w`-bit word to the right. -/
def rotr (w n x : Nat) : Nat := x / 2 ^ n + x % 2 ^ n * 2 ^ (w - n)

/-- A member of the family: word width, number of rounds, the rotations of its four sigma functions. -/
structure Sha where
  w : Nat
  rounds : Nat
  S0 : Nat × Nat × Nat
  S1 : Nat × Nat × Nat
  s0 : Nat × Nat × Nat
  s1 : Nat × Nat × Nat
  deriving DecidableEq, Repr

def shaSmall : Sha := ⟨32, 64, (2, 13, 22), (6, 11, 25), (7, 18, 3), (17, 19, 10)⟩
def shaLarge : Sha := ⟨64, 80, (28, 34, 39), (14, 18, 41), (1, 8, 7), (19, 61, 6)⟩

/-- The functions of the compression, and those of the message schedule. -/
def Sha.big (h : Sha) (r : Nat × Nat × Nat) (x : Nat) : Nat := rotr h.w r.1 x ^^^ rotr h.w r.2.1 x ^^^ rotr h.w r.2.2 x
def Sha.small (h : Sha) (r : Nat × Nat × Nat) (x : Nat) : Nat := rotr h.w r.1 x ^^^ rotr h.w r.2.1 x ^^^ (x / 2 ^ r.2.2)

/-- `n` more words of the message schedule, latest first. -/
def Sha.schedule (h : Sha) : Nat → List Nat → List Nat
  | 0, ws => ws
  | n + 1, ws =>
    let v := (h.small h.s1 (ws.getD 1 0) + ws.getD 6 0 + h.small h.s0 (ws.getD 14 0) + ws.getD 15 0) % 2 ^ h.w
    Sha.schedule h n (v :: ws)

/-- The working variables a to h. -/
structure ShaVars where
  a : Nat
  b : Nat
  c : Nat
  d : Nat
  e : Nat
  f : Nat
  g : Nat
  h : Nat
  deriving DecidableEq, Repr

def ShaVars.ofList (l : List Nat) : ShaVars :=
  ⟨l.getD 0 0, l.getD 1 0, l.getD 2 0, l.getD 3 0, l.getD 4 0, l.getD 5 0, l.getD 6 0, l.getD 7 0⟩
def ShaVars.toList (v : ShaVars) : List Nat := [v.a, v.b, v.c, v.d, v.e, v.f, v.g, v.h]

/-- One round. -/
def Sha.round (h : Sha) (v : ShaVars) (kw : Nat) : ShaVars :=
  let m := 2 ^ h.w
  let t1 := (v.h + h.big h.S1 v.e + ((v.e &&& v.f) ^^^ ((m - 1 - v.e) &&& v.g)) + kw) % m
  let t2 := (h.big h.S0 v.a + ((v.a &&& v.b) ^^^ (v.a &&& v.c) ^^^ (v.b &&& v.c))) % m
  ⟨(t1 + t2) % m, v.a, v.b, v.c, (v.d + t1) % m, v.e, v.f, v.g⟩

/-- One block: 16 words into the hash value. -/
def Sha.block (h : Sha) (hv : List Nat) (b : List Byte) : List Nat :=
  let n := h.w / 8
  let m := (List.range 16).map (fun i => beAt b (n * i) n)
  let ws := (h.schedule (h.rounds - 16) m.reverse).reverse
  let ks := (shaK.take h.rounds).map (fun k => k / 2 ^ (64 - h.w))
  let v := (List.zipWith (· + ·) ks ws).foldl h.round (ShaVars.ofList hv)
  List.zipWith (fun x y => (x + y) % 2 ^ h.w) hv v.toList

/-- The blocks of a padded message; `n` bounds them. -/
def Sha.blocks (h : Sha) : Nat → List Nat → List Byte → List Nat
  | 0, hv, _ => hv
  | n + 1, hv, l => if l.isEmpty then hv else Sha.blocks h n (h.block hv (l.take (2 * h.w))) (l.drop (2 * h.w))

/-- The digest: `out` bytes from initial values `iv`. -/
def Sha.digest (h : Sha) (iv : List Nat) (out : Nat) (m : List Byte) : List Byte :=
  let blk := 2 * h.w
  let lenBytes := h.w / 4
  let padded := m ++ [0x80] ++ List.replicate ((2 * blk - 1 - lenBytes - m.length % blk) % blk) 0 ++ beBytes lenBytes (8 * m.length)
  ((h.blocks (padded.length / blk + 1) iv padded).flatMap (beBytes (h.w / 8))).take out

def sha256 (m : List Byte) : List Byte := shaSmall.digest (sha512Iv.map (· / 2 ^ 32)) 32 m
def sha384 (m : List Byte) : List Byte := shaLarge.digest sha384Iv 48 m
def sha512 (m : List Byte) : List Byte := shaLarge.digest sha512Iv 64 m

/-! ### GHASH (SP 800-38D) -/

/-- Multiplication of two blocks: `n` bits of `x` left, from its highest, `v` the multiple of the other. -/
def gfMul : Nat → Nat → Nat → Nat → Nat
  | 0, _, _, z => z
  | n + 1, x, v, z =>
    gfMul n x (if v % 2 = 1 then (v / 2) ^^^ (0xE1 * 2 ^ 120) else v / 2) (if bit x n then z ^^^ v else z)

/-- GHASH of whole blocks under the hash subkey; `n` bounds them. -/
def ghashFrom (h : Nat) : Nat → Nat → List Byte → Nat
  | 0, y, _ => y
  | n + 1, y, l => if l.isEmpty then y else ghashFrom h n (gfMul 128 (y ^^^ beAt l 0 16) h 0) (l.drop 16)

/-- GHASH under the hash subkey `h`. -/
def ghash (h m : List Byte) : List Byte := beBytes 16 (ghashFrom (beNat h) (m.length / 16 + 1) 0 m)

/-! ### ECDSA over P-256 (FIPS 186-5) -/

/-- The field, the order, the coefficient b and the base point of P-256. -/
def p256P : Nat := 0xFFFFFFFF00000001000000000000000000000000FFFFFFFFFFFFFFFFFFFFFFFF
def p256N : Nat := 0xFFFFFFFF00000000FFFFFFFFFFFFFFFFBCE6FAADA7179E84F3B9CAC2FC632551
def p256B : Nat := 0x5AC635D8AA3A93E7B3EBBD55769886BC651D06B0CC53B0F63BCE3C3E27D2604B
def p256G : Nat × Nat :=
  (0x6B17D1F2E12C4247F8BCE6E563A440F277037D812DEB33A0F4A13945D898C296,
   0x4FE342E2FE1A7F9B8EE7EB4A7C0F9E162BCE33576B315ECECBB6406837BF51F5)

/-- `b` to the power `e` modulo `m`; `n` bounds the bits of `e`. -/
def powMod (m : Nat) : Nat → Nat → Nat → Nat
  | 0, _, _ => 1
  | n + 1, b, e => (if e % 2 = 1 then b else 1) * powMod m n (b * b % m) (e / 2) % m

/-- The inverse modulo a prime below 2^256. -/
def invMod (m x : Nat) : Nat := powMod m 256 (x % m) (m - 2)

/-- The sum of two points; none is the point at infinity. -/
def ecAdd (x y : Option (Nat × Nat)) : Option (Nat × Nat) :=
  match x, y with
  | none, q => q
  | q, none => q
  | some (x1, y1), some (x2, y2) =>
    if x1 = x2 ∧ (y1 + y2) % p256P = 0 then none
    else
      let l := if x1 = x2 then (3 * x1 * x1 + (p256P - 3)) * invMod p256P (2 * y1) % p256P
        else (y2 + p256P - y1) * invMod p256P (x2 + p256P - x1) % p256P
      let x3 := (l * l + 2 * p256P - x1 - x2) % p256P
      some (x3, (l * (x1 + p256P - x3) + p256P - y1) % p256P)

/-- A multiple of a point; `n` bounds the bits of `k`. -/
def ecMul : Nat → Nat → Option (Nat × Nat) → Option (Nat × Nat)
  | 0, _, _ => none
  | n + 1, k, q => ecAdd (if k % 2 = 1 then q else none) (ecMul n (k / 2) (ecAdd q q))

/-- A digest as a number: its leftmost 256 bits. -/
def digestNat (d : List Byte) : Nat := beNat (d.take 32)

/-- The public key x || y of a private key. -/
def ecdsaPub (key : List Byte) : List Byte :=
  match ecMul 256 (beNat key) (some p256G) with
  | some (x, y) => beBytes 32 x ++ beBytes 32 y
  | none => List.replicate 64 0

/-- Whether signature r || s of a digest holds under public key x || y. -/
def ecdsaOk (pub digest sig : List Byte) : Bool :=
  let x := beAt pub 0 32
  let y := beAt pub 32 32
  let r := beAt sig 0 32
  let t := beAt sig 32 32
  let onCurve := decide (x < p256P) && decide (y < p256P) && y * y % p256P == (x * x * x + (p256P - 3) * x + p256B) % p256P
  if !onCurve || r == 0 || t == 0 || decide (p256N ≤ r) || decide (p256N ≤ t) then false
  else
    let w := invMod p256N t
    match ecAdd (ecMul 256 (digestNat digest * w % p256N) (some p256G)) (ecMul 256 (r * w % p256N) (some (x, y))) with
    | some (vx, _) => vx % p256N == r
    | none => false

/-- The signature r || s of a digest with the per-message number `k`, between 1 and n - 1. -/
def ecdsaSign (key digest : List Byte) (k : Nat) : List Byte :=
  match ecMul 256 k (some p256G) with
  | some (x, _) =>
    let r := x % p256N
    beBytes 32 r ++ beBytes 32 (invMod p256N k * (digestNat digest + r * beNat key) % p256N)
  | none => List.replicate 64 0

end Sys2Proof.Machine
end

