-- ==== Sys2Proof/Machine/Mldsa.lean ====
section
/-! DEFINITION. Verification of ML-DSA-65 as FIPS 204 defines it, and the SHAKE functions of FIPS 202 that it uses (3, R65;
11, R284). -/

namespace Sys2Proof.Machine

/-! ### SHAKE (FIPS 202) -/

abbrev Lane := BitVec 64

/-- Offsets of the rho step, by lane 5 y + x. -/
def rhoOfs : List Nat :=
  [0, 1, 62, 28, 27, 36, 44, 6, 55, 20, 3, 10, 43, 25, 39, 41, 45, 15, 21, 8, 18, 2, 61, 56, 14]

/-- One step of the shift register of the iota step. -/
def rcStep (r : Nat) : Nat := if 128 ≤ r then (2 * r - 256) ^^^ 0x71 else 2 * r

/-- The state of that register after `t` steps; its bit 0 is rc(t). -/
def rcAt (t : Nat) : Nat := (List.range t).foldl (fun r _ => rcStep r) 1

/-- The constant of round `i`: bit 2^j - 1 is rc(j + 7 i). -/
def roundConst (i : Nat) : Lane :=
  BitVec.ofNat 64 (((List.range 7).map (fun j => if rcAt (j + 7 * i) % 2 = 1 then 2 ^ (2 ^ j - 1) else 0)).sum)

/-- One round of Keccak-p[1600]: theta, rho and pi, chi, iota. -/
def keccakRound (i : Nat) (a : List Lane) : List Lane :=
  let col := (List.range 5).map (fun x => (List.range 5).foldl (fun v y => v ^^^ a.getD (5 * y + x) 0) (0 : Lane))
  let d := (List.range 5).map (fun x => col.getD ((x + 4) % 5) 0 ^^^ (col.getD ((x + 1) % 5) 0).rotateLeft 1)
  let t := (List.range 25).map (fun k => (a.getD k 0 ^^^ d.getD (k % 5) 0).rotateLeft (rhoOfs.getD k 0))
  let b := (List.range 25).map (fun k => t.getD (5 * (k % 5) + (k % 5 + 3 * (k / 5)) % 5) 0)
  let c := (List.range 25).map (fun k =>
    b.getD k 0 ^^^ (~~~(b.getD (5 * (k / 5) + (k + 1) % 5) 0) &&& b.getD (5 * (k / 5) + (k + 2) % 5) 0))
  (c.headD 0 ^^^ roundConst i) :: c.drop 1

/-- The permutation: 24 rounds. -/
def keccak (a : List Lane) : List Lane := (List.range 24).foldl (fun x i => keccakRound i x) a

/-- Absorbs blocks of `rate` bytes; `n` bounds their number. -/
def absorb (rate : Nat) : Nat → List Byte → List Lane → List Lane
  | 0, _, st => st
  | n + 1, m, st =>
    if m.isEmpty then st
    else absorb rate n (m.drop rate) (keccak ((List.range 25).map (fun k =>
      st.getD k 0 ^^^ (if 8 * k < rate then BitVec.ofNat 64 (leAt m (8 * k) 8) else 0))))

/-- Squeezes `n` blocks of `rate` bytes. -/
def squeeze (rate : Nat) : Nat → List Lane → List Byte
  | 0, _ => []
  | n + 1, st => (st.take (rate / 8)).flatMap (fun v => leBytes 8 v.toNat) ++ squeeze rate n (keccak st)

/-- A message padded to a multiple of `rate` bytes: the domain bits and the padding of SHAKE. -/
def shakePad (rate : Nat) (m : List Byte) : List Byte :=
  let n := rate - m.length % rate
  m ++ (if n = 1 then [0x9F] else 0x1F :: (List.replicate (n - 2) 0 ++ [0x80]))

/-- `n` bytes of SHAKE with blocks of `rate` bytes: 168 for SHAKE128, 136 for SHAKE256. -/
def shake (rate : Nat) (m : List Byte) (n : Nat) : List Byte :=
  (squeeze rate (n / rate + 1) (absorb rate (m.length / rate + 1) (shakePad rate m) (List.replicate 25 0))).take n

/-- H of FIPS 204. -/
def shakeH (m : List Byte) (n : Nat) : List Byte := shake 136 m n

/-! ### Polynomials modulo q -/

/-- q, and the parameters of ML-DSA-65. -/
abbrev dsaQ : Nat := 8380417
abbrev dsaK : Nat := 6
abbrev dsaL : Nat := 5
abbrev dsaTau : Nat := 49
abbrev dsaGamma1 : Nat := 524288
abbrev dsaGamma2 : Nat := 261888
abbrev dsaOmega : Nat := 55
/-- Bytes of the commitment hash. -/
abbrev dsaHash : Nat := 48

/-- A polynomial: 256 coefficients modulo q, of powers rising. -/
abbrev Poly := List Nat

def addPoly (a b : Poly) : Poly := List.zipWith (fun x y => (x + y) % dsaQ) a b
def subPoly (a b : Poly) : Poly := List.zipWith (fun x y => (x + dsaQ - y) % dsaQ) a b
def mulPoints (a b : Poly) : Poly := List.zipWith (fun x y => x * y % dsaQ) a b
def scalePoly (c : Nat) (a : Poly) : Poly := a.map (fun x => c * x % dsaQ)
def zeroPoly : Poly := List.replicate 256 0

/-- `b` to the power `e` modulo q, by squaring; `n` bounds the bits of `e`. -/
def powQ : Nat → Nat → Nat → Nat
  | 0, _, _ => 1
  | n + 1, b, e => (if e % 2 = 1 then b else 1) * powQ n (b * b % dsaQ) (e / 2) % dsaQ

/-- The eight bits of a number in reverse order. -/
def rev8 (m : Nat) : Nat := (List.range 8).foldl (fun v k => 2 * v + m / 2 ^ k % 2) 0

/-- zetas[m]: a power of 1753; and its inverse. -/
def zetaOf (m : Nat) : Nat := powQ 10 1753 (rev8 m)
def zetaInv (m : Nat) : Nat := powQ 10 1753 (512 - rev8 m)

/-- NTT: node `m` of depth `n` splits its polynomial into halves. -/
def nttNode : Nat → Nat → Poly → Poly
  | 0, _, a => a
  | n + 1, m, a =>
    let lo := a.take (2 ^ n)
    let hi := scalePoly (zetaOf m) (a.drop (2 ^ n))
    nttNode n (2 * m) (addPoly lo hi) ++ nttNode n (2 * m + 1) (subPoly lo hi)
def ntt (a : Poly) : Poly := nttNode 8 1 a

/-- Its inverse but for the factor 256. -/
def invNode : Nat → Nat → Poly → Poly
  | 0, _, a => a
  | n + 1, m, a =>
    let lo := invNode n (2 * m) (a.take (2 ^ n))
    let hi := invNode n (2 * m + 1) (a.drop (2 ^ n))
    addPoly lo hi ++ scalePoly (zetaInv m) (subPoly lo hi)
def invNtt (a : Poly) : Poly := scalePoly 8347681 (invNode 8 1 a)

/-! ### Encodings -/

/-- `n` numbers of `w` bits each, packed with the least significant bit first. -/
def unpackBits (w n : Nat) (b : List Byte) : List Nat :=
  let v := leNat b
  (List.range n).map (fun k => v / 2 ^ (w * k) % 2 ^ w)
def packBits (w : Nat) (l : List Nat) : List Byte :=
  leBytes (w * l.length / 8) (l.foldr (fun x v => 2 ^ w * v + x) 0)

/-- The hint of one polynomial: positions `l` rise. -/
def rising : List Nat → Bool
  | a :: b :: t => decide (a < b) && rising (b :: t)
  | _ => true

/-- HintBitUnpack: the positions of the hints of each of `k` polynomials, the count before being `at0`; none where the
encoding is malformed. -/
def hintUnpack (y : List Nat) : Nat → Nat → Nat → Option (List (List Nat))
  | 0, _, at0 => if ((y.take dsaOmega).drop at0).all (· == 0) then some [] else none
  | k + 1, i, at0 =>
    let e := y.getD (dsaOmega + i) 0
    let l := (y.take e).drop at0
    if e < at0 ∨ dsaOmega < e ∨ !rising l then none
    else (hintUnpack y k (i + 1) e).map (fun r => l :: r)

/-! ### Sampling -/

/-- Coefficients below q out of three-byte groups, up to `n`. -/
def rejTriples : Nat → List Byte → Poly
  | 0, _ => []
  | f + 1, b0 :: b1 :: b2 :: t =>
    let z := (b2.toNat % 128) * 65536 + b1.toNat * 256 + b0.toNat
    if z < dsaQ then z :: rejTriples f t else rejTriples f t
  | _, _ => []

/-- RejNTTPoly. Appendix C of FIPS 204 lets it stop after 298 groups; 336 are drawn here. -/
def rejNtt (seed : List Byte) : Poly :=
  let l := rejTriples 336 (shake 168 seed 1008)
  l.take 256 ++ List.replicate (256 - l.length) 0

/-- SampleInBall's loop over `signs`: the position of each is the next byte that is not above `i`. -/
def ballFrom : List Bool → Nat → List Byte → Poly → Poly
  | [], _, _, c => c
  | g :: gs, i, st, c =>
    let rest := st.dropWhile (fun b => decide (i < b.toNat))
    let j := (rest.headD 0).toNat
    ballFrom gs (i + 1) (rest.drop 1) ((c.set i (c.getD j 0)).set j (if g then dsaQ - 1 else 1))

/-- SampleInBall. Appendix C of FIPS 204 lets it stop after 121 bytes; 264 are drawn here. -/
def sampleBall (seed : List Byte) : Poly :=
  let st := shakeH seed 272
  ballFrom ((unpackBits 1 64 (st.take 8)).take dsaTau |>.map (· == 1)) (256 - dsaTau) (st.drop 8) zeroPoly

/-! ### Verification -/

/-- UseHint on one coefficient. -/
def useHint (h : Bool) (r : Nat) : Nat :=
  let m := r % (2 * dsaGamma2)
  let up := decide (dsaGamma2 < m)
  let r1 := if up then (r - m) / (2 * dsaGamma2) + 1 else (r - m) / (2 * dsaGamma2)
  -- r1 is 16 where r less its remainder is q - 1: the high part is then 0 and the low part negative
  let pos := !up && m != 0
  if h then (if r1 = 16 then 15 else if pos then (r1 + 1) % 16 else (r1 + 15) % 16) else r1 % 16

/-- The largest absolute value of a coefficient is below `b`. -/
def normBelow (b : Nat) (a : Poly) : Bool := a.all (fun x => decide (x < b) || decide (dsaQ - b < x))

/-- ML-DSA.Verify of FIPS 204 for ML-DSA-65, with an empty context string: public key, message, signature. -/
def mldsaOk (pk msg sig : List Byte) : Bool :=
  let rho := slice pk 0 32
  let t1 := (List.range dsaK).map (fun i => unpackBits 10 256 (slice pk (32 + 320 * i) 320))
  let ch := slice sig 0 dsaHash
  let z := (List.range dsaL).map (fun i =>
    (unpackBits 20 256 (slice sig (dsaHash + 640 * i) 640)).map (fun v => (dsaGamma1 + dsaQ - v) % dsaQ))
  match hintUnpack ((slice sig (dsaHash + 3200) 61).map BitVec.toNat) dsaK 0 0 with
  | none => false
  | some hs =>
    let mu := shakeH (shakeH pk 64 ++ [0, 0] ++ msg) 64
    let c := ntt (sampleBall ch)
    let zh := z.map ntt
    let w1 := (List.range dsaK).map (fun r =>
      let az := zh.zipIdx.foldl (fun acc p => addPoly acc (mulPoints (rejNtt (rho ++ [B8 p.2, B8 r])) p.1)) zeroPoly
      let ct := mulPoints c (ntt (scalePoly 8192 (t1.getD r zeroPoly)))
      (invNtt (subPoly az ct)).zipIdx.map (fun p => useHint ((hs.getD r []).contains p.2) p.1))
    z.all (normBelow (dsaGamma1 - 196)) && shakeH (mu ++ w1.flatMap (packBits 4)) dsaHash == ch

end Sys2Proof.Machine
end

