-- ==== Sys2Proof/Machine/Crypto.lean ====
section
/-! DEFINITION. Modes of operation over the AES block: CMAC, the KDF of R306, ECB to GCM, KW and KWP (11, R284; 12,
R306). -/

namespace Sys2Proof.Machine

/-- Exclusive or of two byte strings, to the length of the first. -/
def xorBytes : List Byte → List Byte → List Byte
  | a :: s, b :: t => (a ^^^ b) :: xorBytes s t
  | s, [] => s
  | [], _ => []

def zero16 : List Byte := List.replicate 16 0

/-- Blocks of `k` bytes; the last may be shorter. `n` bounds their number. -/
def chunksOf (k : Nat) : Nat → List Byte → List (List Byte)
  | 0, _ => []
  | n + 1, l => if l.isEmpty then [] else l.take k :: chunksOf k n (l.drop k)

def blocks16 (l : List Byte) : List (List Byte) := chunksOf 16 (l.length / 16 + 1) l

/-- Doubling in GF(2^128) of SP 800-38B. -/
def dbl (b : List Byte) : List Byte :=
  let v := 2 * beNat b
  if v < 2 ^ 128 then beBytes 16 v else beBytes 16 ((v % 2 ^ 128) ^^^ 0x87)

/-- CBC-MAC of whole blocks. -/
def cbcMac (key : List Byte) (bs : List (List Byte)) : List Byte :=
  bs.foldl (fun x b => aesEnc key (xorBytes x b)) zero16

/-- CMAC of SP 800-38B, 16 bytes. -/
def cmac (key msg : List Byte) : List Byte :=
  let k1 := dbl (aesEnc key zero16)
  let n := (msg.length - 1) / 16
  let tail := msg.drop (16 * n)
  let last := if tail.length = 16 then xorBytes tail k1
    else xorBytes (slice (tail ++ [0x80]) 0 16) (dbl k1)
  cbcMac key (blocks16 (msg.take (16 * n)) ++ [last])

/-- KDF(K, LABEL, CONTEXT, L) of R306, L in bits. -/
def kdf (key label ctx : List Byte) (bits : Nat) : List Byte :=
  (((List.range ((bits + 127) / 128)).flatMap (fun i =>
    cmac key ([B8 (i + 1)] ++ slice label 0 16 ++ [0] ++ slice ctx 0 16 ++ beBytes 2 bits)))).take (bits / 8)

/-- A label: ASCII padded with zero bytes to 16 (R307). -/
def label16 (t : String) : List Byte := slice (t.toList.map (fun c => B8 c.toNat)) 0 16

/-- KCV of a key (R309): leftmost 8 bytes of CMAC over 16 zero bytes, as a big-endian integer. -/
def kcvOf (key : List Byte) : Nat := beNat ((cmac key zero16).take 8)

/-! ### Confidentiality modes -/

def ecbEnc (key m : List Byte) : List Byte := (blocks16 m).flatMap (aesEnc key)
def ecbDec (key m : List Byte) : List Byte := (blocks16 m).flatMap (aesDec key)

def cbcEnc (key : List Byte) : List Byte → List (List Byte) → List Byte
  | _, [] => []
  | iv, b :: t => let c := aesEnc key (xorBytes b iv); c ++ cbcEnc key c t
def cbcDec (key : List Byte) : List Byte → List (List Byte) → List Byte
  | _, [] => []
  | iv, c :: t => xorBytes (aesDec key c) iv ++ cbcDec key c t
def cfbEnc (key : List Byte) : List Byte → List (List Byte) → List Byte
  | _, [] => []
  | iv, b :: t => let c := xorBytes b (aesEnc key iv); c ++ cfbEnc key c t
def cfbDec (key : List Byte) : List Byte → List (List Byte) → List Byte
  | _, [] => []
  | iv, c :: t => xorBytes c (aesEnc key iv) ++ cfbDec key c t
def ofb (key : List Byte) : List Byte → List (List Byte) → List Byte
  | _, [] => []
  | iv, b :: t => let o := aesEnc key iv; xorBytes b o ++ ofb key o t

/-- The next counter block: the rightmost `w` bits count (R290). -/
def ctrNext (w : Nat) (c : List Byte) : List Byte :=
  let v := beNat c
  beBytes 16 (v / 2 ^ w * 2 ^ w + (v + 1) % 2 ^ w)
def ctr (key : List Byte) (w : Nat) : List Byte → List (List Byte) → List Byte
  | _, [] => []
  | c, b :: t => xorBytes b (aesEnc key c) ++ ctr key w (ctrNext w c) t

/-- Zero padding to a multiple of 16 bytes. -/
def pad16 (m : List Byte) : List Byte := m ++ List.replicate ((16 - m.length % 16) % 16) 0

/-- The tag of AES-GCM with a 96-bit IV (SP 800-38D). -/
def gcmTag (key iv aad ct : List Byte) : List Byte :=
  let h := aesEnc key zero16
  let s := ghash h (pad16 aad ++ pad16 ct ++ beBytes 8 (8 * aad.length) ++ beBytes 8 (8 * ct.length))
  xorBytes s (aesEnc key (iv.take 12 ++ [0, 0, 0, 1]))
/-- Encryption and decryption of AES-GCM alike. -/
def gcmCrypt (key iv m : List Byte) : List Byte := ctr key 32 (iv.take 12 ++ [0, 0, 0, 2]) (blocks16 m)

/-! ### Key wrapping (SP 800-38F) -/

/-- The wrapping function W: `n` steps from step `t` on, over the integrity value and the semiblocks in turn. -/
def wrapSteps (key : List Byte) : Nat → Nat → List Byte → List (List Byte) → List Byte × List (List Byte)
  | 0, _, a, r => (a, r)
  | _, _, a, [] => (a, [])
  | n + 1, t, a, x :: r =>
    let b := aesEnc key (a ++ x)
    wrapSteps key n (t + 1) (xorBytes (b.take 8) (beBytes 8 t)) (r ++ [b.drop 8])
/-- Its inverse: `n` steps, from step `n` down. -/
def unwrapSteps (key : List Byte) : Nat → List Byte → List (List Byte) → List Byte × List (List Byte)
  | 0, a, r => (a, r)
  | n + 1, a, r =>
    match r.reverse with
    | [] => (a, [])
    | x :: rr =>
      let b := aesDec key (xorBytes a (beBytes 8 (n + 1)) ++ x)
      unwrapSteps key n (b.take 8) (b.drop 8 :: rr.reverse)

def semis (l : List Byte) : List (List Byte) := chunksOf 8 (l.length / 8 + 1) l

/-- W over an 8-byte integrity value and semiblocks. -/
def kwWrapIv (key iv m : List Byte) : List Byte :=
  let r := semis m
  let (a, out) := wrapSteps key (6 * r.length) 1 iv r
  a ++ out.flatten
/-- Its inverse: the integrity value and the data. -/
def kwUnwrapIv (key c : List Byte) : List Byte × List Byte :=
  let r := (semis c).drop 1
  let (a, out) := unwrapSteps key (6 * r.length) (c.take 8) r
  (a, out.flatten)

def kwIv : List Byte := List.replicate 8 0xA6
/-- KW wrap and unwrap; none where the integrity check fails. -/
def kwWrap (key m : List Byte) : List Byte := kwWrapIv key kwIv m
def kwUnwrap (key c : List Byte) : Option (List Byte) :=
  let (a, m) := kwUnwrapIv key c
  if a = kwIv then some m else none

/-- KWP wrap: 0xA65959A6 and the length, padding to a multiple of 8; one block where there is one semiblock. -/
def kwpWrap (key m : List Byte) : List Byte :=
  let iv := [0xA6, 0x59, 0x59, 0xA6] ++ beBytes 4 m.length
  let p := m ++ List.replicate ((8 - m.length % 8) % 8) 0
  if p.length ≤ 8 then aesEnc key (iv ++ p) else kwWrapIv key iv p
/-- KWP unwrap; none where the integrity check fails. -/
def kwpUnwrap (key c : List Byte) : Option (List Byte) :=
  let (a, m) := if c.length ≤ 16 then (let b := aesDec key c; (b.take 8, b.drop 8)) else kwUnwrapIv key c
  let n := beAt a 4 4
  if a.take 4 = [0xA6, 0x59, 0x59, 0xA6] ∧ n ≤ m.length ∧ m.length < n + 8 ∧ (m.drop n).all (· == 0) then some (m.take n) else none

end Sys2Proof.Machine
end

