-- ==== Sys2Proof/Machine/Queue.lean ====
section
/-! DEFINITION. Message queues: pointers, watermarks, entries, commit and drop (16, R407-R417), and the
availability of a queue's or a load channel's software side (13, R354). -/

namespace Sys2Proof.Machine

/-- Words of a queue ring (R407). -/
abbrev queWords : Nat := 16384

/-- The idle word (R407). -/
abbrev idleWord : Word := 0x1D1EF1F0

/-- Whether requester `n` is unavailable in the sense of R354: HOST while detached, MGT0-MGT3 under
management-cluster reset and until firmware runs again, CQP while the companion port is inactive (R422). -/
def State.unavailable (s : State) (n : Nat) : Bool :=
  if n = 0 then !s.on R.BRG_LINK.UP
  else if n ≤ 4 then !s.mgt.running
  else if n = 5 then !s.on R.CQP_CFG.EN || (s.cqp.inactive && s.g R.CQP_CFG.ALIVE_MS != 0)
  else false

/-- Word `i` (modulo the ring) of queue `q`. -/
def State.qWord (s : State) (q i : Nat) : Word := s.qmem.get (fun _ => 0) (queWords * q + i % queWords)

/-- Stores word `i` (modulo the ring) of queue `q`. -/
def State.qStore (s : State) (q i : Nat) (w : Word) : State :=
  { s with qmem := s.qmem.set (fun _ => 0) (queWords * q + i % queWords) w }

/-- RD, WR and LEVEL of a queue (R407). -/
def State.qRd (s : State) (q : Nat) : Nat := s.g (R.QUE_RD.RD q)
def State.qWr (s : State) (q : Nat) : Nat := s.g (R.QUE_WR.WR q)
def State.qLevel (s : State) (q : Nat) : Nat := (s.qWr q + 32768 - s.qRd q) % 32768

/-- Whether LEVEL is at or below the level that clears WM: LO, or HI - 1 where LO is not below HI (R416). -/
def State.wmLow (s : State) (q : Nat) : Bool :=
  let lo := s.g (R.QUE_WM.LO q)
  let hi := s.g (R.QUE_WM.HI q)
  if lo < hi then decide (s.qLevel q ≤ lo) else decide (s.qLevel q + 1 ≤ hi)

/-- LEVEL and the watermark state follow the pointers (R407, R416). -/
def State.qTouch (s : State) (q : Nat) : State :=
  let s1 := s.p (R.QUE_STS.LEVEL q) (s.qLevel q)
  let wm := s.on (R.QUE_STS.WM q)
  if !wm && decide (s.g (R.QUE_WM.HI q) ≤ s.qLevel q) then (s1.p (R.QUE_STS.WM q) 1).ev (R.QUE_EVT.WM_SET q)
  else if wm && s.wmLow q then (s1.p (R.QUE_STS.WM q) 0).ev (R.QUE_EVT.WM_CLR q)
  else s1

/-- Moves RD. -/
def State.qSetRd (s : State) (q v : Nat) : State := (s.p (R.QUE_RD.RD q) v).qTouch q
/-- Moves WR. -/
def State.qSetWr (s : State) (q v : Nat) : State := (s.p (R.QUE_WR.WR q) v).qTouch q

/-- Stores words from position `i` on. -/
def State.qFill (s : State) (q i : Nat) : List Word → State
  | [] => s
  | w :: ws => State.qFill (s.qStore q i w) q (i + 1) ws

/-- The queue works in direction OUT / IN. -/
def State.qIsIn (s : State) (q : Nat) : Bool := s.on (R.QUE_CFG.DIR q)
def State.qEn (s : State) (q : Nat) : Bool := s.on (R.QUE_CFG.EN q)

/-- The queue takes nothing: disabled, halted, in an unrepairable row, or its OWNER unavailable (R412, R460). -/
def State.qClosed (s : State) (q : Nat) : Bool :=
  !s.qEn q || s.on (R.QUE_STS.HALT q) || s.worn.queues.contains q || s.unavailable (s.g (R.QUE_CFG.OWNER q))

/-- An entry needs more room than the queue has (R412). -/
def State.qFull (s : State) (q n : Nat) : Bool := decide (queWords - s.qLevel q < n)

/-- Commits a whole entry: its words from WR, then WR advances over it in one step (R412). -/
def State.qPush (s : State) (q : Nat) (entry : List Word) : State :=
  (((s.qFill q (s.qWr q) entry).qSetWr q (s.qWr q + entry.length)).bump (R.QUE_ENTRY_LO q)).ev (R.QUE_EVT.ENTRY q)

/-- What becomes of an entry offered to a queue (R412). -/
inductive Offer where
  | taken | noRoom | closed
  deriving DecidableEq, Repr

/-- The verdict on an entry of `n` words offered to queue `q` (R412). -/
def State.offer (s : State) (q n : Nat) : Offer :=
  if s.qFull q n then .noRoom else if s.qClosed q then .closed else .taken

/-- A producer offers an entry: it is committed whole, or dropped whole and counted (R412). -/
def State.qOffer (s : State) (q : Nat) (entry : List Word) : State :=
  match s.offer q entry.length with
  | .taken => s.qPush q entry
  | .noRoom => (s.bump (R.QUE_DROP_LO q)).ev (R.QUE_EVT.DROP q)
  | .closed => s.bump (R.QUE_OWNER_DROP_LO q)

/-- A length word (R408). -/
def lenWord (stat kind src len : Nat) : Word :=
  W (2 ^ 31 + (stat % 8) * 2 ^ 28 + (kind % 16) * 2 ^ 24 + (src % 256) * 2 ^ 16 + len % 65536)

/-- An Ethernet frame entry of an OUT queue: length word, three header words, the frame with its FCS (R408, R409). -/
def ethEntry (stat src cls reason flow tb stamp : Nat) (frame : List Byte) : List Word :=
  [lenWord stat 0 src frame.length,
   W ((cls % 8) * 2 ^ 29 + (reason % 4) * 2 ^ 27 + flow % 16384),
   W ((tb % 4) * 2 ^ 30 + tvNs stamp % 1000000000),
   tvW1 stamp] ++ toWords frame

/-- An event entry (R411). -/
def eventEntry (rose sum : Nat) : List Word := [lenWord 0 2 0 8, W rose, W sum]

/-- The port of a queue: HOST for Q0-Q31, MGT for Q32-Q63 (R113); 0 or 1 as QUE_PORT_DROP numbers them. -/
def quePort (q : Nat) : Nat := if q < 32 then 0 else 1

/-- An Ethernet frame is offered to queue `q` at port HOST or MGT: an IN queue refuses it, and a drop counts at
the port too (R412). -/
def State.qFrame (s : State) (q : Nat) (entry : List Word) : State :=
  if s.qIsIn q then (s.bump (R.QUE_OWNER_DROP_LO q)).bump (R.QUE_PORT_DROP_LO (quePort q))
  else
    match s.offer q entry.length with
    | .taken => s.qPush q entry
    | .noRoom => ((s.bump (R.QUE_DROP_LO q)).ev (R.QUE_EVT.DROP q)).bump (R.QUE_PORT_DROP_LO (quePort q))
    | .closed => (s.bump (R.QUE_OWNER_DROP_LO q)).bump (R.QUE_PORT_DROP_LO (quePort q))

/-- Words of the entry whose length word is `w` (R408). -/
def entryWords (w : Word) : Nat :=
  let h := match fieldOf w 24 4 with | 0 => 3 | 1 => 4 | _ => 0
  1 + h + (fieldOf w 0 16 + 3) / 4

/-- CQ_RDY: some OUT queue among Q48-Q55 has WM set, once the pins are released (R416). -/
def State.cqReleased (s : State) : Bool :=
  let st := s.g R.CFG_STS.STATE
  (st == 6 || st == 7) && s.on R.CQP_CFG.EN
def State.cqRdy (s : State) : Bool :=
  s.cqReleased && (List.range 8).any (fun k => !s.qIsIn (48 + k) && s.on (R.QUE_STS.WM (48 + k)))
/-- CQ_HOLD_N (R416). -/
def State.cqHoldN (s : State) : Bool :=
  s.cqReleased && !((List.range 8).any (fun k => s.qIsIn (48 + k) && s.on (R.QUE_STS.WM (48 + k))))

/-- The status byte (R419): CQ_RDY, HOLD, Q48 not empty, BUSY, LAST. -/
def State.cqpStatus (s : State) : Nat :=
  let busy := s.tenon.acc.any (fun (x : PwrAcc) => x.src == .cqp || x.src == .cqpPast)
  (if s.cqRdy then 128 else 0) + (if s.cqHoldN then 0 else 64) + (if s.qLevel 48 = 0 then 0 else 32) + (if busy then 16 else 0) +
    s.g R.CQP_STS.LAST

end Sys2Proof.Machine
end

