-- ==== Sys2Proof/Machine/Notify.lean ====
section
/-! DEFINITION. Event summary and its destinations: GLB_EVT_SUM, MSI-X, the companion event queue, interrupt lines
and FAULT_N (02, R49, R50; 15, R385, R386; 16, R411, R417; 18, R450; 19, R471). -/

namespace Sys2Proof.Machine

/-- An array of event registers: region, base, stride and count of the events, base, stride and instances per
register of the enables. -/
structure EvtRow where
  region : Nat
  base : Nat
  stride : Nat
  count : Nat
  en : Nat
  enStride : Nat
  per : Nat
  deriving DecidableEq, Repr

/-- The event registers of every region (R49, R50); STR_ALARM is enabled per bank (R201). -/
def evtRows : List EvtRow := [
  ⟨0, 0x104, 0, 1, 0x108, 0, 1⟩, ⟨0, 0x440, 0, 1, 0x444, 0, 1⟩, ⟨1, 0x100010, 0, 1, 0x100014, 0, 1⟩,
  ⟨2, 0x200080, 0, 1, 0x200084, 0, 1⟩, ⟨3, 0x400040, 0x4000, 24, 0x400044, 0x4000, 1⟩,
  ⟨4, 0x8000C0, 0, 1, 0x8000C4, 0, 1⟩, ⟨5, 0xC00020, 0, 1, 0xC00024, 0, 1⟩,
  ⟨6, 0x1000034, 0x80, 256, 0x1010004, 0x10, 64⟩, ⟨6, 0x1010000, 0, 1, 0x1010004, 0, 1⟩,
  ⟨7, 0x1400040, 0x10000, 16, 0x1400044, 0x10000, 1⟩, ⟨8, 0x1800010, 0, 1, 0x1800014, 0, 1⟩,
  ⟨9, 0x1A00048, 0x100, 4, 0x1A0004C, 0x100, 1⟩, ⟨9, 0x1A40000, 0, 1, 0x1A40004, 0, 1⟩,
  ⟨10, 0x1C00020, 0, 1, 0x1C00024, 0, 1⟩, ⟨11, 0x1D00020, 0, 1, 0x1D00024, 0, 1⟩,
  ⟨12, 0x1E00810, 0, 1, 0x1E00814, 0, 1⟩, ⟨12, 0x1E000A0, 0, 1, 0x1E000A4, 0, 1⟩,
  ⟨13, 0x2000010, 0, 1, 0x2000014, 0, 1⟩, ⟨14, 0x2100028, 0x40, 256, 0x210002C, 0x40, 1⟩,
  ⟨15, 0x220001C, 0x40, 64, 0x2200020, 0x40, 1⟩, ⟨16, 0x2400030, 0, 1, 0x2400034, 0, 1⟩,
  ⟨17, 0x2600014, 0, 1, 0x2600018, 0, 1⟩, ⟨18, 0x2800010, 0, 1, 0x2800014, 0, 1⟩]

/-- The instance of the row that offset `a` is, if any. -/
def EvtRow.inst (r : EvtRow) (a : Nat) : Option Nat :=
  if r.stride = 0 then (if a = r.base then some 0 else none)
  else if r.base ≤ a ∧ (a - r.base) % r.stride = 0 ∧ (a - r.base) / r.stride < r.count then some ((a - r.base) / r.stride)
  else none

/-- The region and the enable register of the event register at offset `a`; none where `a` is no event register. -/
def evtOf (a : Nat) : Option (Nat × Nat) :=
  evtRows.findSome? (fun r => (r.inst a).map (fun i => (r.region, r.en + r.enStride * (i / r.per))))

/-- Whether the event register at offset `a`, holding `v`, has a bit both set and enabled (R50). -/
def State.evtActive (s : State) (a : Nat) (v : Word) : Option Nat :=
  match evtOf a with
  | some (n, en) => if v &&& s.rd en = 0 then none else some n
  | none => none

/-- The regions with an event bit both set and enabled (R50). Event registers reset to zero, so those not listed
in the map are clear. -/
def State.activeRegions (s : State) : List Nat := s.regs.filterMap (fun p => s.evtActive p.1 p.2)

/-- GLB_EVT_SUM bit `n`: an event bit of region `n` is both set and enabled (R50). -/
def State.sumBit (s : State) (n : Nat) : Bool := s.activeRegions.contains n

/-- The mask with the bits below `n` that the list names. -/
def maskOf (n : Nat) (l : List Nat) : Nat := (List.range n).foldl (fun acc k => if l.contains k then acc + 2 ^ k else acc) 0

/-- GLB_EVT_SUM (R50). -/
def State.evtSum (s : State) : Nat := maskOf 19 s.activeRegions

/-- The bits of GLB_EVT_SUM that GLB_EVT_RT[d] passes (R50). -/
def State.passed (s : State) (d : Nat) : Nat := s.evtSum &&& s.g (R.GLB_EVT_RT.MASK d)

/-- The MSI-X vector of a queue or channel event register (R417): 32 + VEC where VEC_EN is set. -/
def State.vecOf (s : State) (a : Nat) : Option Nat :=
  if 0x220001C ≤ a ∧ a < 0x2201000 ∧ (a - 0x220001C) % 0x40 = 0 then
    let q := (a - 0x220001C) / 0x40
    if s.on (R.QUE_CFG.VEC_EN q) then some (32 + s.g (R.QUE_CFG.VEC q)) else none
  else if 0x2100028 ≤ a ∧ a < 0x2104000 ∧ (a - 0x2100028) % 0x40 = 0 then
    let c := (a - 0x2100028) / 0x40
    if s.on (R.DMA_CH_CFG.VEC_EN c) then some (32 + s.g (R.DMA_CH_CFG.VEC c)) else none
  else none

/-- The vectors whose source condition holds (R386, R417): 0-18 the passed summary bits, 32-63 those with an
enabled event mapped to them, 19-31 never. -/
def State.activeVecs (s : State) : List Nat :=
  bitsOf 19 (s.passed 0) ++
    s.regs.filterMap (fun p => if (s.evtActive p.1 p.2).isSome then s.vecOf p.1 else none)

/-- Sends the message of vector `v` as a posted write (R385). -/
def State.msixSend (s : State) (v : Nat) : State :=
  let addr := (s.rd (R.MSIX_TAB_W0 v)).toNat / 4 * 4 + 4294967296 * (s.rd (R.MSIX_TAB_W1 v)).toNat
  let s1 := s.bump R.BRG_MSIX_LO
  { s1 with brg := { s1.brg with tlps := s1.brg.tlps ++ [.msix v addr (s.rd (R.MSIX_TAB_W2 v))] } }

/-- A pending bit of the PBA. -/
def State.pba (s : State) (v : Nat) : Bool := bit (s.rd (R.MSIX_PBA (v / 32))).toNat (v % 32)
def State.setPba (s : State) (v : Nat) (b : Bool) : State :=
  s.wr (R.MSIX_PBA (v / 32)) (W (setBit (s.rd (R.MSIX_PBA (v / 32))).toNat (v % 32) b))

/-- Vector `v` is masked, by itself or with the function (R385). -/
def State.masked (s : State) (v : Nat) : Bool := bit (s.rd (R.MSIX_TAB_W3 v)).toNat 0 || s.on R.BRG_LINK.FMASK

/-- The source condition of vector `v` rises (R385): lost with MSI-X or bus mastering off, else pending where
masked, else sent. -/
def State.msixRaise (s : State) (v : Nat) : State :=
  if !s.on R.BRG_LINK.MSIX_EN || !s.on R.BRG_LINK.BME then s.bump R.BRG_MSIX_LOST_LO
  else if s.masked v then s.setPba v true
  else s.msixSend v

/-- The source condition of vector `v` falls: a pending bit held while masked clears (R385). -/
def State.msixFall (s : State) (v : Nat) : State := if s.pba v then s.setPba v false else s

/-- A vector is or has become unmasked: its message is sent if pending (R385). -/
def State.msixUnmask (s : State) (v : Nat) : State :=
  if s.pba v && !s.masked v && s.on R.BRG_LINK.MSIX_EN && s.on R.BRG_LINK.BME then (s.setPba v false).msixSend v else s

/-- The vectors that have a source. -/
def vectors : List Nat := List.range 19 ++ (List.range 32).map (fun k => 32 + k)

/-- The vectors whose conditions rose and fell between two sets reach MSI-X (R385, R386). -/
def State.msixNotify (s : State) (was now : List Nat) : State :=
  s.each vectors (fun v t =>
    match was.contains v, now.contains v with
    | false, true => t.msixRaise v
    | true, false => t.msixFall v
    | _, _ => t)

/-- The bits of `now` that were not in `was`. -/
def risen (was now : Nat) : Nat := now &&& ((2 ^ 19 - 1) ^^^ (was &&& (2 ^ 19 - 1)))

/-- Summary bits passed to the companion rose: one event entry (R411). Producers write into OUT queues (R412): one for an IN
queue is dropped (log 49). -/
def State.entryNotify (s : State) (rose : Nat) : State :=
  if rose = 0 then s
  else if s.qIsIn 48 then s.bump (R.QUE_OWNER_DROP_LO 48)
  else s.qOffer 48 (eventEntry rose s.evtSum)

/-- One round of notification: what changed of the summary and of the vectors from `s0` to `s` reaches MSI-X and
the companion event queue (R50, R386, R411, R417). -/
def State.notify (s0 s : State) : State :=
  (s.msixNotify s0.activeVecs s.activeVecs).entryNotify (risen (s0.passed 2) (s.passed 2))

/-- What a command leaves once its events have been passed on. An event entry can raise the summary bit of the queues in
its turn, and in a save a counter update that is not made raises that of GLB (R456), so there are three rounds; a fourth
could find nothing new. -/
def State.settle (s0 s1 : State) : State :=
  let s2 := State.notify s0 s1
  let s3 := State.notify s1 s2
  State.notify s2 s3

/-- FAULT_N: low while a passed summary bit is set or FLT_STS.FATAL is 1 (R450); high with the core rails off (R503). -/
def State.faultN (s : State) : Bool := !s.pins.pwrGood || (s.passed 3 == 0 && !s.on R.FLT_STS.FATAL)

/-- Interrupt lines 0-63 of the management cluster (R471): 0-18 the passed summary bits, 32-63 the vectors of
queues and channels, whether or not MSI-X is enabled. -/
def State.irqLines (s : State) : Nat :=
  s.passed 1 + maskOf 64 (s.activeVecs.filter (fun v => decide (32 ≤ v)))

/-- Of the TLPs sent, the model keeps those of the last command that sent any. -/
def State.keepTlps (s0 s : State) : State :=
  let l := s.brg.tlps.drop s0.brg.tlps.length
  if l.isEmpty then s else { s with brg := { s.brg with tlps := l } }

/-- Every step of PREPARE is complete (R366, R367): announcements sent, MDIO sleep phase run, buses silent. -/
def State.prepared (s : State) : Bool :=
  s.g R.PWR_SLP_STS.STATE == 1 && s.slp.ann.isEmpty && s.slp.mdio == 0 &&
    (s.g R.PWR_SLP_MASK.BUS &&& s.g R.PWR_SLP_STS.QUIET) == s.g R.PWR_SLP_MASK.BUS

/-- The sleep master enters READY once PREPARE is complete (R366). -/
def State.slpCheck (s : State) : State :=
  if s.prepared then ((s.p R.PWR_SLP_STS.STATE 2).p ⟨R.PWR_SLP_CMD, 30, 2⟩ 0).ev R.PWR_SLP_EVT.READY else s

/-- What a command leaves: its effect `s1` on `s0`, with the sleep master brought up to date and its events passed
on. -/
def State.passOn (s0 s1 : State) : State := State.keepTlps s0 (State.settle s0 s1.slpCheck)

/-- The outcome of a command. -/
def done (s0 s1 : State) : Host.Outcome State Fault Refusal := .next (State.passOn s0 s1)

end Sys2Proof.Machine
end

