-- ==== Sys2Proof/Machine/VaultBase.lean ====
section
/-! DEFINITION. Slots, usability, key resolution and nonce reservation of the vault (12, R305-R313, R327-R329). -/

namespace Sys2Proof.Machine

/-- States of a slot (KEY_SLOT_CFG.STATE). -/
abbrev slotEmpty : Nat := 0
abbrev slotValid : Nat := 1
abbrev slotInvalid : Nat := 2
abbrev slotOrphaned : Nat := 3
abbrev slotZeroed : Nat := 4

/-- Bits of USE (R311). -/
abbrev useHw : Nat := 0
abbrev useEnc : Nat := 1
abbrev useMac : Nat := 2
abbrev useKw : Nat := 3
abbrev useKek : Nat := 4
abbrev useKdk : Nat := 5

def State.slotState (s : State) (n : Nat) : Nat := s.g (R.KEY_SLOT_CFG.STATE n)
def State.slotUse (s : State) (n b : Nat) : Bool := bit (s.g (R.KEY_SLOT_CFG.USE n)) b
def State.slotGen (s : State) (n : Nat) : Nat := s.g (R.KEY_SLOT_GEN.GEN n)
def State.slotKey (s : State) (n : Nat) : List Byte := s.vault.keys.get (fun _ => []) n
/-- A slot takes a key, or loses its key: the shares are made with a random string of their own (R320; log 3). -/
def State.setKey (s : State) (n : Nat) (k : List Byte) : State :=
  { s with vault := { s.vault with keys := s.vault.keys.set (fun _ => []) n k,
                                   masks := if k.isEmpty then s.vault.masks.del n else s.vault.masks.put n s.freeCtr },
           freeCtr := if k.isEmpty then s.freeCtr else s.freeCtr + 1 }

/-- The random string of the shares of slot `n`, as long as its key (R320). -/
def State.slotMask (s : State) (n : Nat) : List Byte :=
  leBytes (s.slotKey n).length (Config.freeNat (s.vault.masks.get (fun _ => 0) n))

/-- The two shares the slot store holds of a key (R320): a random string, and the key masked with it. -/
def State.slotShares (s : State) (n : Nat) : List Byte × List Byte := (s.slotMask n, xorBytes (s.slotKey n) (s.slotMask n))

/-- The row of the slot store that holds the shares of slot `n`: a permutation derived from FS (R320; log 7). -/
def slotRow (n : Nat) : Nat := (Config.slotRows ⟨n % 4096, Nat.mod_lt n (by decide)⟩).val

/-- The shares are made anew with DRBG output, the keys as they are (R320). -/
def State.reshare (s : State) : State :=
  { s with vault := { s.vault with masks := s.vault.masks.zipIdx.map (fun p => (p.1.1, s.freeCtr + p.2)) },
           freeCtr := s.freeCtr + s.vault.masks.length }
def State.slotKcv (s : State) (n : Nat) : Nat := s.rd64 (R.KEY_SLOT_KCV_LO n)

/-- A slot is usable (R310), judged up `d` levels of the tree. -/
def State.usableTo (s : State) : Nat → Nat → Bool
  | 0, _ => false
  | d + 1, n =>
    s.slotState n == slotValid &&
      (s.on (R.KEY_SLOT_CFG.ROOTP n) ||
        (let p := s.g (R.KEY_SLOT_CFG.PARENT n)
         State.usableTo s d p && s.slotGen p == s.g (R.KEY_SLOT_GEN.PGEN n)))
def State.usable (s : State) (n : Nat) : Bool := s.usableTo 8 n

/-- A slot holds a key a stream context or CAN entry may use (R187, R311). -/
def State.hwKey (s : State) (n : Nat) : Bool := s.usable n && s.slotUse n useHw

/-- The slots that are not EMPTY. -/
def State.slots (s : State) : List Nat :=
  s.regs.filterMap (fun p =>
    if 0x1D10000 ≤ p.1 ∧ p.1 < 0x1D20000 ∧ (p.1 - 0x1D10000) % 16 = 0 ∧ fieldOf p.2 29 3 ≠ 0 then some ((p.1 - 0x1D10000) / 16)
    else none)

/-- The VALID slots below a set of slots, `d` generations deep (R312). -/
def State.descendants (s : State) : Nat → List Nat → List Nat
  | 0, _ => []
  | d + 1, l =>
    let kids := s.slots.filter (fun n =>
      s.slotState n == slotValid && !s.on (R.KEY_SLOT_CFG.ROOTP n) && l.contains (s.g (R.KEY_SLOT_CFG.PARENT n)))
    if kids.isEmpty then [] else kids ++ State.descendants s d kids

/-- A slot that is not VALID reads KCV zero (R309). -/
def State.setSlotState (s : State) (n v : Nat) : State :=
  let s1 := s.p (R.KEY_SLOT_CFG.STATE n) v
  if v = slotValid then s1 else s1.wr64 (R.KEY_SLOT_KCV_LO n) 0

/-- Every descendant of a slot reads ORPHANED from now on; the sweeper zeroes their material later (R312). -/
def State.orphan (s : State) (n : Nat) : State :=
  let l := (s.descendants 8 [n]).filter (· != n)
  let s1 := s.each l (fun k t => t.setSlotState k slotOrphaned)
  if l.isEmpty then s1 else ((s1.bumpBy R.KEY_ORPHAN_LO l.length).ev R.KEY_EVT.ORPHAN).p R.KEY_STS.SWEEP 1

/-- A slot is zeroed by itself, and its descendants are orphaned (R312, R313). -/
def State.zeroSlot (s : State) (n : Nat) : State := ((s.setKey n []).setSlotState n slotZeroed).orphan n

/-! ### Reservation records (R327-R330) -/

abbrev resNone : Nat := 0
abbrev resValid : Nat := 1
abbrev resLost : Nat := 2

def State.resState (s : State) (r : Nat) : Nat := s.g (R.KEY_RES_STS.STATE r)
def State.ceiling (s : State) (r : Nat) : Nat := s.rd64 (R.KEY_RES_LO r)
def State.resKcv (s : State) (r : Nat) : Nat := s.vault.resKcv.get (fun _ => 0) r
def State.setResKcv (s : State) (r k : Nat) : State :=
  { s with vault := { s.vault with resKcv := s.vault.resKcv.set (fun _ => 0) r k } }
/-- Base of the loss-epoch band, and its top, which no ceiling reaches (R329). -/
def State.bandBase (s : State) : Nat := s.vault.lossEpoch * 2 ^ 56
def State.bandTop (s : State) : Nat := (s.vault.lossEpoch + 1) * 2 ^ 56

/-- An advance of record `r` to ceiling `c` begins, unless the band forbids it (R328, R329). -/
def State.startAdvance (s : State) (r c : Nat) : State :=
  if s.bandTop ≤ c then s
  else { s with vault := { s.vault with adv := s.vault.adv.put r c } }.p (R.KEY_RES_STS.ADV r) 1

/-- A generator is enabled (R193, R328): the freshness it goes on from, with an advance begun; none where the record
is lost. -/
def State.reserve (s : State) (r written kcv : Nat) : State × Option Nat :=
  if s.resState r = resLost then (s, none)
  else
    let s1 :=
      if s.resState r = resNone ∨ s.resKcv r ≠ kcv then
        ((s.wr64 (R.KEY_RES_LO r) (max written s.bandBase)).p (R.KEY_RES_STS.STATE r) resValid).setResKcv r kcv
      else s
    let f := max written (s1.ceiling r)
    (s1.startAdvance r (f + 2 ^ 20), some f)

/-- A generator may not send freshness `f` now: its ceiling is being advanced past it, or the band is used up (R193,
R329). -/
def State.mustWait (s : State) (r f : Nat) : Bool := decide (s.ceiling r < f)

/-- Freshness `f` has been taken: at C - 2^19 the ceiling advances (R328). -/
def State.resUse (s : State) (r f : Nat) : State :=
  if s.ceiling r ≤ f + 2 ^ 19 ∧ !s.on (R.KEY_RES_STS.ADV r) then s.startAdvance r (s.ceiling r + 2 ^ 20) else s

/-- A ceiling write completes (R328). -/
def State.advanceDone (s : State) (r : Nat) : State :=
  match s.vault.adv.find? r with
  | none => s
  | some c =>
    let s1 := { s with vault := { s.vault with adv := s.vault.adv.del r } }
    ((s1.wr64 (R.KEY_RES_LO r) c).p (R.KEY_RES_STS.ADV r) 0).bump R.KEY_RES_ADV_LO

/-- HIGH of stream context or CAN entry `n` in the keep-alive store (R190). -/
def State.storedHigh (s : State) (n : Nat) : Nat := s.vault.high.get (fun _ => 0) n
def State.storeHigh (s : State) (n v : Nat) : State :=
  { s with vault := { s.vault with high := s.vault.high.set (fun _ => 0) n v } }

end Sys2Proof.Machine
end

