-- ==== Sys2Proof/Machine/GritBase.lean ====
section
/-! DEFINITION. Jobs, levels, cores and dispatch of the Grit pool (11, R282-R300). -/

namespace Sys2Proof.Machine

/-- States of a core (CRY_CORE.STATE). -/
abbrev coreSpare : Nat := 0
abbrev coreActive : Nat := 1
abbrev coreQuarantine : Nat := 2
abbrev coreRetired : Nat := 3

/-- DRBG states (CRY_DRBG_STS.STATE). -/
abbrev drbgInit : Nat := 0
abbrev drbgRun : Nat := 1
abbrev drbgNoReseed : Nat := 2
abbrev drbgFail : Nat := 3

/-- Numbers of the units beside the pool. -/
abbrev startUpUnit : Nat := 136
abbrev publicKeyUnit : Nat := 137
abbrev drbgUnit : Nat := 138

def State.coreState (s : State) (n : Nat) : Nat := s.g (R.CRY_CORE.STATE n)
def State.inSvc (s : State) : List Nat := (List.range 136).filter (fun n => s.coreState n == coreActive)
def State.idleCores (s : State) : List Nat := s.inSvc.filter (fun n => !s.on (R.CRY_CORE.BUSY n))

/-- CRY_POOL_STS follows the cores. -/
def State.poolSts (s : State) : State := (s.p R.CRY_POOL_STS.INSVC s.inSvc.length).p R.CRY_POOL_STS.IDLE s.idleCores.length

/-- Masks and random output are served (R296, R297). -/
def State.drbgServes (s : State) : Bool :=
  let st := s.g R.CRY_DRBG_STS.STATE
  st == drbgRun || st == drbgNoReseed

/-- Cores of the pool that find no fresh masks begin to wait for them; each wait counts once (R296). -/
def State.masksLate (s : State) (l : List Nat) : State :=
  let new := (List.range 136).filter (fun n => l.contains n && !s.grit.maskWait.contains n)
  if new.isEmpty then s
  else { s with grit := { s.grit with maskWait := s.grit.maskWait ++ new } }.bumpBy R.CRY_MASK_WAIT_LO new.length

/-- The masks of every core are in step again but those of `late` (R296). -/
def State.masksAt (s : State) (late : List Nat) : State :=
  if s.drbgServes then { s with grit := { s.grit with maskWait := s.grit.maskWait.filter late.contains } }.masksLate late else s

/-- The DRBG fails: no output, so that every core at work stops for masks; a level event, a fatal fault (R296, R297). -/
def State.drbgFails (s : State) : State :=
  (((s.p R.CRY_DRBG_STS.STATE drbgFail).masksLate (s.grit.running.map (·.1))).ev R.CRY_EVT.DRBG_FAIL).fault 201 (faultInfo 6 0 0)

/-- One generate request, and whether it is served: the 2^32nd since the last seed fails the DRBG instead (R297). -/
def State.drbgAsk (s : State) : State × Bool :=
  let n := s.grit.requests + 1
  if !s.drbgServes then (s, false)
  else if 4294967296 ≤ n then (s.drbgFails, false)
  else ({ s with grit := { s.grit with requests := n } }, true)

/-- `n` bytes of DRBG output: free bytes, no two alike in the model (R297; log 3); none where the DRBG does not serve. -/
def State.randomBytes (s : State) (n : Nat) : State × Option (List Byte) :=
  let r := s.drbgAsk
  if r.2 then ({ r.1 with freeCtr := s.freeCtr + n }, some ((List.range n).map (fun k => B8 (Config.freeNat (s.freeCtr + k)))))
  else (r.1, none)

/-- A job joins the tail of its level. -/
def State.enqueue (s : State) (j : Job) : State := { s with grit := { s.grit with waiting := s.grit.waiting ++ [j] } }
/-- A job joins the head of its level (R287, R298). -/
def State.requeue (s : State) (j : Job) : State := { s with grit := { s.grit with waiting := j :: s.grit.waiting } }

/-- A job does not run on core `n`: the core has aborted it (R298); or the first computation of its KCV is in that tile
(R309). -/
def State.coreBars (s : State) (j : Job) (n : Nat) : Bool :=
  j.avoid == some n || (j.user == .vaultKcv && s.grit.running.any (fun p => p.2.user == .vault && p.1 / 17 == n / 17))

/-- A job may start: one of a software queue only while EN is 1 and HALT is 0 (R289). -/
def State.queueLets (s : State) (j : Job) : Bool :=
  match j.user with
  | .soft q _ => j.started || (s.on (R.CRY_SJQ_CFG.EN q) && !s.on (R.CRY_SJQ_CI.HALT q))
  | _ => true

/-- The waiting jobs of the pool that may start: levels 4-6 only with more than 8 idle cores (R287). -/
def State.startable (s : State) : List Job :=
  let idle := s.idleCores
  s.grit.waiting.filter (fun j => j.unit == 0 && (decide (j.level ≤ 3) || decide (8 < idle.length)) && s.queueLets j &&
    idle.any (fun n => !s.coreBars j n))

/-- The software queue a job belongs to, in rotation order after the one served last. -/
def State.sjqTurn (s : State) (j : Job) : Nat :=
  match j.user with | .soft q _ => (q + 7 - s.grit.lastSjq) % 8 | _ => 0

/-- The oldest job of the highest level that has one; at level 6 a job between segments, then the software queues in rotation
(R286, R287). -/
def State.nextJob (s : State) : Option Job :=
  minBy (fun j : Job => 16 * j.level + (if j.level = 6 && !j.head then 1 + s.sjqTurn j else 0)) s.startable

/-- The lowest idle logical core of the next tile in rotation that has one, for job `j` (R287). -/
def State.nextCore (s : State) (j : Job) : Option Nat :=
  let idle := s.idleCores.filter (fun n => !s.coreBars j n)
  ((List.range 8).map (fun k => (s.grit.lastTile + 1 + k) % 8)).findSome? (fun t =>
    minBy (fun n => s.g (R.CRY_CORE.LOGICAL n)) (idle.filter (fun n => n / 17 == t)))

/-- The jobs at work: those on cores and units that do not wait for masks (R296). -/
def State.working (s : State) : Tab Job := s.grit.running.filter (fun p => !s.grit.maskWait.contains p.1)

/-- The job at work on a core or unit. -/
def State.jobOn (s : State) (n : Nat) : Option Job := if s.grit.maskWait.contains n then none else s.grit.running.find? n

/-- Puts a job on a core or unit. -/
def State.runJob (s : State) (n : Nat) (j : Job) : State :=
  let last := if n < 136 then n / 17 else s.grit.lastTile
  let q := match j.user with | .soft q _ => if j.head then s.grit.lastSjq else q | _ => s.grit.lastSjq
  let s1 := { s with grit := { s.grit with running := s.grit.running.put n j, lastTile := last, lastSjq := q } }
  if n < 136 then (s1.p (R.CRY_CORE.BUSY n) 1).poolSts else s1

/-- SPARE_EXH and DEGRADED follow the tiles (R300): a tile with a RETIRED core and no SPARE. -/
def State.tileShort (s : State) (t : Nat) : Bool :=
  let l := (List.range 17).map (fun k => s.coreState (17 * t + k))
  l.contains coreRetired && !l.contains coreSpare
def State.tileTouch (s : State) : State :=
  let short := (List.range 8).filter s.tileShort
  let s1 := if !short.isEmpty && !s.on R.FLT_DEGR.CIPHER then s.fault 200 (faultInfo 2 (short.headD 0) 0) else s
  let s2 := s1.degrade R.FLT_DEGR.CIPHER (!short.isEmpty)
  (if short.isEmpty then s2 else s2.ev R.CRY_EVT.SPARE_EXH).poolSts

/-- A core is RETIRED (R299): a repair record is written, and the tile's SPARE is tested and, if it passes, takes the
logical number. -/
def State.retireCore (s : State) (n : Nat) (sparePass : Bool) : State :=
  let t := n / 17
  let s1 := (s.p (R.CRY_CORE.STATE n) coreRetired).ev R.CRY_EVT.CORE_RETIRED
  match (List.range 17).find? (fun k => s.coreState (17 * t + k) == coreSpare) with
  | some k =>
    let m := 17 * t + k
    let s1 := s1.shimRepair repCore 10 t n m
    if sparePass then
      ((s1.p (R.CRY_CORE.STATE m) coreActive).p (R.CRY_CORE.LOGICAL m) (s.g (R.CRY_CORE.LOGICAL n))).tileTouch
    else ((s1.p (R.CRY_CORE.STATE m) coreRetired).ev R.CRY_EVT.CORE_RETIRED).tileTouch
  | none =>
    -- a record is written here too, whose spare number the spec does not give (log 33)
    (s1.used.shimRepair repCore 10 t n (s.freeNat % 65536)).tileTouch

/-- A core told to retire does so now (R299, R300), unless it is in QUARANTINE; else `s` as it is. -/
def State.retirePending (s : State) (n : Nat) : State :=
  match s.grit.retiring.find? n with
  | some pass =>
    if s.coreState n = coreActive then
      ({ s with grit := { s.grit with retiring := s.grit.retiring.del n } }.retireCore n pass).p ⟨R.CRY_CMD, 30, 2⟩ 0
    else s
  | none => s

/-- A core or unit is free again. -/
def State.freeCore (s : State) (n : Nat) : State :=
  let s1 := { s with grit := { s.grit with running := s.grit.running.del n, maskWait := s.grit.maskWait.erase n } }
  if n < 136 then ((s1.p (R.CRY_CORE.BUSY n) 0).poolSts).retirePending n else s1

/-- Jobs of the kind `p` are abandoned, waiting or in progress. -/
def State.dropJobs (s : State) (p : Job → Bool) : State :=
  let s1 := { s with grit := { s.grit with waiting := s.grit.waiting.filter (fun (j : Job) => !p j) } }
  s1.each ((s1.grit.running.filter (fun q => p q.2)).map (·.1)) (fun n t => t.freeCore n)

/-- A job ends, with any outcome (CRY_JOB). -/
def State.endJob (s : State) (n : Nat) (j : Job) : State := (s.freeCore n).bump (R.CRY_JOB_LO j.level)

/-- Blocks of a CMAC job over `n` bytes, its subkey block included (R283, R284). -/
def cmacBlocks (n : Nat) : Nat := max 1 ((n + 15) / 16) + 1

/-- Resolves the slot of a job at its start (R295). -/
def State.resolveKey (s : State) (j : Job) : Job := { j with key := s.slotKey j.slot, gen := s.slotGen j.slot, started := true }

end Sys2Proof.Machine
end

