-- ==== Sys2Proof/Machine/Mem.lean ====
section
/-! DEFINITION. DRAM: capacity, areas, poisoned lines, access by device address or offset (17, R427-R431; log 30). -/

namespace Sys2Proof.Machine

/-- Installed capacity in bytes (R427). -/
def capBytes : Nat := if Config.mb16 then 17179869184 else 8589934592

/-- A byte of DRAM; one that nothing has written since power was applied reads as zero (R440; log 30). -/
def State.dramByte (s : State) (a : Nat) : Byte := Tab.get (fun _ => (0 : Byte)) s.mem.dram a

/-- Stores a byte of DRAM. -/
def State.dramSet (s : State) (a : Nat) (b : Byte) : State :=
  { s with mem := { s.mem with dram := Tab.set (fun _ => (0 : Byte)) s.mem.dram a b } }

/-- The canonical form of DRAM: offsets strictly rising, no byte listed that an unlisted one reads as. -/
def Memory.wf (m : List Host.Cell) : Bool := Tab.wf (fun _ => (0 : Byte)) m

/-- Stores bytes from offset `a`. -/
def State.dramPut (s : State) (a : Nat) : List Byte → State
  | [] => s
  | b :: t => State.dramPut (s.dramSet a b) (a + 1) t

/-- `n` bytes from offset `a`. -/
def State.dramBytes (s : State) (a n : Nat) : List Byte := (List.range n).map (fun k => s.dramByte (a + k))

/-- Whether line `l` (offset / 64) is poisoned (R430). -/
def State.poisoned (s : State) (l : Nat) : Bool := s.mem.poison.get (fun _ => false) l

/-- Marks or unmarks a line. -/
def State.setPoison (s : State) (l : Nat) (b : Bool) : State :=
  { s with mem := { s.mem with poison := s.mem.poison.set (fun _ => false) l b } }

/-- The lines that `n` bytes from offset `a` touch. -/
def linesOf (a n : Nat) : List Nat := if n = 0 then [] else (List.range ((a + n - 1) / 64 - a / 64 + 1)).map (fun k => a / 64 + k)

/-- An area register's base and size in bytes (MEM_REC_AREA, MEM_EXP_AREA). -/
def State.areaOf (s : State) (base size : Loc) : Nat × Nat := (s.g base * 1048576, s.g size * 1048576)
def State.recArea (s : State) : Nat × Nat := s.areaOf R.MEM_REC_AREA.BASE_MIB R.MEM_REC_AREA.SIZE_MIB
def State.expArea (s : State) : Nat × Nat := s.areaOf R.MEM_EXP_AREA.BASE_MIB R.MEM_EXP_AREA.SIZE_MIB

/-- Offset of the dump area (R428). -/
def dumpBase : Nat := capBytes - 268435456

/-- An area is present and valid: not empty, and no part of it in the dump area or beyond C (R428). -/
def areaValid (ar : Nat × Nat) : Bool := decide (0 < ar.2) && decide (ar.1 + ar.2 ≤ dumpBase)

/-- Whether two ranges meet. -/
def overlap (a n b m : Nat) : Bool := decide (0 < n) && decide (0 < m) && decide (a < b + m) && decide (b < a + n)

/-- Whether a write of `n` bytes at offset `a` lies in an area that only the device writes (R428). -/
def State.protectedArea (s : State) (a n : Nat) : Bool :=
  overlap a n dumpBase 268435456 ||
    (let r := s.recArea; overlap a n r.1 r.2) || (let e := s.expArea; overlap a n e.1 e.2)

/-- An access lies beyond the installed capacity (R427). -/
def beyond (a n : Nat) : Bool := decide (capBytes < a + n)

/-- An error-log entry (R430). -/
def State.elog (s : State) (typ line : Nat) : State :=
  let n := s.g R.MEM_ELOG_PTR.NEXT
  (s.wr (R.MEM_ELOG n) (W ((typ % 4) * 2 ^ 30 + line % 2 ^ 28))).p R.MEM_ELOG_PTR.NEXT (n + 1)

/-- A ring in RUN or POST that holds a line found uncorrectable goes to ERROR (R431). -/
def State.ringHit (s : State) (line : Nat) : State :=
  s.each (List.range 64) (fun r t =>
    let st := t.g (R.MEM_RING_STS.STATE r)
    let g := t.ring r
    if (st = ringRun ∨ st = ringPost) ∧ overlap (line * 64) 64 g.base g.size then
      (t.p (R.MEM_RING_STS.STATE r) ringError).ev R.MEM_EVT.RING_ERR
    else t)

/-- A double-bit error poisons its line (R430, R431): counted, logged, reported, and a ring using it fails. -/
def State.dramUe (s : State) (line : Nat) : State :=
  (((((s.setPoison line true).bump R.MEM_UE_LO).ev R.MEM_EVT.UE).elog 2 line).fault 297 (faultInfo 7 0 line)).ringHit line

/-- A single-bit error is corrected in the data returned and written back (R430). -/
def State.dramCe (s : State) (line : Nat) : State :=
  ((((s.bump R.MEM_CE_LO).ev R.MEM_EVT.CE).elog 1 line).fault 296 (faultInfo 7 0 line))

/-- A read of DRAM: the bytes, or an error response beyond C or at a poisoned line (R427, R430). -/
def State.dramRead (s : State) (a n : Nat) : Option (List Byte) :=
  if beyond a n || (linesOf a n).any s.poisoned then none else some (s.dramBytes a n)

/-- A write may not land on a poisoned line unless it covers the line whole (R430). -/
def State.partialPoison (s : State) (a n : Nat) : Bool :=
  (linesOf a n).any (fun l => s.poisoned l && !(decide (a ≤ l * 64) && decide (l * 64 + 64 ≤ a + n)))

/-- The device's own write, past the area check: whole lines lose their poison (R428, R430). -/
def State.dramWriteOwn (s : State) (a : Nat) (bs : List Byte) : State :=
  ((linesOf a bs.length).foldl
    (fun t l => if t.poisoned l && decide (a ≤ l * 64) && decide (l * 64 + 64 ≤ a + bs.length) then t.setPoison l false else t)
    s).dramPut a bs

/-- A requester's write of DRAM: false with an error response, beyond C, in a protected area (counted), or on part
of a poisoned line (R427, R428, R430). -/
def State.dramWrite (s : State) (a : Nat) (bs : List Byte) : State × Bool :=
  if beyond a bs.length then (s, false)
  else if s.protectedArea a bs.length then ((s.bump R.MEM_REFUSED_LO).ev R.MEM_EVT.REFUSED, false)
  else if s.partialPoison a bs.length then (s, false)
  else (s.dramWriteOwn a bs, true)

/-- Device address of DRAM offset zero (R398). -/
abbrev dramBase : Nat := 0x1000000000

/-- Where a device address leads (R398). -/
inductive Target where
  | host (addr : Nat) | bar0 (off : Nat) | dram (off : Nat) | unmapped
  deriving DecidableEq, Repr

/-- The decoding of device addresses (R398). -/
def targetOf (a : Nat) : Target :=
  if 2 ^ 63 ≤ a then .host (a - 2 ^ 63)
  else if a < 0x4000000 then .bar0 a
  else if dramBase ≤ a ∧ a < dramBase + capBytes then .dram (a - dramBase)
  else .unmapped

end Sys2Proof.Machine
end

