-- ==== Sys2Proof/Machine/Access.lean ====
section
/-! DEFINITION. What every register write meets at its requester's port, and what every CMD register does (02, R41-R48;
03, R57). -/

namespace Sys2Proof.Machine

/-- Requester numbers (R35). -/
abbrev reqHost : Nat := 0
abbrev reqCqp : Nat := 5
abbrev reqCfg : Nat := 6
abbrev reqDma : Nat := 7

/-- The register-interface state of requester `r`. -/
def State.rq (s : State) (r : Nat) : Requester := s.reqs.get (fun _ => {}) r

/-- Changes the register-interface state of requester `r`. -/
def State.modRq (s : State) (r : Nat) (f : Requester → Requester) : State :=
  { s with reqs := s.reqs.set (fun _ => {}) r (f (s.rq r)) }

/-- The response to the last access of requester `r` (R35). -/
def State.respond (s : State) (r : Nat) (err : Bool) (data : Word) : State := s.modRq r (fun q => { q with resp := { err := err, data := data } })

/-- The part of a word that a load of `n` bytes at byte offset `a` takes (R36, R468). -/
def wordPart (w : Word) (a n : Nat) : Nat := w.toNat / 256 ^ (a % 4) % 256 ^ n

/-- One word of an access of a core is answered, none being an error response: the access fails if any word does (R468). -/
def State.coreMerge (s : State) (req : Nat) (hi : Bool) (r : Option Nat) : State :=
  s.modRq req (fun q => { q with resp := match r with
    | none => { err := true }
    | some v => if q.resp.err then q.resp else if hi then { q.resp with hi := W v } else { q.resp with data := W v } })

/-- Reasons of the late-failure log (R383). -/
abbrev lfUnmap : Nat := 1
abbrev lfLoad : Nat := 2
abbrev lfTenon : Nat := 3
abbrev lfMem : Nat := 4
abbrev lfPoison : Nat := 5

/-- The reason a failed write is logged with (R383). -/
def BusErr.late : BusErr → Nat
  | .unmap => lfUnmap
  | .load => lfLoad
  | .tenon => lfTenon
  | .mem => lfMem
  | .host => lfUnmap

/-- One entry of the late-failure log (R383): the offset in the BAR, its byte enables, the Requester ID, the reason. -/
def State.lateFail (s : State) (rid bar addr be reason : Nat) : State :=
  let n := s.g R.BRG_LFL_PTR.NEXT
  let info := (rid % 65536) * 65536 + (be % 16) * 256 + (reason % 16) * 16 + (bar % 2) * 8
  ((((s.wr (R.BRG_LFL_ADDR n) (W addr)).wr (R.BRG_LFL_INFO n) (W info)).p R.BRG_LFL_PTR.NEXT (n + 1)).bump
    R.BRG_LATE_FAIL_LO).ev R.BRG_EVT.LATE

/-- A failed write of requester HOST is a late failure (R35, R383). A command that is not an inbound request names no Requester ID:
the entry shows a free one (log 3). -/
def State.hostLate (s : State) (req addr be : Nat) (e : BusErr) : State :=
  if req = reqHost then s.used.lateFail (s.freeNat % 65536) 0 addr be e.late else s

/-- The answer to a write of requester `req` (R35): the error response it met, if any. -/
def State.answerWrite (s : State) (req addr be : Nat) (e : Option BusErr) : State :=
  match e with
  | none => s.respond req false 0
  | some x => (s.hostLate req addr be x).respond req true 0

/-- Arms or disarms a requester's unlock; GLB_UNLOCK_STS shows it (R41). -/
def State.setArmed (s : State) (r : Nat) (b : Bool) : State :=
  (s.modRq r (fun q => { q with armed := b })).wr R.GLB_UNLOCK_STS (W (setBit (s.rd R.GLB_UNLOCK_STS).toNat r b))

/-- CFG_STS.STATE of a start that has not left COMMIT (R57). -/
def State.beforeRun (s : State) : Bool := let st := s.g R.CFG_STS.STATE; decide (1 ≤ st) && decide (st ≤ 5)

/-- A write that R57 refuses: HOST, MGT0-MGT3 or CQP, regions 3-18, before commit has ended. -/
def State.loadRefused (s : State) (req addr : Nat) : Bool :=
  decide (req ≤ 5) && s.beforeRun && decide (3 ≤ regionOf addr) && decide (regionOf addr ≤ 18)

/-- GLB_LOCK bars the guarded writes of requester `r` (R44). -/
def State.barred (s : State) (r : Nat) : Bool :=
  (r == reqHost && s.on R.GLB_LOCK.HOST_GUARD) || (r == reqCqp && s.on R.GLB_LOCK.CQP_GUARD)

/-- What the guard says of a guarded write (R42, R44). -/
inductive GuardVerdict where
  | granted | barred | unarmed
  deriving DecidableEq, Repr

/-- The guard's verdict on a guarded write of requester `r`. -/
def State.guardVerdict (s : State) (r : Nat) : GuardVerdict :=
  if s.barred r then .barred else if (s.rq r).armed then .granted else .unarmed

/-- STAT codes of a CMD register (R48). -/
abbrev statDone : Nat := 0
abbrev statBusy : Nat := 1
abbrev statRefused : Nat := 2
abbrev statFailed : Nat := 3

/-- STAT of the CMD register at `a`. -/
def State.stat (s : State) (a : Nat) : Nat := s.g ⟨a, 30, 2⟩

/-- A write of `val` to the CMD register of row `r` at `addr` is to be ignored whole, for a command runs (R48); an ABORT of
PREPARE is not (R366, log 27). -/
def State.cmdShut (s : State) (r : Row) (addr : Nat) (val : Word) : Bool :=
  r.cmd != 0 && s.stat addr == statBusy && !(addr == R.PWR_SLP_CMD && val.toNat % 4 == 3)

/-- A write that changes a Res. field is logged, and the new value stands (R46); a command that is ignored changes none
(R48). How a block behaves while a Res. field holds a changed value is outside the manual: the model goes on as if the field
were unchanged (log 60). -/
def State.resStep (s : State) (req addr : Nat) (val : Word) : State :=
  match rowOf addr with
  | none => s
  | some r =>
    if (s.rd addr ^^^ val) &&& W r.res = 0 ∨ s.cmdShut r addr val then s else (s.wrBits addr r.res val).logAccess req addr 15 true .res

/-- A write of `val` to the register at `addr` by requester `req`, past the address and byte-enable checks: refused
before commit (R57), and where the register is guarded like an RWG register, checked against the unlock, which it
consumes (R42-R44); otherwise `eff` acts. A DMA write of a guarded register is ignored and logged DMAW. -/
def State.byPort (s : State) (req addr : Nat) (val : Word) (guarded : Bool) (eff : State → State) : State :=
  if s.loadRefused req addr then (s.logAccess req addr 15 true .load).answerWrite req addr 15 (some .load)
  else if guarded then
    if req = reqDma then s.logAccess req addr 15 true .dmaw
    else
      match s.guardVerdict req with
      | .barred => (s.logAccess req addr 15 true .locked).setArmed req false
      | .unarmed => s.logAccess req addr 15 true .guard
      | .granted => eff ((s.setArmed req false).resStep req addr val)
  else eff (s.resStep req addr val)

/-- Sets STAT of the CMD register at `a`. -/
def State.setStat (s : State) (a v : Nat) : State := s.p ⟨a, 30, 2⟩ v

/-- Stores the fields of a command, with its STAT (R48). -/
def State.putCmd (s : State) (a : Nat) (val : Word) (st : Nat) : State := s.storeCmd a (withField val 30 2 st)

/-- A write of the CMD register at `a` (R48): ignored and logged BUSY while a command runs; refused where `ok` is false, the
fields still being those of the last accepted command; else its fields are stored with STAT `st`, after which `eff` acts. -/
def State.command (s : State) (req a : Nat) (val : Word) (ok : Bool) (st : Nat) (eff : State → State) : State :=
  if s.stat a = statBusy then s.logAccess req a 15 true .busy
  else if ok then eff (s.putCmd a val st)
  else s.setStat a statRefused

/-- A CFG write of an enable field during APPLY is stored and does not act until COMMIT (R508). -/
def State.deferred (s : State) (req : Nat) : Bool := req == reqCfg && s.g R.CFG_STS.STATE == 4

/-- What a write does to an enable field: nothing, sets it, clears it, stores it until COMMIT, withdraws it (R508). -/
inductive EnAct where
  | none | rise | fall | hold | drop
  deriving DecidableEq, Repr

/-- What a write of `val` by requester `req` does to the enable field at bit `b` of the register at `a` (R508). -/
def State.enAct (s : State) (req a b : Nat) (val : Word) : EnAct :=
  let was := bit (s.rd a).toNat b
  let now := bit val.toNat b
  if !was && now then (if s.deferred req then .hold else .rise)
  else if was && !now then (if s.loader.stored.contains (a, b) then .drop else .fall)
  else .none

/-- Does it. -/
def State.enDo (s : State) (a b : Nat) (act : EnAct) (rise fall : State → State) : State :=
  match act with
  | .none => s
  | .rise => rise s
  | .fall => fall s
  | .hold => { s with loader := { s.loader with stored := s.loader.stored ++ [(a, b)] } }
  | .drop => { s with loader := { s.loader with stored := s.loader.stored.erase (a, b) } }

/-- An enable field is set and acts: the loader does not hold it until COMMIT (R508). -/
def State.enOn (s : State) (l : Loc) : Bool := s.on l && !s.loader.stored.contains (l.addr, l.lo)

end Sys2Proof.Machine
end

