-- ==== Sys2Proof/Machine/MacBase.lean ====
section
/-! DEFINITION. What the MACs send of themselves: PAUSE and PFC frames, verify and respond mPackets (04, R93-R101). -/

namespace Sys2Proof.Machine

/-- The state of port `p` beyond its registers. -/
def State.port (s : State) (p : Nat) : Port := s.ports.get (fun _ => {}) p

/-- Changes the state of port `p`. -/
def State.modPort (s : State) (p : Nat) (f : Port → Port) : State :=
  { s with ports := s.ports.set (fun _ => {}) p (f (s.port p)) }

/-- The port is UP (R82). -/
def State.portUp (s : State) (p : Nat) : Bool := (s.port p).st == .up

/-- MAC_SA of a port, byte 0 first (MAC_SA_HI, MAC_SA_LO). -/
def State.macSa (s : State) (p : Nat) : List Byte := beBytes 2 (s.rd (R.MAC_SA_HI p)).toNat ++ beBytes 4 (s.rd (R.MAC_SA_LO p)).toNat

/-- 01-80-C2-00-00-01. -/
def pauseDa : List Byte := [0x01, 0x80, 0xC2, 0x00, 0x00, 0x01]

/-- Pads a frame body to 60 bytes. -/
def pad60 (l : List Byte) : List Byte := l ++ List.replicate (60 - l.length) 0

/-- A PAUSE frame (R97, R101). -/
def pauseFrame (sa : List Byte) (quanta : Nat) : List Byte :=
  pad60 (pauseDa ++ sa ++ [0x88, 0x08, 0x00, 0x01] ++ beBytes 2 quanta)

/-- A PFC frame for the classes of a mask, with one time (R97, R101). -/
def pfcFrame (sa : List Byte) (classes quanta : Nat) : List Byte :=
  pad60 (pauseDa ++ sa ++ [0x88, 0x08, 0x01, 0x01] ++ beBytes 2 classes ++
    (List.range 8).flatMap (fun c => beBytes 2 (if bit classes c then quanta else 0)))

/-- The mode of flow control in force: 1 PAUSE, 2 PFC, else off (MAC_FC_CFG). -/
def State.fcMode (s : State) (p : Nat) : Nat := let m := s.g (R.MAC_FC_CFG.MODE p); if m = 3 then 0 else m

/-- Sends a control frame of time `q` for the classes of a mask (R101): a PAUSE, or a PFC carrying the enabled
classes; nothing with TX_EN 0, QUANTA 0 or the port not UP. -/
def State.sendFc (s : State) (p classes q : Nat) : State :=
  if !s.on (R.MAC_FC_CFG.TX_EN p) || s.g (R.MAC_FC_TIME.QUANTA p) == 0 || !s.portUp p then s
  else if s.fcMode p = 1 then
    (s.bump (R.MAC_TX_PAUSE_LO p)).modPort p (fun t => { t with sent := pauseFrame (s.macSa p) q })
  else if s.fcMode p = 2 then
    let m := classes &&& s.g (R.MAC_FC_CFG.PFC_TX_EN p)
    if m = 0 then s
    else (s.bump (R.MAC_TX_PFC_LO p)).modPort p (fun t => { t with sent := pfcFrame (s.macSa p) m q })
  else s

/-- The classes of ingress `p` in `on` enter XOFF and those in `off` leave it (R101, R145): under PAUSE the port's
own state is that of any class; under PFC one frame covers the classes that changed. -/
def State.xoffChange (s : State) (p on off : Nat) : State :=
  if 24 ≤ p then s
  else
    let was := (s.port p).xoffSent
    let now := (was ||| on) &&& (255 ^^^ (off &&& 255))
    let s1 := s.modPort p (fun t => { t with xoffSent := now })
    if s.fcMode p = 1 then
      if was = 0 ∧ now ≠ 0 then s1.sendFc p 255 (s.g (R.MAC_FC_TIME.QUANTA p))
      else if was ≠ 0 ∧ now = 0 then s1.sendFc p 255 0
      else s1
    else
      let s2 := if on = 0 then s1 else s1.sendFc p on (s.g (R.MAC_FC_TIME.QUANTA p))
      if off = 0 then s2 else s2.sendFc p off 0

/-- REFRESH in force: 0 or at least QUANTA acts as QUANTA / 2 (R101). -/
def State.refreshQuanta (s : State) (p : Nat) : Nat :=
  let q := s.g (R.MAC_FC_TIME.QUANTA p)
  let r := s.g (R.MAC_FC_TIME.REFRESH p)
  if r = 0 ∨ q ≤ r then q / 2 else r

/-- MAX in force at a port (R87). -/
def State.maxFrame (s : State) (p : Nat) : Nat := clampNat 64 9600 (s.g (R.MAC_MAXF.MAX p))

end Sys2Proof.Machine
end

