-- ==== Sys2Proof/Machine/Table.lean ====
section
/-! DEFINITION. Classification, the four tables, learning, ageing, parity and row repair, and the table command
channels (05, R108-R139). -/

namespace Sys2Proof.Machine

/-- Table numbers of TBL_CMD.TABLE. -/
abbrev tFlow : Nat := 0
abbrev tVlan : Nat := 1
abbrev tMatch : Nat := 2
abbrev tLearn : Nat := 3

/-- Number of entry `i` of table `t` in the store. -/
abbrev entNo (t i : Nat) : Nat := 16384 * t + i

/-- The words of entry `i` of table `t` as stored. -/
def State.ent (s : State) (t i : Nat) : Ent := s.tbl.ents.get (fun _ => {}) (entNo t i)

/-- The mask of words of an entry that fail parity (R129). -/
def State.entBad (s : State) (t i : Nat) : Nat := s.tbl.bad.get (fun _ => 0) (entNo t i)

/-- Marks words of an entry as failing parity. -/
def State.setBad (s : State) (t i m : Nat) : State := { s with tbl := { s.tbl with bad := s.tbl.bad.set (fun _ => 0) (entNo t i) m } }

/-- Writes an entry; its words hold good parity again. -/
def State.setEnt (s : State) (t i : Nat) (e : Ent) : State :=
  { s with tbl := { s.tbl with ents := s.tbl.ents.set (fun _ => {}) (entNo t i) e,
                               bad := s.tbl.bad.set (fun _ => 0) (entNo t i) 0 } }

/-- VALID of an entry of table `t` (R115-R118). -/
def Ent.valid (t : Nat) (e : Ent) : Bool :=
  if t = 2 then bit e.w1.toNat 31 else if t = 3 then bit e.w2.toNat 31 else bit e.w0.toNat 31

/-- The entry with VALID set or cleared. -/
def Ent.setValid (t : Nat) (e : Ent) (b : Bool) : Ent :=
  let f := fun w : Word => withField w 31 1 (if b then 1 else 0)
  if t = 2 then { e with w1 := f e.w1 } else if t = 3 then { e with w2 := f e.w2 } else { e with w0 := f e.w0 }

/-! ### Learning entries (R118, R119) -/

/-- A key of the learning table: W0 and W1 of an entry without reserved bits. -/
def Ent.key (e : Ent) : Word × Word := (e.w0, e.w1 &&& 0x0FFFFFFF)
/-- STATIC, with LOCK acting as both set (R118). -/
def Ent.isStatic (e : Ent) : Bool := bit e.w2.toNat 30 || bit e.w2.toNat 29
def Ent.isLock (e : Ent) : Bool := bit e.w2.toNat 29
def Ent.port (e : Ent) : Nat := fieldOf e.w2 23 5
def Ent.mv (e : Ent) : Nat := fieldOf e.w2 20 3
def Ent.fh (e : Ent) : Nat := fieldOf e.w2 0 14
def Ent.age (e : Ent) : Nat := fieldOf e.w3 0 16
def Ent.setPort (e : Ent) (p : Nat) : Ent := { e with w2 := withField e.w2 23 5 p }
def Ent.setMv (e : Ent) (m : Nat) : Ent := { e with w2 := withField e.w2 20 3 m }
def Ent.setAge (e : Ent) (a : Nat) : Ent := { e with w3 := withField e.w3 0 16 a }

/-- The key of a MAC address under a FID (R118). -/
def keyOf (mac : List Byte) (fid : Nat) : Word × Word :=
  (W (beAt mac 2 4), W ((fid % 4096) * 2 ^ 16 + beAt mac 0 2))

/-- The key string K of R119. -/
def keyString (k : Word × Word) : List Byte :=
  beBytes 2 k.2.toNat ++ beBytes 4 k.1.toNat ++ [B8 (fieldOf k.2 24 4), B8 (fieldOf k.2 16 8)]

/-- The two candidate buckets of a key under the active seed (R119). -/
def bucketsOf (seed : Nat) (k : Word × Word) : Nat × Nat :=
  let c := crc32 (keyString k)
  let h0 := c % 4096
  let h1 := (c / 4096 % 4096) ^^^ (seed % 4096)
  (h0, if h1 = h0 then h0 ^^^ 1 else h1)

def State.buckets (s : State) (k : Word × Word) : Nat × Nat := bucketsOf (s.g R.TBL_HASH.SEED_ACT) k

/-- The eight ways of the two buckets of a key. -/
def State.waysOf (s : State) (k : Word × Word) : List Nat :=
  let h := s.buckets k
  (List.range 4).map (fun w => h.1 * 4 + w) ++ (List.range 4).map (fun w => h.2 * 4 + w)

/-- The index at which a key is present: valid, good parity, equal key (R119, R129). -/
def State.findKey (s : State) (k : Word × Word) : Option Nat :=
  (s.waysOf k).find? (fun i => (s.ent 3 i).valid 3 && s.entBad 3 i == 0 && (s.ent 3 i).key == k)

/-! ### Parity (R129, R130) -/

/-- Lowest set bit of a mask of four words. -/
def lowWord (m : Nat) : Nat := if bit m 0 then 0 else if bit m 1 then 1 else if bit m 2 then 2 else 3

/-- A parity error is detected in entry `i` of table `t` (R129): counted, logged, reported as a fault; the learn
engine invalidates a learning entry that is not STATIC. -/
def State.parityHit (s : State) (t i : Nat) : State :=
  let m := s.entBad t i
  let log := W ((t % 4) * 2 ^ 30 + lowWord m * 2 ^ 14 + i % 16384)
  let s1 := (((s.bump R.TBL_PAR_ERR_LO).ev R.TBL_EVT.PERR).wr R.TBL_PERR_LOG log).fault (64 + t) (faultInfo 1 t i)
  if t = 3 ∧ !(s.ent 3 i).isStatic then s1.setEnt 3 i ((s.ent 3 i).setValid 3 false) else s1

/-- A lookup reads an entry: a parity error in any of its words is a detection (R129). -/
def State.readHit (s : State) (t i : Nat) : State := if s.entBad t i != 0 then s.parityHit t i else s

/-- What a lookup sees of an entry: nothing of one that fails parity (R129). -/
def State.seen (s : State) (t i : Nat) : Ent := if s.entBad t i != 0 then {} else s.ent t i

/-! ### Insertion (R121, R122) -/

/-- The lowest way of a bucket that holds no valid entry. -/
def State.freeWay (s : State) (b : Nat) : Option Nat := (List.range 4).find? (fun w => !(s.ent 3 (b * 4 + w)).valid 3)

/-- The other bucket of an entry that lies in bucket `b`. -/
def State.otherBucket (s : State) (b : Nat) (e : Ent) : Nat := let h := s.buckets e.key; if h.1 = b then h.2 else h.1

/-- Way `w` of bucket `b` can move: not in the path, and its other bucket has a free way. -/
def State.movable (s : State) (path : List (Nat × Nat)) (b w : Nat) : Bool :=
  !path.contains (b, w) && (s.freeWay (s.otherBucket b (s.ent 3 (b * 4 + w)))).isSome

def State.rotOf (s : State) (b : Nat) : Nat := s.tbl.rot.get (fun _ => 0) b
def State.setRot (s : State) (b v : Nat) : State := { s with tbl := { s.tbl with rot := s.tbl.rot.set (fun _ => 0) b (v % 4) } }

/-- The way rot[b] picks, entries in the path skipped. -/
def State.rotPick (s : State) (path : List (Nat × Nat)) (b : Nat) : Option Nat :=
  ((List.range 4).map (fun k => (s.rotOf b + k) % 4)).find? (fun w => !path.contains (b, w))

/-- The search of R121 from one start bucket, to depth `d`: the path found, if any, and the rot pointers moved. -/
def State.searchPath : Nat → State → List (Nat × Nat) → Nat → State × Option (List (Nat × Nat))
  | 0, s, _, _ => (s, none)
  | d + 1, s, path, b =>
    match (List.range 4).find? (fun w => s.movable path b w) with
    | some w => (s, some (path ++ [(b, w)]))
    | none =>
      match s.rotPick path b with
      | none => (s, none)
      | some w => State.searchPath d (s.setRot b (w + 1)) (path ++ [(b, w)]) (s.otherBucket b (s.ent 3 (b * 4 + w)))

/-- One move of R121: the entry is copied to a free way of its other bucket, then the original is invalidated. -/
def State.moveEnt (s : State) (b w : Nat) : State :=
  let e := s.ent 3 (b * 4 + w)
  let o := s.otherBucket b e
  match s.freeWay o with
  | none => s
  | some v =>
    let m := s.entBad 3 (b * 4 + w)
    ((((s.setEnt 3 (o * 4 + v) e).setBad 3 (o * 4 + v) m).setEnt 3 (b * 4 + w) (e.setValid 3 false))).bump R.TBL_RELOC_LO

/-- The moves of a path, last first. -/
def State.movePath (s : State) (path : List (Nat × Nat)) : State := s.each path.reverse (fun bw t => t.moveEnt bw.1 bw.2)

/-- Makes room for a key that is absent (R121): the index of its place, or none where there is no room. -/
def State.findRoom (s : State) (k : Word × Word) : State × Option Nat :=
  let h := s.buckets k
  match s.freeWay h.1 with
  | some w => (s, some (h.1 * 4 + w))
  | none =>
    match s.freeWay h.2 with
    | some w => (s, some (h.2 * 4 + w))
    | none =>
      match State.searchPath 8 s [] h.1 with
      | (s1, some p) => (s1.movePath p, some (h.1 * 4 + (p.headD (h.1, 0)).2))
      | (s1, none) =>
        match State.searchPath 8 s1 [] h.2 with
        | (s2, some p) => (s2.movePath p, some (h.2 * 4 + (p.headD (h.2, 0)).2))
        | (s2, none) => ((s2.bump R.TBL_LEARN_FULL_LO).ev R.TBL_EVT.LEARN_FULL, none)

/-! ### Classification (R108-R114) -/

/-- Whether a frame carries the tag of TPID 0x8100. -/
def isTagged (f : List Byte) : Bool := beAt f 12 2 == 0x8100
/-- PCP and VID of the tag. -/
def tagPcp (f : List Byte) : Nat := beAt f 14 2 / 8192
def tagVid (f : List Byte) : Nat := beAt f 14 2 % 4096
/-- Offset of the EtherType after any tag. -/
def typeAt (f : List Byte) : Nat := if isTagged f then 16 else 12
def frameDa (f : List Byte) : List Byte := slice f 0 6
def frameSa (f : List Byte) : List Byte := slice f 6 6
/-- Group address. -/
def isGroup (mac : List Byte) : Bool := bit (beAt mac 0 1) 0

/-- ACCEPT admits the frame's tag form (R111). -/
def State.accepts (s : State) (p : Nat) (f : List Byte) : Bool :=
  let prio := isTagged f && tagVid f == 0
  match s.g (R.TBL_PORT.ACCEPT p) with
  | 1 => isTagged f && !prio
  | 2 => !isTagged f || prio
  | _ => true

/-- The VID of step 2 of R110. -/
def State.vidOf (s : State) (p : Nat) (f : List Byte) : Nat :=
  if isTagged f && tagVid f != 0 then tagVid f else s.g (R.TBL_PORT.PVID p)

/-- The class of step 1 of R112. -/
def State.pcpOf (s : State) (p : Nat) (f : List Byte) : Nat := if isTagged f then tagPcp f else s.g (R.TBL_PORT.DEF_PCP p)

/-- Stream ID of a frame that KIND 2 can match: IEEE 1722 with its stream-ID-valid bit set (R117). -/
def streamId (f : List Byte) : Option Nat :=
  let o := typeAt f
  if beAt f o 2 == 0x22F0 && bit (beAt f (o + 3) 1) 7 then some (beAt f (o + 6) 8) else none

/-- A stream match entry matches a frame resolved to a VID (R117). -/
def matches117 (e : Ent) (f : List Byte) (vid : Nat) : Bool :=
  bit e.w1.toNat 31 && (bit e.w1.toNat 28 || fieldOf e.w1 16 12 == vid) &&
  (let addr := fun mac : List Byte => beAt mac 2 4 == e.w0.toNat && beAt mac 0 2 == fieldOf e.w1 0 16
   match fieldOf e.w1 29 2 with
   | 0 => addr (frameDa f)
   | 1 => addr (frameSa f)
   | 2 => streamId f == some (e.w0.toNat + 2 ^ 32 * fieldOf e.w1 0 16 + 2 ^ 48 * fieldOf e.w2 16 16)
   | _ => false)

/-- The search of the stream match list: lowest index first, an entry with a parity error is no match (R117, R129). -/
def State.matchFrom (f : List Byte) (vid : Nat) : State → List Nat → State × Option Nat
  | s, [] => (s, none)
  | s, i :: is =>
    if matches117 (s.seen 2 i) f vid then (s, some (fieldOf (s.seen 2 i).w2 0 14))
    else State.matchFrom f vid (s.readHit 2 i) is

/-- The entries of the stream match list that hold anything, or fail parity. -/
def State.matchList (s : State) : List Nat := (List.range 256).filter (fun i => s.ent 2 i != {} || s.entBad 2 i != 0)

/-- A search of the learning table: parity errors it meets, and the entry found. -/
def State.search (s : State) (k : Word × Word) : State × Option Nat :=
  ((s.waysOf k).foldl (fun t i => t.readHit 3 i) s, s.findKey k)

/-- The internal port of a queue: HOST or MGT, as switch port number (R113). -/
def portOfQueue (q : Nat) : Nat := if q < 32 then 24 else 25

/-- Step 9 of R110: the port's default action. What becomes of class 7 there the spec does not say: a frame that is trapped is
demoted and counted as under R112, one that is dropped is not (log 62). -/
def State.defAct (s : State) (p : Nat) (f : Frame) : State × Option Frame :=
  let s1 := s.bump R.TBL_DEF_ACT_LO
  if s.on (R.TBL_PORT.DEF_ACT p) then
    let q := s.g (R.TBL_PORT.DEF_Q p)
    let s2 := if f.cls = 7 then s1.bump R.TBL_CLS_DEMOTE_LO else s1
    (s2, some { f with cls := if f.cls = 7 then 6 else f.cls, flow := 0, dest := 2 ^ portOfQueue q, reason := 3, queue := q })
  else (s1, none)

/-- The destination mask of a flow entry before its copy or trap port (R113, steps 1-3). -/
def State.maskFor (s : State) (e : Ent) (vlan : Ent) (learned : Option Nat) (p : Nat) : Nat :=
  let m :=
    if bit e.w1.toNat 31 then fieldOf vlan.w0 0 28
    else if bit e.w1.toNat 30 then s.g (R.SW_MCGRP.MASK (fieldOf e.w1 20 10))
    else match learned with
      | some l => 2 ^ l
      | none => fieldOf e.w0 0 28
  let m := m &&& fieldOf vlan.w0 0 28
  if bit e.w1.toNat 6 then m else setBit m p false

/-- The flow entry's part of the result: class, context, mask, age limit, cut-through (R112, R113, R115). -/
def State.applyFlow (s : State) (p h : Nat) (vlan : Ent) (learned : Option Nat) (f : Frame) : State × Option Frame :=
  let s0 := s.readHit 0 h
  let e := s.seen 0 h
  if h = 0 ∨ !e.valid 0 then s0.defAct p f
  else
    let ctx := if bit e.w1.toNat 7 then some (fieldOf e.w1 8 8) else none
    let c := if bit e.w1.toNat 19 then fieldOf e.w1 16 3 else f.cls
    let demote := c == 7 && ctx.isNone
    let s1 := if demote then s0.bump R.TBL_CLS_DEMOTE_LO else s0
    let act := fieldOf e.w0 28 3
    let q := fieldOf e.w1 0 6
    if act = 1 ∨ 4 ≤ act then (s1.bump R.TBL_FLOW_DROP_LO, none)
    else
      let m := s.maskFor e vlan learned p
      let dest := if act = 0 then m else if act = 2 then m ||| 2 ^ portOfQueue q else 2 ^ portOfQueue q
      if dest = 0 then (s1.bump R.TBL_NO_DEST_LO, none)
      else
        (s1, some { f with
          cls := if demote then 6 else c, flow := h, ctx := ctx, dest := dest, reason := act - 1, queue := q,
          ageLim := fieldOf e.w2 16 16, ageTb := fieldOf e.w2 14 2, ct := bit e.w2.toNat 13 })

/-- Step 4 of R110 and the lookup-slot part of R123: refused where the SA is locked elsewhere; refreshed, or marked
for a learn request. -/
def State.checkSa (s : State) (p : Nat) (vlan : Ent) (f : Frame) : State × Option Frame :=
  let sa := frameSa f.bytes
  let (s1, hit) := s.search (keyOf sa (fieldOf vlan.w2 16 12))
  let learns := s.on (R.TBL_PORT.LEARN p) && bit vlan.w0.toNat 30 && !isGroup sa && beNat sa != 0
  let now := s.g R.TBL_NOW.SEC
  match hit with
  | some i =>
    let e := s.ent 3 i
    if e.isLock && e.port != p then ((s1.bump R.TBL_SA_VIOL_LO).ev R.TBL_EVT.SA_VIOL, none)
    else if !learns then (s1, some f)
    else if e.port = p then ((if e.age = now then s1 else s1.setEnt 3 i (e.setAge now)), some f)
    else (s1, some { f with learn := true })
  | none => (s1, some { f with learn := learns })

/-- Steps 7 and 8 of R110: the handle, and the learned port where the VLAN's UC_FH applies. -/
def State.resolveDa (s : State) (vlan : Ent) (f : List Byte) : State × Nat × Option Nat :=
  let da := frameDa f
  let (s1, hit) := s.search (keyOf da (fieldOf vlan.w2 16 12))
  match hit with
  | some i =>
    let e := s.ent 3 i
    if e.fh != 0 then (s1, e.fh, none) else (s1, fieldOf vlan.w2 0 14, some e.port)
  | none => (s1, if isGroup da then fieldOf vlan.w3 16 14 else fieldOf vlan.w3 0 14, none)

/-- Steps 5-9 of R110. -/
def State.resolve (s : State) (p handle : Nat) (vlan : Ent) (f : Frame) : State × Option Frame :=
  match State.matchFrom f.bytes f.vid s s.matchList with
  | (s1, some h) => s1.applyFlow p h vlan none f
  | (s1, none) =>
    if p = 26 ∧ handle ≠ 0 then s1.applyFlow p handle vlan none f
    else
      let (s2, h, learned) := s1.resolveDa vlan f.bytes
      s2.applyFlow p h vlan learned f

/-- Classification of a frame from port `p`, with the gateway's flow handle (0: none): its lookup result, or none
where it is dropped, and the frame whose learn request is due if its FCS is good (R108-R114, R123). -/
def State.classify (s : State) (p handle : Nat) (f : Frame) : State × Option Frame × Option Frame :=
  let vid := s.vidOf p f.bytes
  if !s.accepts p f.bytes || vid == 0xFFF then (s.bump R.TBL_ACCEPT_DROP_LO, none, none)
  else
    let s1 := s.readHit 1 vid
    let vlan := s.seen 1 vid
    if !vlan.valid 1 || (s.on (R.TBL_PORT.IFILT p) && !bit vlan.w0.toNat p) then (s1.bump R.TBL_VLAN_DROP_LO, none, none)
    else
      match s1.checkSa p vlan f with
      | (s2, none) => (s2, none, none)
      | (s2, some g) =>
        let g' : Frame := { g with
          ingress := p, vid := vid, fid := fieldOf vlan.w2 16 12, cls := s.pcpOf p f.bytes, untag := fieldOf vlan.w1 0 28,
          epoch := (s.rd R.TBL_EPOCH).toNat }
        let (s3, r) := s2.resolve p handle vlan g'
        (s3, r, if g'.learn then some g' else none)

/-! ### Spare rows (R131, R458, R460) -/

/-- Spare rows of a table at reset (R131). -/
def spareRows (t : Nat) : Nat := if t = 1 then 16 else if t = 2 then 1 else 64

def State.sparesLeft (s : State) (t : Nat) : Nat := s.tbl.spares.get spareRows t

/-- Shim maps row `row` of table `t` to a spare; true where one was left. -/
def State.rowSpare (s : State) (t row : Nat) : State × Bool :=
  let n := s.sparesLeft t
  if n = 0 then
    ((((s.ev R.TBL_EVT.REPAIR_EXH).fault (68 + t) (faultInfo 1 t row)).degrade R.FLT_DEGR.TABLE true).shimReduced, false)
  else
    let s1 := { s with tbl := { s.tbl with spares := s.tbl.spares.set spareRows t (n - 1) } }
    ((s1.bump R.TBL_ROW_REPAIR_LO).shimRepair repRow 4 t row (spareRows t - n), true)

/-- The read-back of the write of entry `i` by the device itself differs (R131): the row gets a spare; with none left the
entry's words fail parity. -/
def State.writeFails (s : State) (t i : Nat) : State :=
  match s.rowSpare t (i / 4) with
  | (s1, true) => s1
  | (s1, false) => s1.setBad t i 15

/-! ### Learning (R123-R127) -/

/-- LEVEL shows the learn FIFO. -/
def State.learnLevel (s : State) : State := s.p R.TBL_LEARN_STS.LEVEL s.tbl.fifo.length

/-- A frame's learn request enters the FIFO, or is discarded (R124). -/
def State.learnRequest (s : State) (f : Frame) : State :=
  if !f.learn then s
  else if 256 ≤ s.tbl.fifo.length then (s.bump R.TBL_LEARN_DROP_LO).ev R.TBL_EVT.LEARN_DROP
  else
    let k := keyOf (frameSa f.bytes) f.fid
    let r : LearnReq := ⟨k.1, k.2, f.ingress⟩
    { s with tbl := { s.tbl with fifo := s.tbl.fifo ++ [r] } }.learnLevel

/-- TBL_STORM.LIMIT in force: 0 acts as 1. -/
def State.stormLimit (s : State) : Nat := max 1 (s.g R.TBL_STORM.LIMIT)

/-- The learn engine writes entry `i`; `differs`: its read-back differs (R131). -/
def State.learnWrite (s : State) (i : Nat) (e : Ent) (differs : Bool) : State := (s.setEnt 3 i e).when differs (fun t => t.writeFails 3 i)

/-- A request for a key that is absent (R125). -/
def State.learnNew (s : State) (r : LearnReq) (differs : Bool) : State :=
  let e : Ent := ⟨r.lo, r.hi, W (2 ^ 31 + (r.port % 32) * 2 ^ 23), W (s.g R.TBL_NOW.SEC)⟩
  match s.findRoom e.key with
  | (s1, some i) => (s1.learnWrite i e differs).bump R.TBL_LEARN_LO
  | (s1, none) => s1

/-- A request for a key present at index `i` on another port (R125). -/
def State.learnMove (s : State) (r : LearnReq) (i : Nat) (differs : Bool) : State :=
  let e := s.ent 3 i
  let lim := s.stormLimit
  if e.isStatic then s.bump R.TBL_MOVE_REFUSED_LO
  else if e.mv < lim then
    let s1 := (s.learnWrite i (((e.setPort r.port).setAge (s.g R.TBL_NOW.SEC)).setMv (e.mv + 1)) differs).bump R.TBL_MOVE_LO
    if e.mv + 1 = lim then
      ((s1.ev R.TBL_EVT.MOVE_STORM).bump R.TBL_MOVE_STORM_LO).wr R.TBL_STORM_LOG (W ((r.port % 32) * 2 ^ 16 + i % 16384))
    else s1
  else if s.on R.TBL_STORM.HOLD then s.bump R.TBL_MOVE_REFUSED_LO
  else (s.learnWrite i ((e.setPort r.port).setAge (s.g R.TBL_NOW.SEC)) differs).bump R.TBL_MOVE_LO

/-- A command is still running (R132). -/
def State.tblBusy (s : State) : Bool := s.tbl.flush.isSome || s.tbl.repair.isSome

/-- The learn engine takes one request (R125); a command in progress, or waiting, comes before it (R126). -/
def State.learnProcess (s : State) (differs : Bool) : State :=
  match s.tbl.fifo with
  | [] => s
  | r :: rest =>
    if s.tblBusy || !s.tbl.waiting.isEmpty then s
    else
      let s0 := { s with tbl := { s.tbl with fifo := rest } }.learnLevel
      let (s1, hit) := s0.search (r.lo, r.hi)
      match hit with
      | none => s1.learnNew r differs
      | some i =>
        let e := s.ent 3 i
        if e.port = r.port then s1.learnWrite i (e.setAge (s.g R.TBL_NOW.SEC)) differs else s1.learnMove r i differs

/-! ### Ageing and scrubbing (R128, R130) -/

/-- The scanner's visit of one way (R128): parity, MV, ageing out, and the rewrite that keeps ages from wrapping. -/
def State.ageWay (s : State) (i bad : Nat) : State :=
  let e := s.ent 3 i
  if !e.valid 3 then s
  else
    let m := s.entBad 3 i ||| bad
    if m != 0 then (s.setBad 3 i m).parityHit 3 i
    else
      let now := s.g R.TBL_NOW.SEC
      let lim := s.g R.TBL_AGE.LIMIT
      let d := (now + 65536 - e.age) % 65536
      if !e.isStatic && lim != 0 && decide (lim ≤ d) then
        (s.setEnt 3 i ((e.setMv 0).setValid 3 false)).bump R.TBL_AGED_LO
      else if 32768 ≤ d then s.setEnt 3 i ((e.setMv 0).setAge ((now + 32768) % 65536))
      else s.setEnt 3 i (e.setMv 0)

/-- One bucket of the sweep; bit 4 w + k of `bad` is word k of way w found to fail parity. -/
def State.ageBucket (s : State) (bad : Nat) : State :=
  match s.tbl.sweep with
  | none => s
  | some b =>
    let s1 := { s with tbl := { s.tbl with sweep := if b + 1 < 4096 then some (b + 1) else none } }
    s1.each (List.range 4) (fun w t => t.ageWay (b * 4 + w) (bad / 16 ^ w % 16))

/-- The scrubber reads an entry and finds the words of mask `bad` to fail parity (R130). -/
def State.scrub (s : State) (t i bad : Nat) : State :=
  if 3 ≤ t then s
  else
    let m := s.entBad t i ||| bad % 16
    if m = 0 then s else (s.setBad t i m).parityHit t i

/-! ### Table commands (R132-R135) -/

/-- Number of entries of a table. -/
def tableSize (t : Nat) : Nat := if t = 1 then 4096 else if t = 2 then 256 else 16384

/-- INDEX is in the table (R133). -/
def indexOk (t i : Nat) : Bool := decide (i < tableSize t) && !(t == 0 && i == 0) && !(t == 1 && (i == 0 || i == 4095))

/-- The entry a channel's TBL_DATA holds. Which TBL_DATA a command uses that waits while its channel commits another is the model's
choice: what stands there as the command runs, or as a FLUSH starts (log 62). -/
def State.dataOf (s : State) (c : Nat) : Ent :=
  ⟨s.rd (R.TBL_DATA_LO c), s.rd (R.TBL_DATA_W1 c), s.rd (R.TBL_DATA_W2 c), s.rd (R.TBL_DATA_HI c)⟩

/-- Stores an entry in a channel's TBL_DATA. -/
def State.putData (s : State) (c : Nat) (e : Ent) : State :=
  (((s.wr (R.TBL_DATA_LO c) e.w0).wr (R.TBL_DATA_W1 c) e.w1).wr (R.TBL_DATA_W2 c) e.w2).wr (R.TBL_DATA_HI c) e.w3

/-- TBL_EPOCH advances (R134, R160). -/
def State.epochUp (s : State) : State := s.wr R.TBL_EPOCH (s.rd R.TBL_EPOCH + 1)

/-- Ends the command of a channel with a STAT code. -/
def State.tblEnd (s : State) (c st : Nat) : State := s.setStat (R.TBL_CMD c) st

/-- Writes an entry for a command; the epoch advances if it changed (R134). -/
def State.cmdWrite (s : State) (t i : Nat) (e : Ent) : State :=
  if s.ent t i = e ∧ s.entBad t i = 0 then s else (s.setEnt t i e).epochUp

/-- READ (R133). -/
def State.cmdRead (s : State) (c t i : Nat) : State :=
  if !indexOk t i then s.tblEnd c statRefused
  else if s.entBad t i != 0 then ((s.putData c (s.ent t i)).parityHit t i).tblEnd c statFailed
  else (s.putData c (s.ent t i)).tblEnd c statDone

/-- A command writes an entry and ends; `differs`: the read-back differs, and Shim's repair completes the command (R131). -/
def State.cmdStore (s : State) (c t i : Nat) (e : Ent) (differs : Bool) : State :=
  if differs then { s with tbl := { s.tbl with repair := some (c, t, i, e) } }
  else (s.cmdWrite t i e).tblEnd c statDone

/-- WRITE (R133): refused where INDEX is not in the table, is not a place of the key, or the key is present elsewhere. The key is
looked up as by any lookup (R129). -/
def State.cmdWriteOp (s : State) (c t i : Nat) (differs : Bool) : State :=
  let e := s.dataOf c
  if !indexOk t i then s.tblEnd c statRefused
  else if t = 3 ∧ e.valid 3 then
    let (s1, hit) := s.search e.key
    if !(s.waysOf e.key).contains i || (match hit with | some k => k != i | none => false) then s1.tblEnd c statRefused
    else s1.cmdStore c 3 i e differs
  else s.cmdStore c t i e differs

/-- INVAL (R133). -/
def State.cmdInval (s : State) (c t i : Nat) (differs : Bool) : State :=
  if !indexOk t i then s.tblEnd c statRefused
  else if (s.ent t i).valid t then s.cmdStore c t i ((s.ent t i).setValid t false) differs
  else s.tblEnd c statDone

/-- INSERT (R121, R133). -/
def State.cmdInsert (s : State) (c t : Nat) (differs : Bool) : State :=
  if t ≠ 3 then s.tblEnd c statRefused
  else
    let e := (s.dataOf c).setValid 3 true
    match s.search e.key with
    | (s1, some i) => (s1.p (R.TBL_CMD.INDEX c) i).cmdStore c 3 i e differs
    | (s1, none) =>
      match s1.findRoom e.key with
      | (s2, some i) => (s2.p (R.TBL_CMD.INDEX c) i).cmdStore c 3 i e differs
      | (s2, none) => s2.tblEnd c statFailed

/-- DELETE (R133). -/
def State.cmdDelete (s : State) (c t : Nat) (differs : Bool) : State :=
  if t ≠ 3 then s.tblEnd c statRefused
  else
    match s.search (s.dataOf c).key with
    | (s1, some i) => s1.cmdStore c 3 i ((s.ent 3 i).setValid 3 false) differs
    | (s1, none) => s1.tblEnd c statFailed

/-- SEARCH (R133). -/
def State.cmdSearch (s : State) (c t : Nat) : State :=
  if t ≠ 3 then s.tblEnd c statRefused
  else
    let (s1, hit) := s.search (s.dataOf c).key
    match hit with
    | some i => ((s1.putData c (s.ent 3 i)).p (R.TBL_CMD.INDEX c) i).tblEnd c statDone
    | none => s1.tblEnd c statFailed

/-- FLUSH starts (R133). -/
def State.cmdFlush (s : State) (c t : Nat) : State :=
  if t ≠ 3 then s.tblEnd c statRefused
  else { s with tbl := { s.tbl with flush := some (c, s.rd (R.TBL_DATA_LO c)) } }.setStat (R.TBL_CMD c) statBusy

/-- Runs the command a channel's TBL_CMD holds. -/
def State.tblRun (s : State) (c : Nat) (differs : Bool) : State :=
  let t := s.g (R.TBL_CMD.TABLE c)
  let i := s.g (R.TBL_CMD.INDEX c)
  match s.g (R.TBL_CMD.OP c) with
  | 1 => s.cmdRead c t i
  | 2 => s.cmdWriteOp c t i differs
  | 3 => s.cmdInval c t i differs
  | 4 => s.cmdInsert c t differs
  | 5 => s.cmdDelete c t differs
  | 6 => s.cmdSearch c t
  | 7 => s.cmdFlush c t
  | _ => s.tblEnd c statRefused

/-- Runs one command or queues it behind the one in progress (R24, R132). -/
def State.tblRunOrWait (s : State) (c : Nat) (differs : Bool) : State :=
  if s.tblBusy then { s with tbl := { s.tbl with waiting := s.tbl.waiting ++ [(c, differs)] } }.setStat (R.TBL_CMD c) statBusy
  else s.tblRun c differs

/-- The commands that waited run in their order, until one stays in progress. -/
def State.tblResume (s : State) : State :=
  let w := s.tbl.waiting
  s.each w (fun c t =>
    if t.tblBusy then t
    else { t with tbl := { t.tbl with waiting := t.tbl.waiting.drop 1 } }.tblRun c.1 c.2)

/-- A write of TBL_CMD[c] with word `val` by requester `req` (R48, R132, R133); `differs`: the read-back of what it writes
differs. -/
def State.tblAct (s : State) (req c : Nat) (val : Word) (differs : Bool) : State :=
  s.command req (R.TBL_CMD c) val true statBusy (fun u => u.tblRunOrWait c differs)

/-- Such a write at its requester's port. -/
def State.tblCommand (s : State) (req c : Nat) (val : Word) (differs : Bool) : State :=
  s.byPort req (R.TBL_CMD c) val false (fun t => t.tblAct req c val differs)

/-- The TBL_CMD word of an operation. -/
def tblWord (op table index : Nat) : Word := W ((op % 16) * 2 ^ 26 + (table % 4) * 2 ^ 24 + index % 16384)

/-- An entry is selected by the FLUSH word (R133). -/
def flushSelects (sel : Word) (e : Ent) : Bool :=
  e.valid 3 && (!bit sel.toNat 31 || e.port == fieldOf sel 24 5) && (!bit sel.toNat 30 || fieldOf e.w1 16 12 == fieldOf sel 0 12) &&
    (bit sel.toNat 29 || !e.isStatic)

/-- The learning entries listed in the store. -/
def State.learnList (s : State) : List Nat :=
  s.tbl.ents.filterMap (fun p => if 49152 ≤ p.1 then some (p.1 - 49152) else none)

/-- A flush ends: the selected entries are gone; a full flush makes SEED the active seed (R120, R133, R134). Of the rows it wrote
the read-back of `rows` differed: each gets a spare, or else the command ends failed and the entries fail parity (R131). -/
def State.flushComplete (s : State) (rows : List Nat) : State :=
  match s.tbl.flush with
  | none => s
  | some (c, sel) =>
    let s0 := { s with tbl := { s.tbl with flush := none } }
    let gone := s.learnList.filter (fun i => flushSelects sel (s.ent 3 i))
    let hit := (rows.filter (fun r => gone.any (fun i => i / 4 == r))).eraseDups
    let a := hit.foldl (fun (a : State × List Nat) r => match a.1.rowSpare 3 r with
      | (t, true) => (t, a.2)
      | (t, false) => (t, r :: a.2)) (s0, [])
    let s1 := a.1.each gone (fun i t => if a.2.contains (i / 4) then t.setBad 3 i 15 else t.setEnt 3 i ((t.ent 3 i).setValid 3 false))
    let s2 := if gone.isEmpty then s1 else s1.epochUp
    let s3 := if fieldOf sel 29 3 = 1 then s2.p R.TBL_HASH.SEED_ACT (s2.g R.TBL_HASH.SEED) else s2
    (s3.tblEnd c (if a.2.isEmpty then statDone else statFailed)).tblResume

/-- Shim maps a row of table `t` to a spare, completing the write of the command that found it (R131, R458, R460). What a write
leaves where no spare row is left the spec says only of the entries that fail parity: the entry keeps its old words, all four of
them fail parity, and no other entry of the row does (log 62). -/
def State.rowRepair (s : State) (t row : Nat) : State :=
  match s.tbl.repair with
  | some (c, t', i, e) =>
    if t' = t ∧ i / 4 = row then
      match { s with tbl := { s.tbl with repair := none } }.rowSpare t row with
      | (s1, true) => ((s1.cmdWrite t i e).tblEnd c statDone).tblResume
      | (s1, false) => ((s1.setBad t i 15).tblEnd c statFailed).tblResume
    else (s.rowSpare t row).1
  | none => (s.rowSpare t row).1

/-! ### Meanings of the table rows -/

/-- LEARN_PROCESS (R125); `differs`: the read-back of what it writes differs. -/
def execLearnProcess (s : State) (differs : Bool := false) : Host.Outcome State Fault Refusal := done s (s.learnProcess differs)

/-- AGEING_SECOND (R128). -/
def execAgeingSecond (s : State) : Host.Outcome State Fault Refusal :=
  let s1 := s.inc R.TBL_NOW.SEC
  done s { s1 with tbl := { s1.tbl with sweep := some 0 } }

/-- AGEING_BUCKET_SCAN (R128). -/
def execAgeingBucketScan (bad : Nat) (s : State) : Host.Outcome State Fault Refusal := done s (s.ageBucket bad)

/-- TABLE_SCRUB (R130). -/
def execTableScrub (table index bad : Nat) (s : State) : Host.Outcome State Fault Refusal := done s (s.scrub table (index % tableSize table) bad)

/-- TABLE_ROW_REPAIR (R131). -/
def execTableRowRepair (table row : Nat) (s : State) : Host.Outcome State Fault Refusal := done s (s.rowRepair (table % 4) (row % 4096))

/-- READ (R133). -/
def execTblRead (req ch table index : Nat) (s : State) : Host.Outcome State Fault Refusal :=
  done s (s.tblCommand req (ch % 7) (tblWord 1 table index) false)

/-- WRITE (R131, R133). -/
def execTblWrite (req ch table index : Nat) (differs : Bool) (s : State) : Host.Outcome State Fault Refusal :=
  done s (s.tblCommand req (ch % 7) (tblWord 2 table index) differs)

/-- INVAL (R133). -/
def execTblInval (req ch table index : Nat) (s : State) (differs : Bool := false) : Host.Outcome State Fault Refusal :=
  done s (s.tblCommand req (ch % 7) (tblWord 3 table index) differs)

/-- INSERT (R133). -/
def execTblInsert (req ch : Nat) (s : State) (differs : Bool := false) : Host.Outcome State Fault Refusal :=
  done s (s.tblCommand req (ch % 7) (tblWord 4 3 0) differs)

/-- DELETE (R133). -/
def execTblDelete (req ch : Nat) (s : State) (differs : Bool := false) : Host.Outcome State Fault Refusal :=
  done s (s.tblCommand req (ch % 7) (tblWord 5 3 0) differs)

/-- SEARCH (R133). -/
def execTblSearch (req ch : Nat) (s : State) : Host.Outcome State Fault Refusal :=
  done s (s.tblCommand req (ch % 7) (tblWord 6 3 0) false)

/-- FLUSH (R133). -/
def execTblFlush (req ch : Nat) (s : State) : Host.Outcome State Fault Refusal :=
  done s (s.tblCommand req (ch % 7) (tblWord 7 3 0) false)

/-- FLUSH_COMPLETE (R120); `rows` are the buckets whose read-back differed. -/
def execTblFlushComplete (s : State) (rows : List Nat := []) : Host.Outcome State Fault Refusal := done s (s.flushComplete rows)

/-- A write of SW_MCGRP[g] that changes it advances the table epoch (R160). -/
def State.mcgrpWrite (s : State) (g mask : Nat) : State :=
  if s.g (R.SW_MCGRP.MASK g) = mask % 2 ^ 28 then s else (s.p (R.SW_MCGRP.MASK g) mask).epochUp

/-- MCGRP_WRITE (R160). -/
def execMcgrpWrite (req g mask : Nat) (s : State) : Host.Outcome State Fault Refusal :=
  done s (s.byPort req (R.SW_MCGRP (g % 1024)) (W mask) false (fun t => t.mcgrpWrite (g % 1024) mask))

end Sys2Proof.Machine
end

