-- ==== Sys2Proof/Machine/Switch.lean ====
section
/-! DEFINITION. The Carcass: buffer admission and borrowing, XOFF, copies, the egress scheduler, plies and Dovetail,
age limits, output flush, spare ply (06, R140-R175). -/

namespace Sys2Proof.Machine

/-! ### Buffer and admission (R141-R145) -/

/-- Cells of the buffer (R140). -/
abbrev poolCells : Nat := 262144

/-- Cells that `n` bytes occupy (R141). -/
def cellsFor (n : Nat) : Nat := (n + 127) / 128

/-- Reservations honoured in ascending order until one would take the total above the pool (R143). -/
def honourFrom : Nat → List Nat → List Nat
  | _, [] => []
  | acc, m :: ms => if acc + m ≤ poolCells then m :: honourFrom (acc + m) ms else List.replicate (ms.length + 1) 0

/-- MIN of every (p, c) as written. -/
def State.mins (s : State) : List Nat := (List.range 224).map (fun n => s.g (R.SW_LIM.MIN n))
/-- MIN of every (p, c) as honoured (R143). -/
def State.honoured (s : State) : List Nat := honourFrom 0 s.mins
def State.minOf (s : State) (n : Nat) : Nat := s.honoured.getD n 0
def State.usedOf (s : State) (n : Nat) : Nat := s.g (R.SW_USED.USED n)

/-- Free cells of the shared pool: what no honoured reservation and no use above one takes (R142, R143). -/
def State.poolFree (s : State) : Nat :=
  poolCells - s.sw.gone - (s.honoured.zipIdx.map (fun m => max m.1 (s.usedOf m.2))).foldl (· + ·) 0

/-- The pool registers follow: FREE, RES, OVERCOMMIT and its level event (R143). -/
def State.poolTouch (s : State) : State :=
  let tooMuch := s.honoured != s.mins
  let s1 := ((s.p R.SW_POOL_STS.FREE s.poolFree).p R.SW_POOL_RES.RES (s.honoured.foldl (· + ·) 0)).pb R.SW_POOL_STS.OVERCOMMIT tooMuch
  if tooMuch then s1.ev R.SW_EVT.OVERCOMMIT else s1

/-- (p, c) is to enter XOFF (R145). -/
def State.xoffIn (s : State) (n : Nat) : Bool :=
  !s.on (R.SW_USED.XOFF n) && s.g (R.SW_FC.XOFF n) != 0 && decide (s.g (R.SW_FC.XOFF n) ≤ s.usedOf n)
/-- (p, c) is to leave XOFF (R145). -/
def State.xoffOut (s : State) (n : Nat) : Bool :=
  s.on (R.SW_USED.XOFF n) && (s.g (R.SW_FC.XOFF n) == 0 || decide (s.usedOf n ≤ s.g (R.SW_FC.XON n)))

/-- The XOFF states of a port follow its use; a MAC signals what changed (R101, R145). -/
def State.xoffTouch (s : State) (p : Nat) : State :=
  let on := (List.range 8).filter (fun c => s.xoffIn (8 * p + c))
  let off := (List.range 8).filter (fun c => s.xoffOut (8 * p + c))
  let s1 := s.each on (fun c t => (t.p (R.SW_USED.XOFF (8 * p + c)) 1).bump (R.SW_XOFF_LO p))
  let s2 := s1.each off (fun c t => t.p (R.SW_USED.XOFF (8 * p + c)) 0)
  if on.isEmpty && off.isEmpty then s else s2.xoffChange p (maskOf 8 on) (maskOf 8 off)

/-- Adds to, or takes from, the cells charged to (p, c). -/
def State.charge (s : State) (n k : Nat) : State := s.p (R.SW_USED.USED n) (s.usedOf n + k)
def State.uncharge (s : State) (n k : Nat) : State := s.p (R.SW_USED.USED n) (s.usedOf n - k)

/-- The unused reservation of a class (R144). -/
def State.unused (s : State) (n : Nat) : Nat := s.minOf n - s.usedOf n

/-- What classes 0-5 of a port lend to a need, lowest class first (R144). -/
def State.lend (s : State) (p : Nat) : Nat → List Nat → List (Nat × Nat)
  | _, [] => []
  | need, c :: cs =>
    let take := min need (s.unused (8 * p + c))
    if take = 0 then State.lend s p need cs else (c, take) :: State.lend s p (need - take) cs

/-- The verdict of R142 on `k` cells of (p, c): the cells charged to its own class and those borrowed. -/
def State.admission (s : State) (p c k : Nat) : Option (Nat × List (Nat × Nat)) :=
  let n := 8 * p + c
  let u := s.usedOf n
  let extra := (u + k - s.minOf n) - (u - s.minOf n)
  let free := s.poolFree
  if s.g (R.SW_LIM.MAX n) < u + k then none
  else if extra ≤ free then some (k, [])
  else if c = 7 then
    let l := s.lend p (extra - free) (List.range 6)
    if (l.map (·.2)).foldl (· + ·) 0 = extra - free then some (k - (extra - free), l) else none
  else none

/-- Decides admission and charges the cells (R142, R144); nothing is admitted while forwarding is held (R448). -/
def State.letIn (s : State) (p c k : Nat) : State × Option (Nat × List (Nat × Nat)) :=
  if s.held then (s.yield (if c = 7 then 4 else 6), none)
  else
    match s.admission p c k with
    | none => ((s.bump (R.SW_LIM_DROP_LO p)).ev R.SW_EVT.LIM_DROP, none)
    | some (own, lent) =>
      let s1 := s.charge (8 * p + c) own
      let s2 := s1.each lent (fun l t => t.charge (8 * p + l.1) l.2)
      let s3 := if lent.isEmpty then s2 else ((s2.bump (R.SW_BORROW_LO p)).yield 6).ev R.SW_EVT.BORROW
      ((s3.xoffTouch p).poolTouch, some (own, lent))

/-- Returns charged cells to the pool. -/
def State.returnCells (s : State) (p c own : Nat) (lent : List (Nat × Nat)) : State :=
  let s1 := s.uncharge (8 * p + c) own
  ((s1.each lent (fun l t => t.uncharge (8 * p + l.1) l.2)).xoffTouch p).poolTouch

/-- Takes `n` cells off the borrowed charges, the last borrowed first: what is left, what was taken, and how many of
the `n` remain (R142). -/
def takeLent : List (Nat × Nat) → Nat → List (Nat × Nat) × List (Nat × Nat) × Nat
  | [], n => ([], [], n)
  | (c, k) :: t, n =>
    let (left, took, m) := takeLent t n
    if m = 0 then ((c, k) :: left, took, 0)
    else if m < k then ((c, k - m) :: left, (c, m) :: took, 0)
    else (left, (c, k) :: took, m - k)

/-! ### Frames in the buffer -/

def noFrame : SwFrame := { f := {} }

/-- Frame number `id`. -/
def State.fr (s : State) (id : Nat) : SwFrame := s.sw.frames.get (fun _ => noFrame) id
def State.hasFr (s : State) (id : Nat) : Bool := (s.sw.frames.find? id).isSome
def State.setFr (s : State) (id : Nat) (x : SwFrame) : State :=
  { s with sw := { s.sw with frames := s.sw.frames.set (fun _ => noFrame) id x } }
def State.modFr (s : State) (id : Nat) (g : SwFrame → SwFrame) : State := if s.hasFr id then s.setFr id (g (s.fr id)) else s
def State.delFr (s : State) (id : Nat) : State := { s with sw := { s.sw with frames := s.sw.frames.del id } }

/-- Size of a frame in the buffer, FCS included. -/
def SwFrame.len (x : SwFrame) : Nat := x.f.bytes.length + 4
/-- Cells of the frame that are ready to cross the plies. -/
def SwFrame.ready (x : SwFrame) : Nat := if x.whole then cellsFor x.len else x.f.bytes.length / 128
/-- A copy has crossed the plies. -/
def SwFrame.crossed (x : SwFrame) (c : Copy) : Bool := x.whole && c.fetched && decide (cellsFor x.len ≤ c.got)

/-- The cells of a frame return to the pool when every copy has crossed the plies or has been dropped (R141). -/
def State.freeCells (s : State) (id : Nat) : State :=
  let x := s.fr id
  if (x.copies.isEmpty || (x.whole && !x.stream && x.copies.all x.crossed)) && (x.own != 0 || !x.lent.isEmpty) then
    (s.setFr id { x with own := 0, lent := [] }).returnCells x.f.ingress x.f.cls x.own x.lent
  else s

/-- A frame with no copy left leaves the device (R135, R161). -/
def State.cleanFr (s : State) (id : Nat) : State :=
  if !s.hasFr id then s
  else
    let s1 := s.freeCells id
    let x := s1.fr id
    if x.whole && !x.stream && x.copies.isEmpty then s1.delFr id else s1

/-! ### Outputs -/

def State.sched (s : State) (o : Nat) : Sched := s.sw.sched.get (fun _ => {}) o
def State.modSched (s : State) (o : Nat) (g : Sched → Sched) : State :=
  { s with sw := { s.sw with sched := s.sw.sched.set (fun _ => {}) o (g (s.sched o)) } }

/-- The copy of frame `x` at output `o`. -/
def SwFrame.copyAt (x : SwFrame) (o : Nat) : Option Copy := x.copies.find? (fun c => c.out == o)
def SwFrame.modCopy (x : SwFrame) (o : Nat) (g : Copy → Copy) : SwFrame :=
  { x with copies := x.copies.map (fun c => if c.out = o then g c else c) }

/-- Cells standing in the staging store of an output. -/
def State.stagedCells (s : State) (o : Nat) : Nat :=
  (s.sw.frames.map (fun p => match p.2.copyAt o with | some c => c.got | none => 0)).foldl (· + ·) 0
def State.stagedTouch (s : State) (o : Nat) : State := s.p (R.SW_OUT_STS.STAGED o) (s.stagedCells o)

/-- Room a fetched copy takes in the staging store: its cells, or those reserved for a frame still coming in. -/
def SwFrame.need (x : SwFrame) : Nat := if x.whole then cellsFor x.len else max x.own (cellsFor x.len)
/-- Cells promised to the frames an output has fetched. -/
def State.promised (s : State) (o : Nat) : Nat :=
  (s.sw.frames.map (fun p => match p.2.copyAt o with | some c => if c.fetched then p.2.need else 0 | none => 0)).foldl (· + ·) 0

/-- The tag operation of R114 on the bytes of a copy. The rule gives VID and PCP of the tag; its DEI bit is the model's choice:
0 (log 62). -/
def tagFor (f : Frame) (o : Nat) (b : List Byte) : List Byte :=
  if bit f.untag o then (if isTagged b then b.take 12 ++ b.drop 16 else b)
  else
    let tci := beBytes 2 (f.cls * 8192 + f.vid % 4096)
    b.take 12 ++ [0x81, 0x00] ++ tci ++ (if isTagged b then b.drop 16 else b.drop 12)

/-- The bytes of a copy, without padding and FCS: stripped of a verified trailer, tagged or untagged (R92, R187). -/
def SwFrame.body (x : SwFrame) (o : Nat) : List Byte := tagFor x.f o (x.f.bytes.take (x.f.bytes.length - x.strip))

/-- A copy padded to 64 bytes with its FCS, where it is shorter (R92). -/
def padded (b : List Byte) : List Byte := b ++ List.replicate (60 - b.length) 0

/-- What of a copy goes on the wire, but for the FCS (R92). -/
def SwFrame.wire (x : SwFrame) (o : Nat) : List Byte := padded (x.body o) ++ x.trailer

/-- The transmission of frame `id` at a port is over: the preemptable frame it interrupted goes on (R94). -/
def Port.txOver (q : Port) (id : Nat) : Port :=
  if q.txCut = some id then { q with txCut := q.txHeld, txHeld := none, interrupted := q.txHeld.isSome }
  else if q.txHeld = some id then { q with txHeld := none, interrupted := false }
  else q

/-- A frame cut through at a port is ended at once with the bit-inverse of its correct FCS (R88): of it the cells that have
reached the port are on the wire. -/
def State.stomp (s : State) (id o : Nat) : State :=
  let x := s.fr id
  let got := match x.copyAt o with | some c => c.got | none => 0
  let b := (x.body o).take (128 * got)
  ((s.bump (R.MAC_TX_STOMP_LO o)).ev (R.MAC_EVT.STOMP o)).modPort o (fun t =>
    { t.txOver id with sent := b ++ (fcsOf b).map (~~~ ·) })

/-- Whether the copy of frame `id` at output `o` is in transmission. -/
def State.inTx (s : State) (id o : Nat) : Bool :=
  decide (o < 24) && ((s.port o).txCut == some id || (s.port o).txHeld == some id)

/-- A copy is gone from the Carcass, sent or dropped. -/
def State.takeCopy (s : State) (id o : Nat) : State :=
  let s1 := s.modFr id (fun x => { x with copies := x.copies.filter (fun c => c.out != o) })
  let s2 := s1.modSched o (fun q => { q with exq := q.exq.filter (· != id), prq := q.prq.filter (· != id) })
  (s2.stagedTouch o).cleanFr id

/-- A copy is dropped; if its transmission has begun it is ended under R88. -/
def State.dropCopy (s : State) (id o : Nat) : State := (if s.inTx id o then s.stomp id o else s).takeCopy id o

/-- A frame is dropped whole: every copy, its cells, its place (R146, R177). -/
def State.dropFrame (s : State) (id : Nat) : State :=
  let x := s.fr id
  let s1 := s.each (x.copies.map (·.out)) (fun o t => t.dropCopy id o)
  if s1.hasFr id then
    let y := s1.fr id
    (s1.delFr id).returnCells y.f.ingress y.f.cls y.own y.lent
  else s1

/-- An output is UP for the Carcass (R163, R164). -/
def State.outUp (s : State) (o : Nat) : Bool := if 24 ≤ o then true else s.on (R.SW_OUT_STS.UP o)

/-- Rate in Mb/s of a port, or capacity of an internal one (R78, R147). -/
def State.rateOf (s : State) (p : Nat) : Nat :=
  if p = 24 then 50000 else if p = 25 then 10000 else if p = 26 then 2000 else if p = 27 then 40000
  else match s.g (R.MAC_STS.RATE p) with
    | 1 => 1000 | 2 => 2500 | 3 => 5000 | 4 => 10000 | 5 => 25000 | _ => 0

/-- MAX of an ingress port; that of an internal port is the largest frame (R87, R181). -/
def State.inMax (s : State) (p : Nat) : Nat := if p < 24 then s.maxFrame p else 9600

/-- A copy gains a C-VLAN tag at output `o` (R114). -/
def gainsTag (f : Frame) (o : Nat) : Bool := !isTagged f.bytes && !bit f.untag o

/-- The copy at output `o` cuts through (R89, R147, R180). -/
def State.cutsThrough (s : State) (f : Frame) (stream : Bool) (o : Nat) : Bool :=
  f.ct && !stream && decide (o < 24) && decide (s.rateOf o ≤ s.rateOf f.ingress) &&
    decide (s.inMax f.ingress + (if gainsTag f o then 4 else 0) ≤ s.maxFrame o)

/-- An age limit that is not applied because its time base is not that of the stamp (R165). -/
def State.ageTbErr (s : State) (f : Frame) : State :=
  if f.ageLim != 0 && f.ageTb != f.stampTb then (s.bump R.SW_AGE_TBERR_LO).ev R.SW_EVT.AGE_TBERR else s

/-- An admitted frame enters the buffer (R161, R162): a copy for every output of its mask that is UP, in the multicast
queue where the mask names two or more ports. Answers its number. -/
def State.enter (s : State) (f : Frame) (own : Nat) (lent : List (Nat × Nat)) (stream : Bool) : State × Nat :=
  let outs := bitsOf 28 f.dest
  let mc := decide (2 ≤ outs.length)
  let (up, down) := outs.partition s.outUp
  let s1 := (s.each down (fun o t => t.bump (R.SW_DOWN_DROP_LO o))).ageTbErr f
  let id := s1.sw.next
  let cs := up.map (fun o => { out := o, mcq := mc, ct := s.cutsThrough f stream o : Copy })
  let s2 := { s1 with sw := { s1.sw with next := id + 1 } }
  ((s2.setFr id { f := f, own := own, lent := lent, copies := cs, stream := stream }).freeCells id, id)

/-- Reception has ended: the frame keeps its actual cells and releases the rest (R142). -/
def State.settleCells (s : State) (id : Nat) (bytes : List Byte) : State :=
  let x := s.fr id
  let held := x.own + (x.lent.map (·.2)).foldl (· + ·) 0
  let keep := cellsFor (bytes.length + 4)
  let (left, took, m) := takeLent x.lent (held - keep)
  let own := x.own - m
  (s.setFr id { x with f := { x.f with bytes := bytes, size := bytes.length + 4 }, own := own, lent := left, whole := true }).returnCells
    x.f.ingress x.f.cls (x.own - own) took

/-- A whole frame without a stream context becomes eligible (R146). -/
def State.makeEligible (s : State) (id : Nat) : State :=
  (s.modFr id (fun x => { x with elig := true, stream := false })).cleanFr id

/-! ### Age limits (R165, R167) -/

/-- The age of a frame in 2^-32 ns; a negative age counts as zero. -/
def State.ageOf (s : State) (f : Frame) : Nat :=
  let d := (s.tbVal f.ageTb + (tvMod - f.stamp % tvMod)) % tvMod
  if tvMod / 2 ≤ d then 0 else d

/-- The frame has passed its age limit (R165); a limit on a time base that does not run is not applied (R279). -/
def State.tooOld (s : State) (f : Frame) : Bool :=
  f.ageLim != 0 && f.ageTb == f.stampTb && s.tbRun f.ageTb && decide (f.ageLim * 1000 * 4294967296 < s.ageOf f)

/-- A copy dropped for its age (R165, R175). One of class 7 gives way; so does one of another class that is lost while
forwarding is held (R30, R448). -/
def State.ageDrop (s : State) (id o : Nat) : State :=
  let c7 := (s.fr id).f.cls == 7
  let s1 := (s.bump (R.SW_AGE_DROP_LO o)).ev R.SW_EVT.AGE_DROP
  ((if c7 then s1.yield 4 else if s.held then s1.yield 6 else s1).modFr id (fun x => { x with aged := true })).dropCopy id o

/-- The queued copies of an output, in order of admission. -/
def State.queued (s : State) (o : Nat) : List (Nat × SwFrame × Copy) :=
  s.sw.frames.filterMap (fun p => match p.2.copyAt o with
    | some c => if c.fetched then none else some (p.1, p.2, c)
    | none => none)

/-- The heads of an output: per ingress port and class the copy admitted first to its VOQ, and to its view of the multicast
queue (R148, R161). -/
def headsFrom : List (Nat × Nat × Bool) → List (Nat × SwFrame × Copy) → List (Nat × SwFrame × Copy)
  | _, [] => []
  | seen, (id, x, c) :: t =>
    if seen.contains (x.f.ingress, x.f.cls, c.mcq) then headsFrom seen t
    else (id, x, c) :: headsFrom ((x.f.ingress, x.f.cls, c.mcq) :: seen) t
def State.heads (s : State) (o : Nat) : List (Nat × SwFrame × Copy) := headsFrom [] (s.queued o)

/-- One visit of the heads of an output: those past their limit are dropped. -/
def State.ageHeads (s : State) (o : Nat) : State :=
  s.each ((s.heads o).filter (fun h => s.tooOld h.2.1.f)) (fun h t => t.ageDrop h.1 o)

/-- Visits an output until no head is past its limit; `n` bounds the visits. -/
def State.agePass (s : State) (o : Nat) : Nat → State
  | 0 => s
  | n + 1 => if (s.heads o).any (fun h => s.tooOld h.2.1.f) then State.agePass (s.ageHeads o) o n else s

/-! ### Egress scheduling (R154-R156) -/

/-- Classes 7 and 6 go through the express MAC (R93). -/
def isExpress (c : Nat) : Bool := decide (6 ≤ c)

/-- Class `c` is stopped at output `o` by received PAUSE or PFC (R99, R154). -/
def State.paused (s : State) (o c : Nat) : Bool :=
  decide (o < 24) && (s.on (R.MAC_STS.TX_PAUSED o) || bit (s.g (R.MAC_STS.PFC_PAUSED o)) c)

/-- The heads of a class that may be fetched: eligible, or cutting through (R146, R147). -/
def State.cands (s : State) (o c : Nat) : List (Nat × SwFrame × Copy) :=
  if s.paused o c then [] else (s.heads o).filter (fun h => h.2.1.f.cls == c && (h.2.1.elig || h.2.2.ct))

/-- Number of a source: the VOQs and the multicast queue of each input (R154). -/
def srcNo (h : Nat × SwFrame × Copy) : Nat := 2 * h.2.1.f.ingress + (if h.2.2.mcq then 1 else 0)

/-- The next source in rotation after the one served last. -/
def rotNext (last : Nat) (l : List (Nat × SwFrame × Copy)) : Option (Nat × SwFrame × Copy) :=
  match minBy srcNo (l.filter (fun h => decide (last < srcNo h))) with
  | some h => some h
  | none => minBy srcNo l

def State.rrPick (s : State) (o c : Nat) : Option (Nat × SwFrame × Copy) :=
  rotNext ((s.sched o).rr.get (fun _ => 999) c) (s.cands o c)

/-- The frame being fetched by a MAC of an output has not all arrived (R154). -/
def State.fetching (s : State) (o : Nat) (ex : Bool) : Bool :=
  (if ex then (s.sched o).exq else (s.sched o).prq).any (fun id =>
    match (s.fr id).copyAt o with | some c => !(s.fr id).crossed c | none => false)

/-- EN of the shaper of class 5 or 4 at an output, and its idle slope (R155). -/
def State.cbsEn (s : State) (o c : Nat) : Bool := if c = 5 then s.on (R.SW_CBS5.EN o) else s.on (R.SW_CBS4.EN o)
def State.cbsIdle (s : State) (o c : Nat) : Nat := if c = 5 then s.g (R.SW_CBS5.IDLE o) else s.g (R.SW_CBS4.IDLE o)
def State.credit (s : State) (o c : Nat) : Int := (s.sched o).credit.get (fun _ => 0) c
def State.setCredit (s : State) (o c : Nat) (v : Int) : State :=
  s.modSched o (fun q => { q with credit := q.credit.set (fun _ => 0) c v })

/-- Class `c` has a frame waiting at output `o`. -/
def State.waits (s : State) (o c : Nat) : Bool := (s.queued o).any (fun h => h.2.1.f.cls == c)

/-- A class with no frame waiting loses a positive credit (R155). -/
def State.creditZero (s : State) (o c : Nat) : State := if !s.waits o c && decide (0 < s.credit o c) then s.setCredit o c 0 else s

/-- The fall of the credit while `bytes` are on the wire: the port rate minus the idle slope (R155). -/
def State.creditSpend (s : State) (o c bytes : Nat) : State :=
  if (c = 5 ∨ c = 4) ∧ s.cbsEn o c then
    let rate := s.rateOf o * 1000000
    let bits := (bytes * 8000000 : Nat)
    let slope := s.cbsIdle o c * 8000
    s.setCredit o c (s.credit o c - ((bits : Int) - ((bits * slope / max 1 rate : Nat) : Int)))
  else s

/-- QUANTUM of a class in bytes (R156). -/
def State.quantum (s : State) (o c : Nat) : Nat :=
  64 * max 1 (match c with
    | 3 => s.g (R.SW_SCHED.QUANTUM3 o) | 2 => s.g (R.SW_SCHED.QUANTUM2 o)
    | 1 => s.g (R.SW_SCHED.QUANTUM1 o) | _ => s.g (R.SW_SCHED.QUANTUM0 o))

def State.deficit (s : State) (o c : Nat) : Nat := (s.sched o).deficit.get (fun _ => 0) c
def State.setDeficit (s : State) (o c v : Nat) : State :=
  s.modSched o (fun q => { q with deficit := q.deficit.set (fun _ => 0) c v })
/-- The round moves to the next class: 3, 2, 1, 0 and again (R156). -/
def State.drrNext (s : State) (o : Nat) : State :=
  s.modSched o (fun q => { q with cur := if q.cur = 0 then 3 else q.cur - 1, visited := false })

/-- Deficit round robin over classes 3-0 (R156); `n` bounds the visits. Which size counts of a cut-through frame that is still
being received is the model's choice: the bytes that have come so far (log 63). -/
def State.drr (o : Nat) : Nat → State → State × Option (Nat × SwFrame × Copy)
  | 0, s => (s, none)
  | n + 1, s =>
    let c := (s.sched o).cur
    match s.rrPick o c with
    | none => State.drr o n ((if s.waits o c then s else s.setDeficit o c 0).drrNext o)
    | some h =>
      let s1 := if (s.sched o).visited then s
        else (s.setDeficit o c (s.deficit o c + s.quantum o c)).modSched o (fun q => { q with visited := true })
      if h.2.1.len ≤ s1.deficit o c then (s1.setDeficit o c (s1.deficit o c - h.2.1.len), some h)
      else State.drr o n (s1.drrNext o)

/-- The next frame of an output (R154): express classes in order, then 5 and 4 while their credit allows, then 3-0. -/
def State.nextFrame (s : State) (o : Nat) : State × Option (Nat × SwFrame × Copy) :=
  let exOk := !s.fetching o true
  let prOk := !s.fetching o false
  let shaped := fun c => if !s.cbsEn o c || decide (0 ≤ s.credit o c) then s.rrPick o c else none
  match (if exOk then (s.rrPick o 7).or (s.rrPick o 6) else none) with
  | some h => (s, some h)
  | none =>
    if !prOk then (s, none)
    else
      match (shaped 5).or (shaped 4) with
      | some h => (s, some h)
      | none => State.drr o 700 s

/-- A picked copy begins its fetch. -/
def State.startFetch (s : State) (o : Nat) (h : Nat × SwFrame × Copy) : State :=
  let c := h.2.1.f.cls
  let s1 := s.modFr h.1 (fun x => x.modCopy o (fun y => { y with fetched := true }))
  let s2 := s1.modSched o (fun q => { q with
    rr := q.rr.set (fun _ => 999) c (srcNo h),
    exq := if isExpress c then q.exq ++ [h.1] else q.exq,
    prq := if isExpress c then q.prq else q.prq ++ [h.1] })
  let s3 := (s2.creditZero o 5).creditZero o 4
  if c ≤ 3 ∧ !s3.waits o c then s3.setDeficit o c 0 else s3

/-- EGRESS_FETCH at output `o` (R154, R165): heads past their limit are dropped, then, unless PAUSE has been received, one
frame is fetched if the staging store has room for it. -/
def State.egressFetch (s : State) (o : Nat) : State :=
  if 28 ≤ o then s
  else
    let s1 := s.agePass o s.sw.frames.length
    if decide (o < 24) && s1.on (R.MAC_STS.TX_PAUSED o) then s1
    else
      match s1.nextFrame o with
      | (_, none) => s1
      | (s2, some h) => if s1.promised o + h.2.1.need ≤ 96 then s2.startFetch o h else s1

/-! ### Matcher, plies, Dovetail (R149-R153, R168-R171) -/

/-- State of a ply (SW_PLY_STS). -/
abbrev plySpare : Nat := 0
abbrev plyTraining : Nat := 1
abbrev plyActive : Nat := 2
abbrev plyDraining : Nat := 3
abbrev plyFailed : Nat := 4
def plyLoc (p : Nat) : Loc := ⟨R.SW_PLY_STS, 3 * p, 3⟩
def State.ply (s : State) (p : Nat) : Nat := s.g (plyLoc p)
def State.setPly (s : State) (p v : Nat) : State := s.p (plyLoc p) v
/-- The plies in service, in ascending order. -/
def State.inService (s : State) : List Nat := (List.range 5).filter (fun p => s.ply p == plyActive)

/-- The ply of an input's next cell: strict rotation over the plies in service (R151). -/
def State.nextPly (s : State) (i : Nat) : Option Nat :=
  let l := s.inService
  match l.find? (fun p => decide (s.sw.inPly.get (fun _ => 4) i < p)) with
  | some p => some p
  | none => l.head?

/-- What a matching cycle has given so far: cells sent per input, cells received per output, slots taken per ply. -/
structure Cyc where
  ins : Tab Nat := []
  outs : Tab Nat := []
  plies : Tab Nat := []
  deriving DecidableEq, Repr

/-- The cells an input is asked for: frame, output, class, of the fetched copies with a cell ready. -/
def State.asked (s : State) (i : Nat) (cy : Cyc) : List (Nat × Nat × Nat) :=
  s.sw.frames.flatMap (fun p =>
    if p.2.f.ingress != i then []
    else p.2.copies.filterMap (fun c =>
      if c.fetched && decide (c.sent < p.2.ready) && decide (cy.outs.get (fun _ => 0) c.out < 2) then some (p.1, c.out, p.2.f.cls)
      else none))

/-- Higher class first, and within a class the outputs in rotation after the one served last (R150). -/
def State.choose (s : State) (i : Nat) (l : List (Nat × Nat × Nat)) : Option (Nat × Nat × Nat) :=
  match maxBy (fun r : Nat × Nat × Nat => r.2.2) l with
  | none => none
  | some top =>
    let same := l.filter (fun r => r.2.2 == top.2.2)
    match minBy (fun r : Nat × Nat × Nat => r.2.1) (same.filter (fun r => decide (s.sw.inOut.get (fun _ => 27) i < r.2.1))) with
    | some r => some r
    | none => minBy (fun r : Nat × Nat × Nat => r.2.1) same

/-- Number of the pair of a source and a destination. -/
abbrev pairNo (src dst : Nat) : Nat := 32 * src + dst

/-- The header of a cell of frame `x` for output `o` (R149): `q` its sequence number, `k` its place in the frame, `n` its
payload bytes. TAG and VID are those of the copy's tag; a priority tag is one that the VID is still to be put into (log 63). -/
def cellHeader (x : SwFrame) (c : Copy) (q k n : Nat) (last : Bool) : List Word :=
  let f := x.f
  let first := k == 0
  let at0 := fun v => if first then v else 0
  let tag := if bit f.untag c.out then (if isTagged f.bytes then 2 else 0) else if isTagged f.bytes && tagVid f.bytes == f.vid then 0 else 1
  [ W (f.ingress * 2 ^ 27 + c.out * 2 ^ 22 + f.cls * 2 ^ 19 + (if first then 2 ^ 18 else 0) + (if last then 2 ^ 17 else 0) +
      (if 6 ≤ f.cls then 2 ^ 16 else 0) + q % 1024),
    W ((match f.ctx with | some n => (n % 256) * 2 ^ 16 + 2 ^ 15 | none => 0) + (if c.ct then 2 ^ 14 else 0) + n),
    W (at0 (f.stamp / 4294967296 % 2 ^ 32)),
    W (at0 (f.ageLim % 65536 * 2 ^ 16 + f.ageTb % 4 * 2 ^ 14 + tag * 2 ^ 12 + f.vid % 4096)) ]

/-- An input puts one cell on its next ply, if that ply has a slot left (R150, R151); `ok` are the classes whose turn it is. -/
def State.sendCell (ok : Nat → Bool) (s : State) (cy : Cyc) (i : Nat) : State × Cyc :=
  match s.nextPly i, s.choose i ((s.asked i cy).filter (fun r => ok r.2.2)) with
  | some p, some (id, o, _) =>
    if 2 ≤ cy.plies.get (fun _ => 0) p ∨ 2 ≤ cy.ins.get (fun _ => 0) i then (s, cy)
    else
      let x := s.fr id
      let y := (x.copyAt o).getD { out := o }
      let sent := y.sent
      let q := s.sw.seq.get (fun _ => 0) (pairNo i o)
      let last := x.whole && sent + 1 == cellsFor x.len
      let cell : Cell := { src := i, dst := o, frame := id, first := sent == 0, last := last, seq := q, ply := p,
                           hdr := cellHeader x y q sent (min 128 (x.len - 128 * sent)) last }
      let s1 := s.setFr id (x.modCopy o (fun c => { c with sent := c.sent + 1 }))
      ({ s1 with sw := { s1.sw with
          flight := s1.sw.flight ++ [cell], inPly := s1.sw.inPly.set (fun _ => 4) i p, inOut := s1.sw.inOut.set (fun _ => 27) i o,
          seq := s1.sw.seq.set (fun _ => 0) (pairNo i o) ((q + 1) % 1024) } },
       { ins := cy.ins.set (fun _ => 0) i (cy.ins.get (fun _ => 0) i + 1),
         outs := cy.outs.set (fun _ => 0) o (cy.outs.get (fun _ => 0) o + 1),
         plies := cy.plies.set (fun _ => 0) p (cy.plies.get (fun _ => 0) p + 1) })
  | _, _ => (s, cy)

/-- The level condition of R170: a ply has failed and none is SPARE. -/
def State.plyShort (s : State) : Bool :=
  (List.range 5).any (fun p => s.ply p == plyFailed) && !(List.range 5).any (fun p => s.ply p == plySpare)

/-- SPARE_EXH, DEGRADED and the fault of a missing spare follow the ply states (R170). -/
def State.plyTouch (s : State) (p : Nat) : State :=
  let short := s.plyShort
  let s1 := if short && !s.on R.FLT_DEGR.PLY then s.fault 85 (faultInfo 3 p 0) else s
  let s2 := s1.degrade R.FLT_DEGR.PLY short
  if short then s2.ev R.SW_EVT.SPARE_EXH else s2

/-- The spare, if any, goes into training (R168). -/
def State.bringSpare (s : State) : State :=
  match (List.range 5).find? (fun p => s.ply p == plySpare) with
  | some q => if s.on R.SW_PLY_CFG.AUTO then s.setPly q plyTraining else s
  | none => s

def State.dove (s : State) (i o : Nat) : Dove := s.sw.dove.get (fun _ => {}) (pairNo i o)
def State.setDove (s : State) (i o : Nat) (d : Dove) : State :=
  { s with sw := { s.sw with dove := s.sw.dove.set (fun _ => {}) (pairNo i o) d } }

/-- A frame loses a cell on the way to an output: its copy there is discarded and counted once (R153). -/
def State.reseqDrop (s : State) (id o : Nat) : State :=
  match (s.fr id).copyAt o with
  | some _ => ((s.bump (R.SW_RESEQ_DROP_LO o)).ev R.SW_EVT.RESEQ_DROP).dropCopy id o
  | none => s

/-- The queue that takes a copy at HOST or MGT: Q of the flow entry where it belongs to the port; the spec names no
queue for another copy, and it is a free one (log 32). -/
def State.queueFor (s : State) (f : Frame) (o : Nat) : State × Nat × Nat :=
  if portOfQueue f.queue = o ∧ f.queue < 64 then (s, f.queue, f.reason)
  else (s.used, (if o = 24 then 0 else 32) + s.freeNat % 32, 0)

/-- An internal port takes a copy that has crossed the plies (R164): a queue of HOST or MGT, the gateway, the
recorder. A copy that a mask sends to REC without a tap has no ring of its own, and the spec names none: ring 0 records it, with
the bytes as received (log 62). -/
def State.deliver (s : State) (x : SwFrame) (o : Nat) : State :=
  let b := x.body o ++ x.trailer
  let s0 := s.creditSpend o x.f.cls (b.length + 4)
  if o = 26 then { s0 with sw := { s0.sw with canbq := s0.sw.canbq ++ [{ x.f with bytes := b }] } }
  else if o = 27 then
    { s0 with sw := { s0.sw with recq := s0.sw.recq ++ [(x.ring.getD 0, { x.f with bytes := x.f.bytes ++ x.trailer })] } }
  else
    let (s1, q, reason) := s0.queueFor x.f o
    s1.qFrame q (ethEntry 0 x.f.ingress x.f.cls reason x.f.flow x.f.stampTb x.f.stamp (b ++ fcsOf b))

/-- A cell is released to its output: it joins its copy; a copy whole at an internal port is taken (R153, R164). -/
def State.landCell (s : State) (c : Cell) : State :=
  match (s.fr c.frame).copyAt c.dst with
  | none => s
  | some _ =>
    let s1 := (s.modFr c.frame (fun x => x.modCopy c.dst (fun y => { y with got := y.got + 1 }))).stagedTouch c.dst
    let x := s1.fr c.frame
    match x.copyAt c.dst with
    | some y => if x.crossed y && decide (24 ≤ c.dst) then (s1.deliver x c.dst).takeCopy c.frame c.dst else s1.cleanFr c.frame
    | none => s1

/-- Releases the cells that stand in order at Dovetail; after a lost one everything up to the next FIRST is discarded, and with
each cell the copy of its frame, which counts once (R153, R169, log 63). `n` bounds the cells. -/
def State.releaseCells (i o : Nat) : Nat → State → State
  | 0, s => s
  | n + 1, s =>
    let d := s.dove i o
    match d.held.find? (fun c => c.seq == d.next) with
    | none => s
    | some c =>
      let skip := if c.lost then true else d.skip && !c.first
      let s1 := s.setDove i o { next := (d.next + 1) % 1024, held := d.held.filter (fun x => x.seq != c.seq), skip := skip }
      State.releaseCells i o n (if skip then s1.reseqDrop c.frame o else s1.landCell c)

/-- A gap is lost (R153): the frames of the missing cells are discarded, and Dovetail goes on beyond the gap. -/
def State.gapLost (s : State) (i o : Nat) : State :=
  let d := s.dove i o
  match minBy (fun c : Cell => (c.seq + 1024 - d.next) % 1024) d.held with
  | none => s
  | some c =>
    let gap := (c.seq + 1024 - d.next) % 1024
    if gap = 0 then s
    else
      let missing := s.sw.flight.filter (fun x => x.src == i && x.dst == o && decide ((x.seq + 1024 - d.next) % 1024 < gap))
      let s1 := s.each (missing.map (·.frame)).eraseDups (fun id t => t.reseqDrop id o)
      State.releaseCells i o 1024 (s1.setDove i o { d with next := c.seq, skip := true })

/-- A cell arrives at Dovetail (R153): released in order, held ahead of a gap, or too late. -/
def State.cellArrives (s : State) (c : Cell) : State :=
  let d := s.dove c.src c.dst
  if 512 ≤ (c.seq + 1024 - d.next) % 1024 then s
  else
    let s1 := State.releaseCells c.src c.dst 1024 (s.setDove c.src c.dst { d with held := d.held ++ [c] })
    if 64 ≤ ((s1.dove c.src c.dst).held.filter (fun x => !x.lost)).length then s1.gapLost c.src c.dst else s1

/-- A ply is FAILED: event, count and fault source (R168, R169). -/
def State.plyBad (s : State) (p : Nat) : State :=
  (((s.setPly p plyFailed).ev R.SW_EVT.PLY_FAIL).bump R.SW_PLY_FAIL_LO).fault (80 + p) (faultInfo 3 p 0)

/-- A ply carries cells: ACTIVE, or DRAINING until it is empty (R168). -/
def State.plyCarries (s : State) (p : Nat) : Bool := decide (p < 5) && (s.ply p == plyActive || s.ply p == plyDraining)

/-- A ply that carries cells fails (R152, R168, R169): it leaves the rotation, its cells in flight are lost, the spare trains.
R168 names no next state of a DRAINING one: it fails as an ACTIVE one does (log 63). -/
def State.plyFail (s : State) (p : Nat) : State :=
  if !s.plyCarries p then s
  else
    let s1 := s.plyBad p
    let (lost, left) := s1.sw.flight.partition (fun c => c.ply == p)
    let s2 := { s1 with sw := { s1.sw with flight := left, replaced := some p } }
    let s3 := s2.each lost (fun c t =>
      (((t.bump R.SW_PLY_LOSS_LO).ev R.SW_EVT.PLY_LOSS).reseqDrop c.frame c.dst).cellArrives { c with lost := true })
    let s4 := (s3.bringSpare).plyTouch p
    if s4.inService.isEmpty then s4.fault 86 (faultInfo 3 p 0) else s4

/-- A cell failed its CRC and was sent again on the same ply (R152). -/
def State.plyRetry (s : State) (p : Nat) : State :=
  if !s.plyCarries p then s
  else
    let l := s.tick :: (s.sw.retries.get (fun _ => []) p).filter (fun t => decide (s.tick < t + 500000))
    let s1 := (s.bump R.SW_PLY_RETRY_LO)
    let s2 := { s1 with sw := { s1.sw with retries := s1.sw.retries.set (fun _ => []) p l } }
    if max 1 (s.g R.SW_PLY_CFG.ERR_LIM) ≤ l.length then
      ({ s2 with sw := { s2.sw with retries := s2.sw.retries.del p } }).plyFail p
    else s2

/-- The classes served one after the other in a matching cycle: with more than two plies in service an input's choice of class
alone counts (R150); with fewer the slots are shared in the order of R154 (R170). -/
def State.ranks (s : State) : List (Nat → Bool) :=
  if 2 < s.inService.length then [fun _ => true] else [(decide <| 7 ≤ ·), (· == 6), (· == 5), (· == 4), (decide <| · ≤ 3)]

/-- One matching cycle (R150): the inputs in turn, up to two cells each, then the retries of the cycle. -/
def State.matchCycle (s : State) (retried : List Nat) : State :=
  let order := (List.range 28).map (fun k => (s.sw.turn + k) % 28)
  let r := s.ranks.foldl (fun (a : State × Cyc) ok => (order ++ order).foldl (fun (b : State × Cyc) i => b.1.sendCell ok b.2 i) a) (s, {})
  let s1 := { r.1 with sw := { r.1.sw with turn := (s.sw.turn + 1) % 28 } }
  s1.each retried (fun p t => t.plyRetry p)

/-! ### Output state (R163, R164) -/

/-- Outputs 24-27 read UP after commit (R164, SW_OUT_STS). -/
def State.intUp (s : State) : State := s.each [24, 25, 26, 27] (fun o t => t.p (R.SW_OUT_STS.UP o) 1)

/-- Output `o` reaches UP (R163): at once, or when a flush in progress completes. -/
def State.swUp (s : State) (o : Nat) : State := if s.on (R.SW_OUT_STS.FLUSHING o) then s else s.p (R.SW_OUT_STS.UP o) 1

/-- Output `o` leaves UP: every copy queued or staged for it is discarded (R163). -/
def State.swDown (s : State) (o : Nat) : State :=
  if !s.on (R.SW_OUT_STS.UP o) then s
  else
    let s1 := ((s.p (R.SW_OUT_STS.UP o) 0).p (R.SW_OUT_STS.FLUSHING o) 1).ev R.SW_EVT.FLUSH
    let ids := s.sw.frames.filterMap (fun p => (p.2.copyAt o).map (fun _ => p.1))
    s1.each ids (fun id t => (t.bump (R.SW_FLUSH_DROP_LO o)).takeCopy id o)

/-! ### Transmission (R88, R92-R94) -/

/-- Split points of a preemptable frame are ones R94 permits: each fragment carries at least 60 + 64 x ADD_FRAG bytes
of frame data and at least 60 remain for the last. -/
def cutsOk (add total : Nat) : Nat → List Nat → Bool
  | at0, [] => decide (at0 + 60 ≤ total) || at0 == 0
  | at0, c :: cs => decide (at0 + 60 + 64 * add ≤ c) && cutsOk add total c cs

/-- Preemption is active at a port (R95). -/
def State.preempting (s : State) (p : Nat) : Bool :=
  let v := s.g (R.MAC_MM_STS.VSTATE p)
  s.portUp p && (v == 3 || v == 5)

/-- MAX that judges a copy at a port: the one in force when its transmission began (R87). -/
def State.txMax (s : State) (id o : Nat) : Nat := ((s.fr id).copyAt o).bind (·.max) |>.getD (s.maxFrame o)

/-- A copy leaves at a MAC, padded, trailered and size-checked (R92); `cuts` are the bytes at which express frames
split it. An express one that begins while a preemptable one is in transmission interrupts it (R94). -/
def State.sendCopy (s : State) (o id : Nat) (cuts : List Nat) : State :=
  let x := s.fr id
  let b := x.wire o
  let s0 := if (x.body o).length < 60 then s.bump (R.MAC_TX_PAD_LO o) else s
  let done' := fun t : State => (t.modPort o (fun q => q.txOver id)).takeCopy id o
  if s.txMax id o < b.length + 4 then done' ((s0.bump (R.MAC_TX_LIMIT_LO o)).ev (R.MAC_EVT.TX_LIMIT o))
  else
    let s1 := ((s0.bump (R.MAC_TX_FRAMES_LO o)).bumpBy (R.MAC_TX_OCTETS_LO o) (b.length + 4)).bumpBy (R.MAC_MM_FRAG_TX_LO o) cuts.length
    let counts := !isExpress x.f.cls && (s.preempting o || (s.port o).interrupted)
    done' ((s1.creditSpend o x.f.cls (b.length + 4)).modPort o (fun q => { q with
      sent := b ++ fcsOf b, frameCount := if counts then (q.frameCount + 1) % 4 else q.frameCount,
      interrupted := q.interrupted || (isExpress x.f.cls && q.txCut.isSome && q.txCut != some id) }))

/-- The staged copy that a MAC of output `o` goes on with or sends next: the one in transmission, else the first in order
whose class is not paused (R99, R154). -/
def State.macPick (s : State) (o : Nat) (ex : Bool) : Option Nat :=
  let l := if ex then (s.sched o).exq else (s.sched o).prq
  match l.find? (fun id => s.inTx id o) with
  | some id => some id
  | none => l.find? (fun id => !s.paused o (s.fr id).f.cls)

/-- A staged copy can start at a MAC: it has crossed, or cuts through and its first cell is there. -/
def State.txReady (s : State) (o id : Nat) : Bool :=
  match (s.fr id).copyAt o with
  | some c => (s.fr id).crossed c || (c.ct && decide (0 < c.got))
  | none => false

/-- An express frame stands ready at output `o`: no preemptable frame starts before it (R93). -/
def State.expressReady (s : State) (o : Nat) : Bool := match s.macPick o true with | some id => s.txReady o id | none => false

/-- The MACs of output `o` are free for frame `id`: nothing is in transmission, or it is, or it is express and interrupts a
preemptable frame where preemption is active (R94, R95). -/
def State.txFree (s : State) (o id : Nat) (ex : Bool) : Bool :=
  match (s.port o).txCut with
  | none => true
  | some j => j == id || (ex && s.preempting o && (s.port o).txHeld.isNone && !isExpress (s.fr j).f.cls)

/-- A cut-through copy begins its transmission; a preemptable one it interrupts waits (R94). -/
def State.txBegin (s : State) (o id : Nat) : State :=
  let m := s.maxFrame o
  (s.modFr id (fun x => x.modCopy o (fun c => { c with max := some m }))).modPort o (fun q => { q with
    txCut := some id, txHeld := q.txCut, interrupted := q.txCut.isSome })

/-- FRAME_TRANSMIT at an external port by its express or preemptable MAC: the next staged copy is sent, or a
cut-through copy begins or ends its transmission. A copy past its age limit does not start; a preemptable one does not start
while an express one is ready (R92, R93, R99, R165, R448). -/
def State.transmit (s : State) (o : Nat) (ex : Bool) (cuts : List Nat) : State :=
  if 24 ≤ o || !s.portUp o then s
  else
    match s.macPick o ex with
    | none => s
    | some id =>
      let x := s.fr id
      let begun := s.inTx id o
      let splits := s.preempting o || (begun && (s.port o).interrupted)
      let okCuts := cuts.isEmpty || (!ex && splits && cutsOk (s.g (R.MAC_MM_CFG.ADD_FRAG o)) (x.wire o).length 0 cuts)
      match x.copyAt o with
      | none => s
      | some c =>
        if !okCuts || !s.txFree o id ex || (!begun && (s.held || (!ex && s.expressReady o))) then s
        else if !begun && s.tooOld x.f then s.ageDrop id o
        else if x.crossed c then s.sendCopy o id cuts
        else if c.ct && decide (0 < c.got) && !begun then s.txBegin o id
        else s

/-! ### Meanings of the Carcass rows -/

/-- The `n`-th cell in flight arrives (R153). -/
def State.arrive (s : State) (n : Nat) : State :=
  match s.sw.flight[n]? with
  | none => s
  | some c => { s with sw := { s.sw with flight := s.sw.flight.eraseIdx n } }.cellArrives c

/-- EGRESS_FETCH (R154). -/
def execEgressFetch (out : Nat) (s : State) : Host.Outcome State Fault Refusal := done s (s.egressFetch out)

/-- AGE_SCAN (R167): every head of every output is visited once. -/
def execAgeScan (s : State) : Host.Outcome State Fault Refusal := done s (s.each (List.range 28) (fun o t => t.ageHeads o))

/-- A multicast copy not fetched in time is dropped (R162): the oldest that is eligible, by R146, in an output's view of the
multicast queue of an input and class. -/
def State.mcTimeout (s : State) (o i c : Nat) : State :=
  match (s.queued o).find? (fun h => h.2.2.mcq && h.2.1.f.ingress == i && h.2.1.f.cls == c && (h.2.1.elig || h.2.2.ct)) with
  | some h => ((s.bump (R.SW_MC_TMO_LO o)).ev R.SW_EVT.MC_TMO).dropCopy h.1 o
  | none => s

/-- MC_TMO (R162). -/
def execMcTmo (out ingress cls : Nat) (s : State) : Host.Outcome State Fault Refusal := done s (s.mcTimeout (out % 28) ingress cls)

/-- OUTPUT_FLUSH_COMPLETE (R163). -/
def State.flushDone (s : State) (o : Nat) : State :=
  if 24 ≤ o || !s.on (R.SW_OUT_STS.FLUSHING o) then s
  else (s.p (R.SW_OUT_STS.FLUSHING o) 0).pb (R.SW_OUT_STS.UP o) (s.portUp o && s.pins.forwarding)
def execOutputFlushComplete (out : Nat) (s : State) : Host.Outcome State Fault Refusal := done s (s.flushDone out)

/-- The training ply's self-test ends (R168, R458). -/
def State.plyReady (s : State) (p : Nat) (pass : Bool) : State :=
  if 5 ≤ p || s.ply p != plyTraining then s
  else if pass then
    let s1 := (s.setPly p plyActive).ev R.SW_EVT.PLY_READY
    match s.sw.replaced with
    | some f => ({ s1 with sw := { s1.sw with replaced := none } }.shimRepair repPly 5 f f p).plyTouch p
    | none => s1.plyTouch p
  else
    (s.plyBad p).plyTouch p

/-- PLY_READY (R168). -/
def execPlyReady (ply : Nat) (pass : Bool) (s : State) : Host.Outcome State Fault Refusal := done s (s.plyReady ply pass)

/-- A DRAINING ply is empty: the spare, if any, is brought in, and the ply is SPARE (R168). -/
def State.plyDrained (s : State) (p : Nat) : State :=
  if 5 ≤ p || s.ply p != plyDraining || s.sw.flight.any (fun c => c.ply == p) then s
  else (s.bringSpare.setPly p plySpare).plyTouch p

/-- PLY_DRAINED (R168). -/
def execPlyDrained (ply : Nat) (s : State) : Host.Outcome State Fault Refusal := done s (s.plyDrained ply)

/-- Plies ACTIVE or TRAINING other than `p`. -/
def State.otherPlies (s : State) (p : Nat) : Nat :=
  ((List.range 5).filter (fun q => q != p && (s.ply q == plyActive || s.ply q == plyTraining))).length

/-- Whether SW_PLY_CMD accepts an operation on a ply (R171): 1 RETIRE, 2 RETEST. -/
def State.plyCmdOk (s : State) (op p : Nat) : Bool :=
  decide (p < 5) && ((op == 1 && s.ply p == plyActive && decide (3 ≤ s.otherPlies p)) || (op == 2 && s.ply p == plyFailed))

/-- A write of SW_PLY_CMD (R48, R171): RETIRE acts at once, RETEST stays busy until its test ends. -/
def State.plyAct (s : State) (req : Nat) (val : Word) : State :=
  let op := fieldOf val 0 3
  let p := fieldOf val 3 3
  s.command req R.SW_PLY_CMD val (s.plyCmdOk op p) (if op = 2 then statBusy else statDone)
      (fun u => if op = 1 then u.setPly p plyDraining else u)

/-- Such a write at its requester's port. -/
def State.plyCommand (s : State) (req : Nat) (val : Word) : State :=
  s.byPort req R.SW_PLY_CMD val false (fun t => t.plyAct req val)

/-- RETIRE (R171). -/
def execPlyRetire (req ply : Nat) (s : State) : Host.Outcome State Fault Refusal := done s (s.plyCommand req (W (8 * (ply % 8) + 1)))

/-- RETEST (R171). -/
def execPlyRetest (req ply : Nat) (s : State) : Host.Outcome State Fault Refusal := done s (s.plyCommand req (W (8 * (ply % 8) + 2)))

/-- A ply retest completes (R168, R171). -/
def State.plyRetestDone (s : State) (pass : Bool) : State :=
  if s.stat R.SW_PLY_CMD != statBusy then s
  else
    let p := s.g R.SW_PLY_CMD.PLY
    if pass then
      ((s.setStat R.SW_PLY_CMD statDone).setPly p plySpare).plyTouch p
    else s.setStat R.SW_PLY_CMD statFailed

/-- PLY_RETEST_DONE (R171). -/
def execPlyRetestDone (pass : Bool) (s : State) : Host.Outcome State Fault Refusal := done s (s.plyRetestDone pass)

/-! ### Table drains (R135) -/

/-- A frame classified under an epoch below `ep`: behind it by less than half the counter's range. -/
def epochBelow (e ep : Nat) : Bool := let d := (ep + 4294967296 - e % 4294967296) % 4294967296; d != 0 && decide (d < 2147483648)

/-- A frame classified under an epoch below TBL_DRAIN_EP remains in the device (R135). -/
def State.olderFrames (s : State) : Bool :=
  let ep := (s.rd R.TBL_DRAIN_EP).toNat
  s.sw.frames.any (fun p => epochBelow p.2.f.epoch ep) || s.sw.canbq.any (fun f => epochBelow f.epoch ep) ||
    s.sw.recq.any (fun r => epochBelow r.2.epoch ep)

/-- A write of TBL_DRAIN (R135). -/
def State.drainAct (s : State) (req : Nat) (val : Word) : State :=
  s.command req R.TBL_DRAIN val true statBusy (fun u => u.wr R.TBL_DRAIN_EP (u.rd R.TBL_EPOCH))

/-- TBL_DRAIN (R135). -/
def execTblDrain (req tmo : Nat) (s : State) : Host.Outcome State Fault Refusal :=
  done s (s.byPort req R.TBL_DRAIN (W (tmo % 65536)) false (fun t => t.drainAct req (W (tmo % 65536))))

/-- DRAINED (R135): the drain completes once no older frame remains. -/
def State.drained (s : State) : State :=
  if s.stat R.TBL_DRAIN != statBusy || s.olderFrames then s
  else (s.setStat R.TBL_DRAIN statDone).ev R.TBL_EVT.DRAINED
def execTblDrained (s : State) : Host.Outcome State Fault Refusal := done s s.drained

/-- DRAIN_TMO (R135). -/
def State.drainTmo (s : State) : State :=
  if s.stat R.TBL_DRAIN != statBusy then s
  else ((s.setStat R.TBL_DRAIN statFailed).ev R.TBL_EVT.DRAIN_TMO).bump R.TBL_DRAIN_TMO_LO
def execTblDrainTmo (s : State) : Host.Outcome State Fault Refusal := done s s.drainTmo

end Sys2Proof.Machine
end

