-- ==== Sys2Proof/Machine/Stream.lean ====
section
/-! DEFINITION. Stream contexts: state check, meter, MAXSDU, trailer, replay window, sequence recovery, key rollover,
generation, watchdog, tap (07, R176-R203). -/

namespace Sys2Proof.Machine

/-- States of a context (STR_STS.STATE). -/
abbrev ctxDisabled : Nat := 0
abbrev ctxActive : Nat := 1
abbrev ctxSilent : Nat := 2
abbrev ctxBlocked : Nat := 3
abbrev ctxExhausted : Nat := 4
abbrev ctxNoRes : Nat := 5

def State.ctx (s : State) (n : Nat) : StrCtx := s.str.get (fun _ => {}) n
def State.modCtx (s : State) (n : Nat) (f : StrCtx → StrCtx) : State := { s with str := s.str.set (fun _ => {}) n (f (s.ctx n)) }
def State.ctxState (s : State) (n : Nat) : Nat := s.g (R.STR_STS.STATE n)
def State.setCtxState (s : State) (n v : Nat) : State := s.p (R.STR_STS.STATE n) v

/-- Fields sampled at EN (R199). -/
def StrCtx.auth (c : StrCtx) : Nat := fieldOf c.cfg 28 3
def StrCtx.tagLen (c : StrCtx) : Nat := if bit c.cfg.toNat 27 then 16 else 8
def StrCtx.seqEn (c : StrCtx) : Bool := bit c.cfg.toNat 26
def StrCtx.takeNoSeq (c : StrCtx) : Bool := bit c.cfg.toNat 25
def StrCtx.wdEn (c : StrCtx) : Bool := bit c.cfg.toNat 24
def StrCtx.armFirst (c : StrCtx) : Bool := bit c.cfg.toNat 23
def StrCtx.tapRing (c : StrCtx) : Nat := fieldOf c.cfg 16 6
def StrCtx.blockOvs (c : StrCtx) : Bool := bit c.cfg.toNat 15
def StrCtx.autoRoll (c : StrCtx) : Bool := bit c.cfg.toNat 14
def StrCtx.persist (c : StrCtx) : Bool := bit c.cfg.toNat 13
def StrCtx.verifies (c : StrCtx) : Bool := c.auth == 1 || c.auth == 2

/-- A frame of the context waits for step 10 (R180). -/
def StrCtx.waits (c : StrCtx) : Bool := c.auth != 0 || c.seqEn

/-- An alarm of a context, with the recorder triggers it is (R201, R435 bits 1 and 2). -/
def State.alarm (s : State) (l : Loc) : State := s.ev l
def State.tapTrigger (s : State) (n b : Nat) : State :=
  if s.on (R.STR_CFG.TAP_EN n) then s.ringTrigger (s.ctx n).tapRing b else s

/-- STR_BUDGET follows the enabled verifying contexts (R183). -/
def State.budgetTouch (s : State) : State :=
  let l := (s.str.filter (fun p => p.2.verifies && s.on (R.STR_CFG.EN p.1) && s.ctxState p.1 != ctxDisabled)).map (·.1)
  let sum := (l.map (fun n => s.g (R.STR_METER.CIR n))).foldl (· + ·) 0
  let excess := decide (64000 < sum)
  let unm := l.any (fun n => s.g (R.STR_METER.CIR n) == 0)
  let s1 := ((s.p R.STR_BUDGET.SUM (min sum 0x1FFFF)).pb R.STR_BUDGET.OVER excess).pb R.STR_BUDGET.UNMETERED unm
  if excess || unm then s1.ev R.STR_EVT0.BUDGET else s1

/-- PEND shows the frames awaiting a verdict or a tag. -/
def State.pendTouch (s : State) (n : Nat) : State := s.p (R.STR_STS.PEND n) (s.ctx n).pend.length

/-! ### Steps 1-3: state, meter, size (R177-R182) -/

/-- The meter's bucket now: filled at CIR up to CBS (R181). -/
def State.bucketNow (s : State) (n : Nat) : Nat :=
  let c := s.ctx n
  min (s.g (R.STR_METER.CBS n) * 256000) (c.bucket + s.g (R.STR_METER.CIR n) * (s.tick - c.filled))
def State.setBucket (s : State) (n v : Nat) : State := s.modCtx n (fun c => { c with bucket := v, filled := s.tick })

/-- A reservation, or part of it, returns to the bucket. -/
def State.meterReturn (s : State) (n bytes : Nat) : State :=
  if bytes = 0 then s else s.setBucket n (min (s.g (R.STR_METER.CBS n) * 256000) (s.bucketNow n + 4000 * bytes))

/-- Step 1 (R178): what a context that is not ACTIVE or SILENT does with a frame. -/
def State.refusedBy (s : State) (n : Nat) : State :=
  match s.ctxState n with
  | 3 => s.bump (R.STR_SDU_DROP_LO n)
  | 4 => (s.bump (R.STR_FRESH_EXH_LO n)).yield 6
  | _ => s.bump (R.STR_DIS_DROP_LO n)

/-- Steps 1 and 2 at the first cell (R178, R179, R181): the class it goes on in and the bytes reserved, or none. -/
def State.strFirst (s : State) (n p cls : Nat) : State × Option (Nat × Nat) :=
  let st := s.ctxState n
  if st != ctxActive && st != ctxSilent then (s.refusedBy n, none)
  else
    let demote := cls == 7 && !(s.ctx n).verifies
    let s1 := if demote then s.bump (R.STR_DEMOTE_LO n) else s
    let c := if demote then 6 else cls
    if s.g (R.STR_METER.CIR n) = 0 then (s1, some (c, 0))
    else
      let need := s.inMax p
      if 4000 * need ≤ s.bucketNow n then (s1.setBucket n (s.bucketNow n - 4000 * need), some (c, need))
      else ((s1.bump (R.STR_METER_DROP_LO n)).alarm (R.STR_ALARM.METER n), none)

/-- The MAXSDU check fails for a frame of `len` bytes (R182). -/
def State.sduFails (s : State) (n len : Nat) : Bool := s.g (R.STR_LIM.MAXSDU n) != 0 && decide (s.g (R.STR_LIM.MAXSDU n) < len)

/-- An oversize frame is dropped, and may block the context (R182, R199). -/
def State.sduDrop (s : State) (n : Nat) : State :=
  let s1 := s.bump (R.STR_SDU_DROP_LO n)
  let st := s.ctxState n
  if (s.ctx n).blockOvs && (st == ctxActive || st == ctxSilent) then (s1.setCtxState n ctxBlocked).alarm (R.STR_ALARM.BLOCKED n)
  else s1

/-! ### The Ziash trailer (R184-R186) -/

/-- The bytes a CMAC covers: without a C-VLAN tag, and the trailer up to its tag (R185). -/
def macInput (body trailer : List Byte) : List Byte := (if isTagged body then body.take 12 ++ body.drop 16 else body) ++ trailer.take 12

/-- TYPE of a trailer. -/
def trailerType (tagLen : Nat) : Nat := if tagLen = 16 then 0x5A10 else 0x5A08

/-- The freshness limit (R187, R194). -/
abbrev freshLimit : Nat := 0xFFFFFFFFFFFF0000

/-- The entry whose label matches: A before B (R187). -/
def State.entryFor (s : State) (n label : Nat) : Option Nat :=
  if s.on (R.STR_KEYA.VALID n) && s.g (R.STR_KEYA.LABEL n) == label then some 0
  else if s.on (R.STR_KEYB.VALID n) && s.g (R.STR_KEYB.LABEL n) == label then some 1
  else none
def State.entryValid (s : State) (n e : Nat) : Bool := if e = 0 then s.on (R.STR_KEYA.VALID n) else s.on (R.STR_KEYB.VALID n)
def State.entrySlot (s : State) (n e : Nat) : Nat := if e = 0 then s.g (R.STR_KEYA.SLOT n) else s.g (R.STR_KEYB.SLOT n)
def State.entryLabel (s : State) (n e : Nat) : Nat := if e = 0 then s.g (R.STR_KEYA.LABEL n) else s.g (R.STR_KEYB.LABEL n)
def State.setEntryValid (s : State) (n e : Nat) (b : Bool) : State := if e = 0 then s.pb (R.STR_KEYA.VALID n) b else s.pb (R.STR_KEYB.VALID n) b

/-- HIGH, or the last freshness sent, and the replay map (STR_FRESH, STR_WIN). -/
def State.high (s : State) (n : Nat) : Nat := s.rd64 (R.STR_FRESH_LO n)
def State.win (s : State) (n : Nat) : Nat := s.rd64 (R.STR_WIN_LO n)

/-- Freshness `f` passes a window of HIGH `h` and map `m` (R189). -/
def windowPasses (h m f : Nat) : Bool := decide (h < f) || (decide (h < f + 64) && !bit m (h - f))
/-- HIGH and the map once freshness `f` has been accepted (R189). -/
def windowTake (h m f : Nat) : Nat × Nat :=
  if h < f then (f, if 64 ≤ f - h then 1 else (m * 2 ^ (f - h) + 1) % 2 ^ 64) else (h, setBit m (h - f) true)

/-! ### Sequence recovery (R195, R196) -/

/-- The sequence number of an R-TAG directly after SA or a C-VLAN tag. -/
def rTag (b : List Byte) : Option Nat :=
  let o := typeAt b
  if beAt b o 2 = 0xF1C1 then some (beAt b (o + 4) 2) else none

def State.histLen (s : State) (n : Nat) : Nat := clampNat 2 32 (s.g (R.STR_LIM.SEQ_HIST n))

/-- What the history says of a number (R195). -/
inductive SeqVerdict where
  | first | rogue | dup | late (back : Nat) | ahead (by' : Nat)
  deriving DecidableEq, Repr

def State.seqVerdict (s : State) (n q : Nat) : SeqVerdict :=
  if s.on (R.STR_SEQ_STS.TAKE_ANY n) then .first
  else
    let d := signed 16 (q + 65536 - s.g (R.STR_SEQ_STS.RECOV_SEQ n))
    let h := s.histLen n
    if (h : Int) ≤ d ∨ d ≤ -(h : Int) then .rogue
    else if d ≤ 0 then (if bit (s.ctx n).hist (-d).toNat then .dup else .late (-d).toNat)
    else .ahead d.toNat

/-- An accepted number enters the history (R195): numbers that leave it unreceived are lost. -/
def State.seqCommit (s : State) (n q : Nat) : State :=
  match s.seqVerdict n q with
  | .first =>
    ((s.p (R.STR_SEQ_STS.RECOV_SEQ n) q).p (R.STR_SEQ_STS.TAKE_ANY n) 0).modCtx n (fun c => { c with hist := 1, span := 1 })
  | .late k => (s.bump (R.STR_SEQ_OOO_LO n)).modCtx n (fun c => { c with hist := setBit c.hist k true })
  | .ahead k =>
    let h := s.histLen n
    let c := s.ctx n
    let lost := ((List.range k).map (fun i => h - 1 - i)).filter (fun i => decide (i < c.span) && !bit c.hist i)
    let s1 := if k = 1 then s else s.bump (R.STR_SEQ_OOO_LO n)
    ((s1.bumpBy (R.STR_SEQ_LOST_LO n) lost.length).p (R.STR_SEQ_STS.RECOV_SEQ n) q).modCtx n (fun c =>
      { c with hist := (c.hist * 2 ^ k + 1) % 2 ^ h, span := min h (c.span + k) })
  | _ => s

/-! ### Dropping a frame -/

/-- The frame of a context is dropped by it: its reservation returns as said by the step, every copy goes (R177). -/
def State.strDrop (s : State) (id : Nat) : State := s.dropFrame id

/-- Class of a frame in the buffer. -/
def State.clsOf (s : State) (id : Nat) : Nat := (s.fr id).f.cls

/-- A lost or aged class 7 frame yields the guarantee of rank 4 (R187). -/
def State.yield7 (s : State) (id : Nat) : State := if s.clsOf id = 7 then s.yield 4 else s

/-- No usable key (R187): counted, alarmed, dropped. -/
def State.noKeyDrop (s : State) (n id : Nat) : State :=
  (((s.bump (R.STR_NOKEY_LO n)).alarm (R.STR_ALARM.NOKEY n)).yield7 id).strDrop id

/-- Dropped for its age by the context (R187). Copies that R165 has dropped before are counted there only: nothing is left to
count where it has dropped the last of them. -/
def State.strAgeDrop (s : State) (n id : Nat) : State :=
  if (s.fr id).aged && (s.fr id).copies.isEmpty then s.strDrop id
  else (((s.bump (R.STR_AGE_DROP_LO n)).alarm (R.STR_ALARM.AGE_DROP n)).yield7 id).strDrop id

/-! ### Steps 8-10 (R191, R192, R197, R198) -/

/-- The tap adds port 27 to the frame's mask, with a REC copy in the VOQ (R198). A frame that names port 27 already has its REC
copy: it goes to the tap's ring, none is added. -/
def State.addTap (s : State) (n id : Nat) : State :=
  if !s.on (R.STR_CFG.TAP_EN n) then s
  else
    let t := s.modFr id (fun x => { x with ring := some (s.ctx n).tapRing })
    if bit (s.fr id).f.dest 27 then t.modFr id (fun x => x.modCopy 27 (fun c => { c with mcq := false }))
    else (t.bump (R.STR_TAP_LO n)).modFr id (fun x =>
      { x with f := { x.f with dest := setBit x.f.dest 27 true }, copies := x.copies ++ [{ out := 27 }] })

/-- Step 8: the watchdog restarts, a SILENT context resumes, the frame counts as passed and is tapped. -/
def State.strAccept (s : State) (n id : Nat) : State :=
  let s1 := (s.bump (R.STR_PASS_LO n)).modCtx n (fun c => { c with armed := c.wdEn })
  let s2 := if s.ctxState n = ctxSilent then (s1.setCtxState n ctxActive).alarm (R.STR_ALARM.RESUMED n) else s1
  s2.addTap n id

/-- The entry that is current, and the other one. -/
def State.curEntry (s : State) (n : Nat) : Nat := s.g (R.STR_ROLL.CUR n)

/-- A frame accepted under entry `e` may make it current (R191). -/
def State.rollover (s : State) (n e : Nat) : State :=
  if (s.ctx n).autoRoll && !s.on (R.STR_STS.ROLLING n) && e != s.curEntry n then
    let s1 := ((s.p (R.STR_ROLL.CUR n) e).alarm (R.STR_ALARM.ROLL n)).bump (R.STR_ROLL_LO n)
    if s.g (R.STR_ROLL.ROLL_MS n) = 0 then s1.setEntryValid n (1 - e) false
    else (s1.p (R.STR_STS.ROLLING n) 1).modCtx n (fun c => { c with old := 1 - e })
  else s

/-- Zero bytes that bring a generated frame to 64 bytes without tag and trailer (R192). -/
def genPad (b : List Byte) : List Byte :=
  let n := if isTagged b then b.length - 4 else b.length
  b ++ List.replicate (60 - n) 0

def State.modPend (s : State) (n id : Nat) (f : StrPend → StrPend) : State :=
  s.modCtx n (fun c => { c with pend := c.pend.map (fun q => if q.frame = id then f q else q) })
def State.dropPend (s : State) (n id : Nat) : State :=
  (s.modCtx n (fun c => { c with pend := c.pend.filter (fun q => q.frame != id) })).pendTouch n
def State.addPend (s : State) (n : Nat) (q : StrPend) : State :=
  (s.modCtx n (fun c => { c with pend := c.pend ++ [q] })).pendTouch n

/-- Step 9 once freshness `f` may be sent: the job is issued (R192). -/
def State.genIssue (s : State) (n id e f : Nat) : State :=
  let s1 := ((s.wr64 (R.STR_FRESH_LO n) f).resUse n f).modFr id (fun x => { x with f := { x.f with bytes := genPad x.f.bytes } })
  let x := s1.fr id
  let len := (macInput x.f.bytes (List.replicate 12 0)).length
  (s1.enqueue { level := 2, user := .strGenerate n id, slot := s.entrySlot n e, blocks := cmacBlocks len }).modPend n id
    (fun q => { q with stage := 3, entry := e, fresh := f, label := s.entryLabel n e })

/-- Step 9 under entry `e` (R192-R194): key, freshness limit, reservation. -/
def State.genStep (s : State) (n id e : Nat) : State :=
  let f := s.high n + 1
  if !s.entryValid n e || !s.hwKey (s.entrySlot n e) then ((s.noKeyDrop n id)).dropPend n id
  else if freshLimit ≤ f then
    let st := s.ctxState n
    let s1 := if st == ctxActive || st == ctxSilent then s.setCtxState n ctxExhausted else s
    ((((s1.bump (R.STR_FRESH_EXH_LO n)).yield 6).alarm (R.STR_ALARM.FRESH_EXH n)).strDrop id).dropPend n id
  else if s.mustWait n f then
    ((s.bump (R.STR_RES_WAIT_LO n)).alarm (R.STR_ALARM.RES_WAIT n)).modPend n id (fun q => { q with stage := 2, entry := e })
  else s.genIssue n id e f

/-- Step 9 for GENERATE, step 10 otherwise. -/
def State.strFinish (s : State) (n id : Nat) : State :=
  if (s.ctx n).auth = 3 then s.genStep n id (s.curEntry n)
  else
    let s1 := if (s.ctx n).auth = 2 then s.modFr id (fun x => { x with strip := 12 + (s.ctx n).tagLen }) else s
    (s1.dropPend n id).makeEligible id

/-! ### Steps 4-7 (R187, R189, R196) -/

/-- The verification job of a frame (step 6). -/
def State.verIssue (s : State) (n : Nat) (q : StrPend) : State :=
  let x := s.fr q.frame
  let tl := (s.ctx n).tagLen
  let len := x.f.bytes.length - tl - (if isTagged x.f.bytes then 4 else 0)
  s.enqueue { level := if x.f.cls = 7 then 0 else 1, user := .strVerify n q.frame, slot := s.entrySlot n q.entry, blocks := cmacBlocks len }

/-- Whether an earlier frame of the context with this number awaits its verdict (R196). -/
def State.seqPending (s : State) (n id : Nat) (q : Option Nat) : Bool :=
  q.isSome && (s.ctx n).pend.any (fun r => r.frame != id && r.seq == q && (r.stage == 1 || r.stage == 0))

/-- Step 7 for sequence recovery: whether the frame goes on, with what is counted (R195, R196). -/
def State.seqStep (s : State) (n : Nat) (q : Option Nat) : State × Bool :=
  match q with
  | none => (s, true)
  | some k =>
    match s.seqVerdict n k with
    | .rogue => ((s.bump (R.STR_SEQ_ROGUE_LO n)).alarm (R.STR_ALARM.SEQ_ROGUE n), false)
    | .dup => (s.bump (R.STR_SEQ_DUP_LO n), false)
    | _ => (s.seqCommit n k, true)

/-- Steps 7 to 10 of a frame that has no verdict to wait for (AUTH NONE, GENERATE). -/
def State.strPlain (s : State) (n : Nat) (q : StrPend) : State :=
  match s.seqStep n q.seq with
  | (s1, false) => (s1.dropPend n q.frame).strDrop q.frame
  | (s1, true) => (s1.strAccept n q.frame).strFinish n q.frame

/-- Step 5 (R195, R196): pre-screen, then step 6 or what follows it. -/
def State.strSeq (s : State) (n : Nat) (q : StrPend) : State :=
  let c := s.ctx n
  let b := (s.fr q.frame).f.bytes
  let go := fun (t : State) (r : StrPend) =>
    if !c.verifies then (t.addPend n { r with stage := 1 }).strPlain n r
    else if t.seqPending n r.frame r.seq then t.addPend n { r with stage := 0 }
    else (t.addPend n { r with stage := 1 }).verIssue n r
  if !c.seqEn then go s q
  else
    match rTag b with
    | none =>
      let s1 := s.bump (R.STR_SEQ_TAGLESS_LO n)
      if c.takeNoSeq then go s1 q else s1.strDrop q.frame
    | some k =>
      match s.seqVerdict n k with
      | .rogue => ((s.bump (R.STR_SEQ_ROGUE_LO n)).alarm (R.STR_ALARM.SEQ_ROGUE n)).strDrop q.frame
      | .dup => (s.bump (R.STR_SEQ_DUP_LO n)).strDrop q.frame
      | _ => go s { q with seq := some k }

/-- Step 4 (R187): trailer parse and freshness pre-screen. -/
def State.strParse (s : State) (n id : Nat) : State :=
  let c := s.ctx n
  let tl := c.tagLen
  let b := (s.fr id).f.bytes
  let t := b.drop (b.length - (12 + tl))
  if b.length + 4 < 26 + tl + 4 || beAt t 0 2 != trailerType tl || beAt t 3 1 != 0 then
    ((s.bump (R.STR_FMT_ERR_LO n)).alarm (R.STR_ALARM.FMT n)).strDrop id
  else
    match s.entryFor n (beAt t 2 1) with
    | none => (s.bump (R.STR_LABEL_ERR_LO n)).strDrop id
    | some e =>
      let f := beAt t 4 8
      if !s.hwKey (s.entrySlot n e) then s.noKeyDrop n id
      else if freshLimit ≤ f then (s.bump (R.STR_FRESH_REJ_LO n)).strDrop id
      else if !windowPasses (s.high n) (s.win n) f then
        ((s.bump (R.STR_REPLAY_LO n)).alarm (R.STR_ALARM.REPLAY n)).strDrop id
      else s.strSeq n { frame := id, entry := e, fresh := f }

/-- End of reception with good FCS (steps 3 to 6): the meter is settled, then the frame goes on. -/
def State.strEnd (s : State) (n id : Nat) : State :=
  let x := s.fr id
  let s1 := (s.meterReturn n (x.resv - x.f.size)).modFr id (fun y => { y with resv := 0 })
  if (s.ctx n).verifies then s1.strParse n id else s1.strSeq n { frame := id }

/-- What becomes of the frames that waited for one of number `q` (R196): duplicates if it was accepted; otherwise the
first goes on to its job. -/
def State.wakeSeq (s : State) (n : Nat) (q : Option Nat) (accepted : Bool) : State :=
  let w := (s.ctx n).pend.filter (fun r => r.stage == 0 && q.isSome && r.seq == q)
  if accepted then
    s.each w (fun r t => ((t.bump (R.STR_SEQ_DUP_LO n)).dropPend n r.frame).strDrop r.frame)
  else
    match w.head? with
    | none => s
    | some r => (s.modPend n r.frame (fun y => { y with stage := 1 })).verIssue n r

/-- A frame with a verdict to wait for is dropped: the next frame with its number goes on (R196). -/
def State.verDropped (s : State) (n : Nat) (q : StrPend) : State := (s.dropPend n q.frame).wakeSeq n q.seq false

/-- The tag of a frame matches under a key (R185, R186). -/
def tagMatches (key b : List Byte) (tl : Nat) : Bool :=
  let t := b.drop (b.length - (12 + tl))
  (cmac key (macInput (b.take (b.length - (12 + tl))) t)).take tl == t.drop 12

/-- A verdict arrives (R187, R189, R191): age, tag, sequence and window, then acceptance. -/
def State.verdict (s : State) (n : Nat) (q : StrPend) (key : List Byte) : State :=
  let id := q.frame
  let x := s.fr id
  if s.tooOld x.f then (s.strAgeDrop n id).verDropped n q
  else if !tagMatches key x.f.bytes (s.ctx n).tagLen then
    ((((s.bump (R.STR_AUTH_FAIL_LO n)).alarm (R.STR_ALARM.AUTH_FAIL n)).tapTrigger n 2).strDrop id).verDropped n q
  else
    match s.seqStep n q.seq with
    | (s1, false) => (s1.strDrop id).verDropped n q
    | (s1, true) =>
      if windowPasses (s1.high n) (s1.win n) q.fresh then
        let w := windowTake (s1.high n) (s1.win n) q.fresh
        let s2 := ((s1.wr64 (R.STR_FRESH_LO n) w.1).wr64 (R.STR_WIN_LO n) w.2).rollover n q.entry
        ((s2.strAccept n id).strFinish n id).wakeSeq n q.seq true
      else
        (((s1.bump (R.STR_REPLAY_LO n)).alarm (R.STR_ALARM.REPLAY n)).strDrop id).verDropped n q

/-- The pending record of a frame. -/
def State.pendOf (s : State) (n id : Nat) : Option StrPend := (s.ctx n).pend.find? (fun q => q.frame == id)

/-- The verification job on core `c` ends (R187). -/
def State.verifyDone (s : State) (c : Nat) : State :=
  match s.jobOn c with
  | some j =>
    match j.user with
    | .strVerify n id =>
      match s.pendOf n id with
      | some q => if s.hasFr id then (s.endJob c j).verdict n q j.key else (s.endJob c j).verDropped n q
      | none => s.endJob c j
    | _ => s
  | none => s

/-- A generated tag is ready (R192): the trailer goes with every copy, and the frame is eligible. -/
def State.generated (s : State) (n : Nat) (q : StrPend) (key : List Byte) : State :=
  let x := s.fr q.frame
  let tl := (s.ctx n).tagLen
  let head := beBytes 2 (trailerType tl) ++ [B8 q.label, 0] ++ beBytes 8 q.fresh
  let tag := (cmac key (macInput x.f.bytes head)).take tl
  (((s.bump (R.STR_GEN_LO n)).modFr q.frame (fun y => { y with trailer := head ++ tag })).dropPend n q.frame).makeEligible q.frame

/-- The generation job on core `c` ends (R192). -/
def State.generateDone (s : State) (c : Nat) : State :=
  match s.jobOn c with
  | some j =>
    match j.user with
    | .strGenerate n id =>
      match s.pendOf n id with
      | some q => if s.hasFr id then (s.endJob c j).generated n q j.key else (s.endJob c j).dropPend n id
      | none => s.endJob c j
    | _ => s
  | none => s

/-- Frames of context `n` that waited for a reservation go on in their order (R193, R328); one past its age limit is
dropped. -/
def State.resumeGen (s : State) (n : Nat) : State :=
  let w := (s.ctx n).pend.filter (fun q => q.stage == 2)
  s.each w (fun q t =>
    if !t.hasFr q.frame then t.dropPend n q.frame
    else if t.tooOld (t.fr q.frame).f then (t.strAgeDrop n q.frame).dropPend n q.frame
    else if t.mustWait n (t.high n + 1) then t
    else t.genStep n q.frame q.entry)

/-! ### Context states (R199) -/

/-- EN goes from 0 to 1 (R189-R193, R199). -/
def State.strEnable (s : State) (n : Nat) : State :=
  let w := s.rd (R.STR_CFG n)
  let auth := fieldOf w 28 3
  let cur := s.curEntry n
  if 4 ≤ auth ∨ (auth = 3 ∧ !s.entryValid n cur) then (s.p (R.STR_STS.CFG_ERR n) 1).alarm (R.STR_ALARM.CFG_ERR n)
  else
    let wd := bit w.toNat 24 && !bit w.toNat 23
    let s1 := s.modCtx n (fun c => { c with cfg := w, hist := 0, span := 0, armed := wd })
    let s2 := (s1.setBucket n (s.g (R.STR_METER.CBS n) * 256000)).p (R.STR_SEQ_STS.TAKE_ANY n) 1
    let s3 := s2.wr64 (R.STR_WIN_LO n) (2 ^ 64 - 1)
    if auth = 3 then
      match s3.reserve n (s3.high n) (s3.slotKcv (s3.entrySlot n cur)) with
      | (s4, none) => (s4.setCtxState n ctxNoRes).budgetTouch
      | (s4, some f) => ((s4.wr64 (R.STR_FRESH_LO n) f).setCtxState n ctxActive).budgetTouch
    else
      let s4 := if auth = 0 then s3 else s3.wr64 (R.STR_FRESH_LO n) (max (s3.high n) (s3.storedHigh n))
      (s4.setCtxState n ctxActive).budgetTouch

/-- The frames of a context still being received. -/
def State.rxOfCtx (s : State) (n : Nat) : List Nat :=
  s.sw.frames.filterMap (fun p => if p.2.f.ctx == some n && !p.2.whole then some p.1 else none)

/-- EN is cleared (R199): frames before step 6 are dropped at once, those past it complete. -/
def State.strDisable (s : State) (n : Nat) : State :=
  let rx := s.rxOfCtx n
  let early := ((s.ctx n).pend.filter (fun q => q.stage == 0)).map (·.frame)
  let s1 := s.each (rx ++ early) (fun id t =>
    (((t.bump (R.STR_DIS_DROP_LO n)).meterReturn n (t.fr id).resv).dropPend n id).strDrop id)
  let s2 := ((s1.setCtxState n ctxDisabled).p (R.STR_STS.CFG_ERR n) 0).modCtx n (fun c => { c with armed := false })
  s2.budgetTouch

/-- A write of STR_CFG[n] by requester `req` (R183, R199). -/
def State.strCfgWrite (s : State) (n : Nat) (val : Word) : State :=
  let was := s.on (R.STR_CFG.EN n)
  let now := bit val.toNat 31
  let s1 := s.store (R.STR_CFG n) val
  if !was && now then s1.strEnable n else if was && !now then s1.strDisable n else s1

/-- A write of STR_KEYA or STR_KEYB (R191): during ROLLING it cancels the timer. -/
def State.strKeyWrite (s : State) (n e : Nat) (val : Word) : State :=
  (s.store (if e = 0 then R.STR_KEYA n else R.STR_KEYB n) val).p (R.STR_STS.ROLLING n) 0

/-- ROLL_MS ends: the old entry's VALID and ROLLING are cleared (R191). -/
def State.rollExpiry (s : State) (n : Nat) : State :=
  if s.on (R.STR_STS.ROLLING n) then (s.setEntryValid n (s.ctx n).old false).p (R.STR_STS.ROLLING n) 0 else s

/-- The watchdog expires (R197). -/
def State.silent (s : State) (n : Nat) : State :=
  if (s.ctx n).armed && s.ctxState n == ctxActive then
    ((((s.setCtxState n ctxSilent).bump (R.STR_SILENT_LO n)).alarm (R.STR_ALARM.SILENT n)).modCtx n (fun c => { c with armed := false })).tapTrigger n 1
  else s

/-- The recovery reset time passes (R195). -/
def State.seqReset (s : State) (n : Nat) : State :=
  let st := s.ctxState n
  if (s.ctx n).seqEn && st != ctxDisabled && !s.on (R.STR_SEQ_STS.TAKE_ANY n) then
    (((s.p (R.STR_SEQ_STS.TAKE_ANY n) 1).bump (R.STR_SEQ_RESET_LO n)).alarm (R.STR_ALARM.SEQ_RESET n)).modCtx n
      (fun c => { c with hist := 0, span := 0 })
  else s

/-! ### Meanings of the stream rows -/

/-- STR_ENABLE (R199): a write of STR_CFG[n] with EN set. -/
def execStrEnable (req n : Nat) (val : Word) (s : State) : Host.Outcome State Fault Refusal :=
  done s (s.byPort req (R.STR_CFG (n % 256)) (val ||| 0x80000000) false (fun t => t.strCfgWrite (n % 256) (val ||| 0x80000000)))

/-- VERIFY_JOB_DONE (R187). -/
def execVerifyJobDone (core : Nat) (s : State) : Host.Outcome State Fault Refusal := done s (s.verifyDone core)

/-- GENERATE_JOB_DONE (R192). -/
def execGenerateJobDone (core : Nat) (s : State) : Host.Outcome State Fault Refusal := done s (s.generateDone core)

/-- ROLL_TIMER_EXPIRY (R191). -/
def execRollTimerExpiry (n : Nat) (s : State) : Host.Outcome State Fault Refusal := done s (s.rollExpiry (n % 256))

/-- KEY_ENTRY_WRITE (R191). -/
def execKeyEntryWrite (req n entry : Nat) (val : Word) (s : State) : Host.Outcome State Fault Refusal :=
  done s (s.byPort req (if entry = 0 then R.STR_KEYA (n % 256) else R.STR_KEYB (n % 256)) val false
    (fun t => t.strKeyWrite (n % 256) entry val))

/-- SILENT (R197). -/
def execStrSilent (n : Nat) (s : State) : Host.Outcome State Fault Refusal := done s (s.silent (n % 256))

/-- SEQ_RESET (R195). -/
def execStrSeqReset (n : Nat) (s : State) : Host.Outcome State Fault Refusal := done s (s.seqReset (n % 256))

end Sys2Proof.Machine
end

