-- ==== Sys2Proof/Machine/Mac.lean ====
section
/-! DEFINITION. Ethernet ports: link state, MDIO, reception, error delivery, MAC merge, received pause, transmission
(04, R78-R107, R509; 05, R108; 06, R142; 07, R177). -/

namespace Sys2Proof.Machine

/-! ### Ingress of a frame, from any port (R108, R142, R177) -/

/-- The first cell of a classified frame is formed at ingress `p` (R142): steps 1 and 2 of its context, admission of `k` cells.
Answers the frame's number where it was admitted. -/
def State.admitFrame (s : State) (p k : Nat) (g : Frame) : State × Option Nat :=
  match g.ctx with
  | none =>
    match s.letIn p g.cls k with
    | (s1, none) => (s1, none)
    | (s1, some a) => let r := s1.enter g a.1 a.2 false; (r.1, some r.2)
  | some n =>
    match s.strFirst n p g.cls with
    | (s1, none) => (s1, none)
    | (s1, some (c, resv)) =>
      match s1.letIn p c k with
      | (s2, none) => (s2.meterReturn n resv, none)
      | (s2, some a) =>
        let r := s2.enter { g with cls := c } a.1 a.2 (s2.ctx n).waits
        (r.1.modFr r.2 (fun x => { x with resv := resv }), some r.2)

/-- Classification and admission together, of a frame that is there whole: its number where it was admitted, and the learn
request due. -/
def State.ingressStart (s : State) (p handle k : Nat) (f : Frame) : State × Option Nat × Option Frame :=
  match s.classify p handle f with
  | (s1, none, l) => (s1, none, l)
  | (s1, some g, l) => let r := s1.admitFrame p k g; (r.1, r.2, l)

/-- The MAXSDU check on the bytes received so far (R182). -/
def State.sduCheck (s : State) (id len : Nat) : State :=
  if !s.hasFr id then s
  else
    match (s.fr id).f.ctx with
    | none => s
    | some n => if s.sduFails n len then ((s.meterReturn n (s.fr id).resv).sduDrop n).dropFrame id else s

/-- Reception ends with good FCS: the cells are settled and the frame is eligible, or goes to its context. -/
def State.ingressEnd (s : State) (id : Nat) (bytes : List Byte) : State :=
  if !s.hasFr id then s
  else
    let s1 := s.settleCells id bytes
    match (s1.fr id).f.ctx with
    | none => s1.makeEligible id
    | some n => s1.strEnd n id

/-- Reception ends with an error: the frame is dropped whole, and its meter reservation returns (R88, R146). -/
def State.ingressAbort (s : State) (id : Nat) : State :=
  if !s.hasFr id then s
  else
    match (s.fr id).f.ctx with
    | none => s.dropFrame id
    | some n => (s.meterReturn n (s.fr id).resv).dropFrame id

/-- A frame presented whole at an internal port: HOST, MGT, CANB (R142, R177). -/
def State.ingressWhole (s : State) (p handle : Nat) (f : Frame) : State :=
  let r := s.ingressStart p handle 75 f
  let s1 := match r.2.2 with | some l => r.1.learnRequest l | none => r.1
  match r.2.1 with
  | none => s1
  | some id => (s1.sduCheck id (f.bytes.length + 4)).ingressEnd id f.bytes

/-- A time value less a latency in 1/16 ns (R103). -/
def tvLess (v lat : Nat) : Nat := tvAdd v (-((lat * 268435456 : Nat) : Int))

/-- The first bit of a frame after its SFD or SMD comes in: MAX in force and the receive stamps are taken (R87, R102, R103). -/
def State.rxOpen (s : State) (p : Nat) (bytes : List Byte) : RxOpen :=
  { bytes := bytes, max := s.maxFrame p, tb := s.g (R.MAC_TS_CFG.TB p),
    stamps := (List.range 4).map (fun t => tvLess (s.tbVal t) (s.g (R.MAC_TS_LAT.RX_LAT p))) }

/-- A frame as a port receives it, with its receive stamp (R102, R166). -/
def RxOpen.asFrame (r : RxOpen) (p : Nat) (body : List Byte) : Frame :=
  { bytes := body, ingress := p, size := body.length + 4, stampTb := r.tb, stamp := r.stamps.getD r.tb 0 }

/-- A frame as an internal port presents it, stamped in the time base of SW_INT_TS. -/
def State.intFrame (s : State) (p : Nat) (bytes : List Byte) : Frame :=
  let t := if p = 24 then s.g R.SW_INT_TS.HOST_TB else if p = 25 then s.g R.SW_INT_TS.MGT_TB else s.g R.SW_INT_TS.CANB_TB
  { bytes := bytes, ingress := p, size := bytes.length + 4, stampTb := t, stamp := s.tbVal t }

/-! ### Reception (R86-R91) -/

/-- An errored frame is delivered to ERR_Q, or dropped (R90, R91). R90 names three cases of a drop: one that finds ERR_Q disabled,
halted, without an owner or an IN queue, or forwarding held, is counted in MAC_ERR_DROP as well; the model's choice (log 61). -/
def State.errDeliver (s : State) (p : Nat) (r : RxOpen) (status : Nat) (bytes : List Byte) : State :=
  if !s.on (R.MAC_CFG.ERR_DEL p) then s
  else
    let q := s.g (R.MAC_CFG.ERR_Q p)
    let f := r.asFrame p bytes
    let e := ethEntry status p 0 3 0 f.stampTb f.stamp bytes
    let drop := fun t : State => (t.bump (R.MAC_ERR_DROP_LO p)).ev (R.MAC_EVT.ERR_DROP p)
    if 48 ≤ q ∧ q ≤ 55 then drop s
    else if s.held then drop s
    else if (s.admission (portOfQueue q) 0 (cellsFor bytes.length)).isNone then
      drop ((s.bump (R.SW_LIM_DROP_LO (portOfQueue q))).ev R.SW_EVT.LIM_DROP)
    else if s.qIsIn q || s.offer q e.length != .taken then drop (s.qFrame q e)
    else (s.qFrame q e).bump (R.MAC_ERR_DEL_LO p)

/-- A row of R86 other than the last two: counted, RX_ERR, delivered, and never forwarded. -/
def State.rxError (s : State) (p : Nat) (r : RxOpen) (ctr status : Nat) (bytes : List Byte) : State :=
  let s1 := (s.bump ctr).ev (R.MAC_EVT.RX_ERR p)
  let s2 := if bytes.isEmpty then s1 else s1.errDeliver p r status bytes
  match r.frame with | some id => s2.ingressAbort id | none => s2

/-- Receives a PAUSE of `t` quanta at port `p` (R97, R99). -/
def State.pauseRx (s : State) (p t : Nat) : State :=
  if s.fcMode p != 1 || !s.on (R.MAC_FC_CFG.RX_EN p) then s.bump (R.MAC_RX_CTL_DROP_LO p)
  else
    (((s.bump (R.MAC_RX_PAUSE_LO p)).ev (R.MAC_EVT.PAUSE_RX p)).pb (R.MAC_STS.TX_PAUSED p) (t != 0)).modPort p
      (fun q => { q with pause := t })

/-- Receives a PFC naming the classes of `classes`, with their times (R97, R99, R100). -/
def State.pfcRx (s : State) (p classes : Nat) (times : List Nat) : State :=
  if s.fcMode p != 2 || !s.on (R.MAC_FC_CFG.RX_EN p) then s.bump (R.MAC_RX_CTL_DROP_LO p)
  else
    let act := (bitsOf 8 classes).filter (fun c => !bit (s.g (R.MAC_FC_CFG.PFC_IGN p)) c)
    let s1 := s.bump (R.MAC_RX_PFC_LO p)
    let s2 := if act.isEmpty then s1 else s1.ev (R.MAC_EVT.PAUSE_RX p)
    s2.each act (fun c t =>
      let q := times.getD c 0
      (t.p (R.MAC_STS.PFC_PAUSED p) (setBit (t.g (R.MAC_STS.PFC_PAUSED p)) c (q != 0))).modPort p
        (fun r => { r with pfc := r.pfc.set (fun _ => 0) c q }))

/-- Every received pause is released (R82, R99). -/
def State.releasePause (s : State) (p : Nat) : State :=
  ((s.p (R.MAC_STS.TX_PAUSED p) 0).p (R.MAC_STS.PFC_PAUSED p) 0).modPort p (fun q => { q with pause := 0, pfc := [] })

/-- A received pause time runs out: the port's, or class `c`'s (R99). -/
def State.pauseEnds (s : State) (p : Nat) (c : Option Nat) : State :=
  match c with
  | none => (s.p (R.MAC_STS.TX_PAUSED p) 0).modPort p (fun q => { q with pause := 0 })
  | some k =>
    (s.p (R.MAC_STS.PFC_PAUSED p) (setBit (s.g (R.MAC_STS.PFC_PAUSED p)) (k % 8) false)).modPort p
      (fun q => { q with pfc := q.pfc.del (k % 8) })

/-- EtherType 0x8808 (R86). -/
def isControl (b : List Byte) : Bool := beAt b 12 2 == 0x8808

/-- A MAC control frame received with good FCS (R97). -/
def State.controlRx (s : State) (p : Nat) (b : List Byte) : State :=
  if frameDa b = pauseDa ∧ beAt b 14 2 = 0x0001 then s.pauseRx p (beAt b 16 2)
  else if frameDa b = pauseDa ∧ beAt b 14 2 = 0x0101 then
    s.pfcRx p (beAt b 16 2) ((List.range 8).map (fun c => beAt b (18 + 2 * c) 2))
  else s.bump (R.MAC_RX_CTL_DROP_LO p)

/-- A frame the time engine takes (R265): untagged gPTP at a port with TP_PORT_CFG.EN. -/
def State.isGptp (s : State) (p : Nat) (b : List Byte) : Bool :=
  s.enOn (R.TP_PORT_CFG.EN p) && frameDa b == [0x01, 0x80, 0xC2, 0x00, 0x00, 0x0E] && beAt b 12 2 == 0x88F7

/-- The message as the time engine takes it: stamped in every time base (R102, R103, R266). -/
def RxOpen.asTpMsg (r : RxOpen) (p : Nat) (body : List Byte) : TpMsg :=
  { port := p, frame := r.asFrame p body, stamps := r.stamps, stepped := r.stepped }

/-- The frame being received at a port. -/
def State.rx (s : State) (p : Nat) : Option RxOpen := s.sw.rx.get (fun _ => none) p
def State.setRx (s : State) (p : Nat) (r : Option RxOpen) : State :=
  { s with sw := { s.sw with rx := s.sw.rx.set (fun _ => none) p r } }

/-- The first 64 bytes have come: the frame is classified, once, where it may be forwarded (R108, R509). -/
def State.rxLook (s : State) (p : Nat) (r : RxOpen) (body : List Byte) : State × RxOpen :=
  if r.looked || r.bytes.length < 64 || isControl r.bytes || s.isGptp p r.bytes || !s.pins.forwarding then (s, r)
  else
    let g := s.classify p 0 (r.asFrame p body)
    (g.1, { r with looked := true, found := g.2.1, learn := g.2.2 })

/-- The first cell of a classified frame is formed (R142): it is admitted or dropped. -/
def State.rxAdmit (s : State) (p : Nat) (r : RxOpen) (body : List Byte) : State × RxOpen :=
  match r.found with
  | none => (s, r)
  | some g =>
    let a := s.admitFrame p (cellsFor r.max) { g with bytes := body, size := body.length + 4 }
    (a.1, { r with found := none, frame := a.2 })

/-- What has come of a frame acts: its lookup at 64 bytes, its admission at 128, the check of MAXSDU (R108, R142, R182). -/
def State.rxTake (s : State) (p : Nat) (r : RxOpen) (body : List Byte) : State × RxOpen :=
  let a := s.rxLook p r body
  let b := if 128 ≤ r.bytes.length then a.1.rxAdmit p a.2 body else a
  (match b.2.frame with | some id => b.1.sduCheck id r.bytes.length | none => b.1, b.2)

/-- Bytes of a frame still coming in: at most MAX are stored (R86). -/
def State.rxPart (s : State) (p : Nat) (r : RxOpen) : State × RxOpen :=
  let b := r.bytes.take r.max
  let (s1, r1) := s.rxTake p { r with bytes := b } b
  (match r1.frame with | some id => s1.modFr id (fun x => { x with f := { x.f with bytes := b } }) | none => s1, { r1 with bytes := r.bytes })

/-- FCS of a received frame is good (R86). -/
def fcsGood (b : List Byte) : Bool := b.drop (b.length - 4) == fcsOf (b.take (b.length - 4))

/-- A frame has ended with good FCS and is not a control frame (R86, R107): counted, then taken by the time engine, or admitted
if its first cell is formed only now, and its learn request made. -/
def State.rxGood (s : State) (p : Nat) (r : RxOpen) (body : List Byte) : State :=
  let s1 := (s.bump (R.MAC_RX_FRAMES_LO p)).bumpBy (R.MAC_RX_OCTETS_LO p) r.bytes.length
  let s2 := if isGroup (frameDa r.bytes) then s1.bump (R.MAC_RX_MCAST_LO p) else s1
  if !r.looked && s2.isGptp p r.bytes then { s2 with tpIn := s2.tpIn ++ [r.asTpMsg p body] }
  else
    let s3 := match r.learn with | some l => s2.learnRequest l | none => s2
    let (s4, r1) := s3.rxAdmit p r body
    match r1.frame with
    | some id => (s4.sduCheck id r.bytes.length).ingressEnd id body
    | none => s4

/-- The end of a frame (R86): the first row that applies. -/
def State.rxEnd (s : State) (p : Nat) (r : RxOpen) (pcsErr : Bool) : State :=
  let b := r.bytes.take r.max
  let (s1, r0) := s.rxTake p { r with bytes := b } (b.take (r.bytes.length - 4))
  let r1 := { r0 with bytes := r.bytes }
  if pcsErr then s1.rxError p r1 (R.MAC_PCS_ERR_LO p) 4 b
  else if r.bytes.length < 64 then s1.rxError p r1 (R.MAC_RUNT_LO p) 2 b
  else if r.max < r.bytes.length then s1.rxError p r1 (R.MAC_OVERSIZE_LO p) 3 b
  else if !fcsGood r.bytes then s1.rxError p r1 (R.MAC_FCS_ERR_LO p) 1 b
  else if isControl b then s1.controlRx p b
  else s1.rxGood p r1 (b.take (b.length - 4))

/-- FRAME_RECEIVE: bytes of a frame at a port that is UP, from DA on; `more` where the frame goes on, and at its end
the bytes whole, FCS included, with whether a PCS error fell in it (R82, R86). -/
def State.receive (s : State) (p : Nat) (bytes : List Byte) (more pcsErr : Bool) : State :=
  if 24 ≤ p || !s.portUp p then s
  else
    let r := match s.rx p with
      | some r => { r with bytes := bytes }
      | none => s.rxOpen p bytes
    if more then let a := s.rxPart p r; a.1.setRx p (some a.2) else (s.setRx p none).rxEnd p r pcsErr

/-! ### MAC merge (R93-R96) -/

abbrev mmDisabled : Nat := 0
abbrev mmInitial : Nat := 1
abbrev mmVerifying : Nat := 2
abbrev mmSucceeded : Nat := 3
abbrev mmFailed : Nat := 4
abbrev mmNoVerify : Nat := 5

def State.vstate (s : State) (p : Nat) : Nat := s.g (R.MAC_MM_STS.VSTATE p)
def State.setVstate (s : State) (p v : Nat) : State := s.p (R.MAC_MM_STS.VSTATE p) v

/-- INITIAL meets a link that is UP: the first verify is sent (R95). -/
def State.mmStart (s : State) (p : Nat) : State :=
  if s.vstate p = mmInitial ∧ s.portUp p then
    (s.setVstate p mmVerifying).modPort p (fun q => { q with attempt := 1, verifySent := q.verifySent + 1 })
  else s

/-- The link goes DOWN (R95). -/
def State.mmLinkDown (s : State) (p : Nat) : State :=
  let v := s.vstate p
  let s1 := s.modPort p (fun q => { q with attempt := 0 })
  if v = mmVerifying ∨ v = mmSucceeded ∨ v = mmFailed then s1.setVstate p mmInitial else s1

/-- The frame in assembly, if any, is taken out of it. -/
def State.takeAsm (s : State) (p : Nat) : State := s.modPort p (fun q => { q with asm := none })

/-- EN is cleared while a frame is in assembly. What becomes of that frame the spec does not say: it is dropped, neither counted
in MAC_MM_ASSY_ERR nor delivered; the model's choice (log 61). -/
def State.mmDrop (s : State) (p : Nat) : State :=
  match (s.port p).asm with
  | none => s
  | some a => match a.rx.frame with | some id => (s.takeAsm p).ingressAbort id | none => s.takeAsm p

/-- A write of MAC_MM_CFG (R95). -/
def State.mmCfgWrite (s : State) (p : Nat) (val : Word) : State :=
  let was := s.on (R.MAC_MM_CFG.EN p)
  let now := bit val.toNat 31
  let s1 := s.store (R.MAC_MM_CFG p) val
  if !was && now then
    let dis := bit val.toNat 30
    (((s1.modPort p (fun q => { q with verDis := dis })).setVstate p (if dis then mmNoVerify else mmInitial))).mmStart p
  else if was && !now then ((s1.setVstate p mmDisabled).modPort p (fun q => { q with attempt := 0 })).mmDrop p
  else s1

/-- The wait of an attempt ends (R95). -/
def State.mmTimeout (s : State) (p : Nat) : State :=
  if s.vstate p != mmVerifying then s
  else if 3 ≤ (s.port p).attempt then (s.setVstate p mmFailed).ev (R.MAC_EVT.MM_FAILED p)
  else s.modPort p (fun q => { q with attempt := q.attempt + 1, verifySent := q.verifySent + 1 })

/-- An mPacket while EN is clear is discarded (R96). -/
def State.mmIgnored (s : State) (p : Nat) : State := s.bump (R.MAC_MM_ASSY_ERR_LO p)

/-- A respond mPacket is received (R95). -/
def State.mmRespond (s : State) (p : Nat) : State :=
  if !s.portUp p then s
  else if !s.on (R.MAC_MM_CFG.EN p) then s.mmIgnored p
  else if s.vstate p = mmVerifying then (s.setVstate p mmSucceeded).ev (R.MAC_EVT.MM_VERIFIED p)
  else s

/-- A verify mPacket is received (R96). -/
def State.mmVerify (s : State) (p : Nat) : State :=
  if !s.portUp p then s
  else if !s.on (R.MAC_MM_CFG.EN p) then s.mmIgnored p
  else s.modPort p (fun q => { q with respondSent := q.respondSent + 1 })

/-- A reassembly error (R96). -/
def State.mmError (s : State) (p : Nat) : State := (s.bump (R.MAC_MM_ASSY_ERR_LO p)).ev (R.MAC_EVT.MM_ASSY p)

/-- The frame in assembly is discarded and delivered with status ASSY (R90, R96). -/
def State.mmDiscard (s : State) (p : Nat) : State :=
  match (s.port p).asm with
  | none => s
  | some a =>
    let s1 := ((s.takeAsm p).mmError p).errDeliver p a.rx 5 a.rx.bytes
    match a.rx.frame with | some id => s1.ingressAbort id | none => s1

/-- A fragment whose frame goes on joins its assembly; a bad mCRC discards the whole frame (R96). -/
def State.mmJoin (s : State) (p count : Nat) (r : RxOpen) (crcOk : Bool) : State :=
  let (s1, r1) := s.rxPart p r
  if crcOk then s1.modPort p (fun q => { q with asm := some ⟨r1, count⟩ }) else s1.rxError p r1 (R.MAC_FCS_ERR_LO p) 1 (r.bytes.take r.max)

/-- A fragment is received (R86, R96): a start or a continuation with its frame count, final or not, with its data,
whether its mCRC is good, and whether a code error fell in it. A start carries the stamp point of its frame (R102). -/
def State.mmFragment (s : State) (p : Nat) (cont final : Bool) (count : Nat) (bytes : List Byte) (crcOk pcsErr : Bool) : State :=
  if !s.portUp p then s
  else if !s.on (R.MAC_MM_CFG.EN p) then s.mmIgnored p
  else if !cont then
    let s1 := s.mmDiscard p
    let r := s1.rxOpen p bytes
    if pcsErr || final then s1.rxEnd p r pcsErr
    else if bytes.length < 60 then s1.mmError p
    else s1.mmJoin p (count % 4) r crcOk
  else
    let s1 := s.bump (R.MAC_MM_FRAG_RX_LO p)
    match (s1.port p).asm with
    | none => s1.mmError p
    | some a =>
      if a.count != count % 4 || (!final && !pcsErr && bytes.length < 60) then s1.mmError p
      else
        let r := { a.rx with bytes := a.rx.bytes ++ bytes }
        let s2 := s1.takeAsm p
        if pcsErr then s2.rxEnd p r true
        else if final then (if fcsGood r.bytes then s2.bump (R.MAC_MM_ASSY_OK_LO p) else s2).rxEnd p r false
        else s2.mmJoin p a.count r crcOk

/-! ### Link state (R78-R82, R509) -/

/-- SPEED and FEC accepted by the class of a port (R78). -/
def speedOk (p speed fec : Nat) : Bool :=
  let top := if p ≤ 3 then 5 else if p ≤ 19 then 4 else 2
  decide (1 ≤ speed) && decide (speed ≤ top) && (fec == 0 || (fec == 1 && speed == 4) || (fec == 2 && speed == 5))

/-- The port leaves UP (R82): what is being received is counted, of either MAC, the frame in transmission is cut off, pause is
released, MAC merge goes to INITIAL, the Carcass flushes the output. -/
def State.leaveUp (s : State) (p : Nat) (st : PortSt) : State :=
  let s0 := match s.rx p with
    | some r => (s.setRx p none).rxEnd p r true
    | none => s
  let s1 := match (s0.port p).asm with
    | some a => (s0.takeAsm p).rxEnd p a.rx true
    | none => s0
  let s2 := (s1.modPort p (fun q => { q with st := st, txCut := none, txHeld := none, interrupted := false, closing := false })).releasePause p
  (s2.mmLinkDown p).swDown p

/-- The port goes DISABLED (R82, R104): the lane stops. -/
def State.portOff (s : State) (p : Nat) : State :=
  let s1 := if s.portUp p then s.leaveUp p .disabled else s
  (((((s1.p (R.MAC_STS.LINK p) 0).p (R.MAC_STS.PCS_LOCK p) 0).p (R.MAC_STS.RATE p) 0).p (R.MAC_STS.CFG_ERR p) 0).modPort p
    (fun q => { q with st := .disabled, trained := false, closing := false, again := none }))

/-- The port is enabled with the SPEED and FEC sampled (R80, R82). -/
def State.macStart (s : State) (p sp fe : Nat) : State :=
  if speedOk p sp fe then
    (s.p (R.MAC_STS.RATE p) sp).modPort p (fun q => { q with st := .down, trained := false, speed := sp, fec := fe })
  else (s.p (R.MAC_STS.CFG_ERR p) 1).ev (R.MAC_EVT.CFG_ERR p)

/-- EN goes from 0 to 1: SPEED and FEC are sampled (R80). A port whose last frame is still in transmission is enabled after it. -/
def State.macEnable (s : State) (p : Nat) : State :=
  let sp := s.g (R.MAC_CFG.SPEED p)
  let fe := s.g (R.MAC_CFG.FEC p)
  if (s.port p).closing then s.modPort p (fun q => { q with again := some (sp, fe) }) else s.macStart p sp fe

/-- EN has been cleared and no frame is in transmission; where it has been set again since, the port is enabled anew. -/
def State.macClosed (s : State) (p : Nat) : State :=
  let s1 := s.portOff p
  match (s.port p).again with
  | some x => s1.macStart p x.1 x.2
  | none => s1

/-- EN is cleared (R82). -/
def State.macDisable (s : State) (p : Nat) : State :=
  if (s.port p).closing then s.modPort p (fun q => { q with again := none })
  else if s.portUp p && (s.port p).txCut.isSome then s.modPort p (fun q => { q with closing := true })
  else s.portOff p

/-- Every port whose EN has been cleared, and whose last frame has ended since `was`, also under R88, goes DISABLED (R82); one
may drop frames in transmission at another, so there are up to `n` rounds. -/
def State.portsClose (was : State) : Nat → State → State
  | 0, s => s
  | n + 1, s =>
    match (List.range 24).find? (fun p => (s.port p).closing && (s.port p).txCut.isNone && (was.port p).txCut.isSome) with
    | some p => State.portsClose was n (s.macClosed p)
    | none => s

/-- After a command, begun at `was`, that may have ended frames in transmission. -/
def State.txSettle (s was : State) : State := State.portsClose was 24 s

/-- A write of MAC_CFG by requester `req` (R80, R508). -/
def State.macCfgWrite (s : State) (req p : Nat) (val : Word) : State :=
  ((s.store (R.MAC_CFG p) val).enDo (R.MAC_CFG p) 31 (s.enAct req (R.MAC_CFG p) 31 val) (fun t => t.macEnable p)
    (fun t => t.macDisable p)).txSettle s

/-- LINK follows PCS lock and the polls, and the port follows LINK (R81, R82). -/
def State.linkEval (s : State) (p : Nat) : State :=
  let q := s.port p
  let link := s.on (R.MAC_STS.PCS_LOCK p) && (!s.on (R.MAC_PHY.POLL_EN p) || (q.poll1 && q.poll2))
  let s1 := s.pb (R.MAC_STS.LINK p) link
  match q.st, link with
  | .down, true =>
    let s2 := ((s1.modPort p (fun r => { r with st := .up })).ev (R.MAC_EVT.LINK_UP p)).mmStart p
    if s2.pins.forwarding then s2.swUp p else s2
  | .up, false =>
    if q.closing then (s1.macClosed p).txSettle s
    else ((s1.leaveUp p .down).ev (R.MAC_EVT.LINK_DOWN p)).bump (R.MAC_LINK_DOWN_LO p) |>.txSettle s
  | _, _ => s1

/-- The lane has trained (R509). -/
def State.trained (s : State) (p : Nat) : State :=
  if (s.port p).st = .disabled then s else s.modPort p (fun q => { q with trained := true })

/-- PCS lock is gained or lost (R81, R509). -/
def State.pcsGain (s : State) (p : Nat) : State :=
  if (s.port p).trained then (s.p (R.MAC_STS.PCS_LOCK p) 1).linkEval p else s
def State.pcsLoss (s : State) (p : Nat) : State :=
  if s.on (R.MAC_STS.PCS_LOCK p) then ((s.p (R.MAC_STS.PCS_LOCK p) 0).ev (R.MAC_EVT.PCS_LOSS p)).linkEval p else s

/-- A write of MAC_FC_CFG: a change of MODE or RX_EN releases received pause (R99). -/
def State.fcCfgWrite (s : State) (p : Nat) (val : Word) : State :=
  let s1 := s.store (R.MAC_FC_CFG p) val
  if fieldOf val 29 3 = fieldOf (s.rd (R.MAC_FC_CFG p)) 29 3 then s1 else s1.releasePause p

/-- REFRESH quanta pass while a threshold stays asserted (R101). -/
def State.refresh (s : State) (p : Nat) : State :=
  let m := (s.port p).xoffSent
  if m = 0 then s else s.sendFc p (if s.fcMode p = 1 then 255 else m) (s.g (R.MAC_FC_TIME.QUANTA p))

/-! ### MDIO (R83-R85) -/

def State.mdioM (s : State) (m : Nat) : Mdio := s.mdio.get (fun _ => {}) m
def State.modMdio (s : State) (m : Nat) (f : Mdio → Mdio) : State := { s with mdio := s.mdio.set (fun _ => {}) m (f (s.mdioM m)) }

/-- The ports master `m` polls, ascending (R83, R84). -/
def State.polled (s : State) (m : Nat) : List Nat := ((List.range 12).map (fun k => 12 * m + k)).filter (fun p => s.on (R.MAC_PHY.POLL_EN p))
/-- The port whose poll is in progress or next in the round. -/
def State.pollNow (s : State) (m : Nat) : Option Nat :=
  (s.polled m).find? (fun p => match (s.mdioM m).poll with | some q => decide (q < p) | none => true)
/-- A poll is in progress. -/
def State.polling (s : State) (m : Nat) : Bool := !(s.mdioM m).gap && !(s.mdioM m).started && (s.pollNow m).isSome
/-- A command or a write waits or is in progress. -/
def Mdio.work (d : Mdio) : Bool := d.cmd.isSome || !d.writes.isEmpty

/-- The master takes up work that waits, if any: a command before a write (R84). -/
def Mdio.next (d : Mdio) : Mdio := { d with started := d.work, writing := d.cmd.isNone }

/-- Work arrives at a master: it starts at once unless an access is in progress (R84). -/
def State.mdioWork (s : State) (m : Nat) (f : Mdio → Mdio) : State :=
  let poll := s.polling m
  s.modMdio m (fun d => if d.started || poll then f d else (f d).next)

/-- POLL_EN has changed: a round with no port left to poll is over, and its gap begins (R84). -/
def State.roundTouch (s : State) (m : Nat) : State :=
  if (s.mdioM m).poll.isSome && (s.pollNow m).isNone then
    s.modMdio m (fun d => if d.started then { d with gap := true, poll := none } else { d.next with gap := true, poll := none })
  else s

/-- A write of MAC_MDIO_CMD (R48, R83). -/
def State.mdioAct (s : State) (req m : Nat) (val : Word) : State :=
  let op := fieldOf val 28 2
  s.command req (R.MAC_MDIO_CMD m) val (op == 1 || op == 2) statBusy (fun u =>
    let cl45 := bit val.toNat 27
    let a : MdioAcc := { cl45 := cl45, write := op == 1, prt := fieldOf val 22 5, dev := if cl45 then fieldOf val 17 5 else 0,
                         reg := if cl45 then u.g (R.MAC_MDIO_RD.ADDR m) else fieldOf val 17 5, data := fieldOf val 0 16 }
    u.mdioWork m (fun d => { d with cmd := some a }))

/-- Such a write at its requester's port. -/
def State.mdioCommand (s : State) (req m : Nat) (val : Word) : State :=
  s.byPort req (R.MAC_MDIO_CMD m) val false (fun t => t.mdioAct req m val)

/-- A link poll completes with a value (R81, R84, R85). -/
def State.pollDone (s : State) (m data : Nat) : State :=
  match s.polling m, s.pollNow m with
  | true, some p =>
    let good := data % 65536 != 0xFFFF && bit data (s.g (R.MAC_PHY.BIT p))
    let s1 := (s.pb (R.MAC_STS.PHY_UP p) good).modPort p (fun q => { q with poll1 := good, poll2 := q.poll1 })
    let s2 := s1.modMdio m (fun d => { d with poll := some p })
    let s3 := s2.modMdio m (fun d => { d with
      gap := (s2.pollNow m).isNone, poll := if (s2.pollNow m).isNone then none else some p, started := d.work, writing := d.cmd.isNone })
    s3.linkEval p
  | _, _ => s

/-- The access in progress, a command's or a queued write's, ends (R84): a read's data is shown, a command's STAT is done. -/
def State.mdioDone (s : State) (m data : Nat) : State :=
  let d := s.mdioM m
  if !d.started then s
  else if d.writing then
    match d.writes with
    | [] => s
    | a :: rest =>
      let s1 := s.modMdio m (fun x => { x with writes := rest, last := some a }.next)
      if a.sleep then { s1 with slp := { s1.slp with mdio := s1.slp.mdio - 1 } } else s1
  else
    match d.cmd with
    | some a =>
      let s1 := if a.write then s else s.p (R.MAC_MDIO_RD.DATA m) data
      (s1.setStat (R.MAC_MDIO_CMD m) statDone).modMdio m (fun x => { x with cmd := none, last := some a }.next)
    | none => s

/-! ### Transmission and soft reset -/

/-- A frame in transmission of a port being disabled is finished first, and no other starts (R82). -/
def State.macTransmit (s : State) (p : Nat) (ex : Bool) (cuts : List Nat) : State :=
  if (s.port p).closing && !(match s.macPick p ex with | some id => s.inTx id p | none => false) then s
  else (s.transmit p ex cuts).txSettle s

/-- The soft reset of MAC (R104): every port DISABLED, registers at their reset values, an MDIO command failed. R104 speaks of a
command in progress only: writes queued at a master are discarded, and the count that the sleep master keeps of its own stays as
it is; the model's choice (log 61). -/
def State.macSoftReset (s : State) : State :=
  let s1 := s.each (List.range 24) (fun p t => t.portOff p)
  let busy := (List.range 2).filter (fun m => s.stat (R.MAC_MDIO_CMD m) == statBusy)
  let s2 := s1.resetRegs (fun a => regionOf a == 3)
  let s3 := { s2 with ports := [], mdio := [] }
  s3.each busy (fun m t => t.setStat (R.MAC_MDIO_CMD m) statFailed)

/-! ### Meanings of the port rows -/

/-- MAC_ENABLE (R80): a write of MAC_CFG[p] with EN set. -/
def execMacEnable (req port : Nat) (val : Word) (s : State) : Host.Outcome State Fault Refusal :=
  done s (s.byPort req (R.MAC_CFG (port % 24)) (val ||| 0x80000000) false (fun t => t.macCfgWrite req (port % 24) (val ||| 0x80000000)))

/-- MAC_DISABLE (R82): a write of MAC_CFG[p] with EN clear. -/
def execMacDisable (req port : Nat) (val : Word) (s : State) : Host.Outcome State Fault Refusal :=
  done s (s.byPort req (R.MAC_CFG (port % 24)) (val &&& 0x7FFFFFFF) false (fun t => t.macCfgWrite req (port % 24) (val &&& 0x7FFFFFFF)))

/-- LANE_TRAINED (R509). -/
def execLaneTrained (port : Nat) (s : State) : Host.Outcome State Fault Refusal := done s (s.trained (port % 24))

/-- PCS_LOCK_GAIN (R509). -/
def execPcsLockGain (port : Nat) (s : State) : Host.Outcome State Fault Refusal := done s (s.pcsGain (port % 24))

/-- PCS_LOCK_LOSS (R81). -/
def execPcsLockLoss (port : Nat) (s : State) : Host.Outcome State Fault Refusal := done s (s.pcsLoss (port % 24))

/-- MDIO_POLL_COMPLETE (R85). -/
def execMdioPollComplete (master data : Nat) (s : State) : Host.Outcome State Fault Refusal := done s (s.pollDone (master % 2) data)

/-- MDIO_ROUND_GAP_EXPIRY (R84). -/
def execMdioRoundGapExpiry (master : Nat) (s : State) : Host.Outcome State Fault Refusal :=
  done s (s.modMdio (master % 2) (fun d => { d with gap := false }))

/-- MDIO_WRITE (R83): MAC_MDIO_CMD with OP write. -/
def execMdioWrite (req master : Nat) (val : Word) (s : State) : Host.Outcome State Fault Refusal :=
  done s (s.mdioCommand req (master % 2) (withField val 28 2 1))

/-- MDIO_READ (R83): MAC_MDIO_CMD with OP read. -/
def execMdioRead (req master : Nat) (val : Word) (s : State) : Host.Outcome State Fault Refusal :=
  done s (s.mdioCommand req (master % 2) (withField val 28 2 2))

/-- MDIO_COMMAND_COMPLETE (R84). -/
def execMdioCommandComplete (master data : Nat) (s : State) : Host.Outcome State Fault Refusal := done s (s.mdioDone (master % 2) data)

/-- FRAME_RECEIVE (R86). -/
def execFrameReceive (port : Nat) (bytes : List Byte) (more pcsErr : Bool) (s : State) : Host.Outcome State Fault Refusal :=
  done s ((s.receive port bytes more pcsErr).txSettle s)

/-- FRAME_TRANSMIT (R92). -/
def execFrameTransmit (port : Nat) (express : Bool) (cuts : List Nat) (s : State) : Host.Outcome State Fault Refusal :=
  done s (s.macTransmit port express cuts)

/-- MM_ENABLE (R95): a write of MAC_MM_CFG[p] with EN set. -/
def execMmEnable (req port : Nat) (val : Word) (s : State) : Host.Outcome State Fault Refusal :=
  done s (s.byPort req (R.MAC_MM_CFG (port % 24)) (val ||| 0x80000000) false (fun t => (t.mmCfgWrite (port % 24) (val ||| 0x80000000)).txSettle t))

/-- MM_VERIFY_TIMEOUT (R95). -/
def execMmVerifyTimeout (port : Nat) (s : State) : Host.Outcome State Fault Refusal := done s (s.mmTimeout (port % 24))

/-- MM_RESPOND_RECEIVED (R95). -/
def execMmRespondReceived (port : Nat) (s : State) : Host.Outcome State Fault Refusal := done s (s.mmRespond (port % 24))

/-- MM_VERIFY_RECEIVED (R96). -/
def execMmVerifyReceived (port : Nat) (s : State) : Host.Outcome State Fault Refusal := done s (s.mmVerify (port % 24))

/-- MM_FRAGMENT_RECEIVED (R96). -/
def execMmFragmentReceived (port : Nat) (cont final : Bool) (count : Nat) (bytes : List Byte) (crcOk : Bool) (s : State) (pcsErr : Bool := false) :
    Host.Outcome State Fault Refusal :=
  done s ((s.mmFragment (port % 24) cont final count bytes crcOk pcsErr).txSettle s)

/-- PAUSE_RECEIVED (R99): a PAUSE of `quanta` with good FCS. -/
def execPauseReceived (port quanta : Nat) (s : State) : Host.Outcome State Fault Refusal :=
  done s (if s.portUp (port % 24) then s.pauseRx (port % 24) (quanta % 65536) else s)

/-- PFC_RECEIVED (R99): a PFC naming classes, with their times. -/
def execPfcReceived (port classes : Nat) (times : List Nat) (s : State) : Host.Outcome State Fault Refusal :=
  done s (if s.portUp (port % 24) then s.pfcRx (port % 24) (classes % 256) (times.map (· % 65536)) else s)

/-- PAUSE_TIMER_EXPIRY (R99): the port's pause, or class `cls`'s. -/
def execPauseTimerExpiry (port : Nat) (cls : Option Nat) (s : State) : Host.Outcome State Fault Refusal :=
  done s (s.pauseEnds (port % 24) cls)

/-- PAUSE_REFRESH (R101). -/
def execPauseRefresh (port : Nat) (s : State) : Host.Outcome State Fault Refusal := done s (s.refresh (port % 24))

/-- FEC_BLOCK_RECEIVED (R107): a block corrected, or found uncorrectable. -/
def execFecBlockReceived (port : Nat) (corrected : Bool) (s : State) : Host.Outcome State Fault Refusal :=
  let p := port % 24
  done s (if (s.port p).st = .disabled ∨ (s.port p).fec = 0 then s
    else if corrected then s.bump (R.MAC_FEC_CORR_LO p)
    else (s.bump (R.MAC_FEC_UNCORR_LO p)).ev (R.MAC_EVT.FEC_UNCORR p))

/-! ### Rows of other blocks that may end frames in transmission (R88) -/

/-- MATCHING_CYCLE (R150). -/
def execMatchingCycle (retried : List Nat) (s : State) : Host.Outcome State Fault Refusal := done s ((s.matchCycle retried).txSettle s)

/-- CELL_ARRIVAL (R153): the `n`-th cell in flight. -/
def execCellArrival (n : Nat) (s : State) : Host.Outcome State Fault Refusal := done s ((s.arrive n).txSettle s)

/-- RESEQ_GAP_TIMEOUT (R153). -/
def execReseqGapTimeout (src dst : Nat) (s : State) : Host.Outcome State Fault Refusal := done s ((s.gapLost (src % 28) (dst % 28)).txSettle s)

/-- PLY_FAIL (R168). -/
def execPlyFail (ply : Nat) (s : State) : Host.Outcome State Fault Refusal := done s ((s.plyFail ply).txSettle s)

/-- STR_DISABLE (R199): a write of STR_CFG[n] with EN clear. -/
def execStrDisable (req n : Nat) (val : Word) (s : State) : Host.Outcome State Fault Refusal :=
  done s (s.byPort req (R.STR_CFG (n % 256)) (val &&& 0x7FFFFFFF) false (fun t => (t.strCfgWrite (n % 256) (val &&& 0x7FFFFFFF)).txSettle t))

end Sys2Proof.Machine
end

