-- ==== Sys2Proof/Machine/CanBase.lean ====
section
/-! DEFINITION. CAN transmit objects and requests (08, R219-R222) and the generate side of CAN message authentication
(09, R249, R250, R252). -/

namespace Sys2Proof.Machine

/-- The announcement step of bus `c` in PREPARE ends (R367). -/
def State.annEnd (s : State) (c : Nat) : State := { s with slp := { s.slp with ann := s.slp.ann.erase c } }

/-- States of a controller (CAN_STS.STATE). -/
abbrev canOffSt : Nat := 0
abbrev canIntegrating : Nat := 1
abbrev canActive : Nat := 2
abbrev canPassive : Nat := 3
abbrev canBusOff : Nat := 4

def State.canOf (s : State) (c : Nat) : Can := s.can.get (fun _ => {}) c
def State.modCan (s : State) (c : Nat) (f : Can → Can) : State := { s with can := s.can.set (fun _ => {}) c (f (s.canOf c)) }
def State.canState (s : State) (c : Nat) : Nat := s.g (R.CAN_STS.STATE c)
def State.setCanState (s : State) (c v : Nat) : State :=
  (s.p (R.CAN_STS.STATE c) v).when (v != canActive && v != canPassive) (fun t => t.annEnd c)

/-- CAN_CFG in force: sampled at EN (R208), or as written while EN is clear and the controller OFF. -/
def State.canCfg (s : State) (c : Nat) : Word :=
  if s.canState c = canOffSt ∧ !s.enOn (R.CAN_CFG.EN c) then s.rd (R.CAN_CFG c) else (s.canOf c).cfg
def State.fdEn (s : State) (c : Nat) : Bool := bit (s.canCfg c).toNat 30
def State.xlEn (s : State) (c : Nat) : Bool := bit (s.canCfg c).toNat 29
def State.listen (s : State) (c : Nat) : Bool := bit (s.canCfg c).toNat 28

/-! ### Lengths and formats (R215, R220) -/

/-- Data lengths of CAN FD, by DLC. -/
def fdLens : List Nat := [0, 1, 2, 3, 4, 5, 6, 7, 8, 12, 16, 20, 24, 32, 48, 64]

/-- The shortest FD length that holds `n` bytes (R235). -/
def fdLenFor (n : Nat) : Nat := (fdLens.find? (fun k => decide (n ≤ k))).getD 64

/-- LEN is valid for a format; `long` for an XL frame from a gateway FIFO (R220). -/
def lenOk (fmt len : Nat) (long : Bool) : Bool :=
  match fmt with
  | 0 => decide (len ≤ 8)
  | 1 => fdLens.contains len
  | 2 => decide (1 ≤ len) && decide (len ≤ (if long then 2048 else 64))
  | _ => false

/-! ### Transmit objects (R219-R221) -/

/-- Object `n` of controller `c` stands in a row that could not be repaired: it stores nothing (R460). Receive objects are
numbered 0-2559, transmit objects from 2560. -/
def State.objWorn (s : State) (c n : Nat) : Bool := s.worn.objs.contains (4096 * c + n)

/-- The words of a transmit object. -/
def State.txo (s : State) (c i : Nat) : List Word := s.rdList (R.CAN_TXO_W0 c i) 20
/-- Its data bytes. -/
def State.txoData (s : State) (c i : Nat) : List Byte := ofWords (s.rdList (R.CAN_TXO_W4 c i) 16)
def State.setTxoData (s : State) (c i : Nat) (d : List Byte) : State :=
  if s.objWorn c (2560 + i) then s else s.wrList (R.CAN_TXO_W4 c i) (wordsOf 16 d)

/-- The FIFO of a controller (R236), and whether its head stands in FIFO_OBJ as a long frame (R237). -/
def State.fifo (s : State) (d : Nat) : List CFrame := s.gw.fifo.get (fun _ => []) d
def State.setFifo (s : State) (d : Nat) (l : List CFrame) : State :=
  { s with gw := { s.gw with fifo := s.gw.fifo.set (fun _ => []) d l } }.p (R.GW_DST_STS.LEVEL d) l.length
/-- The object the long head of FIFO `d` stands in: FIFO_OBJ as it was when the gateway wrote it (R237). -/
def State.longObj (s : State) (d : Nat) : Option Nat := s.gw.long.get (fun _ => none) d
def State.longHead (s : State) (d : Nat) : Bool := (s.longObj d).isSome
def State.setLong (s : State) (d : Nat) (o : Option Nat) : State :=
  { s with gw := { s.gw with long := s.gw.long.set (fun _ => none) d o } }
/-- Object `i` of controller `c` holds the head words of a long frame of its FIFO. -/
def State.isLong (s : State) (c i : Nat) : Bool := s.longObj c == some i

/-- REQ of an object has become 0: a long frame that stood in it leaves its FIFO (R237). -/
def State.reqGone (s : State) (c i : Nat) : State := if s.isLong c i then (s.setFifo c (s.fifo c).tail).setLong c none else s

/-- The object breaks a condition of R220. -/
def State.txBad (s : State) (c i : Nat) : Bool :=
  let fmt := s.g (R.CAN_TXO_W0.FMT c i)
  (fmt == 1 && !s.fdEn c) || (fmt == 2 && !s.xlEn c) || !lenOk fmt (s.g (R.CAN_TXO_W1.LEN c i)) (s.isLong c i)

/-- A request is refused (R220). -/
def State.txRefuse (s : State) (c i : Nat) : State :=
  (((s.p (R.CAN_TXO_W1.REQ c i) 0).bump (R.CAN_TX_BAD_LO c)).ev (R.CAN_EVT.TX_BAD c)).reqGone c i

/-- REQ of an object has been set: refused under R220, unless SCHED makes REQ ignored (R219). -/
def State.request (s : State) (c i : Nat) : State :=
  if s.on (R.CAN_TXO_W1.REQ c i) && !s.on (R.CAN_TXO_W1.SCHED c i) && s.txBad c i then s.txRefuse c i else s

/-- The frame an object holds (R221); an XL frame has the priority identifier of bits 10:0 of ID (R234). -/
def State.txoFrame (s : State) (c i : Nat) : CFrame :=
  let len := s.g (R.CAN_TXO_W1.LEN c i)
  let rtr := s.on (R.CAN_TXO_W1.RTR c i) && s.g (R.CAN_TXO_W0.FMT c i) == 0
  let xl := s.g (R.CAN_TXO_W0.FMT c i) == 2
  let id := s.g (R.CAN_TXO_W0.ID c i)
  { fmt := s.g (R.CAN_TXO_W0.FMT c i), ide := s.on (R.CAN_TXO_W0.IDE c i) && !xl, id := if xl then id % 2048 else id, rtr := rtr,
    brs := s.on (R.CAN_TXO_W1.BRS c i), sec := s.on (R.CAN_TXO_W2.SEC c i), sdt := s.g (R.CAN_TXO_W2.SDT c i),
    vcid := s.g (R.CAN_TXO_W2.VCID c i), af := (s.rd (R.CAN_TXO_W3 c i)).toNat, len := len,
    data := if rtr then [] else if s.isLong c i then (match s.fifo c with | f :: _ => f.data | [] => [])
            else slice (s.txoData c i) 0 len }

/-- W0 of an object for a frame. -/
def CFrame.w0 (f : CFrame) : Word := W ((if f.ide then 2147483648 else 0) + (f.fmt % 4) * 2 ^ 29 + f.id % 2 ^ 29)
/-- W2 of an object for a frame. -/
def CFrame.w2 (f : CFrame) : Word := W ((f.sdt % 256) * 2 ^ 24 + (f.vcid % 256) * 2 ^ 16 + (if f.sec then 32768 else 0))

/-- Writes a frame into an object (R234, R236, R237): READY 1, SCHED as found, the data of a long frame left out. -/
def State.putFrame (s : State) (c i : Nat) (f : CFrame) (long : Bool) : State :=
  let s1 := (s.wr (R.CAN_TXO_W0 c i) f.w0).p (R.CAN_TXO_W1.LEN c i) f.len
  let s2 := ((s1.pb (R.CAN_TXO_W1.BRS c i) f.brs).pb (R.CAN_TXO_W1.RTR c i) f.rtr).p (R.CAN_TXO_W1.READY c i) 1
  let s3 := if f.fmt = 2 then (s2.wr (R.CAN_TXO_W2 c i) f.w2).wr (R.CAN_TXO_W3 c i) (W f.af) else s2
  if s.objWorn c (2560 + i) then s else if long then s3 else s3.setTxoData c i f.data

/-! ### Message authentication of transmit objects (R249, R250, R252) -/

/-- Fields of GW_CMA_CFG as sampled at EN. -/
def Cma.gen (e : Cma) : Bool := bit e.cfg.toNat 30
def Cma.persist (e : Cma) : Bool := bit e.cfg.toNat 29
def Cma.can (e : Cma) : Nat := fieldOf e.cfg 25 4
def Cma.obj (e : Cma) : Nat := fieldOf e.cfg 13 12
def Cma.fvb (e : Cma) : Nat := fieldOf e.cfg 10 3
def Cma.macb (e : Cma) : Nat := fieldOf e.cfg 6 4
def Cma.plen (e : Cma) : Nat := fieldOf e.cfg 0 6
/-- Bytes an authenticated frame needs. -/
def Cma.size (e : Cma) : Nat := e.plen + e.fvb + e.macb

/-- States of an entry (GW_CMA_STS.STATE). -/
abbrev cmaDisabled : Nat := 0
abbrev cmaActive : Nat := 1
abbrev cmaExhausted : Nat := 2
abbrev cmaNoRes : Nat := 3
abbrev cmaCfgErr : Nat := 4

def State.cmaOf (s : State) (a : Nat) : Cma := s.gw.cma.get (fun _ => {}) a
def State.modCma (s : State) (a : Nat) (f : Cma → Cma) : State :=
  { s with gw := { s.gw with cma := s.gw.cma.set (fun _ => {}) a (f (s.cmaOf a)) } }
def State.cmaState (s : State) (a : Nat) : Nat := s.g (R.GW_CMA_STS.STATE a)

/-- The enabled entry of lowest index that names an object in a direction (R249). -/
def State.cmaFor (s : State) (gen : Bool) (c i : Nat) : Option Nat :=
  (List.find? (fun (p : Nat × Cma) => p.2.gen == gen && p.2.can == c && p.2.obj == i &&
    s.cmaState p.1 != cmaDisabled && s.cmaState p.1 != cmaCfgErr) s.gw.cma).map (·.1)

/-- Input of the CMAC (R250). -/
def cmaInput (dataId : Nat) (w0 : Word) (payload : List Byte) (f : Nat) : List Byte :=
  beBytes 2 dataId ++ beBytes 4 w0.toNat ++ payload ++ beBytes 8 f

/-- A generate job is not started (R252): counted; the object keeps its authenticated content, if any. -/
def State.cmaHeld (s : State) (a : Nat) : State :=
  let e := s.cmaOf a
  let s1 := (s.bump (R.GW_CMA_HELD_LO e.can)).ev R.GW_EVT.CMA_HELD
  match e.auth with
  | none => s1
  | some ws =>
    let keep := (s1.rd (R.CAN_TXO_W1 e.can e.obj)) &&& 0xCC000000
    (s1.wrList (R.CAN_TXO_W0 e.can e.obj) ws).wr (R.CAN_TXO_W1 e.can e.obj) (keep ||| ((ws.getD 1 0) &&& 0x33FFFFFF))

/-- Issues the job of entry `a` with freshness `f`. -/
def State.cmaIssue (s : State) (a f : Nat) : State :=
  let e := s.cmaOf a
  let s1 := (s.wr64 (R.GW_CMA_FRESH_LO a) f).resUse (256 + a) f
  (s1.enqueue { level := 3, user := .canGenerate a f, slot := s.g (R.GW_CMA_ID.SLOT a), blocks := cmacBlocks (14 + e.plen) }).modCma a
    (fun x => { x with busy := true, f := f })

/-- A change of the object of generate entry `a` starts a job, or is held (R252); one job of an entry runs at a time. -/
def State.cmaStart (s : State) (a : Nat) : State :=
  let e := s.cmaOf a
  let f := s.rd64 (R.GW_CMA_FRESH_LO a) + 1
  if s.cmaState a != cmaActive then s.cmaHeld a
  else if e.busy then s.modCma a (fun x => { x with more := x.more + 1 })
  else if freshLimit ≤ f then (s.p (R.GW_CMA_STS.STATE a) cmaExhausted).cmaHeld a
  else if !s.hwKey (s.g (R.GW_CMA_ID.SLOT a)) || s.g (R.CAN_TXO_W1.LEN e.can e.obj) < e.size then s.cmaHeld a
  else if s.mustWait (256 + a) f then s.modCma a (fun x => { x with waitRes := x.waitRes + 1 })
  else s.cmaIssue a f

/-- The content of a transmit object has changed (R252). -/
def State.cmaChange (s : State) (c i : Nat) : State :=
  match s.cmaFor true c i with
  | some a => s.cmaStart a
  | none => s

/-- The object is never sent: its entry was EXHAUSTED, and has not since had a new key, by another slot or another key in
the slot, and a write of GW_CMA_FRESH with EN 0 (R252). -/
def State.cmaBarred (s : State) (c i : Nat) : Bool :=
  s.gw.spent.any (fun p => p.2.can == c && p.2.obj == i &&
    !(p.2.fresh && (s.g (R.GW_CMA_ID.SLOT p.1) != p.2.slot || s.slotGen p.2.slot != p.2.gen)))

/-- GW_CMA_FRESH of entry `a` is written with EN 0 (R252). -/
def State.cmaFreshened (s : State) (a : Nat) : State :=
  match s.gw.spent.find? a with
  | some x => { s with gw := { s.gw with spent := s.gw.spent.put a { x with fresh := true } } }
  | none => s

/-- The object may be copied as far as authentication goes (R252). -/
def State.cmaSendable (s : State) (c i : Nat) : Bool :=
  !s.cmaBarred c i &&
  match s.cmaFor true c i with
  | none => true
  | some a =>
    let e := s.cmaOf a
    s.cmaState a != cmaExhausted && !e.busy && e.more == 0 && e.waitRes == 0 && e.auth.isSome

/-- A success of the object: its content may not be sent again until a new job has run (R252). -/
def State.cmaSent (s : State) (c i : Nat) : State :=
  match s.cmaFor true c i with
  | some a => (s.modCma a (fun x => { x with auth := none })).cmaStart a
  | none => s

/-- The generate job of entry `a` ends: freshness, MAC and padding are written into the object (R252). -/
def State.cmaGenerated (s : State) (a f : Nat) (key : List Byte) : State :=
  let e := s.cmaOf a
  if !e.busy || e.f != f then s
  else
    let old := s.txoData e.can e.obj
    let d := slice old 0 e.plen
    let mac := (cmac key (cmaInput (s.g (R.GW_CMA_ID.DATA_ID a)) (s.rd (R.CAN_TXO_W0 e.can e.obj)) d f)).take e.macb
    let len := max e.size (s.g (R.CAN_TXO_W1.LEN e.can e.obj))
    let pad := List.replicate (len - e.size) 0
    let s1 := (s.setTxoData e.can e.obj (d ++ beBytes e.fvb f ++ mac ++ pad ++ old.drop len)).bump (R.GW_CMA_GEN_LO e.can)
    let s2 := s1.modCma a (fun x => { x with busy := false, more := x.more - 1, auth := some (s1.txo e.can e.obj) })
    if e.more = 0 then s2 else s2.cmaStart a

/-- The reservation of entry `a` has advanced (R193, R328): the changes that waited go on. -/
def State.cmaResume (s : State) (a : Nat) : State :=
  let n := (s.cmaOf a).waitRes
  if n = 0 then s
  else (s.modCma a (fun x => { x with waitRes := 0, more := x.more + (n - 1) })).cmaStart a

/-- The job of a waiting frame is restarted with the rest of those held back, where none runs. -/
def State.cmaAbandon (s : State) (a : Nat) : State := s.modCma a (fun x => { x with busy := false })

/-! ### Writes of transmit objects -/

/-- A register write of word `w` of a transmit object (R216, R219-R221, R252). -/
def State.txoWrite (s : State) (c i w : Nat) (val : Word) : State :=
  if s.objWorn c (2560 + i) then s
  else if w != 1 then s.store (R.CAN_TXO_W0 c i + 4 * w) val
  else
    let kept := ((s.rd (R.CAN_TXO_W1 c i)) &&& ~~~val &&& 0x04000000) ||| ((s.rd (R.CAN_TXO_W1 c i)) &&& 0x03FFF000)
    let was := s.on (R.CAN_TXO_W1.REQ c i)
    let s1 := s.wr (R.CAN_TXO_W1 c i) ((val &&& 0xF8000FFF) ||| kept)
    let s2 := if was && !bit val.toNat 30 then s1.reqGone c i else s1
    let s3 := s2.request c i
    if bit val.toNat 31 then s3.cmaChange c i else s3

end Sys2Proof.Machine
end

