-- ==== Sys2Proof/Machine/Gateway.lean ====
section
/-! DEFINITION. The CAN gateway: routing, FIFOs, token buckets, ACF packing and unpacking, the Jig, verification of CAN
frames (09, R232-R253). -/

namespace Sys2Proof.Machine

/-! ### Destinations (R234-R238) -/

/-- Tokens of a destination; a bucket is full at reset (R238). -/
def State.tokens (s : State) (d : Nat) : Nat := s.gw.tok.get (fun _ => 16) d
def State.setTokens (s : State) (d n : Nat) : State := { s with gw := { s.gw with tok := s.gw.tok.set (fun _ => 16) d n } }
/-- BURST in force: 0 acts as 1. -/
def State.burst (s : State) (d : Nat) : Nat := max 1 (s.g (R.GW_DST_RATE.BURST d))

/-- Takes a token of destination `d`, or counts the frame as dropped (R238). -/
def State.takeToken (s : State) (d : Nat) : State × Bool :=
  if s.g (R.GW_DST_RATE.PER_US d) = 0 then (s, true)
  else if s.tokens d = 0 then ((s.bump (R.GW_RATE_DROP_LO d)).ev R.GW_EVT.RATE, false)
  else (s.setTokens d (s.tokens d - 1), true)

/-- A frame that cannot be sent by `d` (R235). -/
def State.noSend (s : State) (d : Nat) : State := (s.bump (R.GW_NOSEND_LO d)).ev R.GW_EVT.NOSEND

/-- A frame dropped for a pending object or a full FIFO (R234, R236). -/
def State.busyDrop (s : State) (d : Nat) : State := (s.bump (R.GW_BUSY_DROP_LO d)).ev R.GW_EVT.BUSY_DROP

/-- Conversion to FD (R235): LEN padded to an FD length with GW_CFG.PAD. -/
def State.toFd (s : State) (f : CFrame) (brs : Bool) : Option CFrame :=
  if f.rtr || decide (64 < f.len) then none
  else
    let n := fdLenFor f.len
    some { f with fmt := 1, brs := brs, rtr := false, len := n,
                  data := slice f.data 0 f.len ++ List.replicate (n - f.len) (B8 (s.g R.GW_CFG.PAD)) }

/-- GW_RT_ACT.FMT applied to a frame (R235); none where it is not sendable. -/
def State.convert (s : State) (f : CFrame) (fmt : Nat) (fifo : Bool) : Option CFrame :=
  match fmt with
  | 0 => if f.fmt = 2 ∧ 64 < f.len ∧ !fifo then none else some f
  | 1 => if f.fmt = 0 then some f else if f.fmt = 1 ∧ f.len ≤ 8 then some { f with fmt := 0, brs := false } else none
  | 2 => s.toFd f false
  | _ => s.toFd f true

/-- Controller `d` can send the frame (R235-R237). -/
def State.sendable (s : State) (d : Nat) (f : CFrame) (fifo : Bool) : Bool :=
  s.canState d != canOffSt && !(f.fmt == 1 && !s.fdEn d) && !(f.fmt == 2 && !s.xlEn d) &&
    (if fifo then s.on (R.GW_DST_CFG.FIFO_EN d) else !(f.fmt == 2 && decide (64 < f.len))) && lenOk f.fmt f.len fifo

/-- Writes a frame into object `i` of controller `d` (R234). -/
def State.toObject (s : State) (d i : Nat) (f : CFrame) (ovw : Bool) : State :=
  let sched := s.on (R.CAN_TXO_W1.SCHED d i)
  if !sched && s.on (R.CAN_TXO_W1.REQ d i) && !ovw then s.busyDrop d
  else
    let s1 := if !sched && s.on (R.CAN_TXO_W1.REQ d i) then s.bump (R.GW_OVW_LO d) else s
    let s2 := (s1.putFrame d i f false).bump (R.GW_TX_IN_LO d)
    (if sched then s2 else (s2.p (R.CAN_TXO_W1.REQ d i) 1).request d i).cmaChange d i

/-- Data bytes a FIFO holds. -/
def fifoBytes (l : List CFrame) : Nat := (l.map (fun f => f.data.length)).foldl (· + ·) 0

/-- Puts a frame into the FIFO of controller `d` (R236, R237); true where it enters. -/
def State.toFifo (s : State) (d : Nat) (f : CFrame) : State × Bool :=
  let l := s.fifo d
  if 64 < f.len ∧ (s.cmaFor true d (s.g (R.GW_DST_CFG.FIFO_OBJ d))).isSome then
    ((s.bump (R.GW_CMA_HELD_LO d)).ev R.GW_EVT.CMA_HELD, false)
  else if 64 ≤ l.length ∨ 32768 < fifoBytes l + f.data.length then (s.busyDrop d, false)
  else ((s.setFifo d (l ++ [f])).bump (R.GW_TX_IN_LO d), true)

/-- A frame for the FIFO of `d`, from a route, an unpacked message or a queue entry (R236, R238, R244, R410). -/
def State.gwFifo (s : State) (d : Nat) (f : CFrame) : State × Bool :=
  if !s.sendable d f true then (s.noSend d, false)
  else
    match s.takeToken d with
    | (s1, false) => (s1, false)
    | (s1, true) => s1.toFifo d f

/-- The action of a route for destination `d` (R234). -/
def State.routeTo (s : State) (r d : Nat) (f : CFrame) : State :=
  let fifo := s.on (R.GW_RT_ACT.FIFO r)
  let g := if s.on (R.GW_RT_ACT.ID_REPL r) then { f with ide := s.on (R.GW_RT_ID.IDE r), id := s.g (R.GW_RT_ID.ID r) } else f
  match s.convert g (s.g (R.GW_RT_ACT.FMT r)) fifo with
  | none => s.noSend d
  | some h =>
    if fifo then (s.gwFifo d h).1
    else if !s.sendable d h false then s.noSend d
    else
      match s.takeToken d with
      | (s1, false) => s1
      | (s1, true) => s1.toObject d (s1.g (R.GW_RT_TXO.TXO r)) h (s1.on (R.GW_RT_ACT.OVW r))

/-- FIFO_OBJECT_REFILL (R236, R237): the head goes into FIFO_OBJ once its REQ is 0; a long one is dropped where a
generate entry names that object. -/
def State.fifoRefill (s : State) (d : Nat) : State :=
  let i := s.g (R.GW_DST_CFG.FIFO_OBJ d)
  if !s.on (R.GW_DST_CFG.FIFO_EN d) || s.on (R.CAN_TXO_W1.REQ d i) || s.longHead d then s
  else
    match s.fifo d with
    | [] => s
    | f :: rest =>
      let long := decide (64 < f.len)
      if long && (s.cmaFor true d i).isSome then ((s.setFifo d rest).bump (R.GW_CMA_HELD_LO d)).ev R.GW_EVT.CMA_HELD
      else
        let s1 := ((s.putFrame d i f long).p (R.CAN_TXO_W1.SCHED d i) 0).p (R.CAN_TXO_W1.REQ d i) 1
        let s2 := if long then s1.setLong d (some i) else s1.setFifo d rest
        (s2.request d i).cmaChange d i

/-! ### ACF packing (R239-R242) -/

def State.pack (s : State) (k : Nat) : Pack := s.gw.packs.get (fun _ => {}) k
def State.modPack (s : State) (k : Nat) (f : Pack → Pack) : State :=
  let s1 := { s with gw := { s.gw with packs := s.gw.packs.set (fun _ => {}) k (f (s.pack k)) } }
  let q := s1.pack k
  (s1.p (R.GW_PK_STS.SEQ k) q.seq).p (R.GW_PK_STS.MSG k) q.msgs.length

def Pack.tscf (q : Pack) : Bool := bit q.cfg.toNat 30
def Pack.brief (q : Pack) : Bool := bit q.cfg.toNat 29
def Pack.mtv (q : Pack) : Bool := bit q.cfg.toNat 28
def Pack.tb (q : Pack) : Nat := fieldOf q.cfg 26 2
def Pack.tag (q : Pack) : Bool := bit q.cfg.toNat 25
def Pack.pcp (q : Pack) : Nat := fieldOf q.cfg 22 3
def Pack.fh (q : Pack) : Nat := fieldOf q.cfg 0 14

/-- The frame size S of messages of `n` bytes (R241). -/
def Pack.size (q : Pack) (n : Nat) : Nat := 14 + (if q.tag then 4 else 0) + (if q.tscf then 24 else 12) + n + 4
def Pack.bytes (q : Pack) : Nat := (q.msgs.map List.length).foldl (· + ·) 0

/-- A SOF stamp in whole ns of a time base, extrapolated from the latest two captures (R218, R240), backwards too where the
stamp lies before them; none where a step or a stop of the base lies after the earlier of them. -/
def State.stampNs (s : State) (t sof : Nat) : Option Nat :=
  if s.gw.capGood.get (fun _ => 0) t < 2 then none
  else
    match s.gw.caps with
    | (c2, v2) :: (c1, v1) :: _ =>
      let t1 : Int := v1.getD t 0
      let t2 : Int := v2.getD t 0
      let ahead : Nat := (sof + 2 ^ 32 - c1 % 2 ^ 32) % 2 ^ 32
      let ds : Int := if ahead < 2 ^ 31 then ahead else (ahead : Int) - 2 ^ 32
      some ((t1 + ds * (t2 - t1) / max 1 ((c2 : Int) - c1)) % 2 ^ 64).toNat
    | _ => none

/-- An ACF message of a frame of controller `c` (R240): type, length in quadlets, pad, flags, bus, timestamp,
identifier, payload. -/
def State.acfMsg (s : State) (q : Pack) (c : Nat) (f : CFrame) : List Byte :=
  let data := slice f.data 0 f.len
  let pad := (4 - data.length % 4) % 4
  let ts := if q.mtv && !q.brief then s.stampNs q.tb f.stamp else none
  let len := ((if q.brief then 8 else 16) + data.length + pad) / 4
  let b := fun (x : Bool) (n : Nat) => if x then 2 ^ n else 0
  let flags := pad * 64 + b ts.isSome 5 + b f.rtr 4 + b f.ide 3 + b f.brs 2 + b (f.fmt == 1) 1 + b f.esi 0
  beBytes 2 ((if q.brief then 2 else 1) * 512 + len) ++ [B8 flags, B8 (c % 32)] ++
    (if q.brief then [] else beBytes 8 (ts.getD 0)) ++ beBytes 4 (f.id % 2 ^ 29) ++ data ++ List.replicate pad 0

/-- A message is dropped by packing (R240-R242). -/
def State.pkDrop (s : State) (k n : Nat) : State := (s.bumpBy (R.GW_PK_DROP_LO k) n).ev R.GW_EVT.PACK_DROP

/-- SA of packed frames, and DA of a context, byte 0 first. -/
def State.gwSa (s : State) : List Byte := beBytes 2 (s.rd R.GW_SA_HI).toNat ++ beBytes 4 (s.rd R.GW_SA_LO).toNat
def State.pkDa (s : State) (k : Nat) : List Byte := beBytes 2 (s.rd (R.GW_PK_DA_HI k)).toNat ++ beBytes 4 (s.rd (R.GW_PK_DA_LO k)).toNat

/-- The frame of a closing PDU without FCS (R239). -/
def State.pduFrame (s : State) (k : Nat) (q : Pack) : List Byte :=
  let n := q.bytes
  let sid := beBytes 4 (s.rd (R.GW_PK_SID_HI k)).toNat ++ beBytes 4 (s.rd (R.GW_PK_SID_LO k)).toNat
  let ts := (tvNs (s.tbVal q.tb) + 1000 * fieldOf q.time 16 16) % 2 ^ 32
  let head :=
    if q.tscf then [B8 4, B8 0x81, B8 q.seq, 0] ++ sid ++ beBytes 4 ts ++ [0, 0, 0, 0] ++ beBytes 2 n ++ [0, 0]
    else [B8 0x82, B8 (0x80 + n / 256 % 8), B8 n, B8 q.seq] ++ sid
  let tag := if q.tag then [B8 0x81, 0] ++ beBytes 2 (q.pcp * 8192 + fieldOf q.lim 20 12) else []
  padded (s.pkDa k ++ s.gwSa ++ tag ++ [B8 0x22, B8 0xF0] ++ head ++ q.msgs.flatten)

/-- Closes the open PDU of a context (R241, R242). -/
def State.pkClose (s : State) (k : Nat) : State :=
  let q := s.pack k
  if q.msgs.isEmpty then s
  else
    let o : PduOut := { k := k, msgs := q.msgs.length, frame := s.pduFrame k q, fh := q.fh, pcp := if q.tag then some q.pcp else none }
    let s1 := s.modPack k (fun x => { x with msgs := [], seq := (x.seq + 1) % 256 })
    if 16 ≤ s1.gw.out.length then s1.pkDrop k q.msgs.length else { s1 with gw := { s1.gw with out := s1.gw.out ++ [o] } }

/-- Adds a message to a context that has no open PDU: it takes the limits, and is dropped where it does not fit. -/
def State.pkOpen (s : State) (k : Nat) (m : List Byte) : State :=
  let s1 := s.modPack k (fun x => { x with lim := s.rd (R.GW_PK_LIM k), time := s.rd (R.GW_PK_TIME k) })
  let q := s1.pack k
  if clampNat 64 2048 (fieldOf q.lim 0 14) < q.size m.length then s1.pkDrop k 1
  else (s1.modPack k (fun x => { x with msgs := [m] })).bump (R.GW_PK_MSG_LO k)

/-- A frame of controller `c` is added to packing context `k` (R240, R241). -/
def State.pkAdd (s : State) (k c : Nat) (f : CFrame) : State :=
  if !s.on (R.GW_PK_CFG.EN k) then s
  else if f.fmt = 2 then s.pkDrop k 1
  else
    let q := s.pack k
    let m := s.acfMsg q c f
    let s1 :=
      if q.msgs.isEmpty then s.pkOpen k m
      else if clampNat 64 2048 (fieldOf q.lim 0 14) < q.size (q.bytes + m.length) then (s.pkClose k).pkOpen k m
      else (s.modPack k (fun x => { x with msgs := x.msgs ++ [m] })).bump (R.GW_PK_MSG_LO k)
    let r := s1.pack k
    if max 1 (fieldOf r.lim 14 6) ≤ r.msgs.length ∨ fieldOf r.time 0 16 = 0 then s1.pkClose k else s1

/-- A write of GW_PK_CFG (R241). -/
def State.pkCfgWrite (s : State) (k : Nat) (val : Word) : State :=
  let was := s.on (R.GW_PK_CFG.EN k)
  let now := bit val.toNat 31
  if !was && now then (s.store (R.GW_PK_CFG k) val).modPack k (fun _ => { cfg := val })
  else if was && !now then (s.pkClose k).store (R.GW_PK_CFG k) val
  else s.store (R.GW_PK_CFG k) val

/-- PDU_PRESENT (R242, R145): the head frame goes to CANB unless its class is in XOFF there. -/
def State.pduPresent (s : State) : State :=
  match s.gw.out with
  | [] => s
  | o :: rest =>
    let cls := o.pcp.getD (s.g (R.TBL_PORT.DEF_PCP 26))
    if !s.pins.forwarding || s.on (R.SW_USED.XOFF (8 * 26 + cls)) then s
    else
      let s1 := { s with gw := { s.gw with out := rest } }.bump (R.GW_PK_PDU_LO o.k)
      s1.ingressWhole 26 o.fh (s1.intFrame 26 o.frame)

/-! ### Unpacking (R243, R244) -/

/-- The unpack entry of a stream_id (R243). -/
def State.upEntry (s : State) (sid : Nat) : Option Nat :=
  (List.range 32).find? (fun u => s.on (R.GW_UP_CFG.EN u) && s.rd64 (R.GW_UP_SID_LO u) == sid)

/-- An unpacking error (R244). -/
def State.upErr (s : State) (u : Nat) : State := (s.bump (R.GW_UP_ERR_LO u)).ev R.GW_EVT.UP_ERR

/-- The frame of a message of type `ty` and `n` bytes (R244). -/
def acfFrame (ty : Nat) (m : List Byte) : CFrame :=
  let h := if ty = 2 then 8 else 16
  let fl := beAt m 2 1
  let len := m.length - h - fl / 64
  let rtr := bit fl 4
  { fmt := if bit fl 1 then 1 else 0, ide := bit fl 3, id := beAt m (h - 4) 4 % 2 ^ 29, rtr := rtr, brs := bit fl 2,
    len := len, data := if rtr then [] else slice m h len }

/-- One message of a PDU (R244). -/
def State.upMsg (s : State) (u : Nat) (m : List Byte) : State :=
  let ty := beAt m 0 1 / 2
  let d := beAt m 3 1 % 32
  if ty != 1 && ty != 2 then s.upErr u
  else if m.length < (if ty = 2 then 8 else 16) + beAt m 2 1 / 64 then s.upErr u
  else if 16 ≤ d || !bit (s.g (R.GW_UP_CFG.DST u)) d then s.bump (R.GW_UP_ERR_LO u)
  else
    let f := acfFrame ty m
    match (if f.rtr && f.fmt == 1 then (s.noSend d, false) else s.gwFifo d f) with
    | (s1, true) => s1.bump (R.GW_UP_MSG_LO u)
    | (s1, false) => s1

/-- The messages of a PDU in order (R244); one that runs past the PDU ends it. `n` bounds them. -/
def State.upMsgs (u : Nat) : Nat → State → List Byte → State
  | 0, s, _ => s
  | n + 1, s, b =>
    if b.isEmpty then s
    else
      let len := 4 * (beAt b 0 2 % 512)
      if b.length < 4 || len = 0 || b.length < len then s.upErr u
      else State.upMsgs u n (s.upMsg u (b.take len)) (b.drop len)

/-- A frame the Carcass delivered to CANB is unpacked (R243, R244). -/
def State.unpack (s : State) : State :=
  match s.sw.canbq with
  | [] => s
  | f :: rest =>
    let s1 := { s with sw := { s.sw with canbq := rest } }
    let o := typeAt f.bytes
    let b := f.bytes.drop (o + 2)
    let sub := beAt b 0 1
    if beAt f.bytes o 2 != 0x22F0 || (sub != 0x82 && sub != 4) || beAt b 1 1 / 16 != 8 then s1.bump R.GW_UP_NOCTX_LO
    else
      match s1.upEntry (beAt b 4 8) with
      | none => s1.bump R.GW_UP_NOCTX_LO
      | some u =>
        let tscf := sub == 4
        let seq := if tscf then beAt b 2 1 else beAt b 3 1
        let n := if tscf then beAt b 20 2 else beAt b 1 2 % 2048
        let h := if tscf then 24 else 12
        if b.length < h + n then s1.upErr u
        else
          let miss := match s1.gw.upSeq.get (fun _ => none) u with
            | some q => (seq + 255 - q) % 256
            | none => 0
          let s2 := ((s1.bump (R.GW_UP_PDU_LO u)).bumpBy (R.GW_UP_SEQ_LO u) miss)
          let s3 := { s2 with gw := { s2.gw with upSeq := s2.gw.upSeq.set (fun _ => none) u (some seq) } }
          State.upMsgs u n s3 ((b.drop h).take n)

/-- A write of GW_UP_CFG: an entry being enabled has no previous PDU. -/
def State.upCfgWrite (s : State) (u : Nat) (val : Word) : State :=
  let s1 := s.store (R.GW_UP_CFG u) val
  if !s.on (R.GW_UP_CFG.EN u) && bit val.toNat 31 then { s1 with gw := { s1.gw with upSeq := s1.gw.upSeq.del u } } else s1

/-! ### The Jig (R245-R248) -/

/-- Positions of a field, from value bit 0 up (R245): `n` more bits from position `q`; none where one leaves 0-511. -/
def jigField (be : Bool) : Nat → Int → Option (List Nat)
  | 0, _ => some []
  | n + 1, q =>
    if q < 0 ∨ 511 < q then none
    else
      let next : Int := if be then (if q.toNat % 8 = 7 then q - 15 else q + 1) else q + 1
      (jigField be n next).map (fun l => q.toNat :: l)

/-- Source and destination fields of entry `e`. -/
def State.jigSrc (s : State) (e : Nat) : Option (List Nat) :=
  jigField (s.on (R.GW_JIG_LO.SRC_BE e)) (s.g (R.GW_JIG_LO.LEN e) + 1) (s.g (R.GW_JIG_LO.SRC_BIT e))
def State.jigDst (s : State) (e : Nat) : Option (List Nat) :=
  jigField (s.on (R.GW_JIG_W1.DST_BE e)) (s.g (R.GW_JIG_LO.LEN e) + 1) (s.g (R.GW_JIG_W1.DST_BIT e))

/-- A data bit by its position. -/
def dataBit (d : List Byte) (p : Nat) : Bool := bit (d.getD (p / 8) 0).toNat (p % 8)
def setDataBit (d : List Byte) (p : Nat) (b : Bool) : List Byte :=
  d.set (p / 8) (B8 (setBit (d.getD (p / 8) 0).toNat (p % 8) b))

/-- Writes value bits into a transmit object at the positions of a field. -/
def State.jigPut (s : State) (d i : Nat) (ps : List Nat) (v : List Bool) : State :=
  s.setTxoData d i ((ps.zip v).foldl (fun m pb => setDataBit m pb.1 pb.2) (s.txoData d i))

/-- Destination controller and object of an entry. -/
def State.jigDest (s : State) (e : Nat) : Nat × Nat := (s.g (R.GW_JIG_W1.DST_CAN e), s.g (R.GW_JIG_W1.DST_OBJ e))

/-- Runs or stops an entry's timer (R248). -/
def State.jigTimer (s : State) (e : Nat) (b : Bool) : State :=
  { s with gw := { s.gw with timer := s.gw.timer.set (fun _ => false) e b } }
def State.jigTimed (s : State) (e : Nat) : Bool := s.g (R.GW_JIG_W1.TMO_SEL e) != 0

/-- One entry of a trigger (R245, R246, R248); answers the destination whose group it belongs to, with SET_REQ. -/
def State.jigMove (s : State) (t : JigTrig) (e : Nat) : State × Option (Nat × Nat × Bool) :=
  match s.jigSrc e, s.jigDst e with
  | some ps, some pd =>
    if ps.any (fun p => decide (8 * t.len ≤ p)) then (s.bump R.GW_JIG_SHORT_LO, none)
    else
      let d := s.jigDest e
      let s1 := (s.jigPut d.1 d.2 pd (ps.map (dataBit t.data))).bump R.GW_JIG_MOVE_LO
      ((s1.p (R.GW_JIG_STS.TIMED_OUT e) 0).jigTimer e (s1.jigTimed e), some (d.1, d.2, s1.on (R.GW_JIG_W1.SET_REQ e)))
  | _, _ => (((s.bump R.GW_JIG_BAD_LO).p (R.GW_JIG_STS.BAD e) 1).ev R.GW_EVT.JIG_BAD, none)

/-- After a group: REQ, then the authentication job (R247, R252). -/
def State.jigGroup (s : State) (d i : Nat) (setReq : Bool) : State :=
  let s1 := if setReq && !s.on (R.CAN_TXO_W1.SCHED d i) then (s.p (R.CAN_TXO_W1.REQ d i) 1).request d i else s
  s1.cmaChange d i

/-- The groups of a list of moves made: each destination once, with SET_REQ if any of its moves has it. -/
def jigGroups : List (Nat × Nat × Bool) → List (Nat × Nat × Bool)
  | [] => []
  | (d, i, r) :: t =>
    (d, i, r || t.any (fun x => x.1 == d && x.2.1 == i && x.2.2)) ::
      (jigGroups t).filter (fun x => !(x.1 == d && x.2.1 == i))

/-- The VALID entries of a source object, ascending (R246). -/
def State.jigEntries (s : State) (c i : Nat) : List Nat :=
  s.regs.filterMap (fun p =>
    if 0x1840004 ≤ p.1 ∧ p.1 < 0x1850000 ∧ p.1 % 16 = 4 ∧ bit p.2.toNat 31 then
      let e := (p.1 - 0x1840004) / 16
      if s.g (R.GW_JIG_LO.SRC_CAN e) = c ∧ s.g (R.GW_JIG_LO.SRC_OBJ e) = i then some e else none
    else none)

/-- JIG_TRIGGER (R246, R247): the oldest store of the trigger queue makes its moves. -/
def State.jigRun (s : State) : State :=
  match s.gw.trig with
  | [] => s
  | t :: rest =>
    let s1 := { s with gw := { s.gw with trig := rest } }
    let r := (s1.jigEntries t.can t.obj).foldl
      (fun (a : State × List (Nat × Nat × Bool)) e => let m := a.1.jigMove t e; (m.1, a.2 ++ m.2.toList)) (s1, [])
    r.1.each (jigGroups r.2) (fun g u => u.jigGroup g.1 g.2.1 g.2.2)

/-- A store that has passed step 1 triggers the Jig (R246). -/
def State.jigStore (s : State) (t : JigTrig) : State :=
  if (s.jigEntries t.can t.obj).isEmpty then s
  else if 256 ≤ s.gw.trig.length then (s.bump R.GW_JIG_DROP_LO).ev R.GW_EVT.JIG_DROP
  else { s with gw := { s.gw with trig := s.gw.trig ++ [t] } }

/-- JIG_TIMEOUT (R248): the scanner sees the expiry of entry `e`; a bad entry makes no move (R245). -/
def State.jigExpire (s : State) (e : Nat) : State :=
  if !s.gw.timer.get (fun _ => false) e || !s.on (R.GW_JIG_W1.VALID e) then s
  else
    let s1 := (((s.jigTimer e false).p (R.GW_JIG_STS.TIMED_OUT e) 1).bump R.GW_JIG_TMO_LO).ev R.GW_EVT.JIG_TMO
    match s1.on (R.GW_JIG_W1.SUB_EN e), s1.jigSrc e, s1.jigDst e with
    | true, some _, some pd =>
      let d := s1.jigDest e
      let sub := (s1.rd (R.GW_JIG_W2 e)).toNat + 4294967296 * (s1.rd (R.GW_JIG_HI e)).toNat
      let v := (List.range pd.length).map (fun k => bit sub k)
      ((s1.jigPut d.1 d.2 pd v).bump R.GW_JIG_MOVE_LO).jigGroup d.1 d.2 (s1.on (R.GW_JIG_W1.SET_REQ e))
    | _, _, _ => s1

/-- Entry `e` is committed (R245, R247, R248): BAD clears and its timer restarts. -/
def State.jigCommitted (s : State) (e : Nat) : State := (s.p (R.GW_JIG_STS.BAD e) 0).jigTimer e (s.jigTimed e)

/-! ### Frames taken from receive objects (R232, R233) -/

/-- The route of an object (R233). -/
def State.routeOf (s : State) (c i : Nat) : Option Nat :=
  (s.regs.filterMap (fun p =>
    if 0x1810000 ≤ p.1 ∧ p.1 < 0x1814000 ∧ p.1 % 16 = 0 ∧ bit p.2.toNat 31 ∧ fieldOf p.2 27 4 = c ∧ fieldOf p.2 15 12 ≤ i ∧
        i ≤ fieldOf p.2 3 12 then some ((p.1 - 0x1810000) / 16) else none)).head?

/-- A frame as the gateway takes it: a classical one received with DLC 9-15, remote or not, has LEN 8 (R235). -/
def CFrame.atGw (f : CFrame) : CFrame := if f.fmt = 0 then { f with len := min 8 f.len } else f

/-- Steps 2 to 4 of R232. -/
def State.gwRoute (s : State) (x0 : GwIn) : State :=
  let x := { x0 with f := x0.f.atGw }
  match s.routeOf x.can x.obj with
  | none => (s.bump (R.GW_RT_NOROUTE_LO x.can)).ev R.GW_EVT.NOROUTE
  | some r =>
    let s1 := s.each (bitsOf 16 (s.g (R.GW_RT_ACT.DST r))) (fun d t => t.routeTo r d x.f)
    if s1.on (R.GW_RT_ACT.PACK_EN r) then s1.pkAdd (s1.g (R.GW_RT_ACT.PACK r)) x.can x.f else s1

/-- Steps 2 to 5 of R232. -/
def State.gwGo (s : State) (x : GwIn) : State :=
  let s1 := if x.del = 1 ∨ x.del = 2 then s.gwRoute x else s
  if x.del ≤ 1 then s1.jigStore { can := x.can, obj := x.obj, len := x.f.len, data := slice x.f.data 0 (min 64 x.f.len) } else s1

/-- F reconstructed from a received value (R251). -/
def cmaReconstruct (high v fvb : Nat) : Nat :=
  if fvb = 0 then high + 1
  else
    let m := 2 ^ (8 * fvb)
    let f := high - high % m + v
    if f ≤ high then f + m else f

/-- A verification fails (R251). -/
def State.cmaFail (s : State) (a : Nat) (x : GwIn) : State :=
  (((s.p (R.GW_CMA_STS.PASS a) 0).p (R.GW_CMA_STS.SEQ a) x.seq).bump (R.GW_CMA_FAIL_LO x.can)).ev R.GW_EVT.CMA_FAIL

/-- Issues the verification of the first frame that waits at entry `a`; frames that no job can judge fail (R251). `n`
bounds them. -/
def State.cmaNext (a : Nat) : Nat → State → State
  | 0, s => s
  | n + 1, s =>
    let e := s.cmaOf a
    match e.ver with
    | [] => s
    | x :: rest =>
      let f := cmaReconstruct (s.rd64 (R.GW_CMA_FRESH_LO a)) (beAt x.f.data e.plen e.fvb) e.fvb
      if e.busy then s
      else if x.f.len < e.size || !s.hwKey (s.g (R.GW_CMA_ID.SLOT a)) || freshLimit ≤ f then
        State.cmaNext a n ((s.cmaFail a x).modCma a (fun y => { y with ver := rest }))
      else
        (s.enqueue { level := 3, user := .canVerify a, slot := s.g (R.GW_CMA_ID.SLOT a), blocks := cmacBlocks (14 + e.plen) }).modCma a
          (fun y => { y with busy := true, f := f })

/-- A frame reaches the gateway from a receive object (R232). -/
def State.gwTake (s : State) (x : GwIn) : State :=
  let s1 := if x.del = 1 ∨ x.del = 2 then s.bump (R.GW_RT_IN_LO x.can) else s
  match s1.cmaFor false x.can x.obj with
  | none => s1.gwGo x
  | some a =>
    let s2 := s1.modCma a (fun y => { y with ver := y.ver ++ [x] })
    State.cmaNext a (s2.cmaOf a).ver.length s2

/-- The verdict of entry `a` on its first waiting frame (R251). -/
def State.cmaVerdict (s : State) (a : Nat) (key : List Byte) : State :=
  let e := s.cmaOf a
  match e.busy, e.ver with
  | true, x :: rest =>
    let s1 := s.modCma a (fun y => { y with busy := false, ver := rest })
    let mac := (cmac key (cmaInput (s.g (R.GW_CMA_ID.DATA_ID a)) x.f.w0 (slice x.f.data 0 e.plen) e.f)).take e.macb
    let s2 :=
      if mac = slice x.f.data (e.plen + e.fvb) e.macb then
        ((((s1.wr64 (R.GW_CMA_FRESH_LO a) e.f).p (R.GW_CMA_STS.PASS a) 1).p (R.GW_CMA_STS.SEQ a) x.seq).bump
          (R.GW_CMA_PASS_LO x.can)).gwGo x
      else s1.cmaFail a x
    State.cmaNext a rest.length s2
  | _, _ => s

/-- The jobs of entry `a`, waiting and running, lose their entry: what a job does ends without effect (log 65). -/
def State.cmaForget (s : State) (a : Nat) : State :=
  let mine := fun (j : Job) => match j.user with | .canVerify b => b == a | .canGenerate b _ => b == a | _ => false
  { s with grit := { s.grit with waiting := s.grit.waiting.filter (fun j => !mine j),
                                 running := s.grit.running.map (fun p => (p.1, if mine p.2 then { p.2 with user := .canGone } else p.2)) } }

/-- Entry `a` leaves EXHAUSTED by EN 0: its object stays barred (R252). -/
def State.cmaSpend (s : State) (a : Nat) : State :=
  let e := s.cmaOf a
  let slot := s.g (R.GW_CMA_ID.SLOT a)
  { s with gw := { s.gw with spent := s.gw.spent.put a { can := e.can, obj := e.obj, slot := slot, gen := s.slotGen slot } } }

/-- A generate entry comes to name the object a long frame stands in: the frame is dropped (R237). -/
def State.longHeld (s : State) (c i : Nat) : State :=
  (((s.p (R.CAN_TXO_W1.REQ c i) 0).reqGone c i).bump (R.GW_CMA_HELD_LO c)).ev R.GW_EVT.CMA_HELD

/-- A write of GW_CMA_CFG (R190, R193, R249, R252). -/
def State.cmaCfgWrite (s : State) (a : Nat) (val : Word) : State :=
  let was := s.on (R.GW_CMA_CFG.EN a)
  let now := bit val.toNat 31
  let s1 := s.store (R.GW_CMA_CFG a) val
  if !was && now then
    let e : Cma := { cfg := val }
    if (e.gen && decide (511 < e.obj)) || e.macb < 3 || 8 < e.macb || 4 < e.fvb || 64 < e.size then s1.p (R.GW_CMA_STS.STATE a) cmaCfgErr
    else
      let s2 := (s1.modCma a (fun _ => e)).when (e.gen && s1.isLong e.can e.obj) (fun t => t.longHeld e.can e.obj)
      let f := s2.rd64 (R.GW_CMA_FRESH_LO a)
      if !e.gen then (s2.wr64 (R.GW_CMA_FRESH_LO a) (max f (s2.storedHigh (256 + a)))).p (R.GW_CMA_STS.STATE a) cmaActive
      else
        match s2.reserve (256 + a) f (s2.slotKcv (s2.g (R.GW_CMA_ID.SLOT a))) with
        | (s3, none) => s3.p (R.GW_CMA_STS.STATE a) cmaNoRes
        | (s3, some g) => (s3.wr64 (R.GW_CMA_FRESH_LO a) g).p (R.GW_CMA_STS.STATE a) cmaActive
  else if was && !now then
    let s2 := if s.cmaState a = cmaExhausted then s1.cmaSpend a else s1
    { s2.cmaForget a with gw := { s2.gw with cma := s2.gw.cma.del a } }.p (R.GW_CMA_STS.STATE a) cmaDisabled
  else s1

/-- The job on core `n`, a CAN verification or generation, ends. -/
def State.cmaJobDone (s : State) (n : Nat) (gen : Bool) : State :=
  match s.jobOn n with
  | some j =>
    match j.user, gen with
    | .canVerify a, false => (s.endJob n j).cmaVerdict a j.key
    | .canGenerate a f, true => (s.endJob n j).cmaGenerated a f j.key
    | .canGone, _ => s.endJob n j
    | _, _ => s
  | none => s

/-- HIGH of persisting contexts and entries goes to the keep-alive store (R190). -/
def State.highPersist (s : State) : State :=
  let ctxs := (s.str.filter (fun p => p.2.verifies && p.2.persist && s.ctxState p.1 != ctxDisabled)).map (·.1)
  let ents := (s.gw.cma.filter (fun p => !p.2.gen && p.2.persist && s.cmaState p.1 == cmaActive)).map (·.1)
  (s.each ctxs (fun n t => t.storeHigh n (t.high n))).each ents (fun a t => t.storeHigh (256 + a) (t.rd64 (R.GW_CMA_FRESH_LO a)))

/-- The soft reset of GW (R253). -/
def State.gwSoftReset (s : State) : State :=
  let mine := fun (j : Job) => match j.user with | .canVerify _ => true | .canGenerate _ _ => true | .canGone => true | _ => false
  let s1 := { s with gw := { caps := s.gw.caps, capGood := s.gw.capGood },
                     grit := { s.grit with waiting := s.grit.waiting.filter (fun j => !mine j) } }
  let on := (s1.grit.running.filter (fun p => mine p.2)).map (·.1)
  (s1.each on (fun n t => t.freeCore n)).resetRegs (fun a => regionOf a == 8)

/-! ### Meanings of the gateway rows -/

/-- FIFO_OBJECT_REFILL (R236). -/
def execFifoObjectRefill (dst : Nat) (s : State) : Host.Outcome State Fault Refusal := done s (s.fifoRefill (dst % 16))

/-- TOKEN_REFILL (R238). -/
def execTokenRefill (dst : Nat) (s : State) : Host.Outcome State Fault Refusal :=
  let d := dst % 16
  done s (if s.g (R.GW_DST_RATE.PER_US d) = 0 then s else s.setTokens d (min (s.burst d) (s.tokens d + 1)))

/-- A write of GW_DST_RATE fills the bucket (R238). -/
def State.gwRateWrite (s : State) (d : Nat) (val : Word) : State := let s1 := s.store (R.GW_DST_RATE d) val; s1.setTokens d (s1.burst d)

/-- GW_RATE_WRITE (R238). -/
def execGwRateWrite (req dst : Nat) (val : Word) (s : State) : Host.Outcome State Fault Refusal :=
  done s (s.byPort req (R.GW_DST_RATE (dst % 16)) val false (fun t => t.gwRateWrite (dst % 16) val))

/-- PACK_ENABLE (R241): a write of GW_PK_CFG[k] with EN set. -/
def execPackEnable (req k : Nat) (val : Word) (s : State) : Host.Outcome State Fault Refusal :=
  done s (s.byPort req (R.GW_PK_CFG (k % 32)) (val ||| 0x80000000) false (fun t => t.pkCfgWrite (k % 32) (val ||| 0x80000000)))

/-- PACK_DISABLE (R241): a write of GW_PK_CFG[k] with EN clear. -/
def execPackDisable (req k : Nat) (val : Word) (s : State) : Host.Outcome State Fault Refusal :=
  done s (s.byPort req (R.GW_PK_CFG (k % 32)) (val &&& 0x7FFFFFFF) false (fun t => t.pkCfgWrite (k % 32) (val &&& 0x7FFFFFFF)))

/-- HOLD_EXPIRY (R241). -/
def execHoldExpiry (k : Nat) (s : State) : Host.Outcome State Fault Refusal := done s (s.pkClose (k % 32))

/-- PDU_PRESENT (R242). -/
def execPduPresent (s : State) : Host.Outcome State Fault Refusal := done s s.pduPresent

/-- UNPACK (R244). -/
def execGwUnpack (s : State) : Host.Outcome State Fault Refusal := done s s.unpack

/-- JIG_TRIGGER (R246). -/
def execJigTrigger (s : State) : Host.Outcome State Fault Refusal := done s s.jigRun

/-- JIG_TIMEOUT (R248). -/
def execJigTimeout (entry : Nat) (s : State) : Host.Outcome State Fault Refusal := done s (s.jigExpire (entry % 4096))

/-- CMA_ENABLE (R249): a write of GW_CMA_CFG[a] with EN set. -/
def execCmaEnable (req entry : Nat) (val : Word) (s : State) : Host.Outcome State Fault Refusal :=
  done s (s.byPort req (R.GW_CMA_CFG (entry % 256)) (val ||| 0x80000000) false (fun t => t.cmaCfgWrite (entry % 256) (val ||| 0x80000000)))

/-- CMA_VERIFY_DONE (R251). -/
def execCmaVerifyDone (core : Nat) (s : State) : Host.Outcome State Fault Refusal := done s (s.cmaJobDone core false)

/-- CMA_GENERATE_DONE (R252). -/
def execCmaGenerateDone (core : Nat) (s : State) : Host.Outcome State Fault Refusal := done s (s.cmaJobDone core true)

/-- HIGH_PERSIST (R190). -/
def execStrHighPersist (s : State) : Host.Outcome State Fault Refusal := done s s.highPersist

end Sys2Proof.Machine
end

