-- ==== Sys2Proof/Machine/Can.lean ====
section
/-! DEFINITION. CAN controllers: states and error counts, reception, transmission, the schedule matrix, captures (08,
R204-R228). -/

namespace Sys2Proof.Machine

/-! ### Bit timing and frame lengths (R205, R226) -/

/-- Clocks of a nominal bit, and of a data bit (R205); SJW, TSEG1, TSEG2 as their fields hold them, less one. -/
def nomClocks (w : Word) : Nat := (fieldOf w 27 5 + 1) * (fieldOf w 20 7 + fieldOf w 14 6 + 3)
def dataClocks (w : Word) : Nat := (fieldOf w 29 3 + 1) * (fieldOf w 24 5 + fieldOf w 20 4 + 3)

/-- The timings a controller samples are valid (R205): SJW and TSEG1 of each of the three, the length of a data bit only where its
format is enabled. -/
def timingOk (cfg nbt dbt xbt : Word) : Bool :=
  let nom := decide (fieldOf nbt 8 6 ≤ fieldOf nbt 14 6) && decide (1 ≤ fieldOf nbt 20 7) && decide (80 ≤ nomClocks nbt)
  let dat := fun (w : Word) (en : Nat) (least : Nat) =>
    decide (fieldOf w 16 4 ≤ fieldOf w 20 4) && decide (1 ≤ fieldOf w 24 5) && (!bit cfg.toNat en || decide (least ≤ dataClocks w))
  nom && dat dbt 30 10 && dat xbt 29 8

/-- Worst-case length of a frame (R226): bits at the nominal time, and at the data time of its format. -/
def worstBits (f : CFrame) : Nat × Nat :=
  let n := if f.rtr then 0 else f.len
  match f.fmt with
  | 0 => if f.ide then (8 * n + 67 + (53 + 8 * n) / 4, 0) else (8 * n + 47 + (33 + 8 * n) / 4, 0)
  | 1 =>
    let a := if f.ide then 36 else 17
    let d := 5 + 8 * n
    let na := (a - 1) / 4
    let nd := (a + d - 1) / 4 - na
    let crc := if n ≤ 16 then 17 else 21
    let dat := d + nd + 4 + crc + (crc + 7) / 4 + 1
    if f.brs then (a + na + 12, dat) else (a + na + 12 + dat, 0)
  | _ =>
    let x := 108 + 8 * n
    (29 + 12, x + (x + 9) / 10 + 4)

/-- Its worst-case time in ns, rounded up (12.5 ns a clock). -/
def State.worstNs (s : State) (c : Nat) (f : CFrame) : Nat :=
  let k := s.canOf c
  let b := worstBits f
  ((b.1 * nomClocks k.nbt + b.2 * dataClocks (if f.fmt = 2 then k.xbt else k.dbt)) * 25 + 1) / 2

/-! ### The schedule matrix (R223-R227) -/

def State.modMatrix (s : State) (c : Nat) (f : Matrix → Matrix) : State := s.modCan c (fun k => { k with m := f k.m })
def State.matrix (s : State) (c : Nat) : Matrix := (s.canOf c).m

/-- Whole ns of a matrix's time base. -/
def State.matrixNow (s : State) (c : Nat) : Nat := tvNs (s.tbVal (s.matrix c).tb)

/-- The valid entries of a cycle in order (R224): window, START_US, entry. -/
def validFrom (bc : Nat) : Option Nat → List (Nat × Word) → List (Nat × Nat × Word)
  | _, [] => []
  | last, (w, e) :: t =>
    let st := fieldOf e 0 16
    if bit e.toNat 31 && decide (st < bc) && (match last with | some l => decide (l < st) | none => true) then
      (w, st, e) :: validFrom bc (some st) t
    else validFrom bc last t
def validEnts (bc : Nat) (l : List Word) : List (Nat × Nat × Word) := validFrom bc none (l.zipIdx.map (fun p => (p.2, p.1)))

/-- BC in ns and P in ns. -/
def Matrix.bcNs (m : Matrix) : Nat := m.bc * 1000
def Matrix.p (m : Matrix) : Nat := (m.cyc + 1) * m.bcNs
/-- Position of a time in the matrix cycle, in ns (R223). -/
def Matrix.pos (m : Matrix) (t : Nat) : Nat := (t + m.p - m.ofs * 1000 % m.p) % m.p

/-- The entries of basic cycle `k`. -/
def State.cycleEnts (s : State) (c k : Nat) : List Word := s.rdList (R.CAN_SCH c (32 * k)) 32

/-- The valid entry in force at `r` ns into its basic cycle. -/
def Matrix.entryAt (m : Matrix) (r : Nat) : Option (Nat × Nat × Word) :=
  ((validEnts m.bc m.ents).filter (fun e => decide (e.2.1 * 1000 ≤ r))).getLast?

/-- The end of the window in hand, in ns of the time base (R224). -/
def Matrix.ends (m : Matrix) : Nat :=
  let from0 := m.since - m.at0.getD 0
  m.at0.getD 0 +
    (match (validEnts m.bc m.ents).find? (fun e => decide (from0 < e.2.1 * 1000) || (m.win.isNone && decide (from0 ≤ e.2.1 * 1000))) with
     | some e => e.2.1 * 1000
     | none => m.bcNs)

/-- TYPE of the window in hand: 0 EXCL, 1 ARB, 2 QUIET; ARB where no entry is in force or the matrix is off (R224). -/
def Matrix.typ (m : Matrix) : Nat :=
  if !m.run then 1
  else
    match m.win with
    | none => 1
    | some w => min 2 (fieldOf (m.ents.getD w 0) 29 2)
/-- OBJ of the window in hand. -/
def Matrix.obj (m : Matrix) : Nat := match m.win with | some w => fieldOf (m.ents.getD w 0) 16 9 | none => 0

/-- An EXCL window is missed (R225). -/
def State.schMiss (s : State) (c n : Nat) : State :=
  if n = 0 then s else (s.bumpBy (R.CAN_SCH_MISS_LO c) n).ev (R.CAN_EVT.SCH_MISS c)

/-- The limit of the window in hand has passed, or the window is over: an attempt on the bus is judged at its end,
otherwise an owed frame is missed (R225). -/
def State.exclClose (s : State) (c : Nat) : State :=
  if !(s.matrix c).owed then s
  else
    let s1 := s.modMatrix c (fun m => { m with owed := false })
    match (s.canOf c).tx with
    | some t => if t.excl && !t.late && !t.past then s1.modCan c (fun k => { k with tx := some { t with late := true } }) else s1.schMiss c 1
    | none => s1.schMiss c 1

/-- A window begins (R220, R224). -/
def State.windowEnter (s : State) (c : Nat) : State :=
  let m := s.matrix c
  if m.typ != 0 then s
  else
    let i := m.obj
    if !s.on (R.CAN_TXO_W1.READY c i) || !s.on (R.CAN_TXO_W1.SCHED c i) then s.bump (R.CAN_SCH_EMPTY_LO c)
    else if s.txBad c i then ((s.bump (R.CAN_TX_BAD_LO c)).ev (R.CAN_EVT.TX_BAD c)).schMiss c 1
    else s.modMatrix c (fun x => { x with owed := true })

/-- The limit for the start of an EXCL frame has not passed: its window lies no more than LATE before now (R224). -/
def State.inTime (s : State) (c : Nat) : Bool := decide (s.matrixNow c ≤ (s.matrix c).since + 1000 * s.g (R.CAN_SCH_CFG.LATE c))

/-- The next window of a matrix whose time base does not run falls due by the order of the entries alone: an EXCL window of it is
missed (R225, R279; log 59). -/
def State.windowBlind (s : State) (c : Nat) : State :=
  let m := s.matrix c
  let at0 := m.at0.getD 0
  let from0 := m.since - at0
  let s1 := s.exclClose c
  let enter := fun (t : State) => 
    let x := t.matrix c
    if x.typ != 0 then t
    else if !t.on (R.CAN_TXO_W1.READY c x.obj) || !t.on (R.CAN_TXO_W1.SCHED c x.obj) then t.bump (R.CAN_SCH_EMPTY_LO c)
    else t.schMiss c 1
  let place := fun (a k : Nat) (ents : List Word) (e : Option (Nat × Nat × Word)) =>
    let t := s1.modMatrix c (fun x => { x with at0 := some a, ents := ents, win := e.map (·.1), shut := false,
                                               since := a + (match e with | some y => y.2.1 * 1000 | none => 0) })
    enter ((t.p (R.CAN_SCH_STS.CYCLE c) k).p (R.CAN_SCH_STS.WIN c) ((e.map (·.1)).getD 0))
  let k := s.g (R.CAN_SCH_STS.CYCLE c)
  match (validEnts m.bc m.ents).find? (fun e => decide (from0 < e.2.1 * 1000) || (m.win.isNone && decide (from0 ≤ e.2.1 * 1000))) with
  | some e => place at0 k m.ents (some e)
  | none =>
    let k1 := (k + 1) % (m.cyc + 1)
    let ents := s.cycleEnts c k1
    place (at0 + m.bcNs) k1 ents ((validEnts m.bc ents).find? (fun e => e.2.1 == 0))

/-- The matrix moves to the window of the time: what is owed of the one in hand is missed (R223-R225). -/
def State.windowTo (s : State) (c : Nat) : State :=
  let m := s.matrix c
  let now := s.matrixNow c
  let pos := m.pos now
  let k := pos / m.bcNs
  let at0 := now - pos % m.bcNs
  let m1 := if m.at0 = some at0 then m else { m with at0 := some at0, ents := s.cycleEnts c k }
  let e := m1.entryAt (pos % m.bcNs)
  let win := e.map (·.1)
  if m.at0 = some at0 ∧ m.win = win then s
  else
    let since := at0 + (match e with | some x => x.2.1 * 1000 | none => 0)
    let s1 := (s.exclClose c).modMatrix c (fun x => { x with at0 := m1.at0, ents := m1.ents, win := win, since := since, shut := false })
    (s1.p (R.CAN_SCH_STS.CYCLE c) k).p (R.CAN_SCH_STS.WIN c) (win.getD 0)

/-- The matrix follows its time base: where that has reached another window, the one in hand is over and the new one
begins (R223, R224). -/
def State.windowEval (s : State) (c : Nat) : State :=
  let m := s.matrix c
  if !m.run then s
  else if !s.tbRun m.tb then s.windowBlind c
  else
    let s1 := s.windowTo c
    let m1 := s1.matrix c
    if m1.at0 = m.at0 ∧ m1.win = m.win then s1 else s1.windowEnter c

/-- The matrix stops. -/
def State.matrixStop (s : State) (c : Nat) : State :=
  ((s.modMatrix c (fun _ => {})).p (R.CAN_SCH_STS.RUN c) 0)

/-- The matrix starts at a matrix-cycle boundary (R223). -/
def State.matrixStart (s : State) (c : Nat) : State :=
  if !(s.matrix c).armed || (s.matrix c).stop || s.canState c == canOffSt || !s.enOn (R.CAN_SCH_CFG.EN c) then s
  else
    let m : Matrix := { run := true, cyc := s.g (R.CAN_SCH_CFG.CYC c), bc := max 1 (s.g (R.CAN_SCH_BC.BC_US c)),
                        ofs := s.g (R.CAN_SCH_OFS.OFS_US c), tb := s.g (R.CAN_SCH_CFG.TB c) }
    ((s.modMatrix c (fun _ => m)).p (R.CAN_SCH_STS.RUN c) 1).windowEval c

/-- EN of CAN_SCH_CFG goes from 0 to 1: a controller that is not OFF starts its matrix at the next boundary (R223). -/
def State.schEnable (s : State) (c : Nat) : State :=
  if s.canState c = canOffSt then s else s.modMatrix c (fun m => { m with armed := true })

/-- EN is cleared: the matrix stops after the frame on the bus (R223). -/
def State.schDisable (s : State) (c : Nat) : State :=
  if (s.canOf c).tx.isSome then s.modMatrix c (fun m => { m with stop := true, armed := false, owed := false }) else s.matrixStop c

/-- A write of CAN_SCH_CFG by requester `req` (R223, R508). -/
def State.schCfgWrite (s : State) (req c : Nat) (val : Word) : State :=
  (s.store (R.CAN_SCH_CFG c) val).enDo (R.CAN_SCH_CFG c) 31 (s.enAct req (R.CAN_SCH_CFG c) 31 val) (fun t => t.schEnable c)
    (fun t => t.schDisable c)

/-- Starts of the EXCL windows whose object is READY and SCHED, in ns of the matrix cycle. -/
def State.exclStarts (s : State) (c : Nat) : List Nat :=
  let m := s.matrix c
  (List.range (m.cyc + 1)).flatMap (fun k =>
    ((validEnts m.bc (s.cycleEnts c k)).filter (fun e =>
      fieldOf e.2.2 29 2 == 0 && s.on (R.CAN_TXO_W1.READY c (fieldOf e.2.2 16 9)) && s.on (R.CAN_TXO_W1.SCHED c (fieldOf e.2.2 16 9)))).map
        (fun e => k * m.bcNs + e.2.1 * 1000))

/-- How many of them lie at or before a time. -/
def Matrix.countTo (m : Matrix) (l : List Nat) (t : Nat) : Nat :=
  let x := t + m.p - m.ofs * 1000 % m.p
  x / m.p * l.length + (l.filter (fun a => decide (a ≤ x % m.p))).length

/-- The window in hand is EXCL and its object READY and SCHED. -/
def State.exclDue (s : State) (c : Nat) : Bool :=
  let m := s.matrix c
  m.typ == 0 && s.on (R.CAN_TXO_W1.READY c m.obj) && s.on (R.CAN_TXO_W1.SCHED c m.obj)

/-- The new time falls in an EXCL window, or falls back in the one in hand: it is handled as if its start had just been reached late,
and past LATE it is neither sent nor counted (R227). An attempt on the bus is of the run before. -/
def State.windowAgain (s : State) (c : Nat) : State :=
  let s1 := s.modCan c (fun k => { k with tx := k.tx.map (fun t => { t with past := t.excl && !t.late }), m := { k.m with owed := false, shut := false } })
  if s1.inTime c then s1.windowEnter c else s1

/-- Time base `t` has stepped from `old` ns: a running matrix on it resumes at the window of the new time (R227). The EXCL windows
that a forward step passes over are missed; the one it lands in is not. -/
def State.matrixStep (s : State) (c old : Nat) : State :=
  let m := s.matrix c
  if !m.run then s
  else
    let now := s.matrixNow c
    let l := s.exclStarts c
    let s1 := s.windowTo c
    let m1 := s1.matrix c
    let same := m.win == m1.win && m.at0 == m1.at0
    let passed := if old < now then m.countTo l now - m.countTo l old else 0
    let landed := if !same && s1.exclDue c && decide (old < m1.since) then 1 else 0
    let s2 := s1.schMiss c (passed - landed)
    if !same then s2.windowAgain c
    else if now < old then s2.windowAgain c
    else if s2.inTime c then s2
    else s2.modMatrix c (fun x => { x with owed := false })

/-! ### Controller states and error counts (R209-R212) -/

/-- The transceiver of a controller is in normal mode, and the Tenon link carries its bits (R209). -/
def State.canBusOk (s : State) (c : Nat) : Bool := s.g (R.PWR_TRX_STS.STATE c) == 4 && s.tenon.up

/-- The frame on the bus is over: an exclusive attempt that failed past its limit is missed; a controller or a matrix
that was to stop after it stops (R209, R223, R225). -/
def State.canTxOver (s : State) (c : Nat) (missed : Bool) : State :=
  let s1 := ((s.modCan c (fun k => { k with tx := none, sic := false })).p (R.CAN_STS.TXBUSY c) 0).schMiss c (if missed then 1 else 0)
  if (s.matrix c).stop then (s1.matrixStop c).modMatrix c (fun m => { m with armed := (s.matrix c).armed }) else s1

/-- The controller goes OFF. -/
def State.canOff (s : State) (c : Nat) : State :=
  let s1 := (((s.setCanState c canOffSt).p (R.CAN_STS.CFG_ERR c) 0).p (R.CAN_STS.PEX c) 0).p (R.CAN_STS.TXBUSY c) 0
  (s1.modCan c (fun k => { k with tx := none, closing := false, again := none, sic := false })).matrixStop c

/-- The fields that EN samples (R208). -/
def State.canSample (s : State) (c : Nat) : CanCfg :=
  { cfg := s.rd (R.CAN_CFG c), nbt := s.rd (R.CAN_NBT c), dbt := s.rd (R.CAN_DBT c), xbt := s.rd (R.CAN_XBT c), tdc := s.rd (R.CAN_TDC c) }

/-- The controller is enabled with a configuration (R205, R209): INTEGRATING, or OFF with CFG_ERR. -/
def State.canStart (s : State) (c : Nat) (x : CanCfg) : State :=
  let s1 := s.modCan c (fun k => { k with cfg := x.cfg, nbt := x.nbt, dbt := x.dbt, xbt := x.xbt, tdc := x.tdc })
  if timingOk x.cfg x.nbt x.dbt x.xbt then
    (s1.modCan c (fun k => { k with m := { armed := s.enOn (R.CAN_SCH_CFG.EN c) } })).setCanState c canIntegrating
  else (s1.p (R.CAN_STS.CFG_ERR c) 1).ev (R.CAN_EVT.CFG_ERR c)

/-- EN goes from 0 to 1 (R208): a controller whose last frame is still on the bus starts after it. -/
def State.canEnable (s : State) (c : Nat) : State :=
  let x := s.canSample c
  if (s.canOf c).closing then s.modCan c (fun k => { k with again := some x }) else s.canStart c x

/-- EN is cleared (R209): a frame on the bus is completed first. -/
def State.canDisable (s : State) (c : Nat) : State :=
  if (s.canOf c).closing then s.modCan c (fun k => { k with again := none })
  else if (s.canOf c).tx.isSome then s.modCan c (fun k => { k with closing := true })
  else s.canOff c

/-- EN has been cleared and no frame is on the bus; where it has been set again since, the controller starts anew. -/
def State.canClosed (s : State) (c : Nat) : State :=
  match (s.canOf c).again with
  | some x => (s.canOff c).canStart c x
  | none => s.canOff c

/-- After a frame of the controller has left the bus. -/
def State.canAfter (s : State) (c : Nat) : State := if (s.canOf c).closing && (s.canOf c).tx.isNone then s.canClosed c else s

/-- A write of CAN_CFG by requester `req` (R208, R209, R508). -/
def State.canCfgWrite (s : State) (req c : Nat) (val : Word) : State :=
  (s.store (R.CAN_CFG c) val).enDo (R.CAN_CFG c) 31 (s.enAct req (R.CAN_CFG c) 31 val) (fun t => t.canEnable c) (fun t => t.canDisable c)

/-- A transmission attempt fails: the request stays, and the choice is made again (R219, R222, R225). -/
def State.canTxFail (s : State) (c : Nat) : State :=
  match (s.canOf c).tx with
  | none => s
  | some t => (s.canTxOver c (t.excl && t.late)).canAfter c

/-- BUS_OFF is entered (R209, R212); a controller that was to go OFF after its frame goes OFF. -/
def State.enterBusOff (s : State) (c : Nat) : State :=
  if (s.canOf c).closing then s.canTxFail c
  else ((((s.canTxFail c).setCanState c canBusOff).p (R.CAN_STS.BO_CNT c) 0).bump (R.CAN_BUSOFF_LO c)).ev (R.CAN_EVT.BUSOFF c)

/-- TEC and REC take new values; WARN and the state follow (R209, R210). -/
def State.canCounts (s : State) (c tec rec : Nat) : State :=
  let t0 := s.g (R.CAN_ERRC.TEC c)
  let r0 := s.g (R.CAN_ERRC.REC c)
  let rec' := min rec 255
  let s1 := ((s.p (R.CAN_ERRC.TEC c) (min tec 511)).p (R.CAN_ERRC.REC c) rec').pb (R.CAN_STS.WARN c) (decide (96 ≤ tec) || decide (96 ≤ rec))
  let s2 := if (t0 < 96 ∧ 96 ≤ tec) ∨ (r0 < 96 ∧ 96 ≤ rec) then s1.ev (R.CAN_EVT.WARN c) else s1
  let st := s.canState c
  if 255 < tec then s2.enterBusOff c
  else if st = canActive ∧ (127 < tec ∨ 127 < rec) then
    ((s2.setCanState c canPassive).bump (R.CAN_PASSIVE_LO c)).ev (R.CAN_EVT.PASSIVE c)
  else if st = canPassive ∧ tec ≤ 127 ∧ rec ≤ 127 then s2.setCanState c canActive
  else s2

/-- The fixed delay of the Tenon link, there and back: 300 ns (R13, R206). -/
abbrev linkClocks : Nat := 24

/-- The controller takes part in the bus (R209, R211). -/
def State.canOnBus (s : State) (c : Nat) : Bool :=
  (s.canState c == canActive || s.canState c == canPassive) && !s.on (R.CAN_STS.PEX c)

/-- The error counter of a kind of error: bit, stuff, form, CRC, acknowledgement (R210). -/
def errCtr (c : Nat) : Nat → Nat
  | 0 => R.CAN_BIT_ERR_LO c
  | 1 => R.CAN_STUFF_ERR_LO c
  | 2 => R.CAN_FORM_ERR_LO c
  | 3 => R.CAN_CRC_ERR_LO c
  | _ => R.CAN_ACK_ERR_LO c

/-- The transmitter delay measured in the data phase of a frame (R206): `loop` clocks of transceiver and bus beyond the fixed 2 x 150 ns
of the Tenon link (R13). TDCV cannot hold a delay above 255; what it then shows is free (log 37). -/
def State.tdcMeasure (s : State) (c : Nat) (f : CFrame) (loop : Nat) : State :=
  let w := (s.canOf c).tdc
  if f.fmt = 0 ∨ !bit w.toNat 7 then s
  else
    let v := linkClocks + loop
    let s1 := if v < 256 then s.p (R.CAN_TDC.TDCV c) v else s.used.p (R.CAN_TDC.TDCV c) s.freeNat
    if 255 < v + (if f.fmt = 2 then fieldOf w 24 8 else fieldOf w 16 8) then s1.ev (R.CAN_EVT.TDC_RANGE c) else s1

/-- What an error adds to a count of ISO 11898-1 (R210). A transmitter adds 8, but for the exceptions: one that is error-passive and sees
no acknowledgement, and a stuff error within arbitration. A receiver adds 1, or 8 for a dominant bit after, or within, its own error
flag. -/
def errWeight (kind : Nat) (tx passive : Bool) (weight : Nat) : Nat :=
  if kind = 5 then 8
  else if tx then (if weight = 0 ∧ ((kind = 4 ∧ passive) ∨ kind = 1) then 0 else 8)
  else if weight = 8 then 8 else 1

/-- A bus error of a kind is detected, as transmitter or receiver; kind 5 is no error of its own but the dominant bits that ISO 11898-1
counts after an error flag. `loop` is the transmitter delay where the error fell after its measurement (R206). With LISTEN the counts
stay at zero (R210). -/
def State.canErr (s : State) (c kind : Nat) (tx : Bool) (weight : Nat) (loop : Option Nat) : State :=
  if !s.canOnBus c then s
  else
    let s0 := match tx, (s.canOf c).tx, loop with | true, some t, some v => s.tdcMeasure c t.f v | _, _, _ => s
    let s1 := if kind = 5 then s0 else s0.bump (errCtr c kind)
    let w := errWeight kind tx (s.canState c == canPassive) weight
    let tec := s.g (R.CAN_ERRC.TEC c)
    let rec' := s.g (R.CAN_ERRC.REC c)
    let s2 := if s.listen c || w = 0 then s1 else if tx then s1.canCounts c (tec + w) rec' else s1.canCounts c tec (rec' + w)
    if tx && kind != 5 then s2.canTxFail c else s2

/-- Eleven recessive bits end INTEGRATING (R209). -/
def State.integrated (s : State) (c : Nat) : State :=
  if s.canState c = canIntegrating ∧ s.canBusOk c then
    (((s.p (R.CAN_ERRC.TEC c) 0).p (R.CAN_ERRC.REC c) 0).p (R.CAN_STS.WARN c) 0).setCanState c canActive
  else s

/-- Recessive sequences counted in BUS_OFF; the 128th ends it (R209, R212). -/
def State.busOffCount (s : State) (c n : Nat) : State :=
  if s.canState c != canBusOff then s
  else if n < 128 then s.p (R.CAN_STS.BO_CNT c) n
  else
    (((((s.p (R.CAN_STS.BO_CNT c) 128).p (R.CAN_ERRC.TEC c) 0).p (R.CAN_ERRC.REC c) 0).p (R.CAN_STS.WARN c) 0).setCanState c canActive).ev
      (R.CAN_EVT.RECOVERED c)

/-- The Tenon link is lost, or the transceiver leaves normal mode: INTEGRATING; a frame in progress is abandoned, a
transmission stays requested (R209). -/
def State.canBusLost (s : State) (c : Nat) : State :=
  let st := s.canState c
  if st = canActive ∨ st = canPassive ∨ st = canBusOff then
    ((s.canTxFail c).setCanState c (if (s.canTxFail c).canState c = canOffSt then canOffSt else canIntegrating)).p (R.CAN_STS.PEX c) 0
  else s

/-! ### Reception (R211, R213-R217) -/

/-- The stamp of a frame whose SOF was sampled `age` clocks ago (R217). -/
def State.sofStamp (s : State) (c age : Nat) : Nat := (s.sofCtr + (2 ^ 64 - age % 2 ^ 64) + 2 ^ 64 - s.g (R.CAN_TSC.DLY c)) % 2 ^ 64

/-- The received frame as the device keeps it (R215). -/
def State.rxCan (s : State) (c : Nat) (f : CFrame) (dlc : Nat) (data : List Byte) (age : Nat) : CFrame :=
  let len := match f.fmt with
    | 0 => if f.rtr then dlc % 16 else min 8 (dlc % 16)
    | 1 => fdLens.getD (dlc % 16) 64
    | _ => clampNat 1 2048 data.length
  let rtr := f.rtr && f.fmt == 0
  { f with rtr := rtr, len := len, data := if rtr then [] else slice data 0 len, stamp := s.sofStamp c age % 2 ^ 32 }

/-- The object, DEL and queue a frame selects (R213). -/
def State.rxSelect (s : State) (c : Nat) (f : CFrame) : Option (Nat × Nat × Nat) :=
  let obj := fun i => if s.on (R.CAN_RXC.EN c i) then some (i, s.g (R.CAN_RXC.DEL c i), s.g (R.CAN_RXC.Q c i)) else none
  if f.fmt = 2 then
    match (List.range 256).find? (fun j => s.on (R.CAN_XLM_MATCH.VALID c j) && s.g (R.CAN_XLM_MATCH.PRIO c j) == f.id % 2048 &&
        (s.on (R.CAN_XLM_MATCH.VCID_ANY c j) || s.g (R.CAN_XLM_MATCH.VCID c j) == f.vcid) &&
        (s.on (R.CAN_XLM_MATCH.SDT_ANY c j) || s.g (R.CAN_XLM_MATCH.SDT c j) == f.sdt)) with
    | some j => some (2048 + s.g (R.CAN_XLM_ACT.OBJ c j), s.g (R.CAN_XLM_ACT.DEL c j), s.g (R.CAN_XLM_ACT.Q c j))
    | none => none
  else if f.ide then
    match (List.range 512).find? (fun k => s.on (R.CAN_XID.VALID c k) && s.g (R.CAN_XID.ID c k) == f.id % 2 ^ 29) with
    | some k => obj (2048 + k)
    | none => none
  else obj (f.id % 2048)

/-- A store into an object (R215). -/
def State.rxStore (s : State) (c i : Nat) (f : CFrame) : State :=
  let new := s.on (R.CAN_RXO_W0.NEW c i)
  let trunc := f.fmt == 2 && decide (64 < f.len)
  let b := fun (x : Bool) (n : Nat) => if x then 2 ^ n else 0
  let seq := (s.g (R.CAN_RXO_W0.SEQ c i) + 1) % 16
  let w0 := W (2 ^ 31 + b (new || s.on (R.CAN_RXO_W0.LOST c i)) 30 + seq * 2 ^ 26 + b (f.fmt == 1) 25 + b f.brs 24 + b f.esi 23 +
    b (f.fmt == 2) 22 + b trunc 21 + b f.rtr 20 + b f.ide 19 + f.len % 4096)
  let s1 := ((s.wr (R.CAN_RXO_W0 c i) w0).wr (R.CAN_RXO_W1 c i) (W f.stamp)).wrList (R.CAN_RXO_W2 c i) (wordsOf 16 (f.data.take 64))
  let s2 := if new then (s1.bump (R.CAN_RX_LOST_LO c)).ev (R.CAN_EVT.LOST c) else s1
  if trunc then s2.bump (R.CAN_XL_TRUNC_LO c) else s2

/-- A CAN frame entry of a queue (R410). -/
def canEntry (c : Nat) (f : CFrame) : List Word :=
  let b := fun (x : Bool) (n : Nat) => if x then 2 ^ n else 0
  [lenWord 0 1 c f.data.length, f.w0,
   W (b f.rtr 31 + b f.brs 30 + b f.esi 29 + b f.sec 28 + (f.sdt % 256) * 256 + f.vcid % 256), W f.stamp, W f.af] ++ toWords f.data

/-- DEL 3: the frame goes to a queue, or is dropped (R214, R251). -/
def State.rxQueue (s : State) (c i q : Nat) (f : CFrame) : State :=
  let e := canEntry c f
  let drop := fun t : State => (t.bump (R.CAN_DEL_DROP_LO c)).ev (R.CAN_EVT.DEL_DROP c)
  if s.qIsIn q then drop (s.bump (R.QUE_OWNER_DROP_LO q))
  else if s.offer q e.length = .taken then
    (s.qOffer q e).when ((s.cmaFor false c i).isSome) (fun t => t.bump (R.GW_CMA_UNVER_LO c))
  else drop (s.qOffer q e)

/-- A frame received without error by a controller that takes part in the bus (R211, R213, R214). -/
def State.canReceive (s : State) (c : Nat) (f0 : CFrame) (dlc : Nat) (data : List Byte) (age : Nat) : State :=
  if !s.canOnBus c then s
  else if (f0.fmt = 1 ∧ !s.fdEn c) ∨ (2 ≤ f0.fmt ∧ !s.xlEn c) then
    if bit (s.canCfg c).toNat 26 then ((s.bump (R.CAN_PEX_LO c)).p (R.CAN_STS.PEX c) 1).ev (R.CAN_EVT.PEX c)
    else s.canErr c 2 false 1 none
  else
    let f := s.rxCan c f0 dlc data age
    let r := s.g (R.CAN_ERRC.REC c)
    let s0 := s.bump (R.CAN_RX_OK_LO c)
    -- a REC above 127 takes a value between 119 and 127 that ISO 11898-1 leaves open
    let s1 := if 127 < r then s0.used.canCounts c (s.g (R.CAN_ERRC.TEC c)) (119 + s.freeNat % 9)
      else s0.canCounts c (s.g (R.CAN_ERRC.TEC c)) (r - 1)
    match s1.rxSelect c f with
    | none => (s1.bump (R.CAN_RX_NOOBJ_LO c)).ev (R.CAN_EVT.NOOBJ c)
    | some (i, del, q) =>
      if del = 3 then s1.rxQueue c i q f
      else if del ≤ 1 ∧ s1.objWorn c i then (s1.bump (R.CAN_RX_NOOBJ_LO c)).ev (R.CAN_EVT.NOOBJ c)
      else
        let s2 := if del ≤ 1 then s1.rxStore c i f else s1
        s2.gwTake { can := c, obj := i, del := del, seq := s2.g (R.CAN_RXO_W0.SEQ c i), f := f }

/-- A write of W0 of a receive object (R216). -/
def State.rxoW0Write (s : State) (c i : Nat) (val : Word) : State :=
  if fieldOf val 26 4 = s.g (R.CAN_RXO_W0.SEQ c i) then
    s.wr (R.CAN_RXO_W0 c i) (s.rd (R.CAN_RXO_W0 c i) &&& ~~~(val &&& 0xC0000000))
  else s

/-! ### Transmission (R206, R219-R226) -/

/-- The event objects of a controller that are pending (R219). -/
def State.pendingObjs (s : State) (c : Nat) : List Nat :=
  let base := R.CAN_TXO_W1 c 0
  s.regs.filterMap (fun p =>
    if base ≤ p.1 ∧ p.1 < base + 0xA000 ∧ (p.1 - base) % 0x50 = 0 ∧ bit p.2.toNat 31 ∧ bit p.2.toNat 30 ∧ !bit p.2.toNat 27 then
      some ((p.1 - base) / 0x50) else none)

/-- Rank of an identifier (R219). -/
def CFrame.rank (f : CFrame) : Nat := if f.ide && f.fmt != 2 then f.id else (f.id % 2048) * 2 ^ 18 + 0x3FFFF

/-- The pending event objects whose frame may be copied. -/
def State.sendables (s : State) (c : Nat) : List Nat := (s.pendingObjs c).filter (fun i => s.cmaSendable c i)
/-- The worst case of an object's frame ends before the window in hand does (R226). -/
def State.windowFits (s : State) (c i : Nat) : Bool :=
  !(s.matrix c).run || decide (s.matrixNow c + s.worstNs c (s.txoFrame c i) ≤ (s.matrix c).ends)

/-- The object a controller would start now: that of an EXCL window in time, or the pending one of lowest rank that fits
the ARB window (R219, R224, R226). -/
def State.txPick (s : State) (c : Nat) : Option (Nat × Bool) :=
  let m := s.matrix c
  match m.typ with
  | 0 => if m.owed && s.inTime c && s.tbRun m.tb && s.exclDue c && s.cmaSendable c m.obj then some (m.obj, true) else none
  | 1 =>
    if m.shut then none
    else (minBy (fun i => (s.txoFrame c i).rank) ((s.sendables c).filter (fun i => s.windowFits c i))).map (fun i => (i, false))
  | _ => none

/-- Objects are pending in an ARB window and none fits: no frame starts in the rest of it (R226). -/
def State.noneFits (s : State) (c : Nat) : Bool :=
  (s.matrix c).run && (s.matrix c).typ == 1 && !(s.sendables c).isEmpty && (s.sendables c).all (fun i => !s.windowFits c i)

/-- The controller may start a frame now: the object is copied at SOF (R219, R221). With XL_SIC set the transceiver goes into SIC fast
mode for the data phase of an XL frame, from its ADS field to its DAS field (R207); no row shows those fields, and the model has the
mode from here to the frame's end (log 64). -/
def State.canTxStart (s : State) (c : Nat) : State :=
  if !s.canOnBus c || s.listen c || (s.canOf c).tx.isSome || (s.canOf c).closing then s
  else
    match s.txPick c with
    | none => if s.noneFits c then s.modMatrix c (fun m => { m with shut := true }) else s
    | some (i, excl) =>
      if s.txBad c i then (if excl then s else s.txRefuse c i)
      else
        let f := { s.txoFrame c i with stamp := s.sofStamp c 0 % 2 ^ 32 }
        let fast := f.fmt == 2 && bit (s.canCfg c).toNat 27
        ((s.modCan c (fun k => { k with tx := some { obj := i, f := f, excl := excl }, sic := fast })).p (R.CAN_STS.TXBUSY c) 1).p
          (R.CAN_STS.TXOBJ c) i

/-- The frame on the bus is sent with success (R219, R225, R252). -/
def State.canTxOk (s : State) (c loop : Nat) : State :=
  match (s.canOf c).tx with
  | none => s
  | some t =>
    let i := t.obj
    let s1 := (s.tdcMeasure c t.f loop).canTxOver c false
    let s2 := ((s1.bump (R.CAN_TX_OK_LO c)).p (R.CAN_TXO_W1.DONE c i) 1).wr (R.CAN_TXLAST_LO c) (W t.f.stamp)
    let s3 := s2.wr (R.CAN_TXLAST_HI c) (W (2 ^ 31 + i))
    let s4 := if t.excl then (if t.late || t.past then s3 else s3.modMatrix c (fun m => { m with owed := false })) else (s3.p (R.CAN_TXO_W1.REQ c i) 0).reqGone c i
    let s5 := s4.canCounts c (s4.g (R.CAN_ERRC.TEC c) - 1) (s4.g (R.CAN_ERRC.REC c))
    ((s5.cmaSent c i).canAfter c).when (i == s.g (R.PWR_SLP_ANN.OBJ c)) (fun u => u.annEnd c)

/-- Arbitration is lost (R219, R231). -/
def State.canArb (s : State) (c : Nat) : State :=
  match (s.canOf c).tx with
  | none => s
  | some _ => (s.bump (R.CAN_ARB_LOST_LO c)).canTxFail c

/-- Clears REQ of an object (R222). -/
def State.canAbort (s : State) (c i : Nat) : State :=
  if s.on (R.CAN_TXO_W1.REQ c i) then (s.p (R.CAN_TXO_W1.REQ c i) 0).reqGone c i else s

/-- The objects whose REQ is set. -/
def State.pendingReqs (s : State) (c : Nat) : List Nat :=
  let base := R.CAN_TXO_W1 c 0
  s.regs.filterMap (fun p =>
    if base ≤ p.1 ∧ p.1 < base + 0xA000 ∧ (p.1 - base) % 0x50 = 0 ∧ bit p.2.toNat 30 then some ((p.1 - base) / 0x50) else none)

/-- A write of CAN_TXCMD (R48, R222): OP 1 ABORT, 2 ABORT_ALL. -/
def State.txAct (s : State) (req c : Nat) (val : Word) : State :=
  let op := fieldOf val 28 2
  s.command req (R.CAN_TXCMD c) val (op == 1 || op == 2) statDone (fun u =>
    if op = 1 then u.canAbort c (fieldOf val 0 9) else u.each (u.pendingReqs c) (fun i v => v.canAbort c i))

/-- Such a write at its requester's port. -/
def State.txCommand (s : State) (req c : Nat) (val : Word) : State :=
  s.byPort req (R.CAN_TXCMD c) val false (fun t => t.txAct req c val)

/-! ### Captures and resets (R218, R228) -/

/-- The counter and the time bases are captured (R218). -/
def State.crossCapture (s : State) : State :=
  let ctr := s.sofCtr / 80000 * 80000
  let run := (List.range 4).filter (fun t => s.tbRun t)
  let words := (List.range 4).flatMap (fun t => if run.contains t then tvWords (s.tbVal t) else [0, 0, 0])
  let seq := s.g R.CAN_XCAP_HI.CAPSEQ
  let s1 := s.wrList R.CAN_XCAP_LO ([W ctr, W (ctr / 2 ^ 32)] ++ words ++ [W (maskOf 4 run * 65536 + (seq + 1) % 65536)])
  let good := fun (m : Tab Nat) t => m.set (fun _ => 0) t (if run.contains t then min 2 (m.get (fun _ => 0) t + 1) else 0)
  { s1 with gw := { s1.gw with caps := (ctr, (List.range 4).map (fun t => tvNs (s.tbVal t))) :: s1.gw.caps.take 1,
                               capGood := (List.range 4).foldl good s1.gw.capGood } }

/-- What CAN keeps through its soft reset: the counter and the capture (R228). -/
def canKept (a : Nat) : Bool := decide (0x17F0000 ≤ a)

/-- The soft reset of CAN (R228, R253). -/
def State.canSoftReset (s : State) : State :=
  let s1 := s.each (List.range 16) (fun d t => (t.bumpBy (R.GW_NOSEND_LO d) (t.fifo d).length).p (R.GW_DST_STS.LEVEL d) 0)
  let s2 := { s1 with can := [], gw := { s1.gw with fifo := [], long := [] } }
  s2.resetRegs (fun a => regionOf a == 7 && !canKept a)

/-! ### Meanings of the CAN rows -/

/-- CAN_ENABLE (R209): a write of CAN_CFG[c] with EN set. -/
def execCanEnable (req c : Nat) (val : Word) (s : State) : Host.Outcome State Fault Refusal :=
  done s (s.byPort req (R.CAN_CFG (c % 16)) (val ||| 0x80000000) false (fun t => t.canCfgWrite req (c % 16) (val ||| 0x80000000)))

/-- CAN_DISABLE (R209): a write of CAN_CFG[c] with EN clear. -/
def execCanDisable (req c : Nat) (val : Word) (s : State) : Host.Outcome State Fault Refusal :=
  done s (s.byPort req (R.CAN_CFG (c % 16)) (val &&& 0x7FFFFFFF) false (fun t => t.canCfgWrite req (c % 16) (val &&& 0x7FFFFFFF)))

/-- INTEGRATION_DONE (R209). -/
def execIntegrationDone (c : Nat) (s : State) : Host.Outcome State Fault Refusal := done s (s.integrated (c % 16))

/-- BUS_OFF_RECOVERY (R209, R212): `n` recessive sequences have been counted. -/
def execBusOffRecovery (c n : Nat) (s : State) : Host.Outcome State Fault Refusal := done s (s.busOffCount (c % 16) n)

/-- CAN_FRAME_RECEIVED (R213): the frame with its DLC code and its data, `age` clocks after its SOF was sampled. -/
def execCanFrameReceived (c fmt id : Nat) (ide rtr brs esi sec : Bool) (sdt vcid af dlc : Nat) (data : List Byte) (s : State) (age : Nat := 0) :
    Host.Outcome State Fault Refusal :=
  let f : CFrame := { fmt := min fmt 2, ide := ide && fmt != 2, id := id, rtr := rtr, brs := brs && fmt == 1, esi := esi && fmt != 0,
                      sec := sec && fmt == 2, sdt := if fmt = 2 then sdt % 256 else 0, vcid := if fmt = 2 then vcid % 256 else 0,
                      af := if fmt = 2 then af % 2 ^ 32 else 0 }
  done s (s.canReceive (c % 16) f dlc data age)

/-- CAN_TX_START (R219). -/
def execCanTxStart (c : Nat) (s : State) : Host.Outcome State Fault Refusal := done s (s.canTxStart (c % 16))

/-- CAN_TX_SUCCESS (R219): with the loop delay of transceiver and bus, in clocks, beyond the fixed delay of the Tenon link. -/
def execCanTxSuccess (c loop : Nat) (s : State) : Host.Outcome State Fault Refusal := done s (s.canTxOk (c % 16) loop)

/-- CAN_ARB_LOST (R219). -/
def execCanArbLost (c : Nat) (s : State) : Host.Outcome State Fault Refusal := done s (s.canArb (c % 16))

/-- CAN_ERROR (R210): kind 0 bit, 1 stuff, 2 form, 3 CRC, 4 acknowledgement, 5 the dominant bits counted after an error flag; as
transmitter or not; what it adds; and the loop delay, where the error fell after its measurement. -/
def execCanError (c kind : Nat) (tx : Bool) (weight : Nat) (s : State) (loop : Option Nat := none) : Host.Outcome State Fault Refusal :=
  done s (s.canErr (c % 16) (kind % 6) tx weight loop)

/-- TX_REQUEST (R220): a write of W1 of a transmit object with REQ set. -/
def execTxRequest (req c obj : Nat) (val : Word) (s : State) : Host.Outcome State Fault Refusal :=
  done s (s.byPort req (R.CAN_TXO_W1 (c % 16) (obj % 512)) (val ||| 0x40000000) false (fun t => t.txoWrite (c % 16) (obj % 512) 1 (val ||| 0x40000000)))

/-- ABORT (R222). -/
def execCanAbort (req c obj : Nat) (s : State) : Host.Outcome State Fault Refusal :=
  done s (s.txCommand req (c % 16) (W (2 ^ 28 + obj % 512)))

/-- ABORT_ALL (R222). -/
def execCanAbortAll (req c : Nat) (s : State) : Host.Outcome State Fault Refusal := done s (s.txCommand req (c % 16) (W (2 ^ 29)))

/-- RX_OBJECT_W0_WRITE (R216). -/
def execRxObjectW0Write (req c obj : Nat) (val : Word) (s : State) : Host.Outcome State Fault Refusal :=
  done s (s.byPort req (R.CAN_RXO_W0 (c % 16) (obj % 2560)) val false (fun t => t.rxoW0Write (c % 16) (obj % 2560) val))

/-- CROSS_CAPTURE (R218). -/
def execCrossCapture (s : State) : Host.Outcome State Fault Refusal := done s s.crossCapture

/-- MATRIX_START (R223). -/
def execMatrixStart (c : Nat) (s : State) : Host.Outcome State Fault Refusal := done s (s.matrixStart (c % 16))

/-- WINDOW_START (R224). -/
def execWindowStart (c : Nat) (s : State) : Host.Outcome State Fault Refusal := done s (s.windowEval (c % 16))

/-- EXCL_LATE_EXPIRY (R225). -/
def execExclLateExpiry (c : Nat) (s : State) : Host.Outcome State Fault Refusal := done s (s.exclClose (c % 16))

/-- PEX_END (R211). -/
def execPexEnd (c : Nat) (s : State) : Host.Outcome State Fault Refusal := done s (s.p (R.CAN_STS.PEX (c % 16)) 0)

end Sys2Proof.Machine
end

