-- ==== Sys2Proof/Machine/Time.lean ====
section
/-! DEFINITION. Time bases, steps and slews, servos, trigger generators, captures (10, R256-R264, R273-R279). -/

namespace Sys2Proof.Machine

/-! ### Trigger generators (R273-R276) -/

def State.gen (s : State) (g : Nat) : Gen := s.gens.get (fun _ => {}) g
def State.modGen (s : State) (g : Nat) (f : Gen → Gen) : State := { s with gens := s.gens.set (fun _ => {}) g (f (s.gen g)) }
def State.genRun (s : State) (g : Nat) : Bool := s.on (R.TG_STS.RUN g)

/-- Scheduled time of edge `n` in 1/256 ns (R273). -/
def Gen.at (q : Gen) (n : Nat) : Nat := q.start + n * q.per

/-- The first edge scheduled after a time, in 1/256 ns (R273). -/
def Gen.firstAfter (q : Gen) (now : Nat) : Nat := if now < q.start then 0 else (now - q.start) / max 1 q.per + 1

/-- A time value in whole 1/256 ns. -/
def tv256 (v : Nat) : Nat := v / 16777216

/-- The level TRIGg rests at (R276). -/
def State.pinRest (s : State) (g : Nat) : State := s.modGen g (fun q => { q with pin := q.pol })

/-- A generator is stopped for want of its configuration, its time base or its leader (R273-R275). -/
def State.tgErr (s : State) (g : Nat) : State :=
  ((((s.p (R.TG_STS.RUN g) 0).p (R.TG_STS.CFG_ERR g) 1).ev R.TIME_EVT.TP_CFG_ERR)).pinRest g

/-- The running generators that `p` selects. -/
def State.gensWhere (s : State) (p : Gen → Bool) : List Nat := (List.range 32).filter (fun g => s.genRun g && p (s.gen g))

/-- The followers of a leader that stops stop too (R275). -/
def State.dropFollowers (s : State) (lead : Nat) : State := s.each (s.gensWhere (fun q => q.link && q.lead == lead)) (fun g t => t.tgErr g)

/-- An edge is not made (R273-R275). -/
def State.tgSkip (s : State) (g n : Nat) : State := if n = 0 then s else (s.bumpBy (R.TG_SKIP_LO g) n).ev R.TIME_EVT.TG_SKIP

/-- The generator clears RUN of its own, after its only edge. -/
def State.tgEnd (s : State) (g : Nat) : State := (s.p (R.TG_STS.RUN g) 0).dropFollowers g

/-- A link that R275 refuses. -/
def State.linkBad (s : State) (g : Nat) (q : Gen) : Bool :=
  let l := s.gen q.lead
  q.lead == g || !s.genRun q.lead || l.link || l.oneShot || l.tb != q.tb || l.per != q.per || decide (q.start < l.start) ||
    decide (l.start + l.per ≤ q.start)

/-- EN goes from 0 to 1 (R273, R275). -/
def State.tgEnable (s : State) (g : Nat) : State :=
  let w := s.rd (R.TG_CFG g)
  let width := s.g (R.TG_WIDTH.NS g)
  let start := match s.rdTv (R.TG_START_LO g) with | some v => tv256 v | none => 0
  let q : Gen := { s.gen g with
    oneShot := bit w.toNat 30, tb := fieldOf w 28 2, pol := bit w.toNat 27, pinEn := bit w.toNat 26 && decide (g < 16), link := bit w.toNat 25,
    lead := fieldOf w 20 5, start := start, per := s.g (R.TG_PER_LO.NS g) * 256 + s.g (R.TG_PER_HI.FRAC g), width := width, made := [] }
  let s1 := (s.modGen g (fun _ => q)).pinRest g
  let now := tv256 (s.tbVal q.tb)
  if !s.tbRun q.tb || q.startBad || (q.pinEn && decide (width < 8)) || (!q.oneShot && decide (q.per < 25600)) ||
      (!q.oneShot && q.pinEn && decide (q.per ≤ width * 256)) || (q.link && s.linkBad g q) then s1.tgErr g
  else if q.oneShot then
    if start ≤ now then s1.tgSkip g 1 else (s1.modGen g (fun x => { x with next := 0 })).p (R.TG_STS.RUN g) 1
  else (s1.modGen g (fun x => { x with next := x.firstAfter now })).p (R.TG_STS.RUN g) 1

/-- EN is cleared (R274, R275). -/
def State.tgDisable (s : State) (g : Nat) : State :=
  let s1 := ((s.p (R.TG_STS.RUN g) 0).p (R.TG_STS.CFG_ERR g) 0).pinRest g
  s1.dropFollowers g

/-- A write of TG_CFG by requester `req` (R273, R508). -/
def State.tgCfgWrite (s : State) (req g : Nat) (val : Word) : State :=
  (s.store (R.TG_CFG g) val).enDo (R.TG_CFG g) 31 (s.enAct req (R.TG_CFG g) 31 val) (fun t => t.tgEnable g) (fun t => t.tgDisable g)

/-- The scheduled edge of a generator occurs (R273-R276): whether it is made. A link makes it depend on the leader's edge
of the same number; one too close to the previous edge is suppressed. -/
def State.genEdge (s : State) (g : Nat) : State × Bool :=
  let q := s.gen g
  if !s.genRun g || decide (tv256 (s.tbVal q.tb) < q.at q.next) then (s, false)
  else
    let s1 := s.modGen g (fun x => { x with next := x.next + 1 })
    let fin := fun t : State => if q.oneShot then t.tgEnd g else t
    if q.link && !((s.gen q.lead).made.contains q.next) then (fin (s1.tgSkip g 1), false)
    else if !q.oneShot && !q.made.isEmpty && decide (2 * 512 * (s.tick - q.lastTick) < q.per) then
      (fin ((s1.bump (R.TG_SUPP_LO g)).ev R.TIME_EVT.TG_SUPP), false)
    else
      let s2 := s1.modGen g (fun x => { x with made := q.next :: x.made.take 3, lastTick := s.tick, pin := if x.pinEn then !x.pol else x.pin })
      (fin (s2.inc (R.TG_STS.EDGES g)), true)

/-- WIDTH after an edge the pin returns to its inactive level (R276). -/
def State.pinEnd (s : State) (g : Nat) : State := if (s.gen g).pinEn then s.pinRest g else s

/-- A running generator meets a step of its time base (R274): it goes on with the first edge after the new time, and a
forward step's passed edges are skipped. -/
def State.genStep' (s : State) (g : Nat) (forward : Bool) : State :=
  let q := s.gen g
  let now := tv256 (s.tbVal q.tb)
  if q.oneShot then (if q.start ≤ now then (s.tgSkip g 1).tgEnd g else s)
  else
    let n := q.firstAfter now
    (s.modGen g (fun x => { x with next := n })).tgSkip g (if forward then n - q.next else 0)

/-! ### Steps, rate and slews (R257-R261) -/

/-- Time base `t` has stepped, for a message being received. -/
def RxOpen.step (r : RxOpen) (t : Nat) : RxOpen := { r with stepped := r.stepped ||| 2 ^ t }
/-- Messages being received whose stamps lie before a step of time base `t` (R261, R271). -/
def State.rxStepped (s : State) (t : Nat) : State :=
  { s with sw := { s.sw with rx := List.map (fun (p : Nat × Option RxOpen) => (p.1, p.2.map (·.step t))) s.sw.rx } }
def State.asmStepped (s : State) (t : Nat) : State :=
  { s with ports := List.map (fun (p : Nat × Port) => (p.1, { p.2 with asm := p.2.asm.map (fun a => { a with rx := a.rx.step t }) })) s.ports }

/-- A Follow_Up of a grandmaster whose time base is `t` (R271). -/
def State.gmFollow (s : State) (t : Nat) (x : Nat × TpOut) : Bool :=
  match x.2 with | .follow d _ => (s.doms.get (fun _ => {}) d).tb == t | _ => false
/-- A step of time base `t` on the messages that wait to be sent (R271): a Sync to relay has it in its residence; the Follow_Up of a
grandmaster on that base is not sent, and counts. -/
def State.outStepped (s : State) (t : Nat) : State :=
  let gone := s.tpOut.filterMap (fun x => match x.2 with | .follow d _ => if s.gmFollow t x then some d else none | _ => none)
  let kept := (s.tpOut.filter (fun x => !s.gmFollow t x)).map (fun x => match x.2 with
    | .relay d q r o c m k h l => (x.1, TpOut.relay d q { r with stepped := r.stepped ||| 2 ^ t } o c m k h l)
    | _ => x)
  { s with tpOut := kept }.each gone (fun d u => u.bump (R.TP_SYNC_DROP_LO d))

/-- A step of time base `t` to value `v` (R260, R261). -/
def State.tbStep (s : State) (t v : Nat) : State :=
  let old := s.tbVal t
  let s1 := (((s.modTb t (fun b => { b with v := v % tvMod })).inc (R.TB_STS.STEPS t)).bump (R.TB_STEP_LO t)).ev (R.TB_EVT.STEP t)
  let s2 := { s1 with gw := { s1.gw with capGood := s1.gw.capGood.set (fun _ => 0) t 0 },
                      tpIn := s1.tpIn.map (fun (m : TpMsg) => { m with stepped := m.stepped ||| 2 ^ t }),
                      doms := List.map (fun (p : Nat × Dom) => (p.1, { p.2 with await := p.2.await.map (fun (r : SyncRec) => { r with stepped := r.stepped ||| 2 ^ t }) })) s1.doms }
  let s3 := (((s2.rxStepped t).asmStepped t).outStepped t).each (List.range 16) (fun c u => if (u.matrix c).tb = t then u.matrixStep c (tvNs old) else u)
  s3.each (s3.gensWhere (fun q => q.tb == t)) (fun g u => u.genStep' g (decide (old < v % tvMod)))

/-- A clamp of E (R258). -/
def State.tbClamp (s : State) (t : Nat) : State :=
  let e := tbRaw (s.tbInc t) (s.tb t).adj
  if e < tbEMin ∨ tbEMax < e then (s.bump (R.TB_CLAMP_LO t)).ev (R.TB_EVT.CLAMP t) else s

/-- A commit of TB_INC (R258): ignored out of range. -/
def State.tbIncCommit (s : State) (t : Nat) (lo hi : Word) : State :=
  let inc : Int := ((fieldOf hi 0 8 * 4294967296 + lo.toNat : Nat) : Int)
  if inc < tbEMin ∨ tbEMax < inc then s else ((s.wr (R.TB_INC_LO t) lo).p (R.TB_INC_HI.INT t) (fieldOf hi 0 8)).tbClamp t

/-- The offset of TB_OFS in ns. -/
def State.tbOfs (s : State) (t : Nat) : Int := signed 64 (s.rd64 (R.TB_OFS_LO t))

/-- E has no room left in the direction of an offset (R260). -/
def State.atLimit (s : State) (t : Nat) (ofs : Int) : Bool :=
  (decide (0 < ofs) && decide (tbEMax ≤ s.tbE t)) || (decide (ofs < 0) && decide (s.tbE t ≤ tbEMin))

/-- TB_SRV_ADJ shows ADJ in whole ppb (R263). -/
def State.adjShow (s : State) (t : Nat) : State := s.wr (R.TB_SRV_ADJ t) (W (unsigned 32 (Int.tdiv (s.tb t).adj 4096)))

/-- TB_CMD accepts an operation (R260): 1 SET, 2 ADD, 3 SLEW, 4 ADJ_ZERO. -/
def State.tbCmdOk (s : State) (t op : Nat) : Bool :=
  match op with
  | 1 => !(s.tb t).setBad && (s.rdTv (R.TB_SET_LO t)).isSome
  | 2 => true
  | 3 => decide ((s.tbOfs t).natAbs < 2147483648) && !s.on (R.TB_CFG.SRV_EN t) && s.on (R.TB_CFG.EN t) && !s.atLimit t (s.tbOfs t)
  | 4 => !s.on (R.TB_CFG.SRV_EN t)
  | _ => false

/-- A write of TB_CMD (R48, R260). -/
def State.tbAct (s : State) (req t : Nat) (val : Word) : State :=
  let op := fieldOf val 0 3
  s.command req (R.TB_CMD t) val (s.tbCmdOk t op) (if op = 3 then statBusy else statDone) (fun w =>
      match op with
      | 1 => w.tbStep t ((w.rdTv (R.TB_SET_LO t)).getD 0)
      | 2 => w.tbStep t (tvAdd (w.tbVal t) (w.tbOfs t * 4294967296))
      | 3 => w.modTb t (fun b => { b with slew := some (w.tbOfs t * 4294967296) })
      | _ => (w.modTb t (fun b => { b with adj := 0, integ := 0 })).adjShow t)

/-- Such a write at its requester's port. -/
def State.tbCommand (s : State) (req t : Nat) (val : Word) : State :=
  s.byPort req (R.TB_CMD t) val false (fun u => u.tbAct req t val)

/-- The offset of a slew is spent (R260). -/
def State.slewDone (s : State) (t : Nat) : State :=
  if (s.tb t).slew = some 0 then (s.modTb t (fun b => { b with slew := none })).setStat (R.TB_CMD t) statDone else s

/-! ### The servo (R262-R264) -/

abbrev srvOff : Nat := 0
abbrev srvAcquire : Nat := 1
abbrev srvLocked : Nat := 2
abbrev srvHoldover : Nat := 3
def State.srv (s : State) (t : Nat) : Nat := s.g (R.TB_STS.SRV t)
def State.setSrv (s : State) (t v : Nat) : State := s.p (R.TB_STS.SRV t) v

/-- 10^6 ppb in 2^-12 ppb. -/
def adjLimit : Int := 4096000000

/-- The state of the servo after an update of offset `e` (R264); the one that ends HOLDOVER is none of the LOCK_N. -/
def State.srvJudge (s : State) (t : Nat) (e : Int) : State :=
  let ok := decide (e.natAbs ≤ s.g (R.TB_SRV_THR.LOCK_NS t))
  let st := s.srv t
  if st = srvLocked then (if ok then s else ((s.modTb t (fun b => { b with good := 0 })).setSrv t srvAcquire).ev (R.TB_EVT.UNLOCKED t))
  else if st = srvHoldover then (s.modTb t (fun b => { b with good := 0 })).setSrv t srvAcquire
  else
    let n := if ok then (s.tb t).good + 1 else 0
    let s1 := s.modTb t (fun b => { b with good := n })
    if max 1 (s.g (R.TB_SRV_TMO.LOCK_N t)) ≤ n then (s1.setSrv t srvLocked).ev (R.TB_EVT.LOCKED t) else s1.setSrv t srvAcquire

/-- One servo update of offset `e` in ns (R263). -/
def State.srvUpdate (s : State) (t : Nat) (e : Int) : State :=
  if s.srv t = srvOff ∨ !s.tbRun t then s
  else
    let b := s.tb t
    let us := s.g (R.TB_SRV_THR.STEP_US t)
    let step := b.stepEn && us != 0 && (decide (us * 1000 < e.natAbs) ||
      (s.srv t == srvAcquire && b.first && decide (s.g (R.TB_SRV_THR.LOCK_NS t) < e.natAbs)))
    let shown := s.wr (R.TB_SRV_OFS t) (W (unsigned 32 (clampInt (-2147483647) 2147483647 e)))
    let s1 := (shown.srvJudge t e).modTb t (fun x => { x with first := false })
    if step then s1.tbStep t (tvAdd (s1.tbVal t) (-(e * 4294967296)))
    else
      let integ := clampInt (-adjLimit) adjLimit (b.integ + (s.g (R.TB_SRV_GAIN.KI t) : Int) * e)
      let adj := clampInt (-adjLimit) adjLimit (-((s.g (R.TB_SRV_GAIN.KP t) : Int) * 16 * e) - integ)
      ((s1.modTb t (fun x => { x with integ := integ, adj := adj })).adjShow t).tbClamp t

/-- The whole ns of an offset in 2^-32 ns; the spec does not say which way a fraction goes (log 34). -/
def State.wholeNs (s : State) (d : Int) : State × Int :=
  if d % 4294967296 = 0 then (s, d / 4294967296) else (s.used, d / 4294967296 + (if s.freeBool then 1 else 0))

/-- The signed difference of two time values. -/
def tvDiff (a b : Nat) : Int :=
  let d := (((a : Int) - (b : Int)) % (tvMod : Int))
  if (tvMod : Int) ≤ 2 * d then d - (tvMod : Int) else d

/-- The 1 ms sample of a servo that follows another time base (R262). -/
def State.tbSample (s : State) (t : Nat) : State :=
  let b := s.tb t
  if s.srv t = srvOff ∨ b.src ≠ 2 ∨ !s.tbRun t ∨ !s.tbRun b.idx then s
  else
    let r := s.wholeNs (tvDiff (s.tbVal t) (s.tbVal b.idx))
    r.1.srvUpdate t r.2

/-- No update for HOLD_MS (R264). -/
def State.holdover (s : State) (t : Nat) : State :=
  let st := s.srv t
  if st = srvAcquire ∨ st = srvLocked then ((s.setSrv t srvHoldover).ev (R.TB_EVT.HOLDOVER t)).modTb t (fun b => { b with good := 0 }) else s

/-- The chain of references from base `x` leads to base `t` (R262); `n` bounds its length. -/
def State.chainTo (s : State) (t : Nat) : Nat → Nat → Bool
  | 0, _ => false
  | n + 1, x => x == t || (s.srv x != srvOff && (s.tb x).src == 2 && State.chainTo s t n (s.tb x).idx)

/-- SRV_EN goes from 0 to 1 (R262, R264). -/
def State.srvEnable (s : State) (t : Nat) : State :=
  let src := s.g (R.TB_CFG.SRC t)
  let idx := s.g (R.TB_CFG.SRC_IDX t)
  if src = 3 ∨ (src = 2 ∧ (s.chainTo t 5 idx ∨ !s.tbRun idx)) then (s.p (R.TB_STS.CFG_ERR t) 1).ev (R.TB_EVT.CFG_ERR t)
  else (s.modTb t (fun b => { b with src := src, idx := idx, stepEn := s.on (R.TB_CFG.STEP_EN t), first := true, good := 0 })).setSrv t srvAcquire

/-- SRV_EN is cleared (R262, R264). -/
def State.srvDisable (s : State) (t : Nat) : State := (s.p (R.TB_STS.CFG_ERR t) 0).setSrv t srvOff

/-! ### Enables (R259, R274) -/

/-- EN goes from 0 to 1. -/
def State.tbEnable (s : State) (t : Nat) : State := s.p (R.TB_STS.RUN t) 1

/-- The time base stops (R262, R274): its value stays, its generators stop; its servo makes no update until it runs again. -/
def State.tbStop (s : State) (t : Nat) : State :=
  let s1 := s.p (R.TB_STS.RUN t) 0
  s1.each (s1.gensWhere (fun q => q.tb == t)) (fun g u => if u.genRun g then (u.tgErr g).dropFollowers g else u)

/-- EN is cleared (R259, R260, R264): a slew is abandoned, and the servo goes OFF. -/
def State.tbDisable (s : State) (t : Nat) : State :=
  let slewing := (s.tb t).slew.isSome
  let s1 := ((s.modTb t (fun b => { b with slew := none }))).setSrv t srvOff
  (if slewing then s1.setStat (R.TB_CMD t) statFailed else s1).tbStop t

/-- A write of TB_CFG by requester `req` (R259, R262, R508). -/
def State.tbCfgWrite (s : State) (req t : Nat) (val : Word) : State :=
  let a := R.TB_CFG t
  let s1 := (s.store a val).enDo a 31 (s.enAct req a 31 val) (fun u => u.tbEnable t) (fun u => u.tbDisable t)
  s1.enDo a 30 (s.enAct req a 30 val) (fun u => u.srvEnable t) (fun u => u.srvDisable t)

/-! ### Captures (R278) -/

/-- Servos that follow PPS_IN. -/
def State.ppsServos (s : State) : List Nat := (List.range 4).filter (fun t => s.srv t != srvOff && (s.tb t).src == 1)

/-- The offset of an edge stamped at `v` (R262). -/
def ppsOffset (v : Nat) : Int :=
  let ns := tvNs v % 1000000000
  if 500000000 ≤ ns then (ns : Int) - 1000000000 else ns

/-- A stamp of unit `i` in time base `t`: the input delay subtracted. -/
def State.capStamp (s : State) (i t : Nat) : Nat := tvAdd (s.tbVal t) (-((s.g (R.CAP_CFG.DLY i) * 4294967296 : Nat) : Int))

/-- An edge at capture input `i` (R278): stamped into the ring, or dropped; rising edges of unit 8 serve the PPS servos. An edge of a
pulse of `pulse` ns that FILT suppresses is ignored. -/
def State.capEdge (s : State) (i : Nat) (rising : Bool) (pulse : Nat) : State :=
  if pulse < 8 * s.g (R.CAP_CFG.FILT i) then s else
  let sv := if i = 8 ∧ rising then s.ppsServos else []
  let on := s.enOn (R.CAP_CFG.EN i) || (i == 8 && !s.ppsServos.isEmpty)
  let e := s.g (R.CAP_CFG.EDGE i)
  let want := on && (if rising then e != 2 else decide (2 ≤ e))
  let offs := sv.map (fun t => (t, ppsOffset (s.capStamp i t)))
  let s1 :=
    if !want then s
    else
      let wr := s.g (R.CAP_PTR.WR i)
      if (wr + 32 - s.g (R.CAP_PTR.RD i)) % 32 = 16 then (s.bump (R.CAP_OVF_LO i)).ev R.TIME_EVT.CAP_OVF
      else
        let v := s.capStamp i (s.g (R.CAP_CFG.TB i))
        let a := R.CAP_ENT_LO i (wr % 16)
        let s2 := (((s.wr a (tvW0 v ||| (if rising then 0x80000000 else 0))).wr (a + 4) (tvW1 v)).wr (a + 8) (tvW2 v)).p
          (R.CAP_PTR.WR i) (wr + 1)
        (s2.ev R.TIME_EVT.CAP).each ((List.range 64).filter (fun r => s.g (R.MEM_RING_TRIG.CAPSEL r) == i)) (fun r t => t.ringTrigger r 4)
  s1.each offs (fun o t => t.srvUpdate o.1 o.2)

/-! ### The soft reset (R279) -/

/-- The soft reset of TIME (R279): as for power-on, without the loader. -/
def State.timeSoftReset (s : State) : State :=
  let s1 := s.each (List.range 4) (fun t u => u.tbDisable t)
  let s2 := s1.resetRegs (fun a => regionOf a == 9)
  { s2 with tbs := [], gens := [], edges := [], doms := [], pdelay := [], tpIn := [], tpOut := [] }

/-! ### Meanings -/

/-- TB_ENABLE (R259): a write of TB_CFG[t] with EN set. -/
def execTbEnable (req t : Nat) (val : Word) (s : State) : Host.Outcome State Fault Refusal :=
  done s (s.byPort req (R.TB_CFG (t % 4)) (val ||| 0x80000000) false (fun u => u.tbCfgWrite req (t % 4) (val ||| 0x80000000)))

/-- TB_DISABLE (R259): a write of TB_CFG[t] with EN clear. -/
def execTbDisable (req t : Nat) (val : Word) (s : State) : Host.Outcome State Fault Refusal :=
  done s (s.byPort req (R.TB_CFG (t % 4)) (val &&& 0x7FFFFFFF) false (fun u => u.tbCfgWrite req (t % 4) (val &&& 0x7FFFFFFF)))

/-- SERVO_ENABLE (R262): a write of TB_CFG[t] with SRV_EN set. -/
def execServoEnable (req t : Nat) (val : Word) (s : State) : Host.Outcome State Fault Refusal :=
  done s (s.byPort req (R.TB_CFG (t % 4)) (val ||| 0x40000000) false (fun u => u.tbCfgWrite req (t % 4) (val ||| 0x40000000)))

/-- SET (R260). -/
def execTbSet (req t : Nat) (s : State) : Host.Outcome State Fault Refusal := done s (s.tbCommand req (t % 4) 1)

/-- ADD (R260). -/
def execTbAdd (req t : Nat) (s : State) : Host.Outcome State Fault Refusal := done s (s.tbCommand req (t % 4) 2)

/-- SLEW (R260). -/
def execTbSlew (req t : Nat) (s : State) : Host.Outcome State Fault Refusal := done s (s.tbCommand req (t % 4) 3)

/-- ADJ_ZERO (R260). -/
def execTbAdjZero (req t : Nat) (s : State) : Host.Outcome State Fault Refusal := done s (s.tbCommand req (t % 4) 4)

/-- SLEW_COMPLETE (R260). -/
def execSlewComplete (t : Nat) (s : State) : Host.Outcome State Fault Refusal := done s (s.slewDone (t % 4))

/-- SERVO_TB_SAMPLE (R262). -/
def execServoTbSample (t : Nat) (s : State) : Host.Outcome State Fault Refusal := done s (s.tbSample (t % 4))

/-- HOLDOVER (R264). -/
def execServoHoldover (t : Nat) (s : State) : Host.Outcome State Fault Refusal := done s (s.holdover (t % 4))

/-- TG_ENABLE (R273): a write of TG_CFG[g] with EN set. -/
def execTgEnable (req g : Nat) (val : Word) (s : State) : Host.Outcome State Fault Refusal :=
  done s (s.byPort req (R.TG_CFG (g % 32)) (val ||| 0x80000000) false (fun u => u.tgCfgWrite req (g % 32) (val ||| 0x80000000)))

/-- TG_DISABLE (R274): a write of TG_CFG[g] with EN clear. -/
def execTgDisable (req g : Nat) (val : Word) (s : State) : Host.Outcome State Fault Refusal :=
  done s (s.byPort req (R.TG_CFG (g % 32)) (val &&& 0x7FFFFFFF) false (fun u => u.tgCfgWrite req (g % 32) (val &&& 0x7FFFFFFF)))

/-- TG_PIN_WIDTH_END (R276). -/
def execTgPinWidthEnd (g : Nat) (s : State) : Host.Outcome State Fault Refusal := done s (s.pinEnd (g % 32))

/-- TG_EDGE_COMMAND (R277): not delivered while the power die is in the link-lost state. -/
def execTgEdgeCommand (g : Nat) (s : State) : Host.Outcome State Fault Refusal :=
  done s (if s.genRun (g % 32) && !s.tenon.lostState then { s with edges := s.edges ++ [g % 32] } else s)

/-- CAP_EDGE (R278). -/
def execCapEdge (unit : Nat) (rising : Bool) (s : State) (pulse : Nat := 1000000) : Host.Outcome State Fault Refusal :=
  done s (s.capEdge (unit % 9) rising pulse)

end Sys2Proof.Machine
end

