-- ==== Sys2Proof/Machine/Gptp.lean ====
section
/-! DEFINITION. The gPTP relay: link-delay service, Sync handling, relay, grandmaster (10, R265-R271). The layout of the
messages is that of IEEE Std 802.1AS (log 35). -/

namespace Sys2Proof.Machine

def State.dom (s : State) (d : Nat) : Dom := s.doms.get (fun _ => {}) d
def State.modDom (s : State) (d : Nat) (f : Dom → Dom) : State := { s with doms := s.doms.set (fun _ => {}) d (f (s.dom d)) }
def State.pd (s : State) (n : Nat) : Pdelay := s.pdelay.get (fun _ => {}) n
def State.modPd (s : State) (n : Nat) (f : Pdelay → Pdelay) : State :=
  { s with pdelay := s.pdelay.set (fun _ => {}) n (f (s.pd n)) }

/-! ### Messages (R266; log 35) -/

abbrev gpSync : Nat := 0
abbrev gpPdReq : Nat := 2
abbrev gpPdResp : Nat := 3
abbrev gpFollow : Nat := 8
abbrev gpPdFollow : Nat := 10

/-- The message in the frame, from its header on. -/
def TpMsg.body (m : TpMsg) : List Byte := m.frame.bytes.drop 14
def TpMsg.type (m : TpMsg) : Nat := beAt m.body 0 1 % 16
def TpMsg.domain (m : TpMsg) : Nat := beAt m.body 4 1
def TpMsg.twoStep (m : TpMsg) : Bool := bit (beAt m.body 6 1) 1
def TpMsg.corr (m : TpMsg) : Int := signed 64 (beAt m.body 8 8)
def TpMsg.source (m : TpMsg) : List Byte := slice m.body 20 10
def TpMsg.seq (m : TpMsg) : Nat := beAt m.body 30 2
/-- The timestamp of the message in 2^-32 ns. -/
def TpMsg.time (m : TpMsg) : Nat := beAt m.body 34 6 * tvSec + beAt m.body 40 4 * 4294967296
/-- The Follow_Up information: cumulativeScaledRateOffset, and what stands after it. -/
def TpMsg.csro (m : TpMsg) : Int := signed 32 (beAt m.body 54 4)
def TpMsg.info (m : TpMsg) : List Byte := slice m.body 58 18
/-- The receive stamp in time base `t`. -/
def TpMsg.stamp (m : TpMsg) (t : Nat) : Nat := m.stamps.getD t 0

/-- The ten bytes of a timestamp, in whole ns. -/
def tsBytes (v : Nat) : List Byte := beBytes 6 (tvNs v / 1000000000) ++ beBytes 4 (tvNs v % 1000000000)
/-- The part of a value below 1 ns, in 2^-16 ns. -/
def tsFrac (v : Nat) : Int := ((v % 4294967296 / 65536 : Nat) : Int)

/-- sourcePortIdentity of port `n` (R266). -/
def State.portId (s : State) (n : Nat) : List Byte :=
  beBytes 4 (s.rd R.TP_CLKID_HI).toNat ++ beBytes 4 (s.rd R.TP_CLKID_LO).toNat ++ beBytes 2 (n + 1)

/-- The header of a generated message. -/
def State.gpHeader (s : State) (n type len domain flags : Nat) (corr : Int) (seq ctl log : Nat) : List Byte :=
  [B8 (16 + type), 2] ++ beBytes 2 len ++ [B8 domain, 0] ++ beBytes 2 flags ++ beBytes 8 (unsigned 64 corr) ++
    List.replicate 4 0 ++ s.portId n ++ beBytes 2 seq ++ [B8 ctl, B8 log]

/-- A frame that carries a message of port `n`. -/
def State.gpFrame (s : State) (n : Nat) (body : List Byte) : List Byte :=
  pad60 ([0x01, 0x80, 0xC2, 0x00, 0x00, 0x0E] ++ s.macSa n ++ [0x88, 0xF7] ++ body)

/-- No class 6 frame may start at port `n` (R99): a message generated for it waits. -/
def State.tpHolds (s : State) (n : Nat) : Bool := s.paused n 6
/-- A message waits to be sent at port `n`. -/
def State.tpWait (s : State) (n : Nat) (x : TpOut) : State := { s with tpOut := s.tpOut ++ [(n, x)] }

/-- Sends an event message, and a general message (R266). -/
def State.sendEvent (s : State) (n : Nat) (body : List Byte) : State := s.modPort n (fun q => { q with event := s.gpFrame n body })
def State.sendGeneral (s : State) (n : Nat) (body : List Byte) : State := s.modPort n (fun q => { q with sent := s.gpFrame n body })

/-- The transmit stamp of port `n` in time base `t` (R103, R266). -/
def State.txStamp (s : State) (n t : Nat) : Nat := tvAdd (s.tbVal t) ((s.g (R.MAC_TS_LAT.TX_LAT n) * 268435456 : Nat) : Int)

/-- The time base of the link-delay service of port `n` (R266). -/
def State.pdTb (s : State) (n : Nat) : Nat := s.g (R.MAC_TS_CFG.TB n)

/-- A quotient in whole units; the spec does not say which way a fraction goes (log 34). -/
def State.quot (s : State) (n d : Int) : State × Int :=
  if n % d = 0 then (s, n / d) else (s.used, n / d + (if s.freeBool then 1 else 0))

/-- The unsigned 32-bit field that shows a number, and the signed one; the spec does not say what a field shows of a
number it cannot hold (log 37). -/
def State.showU (s : State) (a : Nat) (v : Int) : State :=
  if 0 ≤ v ∧ v < 4294967296 then s.wr a (W v.toNat) else (s.wr a (W s.freeNat)).used
def State.showS (s : State) (a : Nat) (v : Int) : State :=
  if -2147483648 ≤ v ∧ v < 2147483648 then s.wr a (W (unsigned 32 v)) else (s.wr a (W s.freeNat)).used

/-! ### Taking messages (R265) -/

/-- The enabled domain with a domainNumber. -/
def State.domNamed (s : State) (x : Nat) : Option Nat := (List.range 4).find? (fun d => (s.dom d).en && (s.dom d).number == x)

/-- Whether the message is of the link-delay service, or a Sync or Follow_Up of an enabled domain. -/
def TpMsg.isPd (m : TpMsg) : Bool := m.type == gpPdReq || m.type == gpPdResp || m.type == gpPdFollow
def State.isRelay (s : State) (m : TpMsg) : Bool := (m.type == gpSync || m.type == gpFollow) && (s.domNamed m.domain).isSome

/-- Takes the oldest message that `p` selects. -/
def State.tpTake (s : State) (p : TpMsg → Bool) : Option (TpMsg × State) :=
  (s.tpIn.find? p).map (fun m => (m, { s with tpIn := s.tpIn.erase m }))

/-- Another message (R265): to TP_GLB.Q in class 6 with COPY, else discarded. -/
def State.tpOther (s : State) : State :=
  match s.tpTake (fun m => !m.isPd && !s.isRelay m) with
  | none => s
  | some (m, s1) =>
    if s1.on R.TP_GLB.COPY then
      let q := s1.g R.TP_GLB.Q
      let e := ethEntry 0 m.port 6 1 0 m.frame.stampTb m.frame.stamp (m.frame.bytes ++ fcsOf m.frame.bytes)
      let s2 := if !s1.qIsIn q && s1.offer q e.length == .noRoom then s1.bump R.TP_Q_DROP_LO else s1
      s2.qFrame q e
    else s1

/-! ### Link delay (R267) -/

/-- AS_CAPABLE of port `n`: a change sets TP_ASCAP (R267). -/
def State.asEval (s : State) (n : Nat) : State :=
  let q := s.pd n
  let lost := s.g (R.TP_PORT_STS.LOST n)
  let now := q.known && (lost == 0 || decide (lost < s.g (R.TP_PORT_CFG.LOST_MAX n))) &&
    decide (q.mld ≤ ((s.g (R.TP_PORT_CFG.THRESH_NS n) * 256 : Nat) : Int))
  if s.on (R.TP_PORT_STS.AS_CAPABLE n) == now then s else (s.pb (R.TP_PORT_STS.AS_CAPABLE n) now).ev R.TIME_EVT.TP_ASCAP

/-- AS_CAPABLE of a port. -/
def State.asCapable (s : State) (n : Nat) : Bool := s.on (R.TP_PORT_STS.AS_CAPABLE n)

/-- The previous request is judged: without one valid response it is lost (R267). -/
def State.pdJudge (s : State) (n : Nat) : State :=
  let q := s.pd n
  if q.pending && !(q.valid && !q.dup) then ((s.bump (R.TP_PD_LOST_LO n)).sat (R.TP_PORT_STS.LOST n)).asEval n else s

/-- A Pdelay_Req leaves: t1 is its transmit stamp (R267). -/
def State.sendPdReq (s : State) (n : Nat) (body : List Byte) : State :=
  (s.modPd n (fun q => { q with t1 := s.txStamp n (s.pdTb n) })).sendEvent n body

/-- The Pdelay_Req interval ends (R267): the previous request is judged, and the next one sent. -/
def State.pdTimer (s : State) (n : Nat) : State :=
  if !s.on (R.TP_PORT_CFG.PD_EN n) || !s.portUp n then s
  else
    let s1 := s.pdJudge n
    let seq := ((s.pd n).seq + 1) % 65536
    let body := s1.gpHeader n gpPdReq 54 0 0x0008 0 seq 5 (unsigned 8 (signed 4 (s.g (R.TP_PORT_CFG.PD_LOG n)))) ++ List.replicate 20 0
    let s2 := s1.modPd n (fun q => { q with seq := seq, pending := true, parts := 0, dup := false, valid := false })
    if s.tpHolds n then s2.tpWait n (.pdReq body) else s2.sendPdReq n body

/-- Both parts of the answer to a Pdelay_Req leave (R267): `t2` is its receive stamp. -/
def State.sendPdResp (s : State) (n domain seq t2 : Nat) (source : List Byte) : State :=
  let t3 := s.txStamp n (s.pdTb n)
  (s.sendEvent n (s.gpHeader n gpPdResp 54 domain 0x0208 (tsFrac t2) seq 5 0x7F ++ tsBytes t2 ++ source)).sendGeneral n
    (s.gpHeader n gpPdFollow 54 domain 0x0008 (tsFrac t3) seq 5 0x7F ++ tsBytes t3 ++ source)

/-- A received Pdelay_Req is answered in two steps (R267). -/
def State.pdAnswer (s : State) : State :=
  match s.tpTake (fun m => m.type == gpPdReq) with
  | none => s
  | some (m, s1) =>
    let n := m.port
    if !s1.on (R.TP_PORT_CFG.PD_EN n) || !s1.portUp n then s1
    else
      let t2 := m.stamp (s1.pdTb n)
      if s1.tpHolds n then s1.tpWait n (.pdResp m.domain m.seq t2 m.source) else s1.sendPdResp n m.domain m.seq t2 m.source

/-- Both parts of a response have come (R267): neighbourRateRatio from successive valid responses, meanLinkDelay, and
AS_CAPABLE. `t3` is the responder's transmit stamp. -/
def State.pdValid (s : State) (n t3 : Nat) : State :=
  let q := s.pd n
  let (s1, nrr) := match q.prev with
    | some (p3, p4) =>
      let d4 := tvDiff q.t4 p4
      if 0 < d4 then s.quot ((tvDiff t3 p3 - d4) * 2199023255552) d4 else (s, q.nrr)
    | none => (s, q.nrr)
  let (s2, mld) := s1.quot (tvDiff q.t4 q.t1 * (2199023255552 + nrr) - tvDiff t3 q.t2 * 2199023255552) (2199023255552 * 2 * 16777216)
  let s3 := s2.modPd n (fun x => { x with valid := true, known := true, prev := some (t3, q.t4), nrr := nrr, mld := mld })
  (((s3.showU (R.TP_PORT_DLY n) mld).showS (R.TP_PORT_NRR n) nrr).p (R.TP_PORT_STS.LOST n) 0).asEval n

/-- A part of a response arrives (R267): one that is not of the request in hand counts for nothing; a part that comes
again makes the request one with more than one response. -/
def State.pdPart (s : State) : State :=
  match s.tpTake (fun m => m.type == gpPdResp || m.type == gpPdFollow) with
  | none => s
  | some (m, s1) =>
    let n := m.port
    let q := s1.pd n
    let k := if m.type = gpPdResp then 0 else 1
    if !s1.on (R.TP_PORT_CFG.PD_EN n) || !q.pending || m.seq != q.seq then s1
    else if bit q.parts k then s1.modPd n (fun x => { x with dup := true })
    else
      let at' := tvAdd m.time (m.corr * 65536)
      let s2 := s1.modPd n (fun x => if k = 0 then { x with parts := setBit x.parts 0 true, t4 := m.stamp (s1.pdTb n), t2 := at' }
        else { x with parts := setBit x.parts 1 true, corr := (at' : Int) })
      let q2 := s2.pd n
      if q2.parts = 3 ∧ !q2.dup then s2.pdValid n q2.corr.toNat else s2

/-- A write of TP_PORT_CFG (R265, R267): AS_CAPABLE follows its limits. -/
def State.tpPortCfgWrite (s : State) (req n : Nat) (val : Word) : State :=
  let a := R.TP_PORT_CFG n
  (((s.store a val).enDo a 31 (s.enAct req a 31 val) (fun t => t) (fun t => t))).asEval n

/-! ### Sync (R268-R271) -/

/-- A Sync, or a copy of one, or a Follow_Up, is discarded or not sent. -/
def State.syncDrop (s : State) (d : Nat) : State := (s.bump (R.TP_SYNC_DROP_LO d)).ev R.TIME_EVT.TP_SYNC_DROP

/-- The ports a Sync of domain `d` leaves by (R269). -/
def State.masterPorts (s : State) (d : Nat) : List Nat :=
  let q := s.dom d
  (bitsOf 24 q.masters).filter (fun n => n != q.slave && s.portUp n && s.asCapable n)

/-- The Follow_Up information of a message sent. -/
def gpInfo (csro : Nat) (rest : List Byte) : List Byte :=
  [0, 3, 0, 28, 0, 0x80, 0xC2, 0, 0, 1] ++ beBytes 4 csro ++ slice rest 0 18

/-- Sends one Sync of domain `d` at port `n` (R269), one-step or with its Follow_Up; that of a grandmaster leaves with the next tick
(R271; log 35). -/
def State.sendSync (s : State) (d n seq origin : Nat) (corr : Int) (csro : Nat) (rest : List Byte) : State :=
  let q := s.dom d
  let log := unsigned 8 (signed 4 q.log)
  let s1 :=
    if q.oneStep then
      s.sendEvent n (s.gpHeader n gpSync 76 q.number 0x0008 corr seq 0 log ++ tsBytes origin ++ gpInfo csro rest)
    else
      let t := s.sendEvent n (s.gpHeader n gpSync 44 q.number 0x0208 0 seq 0 log ++ List.replicate 10 0)
      let f := s.gpHeader n gpFollow 76 q.number 0x0008 corr seq 2 log ++ tsBytes origin ++ gpInfo csro rest
      if q.slave = 31 then t.tpWait n (.follow d f) else t.sendGeneral n f
  let newer := decide ((seq + 65536 - s.g (R.TP_DOM_STS.SEQ d)) % 65536 < 32768)
  (if newer then s1.p (R.TP_DOM_STS.SEQ d) seq else s1).bump (R.TP_TX_SYNC_LO d)

/-- A relayed copy of an accepted Sync leaves at port `n` (R269), unless the domain's time base has stepped since its receive stamp
(R271): `mldGm` is the upstream link delay scaled, in 2^-32 ns x 2^41. -/
def State.sendRelay (s : State) (d n seq : Nat) (r : SyncRec) (origin : Nat) (corr mldGm csro : Int) (shown : Nat) (rest : List Byte) : State :=
  let t := (s.dom d).tb
  if bit r.stepped t then s.syncDrop d
  else
    let res := tvDiff (s.txStamp n t) (r.stamps.getD t 0)
    let a := s.quot (mldGm + res * (2199023255552 + csro)) (2199023255552 * 65536)
    a.1.sendSync d n seq origin (corr + a.2) shown rest

/-- A Sync of the grandmaster leaves at port `n`, with its transmit stamp (R269). -/
def State.sendGm (s : State) (d n seq : Nat) : State :=
  let v := s.txStamp n (s.dom d).tb
  s.sendSync d n seq v (tsFrac v) 0 []

/-- The relay of an accepted Sync (R269): a copy waits at a port where no class 6 frame may start. -/
def State.relay (s : State) (d : Nat) (r : SyncRec) (origin : Nat) (corr mldGm csro : Int) (rest : List Byte) : State :=
  let seq := (s.g (R.TP_DOM_STS.SEQ d) + 1) % 65536
  let shown := (s.rd (R.TP_DOM_RR d)).toNat
  s.each (s.masterPorts d) (fun n u =>
    if u.tpHolds n then u.tpWait n (.relay d seq r origin corr mldGm csro shown rest) else u.sendRelay d n seq r origin corr mldGm csro shown rest)

/-- The servos that follow domain `d`. -/
def State.domServos (s : State) (d : Nat) : List Nat :=
  (List.range 4).filter (fun t => s.srv t != srvOff && (s.tb t).src == 0 && (s.tb t).idx == d)

/-- A Sync is accepted (R268): grandmaster time at its receive stamp, TP_DOM_RR, servos, and the relay. -/
def State.syncAccept (s : State) (d : Nat) (r : SyncRec) (origin : Nat) (corr csro : Int) (rest : List Byte) : State :=
  let pd := s.pd (s.dom d).slave
  let mldGm := pd.mld * 16777216 * (2199023255552 + csro)
  let (s1, ml) := s.quot mldGm 2199023255552
  let gm := tvAdd origin (corr * 65536 + ml)
  let now := csro + pd.nrr
  let s2 := ((((s1.showS (R.TP_DOM_RR d) now).p (R.TP_DOM_STS.SYNC_OK d) 1).bump (R.TP_RX_SYNC_LO d)).modDom d
    (fun q => { q with timing := true, await := some r }))
  let s3 := s2.each (s2.domServos d) (fun t u => let e := u.wholeNs (tvDiff (r.stamps.getD t 0) gm); e.1.srvUpdate t e.2)
  let r3 := (s3.dom d).await.getD r
  (s3.modDom d (fun q => { q with await := none })).relay d r3 origin corr mldGm now rest

/-- A Sync awaiting its Follow_Up is given up (R268). -/
def State.syncGiveUp (s : State) (d : Nat) : State :=
  if (s.dom d).await.isSome then (s.modDom d (fun q => { q with await := none })).syncDrop d else s

/-- A Sync of an enabled domain (R268). -/
def State.syncIn (s : State) : State :=
  match s.tpTake (fun m => m.type == gpSync && (s.domNamed m.domain).isSome) with
  | none => s
  | some (m, s1) =>
    match s1.domNamed m.domain with
    | none => s1
    | some d =>
      if m.port ≠ (s1.dom d).slave ∨ !s1.asCapable m.port then s1.syncDrop d
      else
        let r : SyncRec := { seq := m.seq, stamps := m.stamps, corr := m.corr, stepped := m.stepped }
        let s2 := s1.syncGiveUp d
        if m.twoStep then s2.modDom d (fun q => { q with await := some r })
        else s2.syncAccept d r m.time m.corr m.csro m.info

/-- A Follow_Up of an enabled domain (R268): of the Sync it belongs to, else discarded. -/
def State.followIn (s : State) : State :=
  match s.tpTake (fun m => m.type == gpFollow && (s.domNamed m.domain).isSome) with
  | none => s
  | some (m, s1) =>
    match s1.domNamed m.domain with
    | none => s1
    | some d =>
      match (s1.dom d).await with
      | none => s1.syncDrop d
      | some r =>
        if m.port ≠ (s1.dom d).slave ∨ m.seq ≠ r.seq then s1.syncDrop d
        else (s1.modDom d (fun q => { q with await := none })).syncAccept d r m.time (r.corr + m.corr) m.csro m.info

/-- No Sync has been accepted for three intervals (R271). -/
def State.syncTimeout (s : State) (d : Nat) : State :=
  let q := s.dom d
  if q.en && q.slave != 31 && q.timing then
    (((s.modDom d (fun x => { x with timing := false })).p (R.TP_DOM_STS.SYNC_OK d) 0).bump (R.TP_SYNC_TMO_LO d)).ev R.TIME_EVT.TP_SYNC_TMO
  else s

/-- The grandmaster sends (R269): Sync and Follow_Up carry the transmit stamp of the domain's time base. -/
def State.gmSync (s : State) (d : Nat) : State :=
  let q := s.dom d
  if q.en && q.slave == 31 then
    let seq := (s.g (R.TP_DOM_STS.SEQ d) + 1) % 65536
    s.each (s.masterPorts d) (fun n u => if u.tpHolds n then u.tpWait n (.gm d seq) else u.sendGm d n seq)
  else s

/-- A message that has waited leaves at port `n`; one of a domain that has been disabled since is forgotten. -/
def State.tpSend (s : State) (n : Nat) (x : TpOut) : State :=
  match x with
  | .pdReq b => s.sendPdReq n b
  | .pdResp dm q t2 src => s.sendPdResp n dm q t2 src
  | .relay d q r o c m k h l => if (s.dom d).en then s.sendRelay d n q r o c m k h l else s
  | .gm d q => if (s.dom d).en then s.sendGm d n q else s
  | .follow d b => if (s.dom d).en then s.sendGeneral n b else s

/-- The messages that wait leave where class 6 is no longer paused, in their order; those of a port that is not UP are gone (R82,
R99, R269). -/
def State.tpFlush (s : State) : State :=
  let l := s.tpOut.filter (fun x => s.portUp x.1)
  let r := l.partition (fun x => s.tpHolds x.1)
  { s with tpOut := r.1 }.each r.2 (fun x t => t.tpSend x.1 x.2)

/-- EN goes from 0 to 1 (R271). -/
def State.domEnable (s : State) (d : Nat) : State :=
  let slave := s.g (R.TP_DOM_CFG.SLAVE d)
  let log := signed 4 (s.g (R.TP_DOM_CFG.SYNC_LOG d))
  let number := s.g (R.TP_DOM_CFG.DOMAIN d)
  if (24 ≤ slave ∧ slave ≤ 30) ∨ log < -5 ∨ 0 < log ∨ (s.domNamed number).isSome then
    (s.p (R.TP_DOM_STS.CFG_ERR d) 1).ev R.TIME_EVT.TP_CFG_ERR
  else
    s.modDom d (fun _ => { en := true, oneStep := s.on (R.TP_DOM_CFG.ONE_STEP d), tb := s.g (R.TP_DOM_CFG.TB d), slave := slave,
                           number := number, log := s.g (R.TP_DOM_CFG.SYNC_LOG d), masters := s.g (R.TP_DOM_MASTER.MASK d),
                           timing := slave != 31 })

/-- EN is cleared: the domain stops (R271). -/
def State.domDisable (s : State) (d : Nat) : State :=
  ((s.modDom d (fun _ => {})).p (R.TP_DOM_STS.CFG_ERR d) 0).p (R.TP_DOM_STS.SYNC_OK d) 0

/-- A write of TP_DOM_CFG by requester `req` (R271, R508). -/
def State.domCfgWrite (s : State) (req d : Nat) (val : Word) : State :=
  let a := R.TP_DOM_CFG d
  (s.store a val).enDo a 31 (s.enAct req a 31 val) (fun t => t.domEnable d) (fun t => t.domDisable d)

/-! ### The idle tick (R155, R257, R269) -/

/-- A frame of class `c` is on the wire at output `o`. -/
def State.onWire (s : State) (o c : Nat) : Bool :=
  decide (o < 24) && (match (s.port o).txCut with | some id => (s.fr id).f.cls == c | none => false)
/-- A frame of class `c` is preempted at output `o`. -/
def State.preempted (s : State) (o c : Nat) : Bool :=
  decide (o < 24) && (match (s.port o).txHeld with | some id => (s.fr id).f.cls == c | none => false)

/-- The credit of a shaped class rises while a frame of it waits and none is on the wire, and while one is preempted (R155): 16 x
IDLE in 10^-6 bits a tick. Its fall is taken at the frame's end. -/
def State.creditRise (s : State) (o c : Nat) : State :=
  if s.onWire o c then s
  else if s.cbsEn o c && (s.waits o c || s.preempted o c) then s.setCredit o c (s.credit o c + (16 * s.cbsIdle o c : Nat))
  else s.creditZero o c

/-- The outputs whose credits can change: those that have had a frame, or have one now. -/
def State.creditOuts (s : State) : List Nat :=
  (List.range 28).filter (fun o => s.sw.sched.any (fun q => q.1 == o) || s.sw.frames.any (fun p => p.2.copies.any (fun c => c.out == o)))

/-- One 2 ns tick of the idle block (log 1): the time bases count, shaped classes gain credit, gPTP messages that wait leave, and
the keep-alive island counts seconds. -/
def State.idle (s : State) : State :=
  let s0 := { s with tick := s.tick + 1 }
  let s1 := if s0.tick % 500000000 = 0 then s0.inc R.KEY_KA_TIME.SEC else s0
  let s2 := s1.each (List.range 4) (fun t u => u.tbTick t)
  (s2.each s2.creditOuts (fun o u => (u.creditRise o 5).creditRise o 4)).tpFlush

/-! ### Meanings -/

/-- PDELAY_REQ_TIMER (R267). -/
def execPdelayReqTimer (n : Nat) (s : State) : Host.Outcome State Fault Refusal := done s (s.pdTimer (n % 24))

/-- PDELAY_REQ_RECEIVED (R267). -/
def execPdelayReqReceived (s : State) : Host.Outcome State Fault Refusal := done s s.pdAnswer

/-- PDELAY_RESP_RECEIVED (R267). -/
def execPdelayRespReceived (s : State) : Host.Outcome State Fault Refusal := done s s.pdPart

/-- SYNC_RECEIVED (R268, R269). -/
def execSyncReceived (s : State) : Host.Outcome State Fault Refusal := done s s.syncIn

/-- FOLLOW_UP_RECEIVED (R268). -/
def execFollowUpReceived (s : State) : Host.Outcome State Fault Refusal := done s s.followIn

/-- FOLLOW_UP_TIMEOUT (R268). -/
def execFollowUpTimeout (d : Nat) (s : State) : Host.Outcome State Fault Refusal := done s (s.syncGiveUp (d % 4))

/-- GPTP_OTHER_MESSAGE (R265). -/
def execGptpOtherMessage (s : State) : Host.Outcome State Fault Refusal := done s s.tpOther

/-- SYNC_TMO (R271). -/
def execSyncTmo (d : Nat) (s : State) : Host.Outcome State Fault Refusal := done s (s.syncTimeout (d % 4))

/-- GRANDMASTER_SYNC (R269). -/
def execGrandmasterSync (d : Nat) (s : State) : Host.Outcome State Fault Refusal := done s (s.gmSync (d % 4))

/-- TP_DOM_ENABLE (R271): a write of TP_DOM_CFG[d] with EN set. -/
def execTpDomEnable (req d : Nat) (val : Word) (s : State) : Host.Outcome State Fault Refusal :=
  done s (s.byPort req (R.TP_DOM_CFG (d % 4)) (val ||| 0x80000000) false (fun u => u.domCfgWrite req (d % 4) (val ||| 0x80000000)))

end Sys2Proof.Machine
end

