-- ==== Sys2Proof/Machine/Load.lean ====
section
/-! DEFINITION. Protected load channels: modes and pulses, starts and the module budget, protective turn-off, retries,
undervoltage, SAFE_OFF, current measurement (13, R337-R358). -/

namespace Sys2Proof.Machine

/-- States of PWR_LD_STS.STATE (R349). -/
abbrev ldOff : Nat := 0
abbrev ldWait : Nat := 1
abbrev ldInrush : Nat := 2
abbrev ldOn : Nat := 3
abbrev ldTrip : Nat := 4
abbrev ldTherm : Nat := 5
abbrev ldFault : Nat := 6
abbrev ldLock : Nat := 7
abbrev ldUv : Nat := 8

/-- Codes of PWR_LD_STS.CAUSE. -/
abbrev causeCommand : Nat := 1
abbrev causeShort : Nat := 2
abbrev causeOvercur : Nat := 3
abbrev causeThermal : Nat := 4
abbrev causeClamp : Nat := 5
abbrev causeUv : Nat := 6
abbrev causeSafe : Nat := 7
abbrev causeBudget : Nat := 8

/-- The state of channel `n` beyond its registers. -/
def State.ld (s : State) (n : Nat) : Load := s.loads.ch.get (fun _ => {}) n

/-- Changes the state of channel `n`. -/
def State.modLd (s : State) (n : Nat) (f : Load → Load) : State :=
  { s with loads := { s.loads with ch := s.loads.ch.set (fun _ => {}) n (f (s.ld n)) } }

/-- STATE of channel `n`. -/
def State.ldState (s : State) (n : Nat) : Nat := s.g (R.PWR_LD_STS.STATE n)
def State.setLdState (s : State) (n st : Nat) : State := s.p (R.PWR_LD_STS.STATE n) st

/-- The channel is in INRUSH or ON (R349). -/
def State.ldActive (s : State) (n : Nat) : Bool := s.ldState n == ldInrush || s.ldState n == ldOn

/-- The output of channel `n` is on. -/
def State.ldOut (s : State) (n : Nat) : Bool := s.on (R.PWR_LD_STS.OUT n)

/-- PWR_LD_CTL.MODE. -/
def State.ldMode (s : State) (n : Nat) : Nat := s.g (R.PWR_LD_CTL.MODE n)

/-- An event of channel `n`, which also sets its bit of PWR_LD_PEND (R357). -/
def State.ldEv (s : State) (n : Nat) (l : Loc) : State :=
  (s.ev l).wr R.PWR_LD_PEND (W (setBit (s.rd R.PWR_LD_PEND).toNat n true))

/-- A guarantee of rank 7 gives way; while the Tenon link is lost the count waits for it (R27, R354). -/
def State.ldYield (s : State) : State :=
  if s.tenon.up then s.yield 7 else { s with tenon := { s.tenon with heldYield := s.tenon.heldYield + 1 } }

/-! ### Limits -/

/-- INRUSH_MS, at most 30 on heavy and 10 on light channels (R337). -/
def State.inrushMs (s : State) (n : Nat) : Nat := min (s.g (R.PWR_LD_PROT.INRUSH_MS n)) (if n < 8 then 30 else 10)

/-- EMAX in pJ, at most 60 mJ on heavy and 15 mJ on light channels (R337). -/
def State.emaxPj (s : State) (n : Nat) : Nat := min (s.g (R.PWR_LD_CLMP.EMAX n)) (if n < 8 then 120 else 30) * 500000000

/-- The budget in force, at most 40 A (R337). -/
def State.ldLimit (s : State) : Nat := min (s.g R.PWR_LD_BUDGET.LIMIT) 400

/-- The sum of the granted claims (R342). -/
def State.ldUsed (s : State) : Nat := (List.range 24).foldl (fun a n => a + (s.ld n).claim) 0

/-- What the channel claims: CLAIM, or in the inrush window ICLAIM, which below CLAIM acts as CLAIM (R342). -/
def State.claimOf (s : State) (n : Nat) (inrush : Bool) : Nat :=
  let c := s.g (R.PWR_LD_BUD.CLAIM n)
  if inrush then max c (s.g (R.PWR_LD_BUD.ICLAIM n)) else c

/-- A request fits: it is 0, or the remaining budget holds it (R342). -/
def State.fits (s : State) (amt : Nat) : Bool := amt == 0 || decide (s.ldUsed + amt ≤ s.ldLimit)

/-- The channel of group `g` in its inrush window, if any (R341). -/
def State.windowOf (s : State) (g : Nat) : Option Nat := ((List.range 4).map (fun k => 4 * g + k)).find? (fun n => s.ldState n == ldInrush)

/-- Channels in grant order: PRIO highest first, then lowest index (R342). -/
def State.grantOrder (s : State) (l : List Nat) : List Nat :=
  ((List.range 8).reverse).flatMap (fun p => (List.range 24).filter (fun n => l.contains n && s.g (R.PWR_LD_BUD.PRIO n) == p))

/-- The clamp bucket of channel `n` now, in pJ: it drains at DRAIN mW (R346). -/
def State.clampNow (s : State) (n : Nat) : Nat :=
  let q := s.ld n
  q.bucket - s.g (R.PWR_LD_CLMP.DRAIN n) * 2 * (s.tick - q.since)

/-- Brings the bucket's record up to date. -/
def State.bucketSettle (s : State) (n : Nat) : State := let b := s.clampNow n; s.modLd n (fun (q : Load) => { q with bucket := b, since := s.tick })

/-- The device runs in the degraded configuration (R75). -/
def State.inDegraded (s : State) : Bool := s.g R.CFG_STS.STATE == 7

/-- Channel `n` is held (R354). -/
def State.ldHeld (s : State) (n : Nat) : Bool :=
  s.tenon.lostState || s.beforeRun || (s.inDegraded && (s.ld n).degr) || ((s.ld n).owned && s.unavailable (s.g (R.PWR_LD_STS.OWNER n)))

/-! ### Output on and off -/

/-- The output goes on with the claim granted; a retry's turn-on advances RTY_CNT (R341, R342, R348). -/
def State.ldTurnOn (s : State) (n amt : Nat) : State :=
  let r := (s.ld n).retrying
  let s1 := (s.p (R.PWR_LD_STS.OUT n) 1).modLd n (fun (q : Load) => { q with claim := amt, retrying := false })
  if r then (s1.sat (R.PWR_LD_STS.RTY_CNT n)).bump (R.PWR_LD_RETRY_LO n) else s1

/-- The output goes off and holds no claim (R342). -/
def State.ldTurnOff (s : State) (n : Nat) : State :=
  (s.p (R.PWR_LD_STS.OUT n) 0).modLd n (fun (q : Load) => { q with claim := 0, pulse := 0 })

/-- The channel leaves its activity for state `st`: output off, no window, no period, CAUSE written. -/
def State.ldLeave (s : State) (n st cause : Nat) : State :=
  (((s.ldTurnOff n).modLd n (fun (q : Load) => { q with period := false, retrying := false })).setLdState n st).p (R.PWR_LD_STS.CAUSE n) cause

/-- A protective turn-off or refusal of a held channel (R354); `y` where GLB_YIELD counts it here. -/
def State.ldHoldOff (s : State) (n : Nat) (y : Bool) : State :=
  if s.ldHeld n then ((s.bump (R.PWR_LD_HOLD_OFF_LO n)).ldEv n R.PWR_LD_EVT.HOLD_OFF).when y State.ldYield else s

/-- The channel enters FAULT (R348). -/
def State.ldToFault (s : State) (n : Nat) : State :=
  ((s.setLdState n ldFault).bump (R.PWR_LD_FAULT_LO n)).ldEv n R.PWR_LD_EVT.FAULT

/-- The retry counter lets the channel try again (R348). -/
def State.ldMayRetry (s : State) (n : Nat) : Bool := decide (s.g (R.PWR_LD_STS.RTY_CNT n) < s.g (R.PWR_LD_RTY.RTY_MAX n))

/-- TRIP, or FAULT once the retries are used up, after a short or over-current (R348). -/
def State.ldTripOrFault (s : State) (n cause : Nat) : State :=
  let s1 := s.ldLeave n ldTrip cause
  if s.ldMayRetry n then s1 else s1.ldToFault n

/-! ### Starts (R341, R349, R352) -/

/-- A start of kind `k` falls due: it waits, or the thermal latch defers it (R349). -/
def State.ldStart (s : State) (n : Nat) (k : StartKind) : State :=
  (s.modLd n (fun (q : Load) => { q with kind := k })).setLdState n (if s.on (R.PWR_LD_STS.TLATCH n) then ldTherm else ldWait)

/-- The budget refuses the start of channel `n` (R341, R354). -/
def State.ldRefuse (s : State) (n : Nat) : State :=
  let s1 := ((s.bump (R.PWR_LD_BUD_REFUSE_LO n)).ldEv n R.PWR_LD_EVT.BUD_REFUSE).ldYield
  match (s.ld n).kind with
  | .retry | .thermal => (s1.setLdState n ldTrip).ldHoldOff n false
  | _ => ((s1.p (R.PWR_LD_CTL.MODE n) 0).setLdState n ldOff).p (R.PWR_LD_STS.CAUSE n) causeBudget

/-- The start of channel `n` is granted: INRUSH, or ON with no window; the output goes on in mode ON, and at the pulses
in the pulse modes (R341, R349). -/
def State.ldGrant (s : State) (n : Nat) : State :=
  let win := s.inrushMs n != 0
  let k := (s.ld n).kind
  let s1 := (s.setLdState n (if win then ldInrush else ldOn)).modLd n
    (fun (q : Load) => { q with retrying := k == .retry || k == .thermal, period := false, duty := 0, pulse := 0 })
  if s.ldMode n = 1 then s1.ldTurnOn n (s.claimOf n win) else s1

/-- SAFE_OFF is high and channel `n` obeys it (R353). -/
def State.ldSafe (s : State) (n : Nat) : Bool := s.on R.PWR_SO.PIN && bit (s.g R.PWR_SO.MASK) n

/-- The first waiting channel, in grant order, whose group has no window open asks the budget (R341, R342); none that
SAFE_OFF holds off (R353). -/
def State.ldAsk (s : State) : State :=
  match s.grantOrder ((List.range 24).filter (fun n => s.ldState n == ldWait && (s.windowOf (n / 4)).isNone && !s.ldSafe n)) with
  | [] => s
  | n :: _ => if s.fits (s.claimOf n (s.inrushMs n != 0)) then s.ldGrant n else s.ldRefuse n

/-- A turn-on within a start already made asks for its claim; one that does not fit is skipped and counted (R342). -/
def State.ldPulseOn (s : State) (n : Nat) : State :=
  let amt := s.claimOf n (s.ldState n == ldInrush)
  if s.fits amt then (s.ldTurnOn n amt).modLd n (fun (q : Load) => { q with pulse := q.duty })
  else ((s.bump (R.PWR_LD_BUD_REFUSE_LO n)).ldEv n R.PWR_LD_EVT.BUD_REFUSE).ldYield

/-- A queued start is made: the first whose channel still waits for it (R352). -/
def State.stagNext : List Nat → State → State
  | [], s => s
  | n :: t, s =>
    let s1 := { s with loads := { s.loads with stag := t } }
    if s1.ldMode n != 0 && (s1.ldState n == ldUv || s1.ldState n == ldOff) && !s1.ldSafe n then
      s1.ldStart n (if s1.ldState n = ldUv then .undervoltage else .commit)
    else State.stagNext t s1

/-! ### Writes of PWR_LD_CTL (R339, R346, R349, R353, R356) -/

/-- MODE OFF is written (R348, R349, R351); in LOCK the write is only stored (R346). -/
def State.ldCmdOff (s : State) (n : Nat) : State :=
  let s1 := ((s.p (R.PWR_LD_CTL.MODE n) 0).p (R.PWR_LD_STS.RTY_CNT n) 0).p (R.PWR_LD_STS.OPEN n) 0
  if s.ldState n = ldOff ∨ s.ldState n = ldLock then s1 else s1.ldLeave n ldOff causeCommand

/-- MODE changes while the channel is in INRUSH or ON (R339): state, window and claim stay; ON needs the output on. -/
def State.ldModeChange (s : State) (n old : Nat) : State :=
  let m := s.ldMode n
  if m = old then s
  else if m = 1 then
    let s1 := s.modLd n (fun (q : Load) => { q with period := false, pulse := 0, duty := 0 })
    if s.ldOut n then s1 else s1.ldPulseOn n
  else s

/-- A write of PWR_LD_CTL acts (R339, R349, R353, R354). -/
def State.ldCtlAct (s : State) (req n : Nat) (val : Word) : State :=
  let old := s.ldMode n
  let new := fieldOf val 30 2
  if new != 0 && old == 0 && s.ldState n == ldOff && s.ldSafe n then s.bump (R.PWR_LD_SO_REFUSE_LO n)
  else
    let s1 := ((s.store (R.PWR_LD_CTL n) val).p (R.PWR_LD_STS.OWNER n) req).modLd n
      (fun (q : Load) => { q with owned := true, degr := false })
    if new = 0 then s1.ldCmdOff n
    else if s.ldState n = ldOff ∧ old = 0 then s1.ldStart n .command
    else if s.ldActive n then s1.ldModeChange n old
    else s1

/-- A write of PWR_LD_CTL by requester `req`: the loader's is staged until commit (R356). -/
def State.ldCtlWrite (s : State) (req n : Nat) (val : Word) : State :=
  if req = reqCfg ∧ s.beforeRun then s.modLd n (fun (q : Load) => { q with staged := some val }) else s.ldCtlAct req n val

/-- A write of PWR_LD_CLMP: the drain until now is at the old rate (R346). -/
def State.ldClmpWrite (s : State) (n : Nat) (val : Word) : State := (s.bucketSettle n).store (R.PWR_LD_CLMP n) val

/-! ### Commands of PWR_LD_CMD (R346, R355) -/

/-- A conversion starts, unless the channel is converting (R355). -/
def State.adcStart (s : State) (n : Nat) : State := s.modLd n (fun (q : Load) => { q with conv := true })

/-- CLR_LOCK (R346): refused while the bucket holds more than half of EBUD; a channel not in LOCK has nothing to clear. -/
def State.ldClrLock (s : State) (n : Nat) : State :=
  ((s.p (R.PWR_LD_CTL.MODE n) 0).p (R.PWR_LD_STS.RTY_CNT n) 0).setLdState n ldOff

/-- Whether CLR_LOCK of channel `n` is accepted. -/
def State.ldMayClear (s : State) (n : Nat) : Bool :=
  s.ldState n == ldLock && decide (s.clampNow n ≤ s.g (R.PWR_LD_CLMP.EBUD n) * 250000000)

/-- A write of PWR_LD_CMD (R48, R346, R355). -/
def State.ldCommand (s : State) (req : Nat) (val : Word) : State :=
  let op := fieldOf val 8 2
  let n := fieldOf val 0 5
  let ok := match op with
    | 1 => decide (n ≤ 23) && s.ldMayClear n
    | 2 => decide (n ≤ 23)
    | 3 => true
    | _ => false
  s.command req R.PWR_LD_CMD val ok statDone (fun t =>
    match op with
    | 1 => t.ldClrLock n
    | 2 => t.adcStart n
    | _ => t.each (List.range 24) (fun k u => u.ldCmdOff k))

/-! ### Protection events (R343-R348, R351) -/

/-- The inrush window ends (R343). -/
def State.windowEnd (s : State) (n : Nat) : State :=
  if s.ldState n != ldInrush then s
  else
    let c := s.claimOf n false
    (s.setLdState n ldOn).when (s.ldOut n) (fun t => t.modLd n (fun (q : Load) => { q with claim := c }))

/-- The thermal latch is set (R347): of a channel in INRUSH or ON a protective turn-off, which leads to THERM only while RTY_CNT
is below RTY_MAX, and to FAULT otherwise (R348). -/
def State.latchSet (s : State) (n : Nat) : State :=
  if s.on (R.PWR_LD_STS.TLATCH n) then s
  else
    let st := s.ldState n
    let k := (s.ld n).kind
    let s1 := ((s.p (R.PWR_LD_STS.TLATCH n) 1).bump (R.PWR_LD_THERM_LO n)).ldEv n R.PWR_LD_EVT.THERM
    if s.ldActive n then
      let s2 := (s1.ldLeave n ldTherm causeThermal).modLd n (fun (q : Load) => { q with kind := .thermal })
      (if s.ldMayRetry n then s2 else s2.ldToFault n).ldHoldOff n true
    else if st = ldTrip then (s1.ldLeave n ldTherm causeThermal).modLd n (fun (q : Load) => { q with kind := .thermal })
    else if st = ldWait then
      (s1.ldLeave n ldTherm causeThermal).modLd n (fun (q : Load) => { q with kind := if k = .retry then .thermal else k })
    else s1

/-- A short (R344); with the channel over temperature in the same clock both count and THERM follows (R350). -/
def State.ldShort (s : State) (n : Nat) (hot : Bool) : State :=
  if !s.ldOut n then s
  else
    let s1 := (s.bump (R.PWR_LD_SHORT_LO n)).ldEv n R.PWR_LD_EVT.SHORT
    if hot && !s.on (R.PWR_LD_STS.TLATCH n) then s1.latchSet n
    else (s1.ldTripOrFault n causeShort).ldHoldOff n true

/-- An over-current turn-off (R345), outside the window and with the output on. -/
def State.ldOvercur (s : State) (n : Nat) : State :=
  if !s.ldOut n || s.ldState n != ldOn then s
  else ((((s.bump (R.PWR_LD_OC_LO n)).ldEv n R.PWR_LD_EVT.OC).ldTripOrFault n causeOvercur).ldHoldOff n true)

/-- A clamp event of `nj` nanojoules (R346). -/
def State.ldClamp (s : State) (n nj : Nat) : State :=
  let e := nj * 1000
  let b := s.clampNow n + e
  let s1 := s.modLd n (fun (q : Load) => { q with bucket := b, since := s.tick })
  if s.ldState n != ldLock && (decide (s.emaxPj n < e) || decide (s.g (R.PWR_LD_CLMP.EBUD n) * 500000000 < b)) then
    (((s1.ldLeave n ldLock causeClamp).bump (R.PWR_LD_LOCK_LO n)).ldEv n R.PWR_LD_EVT.LOCK).when (s.ldOut n) (fun t => t.ldHoldOff n true)
  else s1

/-- Over-temperature acts on the channel: in WAIT, INRUSH, ON or TRIP (R349). -/
def State.ldHeats (s : State) (n : Nat) : Bool := s.ldActive n || s.ldState n == ldWait || s.ldState n == ldTrip

/-- A group's region reaches 165 °C (R347, R349): each of its channels with the output on, or waiting for a start or a retry,
enters THERM. -/
def State.groupHot (s : State) (g treg : Nat) : State :=
  (s.p (R.PWR_LD_GRP.TREG g) treg).each ((List.range 4).map (fun k => 4 * g + k)) (fun n t => if s.ldHeats n then t.latchSet n else t)

/-- The latch releases (R347, R348): a thermal restart is subject to RTY_MAX, a start it deferred is not. -/
def State.latchRelease (s : State) (n : Nat) : State :=
  if !s.on (R.PWR_LD_STS.TLATCH n) then s
  else
    let s1 := s.p (R.PWR_LD_STS.TLATCH n) 0
    if s.ldState n != ldTherm then s1
    else if s.ldMode n = 0 then s1.setLdState n ldOff
    else
      match (s.ld n).kind with
      | .retry | .thermal => if s.ldMayRetry n then s1.ldStart n .thermal else s1.ldToFault n
      | k => s1.ldStart n k

/-- Open load found (R351). -/
def State.ldOpenSet (s : State) (n : Nat) : State :=
  if s.on (R.PWR_LD_PROT.OL_EN n) && s.ldState n == ldOn && s.ldOut n && !s.on (R.PWR_LD_STS.OPEN n) then
    ((s.p (R.PWR_LD_STS.OPEN n) 1).bump (R.PWR_LD_OPEN_LO n)).ldEv n R.PWR_LD_EVT.OPEN
  else s

/-! ### Undervoltage and SAFE_OFF (R352, R353) -/

/-- VS_UV in 0.1 V, held within 4.0-20.0 V; VS_SAVE likewise (R337). -/
def State.vsUv (s : State) : Nat := clampNat 40 200 (s.g R.PWR_LD_GLB.VS_UV)

/-- Every channel turns off into UV (R352, R456); a restart from UV that was still to come waits for the next recovery. -/
def State.ldUvOff (s : State) : State :=
  let s1 := s.each (List.range 24) (fun n t =>
    let st := t.ldState n
    if st = ldWait ∨ st = ldInrush ∨ st = ldOn ∨ st = ldTrip then (t.ldLeave n ldUv causeUv).ldEv n R.PWR_LD_EVT.UV else t)
  { s1 with loads := { s1.loads with stag := s1.loads.stag.filter (fun n => s1.ldState n != ldUv) } }

/-- Undervoltage (R352): counted, and every channel turns off. -/
def State.ldUvAct (s : State) : State := ((s.bump R.PWR_LD_UV_LO).ev R.PWR_LD_EVT.UV).ldUvOff

/-- VS_UV lies below VS_SAVE, so that the save engine makes the turn-off (R352). -/
def State.uvBySave (s : State) : Bool := decide (s.vsUv < clampNat 40 200 (s.g R.PWR_SUP_CFG.VS_SAVE))

/-- The save engine turns every channel off (R456): where VS_UV lies below VS_SAVE as if R352 had acted; otherwise it has
acted already. -/
def State.ldSaveOff (s : State) : State := if s.uvBySave then s.ldUvAct else s.ldUvOff

/-- Starts join the queue, which is in grant order (R352). -/
def State.stagger (s : State) (l : List Nat) : State := { s with loads := { s.loads with stag := s.grantOrder (s.loads.stag ++ l) } }

/-- Channels in UV restart (R352). -/
def State.ldUvRecover (s : State) : State := s.stagger ((List.range 24).filter (fun n => s.ldState n == ldUv))

/-- SAFE_OFF acts on channel `n` (R353, R349); one that waits for a staggered start in OFF will not make it. -/
def State.ldSafeOff (s : State) (n : Nat) : State :=
  let st := s.ldState n
  if st = ldOff then s.p (R.PWR_LD_CTL.MODE n) 0
  else if st = ldFault ∨ st = ldLock then s
  else ((s.p (R.PWR_LD_CTL.MODE n) 0).ldLeave n ldOff causeSafe).ldEv n R.PWR_LD_EVT.SAFE

/-- SAFE_OFF has been high for 2 us (R353). -/
def State.safeOff (s : State) : State :=
  ((s.p R.PWR_SO.PIN 1).ev R.PWR_LD_EVT.SAFE).each ((List.range 24).filter (fun n => bit (s.g R.PWR_SO.MASK) n)) (fun n t => t.ldSafeOff n)

/-- PWR_SO has been written, in state `old` until then: channels that MASK newly names turn off while SAFE_OFF is high
(R353). -/
def State.soTouch (s old : State) : State :=
  s.each ((List.range 24).filter (fun n => s.ldSafe n && !old.ldSafe n)) (fun n t => t.ldSafeOff n)

/-! ### Pulses and edges (R339, R340, R277) -/

/-- A period starts: DUTY is sampled, above 1024 acting as 1024 (R339). -/
def State.periodStart (s : State) (n : Nat) : State :=
  let d := min (s.g (R.PWR_LD_CTL.DUTY n)) 1024
  s.modLd n (fun (q : Load) => { q with duty := d, period := true })

/-- The turn-on instant of a pulse (R339, R342). -/
def State.pulseOn (s : State) (n : Nat) : State :=
  if s.ldActive n && decide (2 ≤ s.ldMode n) && (s.ld n).period && (s.ld n).duty != 0 then
    if s.ldOut n then s.modLd n (fun (q : Load) => { q with pulse := q.duty }) else s.ldPulseOn n
  else s

/-- The end instant of a pulse (R339); one of DUTY 1024 runs on into the next. -/
def State.pulseOff (s : State) (n : Nat) : State :=
  let q := s.ld n
  if s.ldActive n && decide (2 ≤ s.ldMode n) && s.ldOut n && !(decide (1024 ≤ q.pulse) && q.duty != 0) then s.ldTurnOff n else s

/-- The power die acts on the oldest edge command: TLOCK periods and conversions of its generator (R277, R340, R355). -/
def State.dieEdge (s : State) (late : Bool) : State :=
  match s.edges with
  | [] => s
  | g :: t =>
    let s0 := { s with edges := t }
    if s.tenon.lostState then s0
    else
      let s1 := s0.when late (fun u => (u.bump (R.TG_LATE_LO g)).ev R.TIME_EVT.TG_LATE)
      s1.each (List.range 24) (fun n u =>
        let v := if u.ldMode n = 3 ∧ u.g (R.PWR_LD_CTL.TG n) = g ∧ u.ldActive n then u.periodStart n else u
        if v.on (R.PWR_LD_ADCC.TRIG_EN n) && v.g (R.PWR_LD_ADCC.TG n) == g then v.adcStart n else v)

/-- A conversion's result (R355); none is sent in the link-lost state (R338). -/
def State.adcDone (s : State) (n code tj : Nat) : State :=
  if !(s.ld n).conv then s
  else
    let s1 := s.modLd n (fun (q : Load) => { q with conv := false })
    if s.tenon.lostState then s1
    else
      ((((s1.p (R.PWR_LD_ADC.VALID n) 1).pb (R.PWR_LD_ADC.SAT n) (min code 4095 == 4095)).inc (R.PWR_LD_ADC.SEQ n)).p (R.PWR_LD_ADC.TJ n)
        tj).p (R.PWR_LD_ADC.CODE n) (min code 4095)

/-! ### Resets and commit (R356) -/

/-- A channel's own configuration registers: CTL, PER, PROT, RTY, BUD, CLMP, ADCC. -/
def ldChanReg (a : Nat) : Bool := decide (0x1E01000 ≤ a) && decide (a < 0x1E01600) && decide (a % 64 < 28)

/-- The snapshot of every channel's registers at t = 0 (R356). -/
def State.ldSnapshot (s : State) : State :=
  { s with loads := { s.loads with snap := Tab.keep ldChanReg s.regs, ch := List.map (fun (p : Nat × Load) => (p.1, { p.2 with staged := none })) s.loads.ch } }

/-- At commit the staged writes act (R356): one equal to the snapshot changes nothing, OFF acts at once, starts are
staggered. -/
def State.ldCommit (s : State) : State :=
  let staged := (List.range 24).filterMap (fun n => (s.ld n).staged.map (fun v => (n, v)))
  let differs := staged.filter (fun p => s.loads.snap.get resetOf (R.PWR_LD_CTL p.1) != p.2)
  let clear := fun (t : State) (n : Nat) => t.modLd n (fun (q : Load) => { q with staged := none })
  let s1 := s.each (staged.map (·.1)) (fun n t => clear t n)
  let starts := (differs.filter (fun p => fieldOf p.2 30 2 != 0 && s.ldState p.1 == ldOff && !s.ldSafe p.1)).map (·.1)
  let s2 := s1.each differs (fun p t =>
    if starts.contains p.1 then
      ((t.store (R.PWR_LD_CTL p.1) p.2).p (R.PWR_LD_STS.OWNER p.1) reqCfg).modLd p.1 (fun (q : Load) => { q with owned := true, degr := false })
    else t.ldCtlAct reqCfg p.1 p.2)
  s2.stagger starts

/-- A load-channel register: the globals, the channels and the counters (R357, R358). -/
def ldReg (a : Nat) : Bool := (decide (0x1E00800 ≤ a) && decide (a < 0x1E01600)) || (decide (0x1E03000 ≤ a) && decide (a < 0x1E03900))

/-- Soft reset of PWR, the load channels' part (R356): before commit their registers return to the snapshot; afterwards
every channel turns off and registers and counters take their Reset values. The latches stay (R347). -/
def State.ldSoftReset (s : State) : State :=
  if s.beforeRun then
    let s1 := s.resetRegs ldChanReg
    s1.each s.loads.snap (fun p t => t.wr p.1 p.2)
  else
    let hot := (List.range 24).filter (fun n => s.on (R.PWR_LD_STS.TLATCH n))
    let pin := s.g R.PWR_SO.PIN
    let s1 := s.each (List.range 24) (fun n t => t.ldTurnOff n)
    let s2 := s1.resetRegs ldReg
    let s3 := { s2 with loads := {} }
    (s3.p R.PWR_SO.PIN pin).each hot (fun n t => t.p (R.PWR_LD_STS.TLATCH n) 1)

/-! ### Registers that show live state -/

/-- EBKT, the bucket level in 0.5 mJ; the spec does not say what it shows of a level it cannot hold (log 37). -/
def State.ebktShown (s : State) (n : Nat) : Nat := if s.clampNow n / 500000000 < 4096 then s.clampNow n / 500000000 else s.freeNat % 4096

/-- PWR_LD_STS, PWR_LD_BUDGET and PWR_LD_GRP as they read: HELD, EBKT, ILIMIT (free while the output is on; log 40),
USED and the inrush window are computed. -/
def State.ldLive (s : State) (a : Nat) : Option Word :=
  if a = R.PWR_LD_BUDGET then some (withField (s.rd a) 16 12 s.ldUsed)
  else if R.PWR_LD_GRP 0 ≤ a ∧ a < R.PWR_LD_GRP 6 then
    match s.windowOf ((a - R.PWR_LD_GRP 0) / 4) with
    | some n => some (withField (withField (s.rd a) 15 1 1) 5 5 n)
    | none => some (s.rd a)
  else if R.PWR_LD_STS 0 ≤ a ∧ a < R.PWR_LD_STS 24 ∧ (a - R.PWR_LD_STS 0) % 64 = 0 then
    let n := (a - R.PWR_LD_STS 0) / 64
    let v := withField (withField (s.rd a) 15 1 (if s.ldHeld n then 1 else 0)) 0 12 (s.ebktShown n)
    some (withField v 20 1 (if s.ldOut n && s.freeBool then 1 else 0))
  else none

/-! ### Meanings -/

/-- LOAD_START (R341). -/
def execLoadStart (s : State) : Host.Outcome State Fault Refusal := done s s.ldAsk

/-- INRUSH_WINDOW_END (R343). -/
def execInrushWindowEnd (ch : Nat) (s : State) : Host.Outcome State Fault Refusal := done s (s.windowEnd (ch % 24))

/-- PULSE_PERIOD_START (R339). -/
def execPulsePeriodStart (ch : Nat) (s : State) : Host.Outcome State Fault Refusal :=
  done s (if s.ldActive (ch % 24) && s.ldMode (ch % 24) == 2 then s.periodStart (ch % 24) else s)

/-- PULSE_TURN_ON (R342). -/
def execPulseTurnOn (ch : Nat) (s : State) : Host.Outcome State Fault Refusal := done s (s.pulseOn (ch % 24))

/-- PULSE_TURN_OFF (R339). -/
def execPulseTurnOff (ch : Nat) (s : State) : Host.Outcome State Fault Refusal := done s (s.pulseOff (ch % 24))

/-- EDGE_MISS (R340): the period in progress runs out with no edge. -/
def execLdEdgeMiss (ch : Nat) (s : State) : Host.Outcome State Fault Refusal :=
  done s (if s.ldActive (ch % 24) && s.ldMode (ch % 24) == 3 && (s.ld (ch % 24)).period then
    ((s.bump (R.PWR_LD_EDGE_MISS_LO (ch % 24))).ldEv (ch % 24) R.PWR_LD_EVT.EDGE_MISS).periodStart (ch % 24) else s)

/-- SHORT (R344). -/
def execLdShort (ch : Nat) (hot : Bool) (s : State) : Host.Outcome State Fault Refusal := done s (s.ldShort (ch % 24) hot)

/-- OVERCUR (R345). -/
def execLdOvercur (ch : Nat) (s : State) : Host.Outcome State Fault Refusal := done s (s.ldOvercur (ch % 24))

/-- CLAMP_EVENT (R346). -/
def execClampEvent (ch nj : Nat) (s : State) : Host.Outcome State Fault Refusal := done s (s.ldClamp (ch % 24) nj)

/-- THERMAL_LATCH_SET (R347). -/
def execThermalLatchSet (ch : Nat) (s : State) : Host.Outcome State Fault Refusal := done s (s.latchSet (ch % 24))

/-- GROUP_THERMAL_SHUTDOWN (R347). -/
def execGroupThermalShutdown (grp treg : Nat) (s : State) : Host.Outcome State Fault Refusal := done s (s.groupHot (grp % 6) treg)

/-- TWARN (R347): no channel changes state. -/
def execLdTwarn (grp treg : Nat) (s : State) : Host.Outcome State Fault Refusal :=
  done s ((s.p (R.PWR_LD_GRP.TREG (grp % 6)) treg).ev R.PWR_LD_EVT.TWARN)

/-- THERMAL_LATCH_RELEASE (R347, R348). -/
def execThermalLatchRelease (ch : Nat) (s : State) : Host.Outcome State Fault Refusal := done s (s.latchRelease (ch % 24))

/-- RETRY (R348): RETRY_MS after a trip. -/
def execLdRetry (ch : Nat) (s : State) : Host.Outcome State Fault Refusal :=
  done s (if s.ldState (ch % 24) = ldTrip then s.ldStart (ch % 24) .retry else s)

/-- RTY_CLR (R348). -/
def execLdRtyClr (ch : Nat) (s : State) : Host.Outcome State Fault Refusal :=
  done s (if s.ldActive (ch % 24) then s.p (R.PWR_LD_STS.RTY_CNT (ch % 24)) 0 else s)

/-- OPEN (R351). -/
def execLdOpen (ch : Nat) (s : State) : Host.Outcome State Fault Refusal := done s (s.ldOpenSet (ch % 24))

/-- OPEN_CLEAR (R351). -/
def execLdOpenClear (ch : Nat) (s : State) : Host.Outcome State Fault Refusal :=
  done s (if s.ldState (ch % 24) = ldOn ∧ s.ldOut (ch % 24) then s.p (R.PWR_LD_STS.OPEN (ch % 24)) 0 else s)

/-- UV (R352): a VS_UV below VS_SAVE leaves the turn-off to the save engine. -/
def execLdUv (s : State) : Host.Outcome State Fault Refusal :=
  done s (if s.uvBySave then s else s.ldUvAct)

/-- UV_RECOVERY (R352). -/
def execLdUvRecovery (s : State) : Host.Outcome State Fault Refusal := done s s.ldUvRecover

/-- STAGGER_START (R352). -/
def execStaggerStart (s : State) : Host.Outcome State Fault Refusal := done s (State.stagNext s.loads.stag s)

/-- SAFE_OFF_ASSERT (R353). -/
def execSafeOffAssert (s : State) : Host.Outcome State Fault Refusal := done s s.safeOff

/-- SAFE_OFF_RELEASE (R353): no channel restarts. -/
def execSafeOffRelease (s : State) : Host.Outcome State Fault Refusal := done s (s.p R.PWR_SO.PIN 0)

/-- ADC_PERIODIC_CONVERSION (R355). -/
def execAdcPeriodicConversion (s : State) : Host.Outcome State Fault Refusal :=
  done s (s.each (List.range 24) (fun n t => if t.on (R.PWR_LD_ADCC.TRIG_EN n) then t else t.adcStart n))

/-- ADC_RESULT (R355). -/
def execAdcResult (ch code tj : Nat) (s : State) : Host.Outcome State Fault Refusal := done s (s.adcDone (ch % 24) code tj)

/-- POWER_DIE_EDGE (R277). -/
def execPowerDieEdge (late : Bool) (s : State) : Host.Outcome State Fault Refusal := done s (s.dieEdge late)

end Sys2Proof.Machine
end

