-- ==== Sys2Proof/Machine/DevMem.lean ====
section
/-! DEFINITION. What a register read returns (02, R34-R38, R40, R47), and the device's own accesses to memory by device
address: host memory through the bridge, DRAM, BAR0 (15, R390; 16, R398, R399). -/

namespace Sys2Proof.Machine

/-! ### Registers that show live state -/

/-- The OR of the alarms of the stream contexts of bank `b` (R201). -/
def State.bankAlarms (s : State) (b : Nat) : Word :=
  (List.range 64).foldl (fun acc k => acc ||| s.rd (R.STR_ALARM (64 * b + k))) 0

/-- Word `k` of a window of queue `q` (R407). -/
def State.queWin (s : State) (q k : Nat) : Word :=
  if s.qIsIn q then (if k < queWords - s.qLevel q then s.qWord q (s.qWr q + k) else idleWord)
  else if k < s.qLevel q then s.qWord q (s.qRd q + k)
  else idleWord

/-- MGT_MTIME: 100 MHz since the core die left reset (R472). -/
def State.mtime (s : State) : Nat := (s.tick - s.mgt.base) / 5 % 2 ^ 64

/-- Milliseconds of the watchdog that remain (R473). -/
def State.wdtLeft (s : State) : Nat := max 1 (s.g R.MGT_WDT.TMO_MS) - (s.tick - s.mgt.kick) / 500000

/-- The attestation private key d (R307), a big-endian string of 32 bytes. -/
def attKey : List Byte :=
  let c := beNat (kdf Config.fuseSecret (label16 "HKR.ATTEST") zero16 320)
  beBytes 32 (c % 0xFFFFFFFF00000000FFFFFFFFFFFFFFFFBCE6FAADA7179E84F3B9CAC2FC632550 + 1)

/-- The attestation public key x || y (R333). -/
def attPub : List Byte := ecdsaPub attKey

/-- Registers outside the queue windows whose content is not what the map stores: identity, fuses, live counters. -/
def State.live (s : State) (req a : Nat) : Option Word :=
  if a = R.GLB_CAP then some (if Config.mb16 then 0x10 else 0x08)
  else if a = R.GLB_WHO then some (W req)
  else if a = R.GLB_UNLOCK then some 0
  else if a = R.GLB_EVT_SUM then some (W s.evtSum)
  else if a = R.CFG_FLOOR then some (withField (s.rd a) 0 8 s.vault.cfgEpoch)
  else if a = R.MGT_FLOOR then some (withField (s.rd a) 0 8 s.vault.fwEpoch)
  else if a = R.KEY_STS then some (withField (s.rd a) 16 8 s.vault.lossEpoch)
  else if a = R.KEY_SERIAL_LO then some (W Config.serial)
  else if a = R.KEY_SERIAL_HI then some (W (Config.serial / 2 ^ 32))
  else if a = R.MEM_STS then some (withField (s.rd a) 0 8 (capBytes / 2 ^ 30))
  else if a = R.CAN_SOF_CTR_LO then some (W s.sofCtr)
  else if a = R.CAN_SOF_CTR_HI then some (W (s.sofCtr / 2 ^ 32))
  else if a = R.MGT_MTIME_LO then some (W s.mtime)
  else if a = R.MGT_MTIME_HI then some (W (s.mtime / 2 ^ 32))
  else if a = R.MGT_WDT_KICK then some (W s.wdtLeft)
  else if a = R.CQP_STS then some (W s.cqpStatus)
  else if a = R.MGT_IP0 then some (W s.irqLines)
  else if a = R.MGT_IP1 then some (W (s.irqLines / 2 ^ 32))
  else if a = R.STR_EVT0 then some (s.rd a ||| s.bankAlarms 0)
  else if R.STR_EVT 0 ≤ a ∧ a < R.STR_EVT 3 ∧ a % 16 = 0 then some (s.bankAlarms ((a - R.STR_EVT 0) / 16 + 1))
  else if R.KEY_ATT_PUB 0 ≤ a ∧ a < R.KEY_ATT_PUB 16 then some (W (leAt attPub (a - R.KEY_ATT_PUB 0) 4))
  else if R.FLT_SRC_CFG 0 ≤ a ∧ a < R.FLT_SRC_CFG 320 ∧ (a - R.FLT_SRC_CFG 0) % 32 = 0 then
    some (withField (s.rd a) 30 2 (faultClass ((a - R.FLT_SRC_CFG 0) / 32)))
  else if R.TB_TIME_LO 0 ≤ a ∧ a < R.TB_TIME_LO 4 ∧ (a - R.TB_TIME_LO 0) % 256 < 12 then
    (tvWords (s.tbVal ((a - R.TB_TIME_LO 0) / 256)))[(a - R.TB_TIME_LO 0) % 256 / 4]?
  else s.ldLive a

/-- What a read of offset `a` by requester `req` returns, without its effect on shadows (R47). -/
def State.peek (s : State) (req a : Nat) : Word :=
  if R.QUE_WIN 0 0 ≤ a ∧ a < R.QUE_WIN 64 0 then s.queWin ((a - R.QUE_WIN 0 0) / 4096) ((a - R.QUE_WIN 0 0) % 4096 / 4)
  else (s.live req a).getD (s.rd a)

/-- A read of PWR_LD_STS has shown a free ILIMIT (log 40): the next is another. -/
def State.readUse (s : State) (a : Nat) : State :=
  if R.PWR_LD_STS 0 ≤ a ∧ a < R.PWR_LD_STS 24 ∧ a % 64 = R.PWR_LD_STS 0 % 64 then s.used else s

/-- The shadow a requester holds for a region (R38). -/
def State.shadow (s : State) (req n : Nat) : Option Shadow := (s.rq req).shadows.get (fun _ => none) n

/-- A read of BAR0 by requester `req` (R34, R38, R40): the word, or none with an error response. -/
def State.regRead (s : State) (req a : Nat) : State × Option Word :=
  match rowOf a with
  | none => (s.logAccess req a 15 false .unmap, none)
  | some r =>
    if r.mwLen = 1 ∨ req = reqDma then (s.readUse a, some (s.peek req a))
    else if r.mwIdx = 0 then
      let sh : Shadow := { tag := a, words := (List.range (r.mwLen - 1)).map (fun k => s.peek req (a + 4 * (k + 1))) }
      (s.modRq req (fun q => { q with shadows := q.shadows.set (fun _ => none) (regionOf a) (some sh) }), some (s.peek req a))
    else
      match s.shadow req (regionOf a) with
      | some sh => if sh.tag = a - 4 * r.mwIdx then (s, some (sh.words.getD (r.mwIdx - 1) 0)) else (s, some (s.peek req a))
      | none => (s, some (s.peek req a))

/-- A PWR access that the link does not complete in time (R12). -/
def State.tenonLate (s : State) (a : Nat) : State := s.fault 225 (faultInfo 4 0 (a % 65536))

/-- A register read by requester `req` with byte enables `be`, which an entry of the access log shows (R52): the word, and the
error response if it met one (R12, R34, R38). -/
def State.busReadBe (s : State) (req a be : Nat) : State × Word × Option BusErr :=
  match rowOf a with
  | none => (s.logAccess req a be false .unmap, 0, some .unmap)
  | some _ =>
    if regionOf a = 12 ∧ !s.tenon.up then (s.tenonLate a, 0xFFFFFFFF, some .tenon)
    else
      let r := s.regRead req a
      (r.1, r.2.getD 0, none)

/-- A read of a whole word. -/
def State.busRead (s : State) (req a : Nat) : State × Word × Option BusErr := s.busReadBe req a 15

/-! ### Host memory (R390) -/

/-- Splits `n` bytes from `a` at `m` bytes and at 4 KiB boundaries; `k` bounds the number of parts (R390). -/
def splitAt (m : Nat) : Nat → Nat → Nat → List (Nat × Nat)
  | 0, _, _ => []
  | k + 1, a, n =>
    if n = 0 then []
    else
      let p := min n (min (max 1 m) (4096 - a % 4096))
      (a, p) :: splitAt m k (a + p) (n - p)

/-- An outbound request ends with an error (R390, R394). -/
def State.outErr (s : State) : State := (s.bump R.BRG_OUT_ERR_LO).ev R.BRG_EVT.OUT_ERR

/-- The bridge can send requests: link up, Bus Master Enable set (R390). -/
def State.canSend (s : State) : Bool := s.on R.BRG_LINK.UP && s.on R.BRG_LINK.BME

/-- A write to host memory (R390): false where it ends in error. -/
def State.hostWrite (s : State) (a : Nat) (bs : List Byte) : State × Bool :=
  if !s.canSend then (s.outErr, false)
  else
    let parts := splitAt s.brg.mps bs.length a bs.length
    let tlps := parts.map (fun p => Tlp.memWr p.1 (slice bs (p.1 - a) p.2))
    let s1 := s.bumpBy R.BRG_OUT_WR_LO parts.length
    ({ s1 with brg := { s1.brg with tlps := s1.brg.tlps ++ tlps } }, true)

/-- The host bytes that an environment supplies, by host address. -/
abbrev HostMem := List (Nat × Byte)

/-- `n` bytes of host memory from `a`; none where a byte is not supplied, which is a completion in error. -/
def hostBytes (m : HostMem) (a n : Nat) : Option (List Byte) :=
  (List.range n).mapM (fun k => (m.find? (fun p => p.1 == a + k)).map (·.2))

/-- A read of host memory whose completions arrive at once (R390). -/
def State.hostRead (s : State) (m : HostMem) (a n : Nat) : State × Option (List Byte) :=
  if !s.canSend then (s.outErr, none)
  else
    let parts := splitAt s.brg.mrrs n a n
    let s1 := s.bumpBy R.BRG_OUT_RD_LO parts.length
    let s2 := { s1 with brg := { s1.brg with tlps := s1.brg.tlps ++ parts.map (fun p => Tlp.memRd 0 p.1 p.2) } }
    match hostBytes m a n with
    | some b => (s2, some b)
    | none => (s2.outErr, none)

/-! ### Accesses by device address (R398, R399) -/

/-- Reads `n` registers from BAR0 offset `a` by requester DMA; the first error response ends the read. -/
def State.dmaRegs (s : State) : Nat → Nat → State × (List Byte ⊕ BusErr)
  | 0, _ => (s, .inl [])
  | n + 1, a =>
    match s.busRead reqDma a with
    | (s1, _, some e) => (s1, .inr e)
    | (s1, w, none) =>
      match State.dmaRegs s1 n (a + 4) with
      | (s2, .inl b) => (s2, .inl (leBytes 4 w.toNat ++ b))
      | r => r

/-- A read of `n` bytes at device address `a`: the bytes, or the error it meets (R398, R399, R406). -/
def State.devRead (s : State) (m : HostMem) (a n : Nat) : State × (List Byte ⊕ BusErr) :=
  match targetOf a with
  | .host h =>
    match s.hostRead m h n with
    | (s1, some b) => (s1, .inl b)
    | (s1, none) => (s1, .inr .host)
  | .dram o =>
    match s.dramRead o n with
    | some b => (s, .inl b)
    | none => (s, .inr .mem)
  | .bar0 o =>
    if o % 4 ≠ 0 ∨ n % 4 ≠ 0 then (s, .inr .unmap)
    else s.dmaRegs (n / 4) o
  | .unmapped => (s, .inr .unmap)

/-- Writes BAR0 registers one after another with a writer `w`; the first error is answered (R399). -/
def State.dmaWrites (w : Nat → Word → State → State × Option BusErr) : List Word → Nat → State → State × Option BusErr
  | [], _, s => (s, none)
  | v :: t, a, s =>
    let (s1, e1) := w a v s
    let (s2, e2) := State.dmaWrites w t (a + 4) s1
    (s2, match e1 with | some e => some e | none => e2)

/-- A write at device address `a`, with a writer for BAR0 registers (R398, R399): the error it meets, if any. -/
def State.devWrite (s : State) (w : Nat → Word → State → State × Option BusErr) (a : Nat) (bs : List Byte) : State × Option BusErr :=
  match targetOf a with
  | .host h =>
    match s.hostWrite h bs with
    | (s1, true) => (s1, none)
    | (s1, false) => (s1, some .host)
  | .dram o =>
    match s.dramWrite o bs with
    | (s1, true) => (s1, none)
    | (s1, false) => (s1, some .mem)
  | .bar0 o => if o % 4 ≠ 0 ∨ bs.length % 4 ≠ 0 then (s, some .unmap) else State.dmaWrites w (toWords bs) o s
  | .unmapped => (s, some .unmap)

end Sys2Proof.Machine
end

