-- ==== Sys2Proof/Machine/Grit.lean ====
section
/-! DEFINITION. Dispatch, segments, lost jobs, quarantine and the DRBG of the Grit pool (11, R286-R300). -/

namespace Sys2Proof.Machine

/-! ### Lost hardware jobs (R298, R302) -/

/-- The verification in hand of entry `a` is lost: it counts as failed (R251, R298). -/
def State.cmaVerifyLost (s : State) (a : Nat) : State :=
  let e := s.cmaOf a
  match e.busy, e.ver with
  | true, x :: rest => State.cmaNext a rest.length ((s.modCma a (fun y => { y with busy := false, ver := rest })).cmaFail a x)
  | _, _ => s

/-- The generate job of entry `a` is lost, or cannot start: it counts as not started (R252, R298). -/
def State.cmaGenLost (s : State) (a f : Nat) : State :=
  let e := s.cmaOf a
  if !e.busy || e.f != f then s
  else
    let s1 := (s.modCma a (fun y => { y with busy := false, more := y.more - 1 })).cmaHeld a
    if e.more = 0 then s1 else s1.cmaStart a

/-- Every verification that waits at entry `a` is lost: each counts as failed (R251, R302). -/
def State.cmaAllLost (s : State) (a : Nat) : State :=
  (s.each (s.cmaOf a).ver (fun x t => t.cmaFail a x)).modCma a (fun y => { y with busy := false, ver := [] })

/-- What the loss of a hardware job counts (CRY_HW_LOST). -/
def State.hwLost (s : State) : State := (s.bump R.CRY_HW_LOST_LO).ev R.CRY_EVT.HW_LOST

/-- A job of levels 0-3 is lost for good (R298, R302, R325): its frame is dropped. -/
def State.jobLost (s : State) (j : Job) : State :=
  match j.user with
  | .strVerify n id =>
    match s.pendOf n id with
    | some q => ((s.hwLost.yield7 id).strDrop id).verDropped n q
    | none => s
  | .strGenerate n id =>
    match s.pendOf n id with
    | some _ => ((s.hwLost.yield7 id).strDrop id).dropPend n id
    | none => s
  | .canVerify a => s.hwLost.cmaVerifyLost a
  | .canGenerate a f => s.hwLost.cmaGenLost a f
  | _ => s

/-! ### Dispatch (R286, R287, R295, R296) -/

/-- The number of a job's slot where it uses none. -/
abbrev noSlot : Nat := 4096

/-- The permission OP of a software job needs (R311); none where it uses no slot. -/
def opUse (op : Nat) : Option Nat :=
  if 1 ≤ op ∧ op ≤ 5 ∨ op = 9 then some useEnc
  else if op = 6 then some useMac
  else if op = 7 ∨ op = 8 then some useKw
  else none

/-- A software job may use its slot (R291, R311). -/
def State.swSlotOk (s : State) (desc : List Byte) : Bool :=
  match opUse (leAt desc 0 1 % 16) with
  | none => true
  | some u => let n := leAt desc 4 2 % 4096; s.usable n && s.slotUse n u

/-- The slot of a job is as it was at the job's start (R295). -/
def State.segKeyOk (s : State) (j : Job) : Bool := j.slot == noSlot || (s.usable j.slot && s.slotGen j.slot == j.gen)

/-- Takes a job out of the waiting ones. -/
def State.unwait (s : State) (j : Job) : State := { s with grit := { s.grit with waiting := s.grit.waiting.erase j } }

/-- A job of levels 4-6 starts, or starts a later segment: without its key it has nothing left to compute (R295). -/
def State.beginSeg (s : State) (n : Nat) (j : Job) : State :=
  if j.started then s.runJob n (if s.segKeyOk j then j else { j with nokey := true, blocks := 0 })
  else
    match j.user with
    | .soft _ _ => s.runJob n (if s.swSlotOk j.desc then s.resolveKey j else { j with nokey := true, blocks := 0, started := true })
    | .chunk _ =>
      s.runJob n (if s.usable j.slot && s.slotUse j.slot useMac then s.resolveKey j else { j with nokey := true, blocks := 0, started := true })
    | _ => s.runJob n (s.resolveKey j)

/-- A job starts on core or unit `n`: a hardware job past its age limit, or without a usable key, is dropped instead
(R187, R251, R252). -/
def State.beginJob (s : State) (n : Nat) (j : Job) : State :=
  let s1 := s.unwait j
  if 4 ≤ j.level then s1.beginSeg n j
  else if j.started then s1.runJob n j
  else
    let ok := s.hwKey j.slot
    match j.user with
    | .strVerify c id =>
      match s.pendOf c id with
      | none => s1
      | some q =>
        if s.tooOld (s.fr id).f then (s1.strAgeDrop c id).verDropped c q
        else if !ok then (s1.noKeyDrop c id).verDropped c q
        else s1.runJob n (s.resolveKey j)
    | .strGenerate c id =>
      match s.pendOf c id with
      | none => s1
      | some _ =>
        if s.tooOld (s.fr id).f then (s1.strAgeDrop c id).dropPend c id
        else if !ok then (s1.noKeyDrop c id).dropPend c id
        else s1.runJob n (s.resolveKey j)
    | .canVerify a => if ok then s1.runJob n (s.resolveKey j) else s1.cmaVerifyLost a
    | .canGenerate a f => if ok then s1.runJob n (s.resolveKey j) else s1.cmaGenLost a f
    | _ => s1

/-- The oldest job of the highest level that waits for unit `u`. -/
def State.nextOn (s : State) (u : Nat) : Option Job :=
  minBy (fun j : Job => j.level) (s.grit.waiting.filter (fun j => j.unit == u && s.queueLets j))

/-- The pool gives one job to a core (R287); a core without masks, or any where masks have stopped, waits (R296). -/
def State.poolDispatch (s : State) : State :=
  match s.nextJob with
  | none => s
  | some j =>
    match s.nextCore j with
    | none => s
    | some n => if !s.drbgServes then s.masksLate [n] else if s.grit.maskWait.contains n then s else s.beginJob n j

/-- The cores whose masks can be late: those at work, and the one the dispatcher turns to (R296). -/
def State.maskUsers (s : State) : List Nat := s.grit.running.map (·.1) ++ (s.nextJob.bind s.nextCore).toList

/-- The start-up unit, the public-key unit or the DRBG takes its next job (R286): the first two only once the loader
has left them, the last only while it serves. -/
def State.unitDispatch (s : State) (u : Nat) : State :=
  match s.nextOn u, s.jobOn (135 + u) with
  | some j, none =>
    if (u = 3 ∧ !s.drbgServes) ∨ (u ≠ 3 ∧ s.g R.CFG_STS.STATE < 6) then s else s.beginJob (135 + u) j
  | _, _ => s

/-- The continuous output test of the DRBG fails (R297). -/
def State.drbgTestFails (s : State) : State := if s.drbgServes then s.drbgFails else s

/-- A segment of a job of levels 4-6 ends with more to compute: the job releases its core and rejoins the head of its
level (R287). -/
def State.segmentEnd (s : State) (n : Nat) : State :=
  match s.jobOn n with
  | some j => if n < 136 ∧ 4 ≤ j.level ∧ 64 < j.blocks then (s.freeCore n).requeue { j with blocks := j.blocks - 64, head := true } else s
  | none => s

/-! ### Quarantine, retirement (R298-R300) -/

/-- An ACTIVE core aborts: it goes to QUARANTINE; FAULTS counts modulo 256; its tile's source occurs (R299, R444). -/
def State.quarantine (s : State) (n : Nat) : State :=
  if n < 136 ∧ s.coreState n = coreActive then
    let last := s.grit.lastAbort.get (fun _ => 0) n
    let again := last != 0 && decide (s.tick + 1 ≤ last + 500000000)
    let s1 := { s with grit := { s.grit with lastAbort := s.grit.lastAbort.set (fun _ => 0) n (s.tick + 1),
                                             again := s.grit.again.set (fun _ => false) n again } }
    ((((s1.p (R.CRY_CORE.STATE n) coreQuarantine).inc (R.CRY_CORE.FAULTS n)).ev R.CRY_EVT.CORE_FAULT).fault (192 + n / 17)
      (faultInfo 2 n 0)).poolSts
  else s

/-- The known-answer tests of a core in QUARANTINE end (R299); a RETIRE that waited for the core is over either way. -/
def State.quarantineEnd (s : State) (n : Nat) (pass sparePass : Bool) : State :=
  if s.coreState n = coreQuarantine then
    if pass && !(s.grit.again.get (fun _ => false) n) then (s.p (R.CRY_CORE.STATE n) coreActive).poolSts.retirePending n
    else
      let s1 := s.retireCore n sparePass
      if (s.grit.retiring.find? n).isSome then
        { s1 with grit := { s1.grit with retiring := s1.grit.retiring.del n } }.p ⟨R.CRY_CMD, 30, 2⟩ 0
      else s1
  else s

/-- The tile of a core has a SPARE. -/
def State.hasSpare (s : State) (n : Nat) : Bool := (List.range 17).any (fun k => s.coreState (17 * (n / 17) + k) == coreSpare)

/-- CRY_CMD is accepted (R300). -/
def State.cryCmdOk (s : State) (op core : Nat) : Bool :=
  match op with
  | 1 => decide (core < 136) && s.coreState core == coreActive && s.hasSpare core
  | 2 => decide (core < 136) && s.coreState core == coreRetired
  | 3 => decide (core < 136) && s.g R.CRY_DRBG_STS.STATE == drbgFail
  | _ => false

/-- CRY_CMD RETIRE: at once, or when the core's job completes (R299). -/
def State.cryRetire (s : State) (n : Nat) (sparePass : Bool) : State :=
  if s.on (R.CRY_CORE.BUSY n) then
    { s with grit := { s.grit with retiring := s.grit.retiring.put n sparePass } }.setStat R.CRY_CMD statBusy
  else s.retireCore n sparePass

/-- The DRBG is seeded or reseeded (R297), and cores that waited for masks go on. -/
def State.drbgSeeded (s : State) : State :=
  ({ s with grit := { s.grit with requests := 0, maskWait := if s.drbgServes then s.grit.maskWait else [] } }.p R.CRY_DRBG_STS.STATE drbgRun).bump R.CRY_RESEED_LO

/-- The entropy source fails its tests (R297). -/
def State.entropyFails (s : State) : State := (s.bump R.CRY_HEALTH_LO).ev R.CRY_EVT.DRBG_HEALTH

/-- CRY_CMD DRBG_RESTART (R297). -/
def State.drbgRestart (s : State) (ok : Bool) : State :=
  if ok then s.drbgSeeded else s.entropyFails.setStat R.CRY_CMD statFailed

/-- A reseed falls due (R297). -/
def State.drbgReseed (s : State) (ok : Bool) : State :=
  if !s.drbgServes then s
  else if ok then s.drbgSeeded
  else s.entropyFails.p R.CRY_DRBG_STS.STATE drbgNoReseed

/-- A write of CRY_CMD (R48, R300): `ok` says whether the test the command leads to passes. -/
def State.cryAct (s : State) (req : Nat) (val : Word) (ok : Bool) : State :=
  let op := fieldOf val 8 4
  let n := fieldOf val 0 8
  s.command req R.CRY_CMD val (s.cryCmdOk op n) (if op = 2 then statBusy else statDone) (fun u =>
    if op = 1 then u.cryRetire n ok else if op = 3 then u.drbgRestart ok else u)

/-- Such a write at its requester's port. -/
def State.cryCommand (s : State) (req : Nat) (val : Word) (ok : Bool) : State :=
  s.byPort req R.CRY_CMD val false (fun t => t.cryAct req val ok)

/-- A RETEST ends (R299, R300): a core that passes becomes SPARE and its record is removed. -/
def State.retestDone (s : State) (pass : Bool) : State :=
  let n := s.g R.CRY_CMD.CORE
  if s.stat R.CRY_CMD = statBusy ∧ s.g R.CRY_CMD.OP = 2 ∧ s.coreState n = coreRetired then
    if pass then ((((s.p (R.CRY_CORE.STATE n) coreSpare).dropRecords repCore (n / 17) n).setStat R.CRY_CMD statDone)).tileTouch
    else s.setStat R.CRY_CMD statFailed
  else s

/-- A software job has waited past WAIT_US without a core (R288): counted once. -/
def State.swWait (s : State) (q i : Nat) : State :=
  match s.grit.waiting.find? (fun j => j.unit == 0 && j.user == .soft q i && !j.waited) with
  | none => s
  | some j =>
    let s1 := { s with grit := { s.grit with waiting := s.grit.waiting.map (fun k => if k = j then { k with waited := true } else k) } }
    ((s1.bump R.CRY_SW_WAIT_LO).ev R.CRY_EVT.SW_WAIT).yield 7

/-! ### Meanings -/

/-- JOB_DISPATCH (R287): `unit` 0 is the pool, 1 the start-up unit, 2 the public-key unit, 3 the DRBG; `late` are the cores
whose masks are late now (R296); or the continuous output test of the DRBG fails. -/
def execJobDispatch (unit : Nat) (late : List Nat) (drbgFail : Bool) (s : State) : Host.Outcome State Fault Refusal :=
  done s (if drbgFail then s.drbgTestFails else
    let t := s.masksAt (late.filter s.maskUsers.contains)
    if unit % 4 = 0 then t.poolDispatch else t.unitDispatch (unit % 4))

/-- SEGMENT_END (R287). -/
def execSegmentEnd (core : Nat) (s : State) : Host.Outcome State Fault Refusal := done s (s.segmentEnd (core % 136))

/-- SW_WAIT (R288). -/
def execSwWait (queue index : Nat) (s : State) : Host.Outcome State Fault Refusal := done s (s.swWait (queue % 8) index)

/-- QUARANTINE_TEST_DONE (R299). -/
def execQuarantineTestDone (core : Nat) (pass sparePass : Bool) (s : State) : Host.Outcome State Fault Refusal :=
  done s (s.quarantineEnd (core % 136) pass sparePass)

/-- CORE_RETIRE (R300): a write of CRY_CMD; the spare that takes the number passes its tests or not. -/
def execCoreRetire (req core : Nat) (sparePass : Bool) (s : State) : Host.Outcome State Fault Refusal :=
  done s (s.cryCommand req (W (0x100 + core % 256)) sparePass)

/-- CORE_RETEST (R300): a write of CRY_CMD. -/
def execCoreRetest (req core : Nat) (s : State) : Host.Outcome State Fault Refusal :=
  done s (s.cryCommand req (W (0x200 + core % 256)) true)

/-- CORE_RETEST_DONE (R299). -/
def execCoreRetestDone (pass : Bool) (s : State) : Host.Outcome State Fault Refusal := done s (s.retestDone pass)

/-- DRBG_RESTART (R297): a write of CRY_CMD; the entropy passes its tests or not. -/
def execDrbgRestart (req : Nat) (ok : Bool) (s : State) : Host.Outcome State Fault Refusal := done s (s.cryCommand req 0x300 ok)

/-- DRBG_RESEED (R297). -/
def execDrbgReseed (ok : Bool) (s : State) : Host.Outcome State Fault Refusal := done s (s.drbgReseed ok)

end Sys2Proof.Machine
end

