-- ==== Sys2Proof/Machine/Vault.lean ====
section
/-! DEFINITION. Commands of the Marl vault, blobs, replacement, fuses, tamper, reservations (12, R305-R330, R334). -/

namespace Sys2Proof.Machine

/-! ### Codes and keys -/

/-- Codes of KEY_RESULT (R317). -/
abbrev kOk : Nat := 0
abbrev kSlot : Nat := 1
abbrev kParent : Nat := 2
abbrev kFormat : Nat := 3
abbrev kDevice : Nat := 4
abbrev kIntegrity : Nat := 5
abbrev kKcv : Nat := 6
abbrev kNoRoot : Nat := 7
abbrev kPolicy : Nat := 8
abbrev kBus : Nat := 9
abbrev kTamper : Nat := 10
abbrev kGrit : Nat := 11
abbrev kDrbg : Nat := 12
abbrev kReset : Nat := 13

/-- Provisioning states (KEY_STS.PROV). -/
abbrev provBlank : Nat := 0
abbrev provYes : Nat := 1
abbrev provZeroed : Nat := 2

def State.prov (s : State) : Nat := s.g R.KEY_STS.PROV

/-- What the cells of the keep-alive island hold of RS (R305, R320). -/
def State.rootCells (s : State) : Option (List Byte) := s.vault.rs.map Config.storedRoot

/-- The root key, while PROVISIONED. -/
def State.rootKey (s : State) : Option (List Byte) := if s.prov = provYes then s.vault.rs else none

/-- The transport key K_TR (R307). -/
def transportKey : List Byte := kdf Config.fuseSecret (label16 "MG48.TRANSPORT") (beBytes 8 Config.serial ++ List.replicate 8 0) 256

/-- The root wrap key K_RW of a root key (R307). -/
def rootWrap (rs : List Byte) : List Byte := kdf rs (label16 "MG48.ROOTWRAP") zero16 256

/-- The configuration key of a KEY_ID (R64, R307). -/
def cfgKey (rs keyId : List Byte) : List Byte := kdf rs (label16 "MG48.CFGKEY") keyId 256

/-- A label that R307 reserves. -/
def reservedLabel (l : List Byte) : Bool :=
  l.take 5 == "MG48.".toList.map (fun c => B8 c.toNat) || l.take 4 == "HKR.".toList.map (fun c => B8 c.toNat)

/-- Level events of the vault: NOROOT and LOSS_EXH (KEY_EVT). -/
def State.keyLevels (s : State) : State :=
  let s1 := if s.prov = provYes then s else s.ev R.KEY_EVT.NOROOT
  if s.vault.lossEpoch = 255 then s1.ev R.KEY_EVT.LOSS_EXH else s1

/-- What a fill puts into a slot (R310). -/
structure NewKey where
  key : List Byte
  use : Nat
  /-- the root, or a slot -/
  root : Bool
  parent : Nat
  deriving DecidableEq, Repr

/-- A parent is usable, permitted by bit `b` of USE and within depth (R310, R311); any USE where `b` is none. -/
def State.parentOk (s : State) (n : Nat) (b : Option Nat) : Bool :=
  s.usable n && (match b with | some k => s.slotUse n k | none => true) && decide (s.g (R.KEY_SLOT_CFG.DEPTH n) < 8)

/-- Slot `p` is `n` or one of its descendants. -/
def State.below (s : State) (n p : Nat) : Bool := p == n || (s.descendants 8 [n]).contains p

/-- Writes a key into a slot (R309, R310, R313): a replaced slot's GEN advances and its descendants are orphaned. -/
def State.fillSlot (s : State) (n : Nat) (k : NewKey) (repl : Bool) : State :=
  let gen := if repl then s.slotGen n + 1 else s.slotGen n
  let depth := if k.root then 1 else s.g (R.KEY_SLOT_CFG.DEPTH k.parent) + 1
  let pgen := if k.root then 0 else s.slotGen k.parent
  let cfg := slotValid * 2 ^ 29 + (if k.key.length = 32 then 2 ^ 28 else 0) + (k.use % 64) * 2 ^ 20 + depth % 16 * 2 ^ 16 +
    (if k.root then 2 ^ 15 else 0) + (if k.root then 0 else k.parent % 4096)
  let s1 := (((s.setKey n k.key).wr (R.KEY_SLOT_CFG n) (W cfg)).wr (R.KEY_SLOT_GEN n) (W (gen % 65536 * 65536 + pgen % 65536))).wr64
    (R.KEY_SLOT_KCV_LO n) (kcvOf k.key)
  let s2 := s1.bump R.KEY_FILL_LO
  if repl then s2.orphan n else s2

/-- The target of a fill (R316): EMPTY, or VALID with REPL. -/
def State.targetOk (s : State) (n : Nat) (repl : Bool) : Bool := s.slotState n == slotEmpty || (repl && s.slotState n == slotValid)

/-- A fill after its key is known (R309, R319): `differ` says that the two KCV computations disagree, `exp` the KCV a
replacement must have. -/
def State.tryFill (s : State) (n : Nat) (k : NewKey) (repl : Bool) (differ : Bool) (exp : Option Nat) : State × Nat :=
  let r := repl && s.slotState n == slotValid
  if r && !k.root && s.below n k.parent then (s, kParent)
  else if r && (differ || (match exp with | some v => v != kcvOf k.key | none => false)) then (s.bump R.KEY_REPL_FAIL_LO, kKcv)
  else if differ then (s, kGrit)
  else (s.fillSlot n k r, kOk)

/-! ### Blobs (R314, R315) -/

/-- The first blob checks (R315 steps 1 and 2), on the 32 header bytes. -/
def blobHead (h : List Byte) (provision : Bool) : Nat :=
  let flags := leAt h 5 1
  let wlen := leAt h 12 4
  let sel := leAt h 24 8
  if h.take 4 ≠ [0x48, 0x4B, 0x4B, 0x42] ∨ leAt h 4 1 ≠ 1 ∨ 1 < flags ∨ 63 < leAt h 6 2 ∨ leAt h 10 2 ≠ 0 ∨
      wlen ≠ (if flags = 1 then 72 else 56) ∨ (provision ∧ flags ≠ 1) then kFormat
  else if (provision ∧ sel ≠ Config.serial % 2 ^ 64) ∨ (!provision ∧ sel ≠ 0 ∧ sel ≠ Config.serial % 2 ^ 64) then kDevice
  else kOk

/-- The KEK a blob names (R315 step 3), or the code of its failure. -/
def State.blobKek (s : State) (h : List Byte) (provision : Bool) : Nat ⊕ List Byte :=
  let p := leAt h 8 2
  if provision then (if p = 0xFFFE then .inr transportKey else .inl kParent)
  else if p = 0xFFFF then
    match s.rootKey with
    | some rs => .inr (rootWrap rs)
    | none => .inl kNoRoot
  else if p < 4096 ∧ s.parentOk p (some useKek) then .inr (s.slotKey p)
  else .inl kParent

/-- The last blob checks (R315 steps 4 and 5): the key, or the code of the failure. -/
def blobOpen (kek h wrapped : List Byte) : Nat ⊕ List Byte :=
  match kwpUnwrap kek wrapped with
  | none => .inl kIntegrity
  | some m =>
    let n := if leAt h 5 1 = 1 then 32 else 16
    if m.length ≠ n + 32 ∨ m.drop n ≠ h then .inl kIntegrity
    else if kcvOf (m.take n) ≠ beAt h 16 8 then .inl kKcv
    else .inr (m.take n)

/-- A blob's key and what the slot takes of it. -/
def newOf (h key : List Byte) : NewKey := { key := key, use := leAt h 6 2, root := leAt h 8 2 = 0xFFFF, parent := leAt h 8 2 }

/-- A KEYBLOB record (R315): the code it ends with. -/
def State.keyBlob (s : State) (n : Nat) (blob : List Byte) (differ : Bool) : State × Nat :=
  let h := slice blob 0 32
  if s.slotState n ≠ slotEmpty then (s, kSlot)
  else if blobHead h false ≠ kOk then (s, blobHead h false)
  else if blob.length ≠ 32 + leAt h 12 4 then (s, kFormat)
  else
    match s.blobKek h false with
    | .inl c => (s, c)
    | .inr kek =>
      match blobOpen kek h (blob.drop 32) with
      | .inl c => (s, c)
      | .inr key => s.tryFill n (newOf h key) false differ none

/-! ### KEY_CMD (R316-R319) -/

/-- The command uses AES, and so a level 4 job (R286). -/
def keyJob (op : Nat) : Bool := op == 1 || op == 2 || op == 3 || op == 6

/-- KEY_CMD is accepted (R316, R329). -/
def State.keyCmdOk (s : State) (val : Word) : Bool :=
  let op := fieldOf val 25 5
  let n := fieldOf val 0 12
  decide (1 ≤ op) && decide (op ≤ 12) &&
    (match op with
     | 8 => decide (n < 8)
     | 9 => decide (n < 4)
     | 10 => decide (n < 4)
     | 11 => decide (n < 8)
     | 12 => decide (n < 512) && s.resState n == resLost && s.vault.lossEpoch != 255
     | _ => true)

/-- A command takes its arguments when it is written (R316). -/
def State.keyTake (s : State) (req : Nat) (val : Word) : KeyCmd :=
  { op := fieldOf val 25 5, root := bit val.toNat 24, parent := fieldOf val 12 12, slot := fieldOf val 0 12, req := req,
    repl := s.on R.KEY_NEW.REPL, size := s.on R.KEY_NEW.SIZE, use := s.g R.KEY_NEW.USE,
    arg := if req < 7 then ofWords (s.rdList (R.KEY_ARG req 0) 16) else [],
    src := s.rd64 R.KEY_SRC_LO, exp := s.rd64 R.KEY_EXP_KCV_LO }

/-- A command ends (R317). -/
def State.keyEnd (s : State) (code : Nat) : State :=
  let s1 := { s with vault := { s.vault with cmd := none } }.p R.KEY_RESULT.CODE code
  if code = kOk then (s1.setStat R.KEY_CMD statDone).ev R.KEY_EVT.CMD_DONE
  else ((s1.setStat R.KEY_CMD statFailed).ev R.KEY_EVT.CMD_FAIL).bump R.KEY_CMD_FAIL_LO

/-- A fill that replaces a key shows PEND while it runs (R319), and no longer once it has ended in any way. -/
def State.pendKey (s : State) (c : KeyCmd) (b : Bool) : State :=
  if (c.op = 1 ∨ c.op = 2 ∨ c.op = 3) ∧ c.repl ∧ (!b ∨ s.slotState c.slot = slotValid) then s.pb (R.KEY_SLOT_CFG.PEND c.slot) b else s

/-- DERIVE (R306, R316): the new key, or a code. -/
def State.derive (s : State) (c : KeyCmd) : Nat ⊕ NewKey :=
  let bits := if c.size then 256 else 128
  let label := slice c.arg 0 16
  let ctx := slice c.arg 16 16
  if c.root then
    match s.rootKey with
    | none => .inl kNoRoot
    | some rs => if reservedLabel label then .inl kParent else .inr { key := kdf rs label ctx bits, use := c.use % 64, root := true, parent := 0 }
  else if s.parentOk c.parent (some useKdk) then
    .inr { key := kdf (s.slotKey c.parent) label ctx bits, use := c.use % 64, root := false, parent := c.parent }
  else .inl kParent

/-- UNWRAP or PROVISION (R315): the header and the key, or a code; the blob is read at KEY_SRC. -/
def State.unwrap (s : State) (c : KeyCmd) (m : HostMem) (provision : Bool) : State × (Nat ⊕ (List Byte × List Byte)) :=
  match s.devRead m c.src 32 with
  | (s1, .inr _) => (s1, .inl kBus)
  | (s1, .inl h) =>
    if blobHead h provision ≠ kOk then (s1, .inl (blobHead h provision))
    else
      match s1.blobKek h provision with
      | .inl e => (s1, .inl e)
      | .inr kek =>
        if !provision && c.repl && s1.slotState c.slot == slotValid && leAt h 8 2 != 0xFFFF && s1.below c.slot (leAt h 8 2) then (s1, .inl kParent)
        else
        match s1.devRead m (c.src + 32) (leAt h 12 4) with
        | (s2, .inr _) => (s2, .inl kBus)
        | (s2, .inl w) =>
          match blobOpen kek h w with
          | .inl e => (s2, .inl e)
          | .inr key => (s2, .inr (h, key))

/-- INVALIDATE (R312). -/
def State.invalidate (s : State) (n : Nat) : State :=
  (((s.setKey n []).setSlotState n slotInvalid).inc (R.KEY_SLOT_GEN.GEN n)).orphan n

/-- The KCV of the current key of the generator of record `r` (R327, R328). -/
def State.recordKcv (s : State) (r : Nat) : Nat :=
  if r < 256 then s.slotKcv (s.entrySlot r (s.curEntry r)) else s.slotKcv (s.g (R.GW_CMA_ID.SLOT (r - 256)))

/-- The active image carries every algorithm of a policy (R322): FLAGS of its header; an image that is not there
carries none. -/
def State.imageMeets (s : State) (policy : Nat) : Bool :=
  s.loader.act.isEmpty || (policy &&& 3) == (policy &&& 3 &&& leAt s.loader.act 0x14 4)

/-- What a command does when it completes, and its code (R312-R323, R329). -/
def State.keyAct (s : State) (c : KeyCmd) (m : HostMem) (differ : Bool) : State × Nat :=
  match c.op with
  | 1 =>
    if !s.targetOk c.slot c.repl then (s, kSlot)
    else match s.derive c with
      | .inl e => (s, e)
      | .inr k => s.tryFill c.slot k c.repl differ (some c.exp)
  | 2 =>
    if !s.targetOk c.slot c.repl then (s, kSlot)
    else match s.unwrap c m false with
      | (s1, .inl e) => (s1, e)
      | (s1, .inr (h, key)) => s1.tryFill c.slot (newOf h key) c.repl differ (some c.exp)
  | 3 =>
    if !s.targetOk c.slot c.repl then (s, kSlot)
    else if !c.root && !s.parentOk c.parent none then (s, kParent)
    else if s.g R.CRY_DRBG_STS.STATE = drbgFail then (s, kDrbg)
    else
      match s.randomBytes (if c.size then 32 else 16) with
      | (s1, none) => (s1, kDrbg)
      | (s1, some key) => s1.tryFill c.slot { key := key, use := c.use % 64, root := c.root, parent := c.parent } c.repl differ none
  | 4 => if s.slotState c.slot = slotValid then (s.invalidate c.slot, kOk) else (s, kSlot)
  | 5 =>
    if s.slotState c.slot = slotValid ∨ s.slotState c.slot = slotEmpty then (s, kSlot)
    else (((s.setKey c.slot []).setSlotState c.slot (if s.worn.slots.contains c.slot then slotZeroed else slotEmpty)).orphan c.slot, kOk)
  | 6 =>
    if s.prov = provYes then (s, kSlot)
    else match s.unwrap c m true with
      | (s1, .inl e) => (s1, e)
      | (s1, .inr (_, key)) =>
        if differ then (s1, kGrit)
        else
          let s2 := { s1 with vault := { s1.vault with rs := some key } }
          ((((s2.p R.KEY_STS.PROV provYes).inc R.KEY_STS.PROV_CNT).wr64 R.KEY_ROOT_KCV_LO (kcvOf key)).bump R.KEY_FILL_LO, kOk)
  | 8 =>
    let i := 4 * (c.slot / 4 % 2) + c.slot % 4
    if (s.vault.signers.find? i).isSome then (s, kSlot)
    else ({ s with vault := { s.vault with signers := s.vault.signers.put i (slice c.arg 0 32) } }, kOk)
  | 9 =>
    let i := c.slot % 4
    if !s.loader.act.isEmpty && leAt s.loader.act 0x3C 1 == i then (s, kPolicy)
    else ({ s with vault := { s.vault with revoked := setBit s.vault.revoked i true } }, kOk)
  | 10 =>
    let p := s.vault.policy ||| (c.slot % 4)
    if s.imageMeets p then ({ s with vault := { s.vault with policy := p } }, kOk) else (s, kPolicy)
  | 11 => ({ s with vault := { s.vault with locks := s.vault.locks ||| (c.slot % 8) } }, kOk)
  | 12 =>
    (((s.wr64 (R.KEY_RES_LO c.slot) s.bandBase).p (R.KEY_RES_STS.STATE c.slot) resValid).setResKcv c.slot (s.recordKcv c.slot), kOk)
  | _ => (s, kOk)

/-- The job at work for user `u` of the vault, with the core it runs on. -/
def State.coreOf (s : State) (u : JobUser) : Option (Nat × Job) := List.find? (fun (p : Nat × Job) => p.2.user == u) s.working

/-- The vault's job, with its core, and the core in another tile that computes the KCV again (R309), once both are at work. -/
def State.vaultCores (s : State) : Option (Nat × Job × Nat) :=
  match s.coreOf .vault, s.coreOf .vaultKcv with
  | some (n, j), some (m, _) => some (n, j, m)
  | _, _ => none

/-- The jobs of a fill join level 4: the computation, and that of its KCV on a core of another tile (R286, R309). -/
def State.vaultEnqueue (s : State) (slot : Nat) : State :=
  (s.enqueue { level := 4, user := .vault, slot := slot, blocks := 16 }).enqueue { level := 4, user := .vaultKcv, slot := noSlot, blocks := 2 }

/-- Takes the vault's jobs from the pool. -/
def State.dropVaultJob (s : State) : State := s.dropJobs (fun j => j.user == .vault || j.user == .vaultKcv)

/-- The command in progress waits for the sweep (R312). -/
def State.waitsSweep (s : State) (c : KeyCmd) : Bool :=
  s.on R.KEY_STS.SWEEP && (c.op == 4 || ((c.op == 1 || c.op == 2 || c.op == 3) && c.repl && s.slotState c.slot == slotValid))

/-- A KEY_CMD completes (R316, R317): one that uses AES only once its jobs are on their cores. `differ`: the two KCV
computations of R309 disagree. -/
def State.keyComplete (s : State) (m : HostMem) (differ : Bool) : State :=
  match s.vault.cmd with
  | none => s
  | some c =>
    if s.waitsSweep c then s
    else if keyJob c.op then
      match s.vaultCores with
      | none => s
      | some (n, j, k) =>
        let s1 := ((s.endJob n j).freeCore k).pendKey c false
        if j.nokey then s1.keyEnd kParent
        else let r := s1.keyAct c m differ; r.1.keyEnd r.2
    else let r := s.keyAct c m differ; r.1.keyEnd r.2

/-- The vault's command fails with its job (R298). -/
def State.keyAbort (s : State) (code : Nat) : State :=
  match s.vault.cmd with
  | some c => ((s.pendKey c false).dropVaultJob).keyEnd code
  | none => s.dropVaultJob

/-! ### Tamper (R324-R326) -/

/-- The core die runs: its supplies are good and no reset holds it. -/
def State.coreUp (s : State) : Bool := s.pins.pwrGood && s.pins.resetN

/-- A tamper source is watched (R324). -/
def State.tamperWatched (s : State) (src : Nat) : Bool :=
  if src = 5 ∨ src = 6 then true
  else if src = 4 then bit (s.g R.KEY_TAMP_EN.EN) 4 && s.on R.GLB_LOCK.TAP && s.coreUp
  else decide (src < 4) && bit (s.g R.KEY_TAMP_EN.EN) src

/-- RS is zeroed (R321, R325). -/
def State.zeroRoot (s : State) : State :=
  if s.prov = provYes then
    let s1 := { s with vault := { s.vault with rs := none } }
    (s1.p R.KEY_STS.PROV provZeroed).wr64 R.KEY_ROOT_KCV_LO 0
  else s

/-- A tamper-log entry (R326). -/
def State.tamperLog (s : State) (src : Nat) : State :=
  let k := s.g R.KEY_TLOG_PTR.NEXT
  let total := (s.g R.KEY_TLOG_PTR.TOTAL + 1) % 65536
  ((((s.wr (R.KEY_TLOG_LO k) (s.rd R.KEY_KA_TIME)).wr (R.KEY_TLOG_HI k) (W (total % 256 * 65536 + 2 ^ src))).p R.KEY_TLOG_PTR.TOTAL total).p
    R.KEY_TLOG_PTR.NEXT (k + 1)).bump R.KEY_TAMPER_LO

/-- Every slot but the EMPTY ones is zeroed (R313, R325). -/
def State.zeroSlots (s : State) : State :=
  let s1 := s.each s.slots (fun n t => t.setSlotState n slotZeroed)
  { s1 with vault := { s1.vault with keys := [], masks := [] } }

/-- Jobs in progress lose their keys (R325), those that wait to be started again or for their next segment too: hardware jobs
are lost; the others compute nothing more, and end without their key (log 66). -/
def State.zeroJobs (s : State) : State :=
  let run := s.grit.running
  let wait := s.grit.waiting.filter (fun j => decide (j.level ≤ 3) && j.started)
  let bare := fun (j : Job) => if 4 ≤ j.level ∧ j.slot ≠ noSlot ∧ j.unit ≤ 1 ∧ j.started then { j with nokey := true, key := [], blocks := 0 } else j
  let s1 := { s with grit := { s.grit with running := List.map (fun (p : Nat × Job) => (p.1, bare p.2)) run,
                                           waiting := (s.grit.waiting.filter (fun j => !wait.contains j)).map bare } }
  let s2 := s1.each (List.filter (fun (p : Nat × Job) => decide (p.2.level ≤ 3)) run) (fun p t => (t.endJob p.1 p.2).jobLost p.2)
  s2.each wait (fun j t => t.jobLost j)

/-- A tamper source is detected (R325): with the core die down, the island zeroes RS and writes the log, and the die
sees it at its next start. -/
def State.tamper (s : State) (src : Nat) : State :=
  if !s.tamperWatched src then s
  else
    let s1 := (s.zeroRoot.tamperLog src)
    if !s.coreUp then { s1 with vault := { s1.vault with tampered := true } }
    else
      let s2 := ((s1.zeroSlots.zeroJobs.ev R.KEY_EVT.TAMPER).fault 208 (faultInfo 6 src 0)).keyLevels
      match s2.vault.cmd with
      | some c => if c.op = 7 then s2 else s2.keyAbort kTamper
      | none => s2

/-- A write of KEY_CMD (R316): guarded, one command at a time. -/
def State.keyWrite (s : State) (req : Nat) (val : Word) : State :=
  s.command req R.KEY_CMD val (s.keyCmdOk val) statBusy (fun u =>
    let c := u.keyTake req val
    let s1 := { u with vault := { u.vault with cmd := some c } }.pendKey c true
    let slot := if c.op = 1 ∧ !c.root then c.parent else noSlot
    if keyJob c.op then s1.vaultEnqueue slot
    else if c.op = 7 then s1.tamper 6
    else s1)

/-- Such a write at its requester's port. -/
def State.keyCommand (s : State) (req : Nat) (val : Word) : State :=
  s.byPort req R.KEY_CMD val true (fun t => t.keyWrite req val)

/-- The value of a KEY_CMD write for an operation: `val` with OP in its place. -/
def keyVal (val : Word) (op : Nat) : Word := withField val 25 5 op

/-- The sweeper has zeroed the material of every orphan (R312). -/
def State.sweepDone (s : State) : State :=
  if s.on R.KEY_STS.SWEEP then (s.each (s.slots.filter (fun n => s.slotState n == slotOrphaned)) (fun n t => t.setKey n [])).p R.KEY_STS.SWEEP 0
  else s

/-- A ceiling write completes, and the frames that waited go on (R193, R328). -/
def State.reservationDone (s : State) (r : Nat) : State :=
  if (s.vault.adv.find? r).isNone then s
  else let s1 := s.advanceDone r; if r < 256 then s1.resumeGen r else s1.cmaResume (r - 256)

/-- A write of STR_ROLL: a change of CUR while the generator is enabled keeps the ceiling and records the new KCV (R328). -/
def State.strRollWrite (s : State) (n : Nat) (val : Word) : State :=
  let s1 := s.store (R.STR_ROLL n) val
  if s1.curEntry n != s.curEntry n && s.ctxState n != ctxDisabled && (s.ctx n).auth == 3 then s1.setResKcv n (s1.recordKcv n) else s1

/-! ### Resets (R334) -/

/-- Registers of KEY that the keep-alive store holds. -/
def keyKept (a : Nat) : Bool :=
  (decide (0x1D00100 ≤ a) && decide (a < 0x1D00200)) || a == R.KEY_TAMPER_LO || a == R.KEY_TAMPER_LO + 4 ||
    (decide (0x1D01000 ≤ a) && decide (a < 0x1D03000)) || a == R.KEY_ROOT_KCV_LO || a == R.KEY_ROOT_KCV_LO + 4

/-- Slots, commands and registers as a reset leaves them; the keep-alive contents stay (R334). -/
def State.keyClear (s : State) : State :=
  let sts := (s.rd R.KEY_STS) &&& 0xE000FFFF
  let s1 := (s.dropVaultJob.resetRegs (fun a => regionOf a == 11 && !keyKept a)).wr R.KEY_STS sts
  let s2 := s1.dropJobs (fun j => j.user == .attest)
  { s2 with vault := { s2.vault with keys := [], masks := [], cmd := none, att := none } }

/-- The soft reset of KEY (R318, R334, R460). -/
def State.keySoftReset (s : State) : State :=
  let shown := (s.rd R.KEY_CMD) &&& 0x3FFFFFFF
  let busy := s.vault.cmd.isSome
  let s1 := { s.keyClear.keyLevels with worn := { s.worn with slots := [] } }
  if busy then (s1.wr R.KEY_CMD shown).keyEnd kReset else s1

/-! ### Meanings -/

/-- DERIVE (R316): a write of KEY_CMD with that OP; the other fields are those of `val`. -/
def execKeyDerive (req : Nat) (val : Word) (s : State) : Host.Outcome State Fault Refusal := done s (s.keyCommand req (keyVal val 1))
/-- UNWRAP (R316). -/
def execKeyUnwrap (req : Nat) (val : Word) (s : State) : Host.Outcome State Fault Refusal := done s (s.keyCommand req (keyVal val 2))
/-- GENERATE (R316). -/
def execKeyGenerate (req : Nat) (val : Word) (s : State) : Host.Outcome State Fault Refusal := done s (s.keyCommand req (keyVal val 3))
/-- INVALIDATE (R312). -/
def execKeyInvalidate (req : Nat) (val : Word) (s : State) : Host.Outcome State Fault Refusal := done s (s.keyCommand req (keyVal val 4))
/-- FREE (R313). -/
def execKeyFree (req : Nat) (val : Word) (s : State) : Host.Outcome State Fault Refusal := done s (s.keyCommand req (keyVal val 5))
/-- PROVISION (R321). -/
def execKeyProvision (req : Nat) (val : Word) (s : State) : Host.Outcome State Fault Refusal := done s (s.keyCommand req (keyVal val 6))
/-- ZEROISE (R324). -/
def execKeyZeroise (req : Nat) (val : Word) (s : State) : Host.Outcome State Fault Refusal := done s (s.keyCommand req (keyVal val 7))
/-- FUSE_SIGNER (R322). -/
def execFuseSigner (req : Nat) (val : Word) (s : State) : Host.Outcome State Fault Refusal := done s (s.keyCommand req (keyVal val 8))
/-- FUSE_REVOKE (R322). -/
def execFuseRevoke (req : Nat) (val : Word) (s : State) : Host.Outcome State Fault Refusal := done s (s.keyCommand req (keyVal val 9))
/-- FUSE_POLICY (R322). -/
def execFusePolicy (req : Nat) (val : Word) (s : State) : Host.Outcome State Fault Refusal := done s (s.keyCommand req (keyVal val 10))
/-- FUSE_LOCK (R323). -/
def execFuseLock (req : Nat) (val : Word) (s : State) : Host.Outcome State Fault Refusal := done s (s.keyCommand req (keyVal val 11))
/-- RES_INIT (R329). -/
def execResInit (req : Nat) (val : Word) (s : State) : Host.Outcome State Fault Refusal := done s (s.keyCommand req (keyVal val 12))

/-- KEY_COMMAND_COMPLETE (R317): with the host bytes a blob read may meet. -/
def execKeyCommandComplete (host : List (Nat × BitVec 8)) (differ : Bool) (s : State) : Host.Outcome State Fault Refusal :=
  done s (s.keyComplete host differ)

/-- ORPHAN_SWEEP_DONE (R312). -/
def execOrphanSweepDone (s : State) : Host.Outcome State Fault Refusal := done s s.sweepDone

/-- SHARE_RERANDOMISE (R320): the shares change under fresh DRBG output, and the keys stay; not where the DRBG gives none. -/
def execShareRerandomise (s : State) : Host.Outcome State Fault Refusal :=
  done s (let r := s.drbgAsk; if r.2 then r.1.reshare else r.1)

/-- TAMPER_DETECTED (R325): `present` says that the condition is still there (KEY_TAMP_STS). -/
def execTamperDetected (src : Nat) (present : Bool) (s : State) : Host.Outcome State Fault Refusal :=
  let k := src % 7
  done s ((s.p R.KEY_TAMP_STS.LVL (setBit (s.g R.KEY_TAMP_STS.LVL) k present)).tamper k)

/-- RESERVATION_ADVANCE_DONE (R328). -/
def execReservationAdvanceDone (record : Nat) (s : State) : Host.Outcome State Fault Refusal := done s (s.reservationDone (record % 512))

end Sys2Proof.Machine
end

