-- ==== Sys2Proof/Machine/Sleep.lean ====
section
/-! DEFINITION. Transceiver modes, wake detection and reporting, the sleep master (14, R359-R375). -/

namespace Sys2Proof.Machine

/-- Transceiver states of PWR_TRX_STS.STATE (R359). -/
abbrev trxOff : Nat := 0
abbrev trxWupSleep : Nat := 1
abbrev trxSw : Nat := 2
abbrev trxSilent : Nat := 3
abbrev trxNormal : Nat := 4
abbrev trxWoken : Nat := 5

/-- States of PWR_SLP_STS.STATE (R366). -/
abbrev slpAwake : Nat := 0
abbrev slpPreparing : Nat := 1
abbrev slpReady : Nat := 2
abbrev slpCommitting : Nat := 3
abbrev slpAsleep : Nat := 4
abbrev slpWaking : Nat := 5

/-- Reasons of PWR_SLP_STS.REASON. -/
abbrev whyWake : Nat := 1
abbrev whyTimeout : Nat := 2
abbrev whyAbort : Nat := 3
abbrev whyLink : Nat := 4
abbrev whyReset : Nat := 5

def State.slpState (s : State) : Nat := s.g R.PWR_SLP_STS.STATE
def State.setSlp (s : State) (v : Nat) : State := s.p R.PWR_SLP_STS.STATE v
def State.modSlp (s : State) (f : Slp → Slp) : State := { s with slp := f s.slp }
def State.trx (s : State) (c : Nat) : Nat := s.g (R.PWR_TRX_STS.STATE c)

/-! ### Transceivers (R359-R362) -/

/-- A mode as written: 5-7 act as 1 (PWR_TRX_CFG.MODE). -/
def trxMode (m : Nat) : Nat := if m ≤ 4 then m else 1

/-- The registers of transceiver `c` that its decoder uses. -/
def State.swRegs (s : State) (c : Nat) : List Word :=
  [s.rd (R.PWR_TRX_CFG c), s.rd (R.PWR_TRX_ID c), s.rd (R.PWR_TRX_IDM c), s.rd (R.PWR_TRX_DATA_LO c), s.rd (R.PWR_TRX_DATA_HI c)]

/-- A wake-up frame configuration is invalid (R362). -/
def swBad (l : List Word) : Bool :=
  let w := l.getD 0 0
  (bit w.toNat 25 && decide (8 < fieldOf w 21 4)) || (bit w.toNat 20 && l.getD 3 0 == 0 && l.getD 4 0 == 0)

/-- A classical frame matches a wake-up frame configuration (R362). -/
def swMatch (l : List Word) (ide rtr : Bool) (id dlc : Nat) (data : List Byte) : Bool :=
  let w := l.getD 0 0
  let diff := (id ^^^ (l.getD 1 0).toNat) &&& (l.getD 2 0).toNat
  let n := min 8 dlc
  bit w.toNat 26 == ide && diff % (if ide then 2 ^ 29 else 2 ^ 11) == 0 && (!bit w.toNat 25 || fieldOf w 21 4 == dlc) &&
    (!bit w.toNat 20 || (!rtr && decide (1 ≤ dlc) && decide (dlc ≤ 8) &&
      (leNat (slice data 0 n) &&& ((l.getD 3 0).toNat + 2 ^ 32 * (l.getD 4 0).toNat)) != 0))

/-- The transceiver takes a mode (R359, R360, R362): a controller that loses normal mode integrates again (R209). -/
def State.trxSet (s : State) (c m : Nat) : State :=
  let regs := s.swRegs c
  let s1 := (((s.p (R.PWR_TRX_STS.STATE c) m).pb (R.PWR_TRX_STS.BIAS c) (decide (trxSilent ≤ m))).p (R.PWR_TRX_STS.ERRCNT c) 0).pb
    (R.PWR_TRX_STS.SW_CFG_ERR c) (m == trxSw && swBad regs)
  let s2 := if m = trxSw then
      (s1.modSlp (fun x => { x with sampled := x.sampled.set (fun _ => []) c regs })).when (swBad regs) (fun t => t.ev R.PWR_SLP_EVT.SW_CFG_ERR)
    else s1
  if s.trx c = trxNormal ∧ m ≠ trxNormal then s2.canBusLost c else s2

/-- A write of PWR_TRX_CFG (R360); one of the mode the transceiver is in enters no mode, and samples nothing (R362). -/
def State.trxCfgWrite (s : State) (c : Nat) (val : Word) : State :=
  let s1 := s.store (R.PWR_TRX_CFG c) val
  let m := trxMode (fieldOf val 29 3)
  if s.trx c = m then s1 else s1.trxSet c m

/-- A transceiver leaves for SLEEP_WUP with MODE reading so (R14, R360, R373). -/
def State.trxStandby (s : State) (c : Nat) : State := (s.p (R.PWR_TRX_CFG.MODE c) trxWupSleep).trxSet c trxWupSleep

/-! ### MDIO lists (R367, R368) -/

/-- The valid MAC_SLP_MDIO entries of a phase, in index order, with their master. -/
def State.slpEntries (s : State) (phase : Nat) : List (Nat × MdioAcc) :=
  (List.range 32).filterMap (fun k =>
    if s.on (R.MAC_SLP_MDIO_A.VALID k) && s.g (R.MAC_SLP_MDIO_A.PHASE k) == phase then
      let cl45 := s.on (R.MAC_SLP_MDIO_A.CL45 k)
      let dev := s.g (R.MAC_SLP_MDIO_A.DEVAD k)
      some (s.g (R.MAC_SLP_MDIO_A.M k),
        { cl45 := cl45, write := true, prt := s.g (R.MAC_SLP_MDIO_A.PRTAD k), dev := if cl45 then dev else 0,
          reg := if cl45 then s.g (R.MAC_SLP_MDIO_B.REG k) else dev, data := s.g (R.MAC_SLP_MDIO_B.DATA k), sleep := phase == 0 })
    else none)

/-- The entries of a phase are handed to their masters, where PHY_EN is set. -/
def State.slpMdio (s : State) (phase : Nat) : State :=
  if !s.on R.PWR_SLP_MASK.PHY_EN then s
  else
    let l := s.slpEntries phase
    let s1 := s.each l (fun p t => t.mdioWork p.1 (fun d => { d with writes := d.writes ++ [p.2] }))
    if phase = 0 then s1.modSlp (fun x => { x with mdio := l.length }) else s1

/-- Sleep-phase entries not started are dropped; one in progress completes first (R371). -/
def State.slpMdioDrop (s : State) : State :=
  (s.each [0, 1] (fun m t => t.modMdio m (fun d =>
    let busy := d.started && d.writing
    let keep := if busy then d.writes.take 1 else []
    let rest := if busy then d.writes.drop 1 else d.writes
    { d with writes := keep ++ rest.filter (fun a => !a.sleep) }))).modSlp (fun x => { x with mdio := 0 })

/-! ### The sleep master (R366-R370) -/

/-- The command of PWR_SLP_CMD that runs ends with a STAT code. -/
def State.slpStat (s : State) (v : Nat) : State := if s.stat R.PWR_SLP_CMD = statBusy then s.setStat R.PWR_SLP_CMD v else s

/-- Back to AWAKE with a reason; counted (R366). -/
def State.slpBack (s : State) (why : Nat) : State :=
  ((((s.setSlp slpAwake).p R.PWR_SLP_STS.REASON why).bump R.PWR_SLP_ABORT_LO).ev R.PWR_SLP_EVT.ABORT).slpStat statFailed

/-- An abort of PREPARE or READY (R368): announcements not started are cancelled, the wake-phase entries run. -/
def State.slpAbort (s : State) (why : Nat) : State :=
  let s1 := s.each s.slp.ann (fun c t => t.canAbort c (t.g (R.PWR_SLP_ANN.OBJ c)))
  (((s1.modSlp (fun x => { x with ann := [] })).slpMdioDrop).slpBack why).slpMdio 1

/-- A wake in COMMIT (R370): modes and CAN_CFG.EN of the sleeping buses return, the wake-phase entries run. -/
def State.slpRestore (s : State) : State :=
  let s1 := s.slpBack whyWake
  let s2 := s1.each s.slp.saved (fun p t =>
    let u := t.trxSet p.1 p.2.2
    if p.2.1 then u.canCfgWrite reqHost p.1 (u.rd (R.CAN_CFG p.1) ||| 0x80000000) else u)
  (s2.modSlp (fun x => { x with saved := [] })).slpMdio 1

/-- SLEEP ends for WAKING (R365, R366): INH rises, PWR_WK_SLEPT tells how long SLEEP lasted. -/
def State.slpWake (s : State) : State :=
  ((s.setSlp slpWaking).wr R.PWR_WK_SLEPT (W ((s.tick - s.slp.since) / 500000000))).modSlp (fun x => { x with inh := true })

/-- A wake is latched (R365): code, index, bit of PWR_WK_SRC. -/
def State.wakeLatch (s : State) (code idx b : Nat) : State :=
  let s1 := (s.wr R.PWR_WK_SRC (W (setBit (s.rd R.PWR_WK_SRC).toNat b true))).ev R.PWR_SLP_EVT.WAKE
  let s2 := if s.slp.firstFree then
      ((s1.p R.PWR_WK_FIRST.CODE code).p R.PWR_WK_FIRST.IDX idx).modSlp (fun x => { x with firstFree := false })
    else s1
  match s.slpState with
  | 1 | 2 => s2.slpAbort whyWake
  | 3 => s2.slpRestore
  | 4 => s2.slpWake
  | _ => s2

/-- Level inputs that are active latch (R363, R366). -/
def State.levelWakes (s : State) : State :=
  s.each (List.range 4) (fun i t =>
    let ty := t.g (R.PWR_WK_CFG.TYPE i)
    let high := bit t.slp.level i
    if t.on (R.PWR_WK_CFG.EN i) && ((ty == 3 && high) || (ty == 4 && !high)) then t.wakeLatch 5 i (16 + i) else t)

/-- PREPARE (R366, R367). -/
def State.slpPrepare (s : State) : State :=
  let s1 := ((((s.setSlp slpPreparing).p R.PWR_SLP_STS.QUIET 0).wr R.PWR_WK_SRC 0).wr R.PWR_WK_FIRST 0).modSlp (fun x => { x with firstFree := true })
  let buses := (bitsOf 16 (s.g R.PWR_SLP_MASK.BUS)).filter (fun c => s.on (R.PWR_SLP_ANN.EN c))
  let live := buses.filter (fun c => s.canState c == canActive || s.canState c == canPassive)
  let s2 := (s1.modSlp (fun x => { x with ann := live })).each buses (fun c t =>
    let i := t.g (R.PWR_SLP_ANN.OBJ c)
    (t.p (R.CAN_TXO_W1.REQ c i) 1).request c i)
  (s2.slpMdio 0).levelWakes

/-- The reservation step of the save engine (R330): advances in progress complete, then every valid record whose F lies
above C - 2^19 advances. -/
def State.saveReservations (s : State) : State :=
  let s1 := s.each (s.vault.adv.map (·.1)) (fun r t => t.reservationDone r)
  s1.each (List.range 512) (fun r t =>
    let f := if r < 256 then t.rd64 (R.STR_FRESH_LO r) else t.rd64 (R.GW_CMA_FRESH_LO (r - 256))
    if t.resState r = resValid ∧ t.ceiling r < f + 2 ^ 19 then (t.startAdvance r (t.ceiling r + 2 ^ 20)).reservationDone r else t)

/-- COMMIT (R369): reservations and HIGH, then controllers off and transceivers asleep, every channel OFF. -/
def State.slpCommit (s : State) : State :=
  let s1 := (s.setSlp slpCommitting).saveReservations.highPersist
  let buses := bitsOf 16 (s.g R.PWR_SLP_MASK.BUS)
  let saved := buses.map (fun c => (c, s.on (R.CAN_CFG.EN c), s.trx c))
  let s2 := (s1.modSlp (fun x => { x with saved := saved })).each buses (fun c t =>
    let m := trxMode (t.g (R.PWR_TRX_CFG.MODE c))
    (t.canCfgWrite reqHost c (t.rd (R.CAN_CFG c) &&& 0x7FFFFFFF)).trxSet c (if trxSilent ≤ m then trxWupSleep else m))
  s2.each (List.range 24) (fun n t => t.ldCmdOff n)

/-- INH falls (R369): INH_DLY_MS after COMMIT, every channel OFF, no save running. -/
def State.inhFall (s : State) : State :=
  if s.slpState = slpCommitting ∧ (List.range 24).all (fun n => s.ldState n == ldOff) ∧ s.g R.PWR_SUP_STS.SAVE ≠ 1 then
    (((s.setSlp slpAsleep).slpStat statDone).bump R.PWR_SLEEP_LO).modSlp (fun x => { x with inh := false, since := s.tick, saved := [] })
  else s

/-- WAKING without a start (R366): back to SLEEP; an active level input wakes again at once. -/
def State.moduleFailSafe (s : State) : State :=
  if s.slpState = slpWaking then
    ((((s.setSlp slpAsleep).bump R.PWR_MOD_FS_LO).wr R.PWR_WK_SRC 0).modSlp
      (fun x => { x with inh := false, modFs := true, since := s.tick })).levelWakes
  else s

/-- A write of PWR_SLP_CMD past its guard (R48, R366): ABORT also ends a PREPARE that runs. -/
def State.slpCommand (s : State) (req : Nat) (val : Word) : State :=
  let op := fieldOf val 0 2
  let st := s.slpState
  if op = 3 ∧ (st = slpPreparing ∨ st = slpReady) then
    ((s.setStat R.PWR_SLP_CMD statFailed).slpAbort whyAbort).putCmd R.PWR_SLP_CMD val statDone
  else
    s.command req R.PWR_SLP_CMD val ((op == 1 && st == slpAwake) || (op == 2 && st == slpReady)) statBusy (fun t =>
      if op = 1 then t.slpPrepare else t.slpCommit)

/-- The core die has reached RUN or DEGRADED: WAKING ends (R366). -/
def State.slpCoreUp (s : State) : State := if s.slpState = slpWaking then s.setSlp slpAwake else s

/-- PREPARE and READY end when the link is lost or the core die is reset (R366, R373). -/
def State.slpBreak (s : State) (why : Nat) : State :=
  if s.slpState = slpPreparing ∨ s.slpState = slpReady then s.slpAbort why else s

/-! ### Wake events (R361-R365) -/

/-- A sleeping transceiver wakes (R360, R365). -/
def State.trxWake (s : State) (c code : Nat) : State :=
  (((s.p (R.PWR_TRX_STS.STATE c) trxWoken).p (R.PWR_TRX_STS.BIAS c) 1).bump (R.PWR_TRX_WAKE_LO c)).wakeLatch code c c

/-- The decoder of transceiver `c` runs: SLEEP_SW with a valid configuration (R362). -/
def State.decoding (s : State) (c : Nat) : Bool := s.trx c == trxSw && !s.on (R.PWR_TRX_STS.SW_CFG_ERR c)

/-- A bus that sleeps at COMMIT has its traffic decoded in PREPARE and READY (R367). -/
def State.decodingAwake (s : State) (c : Nat) : Bool :=
  (s.slpState == slpPreparing || s.slpState == slpReady) && bit (s.g R.PWR_SLP_MASK.BUS) c && s.g (R.PWR_TRX_CFG.MODE c) == trxSw &&
    !swBad (s.swRegs c)

/-- An error-free classical frame reaches a decoder (R362, R367). -/
def State.wakeFrame (s : State) (c : Nat) (ide rtr : Bool) (id dlc : Nat) (data : List Byte) : State :=
  if s.decoding c then
    let s1 := (s.p (R.PWR_TRX_STS.ERRCNT c) (s.g (R.PWR_TRX_STS.ERRCNT c) - 1)).p (R.PWR_TRX_STS.BIAS c) 1
    if swMatch (s.slp.sampled.get (fun _ => []) c) ide rtr id dlc data then s1.trxWake c 3 else s1
  else if s.decodingAwake c && swMatch (s.swRegs c) ide rtr id dlc data then s.wakeLatch 3 c c
  else s

/-- `n` frames with an error reach a decoder (R362); in PREPARE and READY they are not counted (R367). -/
def State.decoderErrors (s : State) (c n : Nat) : State :=
  if !s.decoding c || s.decodingAwake c then s
  else
    let k := min 32 (s.g (R.PWR_TRX_STS.ERRCNT c) + n)
    let s1 := (s.p (R.PWR_TRX_STS.ERRCNT c) k).p (R.PWR_TRX_STS.BIAS c) 1
    if k = 32 then s1.trxWake c 4 else s1

/-- A filtered change of WAKE input `i` (R363). -/
def State.wakePin (s : State) (i : Nat) (high : Bool) : State :=
  if bit s.slp.level i = high then s
  else
    let s1 := s.modSlp (fun x => { x with level := setBit x.level i high })
    let ty := s.g (R.PWR_WK_CFG.TYPE i)
    let hit := match ty with
      | 1 | 4 => !high
      | 2 => true
      | _ => high
    if s.on (R.PWR_WK_CFG.EN i) && hit then s1.wakeLatch 5 i (16 + i) else s1

/-- FS_MS passes in WOKEN (R360): the sleep mode last written. -/
def State.trxFailSafe (s : State) (c : Nat) : State :=
  if s.trx c = trxWoken then
    ((s.trxSet c (if s.g (R.PWR_TRX_CFG.MODE c) = trxSw then trxSw else trxWupSleep)).bump (R.PWR_TRX_FS_LO c)).ev R.PWR_SLP_EVT.TRX_FS
  else s

/-! ### Soft reset (R373) -/

/-- A register of the sleep master or of a transceiver that soft reset returns to its Reset value (R373); the wake
reports and the counters stay. -/
def slpReg (a : Nat) : Bool :=
  (decide (0x1E00000 ≤ a) && decide (a < 0x1E000A8) && a != R.PWR_WK_SRC && a != R.PWR_WK_FIRST && a != R.PWR_WK_SLEPT) ||
    (decide (0x1E04000 ≤ a) && decide (a < 0x1E04400))

/-- Soft reset of PWR, the sleep part (R373). -/
def State.slpSoftReset (s : State) : State :=
  let s1 := (s.slpBreak whyReset).each (List.range 16) (fun c t => t.trxStandby c)
  let st := s1.rd R.PWR_SLP_STS
  (s1.resetRegs slpReg).wr R.PWR_SLP_STS st

/-! ### Meanings -/

/-- WUP (R361). -/
def execTrxWup (c : Nat) (s : State) : Host.Outcome State Fault Refusal :=
  done s (if s.trx (c % 16) = trxWupSleep ∨ s.trx (c % 16) = trxSw then s.trxWake (c % 16) 2 else s)

/-- WUF (R362). -/
def execTrxWuf (c : Nat) (ide rtr : Bool) (id dlc : Nat) (data : List Byte) (s : State) : Host.Outcome State Fault Refusal :=
  done s (s.wakeFrame (c % 16) ide rtr id dlc data)

/-- FDERR (R362). -/
def execTrxFderr (c n : Nat) (s : State) : Host.Outcome State Fault Refusal := done s (s.decoderErrors (c % 16) n)

/-- BUS_IDLE_BIAS_RETURN (R362). -/
def execBusIdleBiasReturn (c : Nat) (s : State) : Host.Outcome State Fault Refusal :=
  done s (if s.trx (c % 16) = trxSw then (s.p (R.PWR_TRX_STS.BIAS (c % 16)) 0).p (R.PWR_TRX_STS.ERRCNT (c % 16)) 0 else s)

/-- PIN (R363). -/
def execWakePin (pin : Nat) (high : Bool) (s : State) : Host.Outcome State Fault Refusal := done s (s.wakePin (pin % 4) high)

/-- TIMER (R364). -/
def execWakeTimer (s : State) : Host.Outcome State Fault Refusal :=
  done s (if s.slpState = slpAsleep ∧ s.rd R.PWR_SLP_TIMER ≠ 0 then s.wakeLatch 6 0 20 else s)

/-- TRX_FS (R360). -/
def execTrxFs (c : Nat) (s : State) : Host.Outcome State Fault Refusal := done s (s.trxFailSafe (c % 16))

/-- BUS_SILENCE (R367). -/
def execBusSilence (c : Nat) (s : State) : Host.Outcome State Fault Refusal :=
  done s (if s.slpState = slpPreparing ∧ bit (s.g R.PWR_SLP_MASK.BUS) (c % 16) then
    s.p R.PWR_SLP_STS.QUIET (setBit (s.g R.PWR_SLP_STS.QUIET) (c % 16) true) else s)

/-- PREP_TMO (R366). -/
def execSlpPrepTmo (s : State) : Host.Outcome State Fault Refusal :=
  done s (if s.slpState = slpPreparing then s.slpAbort whyTimeout else s)

/-- INH_FALL (R369). -/
def execSlpInhFall (s : State) : Host.Outcome State Fault Refusal := done s s.inhFall

/-- MOD_FS (R366). -/
def execSlpModFs (s : State) : Host.Outcome State Fault Refusal := done s s.moduleFailSafe

end Sys2Proof.Machine
end

