-- ==== Sys2Proof/Machine/Recorder.lean ====
section
/-! DEFINITION. DRAM scrubbing, the Silt recorder's rings, records, triggers, freezing and export (17, R427-R442). -/

namespace Sys2Proof.Machine

/-- States of MEM_EXP_STS.STATE. -/
abbrev expIdle : Nat := 0
abbrev expRun : Nat := 1
abbrev expDone : Nat := 2
abbrev expFailed : Nat := 3

/-- Codes of MEM_EXP_STS.CODE (R439). -/
abbrev expNoKey : Nat := 1
abbrev expGrit : Nat := 2
abbrev expAborted : Nat := 3
abbrev expBadArea : Nat := 4

def State.ringState (s : State) (r : Nat) : Nat := s.g (R.MEM_RING_STS.STATE r)
def State.setRing (s : State) (r st : Nat) : State := s.p (R.MEM_RING_STS.STATE r) st
def State.modMem (s : State) (f : Mem → Mem) : State := { s with mem := f s.mem }

/-! ### Enabling (R432, R437) -/

/-- The ring's area as written: offset and size in bytes. -/
def State.ringArea (s : State) (r : Nat) : Nat × Nat :=
  (s.g (R.MEM_RING_AREA.BASE_MIB r) * 1048576, s.g (R.MEM_RING_AREA.SIZE_MIB r) * 1048576)

/-- The ring may be enabled (R432). -/
def State.ringValid (s : State) (r : Nat) : Bool :=
  let a := s.ringArea r
  let rec' := s.recArea
  areaValid rec' && decide (0 < a.2) && decide (rec'.1 ≤ a.1) && decide (a.1 + a.2 ≤ rec'.1 + rec'.2) &&
    decide (s.g (R.MEM_RING_WIN.PRE_MIB r) * 1048576 < a.2) &&
    (List.range 64).all (fun q => q == r || s.ringState q == ringOff || !overlap a.1 a.2 (s.ring q).base (s.ring q).size)

/-- A ring is emptied and records (R437). -/
def State.ringEmpty (s : State) (r : Nat) : State :=
  ((((s.setRing r ringRun).p (R.MEM_RING_STS.SHORT r) 0).p (R.MEM_RING_STS.WRAP r) 0).wr (R.MEM_RING_WR r) 0).wr (R.MEM_RING_OLD r) 0
    |>.modRing r (fun g => { g with seq := 0, recs := [] })

/-- EN is set (R437). -/
def State.ringEnable (s : State) (r : Nat) : State :=
  if s.ringValid r then
    let a := s.ringArea r
    (s.ringEmpty r).modRing r (fun g => { g with base := a.1, size := a.2 })
  else (s.p (R.MEM_RING_STS.CFG_ERR r) 1).ev R.MEM_EVT.CFG_ERR

/-! ### Export (R438, R439) -/

/-- A job of the pool that computes a chunk of an export (R438). -/
def isChunk (j : Job) : Bool :=
  match j.user with
  | .chunk _ => true
  | _ => false

/-- The export ends (R439): its jobs leave the pool. -/
def State.expEnd (s : State) (code : Nat) : State :=
  match s.mem.exp with
  | none => s
  | some e =>
    let s1 := s.each ((List.filter (fun (p : Nat × Job) => isChunk p.2) s.grit.running).map (·.1)) (fun n t => t.freeCore n)
    let s2 := { s1 with grit := { s1.grit with waiting := s1.grit.waiting.filter (fun j => !isChunk j) } }
    (((s2.modMem (fun m => { m with exp := none })).p (R.MEM_RING_STS.EXP e.ring) 0).p R.MEM_EXP_STS.STATE
      (if code = 0 then expDone else expFailed)).p R.MEM_EXP_STS.CODE code |>.ev (if code = 0 then R.MEM_EVT.EXP_DONE else R.MEM_EVT.EXP_FAIL)

/-- A record touches a poisoned line (R431). -/
def State.recPoisoned (s : State) (base : Nat) (r : RingRec) : Bool := (linesOf (base + r.ofs) r.len).any s.poisoned

/-- Whole records up to a limit of bytes: those taken, and those left. -/
def takeRecs (limit : Nat) : List RingRec → List RingRec × List RingRec
  | [] => ([], [])
  | r :: t =>
    if r.len ≤ limit then
      let (a, b) := takeRecs (limit - r.len) t
      (r :: a, b)
    else ([], r :: t)

/-- Takes up chunks until 8 are in hand or none is left (R438); records that touch a poisoned line are left out (R431), and so is
one that no chunk can hold (log 28). -/
def State.expIssue (s : State) : Nat → State
  | 0 => s
  | n + 1 =>
    match s.mem.exp with
    | none => s
    | some e =>
      if e.all || decide (8 ≤ e.chunks.length) then s
      else
        let bad := fun (r : RingRec) => s.recPoisoned (s.ring e.ring).base r || decide (e.limit < r.len)
        let (recs, left) := takeRecs e.limit (e.left.filter (fun r => !bad r))
        let seen := match left with
          | [] => e.left
          | f :: _ => e.left.takeWhile (fun r => r != f)
        let rest := e.left.drop seen.length
        let c : ChunkSt := { index := e.next, recs := recs, last := left.isEmpty, gap := seen.any bad }
        let bytes := (recs.map (·.len)).foldl (· + ·) 0
        let job : Job := { level := 5, user := .chunk e.next, slot := e.slot, blocks := cmacBlocks (64 + bytes) }
        let s1 := s.modMem (fun m => { m with exp := some { e with next := e.next + 1, left := rest, chunks := e.chunks ++ [c], all := left.isEmpty } })
        State.expIssue (s1.enqueue job) n

/-- The least area that holds one chunk: its data limit, header and CMAC, padded (R438, R439). -/
def chunkMax (limit : Nat) : Nat := (limit + 80 + 63) / 64 * 64

/-- EXPORT is accepted (R438, R439). -/
def State.expStart (s : State) (r : Nat) : State :=
  let slot := s.g R.MEM_EXP_CFG.SLOT
  let limit := (s.g R.MEM_EXP_CFG.CHUNK + 1) * 4096
  let e : ExportSt := { ring := r, slot := slot, limit := limit, left := (s.ring r).recs.filter (fun x => !x.pad) }
  let s1 := (s.wr R.MEM_EXP_ID (s.rd R.MEM_EXP_ID + 1)).modMem (fun m => { m with exp := some e })
  let s2 := (((s1.p R.MEM_EXP_STS.STATE expRun).p R.MEM_EXP_STS.CODE 0).p R.MEM_EXP_STS.RING r).p (R.MEM_RING_STS.EXP r) 1
  if !(s.usable slot && s.slotUse slot useMac) then s2.expEnd expNoKey
  else if !areaValid s.expArea || decide (s.expArea.2 < chunkMax limit) then s2.expEnd expBadArea
  else s2.expIssue 8

/-- The bytes of a chunk without its CMAC and padding (R438); the numbers of a chunk without records are free (log 3). -/
def State.chunkBytes (s : State) (e : ExportSt) (c : ChunkSt) (kcv : List Byte) : List Byte :=
  let g := s.ring e.ring
  let data := c.recs.flatMap (fun r => s.dramBytes (g.base + r.ofs) r.len)
  let num := fun (o : Option RingRec) k => match o with | some r => r.num | none => Config.freeNat (s.freeCtr + k)
  [0x48, 0x4B, 0x52, 0x58, 1, B8 e.ring, B8 ((if c.last then 1 else 0) + (if c.gap then 2 else 0)), 0] ++ leBytes 8 Config.serial ++
    leBytes 4 (s.rd R.MEM_EXP_ID).toNat ++ leBytes 4 c.index ++ leBytes 4 data.length ++ leBytes 4 0 ++
    ofWords (s.rdList (R.MEM_RING_T_LO e.ring) 3) ++ leBytes 4 (s.rd (R.MEM_RING_TSEQ e.ring)).toNat ++
    leBytes 4 (num c.recs.head? 0) ++ leBytes 4 (num c.recs.getLast? 1) ++ kcv ++ data

/-- Writes bytes into the export area from a position, modulo its size. -/
def State.expPut (s : State) (pos : Nat) (bs : List Byte) : State :=
  let ar := s.expArea
  let o := pos % max 1 ar.2
  let head := min bs.length (ar.2 - o)
  (s.dramWriteOwn (ar.1 + o) (bs.take head)).dramWriteOwn ar.1 (bs.drop head)

/-- Commits computed chunks in index order while the area has room (R439). -/
def State.expCommit (s : State) : Nat → State
  | 0 => s
  | n + 1 =>
    match s.mem.exp with
    | none => s
    | some e =>
      match e.chunks with
      | [] => s
      | c :: rest =>
        match c.key with
        | none => s
        | some key =>
          let body := s.chunkBytes e c (beBytes 8 (kcvOf key))
          let raw := body ++ cmac key body
          let units := (raw.length + 63) / 64
          let wr := (s.rd R.MEM_EXP_WR).toNat
          let used := (wr + 2 ^ 32 - (s.rd R.MEM_EXP_RD).toNat) % 2 ^ 32
          if s.expArea.2 < (used + units) * 64 then s
          else
            let s0 := if c.recs.isEmpty then s.used.used else s
            let s1 := s0.expPut (wr * 64) (slice raw 0 (units * 64))
            let s2 := ((s1.wr R.MEM_EXP_WR (W (wr + units))).ev R.MEM_EVT.CHUNK).bump R.MEM_EXP_CHUNK_LO
            let s3 := s2.modMem (fun m => { m with exp := some { e with chunks := rest } })
            if c.last then s3.expEnd 0 else State.expCommit (s3.expIssue 8) n

/-- The job of chunk `idx` ends (R439): lines found uncorrectable while its records were read leave them out (R431). -/
def State.chunkDone (s : State) (idx : Nat) (ue : List Nat) : State :=
  match s.mem.exp with
  | none => s
  | some e =>
    match List.find? (fun (p : Nat × Job) => p.2.user == .chunk idx && decide (p.2.blocks ≤ 64)) s.working with
    | none => s.expCommit 8
    | some (n, j) =>
      let s1 := s.endJob n j
      if j.nokey then s1.expEnd expNoKey
      else
        let g := s.ring e.ring
        let s2 := s1.each (ue.filter (fun l => overlap (l * 64) 64 g.base g.size && !s.poisoned l)) (fun l t => t.dramUe l)
        let mend := fun (c : ChunkSt) =>
          if c.index = idx then
            { c with recs := c.recs.filter (fun r => !s2.recPoisoned g.base r), gap := c.gap || c.recs.any (fun r => s2.recPoisoned g.base r),
                     key := some j.key }
          else c
        (s2.modMem (fun m => { m with exp := some { e with chunks := e.chunks.map mend } })).expCommit 8

/-- EN is cleared (R437): the contents are abandoned, an export of the ring is aborted. -/
def State.ringDisable (s : State) (r : Nat) : State :=
  let s1 := match s.mem.exp with
    | some e => if e.ring = r then s.expEnd expAborted else s
    | none => s
  ((s1.setRing r ringOff).p (R.MEM_RING_STS.CFG_ERR r) 0).modRing r (fun _ => {})

/-- A write of MEM_RING_CFG (R437). -/
def State.ringCfgWrite (s : State) (r : Nat) (val : Word) : State :=
  let was := s.on (R.MEM_RING_CFG.EN r)
  let now := bit val.toNat 31
  let s1 := s.store (R.MEM_RING_CFG r) val
  if !was && now then s1.ringEnable r else if was && !now then s1.ringDisable r else s1

/-- The loader's writes of a FROZEN ring's registers are ignored (R440). -/
def State.ringShut (s : State) (req a : Nat) : Bool :=
  req == reqCfg && decide (0x2410000 ≤ a) && decide (a < 0x2411000) && s.ringState ((a - 0x2410000) / 64) == ringFrozen

/-- A write of MEM_REC_AREA or MEM_EXP_AREA acts only while every ring is OFF and no export runs (R428). -/
def State.areaFree (s : State) : Bool := s.mem.exp.isNone && (List.range 64).all (fun r => s.ringState r == ringOff)

/-- A write of MEM_EXP_RD that would pass WR is ignored (R439); one that frees space lets a chunk that waits go on. -/
def State.expRdWrite (s : State) (val : Word) : State :=
  let wr := (s.rd R.MEM_EXP_WR).toNat
  let d := fun (x : Nat) => (wr + 2 ^ 32 - x) % 2 ^ 32
  if d (s.rd R.MEM_EXP_RD).toNat < d val.toNat then s else (s.wr R.MEM_EXP_RD val).expCommit 8

/-! ### Freezing (R436) and commands (R437, R439) -/

/-- A ring freezes. -/
def State.ringFreeze (s : State) (r : Nat) : State := (s.setRing r ringFrozen).ev R.MEM_EVT.FROZEN

/-- Every ring in RUN or POST freezes at once, at the start of a save (R436). -/
def State.freezeAll (s : State) : State :=
  s.each (List.range 64) (fun r t => if t.ringState r = ringRun ∨ t.ringState r = ringPost then t.ringFreeze r else t)

/-- A write of MEM_REC_CMD (R48, R437, R439). -/
def State.recAct (s : State) (req : Nat) (val : Word) : State :=
  let op := fieldOf val 8 3
  let r := fieldOf val 0 6
  let st := s.ringState r
  let ok := match op with
    | 1 => true
    | 2 => (st == ringFrozen || st == ringError) && !s.on (R.MEM_RING_STS.EXP r)
    | 3 => s.mem.exp.isNone && st == ringFrozen
    | 4 => s.mem.exp.isSome
    | _ => false
  s.command req R.MEM_REC_CMD val ok statDone (fun u =>
    match op with
    | 1 => u.ringTrigger r 0
    | 2 => u.ringEmpty r
    | 3 => u.expStart r
    | _ => u.expEnd expAborted)

/-- Such a write at its requester's port. -/
def State.recCommand (s : State) (req : Nat) (val : Word) : State :=
  s.byPort req R.MEM_REC_CMD val false (fun t => t.recAct req val)

/-! ### Records (R433, R434) -/

/-- The size of the recorder's buffer (R434). -/
abbrev recBufSize : Nat := 1048576

/-- A REC copy reaches the recorder (R434). -/
def State.recArrive (s : State) : State :=
  match s.sw.recq with
  | [] => s
  | (r, f) :: t =>
    let s1 := { s with sw := { s.sw with recq := t } }
    let bytes := f.bytes ++ fcsOf f.bytes
    if recBufSize < s.mem.bufUsed + bytes.length then (s1.bump (R.MEM_REC_DROP_LO r)).ev R.MEM_EVT.REC_DROP
    else if s.ringState r != ringRun && s.ringState r != ringPost then s1.bump (R.MEM_REC_IDLE_LO r)
    else
      s1.modMem (fun m => { m with bufUsed := m.bufUsed + bytes.length,
                                   buf := m.buf ++ [{ ring := r, frame := bytes, tb := f.stampTb, stamp := f.stamp }] })

/-- The bytes of a record (R433). -/
def recordBytes (c : RecCopy) (num : Nat) : List Byte :=
  let raw := leBytes 4 (2 ^ 31 + c.ring * 2 ^ 24 + c.frame.length) ++ leBytes 4 (c.tb * 2 ^ 30 + tvNs c.stamp % 1000000000) ++
    leBytes 4 (tvNs c.stamp / 1000000000) ++ leBytes 4 num ++ c.frame
  slice raw 0 ((raw.length + 63) / 64 * 64)

/-- The records protected in POST (R436): those before TSEQ within PRE_MIB of it, newest first in the list given. -/
def protectedRecs (pre tseq : Nat) : Nat → List RingRec → List RingRec
  | _, [] => []
  | cum, r :: t =>
    if !r.pad && decide (tseq ≤ r.num) then protectedRecs pre tseq cum t
    else if cum < pre then r :: protectedRecs pre tseq (cum + r.len) t
    else []

/-- Writes a record at its place, with a pad record before it where it would pass the ring's end (R433, R436). -/
def State.recPlace (s : State) (c : RecCopy) : State :=
  let r := c.ring
  let g := s.ring r
  let bs := recordBytes c g.seq
  let w := (s.rd (R.MEM_RING_WR r)).toNat * 64
  let fits := decide (w + bs.length ≤ g.size)
  let at0 := if fits then w else 0
  let padLen := g.size - w
  let hits := fun (x : RingRec) => overlap x.ofs x.len at0 bs.length || (!fits && overlap x.ofs x.len w padLen)
  let gone := g.recs.filter hits
  let prot := protectedRecs (s.g (R.MEM_RING_WIN.PRE_MIB r) * 1048576) (s.rd (R.MEM_RING_TSEQ r)).toNat 0 g.recs.reverse
  if s.ringState r = ringPost ∧ gone.any (fun x => prot.contains x) then
    (((s.bump (R.MEM_REC_DROP_LO r)).ev R.MEM_EVT.REC_DROP).p (R.MEM_RING_STS.SHORT r) 1).ringFreeze r
  else
    let f := fun k => leBytes 4 (Config.freeNat (s.freeCtr + k))
    let pad := slice (leBytes 4 (2 ^ 31 + 2 ^ 30 + r * 2 ^ 24) ++ f 0 ++ f 1 ++ f 2) 0 padLen
    let s1 := if fits then s else (s.used.used.used).dramWriteOwn (g.base + w) pad
    let s2 := s1.dramWriteOwn (g.base + at0) bs
    let padRec := if fits then [] else [{ ofs := w, len := padLen, num := 0, pad := true }]
    let recs := g.recs.filter (fun x => !hits x) ++ padRec ++ [{ ofs := at0, len := bs.length, num := g.seq, pad := false }]
    let s3 := (s2.modRing r (fun x => { x with seq := (x.seq + 1) % 2 ^ 32, recs := recs })).wr (R.MEM_RING_WR r)
      (W ((at0 + bs.length) % max 1 g.size / 64))
    let s4 := s3.wr (R.MEM_RING_OLD r) (W ((recs.head?.map (·.ofs)).getD 0 / 64))
    (if gone.isEmpty then s4 else s4.p (R.MEM_RING_STS.WRAP r) 1).bump (R.MEM_REC_WR_LO r)

/-- The oldest buffered copy is written (R433, R434); `ue` are lines found uncorrectable in the access (R431). -/
def State.recWrite (s : State) (ue : List Nat) : State :=
  match s.mem.buf with
  | [] => s
  | c :: t =>
    let g := s.ring c.ring
    let s1 := s.modMem (fun m => { m with buf := t, bufUsed := m.bufUsed - c.frame.length })
    let s2 := s1.each (ue.filter (fun l => overlap (l * 64) 64 g.base g.size && !s.poisoned l)) (fun l u => u.dramUe l)
    if s2.ringState c.ring = ringRun ∨ s2.ringState c.ring = ringPost then s2.recPlace c else s2.bump (R.MEM_REC_IDLE_LO c.ring)

/-! ### Resets (R440) -/

/-- A register of a ring that RESET_N or a soft reset of MEM returns to its Reset value: those of every ring not FROZEN. -/
def State.memReset (s : State) (soft : Bool) : State :=
  let s0 := s.expEnd expAborted
  let exp := s0.rd R.MEM_EXP_STS
  let running := s.mem.exp.isSome
  let id := s0.rd R.MEM_EXP_ID
  let init := s0.g R.MEM_STS.INIT
  let frozen := (List.range 64).filter (fun r => s.ringState r == ringFrozen)
  let keep := fun (a : Nat) =>
    (decide (0x2410000 ≤ a) && decide (a < 0x2411000) && frozen.contains ((a - 0x2410000) / 64)) ||
      (!soft && (a == R.MEM_REC_AREA || a == R.MEM_EXP_AREA || (decide (R.MEM_ELOG 0 ≤ a) && decide (a < R.MEM_ELOG 0 + 0x24)) || decide (0x2420000 ≤ a)))
  let s1 := s0.resetRegs (fun a => regionOf a == 16 && !keep a)
  let s2 := ((s1.wr R.MEM_EXP_ID id).p R.MEM_STS.INIT init).when running (fun t => t.wr R.MEM_EXP_STS exp)
  (s2.modMem (fun m => { m with buf := [], bufUsed := 0 })).each ((List.range 64).filter (fun r => !frozen.contains r)) (fun r t => t.modRing r (fun _ => {}))

/-! ### Meanings -/

/-- MEM_INIT_DONE (R440). -/
def execMemInitDone (s : State) : Host.Outcome State Fault Refusal := done s (s.p R.MEM_STS.INIT 1)

/-- DRAM_SCRUB (R430): the line read has no error (0), a single-bit error (1) or a double-bit error (2). -/
def execDramScrub (line err : Nat) (s : State) : Host.Outcome State Fault Refusal :=
  done s (if beyond (line * 64) 64 then s else if err = 1 then s.dramCe line else if err = 2 ∧ !s.poisoned line then s.dramUe line else s)

/-- REC_COPY_ARRIVAL (R434). -/
def execRecCopyArrival (s : State) : Host.Outcome State Fault Refusal := done s s.recArrive

/-- RECORD_WRITE (R433). -/
def execRecordWrite (ue : List Nat) (s : State) : Host.Outcome State Fault Refusal := done s (s.recWrite ue)

/-- RING_ENABLE (R437): a write of MEM_RING_CFG with EN set. -/
def execRingEnable (req r : Nat) (val : Word) (s : State) : Host.Outcome State Fault Refusal :=
  done s (if s.ringShut req (R.MEM_RING_CFG (r % 64)) then s else
    s.byPort req (R.MEM_RING_CFG (r % 64)) (val ||| 0x80000000) false (fun t => t.ringCfgWrite (r % 64) (val ||| 0x80000000)))

/-- RING_DISABLE (R437): a write of MEM_RING_CFG with EN clear. -/
def execRingDisable (req r : Nat) (val : Word) (s : State) : Host.Outcome State Fault Refusal :=
  done s (if s.ringShut req (R.MEM_RING_CFG (r % 64)) then s else
    s.byPort req (R.MEM_RING_CFG (r % 64)) (val &&& 0x7FFFFFFF) false (fun t => t.ringCfgWrite (r % 64) (val &&& 0x7FFFFFFF)))

/-- TRIGGER (R435): a write of MEM_REC_CMD. -/
def execRecTrigger (req r : Nat) (s : State) : Host.Outcome State Fault Refusal := done s (s.recCommand req (W (0x100 + r % 64)))

/-- POST_EXPIRY (R436). -/
def execRecPostExpiry (r : Nat) (s : State) : Host.Outcome State Fault Refusal :=
  done s (if s.ringState (r % 64) = ringPost then s.ringFreeze (r % 64) else s)

/-- UNFREEZE (R437): a write of MEM_REC_CMD. -/
def execRecUnfreeze (req r : Nat) (s : State) : Host.Outcome State Fault Refusal := done s (s.recCommand req (W (0x200 + r % 64)))

/-- EXPORT (R438): a write of MEM_REC_CMD. -/
def execRecExport (req r : Nat) (s : State) : Host.Outcome State Fault Refusal := done s (s.recCommand req (W (0x300 + r % 64)))

/-- ABORT_EXP (R439): a write of MEM_REC_CMD. -/
def execRecAbortExp (req r : Nat) (s : State) : Host.Outcome State Fault Refusal := done s (s.recCommand req (W (0x400 + r % 64)))

/-- CHUNK (R439). -/
def execRecChunk (index : Nat) (ue : List Nat) (s : State) : Host.Outcome State Fault Refusal := done s (s.chunkDone index ue)

end Sys2Proof.Machine
end

