-- ==== Sys2Proof/Machine/Attest.lean ====
section
/-! DEFINITION. Attestation: CBOR, the claim set and the signed statement (12, R331-R333). -/

namespace Sys2Proof.Machine

/-! ### CBOR (RFC 8949, core deterministic encoding) -/

/-- A head: major type and argument in the shortest form. -/
def cborHead (major n : Nat) : List Byte :=
  let m := major * 32
  if n < 24 then [B8 (m + n)]
  else if n < 256 then B8 (m + 24) :: beBytes 1 n
  else if n < 65536 then B8 (m + 25) :: beBytes 2 n
  else if n < 4294967296 then B8 (m + 26) :: beBytes 4 n
  else B8 (m + 27) :: beBytes 8 n

def cborUint (n : Nat) : List Byte := cborHead 0 n
def cborBytes (b : List Byte) : List Byte := cborHead 2 b.length ++ b
def cborText (t : String) : List Byte := cborHead 3 t.length ++ t.toList.map (fun c => B8 c.toNat)
def cborArray (l : List (List Byte)) : List Byte := cborHead 4 l.length ++ l.flatten
def cborMap (l : List (Nat × List Byte)) : List Byte := cborHead 5 l.length ++ l.flatMap (fun p => cborUint p.1 ++ p.2)

/-! ### The statement -/

/-- The claim set with a nonce (R332). -/
def State.claims (s : State) (nonce : List Byte) : List Byte :=
  let rev := (s.rd R.GLB_REV).toNat
  let fw := ofWords (s.rdList (R.MGT_FW_DIG 0) 12)
  let noFw := fw.all (· == 0)
  let total := s.g R.KEY_TLOG_PTR.TOTAL
  let last := (s.g R.KEY_TLOG_PTR.NEXT + 15) % 16
  let none' := total = 0 ∧ s.rd (R.KEY_TLOG_HI last) = 0
  let degr := s.g R.CFG_STS.STATE = 7
  cborMap [
    (1, cborBytes nonce),
    (2, cborUint (s.g R.GLB_ID.PART)),
    (3, cborUint (Config.serial % 2 ^ 64)),
    (4, cborBytes [B8 (rev / 16777216), B8 (rev / 65536), B8 (rev / 256)]),
    (5, cborUint (capBytes / 2 ^ 30)),
    (6, cborArray [cborUint (s.g R.CFG_STS.STATE), cborUint (s.g R.CFG_STS.SLOT), cborUint (s.rd R.CFG_ACT_SEQ).toNat,
      cborBytes (if degr then [] else slice s.loader.act 0x40 32), cborBytes (if degr then [] else s.loader.actDigest)]),
    (7, cborArray [cborUint (if noFw then 0 else (s.rd R.MGT_FW_VER).toNat), cborBytes (if noFw then [] else fw)]),
    (8, cborUint s.vault.cfgEpoch),
    (9, cborUint s.vault.locks),
    (10, cborUint (s.vault.policy % 4 + 256 * (s.vault.revoked % 16))),
    (11, cborArray [cborUint s.prov, cborUint (s.g R.KEY_STS.PROV_CNT), cborUint s.vault.lossEpoch,
      cborBytes (if s.prov = provYes then beBytes 8 (s.rd64 R.KEY_ROOT_KCV_LO) else [])]),
    (12, cborArray [cborUint total, cborUint (if none' then 0 else (s.rd (R.KEY_TLOG_HI last)).toNat % 128),
      cborUint (if none' then 0 else (s.rd (R.KEY_TLOG_LO last)).toNat)]),
    (13, cborUint (s.rd R.KEY_KA_TIME).toNat),
    (14, cborUint (if s.degraded then 1 else 0)),
    (15, cborUint (s.slots.filter (fun n => s.usable n)).length),
    (16, cborUint (s.rd64 R.KEY_ATTEST_LO))]

/-- The protected header {1: -7}. -/
def coseProtected : List Byte := cborMap [(1, cborHead 1 6)]

/-- The COSE_Sign1 over a claim set (R333); `k` is the per-message number of the signature. -/
def coseSign1 (payload : List Byte) (k : Nat) : List Byte :=
  let kid := (sha256 attPub).take 8
  let tbs := cborArray [cborText "Signature1", cborBytes coseProtected, cborBytes [], cborBytes payload]
  let sig := ecdsaSign attKey (sha256 tbs) k
  cborHead 6 18 ++ cborArray [cborBytes coseProtected, cborMap [(4, cborBytes kid)], cborBytes payload, cborBytes sig]

/-- A write of KEY_ATT_CMD (R331): NLEN from 8 to 32, with the nonce in the writer's KEY_ARG; DMA has none. -/
def State.attAct (s : State) (req : Nat) (val : Word) : State :=
  let n := fieldOf val 0 6
  s.command req R.KEY_ATT_CMD val (decide (8 ≤ n) && decide (n ≤ 32) && decide (req < 7)) statBusy (fun u =>
      { u with vault := { u.vault with att := some (slice (ofWords (u.rdList (R.KEY_ARG req 0) 16)) 0 n) } }.enqueue
        { level := 4, user := .attest, slot := noSlot, unit := 2 })

/-- Such a write at its requester's port. -/
def State.attCommand (s : State) (req : Nat) (val : Word) : State :=
  s.byPort req R.KEY_ATT_CMD val false (fun t => t.attAct req val)

/-- The public-key unit signs the statement (R301, R331, R333); with the DRBG in FAIL the command fails. The per-message number
is free (log 3). -/
def State.attComplete (s : State) : State :=
  match s.vault.att, s.jobOn publicKeyUnit with
  | some nonce, some j =>
    if j.user ≠ .attest then s
    else
    let s0 := s.endJob publicKeyUnit j
    let s1 := { s0 with vault := { s0.vault with att := none } }
    if s1.g R.CRY_DRBG_STS.STATE = drbgFail then s1.setStat R.KEY_ATT_CMD statFailed
    else
      let s2 := s1.used.bump R.KEY_ATTEST_LO
      let st := coseSign1 (s2.claims nonce) (1 + s1.freeNat % (p256N - 1))
      (((s2.wrList (R.KEY_ATT_BUF 0) (wordsOf 256 st)).p R.KEY_ATT_LEN.LEN st.length).setStat R.KEY_ATT_CMD statDone).ev R.KEY_EVT.CMD_DONE
  | _, _ => s

/-- ATTEST (R331): a write of KEY_ATT_CMD. -/
def execKeyAttest (req nlen : Nat) (s : State) : Host.Outcome State Fault Refusal := done s (s.attCommand req (W (nlen % 64)))

/-- ATTEST_COMPLETE (R333). -/
def execAttestComplete (s : State) : Host.Outcome State Fault Refusal := done s s.attComplete

end Sys2Proof.Machine
end

