-- ==== Sys2Proof/Machine/Que.lean ====
section
/-! DEFINITION. Message queues as software and the device work them: pointer writes, window writes, QUE_CMD, and the
entries the device takes from an IN queue (16, R407-R414). -/

namespace Sys2Proof.Machine

/-! ### Entries -/

/-- The word is a length word of a known kind (R408). -/
def isEntry (w : Word) : Bool := bit w.toNat 31 && decide (fieldOf w 24 4 ≤ 2)

/-- Words by which the reader of a queue moves on from a word where a length word is due: a whole entry, or one word
that is none. -/
def stepWords (w : Word) : Nat := if isEntry w then entryWords w else 1

/-- How many whole entries stand in the `n` words of queue `q` from position `i`, and how many words they and the words
between them take; `k` bounds the walk. -/
def State.qWhole (s : State) (q : Nat) : Nat → Nat → Nat → Nat × Nat
  | 0, _, _ => (0, 0)
  | k + 1, i, n =>
    let w := s.qWord q i
    let m := stepWords w
    if n = 0 ∨ n < m then (0, 0)
    else
      let r := State.qWhole s q k (i + m) (n - m)
      (r.1 + (if isEntry w then 1 else 0), r.2 + m)

/-- Counts `n` committed entries (R412, R426). -/
def State.qCount (s : State) (q n : Nat) : State := if n = 0 then s else (s.bumpBy (R.QUE_ENTRY_LO q) n).ev (R.QUE_EVT.ENTRY q)

/-- An IN queue's WR moves forward to `v`: the entries that are now whole are committed (R412, R414, R415). -/
def State.qCommit (s : State) (q v : Nat) : State :=
  let before := (s.qWhole q queWords (s.qRd q) (s.qLevel q)).1
  let s1 := s.qSetWr q (v % 32768)
  s1.qCount q ((s1.qWhole q queWords (s1.qRd q) (s1.qLevel q)).1 - before)

/-- The queue is empty: the software side's pointer of an OUT queue moves up, that of an IN queue back (R414). -/
def State.qEmpty (s : State) (q : Nat) : State := if s.qIsIn q then s.qSetWr q (s.qRd q) else s.qSetRd q (s.qWr q)

/-- Words of room left. -/
def State.qRoom (s : State) (q : Nat) : Nat := queWords - s.qLevel q

/-- The queue is bound to a channel (R415). -/
def State.qBound (s : State) (q : Nat) : Bool := s.on (R.QUE_STS.BOUND q)

/-! ### Software's side (R407, R414) -/

/-- A pointer write is ignored, and logged PTR (R414). -/
def State.ptrRefuse (s : State) (req a : Nat) : State := s.logAccess req a 15 true .ptr

/-- A write of QUE_RD by software (R414): consumes words of an OUT queue that is not bound, up to WR. -/
def State.qRdWrite (s : State) (req q : Nat) (val : Word) : State :=
  let v := fieldOf val 0 15
  if s.qIsIn q || s.qBound q || decide (s.qLevel q < (v + 32768 - s.qRd q) % 32768) then s.ptrRefuse req (R.QUE_RD q)
  else s.qSetRd q v

/-- A write of QUE_WR by software (R414): commits words into an IN queue that is not bound, within its room. -/
def State.qWrWrite (s : State) (req q : Nat) (val : Word) : State :=
  let v := fieldOf val 0 15
  if !s.qIsIn q || s.qBound q || decide (s.qRoom q < (v + 32768 - s.qWr q) % 32768) then s.ptrRefuse req (R.QUE_WR q)
  else s.qCommit q v

/-- A write of QUE_WIN[q][k] (R407). -/
def State.qWinWrite (s : State) (q k : Nat) (val : Word) : State :=
  if s.qIsIn q && decide (k < s.qRoom q) then s.qStore q (s.qWr q + k) val else s

/-- A write of QUE_CFG: a queue whose EN is cleared is emptied (R415). -/
def State.queCfgWrite (s : State) (q : Nat) (val : Word) : State :=
  let was := s.qEn q
  let s1 := s.store (R.QUE_CFG q) val
  if was && !s1.qEn q then s1.qEmpty q else s1.qTouch q

/-- DROP_REM can act: OUT, not bound, and a length word at RD (R414). -/
def State.canDropRem (s : State) (q : Nat) : Bool :=
  !s.qIsIn q && !s.qBound q && decide (0 < s.qLevel q) && bit (s.qWord q (s.qRd q)).toNat 31

/-- DROP_REM: RD moves over the entry whose length word is at RD, never past WR (R414). -/
def State.dropRem (s : State) (q : Nat) : State :=
  s.qSetRd q ((s.qRd q + min (entryWords (s.qWord q (s.qRd q))) (s.qLevel q)) % 32768)

/-- A write of QUE_CMD (R414). -/
def State.queCommand (s : State) (req q : Nat) (val : Word) : State :=
  let op := fieldOf val 0 2
  s.command req (R.QUE_CMD q) val (op == 2 || op == 3 || (op == 1 && s.canDropRem q)) statDone
    (fun t => if op = 1 then t.dropRem q else if op = 2 then t.qEmpty q else t.p (R.QUE_STS.HALT q) 0)

/-! ### The device's side of an IN queue (R409, R410, R413) -/

/-- The queue halts on an entry the device cannot take (R413). -/
def State.qHalt (s : State) (q : Nat) : State :=
  ((s.p (R.QUE_STS.HALT q) 1).bump (R.QUE_FMT_ERR_LO q)).ev (R.QUE_EVT.HALT q)

/-- Whether a length word begins an entry that an IN queue may hold (R409, R410, R413). -/
def inEntryOk (w : Word) : Bool :=
  let len := fieldOf w 0 16
  bit w.toNat 31 &&
    ((fieldOf w 24 4 == 0 && decide (60 ≤ len) && decide (len ≤ 9596)) ||
     (fieldOf w 24 4 == 1 && decide (len ≤ 2048) && decide (fieldOf w 16 8 < 16)))

/-- `n` words of queue `q` from position `i`. -/
def State.qWords (s : State) (q i n : Nat) : List Word := (List.range n).map (fun k => s.qWord q (i + k))

/-- The CAN frame of an entry (R410). -/
def canOfEntry (len : Nat) (ws : List Word) : CFrame :=
  let w1 := ws.getD 1 0
  let w2 := ws.getD 2 0
  { fmt := fieldOf w1 29 2, ide := bit w1.toNat 31, id := fieldOf w1 0 29, rtr := bit w2.toNat 31, brs := bit w2.toNat 30,
    esi := bit w2.toNat 29, sec := bit w2.toNat 28, sdt := fieldOf w2 8 8, vcid := fieldOf w2 0 8,
    af := (ws.getD 4 0).toNat, len := len, data := if bit w2.toNat 31 then [] else (ofWords (ws.drop 5)).take len, stamp := (ws.getD 3 0).toNat }

/-- The device takes the next entry of IN queue `q` (R413): an idle word is skipped, a wrong entry halts the queue, a
frame is presented at the queue's port once its class is not in XOFF, a CAN frame goes to the FIFO of its controller. -/
def State.qTake (s : State) (q : Nat) : State :=
  let rd := s.qRd q
  let w := s.qWord q rd
  let n := entryWords w
  let len := fieldOf w 0 16
  if !s.qIsIn q || !s.qEn q || s.on (R.QUE_STS.HALT q) || s.qLevel q == 0 then s
  else if w = idleWord then s.qSetRd q ((rd + 1) % 32768)
  else if !inEntryOk w || s.worn.queues.contains q then s.qHalt q
  else if s.qLevel q < n then s
  else
    let ws := s.qWords q rd n
    if fieldOf w 24 4 = 1 then
      let s1 := s.qSetRd q ((rd + n) % 32768)
      let f := canOfEntry len ws
      if f.rtr && f.fmt != 0 then s1.noSend (fieldOf w 16 8) else (s1.gwFifo (fieldOf w 16 8) f).1
    else
      let p := portOfQueue q
      if !s.pins.forwarding || s.on (R.SW_USED.XOFF (8 * p + fieldOf (ws.getD 1 0) 29 3)) then s
      else
        let s1 := s.qSetRd q ((rd + n) % 32768)
        s1.ingressWhole p 0 (s1.intFrame p ((ofWords (ws.drop 4)).take len))

/-! ### Meanings -/

/-- IN_QUEUE_TAKE (R413). -/
def execInQueueTake (queue : Nat) (s : State) : Host.Outcome State Fault Refusal := done s (s.qTake (queue % 64))

/-- QUE_RD_WRITE (R414). -/
def execQueRdWrite (req queue : Nat) (val : Word) (s : State) : Host.Outcome State Fault Refusal :=
  done s (s.byPort req (R.QUE_RD (queue % 64)) val false (fun t => t.qRdWrite req (queue % 64) val))

/-- QUE_WR_WRITE (R414). -/
def execQueWrWrite (req queue : Nat) (val : Word) (s : State) : Host.Outcome State Fault Refusal :=
  done s (s.byPort req (R.QUE_WR (queue % 64)) val false (fun t => t.qWrWrite req (queue % 64) val))

/-- DROP_REM (R414). -/
def execQueDropRem (req queue : Nat) (s : State) : Host.Outcome State Fault Refusal :=
  done s (s.byPort req (R.QUE_CMD (queue % 64)) 1 false (fun t => t.queCommand req (queue % 64) 1))

/-- QUEUE_FLUSH (R414). -/
def execQueFlush (req queue : Nat) (s : State) : Host.Outcome State Fault Refusal :=
  done s (s.byPort req (R.QUE_CMD (queue % 64)) 2 false (fun t => t.queCommand req (queue % 64) 2))

/-- RESUME (R414). -/
def execQueResume (req queue : Nat) (s : State) : Host.Outcome State Fault Refusal :=
  done s (s.byPort req (R.QUE_CMD (queue % 64)) 3 false (fun t => t.queCommand req (queue % 64) 3))

end Sys2Proof.Machine
end

