-- ==== Sys2Proof/Machine/Dma.lean ====
section
/-! DEFINITION. DMA channels: the state machine, binding of queues, descriptor checks, readiness of bursts, halts
(16, R400-R406, R415). -/

namespace Sys2Proof.Machine

/-- States of DMA_CH_STS.STATE (R402). -/
abbrev chIdle : Nat := 0
abbrev chArmed : Nat := 1
abbrev chActive : Nat := 2
abbrev chHalted : Nat := 3

/-- Channel `c` beyond its registers. -/
def State.chan (s : State) (c : Nat) : Chan := s.dma.chans.get (fun _ => {}) c
/-- Changes channel `c` beyond its registers. -/
def State.modChan (s : State) (c : Nat) (f : Chan → Chan) : State :=
  { s with dma := { s.dma with chans := s.dma.chans.set (fun _ => {}) c (f (s.chan c)) } }

/-- The state of channel `c`. -/
def State.chState (s : State) (c : Nat) : Nat := s.g (R.DMA_CH_STS.STATE c)

/-- The address DMA_CH_DESC holds; bits 4:0 do not count. -/
def State.chList (s : State) (c : Nat) : Nat := s.rd64 (R.DMA_CH_DESC_LO c) / 32 * 32

/-- Fields of CTL (R400). -/
def Desc.wb (d : Desc) : Bool := bit d.ctl 27
def Desc.irq (d : Desc) : Bool := bit d.ctl 26
def Desc.sq (d : Desc) : Bool := bit d.ctl 25
def Desc.dq (d : Desc) : Bool := bit d.ctl 24
def Desc.q (d : Desc) : Nat := d.ctl / 2 ^ 18 % 64
def Desc.chain (d : Desc) : Bool := bit d.ctl 17
def Desc.chn (d : Desc) : Nat := d.ctl / 2 ^ 9 % 256
def Desc.names (d : Desc) (q : Nat) : Bool := (d.sq || d.dq) && d.q == q

/-- The descriptor that 32 bytes at address `a` spell (R400). -/
def descOf (a : Nat) (b : List Byte) : Desc :=
  { addr := a, src := leAt b 0 8, dst := leAt b 8 8, next := leAt b 16 8, len := leAt b 24 4, ctl := leAt b 28 4 }

/-- Whether another ACTIVE channel than `c` has queue `q` named by its descriptor (R401, R415). -/
def State.boundElse (s : State) (c q : Nat) : Bool :=
  s.dma.chans.any (fun (p : Nat × Chan) =>
    p.1 != c && s.chState p.1 == chActive && (match p.2.desc with | some d => d.names q | none => false))

/-- BOUND of queue `q` follows the descriptors (R415); `c` is no channel number where none is left out. -/
def State.boundTouch (s : State) (q : Nat) : State := s.pb (R.QUE_STS.BOUND q) (s.boundElse 256 q)

/-- The channel's descriptor is over: its queue is bound no more unless another channel names it. -/
def State.chDrop (s : State) (c : Nat) : State :=
  match (s.chan c).desc with
  | none => s
  | some d =>
    let s1 := s.modChan c (fun k => { k with desc := none, timer := none })
    if d.sq || d.dq then s1.boundTouch d.q else s1

/-- The channel begins its list at `a`: the first descriptor is to be fetched (R402). -/
def State.chRun (s : State) (c a : Nat) : State :=
  ((s.p (R.DMA_CH_STS.STATE c) chActive).wr64 (R.DMA_CH_CUR_LO c) a).modChan c (fun k => { k with fetch := some a, part := 0 })

/-- The channel leaves for a state in which it moves nothing; a burst in flight completes (R402). -/
def State.chRest (s : State) (c st : Nat) : State :=
  (s.chDrop c |>.p (R.DMA_CH_STS.STATE c) st).modChan c (fun k => { k with fetch := none, part := 0 })

/-- A trigger reaches channel `c`: it starts if ARMED, else the trigger is lost (R402, R403). Before commit no channel starts
(R57); what becomes of a trigger that an ARMED channel cannot take then is the model's choice: it is lost as well (log 60). -/
def State.chTrigger (s : State) (c : Nat) : State :=
  if s.chState c = chArmed ∧ !s.beforeRun then s.chRun c (s.chan c).list
  else (s.bump (R.DMA_TRIG_MISS_LO c)).ev (R.DMA_CH_EVT.TRIG_MISS c)

/-- The channel waits for its trigger, its list beginning at `a` (R402). -/
def State.chArm (s : State) (c a : Nat) : State :=
  (s.chRest c chArmed).modChan c (fun k => { k with list := a })

/-- START (R402): DMA_CH_DESC is sampled; with TRIG 0 the first descriptor is fetched, else the channel is ARMED. -/
def State.chStart (s : State) (c : Nat) : State :=
  let a := s.chList c
  let s1 := s.p (R.DMA_CH_STS.STOPPED c) 0
  if s.g (R.DMA_CH_CFG.TRIG c) = 0 then s1.chRun c a
  else s1.chArm c a

/-- STOP of an ACTIVE or ARMED channel (R402). -/
def State.chStop (s : State) (c : Nat) : State :=
  (s.chRest c chIdle).p (R.DMA_CH_STS.STOPPED c) 1

/-- CLEAR of a HALTED channel (R402). -/
def State.chClear (s : State) (c : Nat) : State :=
  ((s.p (R.DMA_CH_STS.STATE c) chIdle).p (R.DMA_CH_STS.STOPPED c) 0).p (R.DMA_CH_ERR_INFO.VALID c) 0

/-- A write of DMA_CH_CMD (R402); channels do not start before commit (R57). How a START given then is answered is the model's
choice: STAT refused (log 60). -/
def State.chCommand (s : State) (req c : Nat) (val : Word) : State :=
  let op := fieldOf val 0 2
  let st := s.chState c
  let ok := (op == 1 && st == chIdle && s.on (R.DMA_CH_CFG.EN c) && !s.beforeRun) ||
    (op == 2 && (st == chArmed || st == chActive)) || (op == 3 && st == chHalted)
  s.command req (R.DMA_CH_CMD c) val ok statDone
    (fun t => if op = 1 then t.chStart c else if op = 2 then t.chStop c else t.chClear c)

/-- A write of DMA_CH_CFG: clearing EN stops an ARMED or ACTIVE channel (R402). -/
def State.chCfgWrite (s : State) (c : Nat) (val : Word) : State :=
  let was := s.on (R.DMA_CH_CFG.EN c)
  let s1 := s.store (R.DMA_CH_CFG c) val
  if was && !s1.on (R.DMA_CH_CFG.EN c) && (s.chState c == chArmed || s.chState c == chActive) then s1.chStop c else s1

/-- Error codes of R406. -/
abbrev dmaUnmap : Nat := 1
abbrev dmaLoad : Nat := 2
abbrev dmaTenon : Nat := 3
abbrev dmaMem : Nat := 4
abbrev dmaHost : Nat := 5
abbrev dmaDesc : Nat := 6
abbrev dmaQueue : Nat := 7

/-- The code of an error response (R406). -/
def BusErr.code : BusErr → Nat
  | .unmap => dmaUnmap
  | .load => dmaLoad
  | .tenon => dmaTenon
  | .mem => dmaMem
  | .host => dmaHost

/-- The failure is latched unless one already is (R406). -/
def State.chLatch (s : State) (c code : Nat) (write desc : Bool) (a : Nat) : State :=
  if s.on (R.DMA_CH_ERR_INFO.VALID c) then s
  else
    let info := 2 ^ 31 + (if write then 2 ^ 30 else 0) + (if desc then 2 ^ 29 else 0) + code % 16
    (s.wr (R.DMA_CH_ERR_INFO c) (W info)).wr64 (R.DMA_CH_ERR_ADDR_LO c) a

/-- Outbound reads of the channel are awaited and then discarded, their failures counted (R406). -/
def State.orphanReads (s : State) (c : Nat) : State :=
  { s with brg := { s.brg with outReads := s.brg.outReads.map (fun r => if r.src = .dma c then { r with src := .dmaPast c } else r) } }

/-- The channel halts (R402, R406): the first failure is latched, HALT is set, nothing completes or chains. -/
def State.chHalt (s : State) (c code : Nat) (write desc : Bool) (a : Nat) : State :=
  (((s.chLatch c code write desc a).chRest c chHalted).orphanReads c |>.modChan c (fun k => { k with inflight := none })).ev
    (R.DMA_CH_EVT.HALT c)

/-- An error response reaches channel `c` (R406): counted; an ACTIVE channel halts. -/
def State.chError (s : State) (c code : Nat) (write desc : Bool) (a : Nat) : State :=
  let s1 := s.bump (R.DMA_ERR_LO c)
  if s.chState c = chActive then s1.chHalt c code write desc a else s1

/-- A transfer of `n` bytes at `a` breaks R399. -/
def breaks399 (a n : Nat) : Bool := overlap a n 0 0x4000000 && (a % 4 != 0 || n % 4 != 0)

/-- The descriptor is valid for channel `c` (R401). -/
def State.descOk (s : State) (c : Nat) (d : Desc) : Bool :=
  decide (1 ≤ d.len) && decide (d.len ≤ 16777216) && d.ctl / 2 ^ 28 == 0 && d.ctl % 512 == 0 && !(d.sq && d.dq) &&
    (!d.sq || (!s.qIsIn d.q && s.qEn d.q && !s.boundElse c d.q)) && (!d.dq || (s.qIsIn d.q && s.qEn d.q)) &&
    (!(d.sq || d.dq) || d.len % 4 == 0) && (d.sq || !breaks399 d.src d.len) && (d.dq || !breaks399 d.dst d.len) &&
    d.next % 32 == 0

/-- A fetched descriptor is checked and taken up, or the channel halts with DESC (R401, R402). -/
def State.chTake (s : State) (c : Nat) (d : Desc) : State :=
  let s1 := s.modChan c (fun k => { k with fetch := none })
  if s.descOk c d then
    let s2 := ((s1.modChan c (fun k => { k with desc := some d, ofs := 0, timer := none })).p (R.DMA_CH_STS.REM c) d.len).p
      (R.DMA_CH_STS.UNDERRUN c) 0
    if d.sq || d.dq then s2.boundTouch d.q else s2
  else s1.chHalt c dmaDesc false true d.addr

/-- Bytes to a 4 KiB boundary. -/
def toPage (a : Nat) : Nat := 4096 - a % 4096

/-- Bytes of the channel's next burst (R404); one of a queue moves whole words (R415). -/
def State.burstLen (s : State) (c : Nat) (d : Desc) : Nat :=
  let k := (s.chan c).ofs
  let n := min (64 * 2 ^ min (s.g (R.DMA_CH_CFG.BURST c)) 6) (d.len - k)
  let n1 := if d.sq then n else min n (toPage (d.src + k))
  let n2 := if d.dq then n1 else min n1 (toPage (d.dst + k))
  if d.sq || d.dq then max 4 (n2 / 4 * 4) else n2

/-- The queue a descriptor names can carry no burst: disabled or halted (R406). -/
def State.queDown (s : State) (d : Desc) : Bool := (d.sq || d.dq) && (!s.qEn d.q || s.on (R.QUE_STS.HALT d.q))

/-- The channel has a burst ready (R404, R415): one of a queue falls due when its level or room reaches the burst, when
the timer has requested it, or when the queue is disabled or halted. -/
def State.chReady (s : State) (c : Nat) : Bool :=
  let k := s.chan c
  match k.desc with
  | none => false
  | some d =>
    let n := s.burstLen c d
    s.chState c == chActive && k.inflight.isNone && decide (k.ofs < d.len) &&
      (s.queDown d ||
        (if d.sq then k.timer.isSome || decide (n / 4 ≤ s.qLevel d.q)
         else if d.dq then decide (n / 4 + k.part ≤ s.qRoom d.q)
         else true))

/-- The channel of block `b` that takes the slot: the highest PRIO, in rotation (R404). -/
def State.slotPick (s : State) (b : Nat) : Option Nat :=
  let all := (List.range 32).map (fun k => 32 * b + k)
  if s.held || all.any (fun c => (s.chan c).inflight.isSome) then none
  else
    let last := s.dma.last.get (fun _ => 31) b
    minBy (fun c => 32 * (7 - s.g (R.DMA_CH_CFG.PRIO c)) + (c + 31 - last) % 32) (all.filter s.chReady)

/-- FLUSH_US after the oldest entry not yet requested, a bound OUT queue requests a burst of what it holds (R415). -/
def State.flushTimer (s : State) (q : Nat) : State :=
  if s.g (R.QUE_TMO.FLUSH_US q) = 0 ∨ s.qLevel q = 0 then s
  else
    match List.find? (fun (p : Nat × Chan) =>
        s.chState p.1 == chActive && (match p.2.desc with | some d => d.sq && d.q == q | none => false)) s.dma.chans with
    | some (c, k) =>
      match k.desc with
      | some d =>
        let n := s.burstLen c d / 4
        if k.timer.isSome ∨ n ≤ s.qLevel q ∨ k.ofs = d.len then s
        else s.modChan c (fun j => { j with timer := some (s.qLevel q) })
      | none => s
    | none => s

/-- An edge of generator `g` reaches the channels it triggers, in whatever state they are (R402). -/
def State.dmaEdge (s : State) (g : Nat) : State :=
  s.each ((List.range 256).filter (fun c => s.g (R.DMA_CH_CFG.TRIG c) == 1 && s.g (R.DMA_CH_CFG.TG c) == g))
    (fun c t => t.chTrigger c)

/-- The registers of the DMA engine. -/
def dmaReg (a : Nat) : Bool := decide (0x2100000 ≤ a) && decide (a < 0x2200000)

/-- Soft reset of DMA (R423): bursts in flight complete, every channel goes to IDLE without completion. -/
def State.dmaSoftReset (s : State) : State :=
  let s1 := s.each (s.dma.chans.map (·.1)) (fun c t => t.chRest c chIdle)
  { s1.resetRegs dmaReg with dma := { s1.dma with last := [] } }

/-- The registers of the queues. -/
def queReg (a : Nat) : Bool := decide (0x2200000 ≤ a) && decide (a < 0x2400000)

/-- The queues are empty and disabled, their registers and counters at Reset values, and the companion port is closed
(R423); rows of queue memory that could not be repaired serve again (R460). -/
def State.queSoftReset (s : State) : State :=
  let s1 := { s.resetRegs queReg with cqp := {}, worn := { s.worn with queues := [] } }
  s1.each (List.range 64) (fun q t => t.boundTouch q)

/-! ### Meanings -/

/-- START (R402). -/
def execDmaStart (req ch : Nat) (s : State) : Host.Outcome State Fault Refusal :=
  done s (s.byPort req (R.DMA_CH_CMD (ch % 256)) 1 false (fun t => t.chCommand req (ch % 256) 1))

/-- STOP (R402). -/
def execDmaStop (req ch : Nat) (s : State) : Host.Outcome State Fault Refusal :=
  done s (s.byPort req (R.DMA_CH_CMD (ch % 256)) 2 false (fun t => t.chCommand req (ch % 256) 2))

/-- CLEAR (R402). -/
def execDmaClear (req ch : Nat) (s : State) : Host.Outcome State Fault Refusal :=
  done s (s.byPort req (R.DMA_CH_CMD (ch % 256)) 3 false (fun t => t.chCommand req (ch % 256) 3))

/-- DMA_CHANNEL_DISABLE (R402): a write of DMA_CH_CFG[ch] with EN clear. -/
def execDmaChannelDisable (req ch : Nat) (val : Word) (s : State) : Host.Outcome State Fault Refusal :=
  done s (s.byPort req (R.DMA_CH_CFG (ch % 256)) (val &&& 0x7FFFFFFF) false
    (fun t => t.chCfgWrite (ch % 256) (val &&& 0x7FFFFFFF)))

/-- DMA_HALT (R406): an error response of code 1-5, or a cause of the channel's own of code 6 or 7. -/
def execDmaHalt (ch code : Nat) (write desc : Bool) (addr : Nat) (s : State) : Host.Outcome State Fault Refusal :=
  let c := ch % 256
  done s (if 1 ≤ code ∧ code ≤ 5 then
      (if s.chState c = chActive ∨ s.chState c = chHalted then s.chError c code write desc addr else s)
    else if (code = 6 ∨ code = 7) ∧ s.chState c = chActive then s.chHalt c code write desc addr
    else s)

/-- FLUSH_TIMER (R415). -/
def execQueFlushTimer (queue : Nat) (s : State) : Host.Outcome State Fault Refusal := done s (s.flushTimer (queue % 64))

end Sys2Proof.Machine
end

