-- ==== Sys2Proof/Machine/Sjq.lean ====
section
/-! DEFINITION. Software job queues: rings, producer index, descriptors and what each makes of its job (11, R284,
R289-R294). -/

namespace Sys2Proof.Machine

/-- Queue `q` beyond its registers. -/
def State.sjq (s : State) (q : Nat) : Sjq := s.grit.sjq.get (fun _ => {}) q
/-- Changes queue `q` beyond its registers. -/
def State.modSjq (s : State) (q : Nat) (f : Sjq → Sjq) : State :=
  { s with grit := { s.grit with sjq := s.grit.sjq.set (fun _ => {}) q (f (s.sjq q)) } }

/-- Fields of a descriptor (R290). -/
def djOp (d : List Byte) : Nat := leAt d 0 1 % 16
def djDec (d : List Byte) : Bool := bit (leAt d 0 1) 4
def djIrq (d : List Byte) : Bool := bit (leAt d 0 1) 5
def djTagLen (d : List Byte) : Nat := leAt d 1 1
def djCtrw (d : List Byte) : Nat := leAt d 2 1
def djSlot (d : List Byte) : Nat := leAt d 4 2 % 4096
def djLen (d : List Byte) : Nat := leAt d 8 4
def djAuxLen (d : List Byte) : Nat := leAt d 12 4
def djSrc (d : List Byte) : Nat := leAt d 16 8
def djDst (d : List Byte) : Nat := leAt d 24 8
def djAux (d : List Byte) : Nat := leAt d 32 8
def djIv (d : List Byte) : List Byte := slice d 40 16

/-- 2^24. -/
abbrev maxJob : Nat := 16777216

/-- The LEN rule of an operation (R284). -/
def djLenOk (d : List Byte) : Bool :=
  let n := djLen d
  let some16 := decide (16 ≤ n) && n % 16 == 0
  match djOp d with
  | 1 | 2 => some16 && decide (n ≤ maxJob)
  | 3 | 4 | 5 => decide (1 ≤ n) && decide (n ≤ maxJob)
  | 6 => decide (n ≤ maxJob)
  | 7 => n % 8 == 0 && decide ((if djDec d then 24 else 16) ≤ n)
  | 8 => if djDec d then n % 8 == 0 && decide (16 ≤ n) else decide (1 ≤ n) && decide (n ≤ maxJob)
  | 9 => decide (n ≤ maxJob) && decide (djAuxLen d ≤ maxJob)
  | 10 => decide (1 ≤ n) && decide (n ≤ 65536)
  | 11 | 12 | 13 | 14 => decide (n ≤ maxJob)
  | _ => false

/-- The descriptor is good (R290, R291). -/
def djOk (d : List Byte) : Bool :=
  djLenOk d && leAt d 0 1 / 64 == 0 && leAt d 3 1 == 0 && leAt d 6 2 == 0 && (leAt d 4 2 / 4096 == 0 || (decide (10 ≤ djOp d) && decide (djOp d ≤ 14))) &&
    (match djOp d with
     | 6 => decide (4 ≤ djTagLen d) && decide (djTagLen d ≤ 16)
     | 9 => decide (12 ≤ djTagLen d) && decide (djTagLen d ≤ 16)
     | _ => djTagLen d == 0) &&
    (if djOp d = 5 then decide (8 ≤ djCtrw d) && decide (djCtrw d ≤ 128) && djCtrw d % 8 == 0 else djCtrw d == 0)

/-- A counter would come too near to its end (R294). -/
def djCtrWrap (d : List Byte) : Bool :=
  let blocks := (djLen d + 15) / 16
  (djOp d == 5 && decide (2 ^ djCtrw d < beNat (djIv d) % 2 ^ djCtrw d + blocks + 65536)) ||
    (djOp d == 9 && decide (2 ^ 32 < blocks + 2 + 65536))

/-- Blocks a pool job computes (R284). -/
def djBlocks (d : List Byte) : Nat :=
  let n := djLen d
  match djOp d with
  | 6 => cmacBlocks n
  | 7 => if djDec d then 6 * (n / 8 - 1) else 6 * (n / 8)
  | 8 => if djDec d then 6 * (n / 8 - 1) else 6 * ((n + 7) / 8)
  | _ => (n + 15) / 16

/-- The unit an operation runs in: 0 pool, 1 start-up unit, 2 public-key unit, 3 DRBG (R284). -/
def djUnit (d : List Byte) : Nat :=
  let op := djOp d
  if op = 9 then 1 else if op = 10 then 3 else if 11 ≤ op ∧ op ≤ 14 then 2 else 0

/-- The job of a descriptor: one that is refused computes nothing (R291). -/
def djJob (q i a : Nat) (d : List Byte) : Job :=
  let good := djOk d && !djCtrWrap d
  { level := 6, user := .soft q i, slot := if (opUse (djOp d)).isSome then djSlot d else noSlot,
    blocks := if good then djBlocks d else 0, unit := djUnit d, desc := d, addr := a }

/-- The queue halts (R289, R291). -/
def State.sjqHalt (s : State) (q : Nat) : State := s.p (R.CRY_SJQ_CI.HALT q) 1

/-- Reads descriptors from `next` on while the queue may have more jobs in progress (R289); `m` answers reads of host
memory, which wait where there is none. `n` bounds the walk. -/
def State.sjqFetch (m : Option HostMem) (q : Nat) : Nat → State → State
  | 0, s => s
  | n + 1, s =>
    let k := s.sjq q
    if !s.on (R.CRY_SJQ_CFG.EN q) || s.on (R.CRY_SJQ_CI.HALT q) || k.next == s.g (R.CRY_SJQ_PI.PI q) ||
        decide (s.g (R.CRY_SJQ_CFG.DEPTH q) < k.prog.length + k.before) then s
    else
      let a := k.base + 64 * (k.next % k.size)
      if m.isNone && decide (2 ^ 63 ≤ a) then s
      else
        match s.devRead (m.getD []) a 64 with
        | (s1, .inr _) => ((s1.bump R.CRY_BUS_ERR_LO).ev R.CRY_EVT.BUS_ERR).sjqHalt q
        | (s1, .inl d) =>
          State.sjqFetch m q n ((s1.enqueue (djJob q k.next a d)).modSjq q
            (fun (z : Sjq) => { z with next := (z.next + 1) % 4096, prog := z.prog ++ [z.next] }))

/-- A job in progress of queue `q`, since its latest enable. -/
def isSoft (q : Nat) (j : Job) : Bool := match j.user with | .soft k i => k == q && decide (i < 4096) | _ => false

/-- The jobs of queue `q` that still run belong to an earlier enable from now on (R289). -/
def State.sjqPast (s : State) (q : Nat) : State :=
  let old := fun (j : Job) => if isSoft q j then (match j.user with | .soft k i => { j with user := .soft k (i + 4096) } | _ => j) else j
  let n := (s.grit.waiting.filter (isSoft q)).length + (List.filter (fun (p : Nat × Job) => isSoft q p.2) s.grit.running).length
  ({ s with grit := { s.grit with waiting := s.grit.waiting.map old, running := List.map (fun (p : Nat × Job) => (p.1, old p.2)) s.grit.running } }).modSjq q
    (fun z => { z with before := z.before + n })

/-- A write of CRY_SJQ_CFG (R289): EN set samples the ring and sets CI to PI; EN cleared starts no further job, so that those
read and not started are gone. -/
def State.sjqCfgWrite (s : State) (q : Nat) (val : Word) : State :=
  let was := s.on (R.CRY_SJQ_CFG.EN q)
  let s1 := s.store (R.CRY_SJQ_CFG q) val
  if !was && s1.on (R.CRY_SJQ_CFG.EN q) then
    let pi := s.g (R.CRY_SJQ_PI.PI q)
    let size := 2 ^ clampNat 4 11 (s1.g (R.CRY_SJQ_CFG.SIZE q))
    (((s1.p (R.CRY_SJQ_CI.CI q) pi).p (R.CRY_SJQ_CI.HALT q) 0).sjqPast q).modSjq q
      (fun z => { before := z.before, base := s.rd64 (R.CRY_SJQ_BASE_LO q) / 64 * 64, size := size, next := pi })
  else if was && !s1.on (R.CRY_SJQ_CFG.EN q) then
    { s1 with grit := { s1.grit with waiting := s1.grit.waiting.filter (fun j => !(isSoft q j && !j.started)) } }
  else s1

/-- A write of CRY_SJQ_PI (R289): a PI too far ahead of CI halts the queue; else the new descriptors are read. -/
def State.sjqPiWrite (s : State) (m : Option HostMem) (q : Nat) (val : Word) : State :=
  let s1 := s.store (R.CRY_SJQ_PI q) val
  if !s1.on (R.CRY_SJQ_CFG.EN q) then s1
  else if (s1.sjq q).size < (s1.g (R.CRY_SJQ_PI.PI q) + 4096 - s1.g (R.CRY_SJQ_CI.CI q)) % 4096 then s1.sjqHalt q
  else State.sjqFetch m q 16 s1

/-- The job of index `i` is over: CI advances over every descriptor whose job is (R289). -/
def State.sjqEnd (s : State) (q i : Nat) : State :=
  let k := s.sjq q
  if 4096 ≤ i then s.modSjq q (fun (z : Sjq) => { z with before := z.before - 1 })
  else if !k.prog.contains i then s
  else
    let left := k.prog.erase i
    (s.modSjq q (fun (z : Sjq) => { z with prog := left })).p (R.CRY_SJQ_CI.CI q) (left.headD k.next)

/-! ### Meanings -/

/-- SJQ_ENABLE (R289): a write of CRY_SJQ_CFG[queue] with EN set. -/
def execSjqEnable (req queue : Nat) (val : Word) (s : State) : Host.Outcome State Fault Refusal :=
  done s (s.byPort req (R.CRY_SJQ_CFG (queue % 8)) (val ||| 0x80000000) false (fun t => t.sjqCfgWrite (queue % 8) (val ||| 0x80000000)))

/-- SJQ_PI_WRITE (R289): `host` is what host memory answers to reads of descriptors. -/
def execSjqPiWrite (req queue : Nat) (val : Word) (host : List (Nat × BitVec 8)) (s : State) : Host.Outcome State Fault Refusal :=
  done s (s.byPort req (R.CRY_SJQ_PI (queue % 8)) val false (fun t => t.sjqPiWrite (some host) (queue % 8) val))

end Sys2Proof.Machine
end

