-- ==== Sys2Proof/Machine/BrgBase.lean ====
section
/-! DEFINITION. The host bridge's own state: late failures, AER, outbound reads, MSI-X masks, detach and attach (15,
R383-R395). -/

namespace Sys2Proof.Machine

/-- AER records an error (R376). -/
def State.aer (s : State) (e : Aer) : State :=
  if s.brg.aer.contains e then s else { s with brg := { s.brg with aer := s.brg.aer ++ [e] } }

/-- The bridge sends TLPs. -/
def State.sendTlps (s : State) (l : List Tlp) : State := { s with brg := { s.brg with tlps := s.brg.tlps ++ l } }

/-- A write of MSIX_TAB[v].W3: an unmasked vector that is pending is sent (R385). -/
def State.msixMaskWrite (s : State) (v : Nat) (val : Word) : State := (s.store (R.MSIX_TAB_W3 v) val).msixUnmask v

/-- Tags no outbound read holds (R376). -/
def State.freeTags (s : State) : List Nat :=
  (List.range 256).filter (fun t => !s.brg.outReads.any (fun r => r.tag == t))

/-- Issues the reads of `n` bytes of host memory from `a` for `src` (R390), each under a free tag; there must be enough
of them. Answers whether they were issued; a request the bridge cannot send ends in error. -/
def State.issueReads (s : State) (src : OutSrc) (a n : Nat) : State × Bool :=
  if !s.canSend then (s.outErr, false)
  else
    let parts := (splitAt s.brg.mrrs n a n).zip s.freeTags
    let reads := parts.map (fun p => ({ tag := p.2, src := src, addr := p.1.1, len := p.1.2 } : OutRead))
    let s1 := s.bumpBy R.BRG_OUT_RD_LO parts.length
    ({ s1 with brg := { s1.brg with outReads := s1.brg.outReads ++ reads } }.sendTlps
      (reads.map (fun (r : OutRead) => Tlp.memRd r.tag r.addr r.len)), true)

/-- There are tags for the parts of a read of `n` bytes from `a`. -/
def State.tagsFor (s : State) (a n : Nat) : Bool := decide ((splitAt s.brg.mrrs n a n).length ≤ s.freeTags.length)

/-- The outbound read of a tag ends in error (R390, R406): its DMA channel halts with HOST; of a channel that has halted
already it is counted only. -/
def State.readFails (s : State) (r : OutRead) : State :=
  let s1 := { s with brg := { s.brg with outReads := s.brg.outReads.filter (fun x => x.tag != r.tag) } }.outErr
  match r.src with
  | .dma c => s1.chError c dmaHost false false (2 ^ 63 + r.addr)
  | .dmaPast c => s1.bump (R.DMA_ERR_LO c)
  | .other => s1

/-- The registers of requester `r` in the register network as a reset of it leaves them (R53). -/
def State.reqReset (s : State) (r : Nat) : State :=
  (s.setArmed r false).modRq r (fun q => { q with shadows := [], holds := [] })

/-- Configuration space, the MSI-X table and the PBA take reset values (R395). -/
def State.cfgSpaceReset (s : State) : State :=
  let s1 := s.resetRegs (fun a => decide (R.MSIX_TAB_W0 0 ≤ a) && decide (a < 0x2012000))
  { ((((s1.p R.BRG_LINK.BME 0).p R.BRG_LINK.MSE 0).p R.BRG_LINK.MSIX_EN 0).p R.BRG_LINK.FMASK 0) with
    brg := { s1.brg with bar0 := 0, bar2 := 0, mps := 128, mrrs := 512, aer := [] } }

/-- The bridge enters DETACHED (R393, R394): outbound reads end as errors, the HOST unlock and shadows are cleared, data
of inbound reads is discarded, the host's configuration is lost. -/
def State.detach (s : State) : State :=
  if !s.on R.BRG_LINK.UP then s
  else
    let reads := s.brg.outReads
    let s1 := ((((s.p R.BRG_LINK.UP 0).p R.BRG_LINK.WIDTH 0).p R.BRG_LINK.SPEED 0).ev R.BRG_EVT.DETACH).bump R.BRG_DETACH_LO
    let s2 := s1.each reads (fun r t => if t.brg.outReads.any (fun x => x.tag == r.tag) then
      t.readFails ((t.brg.outReads.find? (fun x => x.tag == r.tag)).getD r) else t)
    let s3 := (s2.reqReset reqHost).cfgSpaceReset
    { s3 with brg := { s3.brg with inReads := s3.brg.inReads.filter (fun r => r.src == .cqp), training := false },
              tenon := { s3.tenon with acc := s3.tenon.acc.map (fun (x : PwrAcc) => match x.src with | .inRead _ _ => { x with src := .gone } | _ => x) } }

/-- Lanes and rates a link can have (R376, BRG_LINK). -/
def linkOk (width speed : Nat) : Bool := (width == 1 || width == 2 || width == 4) && decide (1 ≤ speed) && decide (speed ≤ 4)

/-- The bridge enters ATTACHED (R393) with configuration space at reset values. -/
def State.attach (s : State) (width speed : Nat) : State :=
  if s.on R.BRG_LINK.UP || !linkOk width speed then s
  else
    let s1 := ((((s.cfgSpaceReset).p R.BRG_LINK.UP 1).p R.BRG_LINK.WIDTH width).p R.BRG_LINK.SPEED speed).ev R.BRG_EVT.ATTACH
    { s1 with brg := { s1.brg with training := false } }

/-- Soft reset of BRG (R395): registers, log, counters, BRG_WIN and BRG_SEM; the link and configuration space stay. -/
def State.brgSoftReset (s : State) : State :=
  let link := s.rd R.BRG_LINK
  (s.resetRegs (fun a => decide (0x2000000 ≤ a) && decide (a < 0x2010000))).wr R.BRG_LINK link

end Sys2Proof.Machine
end

