-- ==== Sys2Proof/Machine/Image.lean ====
section
/-! DEFINITION. The flash, its directory, and the signature block that configuration and firmware images share (3, R61,
R65; 19, R476). -/

namespace Sys2Proof.Machine

/-! ### Flash (R61, R483) -/

/-- `n` bytes of flash from offset `a`; a byte never programmed reads 0xFF. -/
def State.flashBytes (s : State) (a n : Nat) : List Byte := (List.range n).map (fun k => Tab.get (fun _ => (0xFF : Byte)) s.flash (a + k))

/-- Stores bytes in the flash from offset `a`. -/
def State.flashPut (s : State) (a : Nat) : List Byte → State
  | [] => s
  | b :: t => State.flashPut { s with flash := Tab.set (fun _ => (0xFF : Byte)) s.flash a b } (a + 1) t

/-- Erases `n` bytes of flash from offset `a`. -/
def State.flashErase (s : State) (a n : Nat) : State := { s with flash := s.flash.clear (fun k => decide (a ≤ k) && decide (k < a + n)) }

/-- The entries (TYPE, OFFSET, SIZE) of the directory copy that `b` spells; none where MAGIC, VERSION or CRC is wrong
(R61). -/
def dirOf (b : List Byte) : Option (List (Nat × Nat × Nat)) :=
  if b.take 4 = [0x48, 0x4B, 0x44, 0x52] ∧ leAt b 4 2 = 1 ∧ leAt b 0xFFC 4 = crc32 (slice b 0 0xFFC) then
    some ((List.range (min (leAt b 6 2) 32)).map (fun i => (leAt b (8 + 16 * i) 4, leAt b (12 + 16 * i) 4, leAt b (16 + 16 * i) 4)))
  else none

/-- Offset and size of the area of a TYPE, if the directory names one. Which of two entries of one TYPE counts the spec does not
say: the first is taken (log 60). -/
def State.areaInFlash (s : State) (type : Nat) : Option (Nat × Nat) :=
  match s.loader.dir with
  | none => none
  | some l => (l.find? (fun e => e.1 == type)).map (·.2)

/-- Configuration slot `k`, 0 A or 1 B: absent where its entry breaks the rule of R61. -/
def State.cfgSlot (s : State) (k : Nat) : Option (Nat × Nat) :=
  match s.areaInFlash (1 + k) with
  | none => none
  | some e => if e.1 % 65536 = 0 ∧ e.2 % 65536 = 0 ∧ e.2 ≤ 4194304 then some e else none

/-- Firmware slot `k`, 0 A or 1 B. -/
def State.fwSlot (s : State) (k : Nat) : Option (Nat × Nat) := s.areaInFlash (3 + k)

/-! ### Signature block (R65) -/

/-- Length of a signature block with the parts that FLAGS names. -/
def sigLenOf (flags : Nat) : Nat := (if bit flags 0 then 128 else 0) + (if bit flags 1 then 5264 else 0)

/-- Offset of the ML-DSA part. -/
def sigMldsaAt (flags : Nat) : Nat := if bit flags 0 then 128 else 0

/-- The signer is not revoked, and FLAGS names every algorithm that SIG_POLICY requires (R65, R69). -/
def State.signerAllowed (s : State) (signer flags : Nat) : Bool :=
  !bit s.vault.revoked signer && (s.vault.policy &&& 3) == (s.vault.policy &&& 3 &&& flags)

/-- The fuses hold this digest for a signer index and algorithm (R65, R322). -/
def State.signerDigest (s : State) (alg signer : Nat) (pub : List Byte) : Bool :=
  s.vault.signers.find? (4 * alg + signer) == some (sha256 pub)

/-- The digest of each public key present is the one in the fuses (R65, R69). -/
def State.signerKeys (s : State) (signer flags : Nat) (sig : List Byte) : Bool :=
  decide (signer < 4) &&
    (!bit flags 0 || s.signerDigest 0 signer (slice sig 0 64)) &&
    (!bit flags 1 || s.signerDigest 1 signer (slice sig (sigMldsaAt flags) 1952))

/-- Every signature present is good (R65). -/
def sigsGood (flags : Nat) (digest sig : List Byte) : Bool :=
  (!bit flags 0 || ecdsaOk (slice sig 0 64) digest (slice sig 64 64)) &&
    (!bit flags 1 || mldsaOk (slice sig (sigMldsaAt flags) 1952) digest (slice sig (sigMldsaAt flags + 1952) 3309))

/-- Every byte is zero. -/
def allZero (b : List Byte) : Bool := b.all (· == 0)

/-- DEVICE_SEL names any device or this one (R63, R474). -/
def deviceOk (sel : Nat) : Bool := sel == 0 || sel == Config.serial % 2 ^ 64

end Sys2Proof.Machine
end

