-- ==== Sys2Proof/Machine/MgtBase.lean ====
section
/-! DEFINITION. The management cluster: its reset, timer and watchdog, firmware images, the resident loader, firmware and
flash commands (19, R465-R488). -/

namespace Sys2Proof.Machine

/-- States of MGT_STS.STATE. -/
abbrev mgtReset0 : Nat := 0
abbrev mgtLoader : Nat := 1
abbrev mgtRun : Nat := 2
abbrev mgtNoFw : Nat := 3

/-- MGT_STS.SLOT of an image run from DRAM, and of none. -/
abbrev fwRam : Nat := 2
abbrev fwNone : Nat := 3

/-- Changes the management cluster beyond its registers. -/
def State.modMgt (s : State) (f : Mgt → Mgt) : State := { s with mgt := f s.mgt }

/-! ### Interrupts and timer (R471, R472) -/

/-- MGT_MTIMECMP of core `n`. -/
def State.mtimecmp (s : State) (n : Nat) : Nat := s.rd64 (R.MGT_MTIMECMP_LO n)

/-- MTIP of core `n` follows the comparison (R472). -/
def State.mtipTouch (s : State) (n : Nat) : State :=
  s.modMgt (fun m => { m with mtip := setBit m.mtip n (decide (s.mtimecmp n ≤ s.mtime)) })

/-- MEIP of core `n`: MGT_IP AND MGT_IEN is not zero (R471). -/
def State.meip (s : State) (n : Nat) : Bool := s.irqLines &&& s.rd64 (R.MGT_IEN0 n) != 0

/-- MSIP of core `n` (R472). -/
def State.msip (s : State) (n : Nat) : Bool := s.on (R.MGT_MSIP.MSIP n)

/-! ### Management-cluster reset (R473) -/

/-- Bytes of SRAM, and the offset of the loader area (R467). -/
abbrev sramSize : Nat := 4194304
abbrev loaderArea : Nat := 4128768

/-- Registers that every management-cluster reset returns to Reset values. -/
def mgtClears (a : Nat) : Bool := a == R.MGT_WDT || (decide (0x2600400 ≤ a) && decide (a < 0x2600500))

/-- What the loader area of SRAM holds after a management-cluster reset the spec does not say (R473): free bytes (log 3). -/
def loaderFree (f : Nat) : Tab Byte :=
  ((List.range (sramSize - loaderArea)).map (fun k => (loaderArea + k, B8 (f / 256 ^ k)))).filter (fun p => p.2 != 0)

/-- The cluster resets with CAUSE `cause` and restarts in the resident loader. -/
def State.mgtReset (s : State) (cause : Nat) : State :=
  let s1 := (s.resetRegs mgtClears).wr R.MGT_STS (W (mgtLoader * 2 ^ 29 + fwNone * 2 ^ 27 + (cause % 8) * 2 ^ 22))
  let s2 := s1.each [1, 2, 3, 4] (fun r t => t.reqReset r)
  let ram := match s.mgt.check with | some (.ram _) => true | _ => false
  let s3 := if ram then (s2.setStat R.MGT_FW_CMD statFailed).dropJobs (fun j => j.user == .fwCheck) else s2
  (s3.used.modMgt (fun m => { m with
    running := false, kick := s.tick, pair := s.g R.MGT_CFG.PAIR, mtip := 0, resv := [], begun := false, order := [],
    codes := [0, 0], trial := false, check := if ram then none else m.check,
    sram := m.sram.clear (fun a => decide (loaderArea ≤ a)) ++ loaderFree s.freeNat })).bump R.MGT_RESET_LO

/-- Registers of MGT that the keep-alive store holds (R487, R489). -/
def mgtKept (a : Nat) : Bool :=
  a == R.MGT_FW_SEL || a == R.MGT_FW_VER || a == R.MGT_FW_SEQ || (decide (R.MGT_FW_DIG 0 ≤ a) && decide (a < R.MGT_FW_DIG 12)) ||
    (decide (0x2600800 ≤ a) && decide (a < 0x2600820))

/-- Soft reset of MGT (R487). -/
def State.mgtSoftReset (s : State) : State :=
  (((s.resetRegs (fun a => regionOf a == 17 && !mgtKept a)).dropJobs (fun j => j.user == .fwCheck)).modMgt
    (fun m => { m with check := none, fl := none })).mgtReset 1

/-- A write of MGT_RST, past its guard (R473). -/
def State.mgtRstWrite (s : State) (req : Nat) (val : Word) : State :=
  s.command req R.MGT_RST val true statDone (fun t => if bit val.toNat 0 then t.mgtReset 1 else t)

/-- A write of MGT_WDT_KICK: by MGT0-MGT3 it restarts the count (R473). -/
def State.kickWrite (s : State) (req : Nat) (val : Word) : State :=
  if 1 ≤ req ∧ req ≤ 4 then (s.store R.MGT_WDT_KICK val).modMgt (fun m => { m with kick := s.tick }) else s

/-- The watchdog expires (R473). -/
def State.wdtExpire (s : State) : State :=
  if s.on R.MGT_WDT.EN && (s.g R.MGT_STS.STATE == mgtLoader || s.g R.MGT_STS.STATE == mgtRun) then
    (((s.fault 305 (faultInfo 2 0 0)).bump R.MGT_WDT_EXP_LO).ev R.MGT_EVT.WDT).mgtReset 2
  else s

/-- A mismatch of pair `p`, where it is paired (R466). -/
def State.lockstep (s : State) (p : Nat) : State :=
  if bit s.mgt.pair p then (((s.fault 304 (faultInfo 2 p 0)).bump R.MGT_LOCK_ERR_LO).ev R.MGT_EVT.LOCK).mgtReset 3 else s

/-! ### SRAM -/

def State.sramBytes (s : State) (a n : Nat) : List Byte := (List.range n).map (fun k => Tab.get (fun _ => (0 : Byte)) s.mgt.sram (a + k))
def State.sramPut (s : State) (a : Nat) : List Byte → State
  | [] => s
  | b :: t => State.sramPut (s.modMgt (fun m => { m with sram := Tab.set (fun _ => (0 : Byte)) m.sram a b })) (a + 1) t

/-! ### Firmware images (R474-R477) -/

/-- How the bytes of an image are read, and the size of the place it fills. -/
structure FwImg where
  read : Nat → Nat → List Byte
  size : Nat

/-- The image of a firmware slot. -/
def State.slotImg (s : State) (e : Nat × Nat) : FwImg := ⟨fun o n => s.flashBytes (e.1 + o) n, e.2⟩

/-- The image at a device address in DRAM (R481). -/
def State.ramImg (s : State) (a : Nat) : FwImg :=
  ⟨fun o n => match targetOf (a + o) with | .dram d => s.dramBytes d n | _ => List.replicate n 0, 8388608⟩

/-- Manifest fields (R474). -/
def fwBodyLen (m : List Byte) : Nat := leAt m 0x10 4
def fwBlocks (m : List Byte) : Nat := leAt m 6 2
def fwFlags (m : List Byte) : Nat := leAt m 0x14 4
def manLen (m : List Byte) : Nat := 0x100 + 32 * fwBlocks m

/-- A segment: LOAD, FILL, OFS, LEN (R475). -/
structure Seg where
  load : Nat
  fill : Bool
  ofs : Nat
  len : Nat
  deriving DecidableEq, Repr

/-- The used segments of a manifest. -/
def fwSegs (m : List Byte) : List Seg :=
  ((List.range 8).map (fun i =>
    ({ load := leAt m (0x80 + 16 * i) 8, fill := bit (leAt m (0x88 + 16 * i) 4) 31, ofs := leAt m (0x88 + 16 * i) 4 % 2 ^ 31,
       len := leAt m (0x8C + 16 * i) 4 } : Seg))).filter (fun g => g.len != 0)

/-- Where SRAM lies in the cores' map (R467). -/
abbrev sramBase : Nat := 0x90000000

/-- A segment lies in SRAM below the loader area, or in general DRAM (R428, R475). -/
def State.segPlace (s : State) (g : Seg) : Bool :=
  (decide (sramBase ≤ g.load) && decide (g.load + g.len ≤ sramBase + loaderArea)) ||
    (decide (dramBase ≤ g.load) && decide (g.load + g.len ≤ dramBase + capBytes) && !s.protectedArea (g.load - dramBase) g.len)

/-- No two segments overlap. -/
def segsApart : List Seg → Bool
  | [] => true
  | g :: t => t.all (fun h => !overlap g.load g.len h.load h.len) && segsApart t

/-- R475 holds, and ENTRY lies in a copied segment. -/
def State.segsOk (s : State) (m : List Byte) : Bool :=
  let l := fwSegs m
  let entry := leAt m 0x20 8
  l.all (fun g => s.segPlace g && (g.fill || decide (g.ofs + g.len ≤ fwBodyLen m))) && segsApart l &&
    l.any (fun g => !g.fill && decide (g.load ≤ entry) && decide (entry < g.load + g.len))

/-- Body block `i` (R476). -/
def fwBlock (g : FwImg) (m : List Byte) (i : Nat) : List Byte := g.read (65536 + 65536 * i) (min 65536 (fwBodyLen m - 65536 * i))

/-- The first body block whose hash differs. -/
def badBlock (g : FwImg) (m : List Byte) : Option Nat :=
  (List.range (fwBlocks m)).find? (fun i => sha256 (fwBlock g m i) != slice m (0x100 + 32 * i) 32)

/-- Codes of R477. -/
abbrev fwDir : Nat := 1
abbrev fwFlash : Nat := 14

/-- The code of the first failing check of a candidate, 0 for a pass, and the failing block (R477). -/
def State.fwVerdict (s : State) (g : FwImg) : Nat × Nat :=
  let m := g.read 0 (min 4352 g.size)
  let flags := fwFlags m
  let sig := g.read 0x8000 (sigLenOf flags)
  let signer := leAt m 0x2B 1
  if slice m 0 4 ≠ [0x48, 0x4B, 0x46, 0x57] then (2, 0)
  else if leAt m 4 2 ≠ 1 || flags / 4 != 0 || !allZero (slice m 0x34 76) then (3, 0)
  else if leAt m 0x28 2 ≠ 0x9256 || decide (1 < leAt m 0x2A 1) || !deviceOk (leAt m 0x18 8) then (4, 0)
  else if fwBlocks m != (fwBodyLen m + 65535) / 65536 || fwBlocks m == 0 || decide (127 < fwBlocks m) ||
      decide (g.size < 65536 + fwBodyLen m) || decide (8388608 < 65536 + fwBodyLen m) || leAt m 0x30 4 != sigLenOf flags then (5, 0)
  else if leAt m 0x0B 1 < s.vault.fwEpoch then (6, 0)
  else if !s.signerAllowed signer flags || !s.signerKeys signer flags sig then (7, 0)
  else if !sigsGood flags (sha384 (slice m 0 (manLen m))) sig then (8, 0)
  else
    match badBlock g m with
    | some i => (9, i)
    | none => if s.segsOk m then (0, 0) else (10, 0)

/-- Writes a segment's bytes that lie below body offset `lim` (R475, R479). -/
def State.segCopy (s : State) (img : FwImg) (lim : Nat) (g : Seg) : State :=
  let b := if g.fill then List.replicate g.len 0 else img.read (65536 + g.ofs) (min g.len (lim - g.ofs))
  if g.load < dramBase then s.sramPut (g.load - sramBase) b else s.dramWriteOwn (g.load - dramBase) b

/-- The resident loader copies segments as their blocks pass (R479): those of `lim` bytes of the body. -/
def State.fwCopy (s : State) (img : FwImg) (lim : Nat) : State :=
  let m := img.read 0 (min 4352 img.size)
  if s.segsOk m then s.each (fwSegs m) (fun g t => t.segCopy img lim g) else s

/-! ### Settings store (R482) -/

/-- The content and format of a settings bank of `n` bytes at flash offset `a`, if valid: GEN, FMT, content. -/
def State.setBank (s : State) (a n : Nat) : Option (Nat × Nat × List Byte) :=
  let h := s.flashBytes a 32
  let len := leAt h 12 4
  if slice h 0 4 = [0x48, 0x4B, 0x53, 0x54] ∧ 32 + len ≤ n then
    let c := s.flashBytes (a + 32) len
    if leAt h 16 4 = crc32 c then some (leAt h 8 4, leAt h 4 2, c) else none
  else none

/-- The bank the loader takes: the valid one of higher GEN. -/
def State.settings (s : State) : Option (Nat × Nat × List Byte) :=
  match s.areaInFlash 5 with
  | none => none
  | some (a, n) =>
    match s.setBank a (n / 2), s.setBank (a + n / 2) (n / 2) with
    | some x, some y => if x.1 < y.1 then some y else some x
    | some x, none => some x
    | none, r => r

/-! ### The start contract (R479-R481) -/

/-- The loader sets FALLBACK, once in a start (R479). -/
def State.setFallback (s : State) : State :=
  if s.on R.MGT_STS.FALLBACK then s
  else (((s.p R.MGT_STS.FALLBACK 1).ev R.MGT_EVT.FALLBACK).bump R.MGT_FALLBACK_LO).p R.MGT_FW_SEL.TRIED 0

/-- An image that has passed runs (R479, steps 4-6): settings, registers, start record, watchdog, release. `slot` is
MGT_STS.SLOT; `other`: it is not the first candidate. -/
def State.fwGo (s0 : State) (img : FwImg) (slot : Nat) (trial other : Bool) : State :=
  let s := if other then s0.setFallback else s0
  let fallback := s.on R.MGT_STS.FALLBACK
  let m := img.read 0 4352
  let set := if s.on R.MGT_FW_SEL.DEFAULTS then none else
    match s.settings with
    | some (_, fmt, c) => if leAt m 0x2C 2 ≤ fmt ∧ fmt ≤ leAt m 0x2E 2 ∧ c.length ≤ 524288 then some (fmt, c) else none
    | none => none
  let s1 := s.p R.MGT_FW_SEL.DEFAULTS 0
  let s2 := match set with | some (_, c) => s1.sramPut (loaderArea - c.length) c | none => s1
  let s3 := ((s2.wr R.MGT_FW_VER (W (leAt m 12 4))).wr R.MGT_FW_SEQ (W (leAt m 8 4))).wrList (R.MGT_FW_DIG 0)
    (wordsOf 12 (sha384 (slice m 0 (manLen m))))
  let flags := (if trial then 1 else 0) + (if fallback then 2 else 0) + (if set.isNone then 4 else 0)
  let reds := ((List.range 16).filter (fun k => s.on (R.MGT_SRAM_RED.VALID k))).length
  let rec0 := [0x48, 0x4B, 0x53, 0x52, 1, B8 slot, B8 flags, B8 (s.g R.MGT_STS.CAUSE)] ++ leBytes 4 (leAt m 8 4) ++
    leBytes 4 (leAt m 12 4) ++ leBytes 8 (match set with | some (_, c) => sramBase + loaderArea - c.length | none => 0) ++
    leBytes 4 (match set with | some (_, c) => c.length | none => 0) ++ leBytes 2 (match set with | some (f, _) => f | none => 0) ++
    leBytes 2 reds ++ [B8 (s.mgt.codes.getD 0 0), B8 (s.mgt.codes.getD 1 0), 0, 0] ++ List.replicate 28 0
  let s4 := (s3.sramPut 0x3FF000 rec0).modMgt (fun k => { k with kick := s.tick, running := true })
  ((s4.p R.MGT_STS.STATE mgtRun).p R.MGT_STS.SLOT slot).pb R.MGT_STS.TRIAL trial

/-- No candidate passes (R481): the watchdog is cleared. -/
def State.fwNone (s : State) : State := ((s.p R.MGT_STS.STATE mgtNoFw).p R.MGT_WDT.EN 0).ev R.MGT_EVT.NOFW

/-- SEQ of the image in a firmware slot, where there is one. -/
def State.fwSeq (s : State) (k : Nat) : Nat :=
  match s.fwSlot k with
  | some e => let h := s.flashBytes e.1 12; if slice h 0 4 = [0x48, 0x4B, 0x46, 0x57] then 1 + leAt h 8 4 else 0
  | none => 0

/-- The loader orders the candidates (R479, step 2), once the configuration loader has ended. -/
def State.fwBegin (s : State) : State :=
  let st := s.g R.CFG_STS.STATE
  if s.g R.MGT_STS.STATE != mgtLoader || s.mgt.begun || decide (st < 6) then s
  else
    let trial := s.on R.MGT_FW_SEL.TRIAL
    let first := if trial then s.g R.MGT_FW_SEL.TSLOT else if s.on R.MGT_FW_SEL.KNOWN then s.g R.MGT_FW_SEL.ACT
      else if s.fwSeq 0 < s.fwSeq 1 then 1 else 0
    let s1 := if trial then (s.p R.MGT_FW_SEL.TRIAL 0).p R.MGT_FW_SEL.TRIED 1
      else if s.on R.MGT_FW_SEL.TRIED then s.setFallback else s
    s1.modMgt (fun m => { m with begun := true, order := [first, 1 - first], first := first, trial := trial })

/-- The next candidate is checked, and run if it passes (R479, step 3); `err` is an xSPI error. -/
def State.fwCandidate (s : State) (err : Bool) : State :=
  match s.mgt.order with
  | [] => s
  | k :: rest =>
    let s1 := s.modMgt (fun m => { m with order := rest })
    let end1 := fun (t : State) (code : Nat) =>
      let u := t.modMgt (fun m => { m with codes := m.codes.set k code })
      if rest.isEmpty then u.fwNone else u
    match s.fwSlot k with
    | none => end1 s1 fwDir
    | some e =>
      let img := s.slotImg e
      if err then end1 (s1.fault 16 (faultInfo 4 0 0)) fwFlash
      else
        match s.fwVerdict img with
        | (0, _) =>
          (s1.fwCopy img (fwBodyLen (img.read 0 64))).fwGo img k (s.mgt.trial && k == s.mgt.first) (k != s.mgt.first)
        | (9, i) => end1 (s1.fwCopy img (65536 * i)) 9
        | (c, _) => end1 s1 c

/-! ### Firmware commands (R481, R484, R485) -/

/-- MGT_FW_CMD is accepted. -/
def State.fwCmdOk (s : State) (op slot : Nat) : Bool :=
  match op with
  | 1 => s.g R.MGT_STS.SLOT != slot
  | 2 => s.on R.MGT_FW_CHK.CHECKED
  | 3 => s.on R.MGT_STS.TRIAL
  | 4 => s.g R.MGT_STS.STATE == mgtNoFw
  | _ => false

/-- CONFIRM (R485). -/
def State.fwConfirm (s : State) : State :=
  (((s.p R.MGT_FW_SEL.ACT (s.g R.MGT_STS.SLOT)).p R.MGT_FW_SEL.KNOWN 1).p R.MGT_FW_SEL.TRIED 0).p R.MGT_STS.TRIAL 0

/-- The job of a check in the public-key unit (R484). -/
def fwJob : Job := { level := 6, user := .fwCheck, slot := noSlot, unit := 2 }

/-- A write of MGT_FW_CMD, past its guard. -/
def State.fwCommand (s : State) (req : Nat) (val : Word) : State :=
  let op := fieldOf val 0 4
  let slot := fieldOf val 4 1
  s.command req R.MGT_FW_CMD val (s.fwCmdOk op slot) (if op = 1 ∨ op = 4 then statBusy else statDone) (fun t =>
    match op with
    | 1 => (t.modMgt (fun m => { m with check := some (.slot slot) })).enqueue fwJob
    | 2 => ((t.p R.MGT_FW_SEL.TRIAL 1).p R.MGT_FW_SEL.TSLOT (t.g R.MGT_FW_CHK.SLOT)).mgtReset 4
    | 3 => t.fwConfirm
    | _ => (t.modMgt (fun m => { m with check := some (.ram (t.rd64 R.MGT_REC_ADDR_LO)) })).enqueue fwJob)

/-- The result of a check goes to MGT_FW_CHK (R484). -/
def State.fwResult (s : State) (slot code block : Nat) (checked : Bool) : State :=
  (s.wr R.MGT_FW_CHK (W ((if checked then 2 ^ 31 else 0) + (slot % 2) * 2 ^ 30 + (code % 256) * 2 ^ 16 + block % 128))).ev
    R.MGT_EVT.CHECK_DONE

/-- A CHECK or RECOVER check ends in the public-key unit (R481, R484); `err` is an xSPI error, or a DRAM line that cannot be
read. -/
def State.checkDone (s : State) (err : Bool) : State :=
  match s.mgt.check, s.jobOn publicKeyUnit with
  | some c, some j =>
    if j.user ≠ .fwCheck then s
    else
    let s1 := (s.endJob publicKeyUnit j).modMgt (fun m => { m with check := none })
    match c with
    | .slot k =>
      let v := match s.fwSlot k with
        | none => (fwDir, 0)
        | some e => if err then (fwFlash, 0) else s.fwVerdict (s.slotImg e)
      (s1.fwResult k v.1 v.2 (v.1 == 0)).setStat R.MGT_FW_CMD (if v.1 = 0 then statDone else statFailed)
    | .ram a =>
      let img := s.ramImg a
      let v := if err then (fwFlash, 0) else s.fwVerdict img
      let s2 := s1.fwResult 0 v.1 v.2 false
      if v.1 = 0 then
        ((s2.setStat R.MGT_FW_CMD statDone).fwCopy img (fwBodyLen (img.read 0 64))).fwGo img fwRam false false
      else s2.setStat R.MGT_FW_CMD statFailed
  | _, _ => s

/-! ### Flash commands (R483) -/

/-- The range a flash command works on meets an area. -/
def meetsArea (op ofs len : Nat) (e : Option (Nat × Nat)) : Bool :=
  match e with
  | none => false
  | some (a, n) => if op = 3 then overlap (ofs / 65536 * 65536) 65536 a n else overlap ofs len a n

/-- MGT_FL_CMD is accepted (R483). -/
def State.flCmdOk (s : State) (op ofs len : Nat) : Bool :=
  let st := s.g R.CFG_STS.STATE
  let act := s.g R.CFG_STS.SLOT
  let fw := s.g R.MGT_STS.SLOT
  op != 0 && decide (6 ≤ st) && ofs % 4 == 0 && len % 4 == 0 && decide (len ≤ 65536) &&
    (op == 1 || (!(decide (act < 2) && meetsArea op ofs len (s.cfgSlot act)) && !(decide (fw < 2) && meetsArea op ofs len (s.fwSlot fw))))

/-- A write of MGT_FL_CMD, past its guard. -/
def State.flCommand (s : State) (req : Nat) (val : Word) : State :=
  let op := fieldOf val 0 2
  let ofs := (s.rd R.MGT_FL_OFS).toNat
  let len := (s.rd R.MGT_FL_LEN).toNat
  s.command req R.MGT_FL_CMD val (s.flCmdOk op ofs len) statBusy (fun t =>
    let t1 := t.modMgt (fun m => { m with fl := some ⟨op, ofs, len, t.rd64 R.MGT_FL_BUF_LO⟩ })
    if 2 ≤ op ∧ meetsArea op ofs len (t.fwSlot (t.g R.MGT_FW_CHK.SLOT)) then t1.p R.MGT_FW_CHK.CHECKED 0 else t1)

/-- A program or erase that is broken off leaves its range as it happens to be (R486; log 3). -/
def State.flTorn (s : State) : State :=
  match s.mgt.fl with
  | none => s
  | some c =>
    if c.op = 2 then s.used.flashPut c.ofs (leBytes c.len s.freeNat)
    else if c.op = 3 then s.used.flashPut (c.ofs / 65536 * 65536) (leBytes 65536 s.freeNat)
    else s

/-! ### Firmware epoch (R478) -/

/-- A granted write of an epoch register: fuses are to be blown up to the value where R73 permits it. -/
def raiseTo (epoch limit now : Nat) (cur : Option Nat) : Option Nat :=
  if epoch < now ∧ now ≤ limit then some (match cur with | some t => max t now | none => now) else cur

/-- A granted write of MGT_FLOOR (R478): not above the epoch of the running image. -/
def State.fwFloorWrite (s : State) (val : Word) : State :=
  let limit := if s.g R.MGT_STS.STATE = mgtRun then fieldOf (s.rd R.MGT_FW_SEQ) 24 8 else 0
  let f := raiseTo s.vault.fwEpoch limit (fieldOf val 0 8) s.mgt.fusing
  (s.modMgt (fun m => { m with fusing := f })).pb R.MGT_FLOOR.FUSING f.isSome

/-- The fuses are blown. -/
def State.fwFloorDone (s : State) : State :=
  match s.mgt.fusing with
  | none => s
  | some e => ({ s with vault := { s.vault with fwEpoch := e } }.modMgt (fun m => { m with fusing := none })).p R.MGT_FLOOR.FUSING 0

/-! ### Meanings -/

/-- MGT_RST (R473). -/
def execMgtRst (req : Nat) (val : Word) (s : State) : Host.Outcome State Fault Refusal :=
  done s (s.byPort req R.MGT_RST val true (fun t => t.mgtRstWrite req val))

/-- WATCHDOG_EXPIRY (R473). -/
def execWatchdogExpiry (s : State) : Host.Outcome State Fault Refusal := done s s.wdtExpire

/-- WATCHDOG_KICK (R473). -/
def execWatchdogKick (req : Nat) (val : Word) (s : State) : Host.Outcome State Fault Refusal :=
  done s (s.byPort req R.MGT_WDT_KICK val false (fun t => t.kickWrite req val))

/-- LOCKSTEP_MISMATCH (R466). -/
def execLockstepMismatch (pair : Nat) (s : State) : Host.Outcome State Fault Refusal := done s (s.lockstep (pair % 2))

/-- LOADER_BEGIN (R479). -/
def execLoaderBegin (s : State) : Host.Outcome State Fault Refusal := done s s.fwBegin

/-- FW_CANDIDATE_CHECKED (R479). -/
def execFwCandidateChecked (err : Bool) (s : State) : Host.Outcome State Fault Refusal := done s (s.fwCandidate err)

/-- A write of MGT_FW_CMD with operation `op`. -/
def State.fwRow (s : State) (req op slot : Nat) : State :=
  let v := W (op + (slot % 2) * 16)
  s.byPort req R.MGT_FW_CMD v true (fun t => t.fwCommand req v)

/-- CHECK (R484). -/
def execFwCheck (req slot : Nat) (s : State) : Host.Outcome State Fault Refusal := done s (s.fwRow req 1 slot)
/-- CHECK_DONE (R484). -/
def execFwCheckDone (err : Bool) (s : State) : Host.Outcome State Fault Refusal := done s (s.checkDone err)
/-- ACTIVATE (R485). -/
def execFwActivate (req : Nat) (s : State) : Host.Outcome State Fault Refusal := done s (s.fwRow req 2 0)
/-- CONFIRM (R485). -/
def execFwConfirm (req : Nat) (s : State) : Host.Outcome State Fault Refusal := done s (s.fwRow req 3 0)
/-- RECOVER (R481). -/
def execFwRecover (req : Nat) (s : State) : Host.Outcome State Fault Refusal := done s (s.fwRow req 4 0)

/-- A write of MGT_FL_CMD with operation `op`. -/
def State.flRow (s : State) (req op : Nat) : State := s.byPort req R.MGT_FL_CMD (W op) true (fun t => t.flCommand req (W op))

/-- FLASH_READ (R483). -/
def execFlashRead (req : Nat) (s : State) : Host.Outcome State Fault Refusal := done s (s.flRow req 1)
/-- PROGRAM (R483). -/
def execFlProgram (req : Nat) (s : State) : Host.Outcome State Fault Refusal := done s (s.flRow req 2)
/-- ERASE (R483). -/
def execFlErase (req : Nat) (s : State) : Host.Outcome State Fault Refusal := done s (s.flRow req 3)

/-- FW_FLOOR_DONE (R478). -/
def execFwFloorDone (s : State) : Host.Outcome State Fault Refusal := done s s.fwFloorDone

/-- MTIMECMP_REACHED (R472). -/
def execMtimecmpReached (core : Nat) (s : State) : Host.Outcome State Fault Refusal := done s (s.mtipTouch (core % 4))

end Sys2Proof.Machine
end

