-- ==== Sys2Proof/Machine/FltBase.lean ====
section
/-! DEFINITION. The fault aggregator's commands and the dump engine (18, R443-R453). -/

namespace Sys2Proof.Machine

/-- A dump runs, or is due. -/
def State.dumping (s : State) : Bool := s.flt.dump.isSome || s.flt.dumpWanted

/-- Changes the aggregator beyond its registers. -/
def State.modFlt (s : State) (f : Flt → Flt) : State := { s with flt := f s.flt }

/-- The fatal path is over once FATAL has been cleared, no hold is in force and no dump runs (R447-R450). -/
def State.fatalOver (s : State) : State :=
  if !s.on R.FLT_STS.FATAL && !s.flt.held && !s.dumping then s.modFlt (fun f => { f with path := false }) else s

/-- A write of FLT_STS: writing 1 to FATAL clears it (R450). -/
def State.fltStsWrite (s : State) (val : Word) : State := if bit val.toNat 31 then (s.p R.FLT_STS.FATAL 0).fatalOver else s

/-- A write of FLT_SRC_STS[n]: writing 1 to INSVC takes the source out of service (R445). -/
def State.srcStsWrite (s : State) (n : Nat) (val : Word) : State :=
  if bit val.toNat 31 && s.on (R.FLT_SRC_STS.INSVC n) then
    (s.p (R.FLT_SRC_STS.INSVC n) 0).p R.FLT_STS.INSVC_N (s.g R.FLT_STS.INSVC_N - 1)
  else s

/-- RELEASE (R449). -/
def State.release (s : State) : State := ((s.p R.FLT_STS.HOLD 0).modFlt (fun f => { f with held := false })).fatalOver

/-- A SOFT dump is asked for (R453); the INFO of its header is no occurrence's. -/
def State.softDump (s : State) : State :=
  s.used.modFlt (fun f => { f with dumpWanted := true, dumpSrc := 0xFFFF, dumpInfo := s.freeNat % 2 ^ 32 })

/-- A write of FLT_DUMP_CMD (R449, R453). -/
def State.dumpCommand (s : State) (req : Nat) (val : Word) : State :=
  let op := fieldOf val 0 2
  let ok := op == 2 || (op == 1 && !s.dumping) || (op == 3 && s.on R.FLT_STS.HOLD && !s.dumping)
  s.command req R.FLT_DUMP_CMD val ok (if op = 1 then statBusy else statDone) (fun t =>
    if op = 1 then t.softDump else if op = 2 then t.p (R.FLT_DUMP_STS.VALID (fieldOf val 2 1)) 0 else t.release)

/-! ### The dump (R451, R452) -/

/-- Byte offset of dump slot `k` in DRAM. -/
def dumpSlot (k : Nat) : Nat := dumpBase + k * 134217728

/-- The slot the engine writes into: one with no VALID dump, else the one of lower DUMP_ID. -/
def State.dumpPick (s : State) : Nat :=
  if !s.on (R.FLT_DUMP_STS.VALID 0) then 0
  else if !s.on (R.FLT_DUMP_STS.VALID 1) then 1
  else if s.flt.slotIds.getD 1 0 < s.flt.slotIds.getD 0 0 then 1 else 0

/-- The header (R452): `rest` is LEN, T_END and CRC with SECTIONS before them, known only at the end. -/
def State.dumpHeader (s : State) (d : DumpSt) (sections len tEnd crc : List Byte) : List Byte :=
  [0x48, 0x4B, 0x44, 0x50, 1, B8 d.flags] ++ sections ++ leBytes 8 Config.serial ++ leBytes 4 s.flt.dumpId ++
    leBytes 2 d.src ++ [0, 0] ++ leBytes 4 d.info ++ len ++ leBytes 8 d.tStart ++ tEnd ++ d.tb0 ++ crc

/-- A time base as 12 bytes under R256; zero where it does not run. -/
def State.tbBytes (s : State) (t : Nat) : List Byte := if s.tbRun t then ofWords (tvWords (s.tbVal t)) else List.replicate 12 0

/-- The dump starts (R451): the header is written with COMPLETE 0, its fields not known yet being whatever they are. -/
def State.dumpStart (s : State) : State :=
  if !s.flt.dumpWanted then s
  else
    let k := s.dumpPick
    let soft := s.flt.dumpSrc == 0xFFFF
    let flags := (if s.on R.FLT_FATAL_CFG.PAYLOAD then 2 else 0) + (if soft then 4 else 0) +
      (if !soft && s.fatalAct == 0 then 16 else 0)
    let id := (s.flt.dumpId + 1) % 2 ^ 32
    let d : DumpSt := { slot := k, flags := flags, src := s.flt.dumpSrc, info := s.flt.dumpInfo, tStart := s.sofCtr, tb0 := s.tbBytes 0 }
    let s1 := s.modFlt (fun f => { f with dump := some d, dumpWanted := false, dumpId := id, slotIds := f.slotIds.set k id })
    let f := s.freeNat
    let s2 := s1.used.dramWriteOwn (dumpSlot k)
      (s1.dumpHeader d (leBytes 2 f) (leBytes 4 (f / 2 ^ 16)) (leBytes 8 (f / 2 ^ 48)) (leBytes 4 (f / 2 ^ 112)))
    ((s2.p R.FLT_STS.DUMPING 1).wr (R.FLT_DUMP_STS k) (W (2 ^ 31 + id % 65536)))

/-- A section: TYPE, INST, BASE, whether a word read with an error response, words. -/
def section0 (type inst base : Nat) (err : Bool) (bytes : List Byte) : List Byte :=
  leBytes 2 type ++ leBytes 2 inst ++ leBytes 4 base ++ leBytes 4 (bytes.length / 4) ++ leBytes 4 (if err then 1 else 0) ++ bytes

/-- The end of a region (R33). -/
def regionEnd (n : Nat) : Nat := if n = 18 then 0x4000000 else regionBases.getD (n + 1) 0x4000000

/-- Runs of consecutive addresses: first address and length. -/
def runsOf : List Nat → List (Nat × Nat)
  | [] => []
  | a :: t =>
    match runsOf t with
    | [] => [(a, 1)]
    | (b, n) :: r => if b = a + 4 then (a, n + 1) :: r else (a, 1) :: (b, n) :: r

/-- The runs of mapped addresses of region `n`. -/
def regionRuns (n : Nat) : List (Nat × Nat) :=
  let base := regionBases.getD n 0
  runsOf (((List.range ((regionEnd n - base) / 4)).map (fun k => base + 4 * k)).filter (fun a => (rowOf a).isSome))

/-- The register sections of region `n`: a PWR word reads as all ones while the link is down. -/
def State.dumpRegion (s : State) (n : Nat) : List (List Byte) :=
  let err := n == 12 && !s.tenon.up
  (regionRuns n).map (fun r => section0 1 n r.1 err
    (ofWords ((List.range r.2).map (fun k => if err then 0xFFFFFFFF else s.peek reqDma (r.1 + 4 * k)))))

/-- The words of table `t`. -/
def State.tableBytes (s : State) (t : Nat) : List Byte :=
  (List.range (tableSize t)).flatMap (fun i => let e := s.ent t i; ofWords [e.w0, e.w1, e.w2, e.w3])

/-- The sections of a dump (R451). Headers of R149 are those of cells on a ply (`Cell.hdr`); which cell of the buffer holds which frame,
and what an unused cell holds, the spec does not say: those sections are free (log 63). -/
def State.dumpSections (s : State) (payload : Bool) : List (List Byte) :=
  (List.range 19).flatMap s.dumpRegion ++ (List.range 4).map (fun t => section0 2 t 0 false (s.tableBytes t)) ++
    [section0 3 0 0 false (leBytes 4194304 s.freeNat)] ++
    (if payload then [section0 4 0 0 false (leBytes 33554432 s.used.freeNat)] else []) ++
    (List.range 64).map (fun q => section0 5 q 0 false (ofWords (s.qWords q 0 queWords))) ++
    [section0 6 0 0 false (s.sramBytes 0 sramSize)]

/-- The dump is written whole, its header with COMPLETE 1 (R451, R452). -/
def State.dumpWrite (s : State) (d : DumpSt) : State :=
  let secs := s.dumpSections (bit d.flags 1)
  let body := secs.flatten
  let c := { d with flags := setBit d.flags 0 true }
  let h := s.dumpHeader c (leBytes 2 secs.length) (leBytes 4 (64 + body.length)) (leBytes 8 s.sofCtr) (leBytes 4 (crc32 body))
  (s.used.used.dramWriteOwn (dumpSlot d.slot) (h ++ body)).p (R.FLT_DUMP_STS.COMPLETE d.slot) 1

/-- The dump in progress ends without COMPLETE (R453, R462, R463); `cut` by a save. -/
def State.dumpCut (s : State) (cut : Bool) : State :=
  match s.flt.dump with
  | none => s.modFlt (fun f => { f with dumpWanted := false })
  | some d =>
    let s1 := if cut then s.dramWriteOwn (dumpSlot d.slot + 5) [B8 (setBit d.flags 3 true)] else s
    ((s1.modFlt (fun f => { f with dump := none, dumpWanted := false })).p R.FLT_STS.DUMPING 0).ev R.FLT_EVT.DUMP_DONE

/-! ### Meanings -/

/-- DUMP_START (R451). -/
def execFltDumpStart (s : State) : Host.Outcome State Fault Refusal := done s s.dumpStart

/-- A write of FLT_DUMP_CMD. -/
def State.dumpRow (s : State) (req : Nat) (val : Word) : State := s.byPort req R.FLT_DUMP_CMD val false (fun t => t.dumpCommand req val)

/-- DUMP (R453). -/
def execFltDump (req : Nat) (s : State) : Host.Outcome State Fault Refusal := done s (s.dumpRow req 1)
/-- INVAL_DUMP (R453). -/
def execFltInvalDump (req slot : Nat) (s : State) : Host.Outcome State Fault Refusal := done s (s.dumpRow req (W (2 + (slot % 2) * 4)))
/-- RELEASE (R449). -/
def execFltRelease (req : Nat) (s : State) : Host.Outcome State Fault Refusal := done s (s.dumpRow req 3)
/-- FATAL_CLEAR (R450). -/
def execFltFatalClear (req : Nat) (s : State) : Host.Outcome State Fault Refusal :=
  done s (s.byPort req R.FLT_STS 0x80000000 false (fun t => t.fltStsWrite 0x80000000))

end Sys2Proof.Machine
end

