-- ==== Sys2Proof/Machine/Reset.lean ====
section
/-! DEFINITION. What each reset leaves: the soft resets of the regions and the reset of the core die (2, R53; 3, R59,
R71, R77; 5, R139; 6, R176; 7, R203; 11, R302; 18, R462). -/

namespace Sys2Proof.Machine

/-! ### Level events (R49) -/

/-- Every level event whose condition persists is set. -/
def State.levels (s : State) : State :=
  let up := fun (t : State) (c : Bool) (l : Loc) => if c then t.ev l else t
  let s1 := up s (s.on R.FLT_DEGR.CONFIG) R.CFG_EVT.DEGRADED
  let s2 := s1.each (List.range 24) (fun p t => up t (t.on (R.MAC_STS.CFG_ERR p)) (R.MAC_EVT.CFG_ERR p))
  let s3 := up s2 (s2.on R.SW_POOL_STS.OVERCOMMIT) R.SW_EVT.OVERCOMMIT
  let s4 := up s3 s3.plyShort R.SW_EVT.SPARE_EXH
  let s5 := up s4 (s4.on R.STR_BUDGET.OVER || s4.on R.STR_BUDGET.UNMETERED) R.STR_EVT0.BUDGET
  let s5 := s5.each (List.range 256) (fun n t => up t (t.on (R.STR_STS.CFG_ERR n)) (R.STR_ALARM.CFG_ERR n))
  let s6 := s5.each (List.range 16) (fun c t => up t (t.on (R.CAN_STS.CFG_ERR c)) (R.CAN_EVT.CFG_ERR c))
  let s7 := s6.each (List.range 4) (fun k t => up t (t.on (R.TB_STS.CFG_ERR k)) (R.TB_EVT.CFG_ERR k))
  let tp := (List.range 4).any (fun d => s7.on (R.TP_DOM_STS.CFG_ERR d)) || (List.range 32).any (fun g => s7.on (R.TG_STS.CFG_ERR g))
  let s8 := up s7 tp R.TIME_EVT.TP_CFG_ERR
  let s9 := up s8 (s8.g R.CRY_DRBG_STS.STATE == drbgFail) R.CRY_EVT.DRBG_FAIL
  let s10 := up s9 ((List.range 8).any s9.tileShort) R.CRY_EVT.SPARE_EXH
  let s11 := up s10.keyLevels ((List.range 16).any (fun c => s10.on (R.PWR_TRX_STS.SW_CFG_ERR c))) R.PWR_SLP_EVT.SW_CFG_ERR
  let s12 := up s11 ((List.range 64).any (fun r => s11.on (R.MEM_RING_STS.CFG_ERR r))) R.MEM_EVT.CFG_ERR
  up s12 (s12.g R.MGT_STS.STATE == mgtNoFw) R.MGT_EVT.NOFW

/-! ### Soft resets -/

/-- Soft reset of TBL (R139): entries invalid, the learn FIFO empty, a drain in progress failed. -/
def State.tblSoftReset (s : State) : State :=
  let cmd := s.rd R.TBL_DRAIN
  let busy := s.stat R.TBL_DRAIN == statBusy
  let s1 := { s.resetRegs (fun a => regionOf a == 4) with tbl := { spares := s.tbl.spares } }
  s1.when busy (fun t => (t.wr R.TBL_DRAIN cmd).setStat R.TBL_DRAIN statFailed)

/-- Soft reset of SW (R176): every frame is discarded, copies in transmission end under R88, ply states stay. -/
def State.swSoftReset (s : State) : State :=
  let s1 := s.each (List.range 24) (fun p t => t.each ((t.port p).txHeld.toList ++ (t.port p).txCut.toList) (fun id u => u.stomp id p))
  let s2 := (s1.each (List.range 24) (fun p t => t.xoffChange p 0 255)).txSettle s
  let plies := s2.rd R.SW_PLY_STS
  let w := s2.sw
  let s3 := { s2.resetRegs (fun a => regionOf a == 5) with
    sw := { next := w.next, replaced := w.replaced, gone := w.gone, rx := w.rx, canbq := w.canbq, recq := w.recq } }
  let s4 := s3.each (s3.str.map (·.1)) (fun n t => (t.modCtx n (fun c => { c with pend := [] })).pendTouch n)
  let s5 := s4.wr R.SW_PLY_STS plies
  let s6 := s5.when s5.pins.forwarding State.intUp
  (s6.each ((List.range 24).filter (fun p => s6.portUp p && s6.pins.forwarding)) (fun p t => t.swUp p)).poolTouch

/-- Soft reset of STR (R203): every context DISABLED, its frames dropped uncounted, its jobs abandoned. -/
def State.strSoftReset (s : State) : State :=
  let ids := s.str.flatMap (fun p => p.2.pend.map (·.frame)) ++ (s.str.map (·.1)).flatMap (fun n => s.rxOfCtx n)
  let s1 := s.each ids (fun id t => t.dropFrame id)
  let s2 := s1.dropJobs (fun j => match j.user with | .strVerify _ _ => true | .strGenerate _ _ => true | _ => false)
  { s2.resetRegs (fun a => regionOf a == 6) with str := [] }

/-- What CRY keeps through its soft reset (R302). -/
def cryKept (a : Nat) : Bool := a == R.CRY_DRBG_STS || (decide (R.CRY_CORE 0 ≤ a) && decide (a < R.CRY_CORE 0 + 544))

/-- Device addresses of the descriptors of the software jobs in progress (R289). -/
def State.softAddrs (s : State) : List Nat :=
  ((s.grit.running.map (·.2)) ++ s.grit.waiting).filterMap (fun (j : Job) => match j.user with | .soft _ _ => some j.addr | _ => none)

/-- Soft reset of CRY (R302), but for the CMPL words of the software jobs in progress: every job is abandoned; then
each frame that awaited its verdict or tag is dropped and counted. -/
def State.crySoftReset (s : State) : State :=
  let jobs := s.grit.running.map (·.2) ++ s.grit.waiting
  let s1 := { s with grit := { s.grit with waiting := [], sjq := [], maskWait := [] } }
  let s2 := s1.each (s.grit.running.map (·.1)) (fun n t => t.freeCore n)
  let cmd := s2.rd R.CRY_CMD
  let busy := s2.stat R.CRY_CMD == statBusy
  let s3 := (((s2.resetRegs (fun a => regionOf a == 10 && !cryKept a)).when busy (fun t => t.wr R.CRY_CMD cmd)).each (List.range 136)
    (fun n t => t.p (R.CRY_CORE.FAULTS n) 0)).poolSts
  let s4 := s3.each (jobs.filter (fun (j : Job) => decide (j.level ≤ 3))) (fun j t =>
    match j.user with
    | .canVerify a => (t.each (t.cmaOf a).ver (fun _ u => u.hwLost)).cmaAllLost a
    | _ => t.jobLost j)
  let s5 := if s4.vault.cmd.isSome && jobs.any (fun (j : Job) => j.user == .vault || j.user == .vaultKcv) then s4.keyAbort kGrit else s4
  let s6 := s5.when (jobs.any (fun (j : Job) => j.user == .attest)) (fun t =>
    { t with vault := { t.vault with att := none } }.setStat R.KEY_ATT_CMD statFailed)
  let s7 := s6.when (jobs.any (fun (j : Job) => j.user == .fwCheck)) (fun t =>
    (t.modMgt (fun m => { m with check := none })).setStat R.MGT_FW_CMD statFailed)
  if jobs.any (fun (j : Job) => j.level == 5) then s7.expEnd expGrit else s7

/-- What FLT keeps through its soft reset: what the keep-alive store holds, the dump slots, the reduced units and the
link (R450, R461, R462; log 41). -/
def fltKept (a : Nat) : Bool :=
  a == R.FLT_STS || a == R.FLT_FATAL_SRC || a == R.FLT_FATAL_INFO || a == R.FLT_DUMP_STS 0 || a == R.FLT_DUMP_STS 1 ||
    a == R.FLT_DEGR || a == R.FLT_TENON || (decide (R.FLT_SAVE_REC 0 ≤ a) && decide (a < R.FLT_SAVE_REC 0 + 128))

/-- Soft reset of FLT (R462): source records and counters at Reset values, a dump in progress ended. -/
def State.fltSoftReset (s : State) : State :=
  (((s.dumpCut false).resetRegs (fun a => regionOf a == 1 && !fltKept a)).p R.FLT_STS.INSVC_N 0).p R.FLT_STS.FATAL_OVF 0

/-- The repair records (R458). -/
def repKept (a : Nat) : Bool := a == R.REP_REC_N || (decide (0x2801000 ≤ a) && decide (a < 0x2803000))

/-- Soft reset of REP (R462). -/
def State.repSoftReset (s : State) : State := s.resetRegs (fun a => regionOf a == 18 && !repKept a)

/-- Soft reset of CFG (R59). -/
def State.cfgSoftReset (s : State) : State :=
  s.resetRegs (fun a => a == R.CFG_EVT || a == R.CFG_REJ_INFO 0 || a == R.CFG_REJ_INFO 1 || a == R.CFG_REJ_OFS 0 || a == R.CFG_REJ_OFS 1)

/-- Shadows, holding registers and write-once marks of region `n` (R45, R53); those of GLB_LOCK and KEY_TAMP_EN last
longer. -/
def State.regionForget (s : State) (n : Nat) : State :=
  { s.each (s.reqs.map (·.1)) (fun r t => t.modRq r (fun q => { q with shadows := q.shadows.del n, holds := q.holds.del n })) with
    once := s.once.filter (fun a => regionOf a != n || a == R.GLB_LOCK || a == R.KEY_TAMP_EN) }

/-- The soft reset of region `n` (R59). -/
def State.softReset (s : State) (n : Nat) : State :=
  let s1 := s.regionForget n
  let s2 := match n with
    | 1 => s1.fltSoftReset
    | 2 => s1.cfgSoftReset
    | 3 => s1.macSoftReset
    | 4 => s1.tblSoftReset
    | 5 => s1.swSoftReset
    | 6 => s1.strSoftReset
    | 7 => s1.canSoftReset
    | 8 => s1.gwSoftReset
    | 9 => s1.timeSoftReset
    | 10 => s1.crySoftReset
    | 11 => s1.keySoftReset
    | 12 => s1.ldSoftReset.slpSoftReset
    | 13 => s1.brgSoftReset
    | 14 => s1.dmaSoftReset
    | 15 => s1.queSoftReset
    | 16 => s1.memReset true
    | 17 => s1.flTorn.mgtSoftReset
    | 18 => s1.repSoftReset
    | _ => s1
  (s2.txSettle s).levels

/-! ### The core die in reset (R53, R59, R77, R462, R493) -/

/-- A register that a reset of the core die leaves: the power die's, what the keep-alive store holds, and after RESET_N
what R53 and R462 keep. Region 16 is reset by R440. -/
def coreKept (hard : Bool) (a : Nat) : Bool :=
  let n := regionOf a
  n == 12 || n == 16 || keyKept a || a == R.KEY_STS || mgtKept a || repKept a || a == R.CFG_PREFER ||
    (decide (R.CFG_SKIP_LO ≤ a) && decide (a < R.CFG_SKIP_LO + 24)) ||
    a == R.FLT_STS || a == R.FLT_FATAL_SRC || a == R.FLT_FATAL_INFO || (decide (R.FLT_SAVE_REC 0 ≤ a) && decide (a < R.FLT_SAVE_REC 0 + 128)) ||
    (decide (R.FLT_FATAL_LO ≤ a) && decide (a < R.FLT_FATAL_LO + 8)) || (decide (R.FLT_SAVE_LO ≤ a) && decide (a < R.FLT_SAVE_LO + 16)) ||
    (!hard && (a == R.FLT_DUMP_STS 0 || a == R.FLT_DUMP_STS 1 || a == R.GLB_LOCK || (decide (R.GLB_YIELD_LO 0 ≤ a) && decide (a < R.GLB_YIELD_LO 0 + 64)) ||
      (decide (R.GLB_ACCLOG_ADDR 0 ≤ a) && decide (a < 0x290))))

/-- The core die is reset: by RESET_N, a fatal RESTART or after a save, or as at power-on (`hard`). The power die, the
keep-alive store, the flash and, short of power-on, the DRAM keep their contents. -/
def State.coreReset (s : State) (hard : Bool) : State :=
  let s1 := (s.flTorn.slpBreak whyReset).keyClear.memReset false
  let fatal := s1.rd R.FLT_STS &&& 0x80000000
  let s2 := ((s1.resetRegs (fun a => (!coreKept hard a) || (hard && regionOf a == 16 && a != R.MEM_EXP_ID))).wr R.FLT_STS fatal)
  { s2 with
    reqs := []
    once := s.once.filter (fun a => a == R.KEY_TAMP_EN || (!hard && a == R.GLB_LOCK))
    tenon := { s.tenon with up := false, retraining := false, acc := [] }
    loader := {}
    pins := { s.pins with forwarding := false }
    tbl := {}, sw := {}, ports := [], mdio := [], str := []
    grit := {}
    tbs := [], gens := [], edges := [], doms := [], pdelay := [], tpIn := [], tpOut := []
    can := [], gw := {}
    sofBase := s.tick
    brg := {}, dma := {}, cqp := {}
    mem := if hard then {} else s2.mem
    flt := { dumpId := s.flt.dumpId, slotIds := s.flt.slotIds, saveOpen := s.flt.saveOpen }
    worn := {}, shim := []
    mgt := { sram := if hard then [] else s.mgt.sram, base := s.tick, kick := s.tick } }

end Sys2Proof.Machine
end

