-- ==== Sys2Proof/Machine/Start.lean ====
section
/-! DEFINITION. The start of the core die, the degraded configuration, rejection of a candidate, and the restarts that a
fatal fault or a save leads to (3, R54-R77; 12, R321, R329; 18, R448, R455-R457). -/

namespace Sys2Proof.Machine

/-- States of the loader (CFG_STS.STATE). -/
abbrev cfgSelftest : Nat := 1
abbrev cfgStage : Nat := 2
abbrev cfgVerify : Nat := 3
abbrev cfgApply : Nat := 4
abbrev cfgCommit : Nat := 5
abbrev cfgRun : Nat := 6
abbrev cfgDegraded : Nat := 7

/-- Reasons of a rejection (R69). -/
abbrev rejDir : Nat := 0x01
abbrev rejMagic : Nat := 0x02
abbrev rejFmt : Nat := 0x03
abbrev rejTarget : Nat := 0x04
abbrev rejSize : Nat := 0x05
abbrev rejRollback : Nat := 0x06
abbrev rejSigner : Nat := 0x07
abbrev rejSig : Nat := 0x08
abbrev rejNoKey : Nat := 0x09
abbrev rejTag : Nat := 0x0A
abbrev rejRecord : Nat := 0x0B
abbrev rejCrit : Nat := 0x0C
abbrev rejApply : Nat := 0x0D
abbrev rejFlash : Nat := 0x0E

def State.modLoader (s : State) (f : Loader → Loader) : State := { s with loader := f s.loader }
def State.cfgState (s : State) : Nat := s.g R.CFG_STS.STATE
def State.setCfg (s : State) (v : Nat) : State := s.p R.CFG_STS.STATE v

/-- Microseconds since t = 0 of the start, or of the RELOAD (R55, R76). -/
def State.sinceStart (s : State) : Nat := (s.tick - s.loader.since) / 500 + s.loader.lead

/-! ### The degraded configuration (R75, R76) -/

/-- Streams and tables are empty: every context is DISABLED with its registers at Reset values, no table holds an entry, no
learn request waits (R75). -/
def State.emptyTables (s : State) : State :=
  let s1 := s.each (List.range 256) (fun n t => if t.on (R.STR_CFG.EN n) then t.strCfgWrite n (t.rd (R.STR_CFG n) &&& 0x7FFFFFFF) else t)
  let s2 := s1.resetRegs (fun a => (decide (0x1000000 ≤ a) && decide (a < 0x1008000)) || a == R.TBL_LEARN_STS)
  { s2 with tbl := { s2.tbl with ents := [], bad := [], fifo := [], sweep := none } }

/-- Time base `t` runs free at its nominal rate, with no servo (R75): TB_INC at its Reset value, ADJ zero, no slew. -/
def State.freeRun (s : State) (t : Nat) : State :=
  let s1 := s.tbCfgWrite reqHost t ((s.rd (R.TB_CFG t) ||| 0x80000000) &&& 0xBFFFFFFF)
  let s2 := (s1.resetRegs (fun a => a == R.TB_INC_LO t || a == R.TB_INC_HI t)).when (s1.tb t).slew.isSome (fun u => u.setStat (R.TB_CMD t) statFailed)
  (s2.modTb t (fun b => { b with adj := 0, integ := 0, slew := none })).adjShow t

/-- The degraded configuration acts on the blocks (R75). -/
def State.degradedConfig (s : State) : State :=
  let off := fun (a : Nat) (t : State) => t.rd a &&& 0x7FFFFFFF
  let s0 := s.emptyTables
  let s1 := s0.each (List.range 24) (fun p t => if t.on (R.MAC_CFG.EN p) then t.macCfgWrite reqHost p (off (R.MAC_CFG p) t) else t)
  let s2 := s1.each (List.range 16) (fun c t =>
    let u := if t.on (R.CAN_CFG.EN c) then t.canCfgWrite reqHost c (off (R.CAN_CFG c) t) else t
    if u.trx c = trxNormal ∨ u.trx c = trxSilent then u.trxStandby c else u)
  let s3 := s2.each (List.range 24) (fun n t => t.modLd n (fun (q : Load) => { q with degr := true }))
  let s4 := s3.each (List.range 32) (fun g t => if t.on (R.TG_CFG.EN g) then t.tgCfgWrite reqHost g (off (R.TG_CFG g) t) else t)
  s4.each (List.range 4) (fun k t => t.freeRun k)

/-- No candidate passes: the degraded configuration is in use (R75, R76). A RELOAD that ends so has failed. -/
def State.degradeCfg (s : State) : State :=
  let s1 := ((((s.degradedConfig.setCfg cfgDegraded).p R.CFG_STS.SLOT 3).wr R.CFG_ACT_SEQ 0).wrList (R.CFG_BUILD 0) (List.replicate 8 0)).wr
    R.CFG_T_FWD (W s.sinceStart)
  let s2 := ((s1.bump R.CFG_DEGR_LO).degrade R.FLT_DEGR.CONFIG true).ev R.CFG_EVT.DEGRADED
  let s3 := if s.loader.reload then s2.setStat R.CFG_CMD statFailed else s2
  (s3.modLoader (fun l => { l with active := false, reload := false, act := [], actDigest := [] })).slpCoreUp

/-! ### Rejection (R69-R71) -/

/-- The candidate in hand is rejected with its reason, record index and offset; the staging area is zeroed and the next
candidate is taken, or none is left (R69, R70, R72). -/
def State.reject (s : State) (code idx ofs : Nat) : State :=
  match s.loader.cand with
  | none => s
  | some k =>
    let s1 := (s.wr (R.CFG_REJ_INFO k) (W (idx % 1048576 * 4096 + code))).wr (R.CFG_REJ_OFS k) (W (ofs % 4194304))
    let s2 := (s1.setCfg cfgStage).modLoader (fun l => { l with
      cand := none, header := [], cipher := [], plain := [], bodyRead := false, verified := false, recs := [], wait := .none,
      written := [], stored := [], committed := false })
    if s.loader.order.isEmpty then s2.degradeCfg else s2

/-- Rejection once records have been applied (R71): the MDIO writes not started are dropped, every region written is
soft-reset in region order, the unlock is disarmed; the load channels keep their state. -/
def State.unapply (s : State) (code idx ofs : Nat) : State :=
  let regions := (List.range 19).filter (fun n => decide (3 ≤ n) && s.loader.written.contains n)
  let s0 := s.each [0, 1] (fun m t => t.modMdio m (fun d => { d with
    writes := if d.started && d.writing then d.writes.take 1 ++ (d.writes.drop 1).filter (·.sleep) else d.writes.filter (·.sleep) }))
  let s1 := (s0.each regions (fun n t => t.softReset n)).setArmed reqCfg false
  (s1.each (List.range 24) (fun n t => t.modLd n (fun (q : Load) => { q with staged := none }))).reject code idx ofs

/-- The image is rejected with APPLY at the record in hand (R69, R71). -/
def State.rejectApply (s : State) : State :=
  let r := s.loader.recs.headD ⟨0, 0, .bad⟩
  s.unapply rejApply r.idx (128 + r.ofs)

/-- The vault's work for a KEYBLOB record is lost: the record fails (R298, R318). -/
def State.blobLost (s : State) : State := match s.loader.wait with | .blob _ => s.rejectApply | _ => s

/-! ### The start (R54, R55) -/

/-- The vault checks the keep-alive store at a start (R321, R329): `bad` lists the records of which both copies fail
their CRC. -/
def State.keepAliveCheck (s : State) (bad : List Nat) : State :=
  let lost := s.vault.lost
  let s0 := s.pb R.KEY_STS.KA_LOST lost
  if !lost && bad.isEmpty then s0
  else
    let s1 := { s0 with vault := { s0.vault with lossEpoch := min 255 (s.vault.lossEpoch + 1), lost := false } }
    let s2 := (s1.each (if lost then List.range 512 else bad.filter (· < 512)) (fun r t => t.p (R.KEY_RES_STS.STATE r) resLost)).ev
      R.KEY_EVT.RES_LOST
    if lost then ((s2.p R.KEY_STS.PROV provBlank).ev R.KEY_EVT.KA_LOST).fault 209 (faultInfo 1 0 0) else s2

/-- The core die leaves reset and a start begins (R54, R55): what it finds in the fuses, the keep-alive store and the
power die; CAUSE of the management cluster is `cause` (R473). -/
def State.coreStart (s : State) (bad : List Nat) (cause : Nat) : State :=
  let s1 := (s.setCfg cfgSelftest).modLoader (fun _ => { active := true, since := s.tick })
  let s2 := { (s1.wr R.GLB_LOCK (s1.rd R.GLB_LOCK ||| W (s.vault.locks % 8))).ldSnapshot with mgt := { s1.mgt with base := s.tick, kick := s.tick }, sofBase := s.tick }
  let s3 := (s2.mgtReset cause).p R.MGT_STS.STATE mgtReset0
  let s4 := s3.keepAliveCheck bad
  let s5 := if s4.vault.tampered then
      ({ s4 with vault := { s4.vault with tampered := false } }.ev R.KEY_EVT.TAMPER).fault 208 (faultInfo 6 0 0) else s4
  let s6 := if s5.flt.saveOpen then ((s5.modFlt (fun f => { f with saveOpen := false })).fault 228 (faultInfo 1 0 0)).bump R.FLT_SAVE_FAIL_LO else s5
  let s7 := if s6.slp.modFs then (s6.modSlp (fun x => { x with modFs := false })).ev R.PWR_SLP_EVT.MOD_FS else s6
  s7.levels

/-- The core die restarts as for RESET_N (R448, R455); `cause` is what the management cluster reads as CAUSE (R473). -/
def State.restart (s : State) (cause : Nat) : State := (s.coreReset false).coreStart [] cause

/-- A dump has ended: with ACT RESTART the core die restarts; else a path that nothing holds is over (R447-R450). -/
def State.dumpOver (s : State) : State :=
  if s.dumping then s else if s.flt.path && s.flt.held && !s.on R.FLT_STS.HOLD then s.restart 5 else s.fatalOver

/-! ### The Tenon link (R10, R14, R457) -/

/-- The link carries valid traffic: the power die leaves its link-lost state, and the counts it held reach GLB_YIELD
(R14, R457); `ms` is how long it was in that state. -/
def State.tenonUp (s : State) (ms : Nat) : State :=
  let n := s.tenon.heldYield
  let s0 := if s.tenon.lostState then s.p R.FLT_TENON.LOST_MS (min ms 65535) else s
  let s1 := { s0 with tenon := { s.tenon with up := true, retraining := false, lostState := false, heldYield := 0 } }.p R.FLT_TENON.LOST 0
  if n = 0 then s1 else (s1.count (R.GLB_YIELD_LO 6) n).wr R.GLB_YIELD_EVT (s1.rd R.GLB_YIELD_EVT ||| 64)

/-! ### Meanings -/

/-- VS is applied (R356, R373, R440): the power die's registers take Reset values, every channel is OFF, INH is high,
PWR_WK_FIRST reads POWERON; the core die waits for PWR_GOOD, the DRAM has lost its contents. -/
def State.powerOn (s : State) : State :=
  let s1 := s.coreReset true
  let s2 := s1.resetRegs (fun a => regionOf a == 12)
  { s2 with pins := { vs := true }, loads := {}, slp := { firstFree := false }, tenon := { up := false } }

/-- CORE_DIE_START (R54): PWR_GOOD and RESET_N are both high; `bad` lists unreadable reservation records (R329). -/
def execCoreDieStart (bad : List Nat) (s : State) : Host.Outcome State Fault Refusal :=
  done s (if s.pins.vs && !s.coreUp then { s with pins := { s.pins with pwrGood := true, resetN := true } }.coreStart bad 0 else s)

/-- RESET_N_ASSERT (R53, R59, R77). -/
def execResetNAssert (s : State) : Host.Outcome State Fault Refusal :=
  done s (if s.pins.resetN then { s with pins := { s.pins with resetN := false } }.coreReset false else s)

/-- POWER_ON (R373). -/
def execPowerOn (s : State) : Host.Outcome State Fault Refusal := done s s.powerOn

/-- PWR_GOOD_FALL (R493, R455): a save is over with it. -/
def execPwrGoodFall (s : State) : Host.Outcome State Fault Refusal :=
  done s (if s.pins.pwrGood then ({ s with pins := { s.pins with pwrGood := false } }.coreReset true).p R.PWR_SUP_STS.SAVE 0 else s)

/-- PLL_LOCK (R55): the domains have their clocks; fuses are read, the Tenon link and PCIe train, the management cluster
is released to its resident loader; `lostMs` is how long the power die was in its link-lost state. -/
def execPllLock (lostMs : Nat) (s : State) : Host.Outcome State Fault Refusal :=
  done s (if s.coreUp && s.loader.active && !s.loader.pllLocked && !s.loader.reload then
    let s1 := (s.modLoader (fun l => { l with pllLocked := true })).tenonUp lostMs
    { s1.p R.MGT_STS.STATE mgtLoader with brg := { s1.brg with training := true } }
  else s)

end Sys2Proof.Machine
end

