-- ==== Sys2Proof/Machine/Bus.lean ====
section
/-! DEFINITION. A register access as its block meets it: the checks at the requester's port, the guard, multiword values,
and what a write of each register does (2, R33-R51; 3, R57, R73, R76). -/

namespace Sys2Proof.Machine

/-! ### Counters, soft reset, reload, epoch (R51, R59, R73, R76) -/

/-- A word of a counter of region `n` (R51). -/
def isCounter (n a : Nat) : Bool := regionOf a == n && (match rowOf a with | some r => r.ctr | none => false)

/-- GLB_CTR_CLR (R51): every counter of the region reads zero. -/
def State.ctrClr (s : State) (req : Nat) (val : Word) : State :=
  let n := fieldOf val 0 5
  s.command req R.GLB_CTR_CLR val (decide (n ≤ 18)) statDone (fun t => t.resetRegs (isCounter n))

/-- How a register is written by requester DMA: address and word. -/
abbrev Writer := Nat → Word → State → State × Option BusErr

/-- The CMPL word of a job that ended with `stat` (R290, R291). -/
def cmplWord (stat : Nat) : Word := W (2 ^ 31 + (stat % 256) * 2 ^ 16)

/-- Writes CMPL of the descriptor at device address `a` (R290). -/
def State.writeCmpl (s : State) (w : Writer) (a stat : Nat) : State := (s.devWrite w (a + 0x38) (leBytes 4 (cmplWord stat).toNat)).1

/-- The soft reset of a region, with what it ends elsewhere: the software jobs of CRY end with ABORTED (R302), a KEYBLOB
record under way fails (R69), a dump cut short ends (R462). -/
def State.srstRun (s : State) (w : Writer) (n : Nat) : State :=
  let addrs := if n = 10 then s.softAddrs else []
  let s1 := (s.softReset n).each addrs (fun a t => t.writeCmpl w a 7)
  if n = 10 ∨ n = 11 then s1.blobLost else if n = 1 then s1.dumpOver else s1

/-- GLB_SRST, past its guard (R59). -/
def State.srst (s : State) (w : Writer) (req : Nat) (val : Word) : State :=
  let n := fieldOf val 0 5
  s.command req R.GLB_SRST val (decide (1 ≤ n) && decide (n ≤ 18)) statDone (fun t => t.srstRun w n)

/-- CFG_CMD (R76): RELOAD, in DEGRADED only, begins again at t = 5.0 ms with self-test not repeated. -/
def State.cfgCommand (s : State) (req : Nat) (val : Word) : State :=
  s.command req R.CFG_CMD val (fieldOf val 0 4 == 1 && s.cfgState == cfgDegraded) statBusy (fun t =>
    (t.setCfg cfgStage).modLoader (fun l => { l with
      active := true, reload := true, selfTest := true, dirRead := false, dir := none, order := [], cand := none, taken := 0,
      wait := .none, written := [], stored := [], committed := false, since := t.tick, lead := 5000 }))

/-- A granted write of CFG_FLOOR (R73): not above the epoch of the active image. -/
def State.cfgFloorWrite (s : State) (val : Word) : State :=
  let limit := if s.cfgState = cfgRun then fieldOf (s.rd R.CFG_ACT_SEQ) 24 8 else 0
  let f := raiseTo s.vault.cfgEpoch limit (fieldOf val 0 8) s.loader.fusing
  (s.modLoader (fun l => { l with fusing := f })).pb R.CFG_FLOOR.FUSING f.isSome

/-! ### Registers with an act of their own -/

/-- Instance of a register array, and place within it, that offset `a` is. -/
def Row.at1 (r : Row) (a : Nat) : Nat := if r.s1 = 0 then 0 else (a - r.base) / r.s1
/-- The second index. -/
def Row.at2 (r : Row) (a : Nat) : Nat := if r.s2 = 0 then 0 else (a - r.base - r.at1 a * r.s1) / r.s2

/-- An enable field that acts through the state it leaves (R508). -/
def State.enStore (s : State) (req a : Nat) (val : Word) : State :=
  (s.store a val).enDo a 31 (s.enAct req a 31 val) (fun t => t) (fun t => t)

/-- Regions 0-2. -/
def State.actGlb (s : State) (w : Writer) (req b i : Nat) (val : Word) (full : Bool) : Option State :=
  if b = R.GLB_CTR_CLR then some (s.ctrClr req val)
  else if b = R.GLB_SRST then some (s.srst w req val)
  else if b = R.FLT_STS then some (s.fltStsWrite val)
  else if b = R.FLT_SRC_STS 0 then some (s.srcStsWrite i val)
  else if b = R.FLT_DUMP_CMD then some (s.dumpCommand req val)
  else if b = R.CFG_CMD then some (s.cfgCommand req val)
  else if b = R.CFG_FLOOR then some (if full then s.cfgFloorWrite val else s)
  else none

/-- Regions 3-6. Whether the read-back of a table command differs is free (log 3). -/
def State.actEth (s : State) (req b i a : Nat) (val : Word) : Option State :=
  if b = R.MAC_CFG 0 then some (s.macCfgWrite req i val)
  else if b = R.MAC_PHY 0 then some (((s.store a val).roundTouch (i / 12)).linkEval i)
  else if b = R.MAC_MM_CFG 0 then some ((s.mmCfgWrite i val).txSettle s)
  else if b = R.MAC_FC_CFG 0 then some (s.fcCfgWrite i val)
  else if b = R.MAC_MDIO_CMD 0 then some (s.mdioAct req i val)
  else if b = R.TBL_DRAIN then some (s.drainAct req val)
  else if b = R.TBL_CMD 0 then some (s.used.tblAct req i val s.freeBool)
  else if b = R.SW_PLY_CMD then some (s.plyAct req val)
  else if b = R.SW_LIM 0 then some ((s.store a val).poolTouch)
  else if b = R.SW_FC 0 then some ((s.store a val).xoffTouch (i / 8))
  else if b = R.SW_MCGRP 0 then some (s.mcgrpWrite i val.toNat)
  else if b = R.STR_CFG 0 then some ((s.strCfgWrite i val).txSettle s)
  else if b = R.STR_ROLL 0 then some (s.strRollWrite i val)
  else if b = R.STR_METER 0 then some ((s.store a val).budgetTouch)
  else if b = R.STR_KEYA 0 then some (s.strKeyWrite i 0 val)
  else if b = R.STR_KEYB 0 then some (s.strKeyWrite i 1 val)
  else none

/-- Regions 7-9. -/
def State.actBus (s : State) (req b i j a : Nat) (val : Word) : Option State :=
  if b = R.CAN_CFG 0 then some (s.canCfgWrite req i val)
  else if b = R.CAN_SCH_CFG 0 then some (s.schCfgWrite req i val)
  else if b = R.CAN_TXCMD 0 then some (s.txAct req i val)
  else if b = R.CAN_RXO_W0 0 0 then some (s.rxoW0Write i j val)
  else if R.CAN_TXO_W0 0 0 ≤ b ∧ b < R.CAN_TXO_W0 0 0 + 80 then some (s.txoWrite i j ((b - R.CAN_TXO_W0 0 0) / 4) val)
  else if b = R.GW_DST_RATE 0 then some (s.gwRateWrite i val)
  else if b = R.GW_PK_CFG 0 then some (s.pkCfgWrite i val)
  else if b = R.GW_UP_CFG 0 then some (s.upCfgWrite i val)
  else if b = R.GW_CMA_CFG 0 then some (s.cmaCfgWrite i val)
  else if b = R.TB_CFG 0 then some (s.tbCfgWrite req i val)
  else if b = R.TB_CMD 0 then some (s.tbAct req i val)
  else if b = R.TG_CFG 0 then some (s.tgCfgWrite req i val)
  else if b = R.CAP_CFG 0 then some (s.enStore req a val)
  else if b = R.TP_DOM_CFG 0 then some (s.domCfgWrite req i val)
  else if b = R.TP_PORT_CFG 0 then some (s.tpPortCfgWrite req i val)
  else none

/-- Regions 10-12. What the tests of a core or of the entropy source find after a CRY_CMD is free (log 3). -/
def State.actKey (s : State) (req b i a : Nat) (val : Word) : Option State :=
  if b = R.CRY_CMD then some (s.used.cryAct req val s.freeBool)
  else if b = R.CRY_SJQ_CFG 0 then some (s.sjqCfgWrite i val)
  else if b = R.CRY_SJQ_PI 0 then some (s.sjqPiWrite none i val)
  else if b = R.KEY_CMD then some (s.keyWrite req val)
  else if b = R.KEY_ATT_CMD then some (s.attAct req val)
  else if b = R.PWR_LD_CTL 0 then some (s.ldCtlWrite req i val)
  else if R.PWR_LD_CLMP 0 ≤ a ∧ a < R.PWR_LD_CLMP 24 ∧ (a - R.PWR_LD_CLMP 0) % 64 = 0 then
    some (s.ldClmpWrite ((a - R.PWR_LD_CLMP 0) / 64) val)
  else if b = R.PWR_LD_CMD then some (s.ldCommand req val)
  else if b = R.PWR_SLP_CMD then some (s.slpCommand req val)
  else if b = R.PWR_TRX_CFG 0 then some (s.trxCfgWrite i val)
  else none

/-- Regions 13-18. -/
def State.actHost (s : State) (req b i j a : Nat) (val : Word) (full : Bool) : Option State :=
  if b = R.MSIX_TAB_W3 0 then some (s.msixMaskWrite i val)
  else if b = R.DMA_CH_CFG 0 then some (s.chCfgWrite i val)
  else if b = R.DMA_CH_CMD 0 then some (s.chCommand req i val)
  else if b = R.QUE_CFG 0 then some (s.queCfgWrite i val)
  else if b = R.QUE_WM 0 then some ((s.store a val).qTouch i)
  else if b = R.QUE_RD 0 then some (s.qRdWrite req i val)
  else if b = R.QUE_WR 0 then some (s.qWrWrite req i val)
  else if b = R.QUE_CMD 0 then some (s.queCommand req i val)
  else if b = R.QUE_WIN 0 0 then some (s.qWinWrite i j val)
  else if b = R.MEM_REC_AREA ∨ b = R.MEM_EXP_AREA then some (if s.areaFree then s.store a val else s)
  else if b = R.MEM_EXP_RD then some (s.expRdWrite val)
  else if b = R.MEM_RING_CFG 0 then some (s.ringCfgWrite i val)
  else if b = R.MEM_REC_CMD then some (s.recAct req val)
  else if b = R.MGT_RST then some (s.mgtRstWrite req val)
  else if b = R.MGT_WDT_KICK then some (s.kickWrite req val)
  else if b = R.MGT_FW_CMD then some (s.fwCommand req val)
  else if b = R.MGT_FL_CMD then some (s.flCommand req val)
  else if b = R.MGT_FLOOR then some (if full then s.fwFloorWrite val else s)
  else none

/-- What a write does to a register that has an act of its own; none where its access codes say it all. -/
def State.ownAct (s : State) (w : Writer) (req : Nat) (r : Row) (a : Nat) (val : Word) (full : Bool) : Option State :=
  let b := r.base
  let i := r.at1 a
  let n := regionOf a
  if n ≤ 2 then s.actGlb w req b i val full
  else if n ≤ 6 then s.actEth req b i a val
  else if n ≤ 9 then s.actBus req b i (r.at2 a) a val
  else if n ≤ 12 then s.actKey req b i a val
  else s.actHost req b i (r.at2 a) a val full

/-! ### The access codes (R7, R45) -/

/-- A write of a register with W1X fields (R45): the first sets them; later ones, and those of a field whose fuse is
blown, are logged (R323). -/
def State.onceWrite (s : State) (req a : Nat) (r : Row) (val : Word) : State :=
  let fused := if a = R.GLB_LOCK then W (s.vault.locks % 8) else 0
  let log := fun (t : State) => t.logAccess req a 15 true .once
  if s.once.contains a then log s
  else
    let t := { s.wrBits a r.w1x (val ||| fused) with once := s.once ++ [a] }
    if fused = 0 then t else log t

/-- A write of a register as its access codes say; without `full` the RWG fields stay (R7, R44). -/
def State.codeWrite (s : State) (req : Nat) (r : Row) (a : Nat) (val : Word) (full : Bool) : State :=
  let s0 := s.wrBits a (if full then r.rw ||| r.rwg else r.rw) val
  let s1 := if a = R.PWR_SO then s0.soTouch s else s0
  let s2 := if r.w1c = 0 then s1 else (s1.wr a (s1.rd a &&& ~~~(val &&& W r.w1c))).levels
  if r.w1x = 0 then s2 else s2.onceWrite req a r val

/-! ### Multiword values (R37-R40) -/

/-- The holding register of requester `req` for region `n`. -/
def State.holding (s : State) (req n : Nat) : Option Holding := (s.rq req).holds.get (fun _ => none) n
def State.setHolding (s : State) (req n : Nat) (h : Option Holding) : State :=
  s.modRq req (fun q => { q with holds := q.holds.set (fun _ => none) n h })

/-- What the commit of the multiword value at `lo` does beyond storing it; none where it is stored and no more. -/
def State.commitAct (s : State) (lo : Nat) (r : Row) (st : State) : Option State :=
  let b := r.base - 4 * r.mwIdx
  let i := r.at1 (lo + 4 * r.mwIdx)
  if b = R.STR_FRESH_LO 0 then some (if s.on (R.STR_CFG.EN i) then s else st)
  else if b = R.GW_CMA_FRESH_LO 0 then some (if s.on (R.GW_CMA_CFG.EN i) then s else st.cmaFreshened i)
  else if b = R.GW_JIG_LO 0 then some (st.jigCommitted i)
  else if b = R.TB_INC_LO 0 then some (s.tbIncCommit i (st.rd lo) (st.rd (lo + 4)))
  else if b = R.TB_SET_LO 0 then
    some (if (st.rdTv lo).isNone then s.modTb i (fun q => { q with setBad := true }) else st.modTb i (fun q => { q with setBad := false }))
  else if b = R.TG_START_LO 0 then
    some (if (st.rdTv lo).isNone then s.modGen i (fun q => { q with startBad := true }) else st.modGen i (fun q => { q with startBad := false }))
  else if b = R.MGT_MTIMECMP_LO 0 then some (st.mtipTouch i)
  else none

/-- The commit of a multiword value (R39): `ws` are its words, lowest first. -/
def State.mwCommit (s : State) (req lo : Nat) (r : Row) (ws : List Word) : State :=
  let s1 := s.each ws.zipIdx (fun p t => t.resStep req (lo + 4 * p.2) p.1)
  let st := s1.each ws.zipIdx (fun p t => t.store (lo + 4 * p.2) p.1)
  (s1.commitAct lo r st).getD st

/-- A write of a word of a multiword value (R39). -/
def State.mwWrite (s : State) (req : Nat) (r : Row) (a : Nat) (val : Word) : State :=
  let lo := a - 4 * r.mwIdx
  let n := regionOf a
  let held := match s.holding req n with
    | some h => if h.tag = lo then h.words else []
    | none => []
  if r.mwIdx + 1 < r.mwLen then s.setHolding req n (some { tag := lo, words := held.put r.mwIdx val })
  else
    let low := (List.range (r.mwLen - 1)).map (fun k => (held.find? k).getD (s.peek req (lo + 4 * k)))
    (s.setHolding req n none).mwCommit req lo r (low ++ [val])

/-! ### The port (R34-R36, R41-R44, R57) -/

/-- CMD registers that are guarded like an RWG register (R44). -/
def guardedCmd (a : Nat) : Bool :=
  a == R.GLB_SRST || a == R.KEY_CMD || a == R.PWR_SLP_CMD || a == R.MGT_RST || a == R.MGT_FW_CMD || a == R.MGT_FL_CMD

/-- A write of GLB_UNLOCK (R41). -/
def State.unlockWrite (s : State) (req : Nat) (val : Word) : State :=
  if req = reqDma then s.logAccess req R.GLB_UNLOCK 15 true .dmaw
  else if val = 0x5AFEC0DE then s.setArmed req true
  else (s.setArmed req false).logAccess req R.GLB_UNLOCK 15 true .unlk

/-- What a write meets at its port: it is over there, with its error response if any, or goes on to its block, with all
its fields or without the guarded ones. -/
inductive Gate where
  | over (e : Option BusErr)
  | act (full : Bool)
  deriving DecidableEq, Repr

/-- The guard of R42-R44 on a write of the register at `a`. -/
def State.guardGate (s : State) (req a : Nat) (r : Row) (val : Word) : State × Gate :=
  let cmd := guardedCmd a
  let changes := cmd || (s.peek req a ^^^ val) &&& W r.rwg != 0
  let rest := if cmd then Gate.over none else .act false
  if req = reqDma then (if changes then (s.logAccess req a 15 true .dmaw, .over none) else (s, .act false))
  else
    match s.guardVerdict req with
    | .granted => (s.setArmed req false, .act true)
    | .unarmed => (if changes then s.logAccess req a 15 true .guard else s, rest)
    | .barred => ((if changes then s.logAccess req a 15 true .locked else s).setArmed req false, rest)

/-- The checks at the port (R34, R36, R40-R44, R57), in this order. -/
def State.writeGate (s : State) (req a be : Nat) (val : Word) : State × Gate :=
  if s.loadRefused req a then (s.logAccess req a be true .load, .over (some .load))
  else
    match rowOf a with
    | none => (s.logAccess req a be true .unmap, .over (some .unmap))
    | some r =>
      if be % 16 ≠ 15 then (s.logAccess req a be true .part, .over none)
      else if req = reqDma ∧ 1 < r.mwLen then (s.logAccess req a be true .dmaw, .over none)
      else if a = R.GLB_UNLOCK then (s.unlockWrite req val, .over none)
      else if r.rwg ≠ 0 ∨ guardedCmd a then s.guardGate req a r val
      else (s, .act true)

/-- The write acts in its block. -/
def State.writeAct (s : State) (w : Writer) (req a : Nat) (val : Word) (full : Bool) : State :=
  match rowOf a with
  | none => s
  | some r =>
    if 1 < r.mwLen then s.mwWrite req r a val
    else if s.ringShut req a then s
    else
      let s1 := s.resStep req a val
      (s1.ownAct w req r a val full).getD (s1.codeWrite req r a val full)

/-- A register write by requester `req`, whole: the checks of its port, then its act; a PWR write while the Tenon link is
down ends in error, and may or may not act (R12; log 3). -/
def State.busWriteBy (s : State) (w : Writer) (req a be : Nat) (val : Word) : State × Option BusErr :=
  match s.writeGate req a be val with
  | (s1, .over e) => (s1, e)
  | (s1, .act full) =>
    if regionOf a = 12 ∧ !s.tenon.up then
      ((if s1.freeBool then s1.used.writeAct w req a val full else s1.used).tenonLate a, some .tenon)
    else (s1.writeAct w req a val full, none)

/-- The writer of the CMPL words that a soft reset of CRY leaves: requester DMA, whose write of GLB_SRST never acts. -/
def cmplWriter : Writer := fun a v s => s.busWriteBy (fun _ _ t => (t, none)) reqDma a 15 v

/-- A register write by requester `req` (R35, R36). -/
def State.busWrite (s : State) (req a be : Nat) (val : Word) : State × Option BusErr := s.busWriteBy cmplWriter req a be val

/-- The writer of the device's own accesses by requester DMA. -/
def dmaWriter : Writer := fun a v s => s.busWrite reqDma a 15 v

/-! ### PWR accesses over the Tenon link (R11, R12, R43) -/

/-- A PWR access goes on its way, with its guard check passed at the port or not (R43). -/
def State.tenonSend (s : State) (x : PwrAcc) : State := { s with tenon := { s.tenon with acc := s.tenon.acc ++ [x] } }

/-- A register write by requester `req` as part of `src`: the error response it has met, if any; one of the PWR region
completes only over the link (R11). -/
def State.sendWrite (s : State) (src : PwrSrc) (req a be : Nat) (val : Word) : State × Option BusErr :=
  if regionOf a = 12 then
    match s.writeGate req a be val with
    | (s1, .over e) => (s1, e)
    | (s1, .act full) => (s1.tenonSend { req := req, wr := true, addr := a, be := be, val := val, granted := full, src := src }, none)
  else s.busWrite req a be val

/-- A register write by requester `req`, with the answer it sees; that of a PWR write comes when the power die has stored the
value (R11). -/
def State.portWrite (s : State) (req a be : Nat) (val : Word) : State :=
  if regionOf a = 12 then
    match s.writeGate req a be val with
    | (s1, .over e) => s1.answerWrite req a be e
    | (s1, .act full) => s1.tenonSend { req := req, wr := true, addr := a, be := be, val := val, granted := full, src := .port }
  else
    let r := s.busWrite req a be val
    r.1.answerWrite req a be r.2

/-- A register write by requester `req` that is whole at once, with the answer it sees; the row of a PWR register stands for
its arrival at the power die, unless an earlier PWR access of its requester is still on its way: then it goes behind that
(R24, log 11). -/
def State.rowWrite (s : State) (req a : Nat) (val : Word) : State :=
  if regionOf a = 12 ∧ s.tenon.acc.any (fun x => x.req == req) = true then s.portWrite req a 15 val
  else
    let r := s.busWrite req a 15 val
    r.1.answerWrite req a 15 r.2

/-- A register read by requester `req` with byte enables `be`, with the answer it sees. -/
def State.portReadBe (s : State) (req a be : Nat) : State :=
  if regionOf a = 12 ∧ (rowOf a).isSome then
    s.tenonSend { req := req, wr := false, addr := a, be := be, val := 0, granted := false, src := .port }
  else
    let r := s.busReadBe req a be
    r.1.respond req r.2.2.isSome r.2.1

/-- A register read of a whole word. -/
def State.portRead (s : State) (req a : Nat) : State := s.portReadBe req a 15

/-- The oldest PWR access completes on the power die (R11), once the link carries traffic; the access and the word read. -/
def State.tenonDone (s : State) : Option (State × PwrAcc × Word) :=
  match s.tenon.acc with
  | [] => none
  | x :: rest =>
    if !s.tenon.up then none
    else
      let s1 := { s with tenon := { s.tenon with acc := rest } }
      if x.wr then some (s1.writeAct cmplWriter x.req x.addr x.val x.granted, x, 0)
      else
        let r := s1.regRead x.req x.addr
        some (r.1, x, r.2.getD 0)

/-- The oldest PWR access is not complete after 25 us (R12): a write may or may not have acted. -/
def State.tenonGone (s : State) : Option (State × PwrAcc) :=
  match s.tenon.acc with
  | [] => none
  | x :: rest =>
    let s1 := { s with tenon := { s.tenon with acc := rest } }
    let s2 := if x.wr then (if s1.freeBool then s1.used.writeAct cmplWriter x.req x.addr x.val x.granted else s1.used) else s1
    some (s2.tenonLate x.addr, x)

end Sys2Proof.Machine
end

