-- ==== Sys2Proof/Machine/Jobs.lean ====
section
/-! DEFINITION. How a software job ends, and what the abort of a core does to its job (11, R284, R289-R299). -/

namespace Sys2Proof.Machine

/-- STAT codes of CMPL (R291). -/
abbrev cmOk : Nat := 0
abbrev cmTagFail : Nat := 1
abbrev cmNoKey : Nat := 2
abbrev cmBadDesc : Nat := 3
abbrev cmCtrWrap : Nat := 4
abbrev cmBus : Nat := 5
abbrev cmFault : Nat := 6
abbrev cmAborted : Nat := 7

/-- Bytes a job reads at SRC: LEN, with the tag that GCM decryption reads after them; RNG reads none (R290). -/
def djSrcLen (d : List Byte) : Nat := if djOp d = 10 then 0 else if djOp d = 9 ∧ djDec d then djLen d + djTagLen d else djLen d

/-- Bytes a job reads at AUX (R290). -/
def djAuxRead (d : List Byte) : Nat :=
  match djOp d with
  | 6 => if djDec d then djTagLen d else 0
  | 9 => djAuxLen d
  | 13 => 128
  | 14 => 5264
  | _ => 0

/-- What a job makes of its input: the output, and whether its check passed (R284, R290, R293). -/
def djResult (d key src aux rand : List Byte) : List Byte × Bool :=
  let n := djLen d
  let iv := djIv d
  let dec := djDec d
  match djOp d with
  | 1 => (if dec then ecbDec key src else ecbEnc key src, true)
  | 2 => (if dec then cbcDec key iv (blocks16 src) else cbcEnc key iv (blocks16 src), true)
  | 3 => (if dec then cfbDec key iv (blocks16 src) else cfbEnc key iv (blocks16 src), true)
  | 4 => (ofb key iv (blocks16 src), true)
  | 5 => (ctr key (djCtrw d) iv (blocks16 src), true)
  | 6 => let t := (cmac key src).take (djTagLen d); if dec then ([], t == aux) else (t, true)
  | 7 => if dec then ((kwUnwrapIv key src).2, (kwUnwrap key src).isSome) else (kwWrap key src, true)
  | 8 =>
    if dec then
      match kwpUnwrap key src with
      | some m => (m, true)
      | none => (if src.length ≤ 16 then (aesDec key src).drop 8 else (kwUnwrapIv key src).2, false)
    else (kwpWrap key src, true)
  | 9 =>
    let m := src.take n
    if dec then (gcmCrypt key iv m, (gcmTag key iv aux m).take (djTagLen d) == src.drop n)
    else let c := gcmCrypt key iv m; (c ++ (gcmTag key iv aux c).take (djTagLen d), true)
  | 10 => (rand, true)
  | 11 => (sha256 src, true)
  | 12 => (sha384 src, true)
  | 13 => ([], ecdsaOk (slice aux 0 64) (sha256 src) (slice aux 64 64))
  | 14 => ([], mldsaOk (slice aux 0 1952) src (slice aux 1952 3309))
  | _ => ([], true)

/-- The output that is zeroed where a job fails: of GCM, KW and KWP (R293, R298). -/
def djZeroes (d : List Byte) : Bool := djOp d == 7 || djOp d == 8 || djOp d == 9

/-- The counter of a STAT other than OK (R291, R304); FAULT and ABORTED have counters elsewhere. -/
def State.cmCount (s : State) (stat : Nat) : State :=
  match stat with
  | 1 => s.bump R.CRY_TAG_FAIL_LO
  | 2 => s.bump R.CRY_BADDESC_LO
  | 3 => s.bump R.CRY_BADDESC_LO
  | 4 => s.bump R.CRY_CTR_REFUSE_LO
  | 5 => (s.bump R.CRY_BUS_ERR_LO).ev R.CRY_EVT.BUS_ERR
  | _ => s

/-- A software job that holds no core is over with `stat` (R291, R292): CMPL, then CI, then DONE; the queue reads on, in host
memory only where `m` answers. -/
def State.softOver (s : State) (m : Option HostMem) (j : Job) (q i stat : Nat) : State :=
  let r := s.devWrite dmaWriter (j.addr + 0x38) (leBytes 4 (cmplWord stat).toNat)
  let s1 := if r.2.isSome then (r.1.bump R.CRY_BUS_ERR_LO).ev R.CRY_EVT.BUS_ERR else r.1
  let s2 := ((s1.cmCount stat).bump (R.CRY_JOB_LO j.level)).sjqEnd q i
  let s3 := if djIrq j.desc then s2.wr R.CRY_EVT (s2.rd R.CRY_EVT ||| W (2 ^ q)) else s2
  State.sjqFetch m q 16 s3

/-- The software job on core or unit `n` ends with `stat`. -/
def State.softEnd (s : State) (m : Option HostMem) (n : Nat) (j : Job) (q i stat : Nat) : State :=
  (s.freeCore n).softOver m j q i stat

/-- Writes a job's output: false where a write meets an error. -/
def State.djPut (s : State) (a : Nat) (b : List Byte) : State × Bool :=
  if b.isEmpty then (s, true)
  else
    let r := s.devWrite dmaWriter a b
    (r.1, r.2.isNone)

/-- Reads a job's input; none where a read meets an error. -/
def State.djGet (s : State) (m : HostMem) (a n : Nat) : State × Option (List Byte) :=
  if n = 0 then (s, some [])
  else
    match s.devRead m a n with
    | (s1, .inl b) => (s1, some b)
    | (s1, .inr _) => (s1, none)

/-- The most output a cipher job writes before its check (R284, R290): of KW and KWP the semiblocks of the whole output. -/
def djOutMax (d : List Byte) : Nat :=
  match djOp d with
  | 1 | 2 | 3 | 4 | 5 => djLen d
  | 7 => if djDec d then djLen d - 8 else djLen d + 8
  | 8 => if djDec d then djLen d - 8 else (djLen d + 7) / 8 * 8 + 8
  | 9 => if djDec d then djLen d else djLen d + djTagLen d
  | _ => 0

/-- Output that the segments of a job had already written when it failed: how much there is of it, and what, is free
(R295, R298; log 3). With `zero` it is overwritten with zeros, and CRY_ZERO counts (R293). -/
def State.djPartial (s : State) (j : Job) (zero : Bool) : State :=
  let d := j.desc
  let limit := djOutMax d
  let k := s.freeNat % (limit + 1)
  if k = 0 then s.used
  else
    let s1 := (s.used.used.djPut (djDst d) (leBytes k s.used.freeNat)).1
    if zero then (s1.djPut (djDst d) (List.replicate k 0)).1.bump R.CRY_ZERO_LO else s1

/-- A software job computes and ends (R284, R290-R294); `m` answers reads of host memory. An RNG job that the DRBG does not
serve waits (R297). -/
def State.softRun (s : State) (m : HostMem) (n : Nat) (j : Job) (q i : Nat) : State :=
  let d := j.desc
  if !djOk d then s.softEnd (some m) n j q i cmBadDesc
  else if djCtrWrap d then s.softEnd (some m) n j q i cmCtrWrap
  else if j.nokey then (if j.key.isEmpty then s else s.djPartial j false).softEnd (some m) n j q i cmNoKey
  else
    match s.djGet m (djSrc d) (djSrcLen d) with
    | (s1, none) => s1.softEnd (some m) n j q i cmBus
    | (s1, some src) =>
      match s1.djGet m (djAux d) (djAuxRead d) with
      | (s2, none) => s2.softEnd (some m) n j q i cmBus
      | (s2, some aux) =>
        match (if djOp d = 10 then s2.randomBytes (djLen d) else (s2, some [])) with
        | (s3, none) => s3
        | (s3, some rand) =>
        let (out, good) := djResult d j.key src aux rand
        match s3.djPut (djDst d) out with
        | (s4, false) => s4.softEnd (some m) n j q i cmBus
        | (s4, true) =>
          if good then s4.softEnd (some m) n j q i cmOk
          else if djZeroes d then
            ((s4.djPut (djDst d) (List.replicate out.length 0)).1.bump R.CRY_ZERO_LO).softEnd (some m) n j q i cmTagFail
          else s4.softEnd (some m) n j q i cmTagFail

/-- A software job on core or unit `n` completes, in its last segment where it runs in the pool (R287, R292). -/
def State.softDone (s : State) (n : Nat) (m : HostMem) : State :=
  match s.jobOn n with
  | none => s
  | some j =>
    match j.user with
    | .soft q i => if n < 136 ∧ 64 < j.blocks then s else s.softRun m n j q i
    | _ => s

/-- A parity or redundancy error of core `n`, or of the start-up unit (136), aborts its job (R298); a core goes to QUARANTINE
(R299). -/
def State.coreAbort (s : State) (n : Nat) : State :=
  if 136 < n then s
  else
    match s.jobOn n with
    | none => s
    | some j =>
      let s0 := (s.quarantine n).bump R.CRY_ABORT_LO
      let again := { j with retried := true, avoid := some n }
      if j.level ≤ 3 then
        if j.retried then (s0.endJob n j).jobLost j else ((s0.freeCore n).requeue again).bump R.CRY_RETRY_LO
      else if j.level = 4 then
        let t := s0.endJob n j
        if t.vault.cmd.isSome then t.keyAbort kGrit else t.blobLost
      else if j.level = 5 then
        if j.retried then (s0.endJob n j).expEnd expGrit else (s0.freeCore n).requeue again
      else
        match j.user with
        | .soft q i => (s0.djPartial j (djZeroes j.desc)).softEnd none n j q i cmFault
        | _ => s0.endJob n j

/-! ### Jobs and the host (R302, R394) -/

/-- A software job touches host memory: in its descriptor, its input, its output or its additional data. -/
def softTouchesHost (j : Job) : Bool :=
  let host := fun a => match targetOf a with | .host _ => true | _ => false
  host j.addr || (decide (0 < djSrcLen j.desc) && host (djSrc j.desc)) ||
    (decide (0 < djOutMax j.desc) && host (djDst j.desc)) || (decide (0 < djAuxRead j.desc) && host (djAux j.desc))

/-- The host has gone: jobs that touch its memory end with BUS, running or waiting (R302). -/
def State.softDetached (s : State) : State :=
  let s1 := s.each s.grit.running (fun p t =>
    match p.2.user with
    | .soft q i => if softTouchesHost p.2 then t.softEnd none p.1 p.2 q i cmBus else t
    | _ => t)
  s1.each s.grit.waiting (fun j t =>
    match j.user with
    | .soft q i => if softTouchesHost j then (t.unwait j).softOver none j q i cmBus else t
    | _ => t)

/-! ### Meanings -/

/-- SW_JOB_COMPLETE (R292): the job on a core, or on unit 136 (start-up), 137 (public-key) or 138 (DRBG); `host` answers
reads of host memory. -/
def execSwJobComplete (core : Nat) (host : List (Nat × BitVec 8)) (s : State) : Host.Outcome State Fault Refusal :=
  done s (s.softDone core host)

/-- CORE_ABORT (R298). -/
def execCoreAbort (core : Nat) (s : State) : Host.Outcome State Fault Refusal := done s (s.coreAbort core)

end Sys2Proof.Machine
end

