-- ==== Sys2Proof/Machine/Loader.lean ====
section
/-! DEFINITION. The configuration loader: directory, self-test, checks of a candidate, records, commit (3, R54-R77,
R508). -/

namespace Sys2Proof.Machine

/-! ### Self-test (R17, R60, R282, R297, R458-R461) -/

/-- The repair that a record spells (R458); a record of zeros spells none. -/
def repairOf (w0 w1 : Word) : Option Repair :=
  if w0 = 0 ∧ w1 = 0 then none
  else some ⟨fieldOf w0 28 4, fieldOf w0 16 8, fieldOf w0 0 16, fieldOf w1 16 16, fieldOf w1 0 16⟩

/-- A row of a table has been replaced by a spare of its own (R131). -/
def State.rowSpent (s : State) (r : Repair) : State :=
  if r.kind = repRow ∧ r.region = 4 ∧ r.index < 4 then
    { s with tbl := { s.tbl with spares := s.tbl.spares.set spareRows r.index (s.sparesLeft r.index - 1) } }
  else s

/-- A core named by a record is RETIRED, and its spare takes the logical number (R299, R300). -/
def State.coreRecord (s : State) (failed spare : Nat) : State :=
  let s1 := s.p (R.CRY_CORE.STATE failed) coreRetired
  (if spare < 136 ∧ s.coreState spare = coreSpare ∧ s.coreState failed = coreActive then
    (s1.p (R.CRY_CORE.STATE spare) coreActive).p (R.CRY_CORE.LOGICAL spare) (s.g (R.CRY_CORE.LOGICAL failed))
  else s1).tileTouch

/-- A ply named by a record is FAILED, and its spare carries traffic (R168, R170). -/
def State.plyRecord (s : State) (failed spare : Nat) : State :=
  let s1 := s.setPly failed plyFailed
  (if spare < 5 ∧ s.ply spare = plySpare ∧ s.ply failed = plyActive then s1.setPly spare plyActive else s1).plyTouch failed

/-- Applies a record that Shim finds at a start, of production or of service (R60, R458): one that is in force already changes
nothing. -/
def State.applyRecord (s : State) (w0 w1 : Word) : State :=
  match repairOf w0 w1 with
  | none => s
  | some r =>
    if s.shim.contains r then s
    else
      let s1 := s.inForce r
      if r.kind = repCore ∧ r.failed < 136 then s1.coreRecord r.failed r.spare
      else if r.kind = repPly ∧ r.failed < 5 then s1.plyRecord r.failed r.spare
      else s1.rowSpent r

/-- A row or column fails at a start and a spare replaces it: the repair is recorded in the keep-alive store (R60, R458). -/
def State.lineFails (s : State) (column : Bool) (region index failed spare : Nat) : State :=
  let kind := if column then repColumn else repRow
  (s.shimRepair kind region index failed spare).rowSpent ⟨kind, region % 256, index % 65536, failed, spare⟩

/-- A core fails its known-answer tests at a start; `others` are those that do. -/
def State.coreFails (s : State) (others : List Nat) (n : Nat) : State :=
  if 136 ≤ n then s
  else if s.coreState n = coreActive then
    s.retireCore n (!((List.range 17).any (fun k => others.contains (17 * (n / 17) + k) && s.coreState (17 * (n / 17) + k) == coreSpare)))
  else if s.coreState n = coreSpare then (s.p (R.CRY_CORE.STATE n) coreRetired).tileTouch
  else s

/-- A ply fails its test at a start: the spare takes its place at once (R60); a spare that fails is FAILED itself (R168). -/
def State.plyTestFails (s : State) (p : Nat) : State :=
  if p < 5 ∧ s.ply p = plySpare then (s.plyBad p).plyTouch p
  else
    let s1 := s.plyFail p
    match (List.range 5).find? (fun q => s1.ply q == plyTraining) with
    | some q => s1.plyReady q true
    | none => s1

/-- What self-test finds that no spare can mend (R460): buffer rows, tables without a spare row, queues, CAN objects, key
slots, SRAM rows. -/
structure Reduced where
  bufRows : Nat := 0
  tables : List Nat := []
  queues : List Nat := []
  objs : List Nat := []
  slots : List Nat := []
  sram : List Nat := []
  deriving DecidableEq, Repr

/-- An SRAM row is reduced: MGT_SRAM_RED lists it, while it has room (R467, R460). -/
def State.sramReduced (s : State) (row : Nat) : State :=
  match (List.range 16).find? (fun k => !s.on (R.MGT_SRAM_RED.VALID k)) with
  | some k => (s.p (R.MGT_SRAM_RED.VALID k) 1).p (R.MGT_SRAM_RED.ROW k) row
  | none => s

/-- An array macro without a spare (R444, R460, R461). -/
def State.arrayReduced (s : State) (region row : Nat) : State :=
  ((s.fault 313 (faultInfo 1 region row)).degrade R.FLT_DEGR.ARRAY true).shimReduced

/-- A row of an array that could not be repaired takes with it what stood there (R460). -/
def State.reduce (s : State) (r : Reduced) : State :=
  let s1 := { s with
    sw := { s.sw with gone := s.sw.gone + 32 * r.bufRows },
    worn := { queues := s.worn.queues ++ r.queues, objs := s.worn.objs ++ r.objs, slots := s.worn.slots ++ r.slots } }
  let s2 := s1.each r.slots (fun n t => t.zeroSlot (n % 4096))
  (s2.each r.sram (fun n t => t.sramReduced n)).poolTouch

/-- The records that Shim applies at a start, in its order: those of production, then those of the keep-alive store (R60). -/
def State.applyRecords (s : State) : State :=
  let s1 := s.each (List.range 256) (fun k t => t.applyRecord (t.rd (R.REP_FUSE_W0 k)) (t.rd (R.REP_FUSE_W1 k)))
  s1.each (List.range (s.g R.REP_REC_N.N)) (fun k t => t.applyRecord (t.rd (R.REP_REC_W0 k)) (t.rd (R.REP_REC_W1 k)))

/-- Self-test and soft repair end (R60): the records of production and of the keep-alive store are applied, then what fails
now is replaced, `lines` being the rows and columns with a spare: whether a column, region, macro, the line and its spare; the
entropy source passes its tests or not (R297). -/
def State.selfTestDone (s : State) (cores plies : List Nat) (lines : List (Bool × Nat × Nat × Nat × Nat)) (r : Reduced) (entropyOk : Bool) :
    State :=
  if !s.coreUp || s.loader.selfTest then s
  else
    let s0 := s.applyRecords
    let s1 := s0.each lines (fun l t => t.lineFails l.1 l.2.1 l.2.2.1 l.2.2.2.1 l.2.2.2.2)
    let s2 := (s1.each cores (fun n t => t.coreFails cores n)).each plies (fun p t => t.plyTestFails p)
    let any := r.bufRows != 0 || !r.queues.isEmpty || !r.objs.isEmpty || !r.slots.isEmpty || !r.sram.isEmpty
    let s3 := (s2.reduce r).when any (fun t => t.arrayReduced 0 0)
    let s4 := s3.each (r.tables.filter (· < 4)) (fun k t =>
      ((({ t with tbl := { t.tbl with spares := t.tbl.spares.set spareRows k 0 } }.ev R.TBL_EVT.REPAIR_EXH).fault (68 + k)
        (faultInfo 1 k 0)).degrade R.FLT_DEGR.TABLE true).shimReduced)
    let s5 := if s4.g R.CRY_DRBG_STS.STATE != drbgInit then s4 else if entropyOk then s4.drbgSeeded else s4.entropyFails
    (s5.poolSts.modLoader (fun l => { l with selfTest := true })).levels

/-! ### Directory and order of the candidates (R61, R72) -/

/-- The xSPI master reads the directory copies (R61); an error is recorded (R444). -/
def State.dirRead (s : State) (err0 err1 : Bool) : State :=
  if !(s.loader.active && s.loader.pllLocked && s.loader.cand.isNone && s.loader.taken == 0) then s
  else
    let s1 := s.when (err0 || err1) (fun t => t.fault 16 (faultInfo 4 0 0))
    let c0 := if err0 then none else dirOf (s.flashBytes 0 4096)
    let c1 := if err1 then none else dirOf (s.flashBytes 4096 4096)
    s1.modLoader (fun l => { l with dir := (match c0 with | some d => some d | none => c1), dirRead := true })

/-- MAGIC of a configuration image (R63). -/
def cfgMagic : List Byte := [0x48, 0x4B, 0x52, 0x43]

/-- SEQ of the image in a slot plus one; zero where its header fails MAGIC, or it is absent (R72). -/
def State.slotSeq (s : State) (k : Nat) : Nat :=
  match s.cfgSlot k with
  | some e => if s.flashBytes e.1 4 = cfgMagic then 1 + leNat (s.flashBytes (e.1 + 8) 4) else 0
  | none => 0

/-- The order of the candidates (R72). -/
def State.candOrder (s : State) : List Nat :=
  if s.on R.CFG_PREFER.VALID then let k := s.g R.CFG_PREFER.SLOT; [k, 1 - k]
  else if s.slotSeq 0 < s.slotSeq 1 then [1, 0] else [0, 1]

/-- The loader reads CFG_PREFER: one set with ONCE applies to one start only (R72). -/
def State.preferRead (s : State) : State := if s.on R.CFG_PREFER.ONCE then (s.p R.CFG_PREFER.VALID 0).p R.CFG_PREFER.ONCE 0 else s

/-! ### Checks of a candidate (R62-R65, R69) -/

/-- Fields of a header (R63). -/
def hdBodyLen (h : List Byte) : Nat := leAt h 0x0C 4
def hdFlags (h : List Byte) : Nat := leAt h 0x14 4
def hdSigLen (h : List Byte) : Nat := leAt h 0x64 4

/-- The first header check that fails: its reason and the offset of the field (R69). -/
def State.headerFault (s : State) (size : Nat) (h sig : List Byte) : Option (Nat × Nat) :=
  if h.take 4 ≠ cfgMagic then some (rejMagic, 0)
  else if leAt h 4 2 ≠ 1 then some (rejFmt, 4)
  else if leAt h 6 2 ≠ 0x80 then some (rejFmt, 6)
  else if hdFlags h / 4 ≠ 0 then some (rejFmt, 0x14)
  else if !allZero (slice h 0x3D 3) then some (rejFmt, 0x3D)
  else if !allZero (slice h 0x68 24) then some (rejFmt, 0x68)
  else if leAt h 0x60 2 ≠ 0x9256 then some (rejTarget, 0x60)
  else if 1 < leAt h 0x62 1 then some (rejTarget, 0x62)
  else if 1 < leAt h 0x63 1 then some (rejTarget, 0x63)
  else if !deviceOk (leAt h 0x18 8) then some (rejTarget, 0x18)
  else if hdBodyLen h % 16 ≠ 0 ∨ hdBodyLen h = 0 then some (rejSize, 0x0C)
  else if hdSigLen h ≠ sigLenOf (hdFlags h) then some (rejSize, 0x64)
  else if min size 4194304 < 144 + hdBodyLen h + hdSigLen h then some (rejSize, 0x0C)
  else if leAt h 0x0B 1 < s.vault.cfgEpoch then some (rejRollback, 8)
  else if !s.signerAllowed (leAt h 0x3C 1) (hdFlags h) || !s.signerKeys (leAt h 0x3C 1) (hdFlags h) sig then some (rejSigner, 0x3C)
  else if s.rootKey.isNone then some (rejNoKey, 0x20)
  else none

/-- The header of the next candidate is read and checked (R69); `err` is an xSPI error. -/
def State.headerCheck (s0 : State) (err : Bool) : State :=
  if !(s0.loader.active && s0.loader.dirRead && s0.loader.cand.isNone) then s0
  else
    let first := s0.loader.taken == 0
    let s := if first then s0.preferRead.modLoader (fun l => { l with order := s0.candOrder }) else s0
    match s.loader.order with
    | [] => s
    | k :: rest =>
      let s1 := (s.setCfg cfgStage).modLoader (fun l => { l with order := rest, cand := some k, taken := l.taken + 1 })
      match s1.cfgSlot k with
      | none => s1.reject rejDir 0 0
      | some e =>
        if err then (s1.fault 16 (faultInfo 4 0 0)).reject rejFlash 0 0
        else
          let h := s1.flashBytes e.1 128
          match s1.headerFault e.2 h (s1.flashBytes (e.1 + 144 + hdBodyLen h) (min (hdSigLen h) 5392)) with
          | some (c, o) => s1.reject c 0 o
          | none => s1.modLoader (fun l => { l with header := h })

/-- The body and trailer are read, hashed and decrypted into the staging area, and the tag is checked (R64, R70). -/
def State.bodyRead (s : State) (err : Bool) : State :=
  match s.loader.cand with
  | none => s
  | some k =>
    let h := s.loader.header
    if h.isEmpty || s.loader.bodyRead then s
    else if err then (s.fault 16 (faultInfo 4 0 0)).reject rejFlash 0 128
    else
      match s.cfgSlot k, s.rootKey with
      | some e, some rs =>
        let n := hdBodyLen h
        let b := s.flashBytes (e.1 + 128) n
        let tag := s.flashBytes (e.1 + 128 + n) 16
        let key := cfgKey rs (slice h 0x20 16)
        let iv := slice h 0x30 12
        if gcmTag key iv h b = tag then
          (s.modLoader (fun l => { l with cipher := b ++ tag, plain := gcmCrypt key iv b, bodyRead := true })).setCfg cfgVerify
        else s.reject rejTag 0 (128 + n)
      | _, none => s.reject rejNoKey 0 0x20
      | none, _ => s.reject rejDir 0 0

/-! ### Records (R66-R68) -/

/-- A write by CFG may go to this offset: mapped, and outside the CFG region (R69). -/
def cfgTarget (a : Nat) : Bool := (rowOf a).isSome && regionOf a != 2

/-- The entry of an MDIO record is in range (R67, R69): master, clause, PHY address, device, register. -/
def mdioOk (e : List Byte) : Bool :=
  decide (leAt e 0 1 < 2) && decide (leAt e 2 1 < 32) && decide (leAt e 3 1 < 32) &&
    (leAt e 1 1 == 45 || (leAt e 1 1 == 22 && decide (leAt e 4 2 < 32)))

/-- The record of a TYPE, its CRIT bit and its payload (R67); `last`: it is the record at which END is due. -/
def recOf (type : Nat) (crit : Bool) (p : List Byte) (last : Nat → Bool) : Rec :=
  let ws := wordsOf (p.length / 4) p
  let n := p.length
  match type with
  | 0x0001 => if n = 4 ∧ last (leAt p 0 4) then .endRec (leAt p 0 4) else .bad
  | 0x0010 =>
    let pairs := (chunksOf 8 (n / 8) p).map (fun c => (leAt c 0 4, W (leAt c 4 4)))
    if n % 8 = 0 ∧ pairs.all (fun q => cfgTarget q.1) then .reg32 pairs else .bad
  | 0x0011 =>
    let off := leAt p 0 4
    if 4 ≤ n ∧ (List.range (n / 4 - 1)).all (fun k => cfgTarget (off + 4 * k)) then .regblk off (ws.drop 1) else .bad
  | 0x0012 => if n = 16 then .regpoll (leAt p 0 4) (W (leAt p 4 4)) (W (leAt p 8 4)) (leAt p 12 4) else .bad
  | 0x0013 => if n = 4 ∧ 1 ≤ leAt p 0 4 ∧ leAt p 0 4 ≤ 100000 then .regwait (leAt p 0 4) else .bad
  | 0x0020 =>
    let t := leAt p 0 1
    let first := leAt p 4 4
    let count := leAt p 8 4
    if n = 12 + 16 * count ∧ t < 4 ∧ (List.range count).all (fun i => indexOk t (first + i)) then .tblload t first count (ws.drop 3)
    else .bad
  | 0x0030 => if 4 ≤ n ∧ leAt p 0 2 < 4096 then .keyblob (leAt p 0 2) (p.drop 4) else .bad
  | 0x0040 => let l := chunksOf 8 (n / 8) p; if n % 8 = 0 ∧ l.all mdioOk then .mdio l else .bad
  | 0x00F0 => .note
  | t => .unknown t crit

/-- The records of a body whose header announces `total`: up to END, or up to the first that breaks R66 or R69, which is
`bad`. -/
def parseRecs (total : Nat) : Nat → Nat → Nat → List Byte → List RecAt
  | 0, idx, ofs, _ => [⟨idx, ofs, .bad⟩]
  | k + 1, idx, ofs, b =>
    let len := leAt b 4 4
    if b.length < 8 ∨ len % 4 ≠ 0 ∨ b.length < 8 + len ∨ leAt b 2 2 / 2 ≠ 0 then [⟨idx, ofs, .bad⟩]
    else
      let rest := b.drop (8 + len)
      match recOf (leAt b 0 2) (bit (leAt b 2 2) 0) (slice b 8 len) (fun c => c == total && idx + 1 == total) with
      | .bad => [⟨idx, ofs, .bad⟩]
      | .endRec c =>
        match rest.findIdx? (· != 0) with
        | some i => [⟨idx, ofs, .endRec c⟩, ⟨idx, ofs + 8 + len + i, .bad⟩]
        | none => [⟨idx, ofs, .endRec c⟩]
      | r => ⟨idx, ofs, r⟩ :: parseRecs total k (idx + 1) (ofs + 8 + len) rest

/-- The signatures are verified and the records checked (R65, R69). -/
def State.sigVerify (s : State) : State :=
  match s.loader.cand with
  | none => s
  | some k =>
    if !s.loader.bodyRead || s.loader.verified then s
    else
      let h := s.loader.header
      let n := hdBodyLen h
      let sig := match s.cfgSlot k with | some e => s.flashBytes (e.1 + 144 + n) (hdSigLen h) | none => []
      if !sigsGood (hdFlags h) (sha384 (h ++ s.loader.cipher)) sig then s.reject rejSig 0 (144 + n)
      else
        let recs := parseRecs (leAt h 0x10 4) (n / 8 + 1) 0 0 s.loader.plain
        match recs.find? (fun r => r.body == .bad) with
        | some r => s.reject rejRecord r.idx (128 + r.ofs)
        | none =>
          match recs.find? (fun r => match r.body with | .unknown _ c => c | _ => false) with
          | some r => s.reject rejCrit r.idx (128 + r.ofs)
          | none => s.modLoader (fun l => { l with recs := recs, verified := true })

/-! ### Applying (R67, R69, R77) -/

/-- APPLY begins (R55). -/
def State.applyBegin (s : State) : State :=
  if s.loader.selfTest && s.loader.verified && s.cfgState == cfgVerify then s.setCfg cfgApply else s

/-- The loader's writes still waiting at an MDIO master. -/
def State.cfgMdio (s : State) : Bool := [0, 1].any (fun m => (s.mdioM m).writes.any (fun a => !a.sleep))

/-- The record due next, once the one before it is done. -/
def State.nextRec (s : State) : Option Rec :=
  if s.cfgState = cfgApply ∧ s.loader.wait = .none ∧ !s.cfgMdio then s.loader.recs.head?.map (·.body) else none

/-- The record in hand. -/
def State.handRec (s : State) : Option Rec := s.loader.recs.head?.map (·.body)

/-- The record in hand is done. -/
def State.recDone (s : State) : State := s.modLoader (fun l => { l with recs := l.recs.drop 1, wait := .none })

/-- The loader has written region `n` (R71). -/
def State.markRegion (s : State) (n : Nat) : State :=
  if 3 ≤ n ∧ !s.loader.written.contains n then s.modLoader (fun l => { l with written := l.written ++ [n] }) else s

/-- Once RS has been zeroed, every candidate that has still to use it is rejected with NOKEY (R77). -/
def State.rootGone (s : State) : Bool := s.rootKey.isNone

/-- A record that needs nothing of the vault is applied with `f`, or the candidate is rejected: RS is gone (R77). -/
def State.applyRec (s : State) (f : State → State) : State :=
  if s.rootGone then s.unapply rejNoKey 0 0x20 else f s

/-- Register writes by CFG in order (R67, R69): the first error response rejects the image. -/
def State.cfgWrites : List (Nat × Word) → State → State
  | [], s => s.recDone
  | (a, v) :: t, s =>
    match (s.markRegion (regionOf a)).busWrite reqCfg a 15 v with
    | (s1, none) => State.cfgWrites t s1
    | (s1, some _) => s1.rejectApply

/-- The poll of a REGPOLL record reads its register: none where it meets an error, else whether it matches. -/
def State.pollRead (s : State) (off : Nat) (mask value : Word) : State × Option Bool :=
  match s.busRead reqCfg off with
  | (s1, w, none) => (s1, some ((w &&& mask) == value))
  | (s1, _, some _) => (s1, none)

/-- Entries of a TBLLOAD record from index `i` (R67, R133); `bad` is the entry whose read-back differs, which Shim
repairs at once where it can (R131). -/
def State.tblLoad (t i : Nat) (bad : Option Nat) : List (List Word) → State → State
  | [], s => s.recDone
  | e :: rest, s =>
    let s1 := s.putData 6 ⟨e.getD 0 0, e.getD 1 0, e.getD 2 0, e.getD 3 0⟩
    let differs := bad == some i
    let s2 := s1.tblAct reqCfg 6 (tblWord 2 t i) differs
    let s3 := if s2.tbl.repair.isSome then s2.rowRepair t (i / 4) else s2
    if s3.stat (R.TBL_CMD 6) = statDone then State.tblLoad t (i + 1) bad rest s3 else s3.rejectApply

/-- Groups of four words. -/
def quads : Nat → List Word → List (List Word)
  | 0, _ => []
  | n + 1, l => l.take 4 :: quads n (l.drop 4)

/-- The access of an MDIO entry (R67). -/
def mdioOfRec (e : List Byte) : Nat × MdioAcc :=
  (leAt e 0 1, { cl45 := leAt e 1 1 == 45, write := true, prt := leAt e 2 1, dev := if leAt e 1 1 = 45 then leAt e 3 1 else 0,
                 reg := leAt e 4 2, data := leAt e 6 2 })

/-- REG32 and REGBLK. -/
def State.regRecord (s : State) : State :=
  match s.nextRec with
  | some (.reg32 l) => s.applyRec (State.cfgWrites l)
  | _ => s

def State.blkRecord (s : State) : State :=
  match s.nextRec with
  | some (.regblk off vals) => s.applyRec (State.cfgWrites (vals.zipIdx.map (fun p => (off + 4 * p.2, p.1))))
  | _ => s

/-- REGPOLL begins. -/
def State.pollRecord (s : State) : State :=
  match s.nextRec with
  | some (.regpoll off mask value _) => s.applyRec (fun t => t.modLoader (fun l => { l with wait := .poll off mask value }))
  | _ => s

/-- The polled register is read: it matches and the loader goes on, or an error rejects the image; at the `late` end of
the time a poll that does not match rejects it too. -/
def State.pollStep (s : State) (late : Bool) : State :=
  match s.loader.wait with
  | .poll off mask value =>
    match s.pollRead off mask value with
    | (s1, some true) => s1.recDone
    | (s1, some false) => if late then s1.rejectApply else s1
    | (s1, none) => s1.rejectApply
  | _ => s

/-- REGWAIT begins, and ends. -/
def State.waitRecord (s : State) : State :=
  match s.nextRec with
  | some (.regwait _) => s.applyRec (fun t => t.modLoader (fun l => { l with wait := .time }))
  | _ => s
def State.waitEnd (s : State) : State := if s.loader.wait = .time then s.recDone else s

/-- TBLLOAD. -/
def State.tblRecord (s : State) (bad : Option Nat) : State :=
  match s.nextRec with
  | some (.tblload t first count ws) =>
    if s.tblBusy then s else s.applyRec (fun u => State.tblLoad t first bad (quads count ws) (u.markRegion 4))
  | _ => s

/-- KEYBLOB begins (R315): the vault's job joins level 4. -/
def State.blobRecord (s : State) : State :=
  match s.nextRec with
  | some (.keyblob slot _) =>
    if s.vault.cmd.isSome then s
    else ((s.markRegion 11).modLoader (fun l => { l with wait := .blob slot })).vaultEnqueue noSlot
  | _ => s

/-- The vault finishes a KEYBLOB record (R315): `differ`, the two KCV computations of R309 disagree. -/
def State.blobDone (s : State) (differ : Bool) : State :=
  match s.loader.wait, s.handRec, s.vaultCores with
  | .blob slot, some (.keyblob _ blob), some (n, j, m) =>
    let r := ((s.endJob n j).freeCore m).keyBlob slot blob differ
    if r.2 = kOk then r.1.recDone else r.1.rejectApply
  | _, _, _ => s

/-- MDIO. -/
def State.mdioRecord (s : State) : State :=
  match s.nextRec with
  | some (.mdio l) =>
    s.applyRec (fun t => (t.each (l.map mdioOfRec) (fun e u => u.mdioWork (e.1 % 2) (fun d => { d with writes := d.writes ++ [e.2] }))).recDone)
  | _ => s

/-- NOTE, and a record of unknown TYPE (R68). -/
def State.noteRecord (s : State) : State := match s.nextRec with | some .note => s.applyRec State.recDone | _ => s
def State.skipRecord (s : State) : State :=
  match s.nextRec with
  | some (.unknown _ _) => s.applyRec (fun t => ((t.bump R.CFG_SKIP_LO).ev R.CFG_EVT.SKIP).recDone)
  | _ => s

/-- END: COMMIT follows (R55). -/
def State.endRecord (s : State) : State :=
  match s.nextRec with
  | some (.endRec _) => s.applyRec (fun t => t.recDone.setCfg cfgCommit)
  | _ => s

/-! ### Commit (R55, R356, R508) -/

/-- A stored enable acts (R508). -/
def State.actStored (s : State) (l : Loc) (f : State → State) : State := if s.on l then f s else s

/-- The stored enables act in the order of R508; each is in force before the next. -/
def State.actAll (s : State) (st : List (Nat × Nat)) : State :=
  let has := fun (l : Loc) => st.contains (l.addr, l.lo)
  let go := fun (t : State) (n : Nat) (l : Nat → Loc) (f : Nat → State → State) =>
    t.each ((List.range n).filter (fun k => has (l k))) (fun k u => u.actStored (l k) (f k))
  let s1 := go s 4 R.TB_CFG.EN (fun k t => t.tbEnable k)
  let s2 := go s1 4 R.TB_CFG.SRV_EN (fun k t => t.srvEnable k)
  let lead := fun (b : Bool) => (List.range 32).filter (fun g => has (R.TG_CFG.EN g) && s.on (R.TG_CFG.LINK g) == b)
  let s3 := s2.each (lead false ++ lead true) (fun g t => t.actStored (R.TG_CFG.EN g) (fun u => u.tgEnable g))
  let s4 := go s3 24 R.TP_PORT_CFG.EN (fun k t => t.asEval k)
  let s5 := go s4 4 R.TP_DOM_CFG.EN (fun k t => t.domEnable k)
  let s6 := go s5 16 R.CAN_CFG.EN (fun k t => t.canEnable k)
  let s7 := go s6 16 R.CAN_SCH_CFG.EN (fun k t => t.schEnable k)
  go s7 24 R.MAC_CFG.EN (fun k t => t.macEnable k)

/-- COMMIT (R55): the staging area is zeroed, table epochs are zero, the stored enables act. -/
def State.commitLoad (s : State) : State :=
  if s.cfgState != cfgCommit || s.loader.committed || s.cfgMdio then s
  else
    let st := s.loader.stored
    let s1 := s.modLoader (fun l => { l with
      actDigest := sha384 (l.header ++ l.cipher), cipher := [], plain := [], stored := [], committed := true })
    (s1.wr R.TBL_EPOCH 0).actAll st

/-- Forwarding is enabled, and the load channels take their configured states (R55, R72, R76, R356). -/
def State.forwardOn (s : State) : State :=
  match s.loader.cand with
  | none => s
  | some k =>
    if s.cfgState != cfgCommit || !s.loader.committed then s
    else
      let h := s.loader.header
      let s1 := ((((s.setCfg cfgRun).p R.CFG_STS.SLOT k).wr R.CFG_ACT_SEQ (W (leAt h 8 4))).wrList (R.CFG_BUILD 0) (wordsOf 8 (slice h 0x40 32))).wr
        R.CFG_T_FWD (W s.sinceStart)
      let s2 := (s1.ev R.CFG_EVT.LOADED).when (decide (1 < s.loader.taken)) (fun t => (t.ev R.CFG_EVT.FALLBACK).bump R.CFG_FALLBACK_LO)
      let s3 := s2.when s.loader.reload (fun t => (t.setStat R.CFG_CMD statDone).degrade R.FLT_DEGR.CONFIG false)
      let s4 := { s3 with pins := { s3.pins with forwarding := true } }.modLoader (fun l => { l with
        active := false, reload := false, act := h, cand := none, header := [], bodyRead := false, verified := false, recs := [] })
      (s4.each ((List.range 24).filter (fun p => s4.portUp p)) (fun p t => t.swUp p)).intUp.ldCommit.slpCoreUp

/-! ### Meanings -/

/-- FLASH_DIRECTORY_READ (R61): `err0`, `err1` are xSPI errors on the two copies. -/
def execFlashDirectoryRead (err0 err1 : Bool) (s : State) : Host.Outcome State Fault Refusal := done s (s.dirRead err0 err1)

/-- SELFTEST_COMPLETE (R60): the cores and plies that fail, the rows and columns that a spare replaces, what no spare can mend,
whether the entropy passes. -/
def execSelftestComplete (cores plies : List Nat) (bufRows : Nat) (tables queues objs slots sram : List Nat) (entropyOk : Bool) (s : State)
    (lines : List (Bool × Nat × Nat × Nat × Nat) := []) :
    Host.Outcome State Fault Refusal :=
  done s (s.selfTestDone cores plies lines
    { bufRows := bufRows, tables := tables, queues := queues, objs := objs, slots := slots, sram := sram } entropyOk)

/-- CANDIDATE_HEADER_CHECK (R69). -/
def execCandidateHeaderCheck (err : Bool) (s : State) : Host.Outcome State Fault Refusal := done s (s.headerCheck err)

/-- BODY_READ_COMPLETE (R64). -/
def execBodyReadComplete (err : Bool) (s : State) : Host.Outcome State Fault Refusal := done s (s.bodyRead err)

/-- SIGNATURE_VERIFY_COMPLETE (R65). -/
def execSignatureVerifyComplete (s : State) : Host.Outcome State Fault Refusal := done s s.sigVerify

/-- APPLY_BEGIN (R55). -/
def execApplyBegin (s : State) : Host.Outcome State Fault Refusal := done s s.applyBegin

/-- REG32 (R67). -/
def execReg32 (s : State) : Host.Outcome State Fault Refusal := done s s.regRecord

/-- REGBLK (R67). -/
def execRegblk (s : State) : Host.Outcome State Fault Refusal := done s s.blkRecord

/-- REGPOLL (R67). -/
def execRegpoll (s : State) : Host.Outcome State Fault Refusal := done s s.pollRecord

/-- REGPOLL_MATCH (R67): a read of the polled register. -/
def execRegpollMatch (s : State) : Host.Outcome State Fault Refusal := done s (s.pollStep false)

/-- REGPOLL_TIMEOUT (R69). -/
def execRegpollTimeout (s : State) : Host.Outcome State Fault Refusal := done s (s.pollStep true)

/-- REGWAIT (R67). -/
def execRegwait (s : State) : Host.Outcome State Fault Refusal := done s s.waitRecord

/-- REGWAIT_EXPIRY (R67). -/
def execRegwaitExpiry (s : State) : Host.Outcome State Fault Refusal := done s s.waitEnd

/-- TBLLOAD (R67): `bad` is the index whose read-back differs, if one does. -/
def execTblload (bad : Option Nat) (s : State) : Host.Outcome State Fault Refusal := done s (s.tblRecord bad)

/-- KEYBLOB (R315). -/
def execKeyblob (s : State) : Host.Outcome State Fault Refusal := done s s.blobRecord

/-- KEYBLOB_COMPLETE (R315). -/
def execKeyblobComplete (differ : Bool) (s : State) : Host.Outcome State Fault Refusal := done s (s.blobDone differ)

/-- MDIO_RECORD (R67). -/
def execMdioRecord (s : State) : Host.Outcome State Fault Refusal := done s s.mdioRecord

/-- NOTE (R67). -/
def execNoteRecord (s : State) : Host.Outcome State Fault Refusal := done s s.noteRecord

/-- UNKNOWN_RECORD (R68). -/
def execUnknownRecord (s : State) : Host.Outcome State Fault Refusal := done s s.skipRecord

/-- END (R67). -/
def execEndRecord (s : State) : Host.Outcome State Fault Refusal := done s s.endRecord

/-- COMMIT_ENABLES (R508). -/
def execCommitEnables (s : State) : Host.Outcome State Fault Refusal := done s s.commitLoad

/-- FORWARDING_ENABLE (R55). -/
def execForwardingEnable (s : State) : Host.Outcome State Fault Refusal := done s s.forwardOn

end Sys2Proof.Machine
end

