-- ==== Sys2Proof/Machine/Save.lean ====
section
/-! DEFINITION. Fault occurrences and what they take down, the end of a dump, the hold-up save, repairs of array rows, the
loss of the Tenon link and of the keep-alive store (1, R14, R16; 18, R443-R464; 20, R493, R494). -/

namespace Sys2Proof.Machine

/-! ### Fault occurrences (R444, R445) -/

/-- The frame that held an uncorrectable word is dropped (R444, R458), and its context waits for it no longer (R196). -/
def State.wordFrame (s : State) (id : Nat) : State :=
  if !s.hasFr id then s
  else
    let t := (s.dropFrame id).txSettle s
    match (s.fr id).f.ctx with
    | none => t
    | some n => match s.pendOf n id with | some q => t.verDropped n q | none => t

/-- What the condition of fault source `n` takes down with it: REFCLK_TB lost stops the time bases, REFCLK_CAN lost sends
the controllers to INTEGRATING, a lost SerDes reference takes down the twelve ports of the three quads that its clock,
REFCLK_SD0 or REFCLK_SD1, feeds; the sources of the other two quads are recorded as they occur (R16, R444, log 48). An
uncorrectable word of the buffer drops the frame that holds it, which INFO names. -/
def State.faultSide (s : State) (n : Nat) (info : Word) : State :=
  if n = 2 then s.each (List.range 4) (fun t u => if u.tbRun t then u.tbStop t else u)
  else if n = 3 then s.each (List.range 16) (fun c u => u.canBusLost c)
  else if 56 ≤ n ∧ n ≤ 61 then s.each (List.range 12) (fun k u => u.pcsLoss (12 * ((n - 56) / 3) + k))
  else if n = 88 then s.wordFrame (fieldOf info 0 16)
  else s

/-- FAULT_OCCURRENCE (R445): source `src` occurs with INFO `info`. -/
def execFaultOccurrence (src : Nat) (info : Word) (s : State) : Host.Outcome State Fault Refusal :=
  done s ((s.faultSide (src % 320) info).fault (src % 320) info)

/-! ### The end of a dump (R451) -/

/-- The dump in progress ends complete. -/
def State.dumpDone (s : State) : State :=
  match s.flt.dump with
  | none => s
  | some d =>
    let s1 := (((s.dumpWrite d).p R.FLT_STS.DUMPING 0).bump R.FLT_DUMP_LO).ev R.FLT_EVT.DUMP_DONE
    let s2 := s1.modFlt (fun f => { f with dump := none })
    let s3 := if d.src = 0xFFFF ∧ s2.stat R.FLT_DUMP_CMD = statBusy then s2.setStat R.FLT_DUMP_CMD statDone else s2
    s3.dumpOver

/-- DUMP_DONE (R451). -/
def execFltDumpDone (s : State) : Host.Outcome State Fault Refusal := done s s.dumpDone

/-! ### Hold-up supply (R454) -/

/-- VHOLD_SET in 0.5 V, held within 12.0-28.0 V (PWR_SUP_CFG). -/
def State.vholdSet (s : State) : Nat := clampNat 24 56 (s.g R.PWR_SUP_CFG.VHOLD_SET)

/-- Usable energy of `uf` microfarads in uJ: half C times (VHOLD_SET squared less 3.5 V squared), in eighths of V squared. -/
def State.holdEnergy (s : State) (uf : Nat) : Nat := uf * (s.vholdSet * s.vholdSet - 49) / 8

/-- A field that shows a measured value; the spec does not say what it shows of a value it cannot hold (log 37). -/
def State.shown (s : State) (l : Loc) (v : Nat) : State :=
  if v < 2 ^ l.wd then s.p l v else (s.p l (s.freeNat % 2 ^ l.wd)).used

/-- The measured supplies, in 10 mV, as PWR_SUP_STS shows them. -/
def State.supplies (s : State) (vs vhold : Nat) : State :=
  ((s.shown R.PWR_SUP_STS.VS vs).shown R.PWR_SUP_STS.VHOLD vhold).pb R.PWR_SUP_STS.CHARGED (decide (50 * s.vholdSet ≤ vhold))

/-- The power die measures the capacitance and derives the usable energy (R454). -/
def State.holdMeasured (s : State) (uf vs vhold : Nat) : State :=
  let e := s.holdEnergy uf
  let s1 := ((s.supplies vs vhold).shown R.PWR_SUP_CAP.E (e / 100)).shown R.PWR_SUP_CAP.UF uf
  if decide (e < 15000) && s1.coreUp then s1.fault 227 (faultInfo 6 0 (e / 100)) else s1

/-- HOLD_UP_MEASURED (R454): capacitance in uF, VS and VHOLD in 10 mV. -/
def execHoldUpMeasured (uf vs vhold : Nat) (s : State) : Host.Outcome State Fault Refusal :=
  done s (if s.pins.vs then s.holdMeasured uf vs vhold else s)

/-! ### The save (R455, R456) -/

/-- Frames in the buffer that are not being sent: the save discards them. -/
def State.savedOff (s : State) : List Nat :=
  (s.sw.frames.map (·.1)).filter (fun id => !(List.range 24).any (fun p => s.inTx id p))

/-- A frame that the save discards gives way for its class (R456). -/
def State.saveDrop (s : State) (id : Nat) : State := (s.yield (if (s.fr id).f.cls = 7 then 4 else 6)).dropFrame id

/-- The words of the save record before SAVED (FLT_SAVE_REC): BEGIN, the keep-alive time, frames discarded, up to eight
sources in service with their FIRST INFO, VHOLD at the start. -/
def State.saveWords (s : State) (frames vhold : Nat) : List Word :=
  let src := ((List.range 320).filter (fun n => s.on (R.FLT_SRC_STS.INSVC n))).take 8
  let pairs := src.flatMap (fun n => [W n, s.rd (R.FLT_FIRST_INFO n)])
  [0x5A5A0001, s.rd R.KEY_KA_TIME, W frames] ++ pairs ++ List.replicate (16 - pairs.length) 0 ++ [W vhold] ++ List.replicate 12 0

/-- SAVING (R456): forwarding stops, loads go off, rings freeze, the management cluster stops, jobs of levels 4-6 are
abandoned, reservations advance before anything else is written, then HIGH and the save record. A load in progress is
abandoned (R77), a dump in progress is cut (R453). -/
def State.saveBegin (s : State) (vs vhold : Nat) : State :=
  let s0 := (((s.supplies vs vhold).bump R.FLT_SAVE_LO).p R.PWR_SUP_STS.SAVE 1).modFlt (fun f => { f with held := true, saveOpen := true })
  let s1 := ((s0.ldSaveOff.freezeAll).dumpCut true).modMgt (fun m => { m with running := false })
  let s2 := s1.dropJobs (fun (j : Job) => decide (4 ≤ j.level))
  let s3 := if s2.beforeRun then s2.modLoader (fun l => { since := l.since }) else s2
  let s4 := (s3.wrList (R.FLT_SAVE_REC 0) (0x5A5A0001 :: List.replicate 31 0)).saveReservations.highPersist
  let ids := s4.savedOff
  let s5 := (s4.each ids (fun id t => t.saveDrop id)).each (s4.str.map (·.1)) (fun n t => (t.modCtx n (fun c => { c with pend := [] })).pendTouch n)
  s5.wrList (R.FLT_SAVE_REC 0) (s5.saveWords ids.length vhold)

/-- SAVING (R455): VS has been below VS_SAVE for 2 us; VS and VHOLD in 10 mV. -/
def execSaveSaving (vs vhold : Nat) (s : State) : Host.Outcome State Fault Refusal :=
  done s (if s.coreUp && s.g R.PWR_SUP_STS.SAVE == 0 then s.saveBegin vs vhold else s)

/-- SAVED (R455, R456): the END marker is written `us` microseconds after the start. -/
def execSaveSaved (us : Nat) (s : State) : Host.Outcome State Fault Refusal :=
  done s (if s.saving then
    (((s.wr (R.FLT_SAVE_REC 20) (W us)).wr (R.FLT_SAVE_REC 31) 0x5A5A00FF).p R.PWR_SUP_STS.SAVE 2).modFlt (fun f => { f with saveOpen := false })
  else s)

/-- SAVE_RECOVERY (R455): the core die starts as for RESET_N, channels restart as from UV. -/
def execSaveRecovery (s : State) : Host.Outcome State Fault Refusal :=
  done s (if s.g R.PWR_SUP_STS.SAVE = 2 ∧ s.pins.pwrGood then ((s.p R.PWR_SUP_STS.SAVE 0).restart 0).ldUvRecover else s)

/-- The supplies are gone: the core die as at power-on, nothing running; a save in progress stays incomplete. -/
def State.powerGone (s : State) : State := { (s.coreReset true).p R.PWR_SUP_STS.SAVE 0 with pins := {} }

/-- SAVE_POWER_LOST (R455). -/
def execSavePowerLost (s : State) : Host.Outcome State Fault Refusal := done s (if s.saving then s.powerGone else s)

/-! ### Repair of an array row (R458, R460) -/

/-- What an uncorrectable row takes with it: frames of the buffer, entries of queues (the number of the queue and 64 times that
of the entry from RD), CAN objects and key slots that it held (R458). -/
structure RowLost where
  frames : List Nat := []
  queues : List Nat := []
  objs : List Nat := []
  slots : List Nat := []
  deriving DecidableEq, Repr

/-- Such a frame in a row is dropped and reported by source 88 (R444). -/
def State.rowFrame (s : State) (id : Nat) : State :=
  if s.hasFr id then (s.fault 88 (faultInfo 1 0 (id % 65536))).wordFrame id else s

/-- An object that held an uncorrectable word loses its frame (R458): a receive object, numbered 0-2559, holds none any more, a
transmit object has none to send. -/
def State.rowObj (s : State) (n : Nat) : State :=
  let c := n / 4096 % 16
  let i := n % 4096
  if i < 2560 then s.p (R.CAN_RXO_W0.NEW c i) 0
  else if i < 2560 + 512 then ((s.p (R.CAN_TXO_W1.REQ c (i - 2560)) 0).p (R.CAN_TXO_W1.READY c (i - 2560)) 0).reqGone c (i - 2560)
  else s

/-- The places and lengths of the whole entries in the `n` words of queue `q` from position `i`; `k` bounds the walk. -/
def State.qEntries (s : State) (q : Nat) : Nat → Nat → Nat → List (Nat × Nat)
  | 0, _, _ => []
  | k + 1, i, n =>
    let w := s.qWord q i
    let m := stepWords w
    if n = 0 ∨ n < m then []
    else (if isEntry w then [(i, m)] else []) ++ State.qEntries s q k (i + m) (n - m)

/-- The `k`-th entry of queue `q` held an uncorrectable word and is lost (R458): idle words stand in its place (log 66). -/
def State.rowEntry (s : State) (q k : Nat) : State :=
  match (s.qEntries q queWords (s.qRd q) (s.qLevel q))[k]? with
  | some (i, m) => s.qFill q i (List.replicate m idleWord)
  | none => s

/-- What stood in the row and cannot be read is lost, and counted by fault source `src` of its block; a frame by source 88. -/
def State.rowLost (s : State) (src : Nat) (info : Word) (l : RowLost) : State :=
  let s1 := (s.each l.frames (fun id t => t.rowFrame id)).each l.queues (fun q t => t.rowEntry (q % 64) (q / 64))
  let s2 := (s1.each l.objs (fun n t => t.rowObj n)).each l.slots (fun n t => t.zeroSlot (n % 4096))
  if l.queues.isEmpty && l.objs.isEmpty && l.slots.isEmpty then s2 else s2.fault (src % 320) info

/-- ARRAY_ROW_REPAIR (R458, R460): row `row` of macro `unit` of region `region` reached ROW_LIM, or met an uncorrectable
error that lost `l`, counted by source `src`; `spare` is the row that replaces it, and `r` what goes with it where none is left. -/
def State.arrayRepair (s : State) (region unit row src : Nat) (spare : Option Nat) (l : RowLost) (r : Reduced) : State :=
  let s1 := s.rowLost src (faultInfo 1 unit row) l
  match spare with
  | some k => s1.shimRepair repRow (region % 256) unit row k
  | none => (s1.reduce r).arrayReduced region row

/-- ARRAY_ROW_REPAIR (R458). -/
def execArrayRowRepair (region unit row src : Nat) (spare : Option Nat) (frames lostQueues lostObjs lostSlots : List Nat) (bufRows : Nat)
    (queues objs slots sram : List Nat) (s : State) : Host.Outcome State Fault Refusal :=
  done s (if s.coreUp then
    s.arrayRepair region unit row src spare { frames := frames, queues := lostQueues, objs := lostObjs, slots := lostSlots }
      { bufRows := bufRows, queues := queues, objs := objs, slots := slots, sram := sram }
  else s)

/-! ### The Tenon link (R10, R14, R457) -/

/-- TENON_LINK_LOSS_DETECT (R457): the controllers lose their buses (R209); retraining begins. -/
def State.linkLoss (s : State) : State :=
  if !s.tenon.up then s
  else
    let s1 := { s with tenon := { s.tenon with up := false, retraining := true } }.p R.FLT_TENON.LOST 1
    ((s1.fault 224 (faultInfo 4 0 0)).bump R.FLT_TENON_LOST_LO).each (List.range 16) (fun c t => t.canBusLost c)

/-- LINK_LOST_STATE (R14): channels keep their commands, transceivers go to standby, a PREPARE ends (R366). -/
def State.linkLost (s : State) : State :=
  if s.tenon.up || s.tenon.lostState || !s.pins.vs then s
  else
    let s1 := { s with tenon := { s.tenon with lostState := true } }.slpBreak whyLink
    s1.each (List.range 16) (fun c t => if t.trx c = trxNormal ∨ t.trx c = trxSilent then t.trxStandby c else t)

/-- TENON_LINK_LOSS_DETECT. -/
def execTenonLinkLossDetect (s : State) : Host.Outcome State Fault Refusal := done s (if s.coreUp then s.linkLoss else s)
/-- LINK_LOST_STATE. -/
def execLinkLostState (s : State) : Host.Outcome State Fault Refusal := done s s.linkLost
/-- TENON_LINK_RETRAIN (R457): `ms` in the link-lost state. -/
def execTenonLinkRetrain (ms : Nat) (s : State) : Host.Outcome State Fault Refusal :=
  done s (if s.coreUp && s.tenon.retraining then s.tenonUp ms else s)
/-- TENON_RETRAIN_TIMEOUT (R457): source 226 is FATAL. -/
def execTenonRetrainTimeout (s : State) : Host.Outcome State Fault Refusal :=
  done s (if s.coreUp && s.tenon.retraining then s.fault 226 (faultInfo 4 0 0) else s)

/-! ### Loss of the keep-alive store (R321, R329, R334, R459, R494) -/

/-- Registers whose content the keep-alive store holds; the production records are fuses. -/
def keepAlive (a : Nat) : Bool :=
  keyKept a || a == R.KEY_STS || mgtKept a || (repKept a && decide (a < 0x2802000)) || a == R.CFG_PREFER || a == R.MEM_EXP_ID ||
    (decide (R.CFG_SKIP_LO ≤ a) && decide (a < R.CFG_SKIP_LO + 24)) || a == R.FLT_FATAL_SRC || a == R.FLT_FATAL_INFO ||
    (decide (R.FLT_SAVE_REC 0 ≤ a) && decide (a < R.FLT_SAVE_REC 0 + 128)) ||
    (decide (R.FLT_FATAL_LO ≤ a) && decide (a < R.FLT_FATAL_LO + 8)) || (decide (R.FLT_SAVE_LO ≤ a) && decide (a < R.FLT_SAVE_LO + 16))

/-- The store is lost. -/
def State.storeLost (s : State) : State :=
  let s1 := (s.resetRegs keepAlive).p R.FLT_STS.FATAL 0
  { s1 with
    once := s1.once.filter (fun a => a != R.KEY_TAMP_EN)
    vault := { s1.vault with rs := none, high := [], resKcv := [], adv := [], lost := true, tampered := false }
    flt := { s1.flt with saveOpen := false, dumpId := 0, slotIds := [0, 0] } }

/-- KEEP_ALIVE_STORE_LOSS (R494): VKA and VS are both below 2.2 V, so the module has no supply; KA_VOLT tampers where it is
enabled. -/
def execKeepAliveStoreLoss (s : State) : Host.Outcome State Fault Refusal := done s ((s.tamper 2).powerGone.storeLost)

end Sys2Proof.Machine
end

