-- ==== Sys2Proof/Machine/Burst.lean ====
section
/-! DEFINITION. What DMA channels move: descriptor fetch, bursts beat by beat, completion of a descriptor; edges of trigger
generators (10, R273-R277; 16, R399-R406, R415). -/

namespace Sys2Proof.Machine

/-! ### Beats (R399, R404, R406) -/

/-- Errors an access met: the device address and the error, in order. -/
abbrev Errs := List (Nat × BusErr)

/-- `n` register reads from BAR0 offset `a` by requester DMA, each of which completes or fails on its own (R24, R399). -/
def State.beatRegs (s : State) : Nat → Nat → State × List Byte × Errs
  | 0, _ => (s, [], [])
  | n + 1, a =>
    let r := s.busRead reqDma a
    let t := State.beatRegs r.1 n (a + 4)
    (t.1, leBytes 4 r.2.1.toNat ++ t.2.1, (match r.2.2 with | some e => [(a, e)] | none => []) ++ t.2.2)

/-- Register writes from BAR0 offset `a` by requester DMA. -/
def State.beatWrites (s : State) : List Word → Nat → State × Errs
  | [], _ => (s, [])
  | w :: ws, a =>
    let r := s.busWrite reqDma a 15 w
    let t := State.beatWrites r.1 ws (a + 4)
    (t.1, (match r.2 with | some e => [(a, e)] | none => []) ++ t.2)

/-- A beat is read from device address `a`; not used for host memory. -/
def State.beatRead (s : State) (a n : Nat) : State × List Byte × Errs :=
  match targetOf a with
  | .bar0 o => s.beatRegs (n / 4) o
  | _ =>
    match s.devRead [] a n with
    | (s1, .inl b) => (s1, b, [])
    | (s1, .inr e) => (s1, [], [(a, e)])

/-- A beat is written to device address `a`. -/
def State.beatWrite (s : State) (a : Nat) (b : List Byte) : State × Errs :=
  match targetOf a with
  | .bar0 o => s.beatWrites (toWords b) o
  | _ =>
    match s.devWrite dmaWriter a b with
    | (s1, none) => (s1, [])
    | (s1, some e) => (s1, [(a, e)])

/-- Error responses reach the channel: the first halts it, each is counted (R406). -/
def State.chErrs (s : State) (c : Nat) (write : Bool) (l : Errs) : State :=
  s.each l (fun e t => t.chError c e.2.code write false e.1)

/-- Moves `n` bytes from device address `src` to `dst` in 64-byte beats until one fails; `k` bounds the beats. -/
def State.moveBeats (s : State) (c : Nat) : Nat → Nat → Nat → Nat → State
  | 0, _, _, _ => s
  | k + 1, src, dst, n =>
    if n = 0 then s
    else
      let m := min n 64
      let r := s.beatRead src m
      if !r.2.2.isEmpty then r.1.chErrs c false r.2.2
      else
        let w := r.1.beatWrite dst r.2.1
        if !w.2.isEmpty then w.1.chErrs c true w.2 else State.moveBeats w.1 c k (src + m) (dst + m) (n - m)

/-- Writes bytes to device address `dst` in 64-byte beats until one fails; answers whether all were written. -/
def State.sendBeats (s : State) (c : Nat) : Nat → Nat → List Byte → State × Bool
  | 0, _, _ => (s, true)
  | k + 1, dst, b =>
    if b.isEmpty then (s, true)
    else
      let w := s.beatWrite dst (b.take 64)
      if !w.2.isEmpty then (w.1.chErrs c true w.2, false) else State.sendBeats w.1 c k (dst + 64) (b.drop 64)

/-- Reads `n` bytes from device address `src` in 64-byte beats; none where one fails, and the channel halts. -/
def State.takeBeats (s : State) (c : Nat) : Nat → Nat → Nat → State × Option (List Byte)
  | 0, _, _ => (s, some [])
  | k + 1, src, n =>
    if n = 0 then (s, some [])
    else
      let m := min n 64
      let r := s.beatRead src m
      if !r.2.2.isEmpty then (r.1.chErrs c false r.2.2, none)
      else
        match State.takeBeats r.1 c k (src + m) (n - m) with
        | (t, some b) => (t, some (r.2.1 ++ b))
        | (t, none) => (t, none)

/-- The most beats a burst has. -/
abbrev maxBeats : Nat := 64

/-! ### Queues as source and destination (R415) -/

/-- The words of a burst of `m` words of which `r` are real, read from queue `q` from RD: words at or beyond WR, and those
beyond `r`, are idle words. -/
def State.burstWords (s : State) (q r m : Nat) : List Word :=
  s.qWords q (s.qRd q) (min r (s.qLevel q)) ++ List.replicate (m - min r (s.qLevel q)) idleWord

/-- RD advances by the real words read; fewer than requested is an underrun (R415). -/
def State.burstTaken (s : State) (c q r : Nat) : State :=
  let k := min r (s.qLevel q)
  let s1 := s.qSetRd q ((s.qRd q + k) % 32768)
  if k < r then ((s1.p (R.DMA_CH_STS.UNDERRUN c) 1).ev (R.DMA_CH_EVT.UNDERRUN c)).bump (R.DMA_UNDERRUN_LO c) else s1

/-- Words arrive at IN queue `q` for channel `c`, after `part` words of an entry not yet whole: each entry whose last
word has arrived is committed (R415). -/
def State.burstPut (s : State) (c q part : Nat) (ws : List Word) : State :=
  if !s.qEn q || !s.qIsIn q then s.modChan c (fun k => { k with part := 0 })
  else
    let n := part + ws.length
    let s1 := s.qFill q (s.qWr q + part) ws
    let d := (s1.qWhole q queWords (s1.qWr q) n).2
    (s1.qCommit q (s1.qWr q + d)).modChan c (fun k => { k with part := if k.desc.isSome then n - d else 0 })

/-! ### Bursts (R404) -/

/-- `n` bytes of the descriptor have been issued. -/
def State.issued (s : State) (c n : Nat) (d : Desc) : State :=
  let o := (s.chan c).ofs + n
  (s.modChan c (fun k => { k with ofs := o, timer := none })).p (R.DMA_CH_STS.REM c) (d.len - o)

/-- A burst from a queue: real words and words in all (R415). -/
def State.queueBurst (s : State) (c : Nat) (d : Desc) : Nat × Nat :=
  let m := s.burstLen c d / 4
  match (s.chan c).timer with
  | some r => (min r m, min m ((min r m + 15) / 16 * 16))
  | none => (m, m)

/-- Channel `c` takes the slot of its block and issues a burst of its descriptor. A read of host memory leaves the data
on their way; all else moves at once. RD of a source queue advances when the burst completes (R415), so not where a beat of
it fails. -/
def State.burstGo (s : State) (c : Nat) (d : Desc) : State :=
  let o := (s.chan c).ofs
  let n := s.burstLen c d
  if s.queDown d then s.used.chHalt c dmaQueue d.dq false s.freeNat
  else if d.sq then
    let (r, m) := s.queueBurst c d
    let b := ofWords (s.burstWords d.q r m)
    match (s.issued c (4 * m) d).sendBeats c maxBeats (d.dst + o) b with
    | (s1, true) => s1.burstTaken c d.q r
    | (s1, false) => s1
  else
    match targetOf (d.src + o) with
    | .host h =>
      if !s.tagsFor h n then s
      else
        let t := (s.issued c n d).modChan c (fun k => { k with inflight := some { len := n, dst := d.dst + o, queue := if d.dq then some d.q else none, part := k.part } })
        match t.issueReads (.dma c) h n with
        | (t1, true) => t1
        | (t1, false) => t1.chError c dmaHost false false (d.src + o)
    | _ =>
      let s1 := s.issued c n d
      if d.dq then
        match s1.takeBeats c maxBeats (d.src + o) n with
        | (s2, some b) => s2.burstPut c d.q (s2.chan c).part (toWords b)
        | (s2, none) => s2
      else s1.moveBeats c maxBeats (d.src + o) (d.dst + o) n

/-- The slot of block `b` is granted (R404). -/
def State.burstGrant (s : State) (b : Nat) : State :=
  match s.slotPick b with
  | none => s
  | some c =>
    match (s.chan c).desc with
    | none => s
    | some d => { s with dma := { s.dma with last := s.dma.last.set (fun _ => 31) b (c % 32) } }.burstGo c d

/-- The data of a burst of channel `c` from host memory have arrived: they go to their destination. -/
def State.burstArrive (s : State) (c : Nat) : State :=
  match (s.chan c).inflight with
  | none => s
  | some b =>
    let mine := s.brg.outReads.filter (fun r => r.src == OutSrc.dma c)
    if mine.any (fun r => r.got.isNone) then s
    else
      let data := mine.flatMap (fun r => r.got.getD [])
      let s1 := { s with brg := { s.brg with outReads := s.brg.outReads.filter (fun r => r.src != OutSrc.dma c) } }.modChan c (fun k => { k with inflight := none })
      match b.queue with
      | some q => s1.burstPut c q b.part (toWords data)
      | none => (s1.sendBeats c maxBeats b.dst data).1

/-! ### Descriptors (R401, R402, R405) -/

/-- The descriptor due is fetched: a failed fetch halts the channel, else it is checked (R401, R406). -/
def State.descFetch (s : State) (c : Nat) (m : HostMem) : State :=
  match (s.chan c).fetch with
  | none => s
  | some a =>
    if s.chState c ≠ chActive then s
    else
      match s.devRead m a 32 with
      | (s1, .inl b) => s1.chTake c (descOf a b)
      | (s1, .inr e) => s1.chError c e.code false true a

/-- WB writes CTL with DONE and RESULT (R405). -/
def State.descBack (s : State) (c : Nat) (d : Desc) : State × Option BusErr :=
  if d.wb then s.devWrite dmaWriter (d.addr + 28) (leBytes 4 (d.ctl + 2 ^ 31 + (if s.on (R.DMA_CH_STS.UNDERRUN c) then 2 ^ 28 else 0)))
  else (s, none)

/-- The next descriptor, the trigger again, or the end of the list (R402). -/
def State.descNext (s : State) (c : Nat) (d : Desc) : State :=
  if d.next ≠ 0 then (s.chDrop c).wr64 (R.DMA_CH_CUR_LO c) d.next |>.modChan c (fun k => { k with fetch := some d.next })
  else if s.on (R.DMA_CH_CFG.REARM c) then s.chArm c (s.chList c)
  else (s.chRest c chIdle).p (R.DMA_CH_STS.STOPPED c) 0

/-- A descriptor whose bytes have all been moved completes (R402, R403, R405). -/
def State.descDone (s : State) (c : Nat) : State :=
  match (s.chan c).desc with
  | none => s
  | some d =>
    if s.chState c ≠ chActive ∨ (s.chan c).ofs < d.len ∨ (s.chan c).inflight.isSome then s
    else
      match s.descBack c d with
      | (s1, some e) => s1.chError c e.code true true (d.addr + 28)
      | (s1, none) =>
        let s2 := (if d.irq then s1.ev (R.DMA_CH_EVT.DONE c) else s1).bump (R.DMA_DONE_LO c)
        (if d.chain then s2.chTrigger d.chn else s2).descNext c d

/-! ### Meanings -/

/-- DESCRIPTOR_FETCH (R401): `host` holds the bytes of host memory that a fetch from there returns. -/
def execDescriptorFetch (ch : Nat) (host : List (Nat × BitVec 8)) (s : State) : Host.Outcome State Fault Refusal :=
  done s (s.descFetch (ch % 256) host)

/-- BURST_GRANT (R404). -/
def execBurstGrant (block : Nat) (s : State) : Host.Outcome State Fault Refusal := done s (s.burstGrant (block % 8))

/-- DESCRIPTOR_COMPLETE (R405). -/
def execDescriptorComplete (ch : Nat) (s : State) : Host.Outcome State Fault Refusal := done s (s.descDone (ch % 256))

/-- An edge of generator `g` is due (R273, R276): made, it reaches recorder rings (R435) and DMA channels (R402). -/
def State.tgEdge (s : State) (g : Nat) : State :=
  match s.genEdge g with
  | (s1, false) => s1
  | (s1, true) =>
    (s1.each ((List.range 64).filter (fun r => s1.g (R.MEM_RING_TRIG.TGSEL r) == g)) (fun r t => t.ringTrigger r 3)).dmaEdge g

/-- TG_EDGE (R273). -/
def execTgEdge (g : Nat) (s : State) : Host.Outcome State Fault Refusal := done s (s.tgEdge (g % 32))

end Sys2Proof.Machine
end

