-- ==== Sys2Proof/Machine/Port.lean ====
section
/-! DEFINITION. The commands that are register accesses (2, R23, R34-R43, R51, R59), and those of other chapters that
are a write of one register. -/

namespace Sys2Proof.Machine

/-- Place of a word in its multiword value, and how many words that has; (0, 0) where the offset is unmapped. -/
def mwPlace (a : Nat) : Nat × Nat := match rowOf a with | some r => (r.mwIdx, r.mwLen) | none => (0, 0)

/-- REGISTER_WRITE (R23): a write by requester `req` of the register at BAR0 offset `addr`, byte enables `be`. -/
def execRegisterWrite (req addr be : Nat) (val : Word) (s : State) : Host.Outcome State Fault Refusal :=
  done s (s.portWrite req addr be val)

/-- UNMAPPED_ACCESS (R34). -/
def execUnmappedAccess (req addr be : Nat) (wr : Bool) (s : State) : Host.Outcome State Fault Refusal :=
  done s (if (rowOf addr).isSome then s else if wr then s.portWrite req addr be 0 else s.portReadBe req addr be)

/-- UNLOCK_WRITE (R41). -/
def execUnlockWrite (req : Nat) (val : Word) (s : State) : Host.Outcome State Fault Refusal :=
  done s (s.portWrite req R.GLB_UNLOCK 15 val)

/-- UNLOCK_EXPIRY (R43). -/
def execUnlockExpiry (req : Nat) (s : State) : Host.Outcome State Fault Refusal :=
  done s (if (s.rq req).armed then s.setArmed req false else s)

/-- LO_WORD_READ (R38, R47): a read by requester `req` of the register at BAR0 offset `addr`. -/
def execLoWordRead (req addr : Nat) (s : State) : Host.Outcome State Fault Refusal := done s (s.portRead req addr)

/-- HOLDING_WORD_WRITE (R39): a write of a _LO or intermediate word. -/
def execHoldingWordWrite (req addr : Nat) (val : Word) (s : State) : Host.Outcome State Fault Refusal :=
  done s (if (mwPlace addr).1 + 1 < (mwPlace addr).2 then s.portWrite req addr 15 val else s)

/-- HI_WORD_COMMIT (R39): a write of a _HI word. -/
def execHiWordCommit (req addr : Nat) (val : Word) (s : State) : Host.Outcome State Fault Refusal :=
  done s (if 1 < (mwPlace addr).2 ∧ (mwPlace addr).1 + 1 = (mwPlace addr).2 then s.portWrite req addr 15 val else s)

/-- DMA_MULTIWORD_WRITE (R40). -/
def execDmaMultiwordWrite (addr : Nat) (val : Word) (s : State) : Host.Outcome State Fault Refusal :=
  done s (if 1 < (mwPlace addr).2 then s.portWrite reqDma addr 15 val else s)

/-- COUNTER_CLEAR (R51): a write of GLB_CTR_CLR. -/
def execCounterClear (req blk : Nat) (s : State) : Host.Outcome State Fault Refusal := done s (s.rowWrite req R.GLB_CTR_CLR (W (blk % 32)))

/-- SOFT_RESET (R59): a write of GLB_SRST. -/
def execSoftReset (req blk : Nat) (s : State) : Host.Outcome State Fault Refusal := done s (s.rowWrite req R.GLB_SRST (W (blk % 32)))

/-- RELOAD (R76): a write of CFG_CMD. -/
def execCfgReload (req : Nat) (s : State) : Host.Outcome State Fault Refusal := done s (s.rowWrite req R.CFG_CMD 1)

/-- FLOOR_RAISE (R73): a write of CFG_FLOOR. -/
def execFloorRaise (req epoch : Nat) (s : State) : Host.Outcome State Fault Refusal :=
  done s (s.rowWrite req R.CFG_FLOOR (withField (s.peek req R.CFG_FLOOR) 0 8 epoch))

/-- The fuses of the configuration epoch are blown (R73). -/
def State.cfgFloorDone (s : State) : State :=
  match s.loader.fusing with
  | none => s
  | some e => (({ s with vault := { s.vault with cfgEpoch := e } }.modLoader (fun l => { l with fusing := none })).p
      R.CFG_FLOOR.FUSING 0).ev R.CFG_EVT.FLOOR_DONE

/-- FLOOR_DONE (R73). -/
def execFloorDone (s : State) : Host.Outcome State Fault Refusal := done s s.cfgFloorDone

/-- FW_FLOOR_RAISE (R478): a write of MGT_FLOOR. -/
def execFwFloorRaise (req epoch : Nat) (s : State) : Host.Outcome State Fault Refusal :=
  done s (s.rowWrite req R.MGT_FLOOR (withField (s.peek req R.MGT_FLOOR) 0 8 epoch))

/-- JIG_ENTRY_COMMIT (R247): a write of GW_JIG_HI. -/
def execJigEntryCommit (req entry : Nat) (val : Word) (s : State) : Host.Outcome State Fault Refusal :=
  done s (s.rowWrite req (R.GW_JIG_HI (entry % 4096)) val)

/-- TB_INC_COMMIT (R258): a write of TB_INC_HI. -/
def execTbIncCommit (req t : Nat) (val : Word) (s : State) : Host.Outcome State Fault Refusal :=
  done s (s.rowWrite req (R.TB_INC_HI (t % 4)) val)

/-- LOAD_MODE_WRITE (R339): a write of PWR_LD_CTL. -/
def execLoadModeWrite (req ch : Nat) (val : Word) (s : State) : Host.Outcome State Fault Refusal :=
  done s (s.rowWrite req (R.PWR_LD_CTL (ch % 24)) val)

/-- CLR_LOCK (R346): a write of PWR_LD_CMD, with OP 1. -/
def execLdClrLock (req : Nat) (val : Word) (s : State) : Host.Outcome State Fault Refusal :=
  done s (s.rowWrite req R.PWR_LD_CMD (withField val 8 2 1))

/-- ADC_NOW (R355): a write of PWR_LD_CMD, with OP 2. -/
def execLdAdcNow (req : Nat) (val : Word) (s : State) : Host.Outcome State Fault Refusal :=
  done s (s.rowWrite req R.PWR_LD_CMD (withField val 8 2 2))

/-- ALL_OFF (R349): a write of PWR_LD_CMD, with OP 3. -/
def execLdAllOff (req : Nat) (val : Word) (s : State) : Host.Outcome State Fault Refusal :=
  done s (s.rowWrite req R.PWR_LD_CMD (withField val 8 2 3))

/-- TRX_MODE_WRITE (R360): a write of PWR_TRX_CFG. -/
def execTrxModeWrite (req c : Nat) (val : Word) (s : State) : Host.Outcome State Fault Refusal :=
  done s (s.rowWrite req (R.PWR_TRX_CFG (c % 16)) val)

/-- PREPARE (R366): a write of PWR_SLP_CMD. -/
def execSlpPrepare (req : Nat) (s : State) : Host.Outcome State Fault Refusal := done s (s.rowWrite req R.PWR_SLP_CMD 1)

/-- COMMIT (R369): a write of PWR_SLP_CMD. -/
def execSlpCommit (req : Nat) (s : State) : Host.Outcome State Fault Refusal := done s (s.rowWrite req R.PWR_SLP_CMD 2)

/-- SLEEP_ABORT (R368): a write of PWR_SLP_CMD. -/
def execSleepAbort (req : Nat) (s : State) : Host.Outcome State Fault Refusal := done s (s.rowWrite req R.PWR_SLP_CMD 3)

end Sys2Proof.Machine
end

