-- ==== Sys2Proof/Machine/Bridge.lean ====
section
/-! DEFINITION. The host bridge's commands: inbound requests to BAR0 and BAR2, AtomicOps, configuration space, outbound
requests, attach and detach; PWR accesses over the Tenon link and what they belong to (1, R11, R12; 15, R376-R397). -/

namespace Sys2Proof.Machine

/-! ### The companion's share (R419-R421) -/

/-- Changes the companion port beyond its registers. -/
def State.modCqp (s : State) (f : Cqp → Cqp) : State := { s with cqp := f s.cqp }

/-- Outcomes of a transaction (R419). -/
abbrev cqpOk : Nat := 0
abbrev cqpErr : Nat := 1
abbrev cqpRefused : Nat := 2
abbrev cqpPartial : Nat := 3
abbrev cqpDrop : Nat := 4

/-- An access of the companion at BAR0 offset `a` fails in the transaction in progress (R419). -/
def State.cqpFail (s : State) (a : Nat) : State :=
  s.modCqp (fun c => { c with outcome := cqpErr, failAddr := some (c.failAddr.getD a) })

/-- A pending access of the last transaction fails (R419): its outcome is an error after all. -/
def State.cqpFailPast (s : State) (a : Nat) : State :=
  if s.g R.CQP_STS.LAST = cqpErr then s else ((s.p R.CQP_STS.LAST cqpErr).wr R.CQP_FAIL_ADDR (W a)).bump R.CQP_ERR_LO

/-- The device shifts out the marker and the data, or 0x5A (R421). -/
def State.cqpData (s : State) (ws : List Word) : State :=
  if s.cqp.sel then s.modCqp (fun c => { c with out := c.out ++ 0xA5 :: ofWords ws }) else s
def State.cqpNoData (s : State) : State := if s.cqp.sel then s.modCqp (fun c => { c with out := c.out ++ [0x5A] }) else s

/-! ### Reads of several words that may need the power die (R11, R380, R421) -/

/-- Byte enables of DWORD `k` of `n`: those of the first and of the last are given. -/
def dwordBe (beFirst beLast n k : Nat) : Nat := if k = 0 then beFirst % 16 else if k + 1 = n then beLast % 16 else 15

/-- The requester of a read. -/
def readReq (src : PwrSrc) : Nat := match src with | .cqp => reqCqp | _ => reqHost

/-- A read ends with an error response at BAR0 offset `a` (R35, R381, R421). -/
def State.readAbort (s : State) (src : PwrSrc) (a : Nat) : State :=
  match src with
  | .inRead rid tag => ((s.sendTlps [.cplAbort rid tag]).bump R.BRG_RD_CA_LO).ev R.BRG_EVT.RD_CA
  | .cqp => (s.cqpFail a).cqpNoData
  | _ => s

/-- A read ends with its data. -/
def State.readData (s : State) (src : PwrSrc) (ws : List Word) : State :=
  match src with
  | .inRead rid tag => s.sendTlps [.cplData rid tag ws false]
  | .cqp => s.cqpData ws
  | _ => s

/-- The words of a read, one after another; one of the power die puts the rest off until it completes. `k` bounds them. -/
def State.readRun (s : State) : Nat → InRead → State
  | 0, r => s.readData r.src r.got
  | k + 1, r =>
    if r.left = 0 then s.readData r.src r.got
    else if regionOf r.addr = 12 ∧ (rowOf r.addr).isSome then
      { s with brg := { s.brg with inReads := s.brg.inReads ++ [r] } }.tenonSend
        { req := readReq r.src, wr := false, addr := r.addr, be := 15, val := 0, granted := false, src := r.src }
    else
      match s.busReadBe (readReq r.src) r.addr (dwordBe r.beFirst r.beLast (r.got.length + r.left) r.got.length) with
      | (s1, _, some _) => s1.readAbort r.src r.addr
      | (s1, w, none) => State.readRun s1 k { r with addr := r.addr + 4, left := r.left - 1, got := r.got ++ [w] }

/-- The read that waits for the power die on behalf of `src` goes on with what became of its word. -/
def State.readOn (s : State) (src : PwrSrc) (w : Option Word) : State :=
  match s.brg.inReads.find? (fun r => r.src == src) with
  | none => s
  | some r =>
    let s1 := { s with brg := { s.brg with inReads := s.brg.inReads.filter (fun x => x.src != src) } }
    match w with
    | none => s1.readAbort src r.addr
    | some v => State.readRun s1 r.left { r with addr := r.addr + 4, left := r.left - 1, got := r.got ++ [v] }

/-- Nobody waits any more for the PWR accesses of `src`: what they read is discarded (R381). -/
def State.readForget (s : State) (src : PwrSrc) : State :=
  { s with brg := { s.brg with inReads := s.brg.inReads.filter (fun x => x.src != src) },
           tenon := { s.tenon with acc := s.tenon.acc.map (fun (x : PwrAcc) => if x.src == src then { x with src := .gone } else x) } }

/-- PWR_ACCESS_COMPLETE (R11): what the oldest PWR access belongs to goes on. -/
def State.pwrComplete (s : State) : State :=
  match s.tenonDone with
  | none => s
  | some (s1, x, w) =>
    match x.src with
    | .port => s1.respond x.req false w
    | .core ofs n hi => s1.coreMerge x.req hi (some (if x.wr then 0 else wordPart w ofs n))
    | .inRead _ _ => s1.readOn x.src (some w)
    | .cqp => if x.wr then s1 else s1.readOn .cqp (some w)
    | _ => s1

/-- TENON_TIMEOUT (R12): the oldest PWR access ends with an error response. -/
def State.pwrTimeout (s : State) : State :=
  match s.tenonGone with
  | none => s
  | some (s1, x) =>
    match x.src with
    | .port => if x.wr then s1.answerWrite x.req x.addr x.be (some .tenon) else s1.respond x.req true 0xFFFFFFFF
    | .core _ _ hi => s1.coreMerge x.req hi none
    | .inWrite rid => s1.lateFail rid 0 x.addr x.be lfTenon
    | .inRead _ _ => s1.readOn x.src none
    | .cqp => if x.wr then s1.cqpFail x.addr else s1.readOn .cqp none
    | .cqpPast => s1.cqpFailPast x.addr
    | .gone => s1

/-- PWR_ACCESS_COMPLETE (R11). -/
def execPwrAccessComplete (s : State) : Host.Outcome State Fault Refusal := done s s.pwrComplete
/-- TENON_TIMEOUT (R12). -/
def execTenonTimeout (s : State) : Host.Outcome State Fault Refusal := done s s.pwrTimeout

/-! ### Requests the bridge does not serve (R382) -/

/-- An Unsupported Request; `np` where the request has a completion. -/
def State.urReply (s : State) (rid tag : Nat) (np : Bool) : State :=
  let s1 := ((s.bump R.BRG_UR_LO).ev R.BRG_EVT.UR).aer .unsupported
  if np then s1.sendTlps [.cplUr rid tag] else s1

/-- A write TLP with EP set: discarded whole, one late-failure entry (R382, R383). -/
def State.poisonedWrite (s : State) (rid bar off be : Nat) : State :=
  (((s.lateFail rid bar off be lfPoison).aer .poisoned).bump R.BRG_POISON_RX_LO).ev R.BRG_EVT.POISON

/-- UNSUPPORTED_REQUEST (R382): `kind` 0 a posted and 1 a non-posted request that is not served, 2 a malformed TLP, 3 a
receiver overflow. -/
def execUnsupportedRequest (rid tag kind : Nat) (s : State) : Host.Outcome State Fault Refusal :=
  done s (if !s.on R.BRG_LINK.UP then s
    else match kind % 4 with
      | 0 => s.urReply rid tag false
      | 1 => s.urReply rid tag true
      | 2 => (s.aer .malformed).sendTlps [.fatalMsg]
      | _ => (s.aer .overflow).sendTlps [.fatalMsg])

/-! ### BAR0 (R378, R380, R381) -/

/-- One DWORD of an inbound write (R378): its failure is a late one (R383). -/
def State.inDword (s : State) (rid a be : Nat) (w : Word) : State :=
  match s.sendWrite (.inWrite rid) reqHost a be w with
  | (s1, none) => s1
  | (s1, some e) => s1.lateFail rid 0 a be e.late

/-- An inbound BAR0 memory write at offset `off` (R378, R382). -/
def State.inWrite (s : State) (rid off beFirst beLast : Nat) (ep : Bool) (data : List Word) : State :=
  let a := off % 2 ^ 26 / 4 * 4
  if !s.on R.BRG_LINK.UP then s
  else if !s.on R.BRG_LINK.MSE then s.urReply rid 0 false
  else if ep then s.poisonedWrite rid 0 a (beFirst % 16)
  else (s.bump R.BRG_IN_WR_LO).each data.zipIdx (fun p t => t.inDword rid (a + 4 * p.2) (dwordBe beFirst beLast data.length p.2) p.1)

/-- INBOUND_WRITE (R378). -/
def execInboundWrite (rid off beFirst beLast : Nat) (ep : Bool) (data : List Word) (s : State) : Host.Outcome State Fault Refusal :=
  done s (s.inWrite rid off beFirst beLast ep data)

/-- An inbound BAR0 read of `n` DWORDs at offset `off` (R380, R381). -/
def State.inRead (s : State) (rid tag off n beFirst beLast : Nat) : State :=
  if !s.on R.BRG_LINK.UP then s
  else if !s.on R.BRG_LINK.MSE then s.urReply rid tag true
  else State.readRun (s.bump R.BRG_IN_RD_LO) n { src := .inRead rid tag, addr := off % 2 ^ 26 / 4 * 4, left := n, got := [], beFirst := beFirst, beLast := beLast }

/-- INBOUND_READ (R380). -/
def execInboundRead (rid tag off n : Nat) (s : State) (beFirst : Nat := 15) (beLast : Nat := 15) : Host.Outcome State Fault Refusal :=
  done s (s.inRead rid tag off n beFirst beLast)

/-- RD_TMO (R381): a read that still waits is answered; its data will be discarded. -/
def State.readTimeout (s : State) (rid tag : Nat) : State :=
  if s.brg.inReads.any (fun r => r.src == PwrSrc.inRead rid tag) then
    (((s.readForget (.inRead rid tag)).sendTlps [.cplAbort rid tag]).bump R.BRG_RD_TMO_LO).ev R.BRG_EVT.RD_TMO
  else s

/-- RD_TMO (R381). -/
def execBrgRdTmo (rid tag : Nat) (s : State) : Host.Outcome State Fault Refusal := done s (s.readTimeout rid tag)

/-! ### BAR2 (R379, R382) -/

/-- DRAM offset of BAR2 offset `off`. -/
def State.bar2At (s : State) (off : Nat) : Nat := s.g R.BRG_WIN.BASE_MIB * 1048576 + off % 2 ^ 28

/-- The bytes of a BAR2 write: offset in the BAR, value, enabled. -/
def bar2Bytes (off beFirst beLast : Nat) (data : List Word) : List (Nat × Byte × Bool) :=
  data.zipIdx.flatMap (fun p => (leBytes 4 p.1.toNat).zipIdx.map (fun q =>
    (off + 4 * p.2 + q.2, q.1, bit (dwordBe beFirst beLast data.length p.2) q.2)))

/-- The enabled bytes from the first to the last, those between being written as they stand where they are not enabled. -/
def State.bar2Line (s : State) (l : List (Nat × Byte × Bool)) : Option (Nat × List Byte × Bool) :=
  let mid := ((l.dropWhile (fun x => !x.2.2)).reverse.dropWhile (fun x => !x.2.2)).reverse
  match mid with
  | [] => none
  | x :: _ => some (x.1, mid.map (fun y => if y.2.2 then y.2.1 else s.dramByte (s.bar2At y.1)), mid.all (fun y => y.2.2))

/-- A BAR2 write acts on one 64-byte line in one step; a refused one is a late failure (R379, R383). -/
def State.bar2Put (s : State) (rid off be : Nat) (l : List (Nat × Byte × Bool)) : State :=
  match s.bar2Line l with
  | none => s
  | some (o, bs, whole) =>
    let a := s.bar2At o
    let r := if !whole && (linesOf a bs.length).any s.poisoned then (s, false) else s.dramWrite a bs
    if r.2 then r.1 else r.1.lateFail rid 1 off be lfMem

/-- The lines that `n` bytes at BAR2 offset `off` touch: first offset in the line, number of bytes; `k` bounds them. -/
def bar2Lines : Nat → Nat → Nat → List (Nat × Nat)
  | 0, _, _ => []
  | k + 1, off, n => if n = 0 then [] else let m := min n (64 - off % 64); (off, m) :: bar2Lines k (off + m) (n - m)

/-- A BAR2 memory write. -/
def State.bar2Write (s : State) (rid off beFirst beLast : Nat) (ep : Bool) (data : List Word) : State :=
  let o := off % 2 ^ 28 / 4 * 4
  if ep then s.poisonedWrite rid 1 o (beFirst % 16)
  else
    let bytes := bar2Bytes o beFirst beLast data
    (s.bump R.BRG_IN_WR_LO).each (bar2Lines (data.length + 1) o (4 * data.length)) (fun p t =>
      t.bar2Put rid p.1 (dwordBe beFirst beLast data.length ((p.1 - o) / 4)) ((bytes.drop (p.1 - o)).take p.2))

/-- A BAR2 memory read: one completion for each line, with EP for a poisoned one; beyond the capacity Completer Abort. -/
def State.bar2Read (s : State) (rid tag : Nat) : List (Nat × Nat) → State
  | [] => s
  | p :: rest =>
    let a := s.bar2At p.1
    if beyond a p.2 then ((s.sendTlps [.cplAbort rid tag]).bump R.BRG_RD_CA_LO).ev R.BRG_EVT.RD_CA
    else
      let bad := (linesOf a p.2).any s.poisoned
      let s1 := s.sendTlps [.cplData rid tag (toWords (s.dramBytes a p.2)) bad]
      State.bar2Read (if bad then (s1.bump R.BRG_POISON_TX_LO).ev R.BRG_EVT.POISON else s1) rid tag rest

/-- BAR2_ACCESS (R379): a write of `data`, or a read of `n` DWORDs. -/
def execBar2Access (rid tag : Nat) (wr : Bool) (off beFirst beLast n : Nat) (ep : Bool) (data : List Word) (s : State) :
    Host.Outcome State Fault Refusal :=
  done s (if !s.on R.BRG_LINK.UP then s
    else if !s.on R.BRG_LINK.MSE then s.urReply rid tag !wr
    else if wr then s.bar2Write rid off beFirst beLast ep data
    else (s.bump R.BRG_IN_RD_LO).bar2Read rid tag (bar2Lines (n + 1) (off % 2 ^ 28 / 4 * 4) (4 * n)))

/-! ### AtomicOps (R388, R389) -/

/-- What an AtomicOp writes over the value `x` of `n` bytes: FetchAdd (0), Swap (1), CAS (2) with comparand `a`. -/
def atomicNew (op n x a b : Nat) : Nat :=
  (if op = 0 then x + a else if op = 1 then a else if x = a % 256 ^ n then b else x) % 256 ^ n

/-- The original value goes back to the host (R389). -/
def State.atomicReply (s : State) (rid tag n x : Nat) : State :=
  (s.bump R.BRG_ATOMIC_LO).sendTlps [.cplData rid tag (toWords (leBytes n x)) false]

/-- An AtomicOp on BAR2: an error response, and nothing is written, completes with Completer Abort. -/
def State.atomicDram (s : State) (rid tag off op n a b : Nat) : State :=
  let d := s.bar2At off
  match s.dramRead d n with
  | none => s.sendTlps [.cplAbort rid tag]
  | some bs =>
    match s.dramWrite d (leBytes n (atomicNew op n (leNat bs) a b)) with
    | (s1, true) => s1.atomicReply rid tag n (leNat bs)
    | (s1, false) => s1.sendTlps [.cplAbort rid tag]

/-- An AtomicOp on BRG_SEM; before commit its write is refused as any (R57). -/
def State.atomicSem (s : State) (rid tag k op a b : Nat) : State :=
  let addr := R.BRG_SEM k
  if s.loadRefused reqHost addr then (s.logAccess reqHost addr 15 true .load).sendTlps [.cplAbort rid tag]
  else
    let x := (s.rd addr).toNat
    (s.wr addr (W (atomicNew op 4 x a b))).atomicReply rid tag 4 x

/-- ATOMIC_OP (R389): on `bar` 0 or 2 at offset `off`, `op` 0 FetchAdd, 1 Swap, 2 CAS, `size` bytes. -/
def execAtomicOp (rid tag bar off op size a b : Nat) (s : State) : Host.Outcome State Fault Refusal :=
  done s (if !s.on R.BRG_LINK.UP then s
    else if !s.on R.BRG_LINK.MSE ∨ 2 < op then s.urReply rid tag true
    else if bar = 2 ∧ (size = 4 ∨ size = 8) ∧ off % size = 0 then s.atomicDram rid tag off op size a b
    else if bar = 0 ∧ size = 4 ∧ off % 4 = 0 ∧ R.BRG_SEM 0 ≤ off ∧ off < R.BRG_SEM 16 then
      s.atomicSem rid tag ((off - R.BRG_SEM 0) / 4) op a b
    else s.urReply rid tag true)

/-! ### Configuration space (R376, R377, R385; log 44) -/

/-- A word of configuration space; one whose content the spec does not give reads as it happens to (log 3, log 44). -/
def State.cfgWord (s : State) (reg : Nat) : State × Word :=
  let b := fun (l : Loc) (n : Nat) => if s.on l then 2 ^ n else 0
  let lg := fun (n : Nat) => Nat.log2 (n / 128)
  let f := s.freeNat
  if reg = 0 then (s, 0x9256D7E5)
  else if reg = 1 then (s.used, W (b R.BRG_LINK.MSE 1 + b R.BRG_LINK.BME 2 + f % 65536 * 65536))
  else if reg = 2 then (s.used, W (0x028000 * 256 + f % 256))
  else if reg = 4 then (s, W (s.brg.bar0 % 2 ^ 32 + 4))
  else if reg = 5 then (s, W (s.brg.bar0 / 2 ^ 32))
  else if reg = 6 then (s, W (s.brg.bar2 % 2 ^ 32 + 12))
  else if reg = 7 then (s, W (s.brg.bar2 / 2 ^ 32))
  else if reg = 8 ∨ reg = 9 ∨ reg = 12 then (s, 0)
  else if reg = 11 then (s, Config.subsystemIds)
  else if reg = Config.pcieCap + 2 then (s.used, W (lg s.brg.mps * 32 + lg s.brg.mrrs * 4096 + f % 65536 * 65536))
  else if reg = Config.msixCap then (s.used, W (17 + f % 256 * 256 + 63 * 65536 + b R.BRG_LINK.FMASK 30 + b R.BRG_LINK.MSIX_EN 31))
  else if reg = Config.msixCap + 1 then (s, 0x2010000)
  else if reg = Config.msixCap + 2 then (s, 0x2011000)
  else (s.used, W f)

/-- The word that byte enables `be` make of `old` and `new`. -/
def merge (be : Nat) (old new : Nat) : Nat :=
  leNat ((leBytes 4 old).zipIdx.map (fun p => if bit be p.2 then (leBytes 4 new).getD p.2 0 else p.1))

/-- MSI-X Enable, Function Mask and Bus Master Enable take new values (R385, R394): vectors no longer masked are sent, and
once messages can be sent again every summary bit still set sends its vector. -/
def State.msixControl (s : State) (en mask bme : Bool) : State :=
  let was := s.on R.BRG_LINK.MSIX_EN && s.on R.BRG_LINK.BME
  let s1 := ((s.pb R.BRG_LINK.MSIX_EN en).pb R.BRG_LINK.FMASK mask).pb R.BRG_LINK.BME bme
  let s2 := if !was && en && bme then s1.each (bitsOf 19 (s1.passed 0)) (fun v t => t.msixRaise v) else s1
  s2.each vectors (fun v t => t.msixUnmask v)

/-- A write of a word of configuration space. -/
def State.cfgSpaceWrite (s : State) (reg be : Nat) (val : Word) : State :=
  let m := fun (old : Nat) => merge be old val.toNat
  let en := s.on R.BRG_LINK.MSIX_EN
  let mask := s.on R.BRG_LINK.FMASK
  let bme := s.on R.BRG_LINK.BME
  if reg = 1 then
    let c := m ((if s.on R.BRG_LINK.MSE then 2 else 0) + (if bme then 4 else 0))
    (s.pb R.BRG_LINK.MSE (bit c 1)).msixControl en mask (bit c 2)
  else if reg = 4 then { s with brg := { s.brg with bar0 := s.brg.bar0 / 2 ^ 32 * 2 ^ 32 + m (s.brg.bar0 % 2 ^ 32) / 2 ^ 26 * 2 ^ 26 } }
  else if reg = 5 then { s with brg := { s.brg with bar0 := s.brg.bar0 % 2 ^ 32 + m (s.brg.bar0 / 2 ^ 32) * 2 ^ 32 } }
  else if reg = 6 then { s with brg := { s.brg with bar2 := s.brg.bar2 / 2 ^ 32 * 2 ^ 32 + m (s.brg.bar2 % 2 ^ 32) / 2 ^ 28 * 2 ^ 28 } }
  else if reg = 7 then { s with brg := { s.brg with bar2 := s.brg.bar2 % 2 ^ 32 + m (s.brg.bar2 / 2 ^ 32) * 2 ^ 32 } }
  else if reg = Config.pcieCap + 2 then
    let c := m (Nat.log2 (s.brg.mps / 128) * 32 + Nat.log2 (s.brg.mrrs / 128) * 4096)
    { s with brg := { s.brg with mps := min 512 (128 * 2 ^ (c / 32 % 8)), mrrs := min 4096 (128 * 2 ^ (c / 4096 % 8)) } }
  else if reg = Config.msixCap then
    let c := m ((if mask then 2 ^ 30 else 0) + (if en then 2 ^ 31 else 0))
    s.msixControl (bit c 31) (bit c 30) bme
  else s

/-- CONFIGURATION_REQUEST (R377): of word `reg`; `ready`, the bridge has become ready. -/
def execConfigurationRequest (rid tag : Nat) (wr : Bool) (reg be : Nat) (val : Word) (ready : Bool) (s : State) :
    Host.Outcome State Fault Refusal :=
  done s (if !s.on R.BRG_LINK.UP then s
    else if !s.brg.ready && !ready then s.sendTlps [.cplRetry rid tag]
    else
      let t := { s with brg := { s.brg with ready := true } }
      if wr then (t.cfgSpaceWrite (reg % 1024) be val).sendTlps [.cplOk rid tag]
      else
        let r := t.cfgWord (reg % 1024)
        r.1.sendTlps [.cplData rid tag [r.2] false])

/-! ### The link (R377, R393, R394) -/

/-- PCIE_LINK_TRAINED (R377): `width` lanes at SPEED `speed`. -/
def execPcieLinkTrained (width speed : Nat) (s : State) : Host.Outcome State Fault Refusal :=
  done s (if s.brg.training then s.attach width speed else s)
/-- ATTACH (R393). -/
def execBrgAttach (width speed : Nat) (s : State) : Host.Outcome State Fault Refusal :=
  done s (if s.coreUp && s.loader.pllLocked then s.attach width speed else s)
/-- DETACH (R394). -/
def execBrgDetach (s : State) : Host.Outcome State Fault Refusal :=
  done s (if s.on R.BRG_LINK.UP then s.detach.softDetached else s)

/-! ### Outbound requests (R390) -/

/-- OUTBOUND_WRITE (R390): the device writes `data` at host address `addr`. -/
def execOutboundWrite (addr : Nat) (data : List (BitVec 8)) (s : State) : Host.Outcome State Fault Refusal :=
  done s (s.hostWrite (addr % 2 ^ 63) data).1

/-- OUTBOUND_READ (R390): `n` bytes at host address `addr`, once there are tags for them. -/
def execOutboundRead (addr n : Nat) (s : State) : Host.Outcome State Fault Refusal :=
  done s (if s.tagsFor (addr % 2 ^ 63) n then (s.issueReads .other (addr % 2 ^ 63) n).1 else s)

/-- The completion of the outbound read `r` has brought its data. -/
def State.readArrives (s : State) (r : OutRead) (data : List Byte) : State :=
  match r.src with
  | .other | .dmaPast _ => { s with brg := { s.brg with outReads := s.brg.outReads.filter (fun x => x.tag != r.tag) } }
  | .dma c =>
    let reads := s.brg.outReads.map (fun (x : OutRead) => if x.tag = r.tag then { x with got := some (slice data 0 x.len) } else x)
    { s with brg := { s.brg with outReads := reads } }.burstArrive c

/-- A completion arrives (R390): `status` 0 successful, 1 Unsupported Request, 2 Completer Abort, 3 with EP set, which
is a poisoned TLP received (R396). -/
def State.completion (s : State) (tag status : Nat) (data : List Byte) : State :=
  if !s.on R.BRG_LINK.UP then s
  else
    match s.brg.outReads.find? (fun r => r.tag == tag && r.got.isNone) with
    | none => s.aer .unexpectedCompletion
    | some r =>
      if status = 0 then s.readArrives r data
      else if status = 3 then ((s.ev R.BRG_EVT.POISON).aer .poisoned).readFails r
      else s.readFails r

/-- OUTBOUND_COMPLETION (R390). -/
def execOutboundCompletion (tag status : Nat) (data : List (BitVec 8)) (s : State) : Host.Outcome State Fault Refusal :=
  done s (s.completion tag status data)

/-- CPL_TMO (R390). -/
def execBrgCplTmo (tag : Nat) (s : State) : Host.Outcome State Fault Refusal :=
  done s (match s.brg.outReads.find? (fun r => r.tag == tag && r.got.isNone) with
    | none => s
    | some r => (((s.bump R.BRG_CPL_TMO_LO).ev R.BRG_EVT.CPL_TMO).aer .completionTimeout).readFails r)

end Sys2Proof.Machine
end

