-- ==== Sys2Proof/Machine/Cqp.lean ====
section
/-! DEFINITION. The companion port: transactions, their commands and outcomes, inactivity (16, R418-R422). -/

namespace Sys2Proof.Machine

/-- A transaction is in progress that has not taken its command, on an enabled port. -/
def State.cqpOpen (s : State) : Bool := s.cqp.sel && !s.cqp.cmd && s.on R.CQP_CFG.EN

/-- The command of the transaction is taken and has its effect. -/
def State.cqpDo (s : State) (f : State → State) : State := if s.cqpOpen then f (s.modCqp (fun c => { c with cmd := true })) else s

/-- The command is refused (R420). -/
def State.cqpRefuse (s : State) : State := s.modCqp (fun c => { c with outcome := cqpRefused })

/-- A refused command with an output phase shifts out 0x5A (R421). -/
def State.cqpRefuseRead (s : State) : State := s.cqpRefuse.cqpNoData

/-- Queues of the companion (R420). -/
def cqpQueue (q : Nat) : Bool := decide (48 ≤ q) && decide (q ≤ 55)

/-- CQ_CS_N falls (R418, R419, R422): the status byte is shifted out, QUAD is sampled, the port is active. -/
def State.cqpStart (s : State) : State :=
  if s.cqp.sel || !s.loader.pllLocked || !s.on R.CQP_CFG.EN then s
  else { s with cqp := { sel := true, quad := s.on R.CQP_CFG.QUAD, out := [B8 s.cqpStatus] } }

/-- One word of WR32 (R420). -/
def State.cqpWord (s : State) (a : Nat) (w : Word) : State :=
  match s.sendWrite .cqp reqCqp a 15 w with
  | (s1, none) => s1
  | (s1, some _) => s1.cqpFail a

/-- WR32: consecutive registers from offset `a`. -/
def State.cqpWrite (s : State) (a : Nat) (ws : List Word) : State := s.each ws.zipIdx (fun p t => t.cqpWord (a + 4 * p.2) p.1)

/-- RD32: `n` registers from offset `a`, 1-64. -/
def State.cqpRead (s : State) (a n : Nat) : State :=
  if n = 0 ∨ 64 < n then s.cqpRefuseRead else State.readRun s n { src := .cqp, addr := a, left := n, got := [] }

/-- The words that QTAKE and QPEEK shift out: idle words at and beyond WR (R420). -/
def State.cqpWords (s : State) (q n : Nat) : List Word :=
  let k := min n (s.qLevel q)
  s.qWords q (s.qRd q) k ++ List.replicate (n - k) idleWord

/-- QTAKE and QPEEK of `n` words of queue `q`. -/
def State.cqpTake (s : State) (q n : Nat) (peek : Bool) : State :=
  if !cqpQueue q || s.qIsIn q then s.cqpRefuseRead
  else (s.cqpData (s.cqpWords q (n % 65536))).modCqp (fun c => { c with take := if peek then none else some (q, n % 65536) })

/-- QPUT of words into queue `q`: they act when CQ_CS_N rises. -/
def State.cqpPut (s : State) (q : Nat) (ws : List Word) : State :=
  if !cqpQueue q || !s.qIsIn q then s.cqpRefuse else s.modCqp (fun c => { c with put := some (q, ws) })

/-- QSKIP: DROP_REM (R414). -/
def State.cqpSkip (s : State) (q : Nat) : State := if cqpQueue q && s.canDropRem q then s.dropRem q else s.cqpRefuse

/-- QTAKE ends with `n` words shifted out: RD moves over every entry that was among them whole (R420). -/
def State.takeEnd (s : State) (q n : Nat) : State :=
  let m := (s.qWhole q queWords (s.qRd q) (min n (s.qLevel q))).2
  if m = 0 then s else s.qSetRd q ((s.qRd q + m) % 32768)

/-- A unit of a QPUT: an entry is offered to the queue under R412; a word that begins none goes in as it stands. -/
def State.putUnit (s : State) (q : Nat) (ws : List Word) : State :=
  if ws.any isEntry || s.offer q ws.length != .taken then
    match s.offer q ws.length with
    | .taken => s.qOffer q ws
    | _ => (s.qOffer q ws).modCqp (fun c => { c with outcome := cqpDrop })
  else (s.qFill q (s.qWr q) ws).qSetWr q ((s.qWr q + ws.length) % 32768)

/-- QPUT ends: every entry whose last word arrived is offered, a partial one at the end is discarded; `k` bounds them
(R420). -/
def State.putEnd (s : State) (q : Nat) : Nat → List Word → State
  | 0, _ => s
  | _ + 1, [] => s
  | k + 1, w :: ws =>
    let n := stepWords w
    if ws.length + 1 < n then
      (s.modCqp (fun c => { c with outcome := if c.outcome = cqpOk then cqpPartial else c.outcome })).bump R.CQP_PARTIAL_LO
    else State.putEnd (s.putUnit q ((w :: ws).take n)) q k ((w :: ws).drop n)

/-- What the command of the transaction leaves to its end. -/
def State.cqpLate (s : State) (shifted : Nat) : State :=
  let s1 := match s.cqp.take with | some (q, n) => s.takeEnd q (min n shifted) | none => s
  match s1.cqp.put with
  | some (q, ws) => s1.putEnd q ws.length ws
  | none => s1

/-- CQ_CS_N rises (R418-R420): the outcome goes to LAST and the first failed access to CQP_FAIL_ADDR. `shifted` words of
the data phase had been shifted out; `other`, the command byte was none of the table's. Reads still pending are given up,
writes stay pending (BUSY). -/
def State.cqpEnd (s : State) (shifted : Nat) (other : Bool) : State :=
  if !s.cqp.sel then s
  else
    let s0 := if other && !s.cqp.cmd then s.cqpRefuse else s
    let s1 := s0.cqpLate shifted
    let k := s1.cqp.outcome
    let s2 := ((s1.p R.CQP_STS.LAST k).wr R.CQP_FAIL_ADDR (W (s1.cqp.failAddr.getD 0))).bump R.CQP_TXN_LO
    let s3 := if k = cqpErr ∨ k = cqpRefused then s2.bump R.CQP_ERR_LO else s2
    let s4 := { s3 with
      brg := { s3.brg with inReads := s3.brg.inReads.filter (fun (r : InRead) => r.src != PwrSrc.cqp) }
      tenon := { s3.tenon with acc := s3.tenon.acc.map (fun (x : PwrAcc) =>
        if x.src = PwrSrc.cqp then { x with src := if x.wr then .cqpPast else .gone } else x) } }
    s4.modCqp (fun c => { c with sel := false, cmd := false, take := none, put := none })

/-! ### Meanings -/

/-- CQP_TRANSACTION_START (R418). -/
def execCqpTransactionStart (s : State) : Host.Outcome State Fault Refusal := done s s.cqpStart
/-- WR32 (R420). -/
def execCqpWr32 (addr : Nat) (data : List Word) (s : State) : Host.Outcome State Fault Refusal :=
  done s (s.cqpDo (fun t => t.cqpWrite addr data))
/-- RD32 (R420, R421). -/
def execCqpRd32 (addr n : Nat) (s : State) : Host.Outcome State Fault Refusal := done s (s.cqpDo (fun t => t.cqpRead addr n))
/-- QTAKE (R420). -/
def execCqpQtake (queue n : Nat) (s : State) : Host.Outcome State Fault Refusal := done s (s.cqpDo (fun t => t.cqpTake queue n false))
/-- QPEEK (R420). -/
def execCqpQpeek (queue n : Nat) (s : State) : Host.Outcome State Fault Refusal := done s (s.cqpDo (fun t => t.cqpTake queue n true))
/-- QPUT (R420). -/
def execCqpQput (queue : Nat) (data : List Word) (s : State) : Host.Outcome State Fault Refusal :=
  done s (s.cqpDo (fun t => t.cqpPut queue data))
/-- QSKIP (R420). -/
def execCqpQskip (queue : Nat) (s : State) : Host.Outcome State Fault Refusal := done s (s.cqpDo (fun t => t.cqpSkip queue))
/-- STATUS (R420): CQP_STS, 4 bytes. -/
def execCqpStatus (s : State) : Host.Outcome State Fault Refusal :=
  done s (s.cqpDo (fun t => t.modCqp (fun c => { c with out := c.out ++ leBytes 4 t.cqpStatus })))
/-- CQP_TRANSACTION_END (R420). -/
def execCqpTransactionEnd (shifted : Nat) (other : Bool) (s : State) : Host.Outcome State Fault Refusal := done s (s.cqpEnd shifted other)
/-- CQP_INACTIVITY (R422). -/
def execCqpInactivity (s : State) : Host.Outcome State Fault Refusal :=
  done s (if s.on R.CQP_CFG.EN && s.g R.CQP_CFG.ALIVE_MS != 0 then s.modCqp (fun c => { c with inactive := true }) else s)

end Sys2Proof.Machine
end

