-- ==== Sys2Proof/Machine/MgtBus.lean ====
section
/-! DEFINITION. The accesses of the management cores and the end of flash commands (19, R465-R470, R483). -/

namespace Sys2Proof.Machine

/-! ### Flash commands (R483) -/

/-- A flash command does its work: false where the access to its buffer fails. -/
def State.flWork (s : State) (c : FlCmd) (m : HostMem) : State × Bool :=
  if c.op = 1 then
    match s.devWrite dmaWriter c.buf (s.flashBytes c.ofs c.len) with
    | (s1, none) => (s1, true)
    | (s1, some _) => (s1, false)
  else if c.op = 2 then
    match s.devRead m c.buf c.len with
    | (s1, .inl b) => (s1.flashPut c.ofs b, true)
    | (s1, .inr _) => (s1, false)
  else (s.flashPut (c.ofs / 65536 * 65536) (List.replicate 65536 0xFF), true)

/-- The flash command ends (R483): `err`, the xSPI master met an error or a timeout (R444), and what it was to write is as
it happens to be. -/
def State.flEnd (s : State) (err : Bool) (m : HostMem) : State :=
  match s.mgt.fl with
  | none => s
  | some c =>
    let r := if err then (s.flTorn.fault 16 (faultInfo 4 0 0), false) else s.flWork c m
    ((r.1.modMgt (fun k => { k with fl := none })).setStat R.MGT_FL_CMD (if r.2 then statDone else statFailed)).ev R.MGT_EVT.FL_DONE

/-- FL_DONE (R483): `host` holds the bytes of host memory that PROGRAM copies from there. -/
def execFlDone (err : Bool) (host : List (Nat × BitVec 8)) (s : State) : Host.Outcome State Fault Refusal := done s (s.flEnd err host)

/-! ### Accesses of the cores (R465-R470) -/

/-- What an access is: load, store, LR, SC, or an AMO. -/
inductive CoreOp where
  | load | store | lr | sc | amo (f : Nat)
  deriving DecidableEq, Repr

/-- The operations as the command numbers them: 0 load, 1 store, 2 LR, 3 SC, then the AMOs of RV64A: swap, add, xor, and,
or, min, max, minu, maxu (R465; log 45). -/
def coreOp (k : Nat) : CoreOp :=
  match k with
  | 0 => .load
  | 1 => .store
  | 2 => .lr
  | 3 => .sc
  | n + 4 => .amo (n % 9)

/-- What an AMO writes over `x`, both of `n` bytes. -/
def amoNew (f n x v : Nat) : Nat :=
  let m := 256 ^ n
  let sx := signed (8 * n) x
  let sv := signed (8 * n) v
  match f with
  | 0 => v % m
  | 1 => (x + v) % m
  | 2 => (x ^^^ v) % m
  | 3 => (x &&& v) % m
  | 4 => (x ||| v) % m
  | 5 => if sx ≤ sv then x else v % m
  | 6 => if sv ≤ sx then x else v % m
  | 7 => min x (v % m)
  | _ => max x (v % m)

/-- The answer a core sees: a value of up to 64 bits, or an access fault. -/
def State.coreAnswer (s : State) (req : Nat) (r : Option Nat) : State :=
  s.modRq req (fun q => { q with resp := match r with
    | some v => { err := false, data := W v, hi := W (v / 2 ^ 32) }
    | none => { err := true } })

/-- A store to SRAM ends the reservations it meets (R469). -/
def State.resvBreak (s : State) (a n : Nat) : State :=
  s.modMgt (fun m => { m with resv := m.resv.filter (fun p =>
    match p.2 with | some (b, k) => !overlap a n b k | none => false) })

/-- The access lies in a reduced row of SRAM: rows of 128 bytes, as ROW of MGT_SRAM_RED numbers them (R470; log 46). -/
def State.sramBad (s : State) (a n : Nat) : Bool :=
  (List.range 16).any (fun k => s.on (R.MGT_SRAM_RED.VALID k) && overlap a n (128 * s.g (R.MGT_SRAM_RED.ROW k)) 128)

/-- An access to SRAM at byte offset `a` of `n` bytes by core `c`. -/
def State.sramAccess (s : State) (c : Nat) (op : CoreOp) (a n v : Nat) : State × Option Nat :=
  let x := leNat (s.sramBytes a n)
  match op with
  | .load => (s, some x)
  | .store => ((s.sramPut a (leBytes n v)).resvBreak a n, some 0)
  | .lr => (s.modMgt (fun m => { m with resv := Tab.set (fun _ => none) m.resv c (some (a, n)) }), some x)
  | .sc =>
    let ok := s.mgt.resv.get (fun _ => none) c == some (a, n)
    let s1 := s.modMgt (fun m => { m with resv := Tab.set (fun _ => none) m.resv c none })
    if ok then ((s1.sramPut a (leBytes n v)).resvBreak a n, some 0) else (s1, some 1)
  | .amo f => ((s.sramPut a (leBytes n (amoNew f n x v))).resvBreak a n, some x)

/-- An access to DRAM at offset `a` (R428, R430, R469): none where it raises an access fault. -/
def State.dramAccess (s : State) (op : CoreOp) (a n v : Nat) : State × Option Nat :=
  let put := fun (t : State) (w r : Nat) =>
    match t.dramWrite a (leBytes n w) with
    | (t1, true) => (t1, some r)
    | (t1, false) => (t1, none)
  match op with
  | .load => (s, (s.dramRead a n).map leNat)
  | .store => put s v 0
  | .amo f =>
    match s.dramRead a n with
    | some b => put s (amoNew f n (leNat b) v) (leNat b)
    | none => (s, none)
  | _ => (s, none)

/-- One word of an access of a core to a PWR register, by byte enables `be`: it goes over the link for `src` and is answered when
the power die has done it, unless its port answers at once (R11, R468). -/
def State.corePwr (s : State) (req : Nat) (wr : Bool) (a be ofs n : Nat) (hi : Bool) (w : Word) : State :=
  let acc : PwrAcc := { req := req, wr := wr, addr := a, be := be, val := w, granted := false, src := .core ofs n hi }
  if wr then
    match s.writeGate req a be w with
    | (s1, .over e) => s1.coreMerge req hi (if e.isSome then none else some 0)
    | (s1, .act full) => s1.tenonSend { acc with granted := full }
  else if (rowOf a).isSome then s.tenonSend acc
  else (s.busReadBe req a be).1.coreMerge req hi none

/-- A load or store of BAR0 by requester `req` (R36, R468): a doubleword in two accesses, lowest word first; a store of one
or two bytes is partial. PWR registers answer when the power die does. -/
def State.bar0Access (s : State) (req : Nat) (op : CoreOp) (a n v : Nat) : State :=
  let be := ((2 ^ n - 1) * 2 ^ (a % 4)) % 16
  let pwr := fun (wr : Bool) =>
    let s0 := s.coreAnswer req (some 0)
    if n = 8 then
      (s0.corePwr req wr a 15 0 4 false (W v)).corePwr req wr (a + 4) 15 0 4 true (W (v / 2 ^ 32))
    else s0.corePwr req wr (a / 4 * 4) be (a % 4) n false (W (v * 256 ^ (a % 4)))
  match op with
  | .load =>
    if regionOf a = 12 then pwr false
    else if n = 8 then
      let s1 := s.portRead req a
      let lo := (s1.rq req).resp
      let s2 := s1.portRead req (a + 4)
      let hi := (s2.rq req).resp
      s2.coreAnswer req (if lo.err || hi.err then none else some (lo.data.toNat + 2 ^ 32 * hi.data.toNat))
    else
      let s1 := s.portReadBe req (a / 4 * 4) be
      let r := (s1.rq req).resp
      s1.coreAnswer req (if r.err then none else some (wordPart r.data a n))
  | .store =>
    if regionOf a = 12 then pwr true
    else if n = 8 then
      let s1 := s.portWrite req a 15 (W v)
      let e := (s1.rq req).resp.err
      let s2 := s1.portWrite req (a + 4) 15 (W (v / 2 ^ 32))
      if e then s2.coreAnswer req none else s2
    else s.portWrite req (a / 4 * 4) be (W (v * 256 ^ (a % 4)))
  | _ => s.coreAnswer req none

/-- The hart and requester of a core: in a pair the lower core's; the higher core makes no access of its own (R466). -/
def State.coreShadowed (s : State) (c : Nat) : Bool := c % 2 == 1 && bit s.mgt.pair (c / 2)

/-- ECC met by an access to SRAM (R470): 1 corrected, 2 uncorrectable. -/
def State.sramEcc (s : State) (a ecc : Nat) : State :=
  if ecc = 1 then s.fault 306 (faultInfo 1 0 a) else if ecc = 2 then s.fault 307 (faultInfo 1 0 a) else s

/-- An access of core `c` (R467-R470): `n` bytes, 1, 2, 4 or 8, at core address `a`. -/
def State.coreAccess (s : State) (c : Nat) (op : CoreOp) (a n v ecc : Nat) : State :=
  let req := 1 + c
  let apart := match op with | .load => false | .store => false | _ => true
  let crooked := a % n != 0
  if a < 0x4000000 then
    if crooked || apart then s.coreAnswer req none else s.bar0Access req op a n v
  else if 0x80000000 ≤ a ∧ a + n ≤ 0x80010000 then
    match op with
    | .load => s.used.coreAnswer req (some (s.freeNat % 256 ^ n))
    | _ => s.coreAnswer req none
  else if sramBase ≤ a ∧ a + n ≤ sramBase + sramSize then
    let o := a - sramBase
    let s1 := s.sramEcc o ecc
    if ecc = 2 || s.sramBad o n || (apart && (crooked || decide (n < 4))) then s1.coreAnswer req none
    else
      let r := s1.sramAccess c op o n v
      r.1.coreAnswer req r.2
  else if dramBase ≤ a ∧ a + n ≤ dramBase + capBytes then
    if apart && (crooked || decide (n < 4)) then s.coreAnswer req none
    else
      let r := s.dramAccess op (a - dramBase) n v
      r.1.coreAnswer req r.2
  else s.coreAnswer req none

/-- MGT_MEMORY_ACCESS (R469): `kind` as `coreOp` numbers it, 2^`size` bytes. -/
def execMgtMemoryAccess (core kind addr size data ecc : Nat) (s : State) : Host.Outcome State Fault Refusal :=
  let c := core % 4
  done s (if s.mgt.running && !s.coreShadowed c then s.coreAccess c (coreOp kind) addr (2 ^ (size % 4)) data (ecc % 3) else s)

end Sys2Proof.Machine
end

