-- ==== Sys2Proof/Machine/Dispatch.lean ====
section
/-! DEFINITION. exec: one arm per command of the table, each one direct call of that command's meaning. -/

namespace Sys2Proof.Machine

def exec (i : Instr) (s : State) : Host.Outcome State Fault Refusal :=
  match i with
  | .registerWrite req addr be val => Sys2Proof.Machine.execRegisterWrite req addr be val s
  | .unmappedAccess req addr be wr => Sys2Proof.Machine.execUnmappedAccess req addr be wr s
  | .unlockWrite req val => Sys2Proof.Machine.execUnlockWrite req val s
  | .unlockExpiry req => Sys2Proof.Machine.execUnlockExpiry req s
  | .loWordRead req addr => Sys2Proof.Machine.execLoWordRead req addr s
  | .holdingWordWrite req addr val => Sys2Proof.Machine.execHoldingWordWrite req addr val s
  | .hiWordCommit req addr val => Sys2Proof.Machine.execHiWordCommit req addr val s
  | .dmaMultiwordWrite addr val => Sys2Proof.Machine.execDmaMultiwordWrite addr val s
  | .counterClear req blk => Sys2Proof.Machine.execCounterClear req blk s
  | .softReset req blk => Sys2Proof.Machine.execSoftReset req blk s
  | .powerOn => Sys2Proof.Machine.execPowerOn s
  | .pwrGoodFall => Sys2Proof.Machine.execPwrGoodFall s
  | .resetNAssert => Sys2Proof.Machine.execResetNAssert s
  | .coreDieStart bad => Sys2Proof.Machine.execCoreDieStart bad s
  | .pllLock lostMs => Sys2Proof.Machine.execPllLock lostMs s
  | .flashDirectoryRead err0 err1 => Sys2Proof.Machine.execFlashDirectoryRead err0 err1 s
  | .selftestComplete cores plies bufRows tables queues objs slots sram entropyOk lines => Sys2Proof.Machine.execSelftestComplete cores plies bufRows tables queues objs slots sram entropyOk s lines
  | .candidateHeaderCheck err => Sys2Proof.Machine.execCandidateHeaderCheck err s
  | .bodyReadComplete err => Sys2Proof.Machine.execBodyReadComplete err s
  | .signatureVerifyComplete => Sys2Proof.Machine.execSignatureVerifyComplete s
  | .applyBegin => Sys2Proof.Machine.execApplyBegin s
  | .reg32 => Sys2Proof.Machine.execReg32 s
  | .regblk => Sys2Proof.Machine.execRegblk s
  | .regpoll => Sys2Proof.Machine.execRegpoll s
  | .regpollMatch => Sys2Proof.Machine.execRegpollMatch s
  | .regpollTimeout => Sys2Proof.Machine.execRegpollTimeout s
  | .regwait => Sys2Proof.Machine.execRegwait s
  | .regwaitExpiry => Sys2Proof.Machine.execRegwaitExpiry s
  | .tblload bad => Sys2Proof.Machine.execTblload bad s
  | .keyblob => Sys2Proof.Machine.execKeyblob s
  | .keyblobComplete differ => Sys2Proof.Machine.execKeyblobComplete differ s
  | .mdioRecord => Sys2Proof.Machine.execMdioRecord s
  | .noteRecord => Sys2Proof.Machine.execNoteRecord s
  | .unknownRecord => Sys2Proof.Machine.execUnknownRecord s
  | .endRecord => Sys2Proof.Machine.execEndRecord s
  | .commitEnables => Sys2Proof.Machine.execCommitEnables s
  | .forwardingEnable => Sys2Proof.Machine.execForwardingEnable s
  | .cfgReload req => Sys2Proof.Machine.execCfgReload req s
  | .floorRaise req epoch => Sys2Proof.Machine.execFloorRaise req epoch s
  | .floorDone => Sys2Proof.Machine.execFloorDone s
  | .tenonLinkLossDetect => Sys2Proof.Machine.execTenonLinkLossDetect s
  | .linkLostState => Sys2Proof.Machine.execLinkLostState s
  | .tenonLinkRetrain ms => Sys2Proof.Machine.execTenonLinkRetrain ms s
  | .tenonRetrainTimeout => Sys2Proof.Machine.execTenonRetrainTimeout s
  | .pwrAccessComplete => Sys2Proof.Machine.execPwrAccessComplete s
  | .tenonTimeout => Sys2Proof.Machine.execTenonTimeout s
  | .macEnable req port val => Sys2Proof.Machine.execMacEnable req port val s
  | .macDisable req port val => Sys2Proof.Machine.execMacDisable req port val s
  | .laneTrained port => Sys2Proof.Machine.execLaneTrained port s
  | .pcsLockGain port => Sys2Proof.Machine.execPcsLockGain port s
  | .pcsLockLoss port => Sys2Proof.Machine.execPcsLockLoss port s
  | .mdioPollComplete master data => Sys2Proof.Machine.execMdioPollComplete master data s
  | .mdioRoundGapExpiry master => Sys2Proof.Machine.execMdioRoundGapExpiry master s
  | .mdioWrite req master val => Sys2Proof.Machine.execMdioWrite req master val s
  | .mdioRead req master val => Sys2Proof.Machine.execMdioRead req master val s
  | .mdioCommandComplete master data => Sys2Proof.Machine.execMdioCommandComplete master data s
  | .frameReceive port bytes more pcsErr => Sys2Proof.Machine.execFrameReceive port bytes more pcsErr s
  | .mmEnable req port val => Sys2Proof.Machine.execMmEnable req port val s
  | .mmVerifyTimeout port => Sys2Proof.Machine.execMmVerifyTimeout port s
  | .mmRespondReceived port => Sys2Proof.Machine.execMmRespondReceived port s
  | .mmVerifyReceived port => Sys2Proof.Machine.execMmVerifyReceived port s
  | .mmFragmentReceived port cont final count bytes crcOk pcsErr => Sys2Proof.Machine.execMmFragmentReceived port cont final count bytes crcOk s pcsErr
  | .pauseReceived port quanta => Sys2Proof.Machine.execPauseReceived port quanta s
  | .pfcReceived port classes times => Sys2Proof.Machine.execPfcReceived port classes times s
  | .pauseTimerExpiry port cls => Sys2Proof.Machine.execPauseTimerExpiry port cls s
  | .pauseRefresh port => Sys2Proof.Machine.execPauseRefresh port s
  | .frameTransmit port express cuts => Sys2Proof.Machine.execFrameTransmit port express cuts s
  | .learnProcess differs => Sys2Proof.Machine.execLearnProcess s differs
  | .ageingSecond => Sys2Proof.Machine.execAgeingSecond s
  | .ageingBucketScan bad => Sys2Proof.Machine.execAgeingBucketScan bad s
  | .tableScrub table index bad => Sys2Proof.Machine.execTableScrub table index bad s
  | .tableRowRepair table row => Sys2Proof.Machine.execTableRowRepair table row s
  | .tblRead req ch table index => Sys2Proof.Machine.execTblRead req ch table index s
  | .tblWrite req ch table index differs => Sys2Proof.Machine.execTblWrite req ch table index differs s
  | .tblInval req ch table index differs => Sys2Proof.Machine.execTblInval req ch table index s differs
  | .tblInsert req ch differs => Sys2Proof.Machine.execTblInsert req ch s differs
  | .tblDelete req ch differs => Sys2Proof.Machine.execTblDelete req ch s differs
  | .tblSearch req ch => Sys2Proof.Machine.execTblSearch req ch s
  | .tblFlush req ch => Sys2Proof.Machine.execTblFlush req ch s
  | .tblFlushComplete rows => Sys2Proof.Machine.execTblFlushComplete s rows
  | .tblDrain req tmo => Sys2Proof.Machine.execTblDrain req tmo s
  | .tblDrained => Sys2Proof.Machine.execTblDrained s
  | .tblDrainTmo => Sys2Proof.Machine.execTblDrainTmo s
  | .mcgrpWrite req g mask => Sys2Proof.Machine.execMcgrpWrite req g mask s
  | .matchingCycle retried => Sys2Proof.Machine.execMatchingCycle retried s
  | .cellArrival n => Sys2Proof.Machine.execCellArrival n s
  | .reseqGapTimeout src dst => Sys2Proof.Machine.execReseqGapTimeout src dst s
  | .egressFetch out => Sys2Proof.Machine.execEgressFetch out s
  | .ageScan => Sys2Proof.Machine.execAgeScan s
  | .mcTmo out ingress cls => Sys2Proof.Machine.execMcTmo out ingress cls s
  | .outputFlushComplete out => Sys2Proof.Machine.execOutputFlushComplete out s
  | .plyFail ply => Sys2Proof.Machine.execPlyFail ply s
  | .plyReady ply pass => Sys2Proof.Machine.execPlyReady ply pass s
  | .plyDrained ply => Sys2Proof.Machine.execPlyDrained ply s
  | .plyRetire req ply => Sys2Proof.Machine.execPlyRetire req ply s
  | .plyRetest req ply => Sys2Proof.Machine.execPlyRetest req ply s
  | .plyRetestDone pass => Sys2Proof.Machine.execPlyRetestDone pass s
  | .strEnable req n val => Sys2Proof.Machine.execStrEnable req n val s
  | .strDisable req n val => Sys2Proof.Machine.execStrDisable req n val s
  | .verifyJobDone core => Sys2Proof.Machine.execVerifyJobDone core s
  | .generateJobDone core => Sys2Proof.Machine.execGenerateJobDone core s
  | .rollTimerExpiry n => Sys2Proof.Machine.execRollTimerExpiry n s
  | .keyEntryWrite req n entry val => Sys2Proof.Machine.execKeyEntryWrite req n entry val s
  | .strSilent n => Sys2Proof.Machine.execStrSilent n s
  | .strSeqReset n => Sys2Proof.Machine.execStrSeqReset n s
  | .strHighPersist => Sys2Proof.Machine.execStrHighPersist s
  | .canEnable req c val => Sys2Proof.Machine.execCanEnable req c val s
  | .canDisable req c val => Sys2Proof.Machine.execCanDisable req c val s
  | .integrationDone c => Sys2Proof.Machine.execIntegrationDone c s
  | .busOffRecovery c n => Sys2Proof.Machine.execBusOffRecovery c n s
  | .canFrameReceived c fmt id ide rtr brs esi sec sdt vcid af dlc data age => Sys2Proof.Machine.execCanFrameReceived c fmt id ide rtr brs esi sec sdt vcid af dlc data s age
  | .canTxStart c => Sys2Proof.Machine.execCanTxStart c s
  | .canTxSuccess c tdcv => Sys2Proof.Machine.execCanTxSuccess c tdcv s
  | .canArbLost c => Sys2Proof.Machine.execCanArbLost c s
  | .canError c kind tx weight loop => Sys2Proof.Machine.execCanError c kind tx weight s loop
  | .txRequest req c obj val => Sys2Proof.Machine.execTxRequest req c obj val s
  | .canAbort req c obj => Sys2Proof.Machine.execCanAbort req c obj s
  | .canAbortAll req c => Sys2Proof.Machine.execCanAbortAll req c s
  | .rxObjectW0Write req c obj val => Sys2Proof.Machine.execRxObjectW0Write req c obj val s
  | .crossCapture => Sys2Proof.Machine.execCrossCapture s
  | .matrixStart c => Sys2Proof.Machine.execMatrixStart c s
  | .windowStart c => Sys2Proof.Machine.execWindowStart c s
  | .exclLateExpiry c => Sys2Proof.Machine.execExclLateExpiry c s
  | .fifoObjectRefill dst => Sys2Proof.Machine.execFifoObjectRefill dst s
  | .tokenRefill dst => Sys2Proof.Machine.execTokenRefill dst s
  | .gwRateWrite req dst val => Sys2Proof.Machine.execGwRateWrite req dst val s
  | .packEnable req k val => Sys2Proof.Machine.execPackEnable req k val s
  | .packDisable req k val => Sys2Proof.Machine.execPackDisable req k val s
  | .holdExpiry k => Sys2Proof.Machine.execHoldExpiry k s
  | .pduPresent => Sys2Proof.Machine.execPduPresent s
  | .gwUnpack => Sys2Proof.Machine.execGwUnpack s
  | .jigTrigger => Sys2Proof.Machine.execJigTrigger s
  | .jigTimeout entry => Sys2Proof.Machine.execJigTimeout entry s
  | .jigEntryCommit req entry val => Sys2Proof.Machine.execJigEntryCommit req entry val s
  | .cmaEnable req entry val => Sys2Proof.Machine.execCmaEnable req entry val s
  | .cmaVerifyDone core => Sys2Proof.Machine.execCmaVerifyDone core s
  | .cmaGenerateDone core => Sys2Proof.Machine.execCmaGenerateDone core s
  | .tbEnable req t val => Sys2Proof.Machine.execTbEnable req t val s
  | .tbDisable req t val => Sys2Proof.Machine.execTbDisable req t val s
  | .tbIncCommit req t val => Sys2Proof.Machine.execTbIncCommit req t val s
  | .tbSet req t => Sys2Proof.Machine.execTbSet req t s
  | .tbAdd req t => Sys2Proof.Machine.execTbAdd req t s
  | .tbSlew req t => Sys2Proof.Machine.execTbSlew req t s
  | .slewComplete t => Sys2Proof.Machine.execSlewComplete t s
  | .tbAdjZero req t => Sys2Proof.Machine.execTbAdjZero req t s
  | .servoEnable req t val => Sys2Proof.Machine.execServoEnable req t val s
  | .servoTbSample t => Sys2Proof.Machine.execServoTbSample t s
  | .servoHoldover t => Sys2Proof.Machine.execServoHoldover t s
  | .pdelayReqTimer n => Sys2Proof.Machine.execPdelayReqTimer n s
  | .pdelayReqReceived => Sys2Proof.Machine.execPdelayReqReceived s
  | .pdelayRespReceived => Sys2Proof.Machine.execPdelayRespReceived s
  | .syncReceived => Sys2Proof.Machine.execSyncReceived s
  | .followUpReceived => Sys2Proof.Machine.execFollowUpReceived s
  | .followUpTimeout d => Sys2Proof.Machine.execFollowUpTimeout d s
  | .gptpOtherMessage => Sys2Proof.Machine.execGptpOtherMessage s
  | .syncTmo d => Sys2Proof.Machine.execSyncTmo d s
  | .grandmasterSync d => Sys2Proof.Machine.execGrandmasterSync d s
  | .tpDomEnable req d val => Sys2Proof.Machine.execTpDomEnable req d val s
  | .tgEnable req g val => Sys2Proof.Machine.execTgEnable req g val s
  | .tgDisable req g val => Sys2Proof.Machine.execTgDisable req g val s
  | .tgEdge g => Sys2Proof.Machine.execTgEdge g s
  | .tgPinWidthEnd g => Sys2Proof.Machine.execTgPinWidthEnd g s
  | .tgEdgeCommand g => Sys2Proof.Machine.execTgEdgeCommand g s
  | .powerDieEdge late => Sys2Proof.Machine.execPowerDieEdge late s
  | .capEdge unit rising pulse => Sys2Proof.Machine.execCapEdge unit rising s pulse
  | .sjqEnable req queue val => Sys2Proof.Machine.execSjqEnable req queue val s
  | .sjqPiWrite req queue val host => Sys2Proof.Machine.execSjqPiWrite req queue val host s
  | .jobDispatch unit late drbgFail => Sys2Proof.Machine.execJobDispatch unit late drbgFail s
  | .segmentEnd core => Sys2Proof.Machine.execSegmentEnd core s
  | .swJobComplete core host => Sys2Proof.Machine.execSwJobComplete core host s
  | .swWait queue index => Sys2Proof.Machine.execSwWait queue index s
  | .coreAbort core => Sys2Proof.Machine.execCoreAbort core s
  | .quarantineTestDone core pass sparePass => Sys2Proof.Machine.execQuarantineTestDone core pass sparePass s
  | .coreRetire req core sparePass => Sys2Proof.Machine.execCoreRetire req core sparePass s
  | .coreRetest req core => Sys2Proof.Machine.execCoreRetest req core s
  | .coreRetestDone pass => Sys2Proof.Machine.execCoreRetestDone pass s
  | .drbgRestart req ok => Sys2Proof.Machine.execDrbgRestart req ok s
  | .drbgReseed ok => Sys2Proof.Machine.execDrbgReseed ok s
  | .keyDerive req val => Sys2Proof.Machine.execKeyDerive req val s
  | .keyUnwrap req val => Sys2Proof.Machine.execKeyUnwrap req val s
  | .keyGenerate req val => Sys2Proof.Machine.execKeyGenerate req val s
  | .keyInvalidate req val => Sys2Proof.Machine.execKeyInvalidate req val s
  | .keyFree req val => Sys2Proof.Machine.execKeyFree req val s
  | .keyProvision req val => Sys2Proof.Machine.execKeyProvision req val s
  | .keyZeroise req val => Sys2Proof.Machine.execKeyZeroise req val s
  | .fuseSigner req val => Sys2Proof.Machine.execFuseSigner req val s
  | .fuseRevoke req val => Sys2Proof.Machine.execFuseRevoke req val s
  | .fusePolicy req val => Sys2Proof.Machine.execFusePolicy req val s
  | .fuseLock req val => Sys2Proof.Machine.execFuseLock req val s
  | .resInit req val => Sys2Proof.Machine.execResInit req val s
  | .keyCommandComplete host differ => Sys2Proof.Machine.execKeyCommandComplete host differ s
  | .orphanSweepDone => Sys2Proof.Machine.execOrphanSweepDone s
  | .shareRerandomise => Sys2Proof.Machine.execShareRerandomise s
  | .tamperDetected src present => Sys2Proof.Machine.execTamperDetected src present s
  | .keyAttest req nlen => Sys2Proof.Machine.execKeyAttest req nlen s
  | .attestComplete => Sys2Proof.Machine.execAttestComplete s
  | .reservationAdvanceDone record => Sys2Proof.Machine.execReservationAdvanceDone record s
  | .loadModeWrite req ch val => Sys2Proof.Machine.execLoadModeWrite req ch val s
  | .loadStart => Sys2Proof.Machine.execLoadStart s
  | .inrushWindowEnd ch => Sys2Proof.Machine.execInrushWindowEnd ch s
  | .pulsePeriodStart ch => Sys2Proof.Machine.execPulsePeriodStart ch s
  | .pulseTurnOn ch => Sys2Proof.Machine.execPulseTurnOn ch s
  | .pulseTurnOff ch => Sys2Proof.Machine.execPulseTurnOff ch s
  | .ldEdgeMiss ch => Sys2Proof.Machine.execLdEdgeMiss ch s
  | .ldShort ch hot => Sys2Proof.Machine.execLdShort ch hot s
  | .ldOvercur ch => Sys2Proof.Machine.execLdOvercur ch s
  | .clampEvent ch nj => Sys2Proof.Machine.execClampEvent ch nj s
  | .thermalLatchSet ch => Sys2Proof.Machine.execThermalLatchSet ch s
  | .groupThermalShutdown grp treg => Sys2Proof.Machine.execGroupThermalShutdown grp treg s
  | .ldTwarn grp treg => Sys2Proof.Machine.execLdTwarn grp treg s
  | .thermalLatchRelease ch => Sys2Proof.Machine.execThermalLatchRelease ch s
  | .ldRetry ch => Sys2Proof.Machine.execLdRetry ch s
  | .ldRtyClr ch => Sys2Proof.Machine.execLdRtyClr ch s
  | .ldOpen ch => Sys2Proof.Machine.execLdOpen ch s
  | .ldOpenClear ch => Sys2Proof.Machine.execLdOpenClear ch s
  | .ldUv => Sys2Proof.Machine.execLdUv s
  | .ldUvRecovery => Sys2Proof.Machine.execLdUvRecovery s
  | .staggerStart => Sys2Proof.Machine.execStaggerStart s
  | .safeOffAssert => Sys2Proof.Machine.execSafeOffAssert s
  | .safeOffRelease => Sys2Proof.Machine.execSafeOffRelease s
  | .ldClrLock req val => Sys2Proof.Machine.execLdClrLock req val s
  | .ldAdcNow req val => Sys2Proof.Machine.execLdAdcNow req val s
  | .ldAllOff req val => Sys2Proof.Machine.execLdAllOff req val s
  | .adcPeriodicConversion => Sys2Proof.Machine.execAdcPeriodicConversion s
  | .adcResult ch code tj => Sys2Proof.Machine.execAdcResult ch code tj s
  | .trxModeWrite req c val => Sys2Proof.Machine.execTrxModeWrite req c val s
  | .trxWup c => Sys2Proof.Machine.execTrxWup c s
  | .trxWuf c ide rtr id dlc data => Sys2Proof.Machine.execTrxWuf c ide rtr id dlc data s
  | .trxFderr c n => Sys2Proof.Machine.execTrxFderr c n s
  | .busIdleBiasReturn c => Sys2Proof.Machine.execBusIdleBiasReturn c s
  | .wakePin pin high => Sys2Proof.Machine.execWakePin pin high s
  | .wakeTimer => Sys2Proof.Machine.execWakeTimer s
  | .trxFs c => Sys2Proof.Machine.execTrxFs c s
  | .slpPrepare req => Sys2Proof.Machine.execSlpPrepare req s
  | .slpCommit req => Sys2Proof.Machine.execSlpCommit req s
  | .sleepAbort req => Sys2Proof.Machine.execSleepAbort req s
  | .busSilence c => Sys2Proof.Machine.execBusSilence c s
  | .slpPrepTmo => Sys2Proof.Machine.execSlpPrepTmo s
  | .slpInhFall => Sys2Proof.Machine.execSlpInhFall s
  | .slpModFs => Sys2Proof.Machine.execSlpModFs s
  | .inboundWrite rid off beFirst beLast ep data => Sys2Proof.Machine.execInboundWrite rid off beFirst beLast ep data s
  | .inboundRead rid tag off n beFirst beLast => Sys2Proof.Machine.execInboundRead rid tag off n s beFirst beLast
  | .brgRdTmo rid tag => Sys2Proof.Machine.execBrgRdTmo rid tag s
  | .bar2Access rid tag wr off beFirst beLast n ep data => Sys2Proof.Machine.execBar2Access rid tag wr off beFirst beLast n ep data s
  | .atomicOp rid tag bar off op size a b => Sys2Proof.Machine.execAtomicOp rid tag bar off op size a b s
  | .unsupportedRequest rid tag kind => Sys2Proof.Machine.execUnsupportedRequest rid tag kind s
  | .configurationRequest rid tag wr reg be val ready => Sys2Proof.Machine.execConfigurationRequest rid tag wr reg be val ready s
  | .pcieLinkTrained width speed => Sys2Proof.Machine.execPcieLinkTrained width speed s
  | .outboundWrite addr data => Sys2Proof.Machine.execOutboundWrite addr data s
  | .outboundRead addr n => Sys2Proof.Machine.execOutboundRead addr n s
  | .outboundCompletion tag status data => Sys2Proof.Machine.execOutboundCompletion tag status data s
  | .brgCplTmo tag => Sys2Proof.Machine.execBrgCplTmo tag s
  | .brgDetach => Sys2Proof.Machine.execBrgDetach s
  | .brgAttach width speed => Sys2Proof.Machine.execBrgAttach width speed s
  | .dmaStart req ch => Sys2Proof.Machine.execDmaStart req ch s
  | .dmaStop req ch => Sys2Proof.Machine.execDmaStop req ch s
  | .dmaClear req ch => Sys2Proof.Machine.execDmaClear req ch s
  | .dmaChannelDisable req ch val => Sys2Proof.Machine.execDmaChannelDisable req ch val s
  | .descriptorFetch ch host => Sys2Proof.Machine.execDescriptorFetch ch host s
  | .burstGrant block => Sys2Proof.Machine.execBurstGrant block s
  | .descriptorComplete ch => Sys2Proof.Machine.execDescriptorComplete ch s
  | .dmaHalt ch code write desc addr => Sys2Proof.Machine.execDmaHalt ch code write desc addr s
  | .inQueueTake queue => Sys2Proof.Machine.execInQueueTake queue s
  | .queRdWrite req queue val => Sys2Proof.Machine.execQueRdWrite req queue val s
  | .queWrWrite req queue val => Sys2Proof.Machine.execQueWrWrite req queue val s
  | .queDropRem req queue => Sys2Proof.Machine.execQueDropRem req queue s
  | .queFlush req queue => Sys2Proof.Machine.execQueFlush req queue s
  | .queResume req queue => Sys2Proof.Machine.execQueResume req queue s
  | .queFlushTimer queue => Sys2Proof.Machine.execQueFlushTimer queue s
  | .cqpTransactionStart => Sys2Proof.Machine.execCqpTransactionStart s
  | .cqpWr32 addr data => Sys2Proof.Machine.execCqpWr32 addr data s
  | .cqpRd32 addr n => Sys2Proof.Machine.execCqpRd32 addr n s
  | .cqpQtake queue n => Sys2Proof.Machine.execCqpQtake queue n s
  | .cqpQpeek queue n => Sys2Proof.Machine.execCqpQpeek queue n s
  | .cqpQput queue data => Sys2Proof.Machine.execCqpQput queue data s
  | .cqpQskip queue => Sys2Proof.Machine.execCqpQskip queue s
  | .cqpStatus => Sys2Proof.Machine.execCqpStatus s
  | .cqpTransactionEnd shifted other => Sys2Proof.Machine.execCqpTransactionEnd shifted other s
  | .cqpInactivity => Sys2Proof.Machine.execCqpInactivity s
  | .memInitDone => Sys2Proof.Machine.execMemInitDone s
  | .dramScrub line err => Sys2Proof.Machine.execDramScrub line err s
  | .recCopyArrival => Sys2Proof.Machine.execRecCopyArrival s
  | .recordWrite ue => Sys2Proof.Machine.execRecordWrite ue s
  | .ringEnable req r val => Sys2Proof.Machine.execRingEnable req r val s
  | .ringDisable req r val => Sys2Proof.Machine.execRingDisable req r val s
  | .recTrigger req r => Sys2Proof.Machine.execRecTrigger req r s
  | .recPostExpiry r => Sys2Proof.Machine.execRecPostExpiry r s
  | .recUnfreeze req r => Sys2Proof.Machine.execRecUnfreeze req r s
  | .recExport req r => Sys2Proof.Machine.execRecExport req r s
  | .recAbortExp req r => Sys2Proof.Machine.execRecAbortExp req r s
  | .recChunk index ue => Sys2Proof.Machine.execRecChunk index ue s
  | .faultOccurrence src info => Sys2Proof.Machine.execFaultOccurrence src info s
  | .fltDumpStart => Sys2Proof.Machine.execFltDumpStart s
  | .fltDumpDone => Sys2Proof.Machine.execFltDumpDone s
  | .fltDump req => Sys2Proof.Machine.execFltDump req s
  | .fltInvalDump req slot => Sys2Proof.Machine.execFltInvalDump req slot s
  | .fltRelease req => Sys2Proof.Machine.execFltRelease req s
  | .fltFatalClear req => Sys2Proof.Machine.execFltFatalClear req s
  | .holdUpMeasured uf vs vhold => Sys2Proof.Machine.execHoldUpMeasured uf vs vhold s
  | .saveSaving vs vhold => Sys2Proof.Machine.execSaveSaving vs vhold s
  | .saveSaved us => Sys2Proof.Machine.execSaveSaved us s
  | .saveRecovery => Sys2Proof.Machine.execSaveRecovery s
  | .savePowerLost => Sys2Proof.Machine.execSavePowerLost s
  | .arrayRowRepair region unit row src spare frames lostQueues lostObjs lostSlots bufRows queues objs slots sram => Sys2Proof.Machine.execArrayRowRepair region unit row src spare frames lostQueues lostObjs lostSlots bufRows queues objs slots sram s
  | .mgtRst req val => Sys2Proof.Machine.execMgtRst req val s
  | .watchdogExpiry => Sys2Proof.Machine.execWatchdogExpiry s
  | .watchdogKick req val => Sys2Proof.Machine.execWatchdogKick req val s
  | .lockstepMismatch pair => Sys2Proof.Machine.execLockstepMismatch pair s
  | .loaderBegin => Sys2Proof.Machine.execLoaderBegin s
  | .fwCandidateChecked err => Sys2Proof.Machine.execFwCandidateChecked err s
  | .fwCheck req slot => Sys2Proof.Machine.execFwCheck req slot s
  | .fwCheckDone err => Sys2Proof.Machine.execFwCheckDone err s
  | .fwActivate req => Sys2Proof.Machine.execFwActivate req s
  | .fwConfirm req => Sys2Proof.Machine.execFwConfirm req s
  | .fwRecover req => Sys2Proof.Machine.execFwRecover req s
  | .flashRead req => Sys2Proof.Machine.execFlashRead req s
  | .flProgram req => Sys2Proof.Machine.execFlProgram req s
  | .flErase req => Sys2Proof.Machine.execFlErase req s
  | .flDone err host => Sys2Proof.Machine.execFlDone err host s
  | .fwFloorRaise req epoch => Sys2Proof.Machine.execFwFloorRaise req epoch s
  | .mtimecmpReached core => Sys2Proof.Machine.execMtimecmpReached core s
  | .pexEnd c => Sys2Proof.Machine.execPexEnd c s
  | .fecBlockReceived port corrected => Sys2Proof.Machine.execFecBlockReceived port corrected s
  | .fwFloorDone => Sys2Proof.Machine.execFwFloorDone s
  | .keepAliveStoreLoss => Sys2Proof.Machine.execKeepAliveStoreLoss s
  | .mgtMemoryAccess core kind addr size data ecc => Sys2Proof.Machine.execMgtMemoryAccess core kind addr size data ecc s

end Sys2Proof.Machine
end

