-- ==== Sys2Proof/Safety.lean ====
section
/-! DEFINITION. The terms in which claims about the block are made: what a command leaves unchanged, what an
access-log entry, a captured fault and a cluster reset change, and what a port lets in. -/

namespace Sys2Proof.Machine

/-- The registers that passing events on may change after any command (R50, R366, R385, R386, R411, R417): the
state and command registers of the sleep master, the MSI-X pending bits and counters, the pointers, state, events and
counters of the companion event queue Q48, and the yield of rank 8 that replaces a counter update during a save
(R456). -/
def passRegs : List Nat :=
  [R.PWR_SLP_STS, R.PWR_SLP_CMD, R.PWR_SLP_EVT,
   R.MSIX_PBA 0, R.MSIX_PBA 1, R.BRG_MSIX_LO, R.BRG_MSIX_LO + 4, R.BRG_MSIX_LOST_LO, R.BRG_MSIX_LOST_LO + 4,
   R.QUE_WR 48, R.QUE_STS 48, R.QUE_EVT 48, R.QUE_ENTRY_LO 48, R.QUE_ENTRY_LO 48 + 4,
   R.QUE_DROP_LO 48, R.QUE_DROP_LO 48 + 4, R.QUE_OWNER_DROP_LO 48, R.QUE_OWNER_DROP_LO 48 + 4,
   R.GLB_YIELD_LO 7, R.GLB_YIELD_LO 7 + 4, R.GLB_YIELD_EVT]

/-- The frame of a command: from `s` to `t` nothing changes but the registers listed in `l`, and what passing events
on may change: `passRegs`, the words of queue Q48 and the record of TLPs sent. A command that changes more of the state
is framed as `Kept { s with field := t.field } t l`. -/
def Kept (s t : State) (l : List Nat) : Prop :=
  (∀ a, a ∉ l → a ∉ passRegs → t.rd a = s.rd a) ∧
  (∀ q i, q ≠ 48 → t.qWord q i = s.qWord q i) ∧
  t = { s with regs := t.regs, qmem := t.qmem, brg := { s.brg with tlps := t.brg.tlps } }

/-- The registers that an entry of the access log changes, the log standing as in `s` (R52). -/
def logRegs (s : State) : List Nat :=
  [R.GLB_ACCLOG_ADDR (s.g R.GLB_ACCLOG_PTR.NEXT), R.GLB_ACCLOG_INFO (s.g R.GLB_ACCLOG_PTR.NEXT), R.GLB_ACCLOG_PTR,
   R.GLB_ACCLOG_CNT_LO, R.GLB_ACCLOG_CNT_LO + 4, R.GLB_EVT]

/-- From `s` to `t` one entry has come into the access log (R52): address, byte enables, reason, direction and
requester stand where NEXT pointed, NEXT has advanced modulo 16 and GLB_EVT.ACCLOG is set. -/
def Logged (s t : State) (req addr be : Nat) (wr : Bool) (reason : LogReason) : Prop :=
  t.rd (R.GLB_ACCLOG_ADDR (s.g R.GLB_ACCLOG_PTR.NEXT)) = W (addr % 2 ^ 26) ∧
  t.rd (R.GLB_ACCLOG_INFO (s.g R.GLB_ACCLOG_PTR.NEXT)) =
    W (req % 8 + (if wr then 8 else 0) + 16 * reason.code + 256 * (be % 16)) ∧
  t.g R.GLB_ACCLOG_PTR.NEXT = (s.g R.GLB_ACCLOG_PTR.NEXT + 1) % 16 ∧
  t.g R.GLB_EVT.ACCLOG = 1 ∧
  (s.saving = false → t.rd64 R.GLB_ACCLOG_CNT_LO = (s.rd64 R.GLB_ACCLOG_CNT_LO + 1) % 2 ^ 64)

/-- The registers that an entry of the late-failure log changes, the log standing as in `s` (R383). -/
def lateRegs (s : State) : List Nat :=
  [R.BRG_LFL_ADDR (s.g R.BRG_LFL_PTR.NEXT), R.BRG_LFL_INFO (s.g R.BRG_LFL_PTR.NEXT), R.BRG_LFL_PTR, R.BRG_LATE_FAIL_LO,
   R.BRG_LATE_FAIL_LO + 4, R.BRG_EVT]

/-- From `s` to `t` one entry has come into the late-failure log (R383), for a write at BAR0 offset `addr`: offset, byte enables and
reason stand where NEXT pointed, NEXT has advanced modulo 16, the failure is counted and BRG_EVT.LATE is set. -/
def Late (s t : State) (addr be reason : Nat) : Prop :=
  t.rd (R.BRG_LFL_ADDR (s.g R.BRG_LFL_PTR.NEXT)) = W addr ∧
  fieldOf (t.rd (R.BRG_LFL_INFO (s.g R.BRG_LFL_PTR.NEXT))) 0 16 = (be % 16) * 256 + (reason % 16) * 16 ∧
  t.g R.BRG_LFL_PTR.NEXT = (s.g R.BRG_LFL_PTR.NEXT + 1) % 16 ∧ t.g R.BRG_EVT.LATE = 1 ∧
  (s.saving = false → t.rd64 R.BRG_LATE_FAIL_LO = (s.rd64 R.BRG_LATE_FAIL_LO + 1) % 2 ^ 64)

/-- From `s` to `t` a write of requester `req` at `addr` has ended in an error response, which the access log shows with `reason`;
one of HOST is a late failure as well (R34, R35, R383). Nothing else has changed. -/
def WriteFailed (s t : State) (req addr be : Nat) (reason : LogReason) (late : Nat) : Prop :=
  (t.rq req).resp = { err := true, data := 0 } ∧ (t.rq req).armed = (s.rq req).armed ∧ (∀ q, q ≠ req → t.rq q = s.rq q) ∧
  Logged s t req addr be true reason ∧ (req = reqHost → Late s t addr be late) ∧
  Kept { s with reqs := t.reqs, freeCtr := t.freeCtr } t (if req = reqHost then lateRegs s ++ logRegs s else logRegs s)

/-- The registers that the capture of an occurrence of fault source `n` changes (R445): its record, the count of sources in
service, the class event and counter. -/
def faultRegs (n : Nat) : List Nat :=
  [R.FLT_SRC_STS n, R.FLT_FIRST_INFO n, R.FLT_FIRST_TS_LO n, R.FLT_FIRST_TS_LO n + 4, R.FLT_LAST_INFO n, R.FLT_LAST_TS_LO n,
   R.FLT_LAST_TS_LO n + 4, R.FLT_STS, R.FLT_EVT, R.FLT_CLASS_CNT_LO (faultClass n), R.FLT_CLASS_CNT_LO (faultClass n) + 4]

/-- The registers that a management-cluster reset changes (R473, R53). -/
def mgtRegs : List Nat :=
  [R.MGT_STS, R.MGT_WDT, R.MGT_FW_CMD, R.MGT_RESET_LO, R.MGT_RESET_LO + 4, R.GLB_UNLOCK_STS] ++ (List.range 256).map (fun k => 0x2600400 + k)

/-- From `s` to `t` the management cluster has been reset with CAUSE `cause` and its resident loader has the cores (R473): PAIR is
sampled, timers, interrupt enables and the watchdog have their Reset values, reservations and the unlocks of MGT0-MGT3 are gone,
and SRAM below the loader area is as it was. -/
def MgtRestarted (s t : State) (cause : Nat) : Prop :=
  t.rd R.MGT_STS = W (2 ^ 29 + 3 * 2 ^ 27 + cause * 2 ^ 22) ∧ t.mgt.running = false ∧ t.mgt.pair = s.g R.MGT_CFG.PAIR ∧ t.mgt.resv = [] ∧
  t.mgt.mtip = 0 ∧ t.mgt.begun = false ∧ t.mgt.kick = s.tick ∧ t.mgt.base = s.mgt.base ∧ (∀ a, mgtClears a = true → t.rd a = resetOf a) ∧
  (∀ a, a < loaderArea → t.mgt.sram.get (fun _ => 0) a = s.mgt.sram.get (fun _ => 0) a) ∧
  (∀ r, 1 ≤ r → r ≤ 4 → (t.rq r).armed = false ∧ (t.rq r).shadows = [] ∧ (t.rq r).holds = []) ∧ (∀ r, (r = 0 ∨ 5 ≤ r) → t.rq r = s.rq r)

/-- A write of `val` at `a` leaves every Res. field as it stands (R46). -/
def State.keepsRes (s : State) (a : Nat) (val : Word) : Bool := (rowOf a).all (fun r => (s.rd a ^^^ val) &&& W r.res == 0)

/-- An unguarded write of `val` at `a` by requester `req` is let in at its port and leaves nothing to log: it is not
refused before commit (R57) and changes no Res. field (R46). -/
def Admitted (s : State) (req a : Nat) (val : Word) : Prop := s.loadRefused req a = false ∧ s.keepsRes a val = true

/-- A guarded write of `val` at `a` by requester `req` is let in at its port whole: not refused before commit (R57), not
by DMA, not barred by GLB_LOCK, its unlock armed (R42-R44), and no Res. field changed. -/
def Unlocked (s : State) (req a : Nat) (val : Word) : Prop :=
  Admitted s req a val ∧ req ≠ reqDma ∧ s.barred req = false ∧ (s.rq req).armed = true

/-- The state of the port after such a write: its unlock is consumed (R42). -/
def State.spend (s : State) (req : Nat) : State := s.setArmed req false

end Sys2Proof.Machine
end

