-- ==== Sys2Proof/Certificates/Slice0/Obligations.lean ====
section
/-! DEFINITION. The statements for the provers. -/

open Sys2Proof Sys2Proof.Machine

/-- A step with a command at the front of the queue is that command's effect with the queue's rest. -/
def Obligations.StepRunsFrontCommand : Prop :=
  ∀ (c : Instr) (rest : List Instr) (s : State), step { s with pending := c :: rest } = Machine.exec c { s with pending := rest }

/-- The model's choice (log 1): with no command waiting a step is one tick of 2 ns. -/
def Obligations.EmptyQueueTicks : Prop :=
  ∀ s : State, s.pending = [] → ∃ t, step s = .next t ∧ t.tick = s.tick + 1 ∧ t.pending = [] ∧ t.reqs = s.reqs ∧ t.mem = s.mem ∧ t.vault = s.vault

/-- Every command answers a next state in every state: none ends in a fault or a refusal. -/
def Obligations.CommandsComplete : Prop :=
 ∀ (c : Instr) (s : State), ∃ t, Machine.exec c s = .next t

/-- R6: the state after reset holds the Reset value of every register, no command and no memory contents. The values of fields
for which the register tables give none are the model's choice (log 2). -/
def Obligations.ResetState : Prop :=
  State.reset.pending = [] ∧ (∀ a, State.reset.rd a = resetOf a) ∧ State.reset.rd R.MGT_WDT = 0x800007D0 ∧ State.reset.rd R.MGT_STS = 0x18000000 ∧
  State.reset.rd (R.MEM_RING_WIN 63) = 0x03E80000 ∧ State.reset.rd R.MEM_EXP_CFG = 0x0F000000 ∧ State.reset.mem.dram = [] ∧
  State.reset.reqs = [] ∧ State.reset.regs.wf resetOf = true

/-- R366: no step leaves the sleep master in PREPARE with every announcement sent, the MDIO sleep phase run and every bus of the
mask silent: the step that completes PREPARE enters READY. -/
def Obligations.PrepareEndsWhenComplete : Prop :=
 ∀ s t : State, s.prepared = false → step s = .next t → t.prepared = false

/-- The reset state meets the premise of PrepareEndsWhenComplete. -/
def Obligations.ResetNotInPrepare : Prop :=
 State.reset.prepared = false

/-- R11-R14, R457: the Tenon link. Its loss and its return; an access to the power die that completes, and one that does not
within 25 us, which ends with an error response, a read as all ones; whether such a write has acted is a free value. -/
def Obligations.TenonLinkEvents : Prop :=
  (∀ s : State, s.coreUp = true → s.tenon.up = true → exec .tenonLinkLossDetect s = .next (State.passOn s
    (((({ s with tenon := { s.tenon with up := false, retraining := true } }.p R.FLT_TENON.LOST 1).fault 224 (faultInfo 4 0 0)).bump
      R.FLT_TENON_LOST_LO).each (List.range 16) (fun c t => t.canBusLost c)))) ∧
  (∀ s : State, s.tenon.up = false → s.tenon.lostState = false → s.pins.vs = true → exec .linkLostState s = .next (State.passOn s
    (({ s with tenon := { s.tenon with lostState := true } }.slpBreak whyLink).each (List.range 16)
      (fun c t => if t.trx c = trxNormal ∨ t.trx c = trxSilent then t.trxStandby c else t)))) ∧
  (∀ (s : State) (ms : Nat), s.coreUp = true → s.tenon.retraining = true → s.tenon.lostState = true → s.tenon.heldYield = 0 →
    ∃ t, exec (.tenonLinkRetrain ms) s = .next t ∧ t.g R.FLT_TENON.LOST_MS = min ms 65535 ∧ t.g R.FLT_TENON.LOST = 0 ∧
      t.tenon = { s.tenon with up := true, retraining := false, lostState := false } ∧
      Kept { s with tenon := t.tenon } t [R.FLT_TENON]) ∧
  (∀ s : State, s.coreUp = true → s.tenon.retraining = true →
    exec .tenonRetrainTimeout s = .next (State.passOn s (s.fault 226 (faultInfo 4 0 0)))) ∧
  (∀ (s : State) (x : PwrAcc) (rest : List PwrAcc), s.tenon.acc = x :: rest → s.tenon.up = true → x.src = .port → x.wr = true →
    exec .pwrAccessComplete s = .next (State.passOn s (({ s with tenon := { s.tenon with acc := rest } }.writeAct cmplWriter x.req x.addr
      x.val x.granted).respond x.req false 0))) ∧
  (∀ (s : State) (x : PwrAcc) (rest : List PwrAcc), s.tenon.acc = x :: rest → s.tenon.up = true → x.src = .port → x.wr = false →
    (rowOf x.addr).any (fun r => r.mwLen == 1) = true →
    ∃ t, exec .pwrAccessComplete s = .next t ∧ (t.rq x.req).resp = { err := false, data := { s with tenon := { s.tenon with acc := rest } }.peek x.req x.addr } ∧
      t.tenon = { s.tenon with acc := rest } ∧ (∀ q, q ≠ x.req → t.rq q = s.rq q) ∧
      Kept { s with tenon := t.tenon, reqs := t.reqs, freeCtr := t.freeCtr } t []) ∧
  (∀ (s : State) (x : PwrAcc) (rest : List PwrAcc), s.tenon.acc = x :: rest → x.src = .port → x.wr = false →
    ∃ t, exec .tenonTimeout s = .next t ∧ (t.rq x.req).resp = { err := true, data := 0xFFFFFFFF } ∧ t.tenon = { s.tenon with acc := rest } ∧
      t.rd (R.FLT_LAST_INFO 225) = faultInfo 4 0 (x.addr % 65536) ∧ t.g (R.FLT_SRC_STS.INSVC 225) = 1 ∧ (∀ q, q ≠ x.req → t.rq q = s.rq q) ∧
      Kept { s with tenon := t.tenon, reqs := t.reqs } t (faultRegs 225)) ∧
  (∀ (s u : State) (x : PwrAcc) (rest : List PwrAcc), s.tenon.acc = x :: rest → x.src = .port → x.wr = true →
    u = { s with tenon := { s.tenon with acc := rest } } →
    exec .tenonTimeout s = .next (State.passOn s (((if u.freeBool then u.used.writeAct cmplWriter x.req x.addr x.val x.granted
      else u.used).fault 225 (faultInfo 4 0 (x.addr % 65536))).answerWrite x.req x.addr x.be (some .tenon))))

/-- R41-R44, R57: the unlock. A write of the key arms the writer's unlock and no other's; a write of any other value disarms it
and is logged UNLK; DMA's write is ignored and logged DMAW; the expiry disarms. What a port refuses. A write of a guarded
CMD register without an armed unlock, by DMA, or barred by GLB_LOCK starts nothing and is logged GUARD, DMAW or LOCKED, and
a barred one disarms; before commit a write to regions 3-18 by HOST, MGT0-MGT3 or CQP ends in an error response, is logged
LOAD, one of HOST as a late failure too, and leaves the unlock as it is. -/
def Obligations.UnlockAndGuard : Prop :=
  (∀ (s : State) (r : Nat), r ≤ 6 → ∃ t, exec (.unlockWrite r 0x5AFEC0DE) s = .next t ∧
    (t.rq r).armed = true ∧ (t.rq r).resp = { err := false, data := 0 } ∧ (∀ q, q ≠ r → t.rq q = s.rq q) ∧
    Kept { s with reqs := t.reqs } t [R.GLB_UNLOCK_STS]) ∧
  (∀ (s : State) (r : Nat) (v : Word), r ≤ 6 → v ≠ 0x5AFEC0DE → ∃ t, exec (.unlockWrite r v) s = .next t ∧
    (t.rq r).armed = false ∧ (∀ q, q ≠ r → t.rq q = s.rq q) ∧ Logged s t r R.GLB_UNLOCK 15 true .unlk ∧
    Kept { s with reqs := t.reqs } t (R.GLB_UNLOCK_STS :: logRegs s)) ∧
  (∀ (s : State) (v : Word), ∃ t, exec (.unlockWrite 7 v) s = .next t ∧ (∀ q, q ≠ 7 → t.rq q = s.rq q) ∧
    Logged s t 7 R.GLB_UNLOCK 15 true .dmaw ∧ Kept { s with reqs := t.reqs } t (logRegs s)) ∧
  (∀ (s : State) (r : Nat), (s.rq r).armed = true → ∃ t, exec (.unlockExpiry r) s = .next t ∧ (t.rq r).armed = false ∧
    (∀ q, q ≠ r → t.rq q = s.rq q) ∧ Kept { s with reqs := t.reqs } t [R.GLB_UNLOCK_STS]) ∧
  (∀ (s : State) (req a : Nat) (v : Word), guardedCmd a = true → req ≠ reqDma → s.barred req = false → (s.rq req).armed = false →
    s.loadRefused req a = false →
    ∃ t, exec (.registerWrite req a 15 v) s = .next t ∧ Logged s t req a 15 true .guard ∧ (t.rq req).resp = { err := false, data := 0 } ∧
      (∀ q, q ≠ req → t.rq q = s.rq q) ∧ Kept { s with reqs := t.reqs } t (logRegs s)) ∧
  (∀ (s : State) (a : Nat) (v : Word), guardedCmd a = true →
    ∃ t, exec (.registerWrite reqDma a 15 v) s = .next t ∧ Logged s t reqDma a 15 true .dmaw ∧ (∀ q, q ≠ reqDma → t.rq q = s.rq q) ∧
      Kept { s with reqs := t.reqs } t (logRegs s)) ∧
  (∀ (s : State) (req a : Nat) (v : Word), guardedCmd a = true → req ≠ reqDma → s.barred req = true → s.loadRefused req a = false →
    ∃ t, exec (.registerWrite req a 15 v) s = .next t ∧ Logged s t req a 15 true .locked ∧ (t.rq req).armed = false ∧
      (∀ q, q ≠ req → t.rq q = s.rq q) ∧ Kept { s with reqs := t.reqs } t (R.GLB_UNLOCK_STS :: logRegs s)) ∧
  (∀ (s : State) (req a be : Nat) (v : Word), req ≤ 5 → s.beforeRun = true → 3 ≤ regionOf a → regionOf a ≤ 18 →
    ∃ t, exec (.registerWrite req a be v) s = .next t ∧ WriteFailed s t req a be .load lfLoad)

/-- R34: a read or a write of an address that holds no register ends in an error response, a read as zero, and is logged UNMAP;
a write of HOST is a late failure too. Nothing else changes. -/
def Obligations.UnmappedAccessLogged : Prop :=
  (∀ (s : State) (r a be : Nat), rowOf a = none →
    ∃ t, exec (.unmappedAccess r a be false) s = .next t ∧ (t.rq r).resp = { err := true, data := 0 } ∧
      (∀ q, q ≠ r → t.rq q = s.rq q) ∧ Logged s t r a be false .unmap ∧ Kept { s with reqs := t.reqs } t (logRegs s)) ∧
  (∀ (s : State) (r a be : Nat), rowOf a = none → s.loadRefused r a = false →
    ∃ t, exec (.unmappedAccess r a be true) s = .next t ∧ WriteFailed s t r a be .unmap lfUnmap)

/-- R7, R23, R36: a write of a register whose access codes say all there is to it, with all four byte enables and no Res. field
changed, stores its RW fields and nothing else; with a byte enable clear it is ignored and logged PART. -/
def Obligations.RegisterWriteStores : Prop :=
  (∀ (s : State) (req a : Nat) (v : Word) (r : Row), rowOf a = some r → r.mwLen = 1 → r.rwg = 0 → r.w1c = 0 → r.w1x = 0 →
    guardedCmd a = false → a ≠ R.GLB_UNLOCK → regionOf a ≠ 12 → a ∉ passRegs → Admitted s req a v → s.ringShut req a = false →
    s.ownAct cmplWriter req r a v true = none →
    ∃ t, exec (.registerWrite req a 15 v) s = .next t ∧ t.rd a = ((s.rd a &&& ~~~(W r.rw)) ||| (v &&& W r.rw)) ∧
      (t.rq req).resp = { err := false, data := 0 } ∧ (∀ q, q ≠ req → t.rq q = s.rq q) ∧ Kept { s with reqs := t.reqs } t [a]) ∧
  (∀ (s : State) (req a be : Nat) (v : Word) (r : Row), rowOf a = some r → s.loadRefused req a = false → be < 15 →
    ∃ t, exec (.registerWrite req a be v) s = .next t ∧ Logged s t req a be true .part ∧
      (t.rq req).resp = { err := false, data := 0 } ∧ (∀ q, q ≠ req → t.rq q = s.rq q) ∧ Kept { s with reqs := t.reqs } t (logRegs s))

/-- R38, R39: multiword values. A read of a _LO word returns the live word and copies the higher words into the requester's
shadow; a write of a lower word is held and does not act; a write of the _HI word of a two-word value commits both, the
lower from the holding register where it is held under this value's tag, else live, and empties the holding register. -/
def Obligations.MultiwordAccesses : Prop :=
  (∀ (s : State) (req a : Nat) (r : Row), rowOf a = some r → 1 < r.mwLen → r.mwIdx = 0 → req ≠ reqDma → regionOf a ≠ 12 →
    exec (.loWordRead req a) s = .next (State.passOn s ((s.modRq req (fun q =>
      { q with shadows := q.shadows.set (fun _ => none) (regionOf a) (some { tag := a, words := (List.range (r.mwLen - 1)).map (fun k => s.peek req (a + 4 * (k + 1))) }) })).respond req false
      (s.peek req a)))) ∧
  (∀ (s : State) (req a : Nat) (v : Word) (r : Row) (held : Tab Word), rowOf a = some r → r.mwIdx + 1 < r.mwLen → r.rwg = 0 → guardedCmd a = false →
    req ≠ reqDma → regionOf a ≠ 12 → s.loadRefused req a = false → a ≠ R.GLB_UNLOCK →
    held = (match s.holding req (regionOf a) with
      | some h => if h.tag = a - 4 * r.mwIdx then h.words else []
      | none => []) →
    exec (.holdingWordWrite req a v) s = .next (State.passOn s
      ((s.setHolding req (regionOf a) (some { tag := a - 4 * r.mwIdx, words := held.put r.mwIdx v })).respond req false 0))) ∧
  (∀ (s : State) (req a : Nat) (v low : Word) (r : Row), rowOf a = some r → r.mwIdx = 1 → r.mwLen = 2 → r.rwg = 0 → guardedCmd a = false →
    req ≠ reqDma → regionOf a ≠ 12 → a ≠ R.GLB_UNLOCK → Admitted s req a v → 4 ≤ a →
    low = (match s.holding req (regionOf a) with
      | some h => if h.tag = a - 4 then (h.words.find? 0).getD (s.peek req (a - 4)) else s.peek req (a - 4)
      | none => s.peek req (a - 4)) →
    s.keepsRes (a - 4) low = true →
    (∀ u : State, (s.setHolding req (regionOf a) none).commitAct (a - 4) r u = none) →
    exec (.hiWordCommit req a v) s = .next (State.passOn s ((((s.setHolding req (regionOf a) none).store (a - 4) low).store a v).respond
      req false 0)))

/-- R40: a DMA read of any word of a multiword value returns the live word and latches nothing, at the port or, for a PWR
register, once the power die answers; a DMA write of any word is ignored and logged DMAW. -/
def Obligations.DmaMultiwordAccesses : Prop :=
  (∀ (s : State) (a : Nat) (r : Row), rowOf a = some r → 1 < r.mwLen → regionOf a ≠ 12 →
    ∃ t, exec (.loWordRead reqDma a) s = .next t ∧ (t.rq reqDma).resp = { err := false, data := s.peek reqDma a } ∧
      (t.rq reqDma).shadows = (s.rq reqDma).shadows ∧ (t.rq reqDma).holds = (s.rq reqDma).holds ∧ (∀ q, q ≠ reqDma → t.rq q = s.rq q) ∧
      Kept { s with reqs := t.reqs } t []) ∧
  (∀ (s : State) (x : PwrAcc) (rest : List PwrAcc) (r : Row), s.tenon.acc = x :: rest → s.tenon.up = true → x.src = .port → x.wr = false →
    x.req = reqDma → rowOf x.addr = some r → 1 < r.mwLen →
    ∃ t, exec .pwrAccessComplete s = .next t ∧
      (t.rq reqDma).resp = { err := false, data := { s with tenon := { s.tenon with acc := rest } }.peek reqDma x.addr } ∧
      (t.rq reqDma).shadows = (s.rq reqDma).shadows ∧ (t.rq reqDma).holds = (s.rq reqDma).holds ∧ (∀ q, q ≠ reqDma → t.rq q = s.rq q) ∧
      Kept { s with tenon := t.tenon, reqs := t.reqs, freeCtr := t.freeCtr } t []) ∧
  (∀ (s : State) (a : Nat) (v : Word) (r : Row), rowOf a = some r → 1 < r.mwLen →
    ∃ t, exec (.dmaMultiwordWrite a v) s = .next t ∧ Logged s t reqDma a 15 true .dmaw ∧ (t.rq reqDma).holds = (s.rq reqDma).holds ∧
      (∀ q, q ≠ reqDma → t.rq q = s.rq q) ∧ Kept { s with reqs := t.reqs } t (logRegs s))

/-- R47: a read changes nothing of the device but its requester's shadows and the answer that requester sees, at the port or, for a
PWR register, once the power die answers; of PWR_LD_STS, whose ILIMIT is a free value, the next read may show another. -/
def Obligations.ReadsChangeNothing : Prop :=
  (∀ (s : State) (req a : Nat) (r : Row), rowOf a = some r → regionOf a ≠ 12 →
    ∃ t, exec (.loWordRead req a) s = .next t ∧ (t.rq req).armed = (s.rq req).armed ∧ (t.rq req).holds = (s.rq req).holds ∧
      (∀ q, q ≠ req → t.rq q = s.rq q) ∧ Kept { s with reqs := t.reqs } t []) ∧
  (∀ (s : State) (x : PwrAcc) (rest : List PwrAcc) (r : Row), s.tenon.acc = x :: rest → s.tenon.up = true → x.src = .port → x.wr = false →
    rowOf x.addr = some r →
    ∃ t, exec .pwrAccessComplete s = .next t ∧ (t.rq x.req).armed = (s.rq x.req).armed ∧ (t.rq x.req).holds = (s.rq x.req).holds ∧
      t.tenon = { s.tenon with acc := rest } ∧ (∀ q, q ≠ x.req → t.rq q = s.rq q) ∧
      Kept { s with tenon := t.tenon, reqs := t.reqs, freeCtr := t.freeCtr } t [])

/-- R51, R59: GLB_CTR_CLR makes every counter of its region read zero and changes no other register but itself. GLB_SRST with an
armed unlock consumes it, ends done and soft-resets its region as the reset of that region says: that of CFG takes the rejection
records and that of REP every register but the repair records to Reset values, and both leave every other region but its level events,
the other requesters and the blocks' own state. Not armed it is ignored and logged GUARD. -/
def Obligations.ClearAndSoftReset : Prop :=
  (∀ (s : State) (req n : Nat), n ≤ 18 → Admitted s req R.GLB_CTR_CLR (W n) → s.stat R.GLB_CTR_CLR ≠ statBusy →
    ∃ t, exec (.counterClear req n) s = .next t ∧ (∀ a, isCounter n a = true → a ∉ passRegs → t.rd a = 0) ∧
      (∀ a, isCounter n a = false → a ≠ R.GLB_CTR_CLR → a ∉ passRegs → t.rd a = s.rd a) ∧
      fieldOf (t.rd R.GLB_CTR_CLR) 0 5 = n ∧ t.stat R.GLB_CTR_CLR = statDone ∧ (t.rq req).resp = { err := false, data := 0 } ∧
      (∀ q, q ≠ req → t.rq q = s.rq q) ∧
      t = { s with reqs := t.reqs, regs := t.regs, qmem := t.qmem, brg := { s.brg with tlps := t.brg.tlps } }) ∧
  (∀ (s : State) (req n : Nat), 1 ≤ n → n ≤ 18 → Unlocked s req R.GLB_SRST (W n) → s.stat R.GLB_SRST ≠ statBusy →
    exec (.softReset req n) s = .next (State.passOn s
      ((((s.spend req).putCmd R.GLB_SRST (W n) statDone).srstRun cmplWriter n).respond req false 0))) ∧
  (∀ (s : State) (req n : Nat), n = 2 ∨ n = 18 → Unlocked s req R.GLB_SRST (W n) → s.stat R.GLB_SRST ≠ statBusy →
    ∃ t, exec (.softReset req n) s = .next t ∧ t.stat R.GLB_SRST = statDone ∧ (t.rq req).armed = false ∧
      (n = 2 → ∀ a, a = R.CFG_REJ_INFO 0 ∨ a = R.CFG_REJ_INFO 1 ∨ a = R.CFG_REJ_OFS 0 ∨ a = R.CFG_REJ_OFS 1 → t.rd a = resetOf a) ∧
      (n = 18 → ∀ a, regionOf a = 18 → repKept a = false → t.rd a = resetOf a) ∧
      (∀ a, regionOf a ≠ n → evtOf a = none → a ∉ [R.GLB_SRST, R.GLB_UNLOCK_STS] → a ∉ passRegs → t.rd a = s.rd a) ∧
      (∀ a, repKept a = true → t.rd a = s.rd a) ∧ (∀ q, q ≠ req → (t.rq q).armed = (s.rq q).armed) ∧
      t = { s with reqs := t.reqs, once := t.once, regs := t.regs, qmem := t.qmem, brg := { s.brg with tlps := t.brg.tlps } }) ∧
  (∀ (s : State) (req n : Nat), n < 32 → s.barred req = false → (s.rq req).armed = false → req ≠ reqDma →
    ∃ t, exec (.softReset req n) s = .next t ∧ Logged s t req R.GLB_SRST 15 true .guard ∧
      Kept { s with reqs := t.reqs } t (logRegs s))

/-- R45: the first write of GLB_LOCK or KEY_TAMP_EN, the registers with W1X fields, since the reset of those fields sets them to
the written value, whatever it is; a later write leaves them, is logged ONCE and gets no error response. The rest of the
register is Res., and a power-on reset and the loss of the keep-alive store each let their register be written again. -/
def Obligations.WriteOnceFields : Prop :=
  (∀ (s : State) (req a : Nat) (v m : Word), (a = R.GLB_LOCK ∧ m = 7 ∧ s.vault.locks % 8 = 0 ∨ a = R.KEY_TAMP_EN ∧ m = 31) →
    Admitted s req a v → a ∉ s.once →
    ∃ t, exec (.registerWrite req a 15 v) s = .next t ∧ t.rd a = ((s.rd a &&& ~~~m) ||| (v &&& m)) ∧ t.once = s.once ++ [a] ∧
      (t.rq req).resp = { err := false, data := 0 } ∧ (∀ q, q ≠ req → t.rq q = s.rq q) ∧ Kept { s with reqs := t.reqs, once := t.once } t [a]) ∧
  (∀ (s : State) (req a : Nat) (v : Word), (a = R.GLB_LOCK ∨ a = R.KEY_TAMP_EN) → Admitted s req a v → a ∈ s.once →
    ∃ t, exec (.registerWrite req a 15 v) s = .next t ∧ t.rd a = s.rd a ∧ Logged s t req a 15 true .once ∧
      (t.rq req).resp = { err := false, data := 0 } ∧ (∀ q, q ≠ req → t.rq q = s.rq q) ∧ Kept { s with reqs := t.reqs } t (logRegs s)) ∧
  (∀ (s : State), s.pins.pwrGood = true → ∃ t, exec .pwrGoodFall s = .next t ∧ R.GLB_LOCK ∉ t.once ∧ t.g R.GLB_LOCK.TAP = 0) ∧
  (∀ (s : State), ∃ t, exec .keepAliveStoreLoss s = .next t ∧ R.KEY_TAMP_EN ∉ t.once ∧ t.g R.KEY_TAMP_EN.EN = 0)

/-- R53-R55, R77, R373, R493: power and reset. With VS and the core die in reset, PWR_GOOD and RESET_N start it: the loader is in
SELFTEST. A fall of RESET_N takes the blocks of the core die to their state after reset and each of its registers, but those that
R53, R77 and R462 keep, to its Reset value, and leaves the load channels and the stored keys of the keep-alive store; a fall of
PWR_GOOD does so as at power-on, memory included, and ends a save. VS gives the registers of the power die their reset values, with
every load channel off, and waits for PWR_GOOD. At PLL lock the link is up, PCIe trains and the management cluster is in its resident
loader. -/
def Obligations.PowerAndResetEvents : Prop :=
  (∀ (s : State) (bad : List Nat), s.pins.vs = true → s.coreUp = false →
    ∃ t, exec (.coreDieStart bad) s = .next t ∧
      t = State.passOn s ({ s with pins := { s.pins with pwrGood := true, resetN := true } }.coreStart bad 0) ∧
      t.pins = { s.pins with pwrGood := true, resetN := true } ∧ t.g R.CFG_STS.STATE = cfgSelftest ∧
      t.loader = { active := true, since := s.tick }) ∧
  (∀ s : State, s.pins.resetN = true →
    ∃ t, exec .resetNAssert s = .next t ∧ t = State.passOn s ({ s with pins := { s.pins with resetN := false } }.coreReset false) ∧
      t.pins = { s.pins with resetN := false, forwarding := false } ∧ t.loader = {} ∧ t.reqs = [] ∧ t.tbl = {} ∧ t.sw = {} ∧ t.ports = [] ∧
      t.mdio = [] ∧ t.str = [] ∧ t.grit = {} ∧ t.can = [] ∧ t.gw = {} ∧ t.dma = {} ∧ t.cqp = {} ∧ t.tenon.up = false ∧ t.loads = s.loads ∧
      t.vault.rs = s.vault.rs ∧ t.vault.high = s.vault.high ∧ t.rd R.GLB_LOCK = s.rd R.GLB_LOCK ∧
      (∀ a, coreKept false a = false → a ∉ passRegs → t.rd a = resetOf a)) ∧
  (∀ s : State, s.pins.pwrGood = true → ∃ t, exec .pwrGoodFall s = .next t ∧
    t = State.passOn s (({ s with pins := { s.pins with pwrGood := false } }.coreReset true).p R.PWR_SUP_STS.SAVE 0) ∧
    t.g R.PWR_SUP_STS.SAVE = 0 ∧ t.pins = { s.pins with pwrGood := false, forwarding := false } ∧ t.mem = {} ∧ t.ports = [] ∧ t.can = [] ∧
    t.loader = {} ∧ t.loads = s.loads ∧
    (∀ a, coreKept true a = false → a ∉ passRegs → t.rd a = resetOf a)) ∧
  (∀ s : State, ∃ t, exec .powerOn s = .next t ∧ t.pins = { vs := true } ∧ t.tenon = { up := false } ∧ t.loads = {} ∧ t.mem = {} ∧
    (∀ a, (regionOf a = 12 ∨ coreKept true a = false) → a ∉ passRegs → t.rd a = resetOf a)) ∧
  (∀ (s : State) (ms : Nat), s.coreUp = true → s.loader.active = true → s.loader.pllLocked = false → s.loader.reload = false →
    s.tenon.lostState = false → s.tenon.heldYield = 0 →
    ∃ t, exec (.pllLock ms) s = .next t ∧ t.loader = { s.loader with pllLocked := true } ∧ t.g R.MGT_STS.STATE = mgtLoader ∧
      t.brg.training = true ∧ t.tenon = { s.tenon with up := true, retraining := false } ∧ t.g R.FLT_TENON.LOST = 0)

/-- R55, R60, R61, R64, R65, R69, R73, R76, R508: the steps from the directory to a verified image, where the flash is read
without error and every check passes. Commit, forwarding, RELOAD and the configuration epoch. -/
def Obligations.LoaderAndCommit : Prop :=
  (∀ s : State, s.loader.active = true → s.loader.pllLocked = true → s.loader.cand = none → s.loader.taken = 0 →
    ∃ t, exec (.flashDirectoryRead false false) s = .next t ∧ t.loader = { s.loader with dir := (dirOf (s.flashBytes 0 4096)).or (dirOf (s.flashBytes 4096 4096)), dirRead := true } ∧
      Kept { s with loader := t.loader } t []) ∧
  (∀ (s : State) (ok : Bool), s.coreUp = true → s.loader.selfTest = false → s.g R.REP_REC_N.N = 0 →
    (∀ k, k < 256 → s.rd (R.REP_FUSE_W0 k) = 0 ∧ s.rd (R.REP_FUSE_W1 k) = 0) →
    exec (.selftestComplete [] [] 0 [] [] [] [] [] ok) s =
      .next (State.passOn s (((if s.g R.CRY_DRBG_STS.STATE ≠ drbgInit then s.reduce {} else if ok then (s.reduce {}).drbgSeeded
        else (s.reduce {}).entropyFails).poolSts.modLoader (fun l => { l with selfTest := true })).levels))) ∧
  (∀ (s : State) (k : Nat) (rest : List Nat) (ofs size : Nat) (h : List Byte), s.loader.active = true → s.loader.dirRead = true → s.loader.cand = none →
    s.loader.taken ≠ 0 → s.loader.order = k :: rest → s.cfgSlot k = some (ofs, size) →
    h = s.flashBytes ofs 128 → s.headerFault size h (s.flashBytes (ofs + 144 + hdBodyLen h) (min (hdSigLen h) 5392)) = none →
    exec (.candidateHeaderCheck false) s = .next (State.passOn s ((s.setCfg cfgStage).modLoader (fun l => { l with order := rest, cand := some k, taken := l.taken + 1, header := h })))) ∧
  (∀ (s : State) (k ofs size n : Nat) (rs h key : List Byte), s.loader.cand = some k → s.loader.header ≠ [] → s.loader.bodyRead = false →
    s.cfgSlot k = some (ofs, size) → s.rootKey = some rs →
    h = s.loader.header → n = hdBodyLen h → key = cfgKey rs (slice h 0x20 16) →
    gcmTag key (slice h 0x30 12) h (s.flashBytes (ofs + 128) n) = s.flashBytes (ofs + 128 + n) 16 →
    exec (.bodyReadComplete false) s = .next (State.passOn s ((s.modLoader (fun l => { l with cipher := s.flashBytes (ofs + 128) n ++ s.flashBytes (ofs + 128 + n) 16, plain := gcmCrypt key (slice h 0x30 12) (s.flashBytes (ofs + 128) n), bodyRead := true })).setCfg cfgVerify))) ∧
  (∀ (s : State) (k ofs size : Nat) (h : List Byte) (recs : List RecAt), s.loader.cand = some k → s.loader.bodyRead = true → s.loader.verified = false →
    s.cfgSlot k = some (ofs, size) →
    h = s.loader.header → recs = parseRecs (leAt h 0x10 4) (hdBodyLen h / 8 + 1) 0 0 s.loader.plain →
    sigsGood (hdFlags h) (sha384 (h ++ s.loader.cipher)) (s.flashBytes (ofs + 144 + hdBodyLen h) (hdSigLen h)) = true →
    (∀ r ∈ recs, r.body ≠ .bad ∧ ∀ ty, r.body ≠ .unknown ty true) →
    exec .signatureVerifyComplete s = .next (State.passOn s (s.modLoader (fun l => { l with recs := recs, verified := true })))) ∧
  (∀ s : State, s.loader.selfTest = true → s.loader.verified = true → s.g R.CFG_STS.STATE = 3 →
    ∃ t, exec .applyBegin s = .next t ∧ t.g R.CFG_STS.STATE = 4 ∧ Kept s t [R.CFG_STS]) ∧
  (∀ s : State, s.g R.CFG_STS.STATE = 5 → s.loader.committed = false → s.cfgMdio = false →
    exec .commitEnables s = .next (State.passOn s
      ((((s.modLoader (fun l => { l with actDigest := sha384 (l.header ++ l.cipher), cipher := [], plain := [], stored := [], committed := true })).wr
        R.TBL_EPOCH 0).actAll s.loader.stored)))) ∧
  (∀ (s : State) (k : Nat), s.loader.cand = some k → s.g R.CFG_STS.STATE = 5 → s.loader.committed = true →
    ∃ t, exec .forwardingEnable s = .next t ∧ t.pins = { s.pins with forwarding := true } ∧ t.loader.act = s.loader.header ∧
      t.loader.active = false ∧ t.loader.cand = none) ∧
  (∀ (s : State) (req : Nat), s.g R.CFG_STS.STATE = 7 → Admitted s req R.CFG_CMD 1 → s.stat R.CFG_CMD ≠ statBusy →
    ∃ t, exec (.cfgReload req) s = .next t ∧ t.g R.CFG_STS.STATE = 2 ∧ t.stat R.CFG_CMD = statBusy ∧ t.loader = { s.loader with active := true, reload := true, selfTest := true, dirRead := false, dir := none, order := [], cand := none, taken := 0, wait := .none, written := [], stored := [], committed := false, since := s.tick, lead := 5000 } ∧
      Kept { s with loader := t.loader, reqs := t.reqs } t [R.CFG_CMD, R.CFG_STS]) ∧
  (∀ (s : State) (req e : Nat), Unlocked s req R.CFG_FLOOR (withField (s.peek req R.CFG_FLOOR) 0 8 e) → e < 256 →
    exec (.floorRaise req e) s = .next (State.passOn s
      (((s.spend req).cfgFloorWrite (withField (s.peek req R.CFG_FLOOR) 0 8 e)).respond req false 0))) ∧
  (∀ (s : State) (e : Nat), s.loader.fusing = some e → ∃ t, exec .floorDone s = .next t ∧ t.vault = { s.vault with cfgEpoch := e } ∧
    t.loader = { s.loader with fusing := none } ∧ t.g R.CFG_FLOOR.FUSING = 0 ∧ t.g R.CFG_EVT.FLOOR_DONE = 1 ∧
    Kept { s with vault := t.vault, loader := t.loader } t [R.CFG_FLOOR, R.CFG_EVT])

/-- R67, R69, R315: what each record does when its turn comes, RS being in place. How a wait of the loader ends. -/
def Obligations.LoaderRecords : Prop :=
  (∀ (s : State) (l : List (Nat × Word)), s.rootGone = false → s.nextRec = some (.reg32 l) →
    exec .reg32 s = .next (State.passOn s (State.cfgWrites l s))) ∧
  (∀ (s : State) (off : Nat) (vals : List Word), s.rootGone = false → s.nextRec = some (.regblk off vals) →
    exec .regblk s = .next (State.passOn s (State.cfgWrites (vals.zipIdx.map (fun p => (off + 4 * p.2, p.1))) s))) ∧
  (∀ (s : State) (off : Nat) (m v : Word) (us : Nat), s.rootGone = false → s.nextRec = some (.regpoll off m v us) →
    ∃ t, exec .regpoll s = .next t ∧ t.loader = { s.loader with wait := .poll off m v } ∧ Kept { s with loader := t.loader } t []) ∧
  (∀ (s : State) (us : Nat), s.rootGone = false → s.nextRec = some (.regwait us) →
    ∃ t, exec .regwait s = .next t ∧ t.loader = { s.loader with wait := .time } ∧ Kept { s with loader := t.loader } t []) ∧
  (∀ (s : State) (tb first count : Nat) (ws : List Word), s.rootGone = false → s.nextRec = some (.tblload tb first count ws) →
    s.tblBusy = false →
    exec (.tblload none) s = .next (State.passOn s (State.tblLoad tb first none (quads count ws) (s.markRegion 4)))) ∧
  (∀ (s : State) (slot : Nat) (b : List Byte), s.rootGone = false → s.nextRec = some (.keyblob slot b) → s.vault.cmd = none →
    exec .keyblob s = .next (State.passOn s (((s.markRegion 11).modLoader (fun l => { l with wait := .blob slot })).vaultEnqueue noSlot))) ∧
  (∀ (s : State) (l : List (List Byte)), s.rootGone = false → s.nextRec = some (.mdio l) → exec .mdioRecord s = .next (State.passOn s
    ((s.each (l.map mdioOfRec) (fun e u => u.mdioWork (e.1 % 2) (fun d => { d with writes := d.writes ++ [e.2] }))).recDone))) ∧
  (∀ s : State, s.rootGone = false → s.nextRec = some .note → ∃ t, exec .noteRecord s = .next t ∧
    t.loader = { s.loader with recs := s.loader.recs.drop 1, wait := .none } ∧ Kept { s with loader := t.loader } t []) ∧
  (∀ (s : State) (n : Nat), s.rootGone = false → s.nextRec = some (.endRec n) → ∃ t, exec .endRecord s = .next t ∧
    t.g R.CFG_STS.STATE = 5 ∧ t.loader = { s.loader with recs := s.loader.recs.drop 1, wait := .none } ∧
    Kept { s with loader := t.loader } t [R.CFG_STS]) ∧
  (∀ (s : State) (off : Nat) (m v : Word), s.loader.wait = .poll off m v → (rowOf off).isSome = true → regionOf off ≠ 12 →
    (s.busRead reqCfg off).2.1 &&& m = v →
    exec .regpollMatch s = .next (State.passOn s ((s.busRead reqCfg off).1.recDone))) ∧
  (∀ (s : State) (off : Nat) (m v : Word), s.loader.wait = .poll off m v → (rowOf off).isSome = true → regionOf off ≠ 12 →
    (s.busRead reqCfg off).2.1 &&& m ≠ v →
    exec .regpollTimeout s = .next (State.passOn s ((s.busRead reqCfg off).1.rejectApply))) ∧
  (∀ s : State, s.loader.wait = .time → ∃ t, exec .regwaitExpiry s = .next t ∧
    t.loader = { s.loader with recs := s.loader.recs.drop 1, wait := .none } ∧ Kept { s with loader := t.loader } t []) ∧
  (∀ (s : State) (slot slot' core twin : Nat) (b : List Byte) (j : Job) (d : Bool) (r : State × Nat), s.loader.wait = .blob slot →
    s.handRec = some (.keyblob slot' b) → s.vaultCores = some (core, j, twin) → r = ((s.endJob core j).freeCore twin).keyBlob slot b d →
    exec (.keyblobComplete d) s = .next (State.passOn s (if r.2 = kOk then r.1.recDone else r.1.rejectApply)))

/-- R68: a record of an unlisted TYPE is skipped and counted when its turn comes; one that is critical has its image rejected
when the records are checked, with CRIT unless the signature or another record has it rejected first. -/
def Obligations.UnknownRecords : Prop :=
  (∀ (s : State) (ty : Nat) (c : Bool), s.rootGone = false → s.nextRec = some (.unknown ty c) → s.saving = false →
    ∃ t, exec .unknownRecord s = .next t ∧ t.loader = { s.loader with recs := s.loader.recs.drop 1, wait := .none } ∧
    t.rd64 R.CFG_SKIP_LO = (s.rd64 R.CFG_SKIP_LO + 1) % 2 ^ 64 ∧ t.g R.CFG_EVT.SKIP = 1 ∧
    Kept { s with loader := t.loader } t [R.CFG_SKIP_LO, R.CFG_SKIP_LO + 4, R.CFG_EVT]) ∧
  (∀ (s : State) (k ofs size : Nat) (h : List Byte) (recs : List RecAt) (r : RecAt), s.loader.cand = some k → s.loader.bodyRead = true → s.loader.verified = false →
    s.cfgSlot k = some (ofs, size) → h = s.loader.header → recs = parseRecs (leAt h 0x10 4) (hdBodyLen h / 8 + 1) 0 0 s.loader.plain →
    recs.find? (fun x => match x.body with | .unknown _ c => c | _ => false) = some r →
    sigsGood (hdFlags h) (sha384 (h ++ s.loader.cipher)) (s.flashBytes (ofs + 144 + hdBodyLen h) (hdSigLen h)) = true →
    (∀ x ∈ recs, x.body ≠ .bad) →
    exec .signatureVerifyComplete s = .next (State.passOn s (s.reject rejCrit r.idx (128 + r.ofs)))) ∧
  (∀ (s : State) (k ofs size : Nat) (h : List Byte) (recs : List RecAt) (r x : RecAt), s.loader.cand = some k → s.loader.bodyRead = true → s.loader.verified = false →
    s.cfgSlot k = some (ofs, size) → h = s.loader.header → recs = parseRecs (leAt h 0x10 4) (hdBodyLen h / 8 + 1) 0 0 s.loader.plain →
    recs.find? (fun x => match x.body with | .unknown _ c => c | _ => false) = some r →
    sigsGood (hdFlags h) (sha384 (h ++ s.loader.cipher)) (s.flashBytes (ofs + 144 + hdBodyLen h) (hdSigLen h)) = true →
    recs.find? (fun y => y.body == .bad) = some x →
    exec .signatureVerifyComplete s = .next (State.passOn s (s.reject rejRecord x.idx (128 + x.ofs)))) ∧
  (∀ (s : State) (k ofs size : Nat) (h : List Byte) (recs : List RecAt) (r : RecAt), s.loader.cand = some k → s.loader.bodyRead = true → s.loader.verified = false →
    s.cfgSlot k = some (ofs, size) → h = s.loader.header → recs = parseRecs (leAt h 0x10 4) (hdBodyLen h / 8 + 1) 0 0 s.loader.plain →
    recs.find? (fun x => match x.body with | .unknown _ c => c | _ => false) = some r →
    sigsGood (hdFlags h) (sha384 (h ++ s.loader.cipher)) (s.flashBytes (ofs + 144 + hdBodyLen h) (hdSigLen h)) = false →
    exec .signatureVerifyComplete s = .next (State.passOn s (s.reject rejSig 0 (144 + hdBodyLen h))))

/-- R78, R80-R85, R509: a port is enabled and disabled by MAC_CFG.EN; its lane trains, its PCS gains and loses lock, and LINK
follows within the rules of its polls. The MDIO masters. A command goes to its master busy and is done when its access ends,
a read with its data in MAC_MDIO_RD; a poll shows in PHY_UP; the gap after a round ends. -/
def Obligations.PortAndMdioCommands : Prop :=
  (∀ (s : State) (req p : Nat) (v : Word), p < 24 → Admitted s req (R.MAC_CFG p) (v ||| 0x80000000) →
    s.on (R.MAC_CFG.EN p) = false → (s.port p).closing = false → s.deferred req = false →
    speedOk p (fieldOf (v ||| 0x80000000) (R.MAC_CFG.SPEED p).lo (R.MAC_CFG.SPEED p).wd)
      (fieldOf (v ||| 0x80000000) (R.MAC_CFG.FEC p).lo (R.MAC_CFG.FEC p).wd) = true →
    ∃ t, exec (.macEnable req p v) s = .next t ∧ (t.port p).st = .down ∧ (t.port p).trained = false ∧
      t.g (R.MAC_STS.RATE p) = fieldOf (v ||| 0x80000000) (R.MAC_CFG.SPEED p).lo (R.MAC_CFG.SPEED p).wd ∧
      (∀ q, q ≠ p → t.port q = s.port q) ∧ Kept { s with ports := t.ports } t [R.MAC_CFG p, R.MAC_STS p]) ∧
  (∀ (s : State) (req p : Nat) (v : Word), p < 24 → Admitted s req (R.MAC_CFG p) (v &&& 0x7FFFFFFF) →
    s.enOn (R.MAC_CFG.EN p) = true → (s.port p).closing = false → (s.port p).st ≠ .up →
    ∃ t, exec (.macDisable req p v) s = .next t ∧ (t.port p).st = .disabled ∧ t.g (R.MAC_STS.LINK p) = 0 ∧
      t.g (R.MAC_STS.PCS_LOCK p) = 0 ∧ t.g (R.MAC_STS.RATE p) = 0 ∧ t.g (R.MAC_STS.CFG_ERR p) = 0 ∧
      (∀ q, q ≠ p → t.port q = s.port q) ∧ Kept { s with ports := t.ports } t [R.MAC_CFG p, R.MAC_STS p]) ∧
  (∀ (s : State) (p : Nat), p < 24 → (s.port p).st ≠ .disabled → ∃ t, exec (.laneTrained p) s = .next t ∧
    (t.port p).trained = true ∧ (∀ q, q ≠ p → t.port q = s.port q) ∧ Kept { s with ports := t.ports } t []) ∧
  (∀ (s : State) (p : Nat), p < 24 → (s.port p).trained = true →
    exec (.pcsLockGain p) s = .next (State.passOn s ((s.p (R.MAC_STS.PCS_LOCK p) 1).linkEval p))) ∧
  (∀ (s : State) (p : Nat), p < 24 → s.g (R.MAC_STS.PCS_LOCK p) = 1 → (s.port p).st ≠ .up → ∃ t, exec (.pcsLockLoss p) s = .next t ∧
    t.g (R.MAC_STS.PCS_LOCK p) = 0 ∧ t.g (R.MAC_STS.LINK p) = 0 ∧ t.g (R.MAC_EVT.PCS_LOSS p) = 1 ∧
    Kept s t [R.MAC_STS p, R.MAC_EVT p]) ∧
  (∀ (s : State) (req m : Nat) (v : Word), m < 2 → Admitted s req (R.MAC_MDIO_CMD m) (withField v 28 2 1) →
    s.stat (R.MAC_MDIO_CMD m) ≠ statBusy → ∃ t, exec (.mdioWrite req m v) s = .next t ∧ t.stat (R.MAC_MDIO_CMD m) = statBusy ∧
      ((t.mdioM m).cmd.map (fun a => (a.write, a.cl45, a.prt, a.data))) = some (true, bit (withField v 28 2 1).toNat 27,
        fieldOf (withField v 28 2 1) 22 5, fieldOf (withField v 28 2 1) 0 16) ∧
      Kept { s with mdio := t.mdio } t [R.MAC_MDIO_CMD m]) ∧
  (∀ (s : State) (req m : Nat) (v : Word), m < 2 → Admitted s req (R.MAC_MDIO_CMD m) (withField v 28 2 2) →
    s.stat (R.MAC_MDIO_CMD m) ≠ statBusy → ∃ t, exec (.mdioRead req m v) s = .next t ∧ t.stat (R.MAC_MDIO_CMD m) = statBusy ∧
      ((t.mdioM m).cmd.map (fun a => (a.write, a.cl45, a.prt))) = some (false, bit (withField v 28 2 2).toNat 27,
        fieldOf (withField v 28 2 2) 22 5) ∧
      Kept { s with mdio := t.mdio } t [R.MAC_MDIO_CMD m]) ∧
  (∀ (s : State) (m data : Nat) (a : MdioAcc), m < 2 → (s.mdioM m).started = true → (s.mdioM m).writing = false →
    (s.mdioM m).cmd = some a → a.write = false →
    ∃ t, exec (.mdioCommandComplete m data) s = .next t ∧ t.g (R.MAC_MDIO_RD.DATA m) = data % 65536 ∧
      t.stat (R.MAC_MDIO_CMD m) = statDone ∧ (t.mdioM m).cmd = none ∧ (t.mdioM m).last = some a ∧
      Kept { s with mdio := t.mdio } t [R.MAC_MDIO_RD m, R.MAC_MDIO_CMD m]) ∧
  (∀ (s : State) (m p data : Nat), m < 2 → s.polling m = true → s.pollNow m = some p → ∃ u : State, exec (.mdioPollComplete m data) s =
      .next (State.passOn s (u.linkEval p)) ∧
    u.g (R.MAC_STS.PHY_UP p) = (if data % 65536 ≠ 0xFFFF ∧ bit data (s.g (R.MAC_PHY.BIT p)) then 1 else 0) ∧
    (u.port p).poll1 = decide (data % 65536 ≠ 0xFFFF ∧ bit data (s.g (R.MAC_PHY.BIT p))) ∧ (u.port p).poll2 = (s.port p).poll1) ∧
  (∀ (s : State) (m : Nat), m < 2 → ∃ t, exec (.mdioRoundGapExpiry m) s = .next t ∧ (t.mdioM m).gap = false ∧
    (∀ k, k ≠ m → t.mdioM k = s.mdioM k) ∧ Kept { s with mdio := t.mdio } t [])

/-- R86-R91, R107: reception at a port that is UP. A frame shorter than 64 bytes is a runt: counted, RX_ERR, delivered nowhere
without ERR_DEL, and nothing is forwarded; an uncorrectable FEC block is counted; a good frame is counted, and with
forwarding enabled it is classified, admitted once its first cell is formed, which a frame below 128 bytes forms at its end, and at
its good end settled or taken on by its context. -/
def Obligations.FrameReception : Prop :=
  (∀ (s : State) (p : Nat) (b : List Byte), p < 24 → s.portUp p = true → s.rx p = none → b.length < 64 → b ≠ [] →
    s.on (R.MAC_CFG.ERR_DEL p) = false → s.saving = false →
    ∃ t, exec (.frameReceive p b false false) s = .next t ∧ t.rd64 (R.MAC_RUNT_LO p) = (s.rd64 (R.MAC_RUNT_LO p) + 1) % 2 ^ 64 ∧
      t.g (R.MAC_EVT.RX_ERR p) = 1 ∧ t.sw.frames = s.sw.frames ∧
      Kept { s with sw := t.sw } t [R.MAC_RUNT_LO p, R.MAC_RUNT_LO p + 4, R.MAC_EVT p]) ∧
  (∀ (s : State) (p : Nat), p < 24 → (s.port p).st ≠ .disabled → (s.port p).fec ≠ 0 → s.saving = false →
    ∃ t, exec (.fecBlockReceived p false) s = .next t ∧
      t.rd64 (R.MAC_FEC_UNCORR_LO p) = (s.rd64 (R.MAC_FEC_UNCORR_LO p) + 1) % 2 ^ 64 ∧ t.g (R.MAC_EVT.FEC_UNCORR p) = 1 ∧
      Kept s t [R.MAC_FEC_UNCORR_LO p, R.MAC_FEC_UNCORR_LO p + 4, R.MAC_EVT p]) ∧
  (∀ (s : State) (p : Nat) (b : List Byte), p < 24 → s.portUp p = true → s.rx p = none → 64 ≤ b.length → b.length ≤ s.maxFrame p →
    fcsGood b = true → isControl b = false → frameDa b ≠ [0x01, 0x80, 0xC2, 0x00, 0x00, 0x0E] → isGroup (frameDa b) = false →
    s.pins.forwarding = false → s.saving = false →
    ∃ t, exec (.frameReceive p b false false) s = .next t ∧ t.rd64 (R.MAC_RX_FRAMES_LO p) = (s.rd64 (R.MAC_RX_FRAMES_LO p) + 1) % 2 ^ 64 ∧
      t.rd64 (R.MAC_RX_OCTETS_LO p) = (s.rd64 (R.MAC_RX_OCTETS_LO p) + b.length) % 2 ^ 64 ∧ t.sw.frames = s.sw.frames ∧
      Kept { s with sw := t.sw } t [R.MAC_RX_FRAMES_LO p, R.MAC_RX_FRAMES_LO p + 4, R.MAC_RX_OCTETS_LO p, R.MAC_RX_OCTETS_LO p + 4]) ∧
  (∀ (s u : State) (p id : Nat) (b body : List Byte) (g : State × Option Frame × Option Frame) (f : Frame) (a : State × Option Nat),
    p < 24 → s.portUp p = true → s.rx p = none → 64 ≤ b.length → b.length < 128 → b.length ≤ s.maxFrame p →
    fcsGood b = true → isControl b = false → frameDa b ≠ [0x01, 0x80, 0xC2, 0x00, 0x00, 0x0E] → isGroup (frameDa b) = false →
    s.pins.forwarding = true → body = b.take (b.length - 4) → g = (s.setRx p none).classify p 0 ((s.rxOpen p b).asFrame p body) →
    g.2.1 = some f → u = (g.1.bump (R.MAC_RX_FRAMES_LO p)).bumpBy (R.MAC_RX_OCTETS_LO p) b.length →
    a = (match g.2.2 with | some l => u.learnRequest l | none => u).admitFrame p (cellsFor (s.maxFrame p))
      { f with bytes := body, size := body.length + 4 } → a.2 = some id →
    exec (.frameReceive p b false false) s = .next (State.passOn s (((a.1.sduCheck id b.length).ingressEnd id body).txSettle s))) ∧
  (∀ (s u : State) (p id : Nat) (b body : List Byte) (g : State × Option Frame × Option Frame) (f : Frame) (a : State × Option Nat),
    p < 24 → s.portUp p = true → s.rx p = none → 128 ≤ b.length → b.length ≤ s.maxFrame p →
    fcsGood b = true → isControl b = false → frameDa b ≠ [0x01, 0x80, 0xC2, 0x00, 0x00, 0x0E] → isGroup (frameDa b) = false →
    s.pins.forwarding = true → body = b.take (b.length - 4) → g = (s.setRx p none).classify p 0 ((s.rxOpen p b).asFrame p body) →
    g.2.1 = some f → a = g.1.admitFrame p (cellsFor (s.maxFrame p)) { f with bytes := body, size := body.length + 4 } → a.2 = some id →
    u = ((a.1.sduCheck id b.length).bump (R.MAC_RX_FRAMES_LO p)).bumpBy (R.MAC_RX_OCTETS_LO p) b.length →
    exec (.frameReceive p b false false) s = .next (State.passOn s
      ((((match g.2.2 with | some l => u.learnRequest l | none => u).sduCheck id b.length).ingressEnd id body).txSettle s)))

/-- R95, R96, R99, R101: MAC merge. EN set at a port that is UP sends the first verify; a timeout sends up to three and then fails; a
respond verifies; a verify is answered; a first fragment of at least 60 bytes stands in assembly with its frame count. Flow control.
A PAUSE received with RX_EN in PAUSE mode pauses the port for its time and is counted; a PFC in PFC mode pauses the class it names; a
time that runs out releases; under PAUSE a standing threshold sends again. -/
def Obligations.MergeAndFlowControl : Prop :=
  (∀ (s : State) (req p : Nat) (v : Word), p < 24 → Admitted s req (R.MAC_MM_CFG p) (v ||| 0x80000000) →
    s.on (R.MAC_MM_CFG.EN p) = false → bit (v ||| 0x80000000).toNat 30 = false → s.portUp p = true →
    ∃ t, exec (.mmEnable req p v) s = .next t ∧ t.g (R.MAC_MM_STS.VSTATE p) = mmVerifying ∧ (t.port p).attempt = 1 ∧
      (t.port p).verifySent = (s.port p).verifySent + 1 ∧ (∀ q, q ≠ p → t.port q = s.port q) ∧
      Kept { s with ports := t.ports } t [R.MAC_MM_CFG p, R.MAC_MM_STS p]) ∧
  (∀ (s : State) (p : Nat), p < 24 → s.g (R.MAC_MM_STS.VSTATE p) = mmVerifying → 3 ≤ (s.port p).attempt →
    ∃ t, exec (.mmVerifyTimeout p) s = .next t ∧ t.g (R.MAC_MM_STS.VSTATE p) = mmFailed ∧ t.g (R.MAC_EVT.MM_FAILED p) = 1 ∧
      Kept s t [R.MAC_MM_STS p, R.MAC_EVT p]) ∧
  (∀ (s : State) (p : Nat), p < 24 → s.g (R.MAC_MM_STS.VSTATE p) = mmVerifying → (s.port p).attempt < 3 →
    ∃ t, exec (.mmVerifyTimeout p) s = .next t ∧ (t.port p).attempt = (s.port p).attempt + 1 ∧
      (t.port p).verifySent = (s.port p).verifySent + 1 ∧ Kept { s with ports := t.ports } t []) ∧
  (∀ (s : State) (p : Nat), p < 24 → s.portUp p = true → s.on (R.MAC_MM_CFG.EN p) = true → s.g (R.MAC_MM_STS.VSTATE p) = mmVerifying →
    ∃ t, exec (.mmRespondReceived p) s = .next t ∧ t.g (R.MAC_MM_STS.VSTATE p) = mmSucceeded ∧ t.g (R.MAC_EVT.MM_VERIFIED p) = 1 ∧
      Kept s t [R.MAC_MM_STS p, R.MAC_EVT p]) ∧
  (∀ (s : State) (p : Nat), p < 24 → s.portUp p = true → s.on (R.MAC_MM_CFG.EN p) = true →
    ∃ t, exec (.mmVerifyReceived p) s = .next t ∧ (t.port p).respondSent = (s.port p).respondSent + 1 ∧
      Kept { s with ports := t.ports } t []) ∧
  (∀ (s : State) (p n : Nat) (b : List Byte), p < 24 → s.portUp p = true → s.on (R.MAC_MM_CFG.EN p) = true → (s.port p).asm = none →
    60 ≤ b.length → (b.length < 64 ∨ s.pins.forwarding = false) →
    ∃ t, exec (.mmFragmentReceived p false false n b true false) s = .next t ∧ (t.port p).asm = some ⟨s.rxOpen p b, n % 4⟩ ∧
      (∀ q, q ≠ p → t.port q = s.port q) ∧ Kept { s with ports := t.ports } t []) ∧
  (∀ (s : State) (p q : Nat), p < 24 → q < 65536 → s.portUp p = true → s.fcMode p = 1 → s.on (R.MAC_FC_CFG.RX_EN p) = true →
    s.saving = false → ∃ t, exec (.pauseReceived p q) s = .next t ∧ (t.port p).pause = q ∧ t.on (R.MAC_STS.TX_PAUSED p) = (q != 0) ∧
      t.rd64 (R.MAC_RX_PAUSE_LO p) = (s.rd64 (R.MAC_RX_PAUSE_LO p) + 1) % 2 ^ 64 ∧ t.g (R.MAC_EVT.PAUSE_RX p) = 1 ∧
      Kept { s with ports := t.ports } t [R.MAC_RX_PAUSE_LO p, R.MAC_RX_PAUSE_LO p + 4, R.MAC_EVT p, R.MAC_STS p]) ∧
  (∀ (s : State) (p q : Nat), p < 24 → q < 65536 → q ≠ 0 → s.portUp p = true → s.fcMode p = 2 → s.on (R.MAC_FC_CFG.RX_EN p) = true →
    bit (s.g (R.MAC_FC_CFG.PFC_IGN p)) 0 = false → s.saving = false → ∃ t, exec (.pfcReceived p 1 [q]) s = .next t ∧
      (t.port p).pfc.get (fun _ => 0) 0 = q ∧ bit (t.g (R.MAC_STS.PFC_PAUSED p)) 0 = true ∧
      t.rd64 (R.MAC_RX_PFC_LO p) = (s.rd64 (R.MAC_RX_PFC_LO p) + 1) % 2 ^ 64 ∧
      Kept { s with ports := t.ports } t [R.MAC_RX_PFC_LO p, R.MAC_RX_PFC_LO p + 4, R.MAC_EVT p, R.MAC_STS p]) ∧
  (∀ (s : State) (p : Nat), p < 24 → ∃ t, exec (.pauseTimerExpiry p none) s = .next t ∧ (t.port p).pause = 0 ∧
    t.g (R.MAC_STS.TX_PAUSED p) = 0 ∧ Kept { s with ports := t.ports } t [R.MAC_STS p]) ∧
  (∀ (s : State) (p k : Nat), p < 24 → k < 8 → ∃ t, exec (.pauseTimerExpiry p (some k)) s = .next t ∧ (t.port p).pfc.get (fun _ => 0) k = 0 ∧
    bit (t.g (R.MAC_STS.PFC_PAUSED p)) k = false ∧ Kept { s with ports := t.ports } t [R.MAC_STS p]) ∧
  (∀ (s : State) (p : Nat), p < 24 → (s.port p).xoffSent ≠ 0 → s.fcMode p = 1 → s.on (R.MAC_FC_CFG.TX_EN p) = true →
    s.g (R.MAC_FC_TIME.QUANTA p) ≠ 0 → s.portUp p = true → s.saving = false →
    ∃ t, exec (.pauseRefresh p) s = .next t ∧ (t.port p).sent = pauseFrame (s.macSa p) (s.g (R.MAC_FC_TIME.QUANTA p)) ∧
      t.rd64 (R.MAC_TX_PAUSE_LO p) = (s.rd64 (R.MAC_TX_PAUSE_LO p) + 1) % 2 ^ 64 ∧
      Kept { s with ports := t.ports } t [R.MAC_TX_PAUSE_LO p, R.MAC_TX_PAUSE_LO p + 4])

/-- R132, R133: the table commands that read, search and delete, on channels 0-6. READ and SEARCH copy the entry into the
channel's TBL_DATA, SEARCH naming its index; INVAL and DELETE clear VALID of one entry and change no other; each ends done.
FLUSH takes its selection and stays busy. -/
def Obligations.TableLookups : Prop :=
  (∀ (s : State) (req c table i : Nat), c < 7 → table < 4 → i < 16384 → Admitted s req (R.TBL_CMD c) (tblWord 1 table i) →
    s.stat (R.TBL_CMD c) ≠ statBusy → s.tblBusy = false → indexOk table i = true → s.entBad table i = 0 →
    ∃ t, exec (.tblRead req c table i) s = .next t ∧ t.dataOf c = s.ent table i ∧ t.stat (R.TBL_CMD c) = statDone ∧
      Kept s t [R.TBL_CMD c, R.TBL_DATA_LO c, R.TBL_DATA_W1 c, R.TBL_DATA_W2 c, R.TBL_DATA_HI c]) ∧
  (∀ (s : State) (req c i : Nat), c < 7 → Admitted s req (R.TBL_CMD c) (tblWord 6 3 0) → s.stat (R.TBL_CMD c) ≠ statBusy →
    s.tblBusy = false → s.findKey (s.dataOf c).key = some i → (∀ j ∈ s.waysOf (s.dataOf c).key, s.entBad 3 j = 0) →
    ∃ t, exec (.tblSearch req c) s = .next t ∧ t.dataOf c = s.ent 3 i ∧ t.g (R.TBL_CMD.INDEX c) = i ∧
      t.stat (R.TBL_CMD c) = statDone ∧
      Kept s t [R.TBL_CMD c, R.TBL_DATA_LO c, R.TBL_DATA_W1 c, R.TBL_DATA_W2 c, R.TBL_DATA_HI c]) ∧
  (∀ (s : State) (req c table i : Nat), c < 7 → table < 4 → i < 16384 → Admitted s req (R.TBL_CMD c) (tblWord 3 table i) →
    s.stat (R.TBL_CMD c) ≠ statBusy → s.tblBusy = false → indexOk table i = true → (s.ent table i).valid table = true →
    ∃ t, exec (.tblInval req c table i false) s = .next t ∧ t.ent table i = (s.ent table i).setValid table false ∧
      (∀ n, n ≠ entNo table i → t.tbl.ents.get (fun _ => {}) n = s.tbl.ents.get (fun _ => {}) n) ∧
      t.rd R.TBL_EPOCH = s.rd R.TBL_EPOCH + 1 ∧ t.stat (R.TBL_CMD c) = statDone ∧
      Kept { s with tbl := t.tbl } t [R.TBL_CMD c, R.TBL_EPOCH]) ∧
  (∀ (s : State) (req c i : Nat), c < 7 → Admitted s req (R.TBL_CMD c) (tblWord 5 3 0) → s.stat (R.TBL_CMD c) ≠ statBusy →
    s.tblBusy = false → s.findKey (s.dataOf c).key = some i → (∀ j ∈ s.waysOf (s.dataOf c).key, s.entBad 3 j = 0) →
    ∃ t, exec (.tblDelete req c false) s = .next t ∧ t.ent 3 i = (s.ent 3 i).setValid 3 false ∧
      (∀ n, n ≠ entNo 3 i → t.tbl.ents.get (fun _ => {}) n = s.tbl.ents.get (fun _ => {}) n) ∧
      t.rd R.TBL_EPOCH = s.rd R.TBL_EPOCH + 1 ∧ t.stat (R.TBL_CMD c) = statDone ∧
      Kept { s with tbl := t.tbl } t [R.TBL_CMD c, R.TBL_EPOCH]) ∧
  (∀ (s : State) (req c : Nat), c < 7 → Admitted s req (R.TBL_CMD c) (tblWord 7 3 0) → s.stat (R.TBL_CMD c) ≠ statBusy →
    s.tblBusy = false → ∃ t, exec (.tblFlush req c) s = .next t ∧ t.tbl = { s.tbl with flush := some (c, s.rd (R.TBL_DATA_LO c)) } ∧
      t.stat (R.TBL_CMD c) = statBusy ∧ Kept { s with tbl := t.tbl } t [R.TBL_CMD c])

/-- R120, R121, R131, R133-R135, R160: writes of the tables. WRITE puts TBL_DATA into the entry, INSERT puts a new key into the
lowest free way of its first bucket and names the index; the epoch advances by one where something changed, and so it does
for SW_MCGRP. A row found faulty is mapped to a spare. The end of a flush. Every learning entry it selects is gone, every
other stands; a full flush makes SEED the active seed; the command ends done. A drain. The write captures the epoch and is
busy; with no older frame left it is done; at its timeout it has failed and is counted. -/
def Obligations.TableWrites : Prop :=
  (∀ (s : State) (req c table i : Nat), c < 7 → table < 4 → i < 16384 → Admitted s req (R.TBL_CMD c) (tblWord 2 table i) →
    s.stat (R.TBL_CMD c) ≠ statBusy → s.tblBusy = false → indexOk table i = true →
    (table = 3 → (s.dataOf c).valid 3 = true → i ∈ s.waysOf (s.dataOf c).key ∧ (s.findKey (s.dataOf c).key).all (· == i) = true ∧
      ∀ j ∈ s.waysOf (s.dataOf c).key, s.entBad 3 j = 0) →
    ∃ t, exec (.tblWrite req c table i false) s = .next t ∧ t.ent table i = s.dataOf c ∧ t.entBad table i = 0 ∧
      (∀ n, n ≠ entNo table i → t.tbl.ents.get (fun _ => {}) n = s.tbl.ents.get (fun _ => {}) n) ∧
      t.rd R.TBL_EPOCH = (if s.ent table i = s.dataOf c ∧ s.entBad table i = 0 then s.rd R.TBL_EPOCH else s.rd R.TBL_EPOCH + 1) ∧
      t.stat (R.TBL_CMD c) = statDone ∧ Kept { s with tbl := t.tbl } t [R.TBL_CMD c, R.TBL_EPOCH]) ∧
  (∀ (s : State) (req c w : Nat), c < 7 → Admitted s req (R.TBL_CMD c) (tblWord 4 3 0) → s.stat (R.TBL_CMD c) ≠ statBusy →
    s.tblBusy = false → s.findKey (s.dataOf c).key = none → s.freeWay (s.buckets (s.dataOf c).key).1 = some w →
    (∀ j ∈ s.waysOf (s.dataOf c).key, s.entBad 3 j = 0) →
    ∃ t, exec (.tblInsert req c false) s = .next t ∧
      t.ent 3 ((s.buckets (s.dataOf c).key).1 * 4 + w) = (s.dataOf c).setValid 3 true ∧
      (∀ n, n ≠ entNo 3 ((s.buckets (s.dataOf c).key).1 * 4 + w) → t.tbl.ents.get (fun _ => {}) n = s.tbl.ents.get (fun _ => {}) n) ∧
      t.g (R.TBL_CMD.INDEX c) = (s.buckets (s.dataOf c).key).1 * 4 + w ∧ t.rd R.TBL_EPOCH = s.rd R.TBL_EPOCH + 1 ∧
      t.stat (R.TBL_CMD c) = statDone ∧ Kept { s with tbl := t.tbl } t [R.TBL_CMD c, R.TBL_EPOCH]) ∧
  (∀ (s : State) (req g mask : Nat), g < 1024 → mask < 2 ^ 28 → Admitted s req (R.SW_MCGRP g) (W mask) → s.g (R.SW_MCGRP.MASK g) ≠ mask →
    ∃ t, exec (.mcgrpWrite req g mask) s = .next t ∧ t.g (R.SW_MCGRP.MASK g) = mask ∧ t.rd R.TBL_EPOCH = s.rd R.TBL_EPOCH + 1 ∧
      Kept s t [R.SW_MCGRP g, R.TBL_EPOCH]) ∧
  (∀ (s : State) (table row n : Nat), table < 4 → row < 4096 → s.tbl.repair = none → s.sparesLeft table = n + 1 →
    exec (.tableRowRepair table row) s = .next (State.passOn s
      (({ s with tbl := { s.tbl with spares := s.tbl.spares.set spareRows table n } }.bump R.TBL_ROW_REPAIR_LO).shimRepair
        repRow 4 table row (spareRows table - (n + 1))))) ∧
  (∀ (s : State) (c : Nat) (sel : Word), c < 7 → s.tbl.flush = some (c, sel) → s.tbl.waiting = [] →
    Tab.wf (fun _ => ({} : Ent)) s.tbl.ents = true →
    ∃ t, exec (.tblFlushComplete []) s = .next t ∧ t.tbl.flush = none ∧ t.stat (R.TBL_CMD c) = statDone ∧
      (∀ i, flushSelects sel (s.ent 3 i) = true → t.ent 3 i = (s.ent 3 i).setValid 3 false) ∧
      (∀ i, flushSelects sel (s.ent 3 i) = false → t.ent 3 i = s.ent 3 i) ∧
      (∀ n, n < 49152 → t.tbl.ents.get (fun _ => {}) n = s.tbl.ents.get (fun _ => {}) n) ∧
      t.g R.TBL_HASH.SEED_ACT = (if fieldOf sel 29 3 = 1 then s.g R.TBL_HASH.SEED else s.g R.TBL_HASH.SEED_ACT) ∧
      Kept { s with tbl := t.tbl } t [R.TBL_CMD c, R.TBL_EPOCH, R.TBL_HASH]) ∧
  (∀ (s : State) (req tmo : Nat), tmo < 65536 → Admitted s req R.TBL_DRAIN (W tmo) → s.stat R.TBL_DRAIN ≠ statBusy →
    ∃ t, exec (.tblDrain req tmo) s = .next t ∧ t.rd R.TBL_DRAIN_EP = s.rd R.TBL_EPOCH ∧ t.stat R.TBL_DRAIN = statBusy ∧
      fieldOf (t.rd R.TBL_DRAIN) 0 16 = tmo ∧ Kept s t [R.TBL_DRAIN, R.TBL_DRAIN_EP]) ∧
  (∀ s : State, s.stat R.TBL_DRAIN = statBusy → s.olderFrames = false →
    ∃ t, exec .tblDrained s = .next t ∧ t.stat R.TBL_DRAIN = statDone ∧ t.g R.TBL_EVT.DRAINED = 1 ∧ Kept s t [R.TBL_DRAIN, R.TBL_EVT]) ∧
  (∀ s : State, s.stat R.TBL_DRAIN = statBusy → s.saving = false →
    ∃ t, exec .tblDrainTmo s = .next t ∧ t.stat R.TBL_DRAIN = statFailed ∧ t.g R.TBL_EVT.DRAIN_TMO = 1 ∧
      t.rd64 R.TBL_DRAIN_TMO_LO = (s.rd64 R.TBL_DRAIN_TMO_LO + 1) % 2 ^ 64 ∧
      Kept s t [R.TBL_DRAIN, R.TBL_EVT, R.TBL_DRAIN_TMO_LO, R.TBL_DRAIN_TMO_LO + 4])

/-- R125, R128-R130: learning, ageing and scrubbing. A request for an unknown key takes the lowest free way of its first bucket,
with its port and the time; a second passes and a sweep begins; an entry found bad is counted, logged and reported. -/
def Obligations.LearningAndAgeing : Prop :=
  (∀ (s : State) (r : LearnReq) (rest : List LearnReq) (w : Nat), s.tbl.fifo = r :: rest → rest.length < 256 → r.hi &&& 0x0FFFFFFF = r.hi →
    s.findKey (r.lo, r.hi) = none → (∀ j ∈ s.waysOf (r.lo, r.hi), s.entBad 3 j = 0) → s.freeWay (s.buckets (r.lo, r.hi)).1 = some w →
    s.saving = false → s.tblBusy = false → s.tbl.waiting = [] →
    ∃ t, exec (.learnProcess false) s = .next t ∧ t.ent 3 ((s.buckets (r.lo, r.hi)).1 * 4 + w) =
        ⟨r.lo, r.hi, W (2 ^ 31 + (r.port % 32) * 2 ^ 23), W (s.g R.TBL_NOW.SEC)⟩ ∧
      (∀ n, n ≠ entNo 3 ((s.buckets (r.lo, r.hi)).1 * 4 + w) → t.tbl.ents.get (fun _ => {}) n = s.tbl.ents.get (fun _ => {}) n) ∧
      t.tbl.fifo = rest ∧ t.g R.TBL_LEARN_STS.LEVEL = rest.length ∧
      t.rd64 R.TBL_LEARN_LO = (s.rd64 R.TBL_LEARN_LO + 1) % 2 ^ 64 ∧
      Kept { s with tbl := t.tbl } t [R.TBL_LEARN_STS, R.TBL_LEARN_LO, R.TBL_LEARN_LO + 4]) ∧
  (∀ s : State, ∃ t, exec .ageingSecond s = .next t ∧ t.g R.TBL_NOW.SEC = (s.g R.TBL_NOW.SEC + 1) % 65536 ∧
    t.tbl = { s.tbl with sweep := some 0 } ∧ Kept { s with tbl := t.tbl } t [R.TBL_NOW]) ∧
  (∀ (s : State) (b : Nat), s.tbl.sweep = some b → b + 1 < 4096 → (∀ w, w < 4 → s.entBad 3 (b * 4 + w) = 0) →
    ∃ t, exec (.ageingBucketScan 0) s = .next t ∧ t.tbl.sweep = some (b + 1) ∧
      (∀ w, w < 4 → (s.ent 3 (b * 4 + w)).valid 3 = true → (s.ent 3 (b * 4 + w)).isStatic = false → s.g R.TBL_AGE.LIMIT ≠ 0 →
        s.g R.TBL_AGE.LIMIT ≤ (s.g R.TBL_NOW.SEC + 65536 - (s.ent 3 (b * 4 + w)).age) % 65536 →
        (t.ent 3 (b * 4 + w)).valid 3 = false) ∧
      (∀ w, w < 4 → (s.ent 3 (b * 4 + w)).valid 3 = false → t.ent 3 (b * 4 + w) = s.ent 3 (b * 4 + w)) ∧
      (∀ n, (∀ w, w < 4 → n ≠ entNo 3 (b * 4 + w)) → t.tbl.ents.get (fun _ => {}) n = s.tbl.ents.get (fun _ => {}) n) ∧
      Kept { s with tbl := t.tbl } t [R.TBL_AGED_LO, R.TBL_AGED_LO + 4]) ∧
  (∀ (s : State) (table i bad : Nat), table < 3 → i < tableSize table → 0 < bad → bad < 16 → s.entBad table i = 0 →
    exec (.tableScrub table i bad) s = .next (State.passOn s
      (((((s.setBad table i bad).bump R.TBL_PAR_ERR_LO).ev R.TBL_EVT.PERR).wr R.TBL_PERR_LOG
        (W (table * 2 ^ 30 + lowWord bad * 2 ^ 14 + i))).fault (64 + table) (faultInfo 1 table i))))

/-- R92, R150, R151, R153, R154, R162, R163, R165, R167: the way of a frame through the Carcass. With room in the staging store
the egress scheduler takes the express head of class 7 first; a matching cycle sends the one cell asked for on the input's
next ply; a cell that arrives in order is released to its output, and a gap that is lost is passed over, the frame of a cell that is
not FIRST with it; a staged copy is sent. Copies that are not sent in time. The age scanner drops the heads past their limit, output by output; a multicast copy
not fetched in time is counted and dropped; a flush ends and the output is UP if its port and forwarding are. -/
def Obligations.CarcassFrames : Prop :=
  (∀ (s : State) (o : Nat) (h : Nat × SwFrame × Copy), o < 28 → (o < 24 → s.g (R.MAC_STS.TX_PAUSED o) = 0) →
    (s.heads o).any (fun x => s.tooOld x.2.1.f) = false → s.fetching o true = false → s.rrPick o 7 = some h →
    s.promised o + h.2.1.need ≤ 96 → exec (.egressFetch o) s = .next (State.passOn s (s.startFetch o h))) ∧
  (∀ (s : State) (id p : Nat) (x : SwFrame) (c : Copy), s.sw.frames = [(id, x)] → x.copies = [c] → x.f.ingress < 28 →
    c.fetched = true → c.sent + 1 = x.ready → s.nextPly x.f.ingress = some p →
    ∃ t, exec (.matchingCycle []) s = .next t ∧ t.sw.flight = s.sw.flight ++ [
        { src := x.f.ingress, dst := c.out, frame := id, first := c.sent == 0, last := x.whole && c.sent + 1 == cellsFor x.len,
          seq := s.sw.seq.get (fun _ => 0) (pairNo x.f.ingress c.out), ply := p,
          hdr := cellHeader x c (s.sw.seq.get (fun _ => 0) (pairNo x.f.ingress c.out)) c.sent (min 128 (x.len - 128 * c.sent))
              (x.whole && c.sent + 1 == cellsFor x.len) }] ∧
      t.sw.frames = [(id, x.modCopy c.out (fun y => { y with sent := y.sent + 1 }))] ∧ t.sw.turn = (s.sw.turn + 1) % 28 ∧
      Kept { s with sw := t.sw } t []) ∧
  (∀ (s : State) (n : Nat) (c : Cell) (y : Copy), s.sw.flight[n]? = some c → c.dst < 24 → (s.dove c.src c.dst).held = [] →
    (s.dove c.src c.dst).next = c.seq → (s.dove c.src c.dst).skip = false → c.lost = false → (s.fr c.frame).copyAt c.dst = some y →
    exec (.cellArrival n) s = .next (State.passOn s
      ((({ s with sw := { s.sw with flight := s.sw.flight.eraseIdx n } }.setDove c.src c.dst
        { next := (c.seq + 1) % 1024, held := [], skip := false }).modFr c.frame
          (fun x => x.modCopy c.dst (fun z => { z with got := z.got + 1 }))).stagedTouch c.dst |>.cleanFr c.frame))) ∧
  (∀ (s : State) (i o : Nat) (c : Cell), i < 28 → o < 28 → (s.dove i o).held = [c] → c.seq < 1024 → (s.dove i o).next < 1024 →
    c.seq ≠ (s.dove i o).next → c.first = false → (∀ x ∈ s.sw.flight, ¬ (x.src = i ∧ x.dst = o)) →
    exec (.reseqGapTimeout i o) s = .next (State.passOn s
      (((s.setDove i o { next := (c.seq + 1) % 1024, held := [], skip := true }).reseqDrop c.frame o).txSettle s))) ∧
  (∀ (s : State) (o id : Nat) (c : Copy), o < 24 → s.portUp o = true → (s.port o).closing = false → (s.port o).txCut = none → (s.port o).txHeld = none →
    (s.sched o).exq.head? = some id → (s.fr id).copyAt o = some c → (s.fr id).crossed c = true → s.held = false →
    s.paused o (s.fr id).f.cls = false → s.tooOld (s.fr id).f = false →
    exec (.frameTransmit o true []) s = .next (State.passOn s (s.sendCopy o id []))) ∧
  (∀ s : State, exec .ageScan s = .next (State.passOn s
    (s.each (List.range 28) (fun o u => u.each ((u.heads o).filter (fun h => u.tooOld h.2.1.f)) (fun h v => v.ageDrop h.1 o))))) ∧
  (∀ (s : State) (o i k : Nat) (h : Nat × SwFrame × Copy), o < 28 →
    (s.queued o).find? (fun x => x.2.2.mcq && x.2.1.f.ingress == i && x.2.1.f.cls == k && (x.2.1.elig || x.2.2.ct)) = some h →
    exec (.mcTmo o i k) s = .next (State.passOn s (((s.bump (R.SW_MC_TMO_LO o)).ev R.SW_EVT.MC_TMO).dropCopy h.1 o))) ∧
  (∀ (s : State) (o : Nat), o < 24 → s.on (R.SW_OUT_STS.FLUSHING o) = true →
    ∃ t, exec (.outputFlushComplete o) s = .next t ∧ t.g (R.SW_OUT_STS.FLUSHING o) = 0 ∧
      t.on (R.SW_OUT_STS.UP o) = (s.portUp o && s.pins.forwarding) ∧ Kept s t [R.SW_OUT_STS o])

/-- R168, R170, R171: the plies. One that fails with no cell on it leaves the rotation, is counted and reported, and the spare
trains; one that passes its self-test is ACTIVE; RETIRE drains an ACTIVE ply, which becomes SPARE once empty; RETEST stays
busy until its test ends, and a FAILED ply that passes becomes SPARE. -/
def Obligations.PlyCommands : Prop :=
  (∀ (s : State) (p : Nat), p < 5 → s.ply p = plyActive → (∀ c ∈ s.sw.flight, c.ply ≠ p) →
    (let u := (((s.setPly p plyFailed).ev R.SW_EVT.PLY_FAIL).bump R.SW_PLY_FAIL_LO).fault (80 + p) (faultInfo 3 p 0)
     (({ u with sw := { u.sw with replaced := some p } }.bringSpare).plyTouch p).inService ≠ []) →
    exec (.plyFail p) s = .next (State.passOn s
      (let u := (((s.setPly p plyFailed).ev R.SW_EVT.PLY_FAIL).bump R.SW_PLY_FAIL_LO).fault (80 + p) (faultInfo 3 p 0)
       ({ u with sw := { u.sw with replaced := some p } }.bringSpare).plyTouch p))) ∧
  (∀ (s : State) (p : Nat), p < 5 → s.ply p = plyTraining → s.sw.replaced = none →
    exec (.plyReady p true) s = .next (State.passOn s (((s.setPly p plyActive).ev R.SW_EVT.PLY_READY).plyTouch p))) ∧
  (∀ (s : State) (p : Nat), p < 5 → s.ply p = plyDraining → (∀ c ∈ s.sw.flight, c.ply ≠ p) →
    exec (.plyDrained p) s = .next (State.passOn s ((s.bringSpare.setPly p plySpare).plyTouch p))) ∧
  (∀ (s : State) (req p : Nat), p < 5 → Admitted s req R.SW_PLY_CMD (W (8 * p + 1)) → s.stat R.SW_PLY_CMD ≠ statBusy →
    s.ply p = plyActive → 3 ≤ s.otherPlies p → ∃ t, exec (.plyRetire req p) s = .next t ∧ t.ply p = plyDraining ∧
      t.stat R.SW_PLY_CMD = statDone ∧ Kept s t [R.SW_PLY_CMD, R.SW_PLY_STS]) ∧
  (∀ (s : State) (req p : Nat), p < 5 → Admitted s req R.SW_PLY_CMD (W (8 * p + 2)) → s.stat R.SW_PLY_CMD ≠ statBusy →
    s.ply p = plyFailed → ∃ t, exec (.plyRetest req p) s = .next t ∧ t.stat R.SW_PLY_CMD = statBusy ∧ t.g R.SW_PLY_CMD.PLY = p ∧
      Kept s t [R.SW_PLY_CMD]) ∧
  (∀ s : State, s.stat R.SW_PLY_CMD = statBusy → exec (.plyRetestDone true) s = .next (State.passOn s
    (((s.setStat R.SW_PLY_CMD statDone).setPly (s.g R.SW_PLY_CMD.PLY) plySpare).plyTouch (s.g R.SW_PLY_CMD.PLY)))) ∧
  (∀ s : State, s.stat R.SW_PLY_CMD = statBusy → ∃ t, exec (.plyRetestDone false) s = .next t ∧ t.stat R.SW_PLY_CMD = statFailed ∧
    Kept s t [R.SW_PLY_CMD])

/-- R187, R189-R192, R195, R197, R199: a verifying stream context is enabled with its fields sampled, its window closed, HIGH no
lower than the stored one, and the recovery state taking any number; disabled it is DISABLED, its watchdog disarmed.
Verdicts. A verification job that ends frees its core and, the frame being young enough and its tag wrong, drops the frame
with AUTH_FAIL, or, its tag right and its freshness new, accepts it; a generation job that ends sends the frame on with its trailer.
The timers of a stream context: rollover clears VALID of the old entry, silence and the recovery reset raise their alarms; a write of a
key entry ends ROLLING; HIGH is stored. -/
def Obligations.StreamContexts : Prop :=
  (∀ (s : State) (req n : Nat) (v : Word), n < 256 → Admitted s req (R.STR_CFG n) (v ||| 0x80000000) → s.on (R.STR_CFG.EN n) = false →
    fieldOf (v ||| 0x80000000) 28 3 = 1 →
    ∃ t, exec (.strEnable req n v) s = .next t ∧ t.ctxState n = ctxActive ∧ (t.ctx n).cfg = t.rd (R.STR_CFG n) ∧
      (t.ctx n).auth = 1 ∧ t.high n = max (s.high n) (s.storedHigh n) % 2 ^ 64 ∧ t.win n = 2 ^ 64 - 1 ∧ t.g (R.STR_SEQ_STS.TAKE_ANY n) = 1 ∧
      (∀ k, k ≠ n → t.ctx k = s.ctx k) ∧
      Kept { s with str := t.str } t [R.STR_CFG n, R.STR_STS n, R.STR_SEQ_STS n, R.STR_WIN_LO n, R.STR_WIN_LO n + 4, R.STR_FRESH_LO n,
        R.STR_FRESH_LO n + 4, R.STR_BUDGET, R.STR_EVT0]) ∧
  (∀ (s : State) (req n : Nat) (v : Word), n < 256 → Admitted s req (R.STR_CFG n) (v &&& 0x7FFFFFFF) → s.on (R.STR_CFG.EN n) = true →
    s.rxOfCtx n = [] → (∀ q ∈ (s.ctx n).pend, q.stage ≠ 0) →
    ∃ t, exec (.strDisable req n v) s = .next t ∧ t.ctxState n = ctxDisabled ∧ t.g (R.STR_STS.CFG_ERR n) = 0 ∧
      t.g (R.STR_STS.ROLLING n) = s.g (R.STR_STS.ROLLING n) ∧ (t.ctx n).armed = false ∧ (∀ k, k ≠ n → t.ctx k = s.ctx k) ∧
      Kept { s with str := t.str } t [R.STR_CFG n, R.STR_STS n, R.STR_BUDGET, R.STR_EVT0]) ∧
  (∀ (s : State) (k n id : Nat) (j : Job) (q : StrPend), s.jobOn k = some j → j.user = .strVerify n id → s.pendOf n id = some q →
    s.hasFr id = true →
    (s.endJob k j).tooOld ((s.endJob k j).fr q.frame).f = false →
    tagMatches j.key ((s.endJob k j).fr q.frame).f.bytes ((s.endJob k j).ctx n).tagLen = false →
    exec (.verifyJobDone k) s = .next (State.passOn s
      ((((((s.endJob k j).bump (R.STR_AUTH_FAIL_LO n)).alarm (R.STR_ALARM.AUTH_FAIL n)).tapTrigger n 2).strDrop q.frame).verDropped n q))) ∧
  (∀ (s : State) (k n id : Nat) (j : Job) (q : StrPend), s.jobOn k = some j → j.user = .strVerify n id → s.pendOf n id = some q →
    s.hasFr id = true →
    q.seq = none → (let u := s.endJob k j
      u.tooOld (u.fr q.frame).f = false ∧ tagMatches j.key (u.fr q.frame).f.bytes (u.ctx n).tagLen = true ∧
      windowPasses (u.high n) (u.win n) q.fresh = true) →
    exec (.verifyJobDone k) s = .next (State.passOn s
      (let u := s.endJob k j
       let w := windowTake (u.high n) (u.win n) q.fresh
       (((((u.wr64 (R.STR_FRESH_LO n) w.1).wr64 (R.STR_WIN_LO n) w.2).rollover n q.entry).strAccept n q.frame).strFinish n q.frame).wakeSeq
         n none true))) ∧
  (∀ (s : State) (k n id : Nat) (j : Job) (q : StrPend), s.jobOn k = some j → j.user = .strGenerate n id → s.pendOf n id = some q →
    s.hasFr id = true →
    exec (.generateJobDone k) s = .next (State.passOn s
      (let u := s.endJob k j
       let tl := (u.ctx n).tagLen
       let head := beBytes 2 (trailerType tl) ++ [B8 q.label, 0] ++ beBytes 8 q.fresh
       (((u.bump (R.STR_GEN_LO n)).modFr q.frame (fun y => { y with trailer := head ++ (cmac j.key (macInput (u.fr q.frame).f.bytes head)).take tl })).dropPend n q.frame).makeEligible q.frame))) ∧
  (∀ (s : State) (n : Nat), n < 256 → s.g (R.STR_STS.ROLLING n) = 1 → ∃ t, exec (.rollTimerExpiry n) s = .next t ∧
    t.entryValid n (s.ctx n).old = false ∧ t.g (R.STR_STS.ROLLING n) = 0 ∧
    Kept s t [R.STR_STS n, if (s.ctx n).old = 0 then R.STR_KEYA n else R.STR_KEYB n]) ∧
  (∀ (s : State) (req n e : Nat) (v : Word), n < 256 → Admitted s req (if e = 0 then R.STR_KEYA n else R.STR_KEYB n) v →
    ∃ t, exec (.keyEntryWrite req n e v) s = .next t ∧ t.g (R.STR_STS.ROLLING n) = 0 ∧
      (if e = 0 then t.g (R.STR_KEYA.LABEL n) = fieldOf v 12 8 ∧ t.g (R.STR_KEYA.SLOT n) = fieldOf v 0 12
       else t.g (R.STR_KEYB.LABEL n) = fieldOf v 12 8 ∧ t.g (R.STR_KEYB.SLOT n) = fieldOf v 0 12) ∧
      Kept s t [R.STR_STS n, if e = 0 then R.STR_KEYA n else R.STR_KEYB n]) ∧
  (∀ (s : State) (n : Nat), n < 256 → (s.ctx n).armed = true → s.ctxState n = ctxActive → s.g (R.STR_CFG.TAP_EN n) = 0 → s.saving = false →
    ∃ t, exec (.strSilent n) s = .next t ∧ t.ctxState n = ctxSilent ∧ (t.ctx n).armed = false ∧ t.g (R.STR_ALARM.SILENT n) = 1 ∧
      t.rd64 (R.STR_SILENT_LO n) = (s.rd64 (R.STR_SILENT_LO n) + 1) % 2 ^ 64 ∧ (∀ k, k ≠ n → t.ctx k = s.ctx k) ∧
      Kept { s with str := t.str } t [R.STR_STS n, R.STR_ALARM n, R.STR_SILENT_LO n, R.STR_SILENT_LO n + 4]) ∧
  (∀ (s : State) (n : Nat), n < 256 → (s.ctx n).seqEn = true → s.ctxState n ≠ ctxDisabled → s.g (R.STR_SEQ_STS.TAKE_ANY n) = 0 →
    s.saving = false → ∃ t, exec (.strSeqReset n) s = .next t ∧ t.g (R.STR_SEQ_STS.TAKE_ANY n) = 1 ∧ (t.ctx n).hist = 0 ∧
      t.g (R.STR_ALARM.SEQ_RESET n) = 1 ∧ t.rd64 (R.STR_SEQ_RESET_LO n) = (s.rd64 (R.STR_SEQ_RESET_LO n) + 1) % 2 ^ 64 ∧
      (∀ k, k ≠ n → t.ctx k = s.ctx k) ∧
      Kept { s with str := t.str } t [R.STR_SEQ_STS n, R.STR_ALARM n, R.STR_SEQ_RESET_LO n, R.STR_SEQ_RESET_LO n + 4]) ∧
  (∀ s : State, ∃ t, exec .strHighPersist s = .next t ∧
    (∀ n, n < 256 → (s.ctx n).verifies = true → (s.ctx n).persist = true → s.ctxState n ≠ ctxDisabled → t.storedHigh n = s.high n) ∧
    t.vault = { s.vault with high := t.vault.high } ∧ Kept { s with vault := t.vault } t [])

/-- R208-R212: the states of a CAN controller. EN samples its timing and starts it INTEGRATING; EN cleared with no frame on the
bus takes it to OFF; eleven recessive bits make it ERR_ACTIVE with its counts at zero; in BUS_OFF the sequences are counted
and the 128th brings it back; a receive error adds one to REC; the end of a protocol exception clears PEX. -/
def Obligations.CanControllerStates : Prop :=
  (∀ (s : State) (req c : Nat) (v : Word), c < 16 → Admitted s req (R.CAN_CFG c) (v ||| 0x80000000) → s.on (R.CAN_CFG.EN c) = false →
    (s.canOf c).closing = false → s.deferred req = false →
    timingOk ((s.store (R.CAN_CFG c) (v ||| 0x80000000)).rd (R.CAN_CFG c)) (s.rd (R.CAN_NBT c)) (s.rd (R.CAN_DBT c)) (s.rd (R.CAN_XBT c)) = true →
    ∃ t, exec (.canEnable req c v) s = .next t ∧ t.canState c = canIntegrating ∧ (t.canOf c).cfg = t.rd (R.CAN_CFG c) ∧
      (t.canOf c).nbt = s.rd (R.CAN_NBT c) ∧ (t.canOf c).dbt = s.rd (R.CAN_DBT c) ∧ (t.canOf c).xbt = s.rd (R.CAN_XBT c) ∧
      (∀ k, k ≠ c → t.canOf k = s.canOf k) ∧ t.slp = { s.slp with ann := s.slp.ann.erase c } ∧
      Kept { s with can := t.can, slp := t.slp } t [R.CAN_CFG c, R.CAN_STS c]) ∧
  (∀ (s : State) (req c : Nat) (v : Word), c < 16 → Admitted s req (R.CAN_CFG c) (v &&& 0x7FFFFFFF) → s.enOn (R.CAN_CFG.EN c) = true →
    (s.canOf c).closing = false → (s.canOf c).tx = none →
    ∃ t, exec (.canDisable req c v) s = .next t ∧ t.canState c = canOffSt ∧ t.g (R.CAN_STS.CFG_ERR c) = 0 ∧ t.g (R.CAN_STS.TXBUSY c) = 0 ∧
      t.g (R.CAN_SCH_STS.RUN c) = 0 ∧ (∀ k, k ≠ c → t.canOf k = s.canOf k) ∧ t.slp = { s.slp with ann := s.slp.ann.erase c } ∧
      Kept { s with can := t.can, slp := t.slp } t [R.CAN_CFG c, R.CAN_STS c, R.CAN_SCH_STS c]) ∧
  (∀ (s : State) (c : Nat), c < 16 → s.canState c = canIntegrating → s.canBusOk c = true →
    ∃ t, exec (.integrationDone c) s = .next t ∧ t.canState c = canActive ∧ t.g (R.CAN_ERRC.TEC c) = 0 ∧ t.g (R.CAN_ERRC.REC c) = 0 ∧
      Kept s t [R.CAN_STS c, R.CAN_ERRC c]) ∧
  (∀ (s : State) (c n : Nat), c < 16 → s.canState c = canBusOff → n < 128 →
    ∃ t, exec (.busOffRecovery c n) s = .next t ∧ t.canState c = canBusOff ∧ t.g (R.CAN_STS.BO_CNT c) = n ∧ Kept s t [R.CAN_STS c]) ∧
  (∀ (s : State) (c n : Nat), c < 16 → s.canState c = canBusOff → 128 ≤ n →
    ∃ t, exec (.busOffRecovery c n) s = .next t ∧ t.canState c = canActive ∧ t.g (R.CAN_ERRC.TEC c) = 0 ∧ t.g (R.CAN_ERRC.REC c) = 0 ∧
      t.g (R.CAN_EVT.RECOVERED c) = 1 ∧ Kept s t [R.CAN_STS c, R.CAN_ERRC c, R.CAN_EVT c]) ∧
  (∀ (s : State) (c : Nat), c < 16 → s.canState c = canActive → s.g (R.CAN_STS.PEX c) = 0 → s.listen c = false →
    s.g (R.CAN_ERRC.TEC c) < 96 → s.g (R.CAN_ERRC.REC c) < 95 → s.saving = false →
    ∃ t, exec (.canError c 1 false 1 none) s = .next t ∧ t.g (R.CAN_ERRC.REC c) = s.g (R.CAN_ERRC.REC c) + 1 ∧
      t.g (R.CAN_ERRC.TEC c) = s.g (R.CAN_ERRC.TEC c) ∧ t.canState c = canActive ∧
      t.rd64 (R.CAN_STUFF_ERR_LO c) = (s.rd64 (R.CAN_STUFF_ERR_LO c) + 1) % 2 ^ 64 ∧
      Kept s t [R.CAN_STUFF_ERR_LO c, R.CAN_STUFF_ERR_LO c + 4, R.CAN_ERRC c, R.CAN_STS c]) ∧
  (∀ (s : State) (c : Nat), c < 16 → ∃ t, exec (.pexEnd c) s = .next t ∧ t.g (R.CAN_STS.PEX c) = 0 ∧ Kept s t [R.CAN_STS c])

/-- R213-R218: reception. A frame that selects no object is counted and dropped; one that selects an object is stored there and
offered to the gateway; a write of W0 with the object's SEQ clears NEW and LOST where it writes 1, and with another SEQ
nothing; the capture takes the SOF counter. -/
def Obligations.CanReception : Prop :=
  (∀ (s : State) (c id dlc age : Nat) (d : List Byte), c < 16 → id < 2048 → s.canState c = canActive → s.g (R.CAN_STS.PEX c) = 0 →
    s.g (R.CAN_ERRC.TEC c) < 96 → s.g (R.CAN_ERRC.REC c) = 0 → s.on (R.CAN_RXC.EN c id) = false → s.saving = false →
    ∃ t, exec (.canFrameReceived c 0 id false false false false false 0 0 0 dlc d age) s = .next t ∧
      t.rd64 (R.CAN_RX_OK_LO c) = (s.rd64 (R.CAN_RX_OK_LO c) + 1) % 2 ^ 64 ∧
      t.rd64 (R.CAN_RX_NOOBJ_LO c) = (s.rd64 (R.CAN_RX_NOOBJ_LO c) + 1) % 2 ^ 64 ∧ t.g (R.CAN_EVT.NOOBJ c) = 1 ∧
      Kept s t [R.CAN_RX_OK_LO c, R.CAN_RX_OK_LO c + 4, R.CAN_RX_NOOBJ_LO c, R.CAN_RX_NOOBJ_LO c + 4, R.CAN_EVT c, R.CAN_ERRC c, R.CAN_STS c]) ∧
  (∀ (s : State) (c id dlc age : Nat) (d : List Byte), c < 16 → id < 2048 → s.canState c = canActive → s.g (R.CAN_STS.PEX c) = 0 →
    s.g (R.CAN_ERRC.TEC c) < 96 → s.g (R.CAN_ERRC.REC c) = 0 → s.on (R.CAN_RXC.EN c id) = true → s.g (R.CAN_RXC.DEL c id) ≤ 1 →
    s.objWorn c id = false →
    exec (.canFrameReceived c 0 id false false false false false 0 0 0 dlc d age) s = .next (State.passOn s
      (let f := s.rxCan c { fmt := 0, ide := false, id := id, rtr := false, brs := false, esi := false, sec := false } dlc d age
       let u := ((s.bump (R.CAN_RX_OK_LO c)).canCounts c (s.g (R.CAN_ERRC.TEC c)) 0).rxStore c id f
       u.gwTake { can := c, obj := id, del := s.g (R.CAN_RXC.DEL c id), seq := u.g (R.CAN_RXO_W0.SEQ c id), f := f }))) ∧
  (∀ (s : State) (req c i : Nat) (v : Word), c < 16 → i < 2560 → Admitted s req (R.CAN_RXO_W0 c i) v →
    ∃ t, exec (.rxObjectW0Write req c i v) s = .next t ∧
      t.rd (R.CAN_RXO_W0 c i) = (if fieldOf v 26 4 = s.g (R.CAN_RXO_W0.SEQ c i) then s.rd (R.CAN_RXO_W0 c i) &&& ~~~(v &&& 0xC0000000)
        else s.rd (R.CAN_RXO_W0 c i)) ∧ Kept s t [R.CAN_RXO_W0 c i]) ∧
  (∀ s : State, ∃ t, exec .crossCapture s = .next t ∧ t.rd64 R.CAN_XCAP_LO = s.sofCtr / 80000 * 80000 % 2 ^ 64 ∧
    t.g R.CAN_XCAP_HI.CAPSEQ = (s.g R.CAN_XCAP_HI.CAPSEQ + 1) % 65536 ∧
    Kept { s with gw := t.gw } t ((List.range 15).map (fun k => R.CAN_XCAP_LO + 4 * k)))

/-- R219-R222: transmission. The object the controller picks is copied at SOF; sent with success its REQ is cleared, DONE set,
TXLAST written; arbitration lost leaves the request; a write of W1 sets REQ; ABORT clears one REQ and ABORT_ALL every REQ of
the controller. -/
def Obligations.CanTransmission : Prop :=
  (∀ (s : State) (c i : Nat) (ex : Bool), c < 16 → i < 512 → s.canOnBus c = true → s.listen c = false → (s.canOf c).tx = none →
    (s.canOf c).closing = false → s.txPick c = some (i, ex) → s.txBad c i = false →
    ∃ t, exec (.canTxStart c) s = .next t ∧
      (t.canOf c).tx = some { obj := i, f := { s.txoFrame c i with stamp := s.sofStamp c 0 % 2 ^ 32 }, excl := ex } ∧
      t.g (R.CAN_STS.TXBUSY c) = 1 ∧ t.g (R.CAN_STS.TXOBJ c) = i ∧ (∀ k, k ≠ c → t.canOf k = s.canOf k) ∧
      Kept { s with can := t.can } t [R.CAN_STS c]) ∧
  (∀ (s : State) (c k : Nat) (x : CanTx), c < 16 → x.obj < 512 → (s.canOf c).tx = some x → x.excl = false → x.f.fmt = 0 →
    (s.canOf c).closing = false → (s.matrix c).stop = false → s.cmaFor true c x.obj = none → s.isLong c x.obj = false →
    s.g (R.PWR_SLP_ANN.OBJ c) ≠ x.obj → s.canState c = canActive → s.g (R.CAN_ERRC.TEC c) = 0 → s.g (R.CAN_ERRC.REC c) < 96 → s.saving = false →
    ∃ t, exec (.canTxSuccess c k) s = .next t ∧ (t.canOf c).tx = none ∧ t.g (R.CAN_STS.TXBUSY c) = 0 ∧
      t.g (R.CAN_TXO_W1.DONE c x.obj) = 1 ∧ t.g (R.CAN_TXO_W1.REQ c x.obj) = 0 ∧ t.rd (R.CAN_TXLAST_LO c) = W x.f.stamp ∧
      t.rd (R.CAN_TXLAST_HI c) = W (2 ^ 31 + x.obj) ∧ t.rd64 (R.CAN_TX_OK_LO c) = (s.rd64 (R.CAN_TX_OK_LO c) + 1) % 2 ^ 64 ∧
      (∀ d, d ≠ c → t.canOf d = s.canOf d) ∧
      Kept { s with can := t.can } t [R.CAN_TX_OK_LO c, R.CAN_TX_OK_LO c + 4, R.CAN_TXO_W1 c x.obj, R.CAN_TXLAST_LO c, R.CAN_TXLAST_HI c,
        R.CAN_STS c, R.CAN_ERRC c]) ∧
  (∀ (s : State) (c : Nat) (x : CanTx), c < 16 → (s.canOf c).tx = some x → x.excl = false → (s.canOf c).closing = false →
    (s.matrix c).stop = false → s.saving = false → ∃ t, exec (.canArbLost c) s = .next t ∧ (t.canOf c).tx = none ∧
      t.g (R.CAN_STS.TXBUSY c) = 0 ∧ t.rd64 (R.CAN_ARB_LOST_LO c) = (s.rd64 (R.CAN_ARB_LOST_LO c) + 1) % 2 ^ 64 ∧
      Kept { s with can := t.can } t [R.CAN_ARB_LOST_LO c, R.CAN_ARB_LOST_LO c + 4, R.CAN_STS c]) ∧
  (∀ (s : State) (req c i : Nat) (v w : Word), c < 16 → i < 512 → Admitted s req (R.CAN_TXO_W1 c i) (v ||| 0x40000000) →
    s.objWorn c (2560 + i) = false → s.cmaFor true c i = none →
    w = (((v ||| 0x40000000) &&& 0xF8000FFF) ||| ((s.rd (R.CAN_TXO_W1 c i) &&& ~~~(v ||| 0x40000000) &&& 0x04000000) |||
      (s.rd (R.CAN_TXO_W1 c i) &&& 0x03FFF000))) → (s.wr (R.CAN_TXO_W1 c i) w).txBad c i = false →
    ∃ t, exec (.txRequest req c i v) s = .next t ∧ t.rd (R.CAN_TXO_W1 c i) = w ∧ t.g (R.CAN_TXO_W1.REQ c i) = 1 ∧ Kept s t [R.CAN_TXO_W1 c i]) ∧
  (∀ (s : State) (req c i : Nat), c < 16 → i < 512 → Admitted s req (R.CAN_TXCMD c) (W (2 ^ 28 + i)) → s.stat (R.CAN_TXCMD c) ≠ statBusy →
    s.isLong c i = false → ∃ t, exec (.canAbort req c i) s = .next t ∧ t.g (R.CAN_TXO_W1.REQ c i) = 0 ∧ t.stat (R.CAN_TXCMD c) = statDone ∧
      Kept s t [R.CAN_TXCMD c, R.CAN_TXO_W1 c i]) ∧
  (∀ (s : State) (req c : Nat), c < 16 → Admitted s req (R.CAN_TXCMD c) (W (2 ^ 29)) → s.stat (R.CAN_TXCMD c) ≠ statBusy →
    s.longHead c = false → ∃ t, exec (.canAbortAll req c) s = .next t ∧ (∀ i, i < 512 → t.g (R.CAN_TXO_W1.REQ c i) = 0) ∧
      t.stat (R.CAN_TXCMD c) = statDone ∧ Kept s t (R.CAN_TXCMD c :: (List.range 512).map (fun i => R.CAN_TXO_W1 c i)))

/-- R223-R225: the schedule matrix. It starts with its fields sampled; a window that begins is shown and, where it is not
exclusive, only moves the matrix on; an exclusive window whose time passes with no attempt on the bus is missed. -/
def Obligations.CanMatrix : Prop :=
  (∀ (s : State) (c : Nat), c < 16 → (s.matrix c).armed = true → (s.matrix c).stop = false → s.canState c ≠ canOffSt →
    s.enOn (R.CAN_SCH_CFG.EN c) = true →
    exec (.matrixStart c) s = .next (State.passOn s (((s.modMatrix c (fun _ => { run := true, cyc := s.g (R.CAN_SCH_CFG.CYC c), bc := max 1 (s.g (R.CAN_SCH_BC.BC_US c)), ofs := s.g (R.CAN_SCH_OFS.OFS_US c), tb := s.g (R.CAN_SCH_CFG.TB c) })).p
        (R.CAN_SCH_STS.RUN c) 1).windowEval c))) ∧
  (∀ (s : State) (c w st k : Nat) (e : Word), c < 16 → (s.matrix c).run = true → s.tbRun (s.matrix c).tb = true → (s.matrix c).owed = false →
    k = (s.matrix c).pos (s.matrixNow c) / (s.matrix c).bcNs →
    (s.matrix c).at0 = some (s.matrixNow c - (s.matrix c).pos (s.matrixNow c) % (s.matrix c).bcNs) →
    (s.matrix c).entryAt ((s.matrix c).pos (s.matrixNow c) % (s.matrix c).bcNs) = some (w, st, e) → (s.matrix c).win ≠ some w →
    fieldOf ((s.matrix c).ents.getD w 0) 29 2 ≠ 0 →
    ∃ t, exec (.windowStart c) s = .next t ∧ t.matrix c = { s.matrix c with win := some w, since := (s.matrix c).at0.getD 0 + st * 1000, shut := false } ∧
      t.g (R.CAN_SCH_STS.CYCLE c) = k % 64 ∧ t.g (R.CAN_SCH_STS.WIN c) = w % 32 ∧ (∀ d, d ≠ c → t.canOf d = s.canOf d) ∧
      Kept { s with can := t.can } t [R.CAN_SCH_STS c]) ∧
  (∀ (s : State) (c : Nat), c < 16 → (s.matrix c).owed = true → (s.canOf c).tx = none → s.saving = false →
    ∃ t, exec (.exclLateExpiry c) s = .next t ∧ t.matrix c = { s.matrix c with owed := false } ∧ t.g (R.CAN_EVT.SCH_MISS c) = 1 ∧
      t.rd64 (R.CAN_SCH_MISS_LO c) = (s.rd64 (R.CAN_SCH_MISS_LO c) + 1) % 2 ^ 64 ∧ (∀ d, d ≠ c → t.canOf d = s.canOf d) ∧
      Kept { s with can := t.can } t [R.CAN_SCH_MISS_LO c, R.CAN_SCH_MISS_LO c + 4, R.CAN_EVT c])

/-- R236, R238, R239, R241-R244: the FIFO and the token bucket of a destination. FIFO_OBJ, its REQ at 0, takes the oldest frame
of the FIFO with REQ set; a token comes every PER_US up to BURST; a write of GW_DST_RATE fills the bucket. Packing. EN
samples the context and restarts its sequence number; EN cleared, or HOLD_US over, closes an open PDU; the head PDU goes to
CANB as a frame of that port. Unpacking. A frame that is no PDU for an enabled entry is counted and dropped; an NTSCF PDU of
an entry is counted with the PDUs missed, and its messages go on in order. -/
def Obligations.GatewayRoutesAndPdus : Prop :=
  (∀ (s u : State) (d i : Nat) (f : CFrame) (rest : List CFrame), d < 16 → i = s.g (R.GW_DST_CFG.FIFO_OBJ d) →
    s.on (R.GW_DST_CFG.FIFO_EN d) = true → s.g (R.CAN_TXO_W1.REQ d i) = 0 → s.longHead d = false → s.fifo d = f :: rest → f.len ≤ 64 →
    rest.length < 128 → u = (((s.putFrame d i f false).p (R.CAN_TXO_W1.SCHED d i) 0).p (R.CAN_TXO_W1.REQ d i) 1).setFifo d rest →
    u.txBad d i = false → u.cmaFor true d i = none →
    ∃ t, exec (.fifoObjectRefill d) s = .next t ∧ t = State.passOn s u ∧ t.fifo d = rest ∧ t.g (R.GW_DST_STS.LEVEL d) = rest.length ∧
      t.g (R.CAN_TXO_W1.REQ d i) = 1) ∧
  (∀ (s : State) (d : Nat), d < 16 → s.g (R.GW_DST_RATE.PER_US d) ≠ 0 → ∃ t, exec (.tokenRefill d) s = .next t ∧
    t.tokens d = min (s.burst d) (s.tokens d + 1) ∧ (∀ k, k ≠ d → t.tokens k = s.tokens k) ∧ Kept { s with gw := t.gw } t []) ∧
  (∀ (s : State) (req d : Nat) (v : Word), d < 16 → Admitted s req (R.GW_DST_RATE d) v → ∃ t, exec (.gwRateWrite req d v) s = .next t ∧
    t.g (R.GW_DST_RATE.PER_US d) = fieldOf v 16 16 ∧ t.tokens d = max 1 (fieldOf v 8 8) ∧ (∀ k, k ≠ d → t.tokens k = s.tokens k) ∧
    Kept { s with gw := t.gw } t [R.GW_DST_RATE d]) ∧
  (∀ (s : State) (req k : Nat) (v : Word), k < 32 → Admitted s req (R.GW_PK_CFG k) (v ||| 0x80000000) → s.on (R.GW_PK_CFG.EN k) = false →
    ∃ t, exec (.packEnable req k v) s = .next t ∧ t.pack k = { cfg := v ||| 0x80000000 } ∧ t.g (R.GW_PK_STS.SEQ k) = 0 ∧
      t.g (R.GW_PK_STS.MSG k) = 0 ∧ (∀ n, n ≠ k → t.pack n = s.pack n) ∧ Kept { s with gw := t.gw } t [R.GW_PK_CFG k, R.GW_PK_STS k]) ∧
  (∀ (s : State) (req k : Nat) (v : Word), k < 32 → Admitted s req (R.GW_PK_CFG k) (v &&& 0x7FFFFFFF) → s.on (R.GW_PK_CFG.EN k) = true →
    (s.pack k).msgs ≠ [] → s.gw.out.length < 16 →
    ∃ t, exec (.packDisable req k v) s = .next t ∧ t.g (R.GW_PK_CFG.EN k) = 0 ∧
      t.pack k = { s.pack k with msgs := [], seq := ((s.pack k).seq + 1) % 256 } ∧ t.gw.out = s.gw.out ++ [{ k := k, msgs := (s.pack k).msgs.length, frame := s.pduFrame k (s.pack k), fh := (s.pack k).fh, pcp := if (s.pack k).tag then some (s.pack k).pcp else none }] ∧
      Kept { s with gw := t.gw } t [R.GW_PK_CFG k, R.GW_PK_STS k]) ∧
  (∀ (s : State) (k : Nat), k < 32 → (s.pack k).msgs ≠ [] → s.gw.out.length < 16 →
    ∃ t, exec (.holdExpiry k) s = .next t ∧ t.pack k = { s.pack k with msgs := [], seq := ((s.pack k).seq + 1) % 256 } ∧
      t.gw.out = s.gw.out ++ [{ k := k, msgs := (s.pack k).msgs.length, frame := s.pduFrame k (s.pack k), fh := (s.pack k).fh, pcp := if (s.pack k).tag then some (s.pack k).pcp else none }] ∧ Kept { s with gw := t.gw } t [R.GW_PK_STS k]) ∧
  (∀ (s : State) (o : PduOut) (rest : List PduOut), s.gw.out = o :: rest → s.pins.forwarding = true →
    s.on (R.SW_USED.XOFF (8 * 26 + o.pcp.getD (s.g (R.TBL_PORT.DEF_PCP 26)))) = false →
    exec .pduPresent s = .next (State.passOn s
      (let u := { s with gw := { s.gw with out := rest } }.bump (R.GW_PK_PDU_LO o.k)
       u.ingressWhole 26 o.fh (u.intFrame 26 o.frame)))) ∧
  (∀ (s : State) (f : Frame) (rest : List Frame), s.sw.canbq = f :: rest → beAt f.bytes (typeAt f.bytes) 2 ≠ 0x22F0 → s.saving = false →
    ∃ t, exec .gwUnpack s = .next t ∧ t.sw = { s.sw with canbq := rest } ∧
      t.rd64 R.GW_UP_NOCTX_LO = (s.rd64 R.GW_UP_NOCTX_LO + 1) % 2 ^ 64 ∧
      Kept { s with sw := t.sw } t [R.GW_UP_NOCTX_LO, R.GW_UP_NOCTX_LO + 4]) ∧
  (∀ (s : State) (f : Frame) (rest : List Frame) (b : List Byte) (u n q : Nat), s.sw.canbq = f :: rest → b = f.bytes.drop (typeAt f.bytes + 2) →
    beAt f.bytes (typeAt f.bytes) 2 = 0x22F0 → beAt b 0 1 = 0x82 → beAt b 1 1 / 16 = 8 → s.upEntry (beAt b 4 8) = some u →
    n = beAt b 1 2 % 2048 → 12 + n ≤ b.length → s.gw.upSeq.get (fun _ => none) u = some q →
    exec .gwUnpack s = .next (State.passOn s
      (let v := ({ s with sw := { s.sw with canbq := rest } }.bump (R.GW_UP_PDU_LO u)).bumpBy (R.GW_UP_SEQ_LO u) ((beAt b 3 1 + 255 - q) % 256)
       State.upMsgs u n { v with gw := { v.gw with upSeq := v.gw.upSeq.set (fun _ => none) u (some (beAt b 3 1)) } } ((b.drop 12).take n))))

/-- R245-R249, R251, R252: the Jig. The oldest trigger makes the move of its one entry, which restarts that entry's timer; an
entry whose timer ends is shown, counted and reported; a committed entry has BAD clear. Message authentication of CAN. A
verify entry is enabled with HIGH no lower than the stored one; a verdict on a frame whose MAC matches sets HIGH and PASS
and lets the frame go on; a generation writes freshness and MAC into its object. -/
def Obligations.JigAndCanAuthentication : Prop :=
  (∀ (s u : State) (x : JigTrig) (rest : List JigTrig) (e : Nat) (ps pd : List Nat), s.gw.trig = x :: rest →
    s.jigEntries x.can x.obj = [e] → e < 4096 → s.jigSrc e = some ps → s.jigDst e = some pd → (∀ p ∈ ps, p < 8 * x.len) →
    s.g (R.GW_JIG_W1.SET_REQ e) = 0 →
    u = (((({ s with gw := { s.gw with trig := rest } }.jigPut (s.jigDest e).1 (s.jigDest e).2 pd (ps.map (dataBit x.data))).bump
      R.GW_JIG_MOVE_LO).p (R.GW_JIG_STS.TIMED_OUT e) 0).jigTimer e (s.jigTimed e)) →
    u.cmaFor true (s.jigDest e).1 (s.jigDest e).2 = none → exec .jigTrigger s = .next (State.passOn s u)) ∧
  (∀ (s : State) (e : Nat), e < 4096 → s.gw.timer.get (fun _ => false) e = true → s.on (R.GW_JIG_W1.VALID e) = true →
    s.g (R.GW_JIG_W1.SUB_EN e) = 0 → s.saving = false → ∃ t, exec (.jigTimeout e) s = .next t ∧ t.g (R.GW_JIG_STS.TIMED_OUT e) = 1 ∧
      t.g R.GW_EVT.JIG_TMO = 1 ∧ t.rd64 R.GW_JIG_TMO_LO = (s.rd64 R.GW_JIG_TMO_LO + 1) % 2 ^ 64 ∧
      t.gw = { s.gw with timer := s.gw.timer.set (fun _ => false) e false } ∧
      Kept { s with gw := t.gw } t [R.GW_JIG_STS e, R.GW_EVT, R.GW_JIG_TMO_LO, R.GW_JIG_TMO_LO + 4]) ∧
  (∀ (s : State) (req e : Nat) (v : Word), e < 4096 → Admitted s req (R.GW_JIG_HI e) v → req ≠ reqDma → s.holding req 8 = none →
    ∃ t, exec (.jigEntryCommit req e v) s = .next t ∧ t.rd (R.GW_JIG_HI e) = v ∧ t.g (R.GW_JIG_STS.BAD e) = 0 ∧
      t.gw = { s.gw with timer := s.gw.timer.set (fun _ => false) e (s.jigTimed e) } ∧ (t.rq req).resp = { err := false, data := 0 } ∧
      Kept { s with gw := t.gw, reqs := t.reqs } t [R.GW_JIG_HI e, R.GW_JIG_STS e]) ∧
  (∀ (s : State) (req a : Nat) (v w : Word), a < 256 → w = v ||| 0x80000000 → Admitted s req (R.GW_CMA_CFG a) w →
    s.on (R.GW_CMA_CFG.EN a) = false → ({ cfg := w } : Cma).gen = false → 3 ≤ ({ cfg := w } : Cma).macb → ({ cfg := w } : Cma).macb ≤ 8 →
    ({ cfg := w } : Cma).fvb ≤ 4 → ({ cfg := w } : Cma).size ≤ 64 →
    ∃ t, exec (.cmaEnable req a v) s = .next t ∧ t.cmaOf a = { cfg := w } ∧ t.cmaState a = cmaActive ∧
      t.rd64 (R.GW_CMA_FRESH_LO a) = max (s.rd64 (R.GW_CMA_FRESH_LO a)) (s.storedHigh (256 + a)) % 2 ^ 64 ∧
      (∀ k, k ≠ a → t.cmaOf k = s.cmaOf k) ∧
      Kept { s with gw := t.gw } t [R.GW_CMA_CFG a, R.GW_CMA_STS a, R.GW_CMA_FRESH_LO a, R.GW_CMA_FRESH_LO a + 4]) ∧
  (∀ (s u : State) (n a : Nat) (j : Job) (x : GwIn), s.jobOn n = some j → j.user = .canVerify a → u = s.endJob n j →
    (u.cmaOf a).busy = true → (u.cmaOf a).ver = [x] →
    (cmac j.key (cmaInput (u.g (R.GW_CMA_ID.DATA_ID a)) x.f.w0 (slice x.f.data 0 (u.cmaOf a).plen) (u.cmaOf a).f)).take (u.cmaOf a).macb =
      slice x.f.data ((u.cmaOf a).plen + (u.cmaOf a).fvb) (u.cmaOf a).macb →
    exec (.cmaVerifyDone n) s = .next (State.passOn s
      ((((((u.modCma a (fun y => { y with busy := false, ver := [] })).wr64 (R.GW_CMA_FRESH_LO a) (u.cmaOf a).f).p (R.GW_CMA_STS.PASS a) 1).p
        (R.GW_CMA_STS.SEQ a) x.seq).bump (R.GW_CMA_PASS_LO x.can)).gwGo x))) ∧
  (∀ (s u v : State) (n a f len : Nat) (j : Job) (e : Cma), s.jobOn n = some j → j.user = .canGenerate a f → u = s.endJob n j → e = u.cmaOf a →
    e.busy = true → e.f = f → e.more = 0 →
    len = max e.size (u.g (R.CAN_TXO_W1.LEN e.can e.obj)) →
    v = (u.setTxoData e.can e.obj (slice (u.txoData e.can e.obj) 0 e.plen ++ beBytes e.fvb f ++
      (cmac j.key (cmaInput (u.g (R.GW_CMA_ID.DATA_ID a)) (u.rd (R.CAN_TXO_W0 e.can e.obj)) (slice (u.txoData e.can e.obj) 0 e.plen) f)).take
        e.macb ++ List.replicate (len - e.size) 0 ++ (u.txoData e.can e.obj).drop len)).bump (R.GW_CMA_GEN_LO e.can) →
    exec (.cmaGenerateDone n) s = .next (State.passOn s
      (v.modCma a (fun y => { y with busy := false, more := 0, auth := some (v.txo e.can e.obj) }))))

/-- R256, R258-R260, R262: a time base is started and stopped, and its servo enabled, by a write of TB_CFG. Started it counts
from its value; stopped it keeps its value, gives up a slew, whose command then shows failed, and its servo is off; a servo
referenced to PPS_IN or to a gPTP domain starts in ACQUIRE. The value, the rate and the steps of a time base. A commit of
TB_INC within its range sets the increment; SET and ADD step the base and end done; SLEW takes its offset and stays busy
until it is spent; ADJ_ZERO clears ADJ and the integral. -/
def Obligations.TimeBaseCommands : Prop :=
  (∀ (s : State) (req n : Nat) (v : Word), n < 4 → Admitted s req (R.TB_CFG n) (v ||| 0x80000000) →
    s.on (R.TB_CFG.EN n) = false → bit (v ||| 0x80000000).toNat 30 = s.on (R.TB_CFG.SRV_EN n) → s.deferred req = false →
    ∃ t, exec (.tbEnable req n v) s = .next t ∧ t.on (R.TB_CFG.EN n) = true ∧ t.tbRun n = true ∧ t.tbVal n = s.tbVal n ∧
      Kept s t [R.TB_CFG n, R.TB_STS n]) ∧
  (∀ (s : State) (req n : Nat) (v : Word), n < 4 → Admitted s req (R.TB_CFG n) (v &&& 0x7FFFFFFF) →
    s.enOn (R.TB_CFG.EN n) = true → bit (v &&& 0x7FFFFFFF).toNat 30 = s.on (R.TB_CFG.SRV_EN n) →
    s.gensWhere (fun q => q.tb == n) = [] →
    ∃ t, exec (.tbDisable req n v) s = .next t ∧ t.on (R.TB_CFG.EN n) = false ∧ t.tbRun n = false ∧ t.tbVal n = s.tbVal n ∧
      (t.tb n).slew = none ∧ t.g (R.TB_STS.SRV n) = 0 ∧
      t.stat (R.TB_CMD n) = (if (s.tb n).slew.isSome then statFailed else s.stat (R.TB_CMD n)) ∧
      (∀ k, k ≠ n → t.tb k = s.tb k) ∧ Kept { s with tbs := t.tbs } t [R.TB_CFG n, R.TB_STS n, R.TB_CMD n]) ∧
  (∀ (s : State) (req n : Nat) (v : Word), n < 4 → Admitted s req (R.TB_CFG n) (v ||| 0x40000000) →
    s.on (R.TB_CFG.SRV_EN n) = false → bit (v ||| 0x40000000).toNat 31 = s.on (R.TB_CFG.EN n) → s.deferred req = false →
    fieldOf (v ||| 0x40000000) (R.TB_CFG.SRC n).lo (R.TB_CFG.SRC n).wd ≤ 1 →
    ∃ t, exec (.servoEnable req n v) s = .next t ∧ t.on (R.TB_CFG.SRV_EN n) = true ∧ t.g (R.TB_STS.SRV n) = 1 ∧
      (t.tb n).src = fieldOf (v ||| 0x40000000) (R.TB_CFG.SRC n).lo (R.TB_CFG.SRC n).wd ∧ t.tbVal n = s.tbVal n ∧
      (∀ k, k ≠ n → t.tb k = s.tb k) ∧ Kept { s with tbs := t.tbs } t [R.TB_CFG n, R.TB_STS n]) ∧
  (∀ (s : State) (req n : Nat) (v : Word), n < 4 → req ≠ reqDma → Admitted s req (R.TB_INC_HI n) v → s.holding req 9 = none →
    (s.tb n).adj = 0 → tbEMin ≤ ((fieldOf v 0 8 * 4294967296 + (s.rd (R.TB_INC_LO n)).toNat : Nat) : Int) →
    ((fieldOf v 0 8 * 4294967296 + (s.rd (R.TB_INC_LO n)).toNat : Nat) : Int) ≤ tbEMax →
    ∃ t, exec (.tbIncCommit req n v) s = .next t ∧ t.tbInc n = fieldOf v 0 8 * 4294967296 + (s.rd (R.TB_INC_LO n)).toNat ∧
      Kept { s with reqs := t.reqs } t [R.TB_INC_LO n, R.TB_INC_HI n]) ∧
  (∀ (s : State) (req n v : Nat), n < 4 → Admitted s req (R.TB_CMD n) 1 → s.stat (R.TB_CMD n) ≠ statBusy → (s.tb n).setBad = false →
    s.rdTv (R.TB_SET_LO n) = some v →
    ∃ t, exec (.tbSet req n) s = .next t ∧ t = State.passOn s ((s.putCmd (R.TB_CMD n) 1 statDone).tbStep n v) ∧
      t.tbVal n = v % tvMod ∧ t.stat (R.TB_CMD n) = statDone) ∧
  (∀ (s : State) (req n : Nat), n < 4 → Admitted s req (R.TB_CMD n) 2 → s.stat (R.TB_CMD n) ≠ statBusy →
    ∃ t, exec (.tbAdd req n) s = .next t ∧
      t = State.passOn s ((s.putCmd (R.TB_CMD n) 2 statDone).tbStep n (tvAdd (s.tbVal n) (s.tbOfs n * 4294967296))) ∧
      t.tbVal n = tvAdd (s.tbVal n) (s.tbOfs n * 4294967296) ∧ t.stat (R.TB_CMD n) = statDone) ∧
  (∀ (s : State) (req n : Nat), n < 4 → Admitted s req (R.TB_CMD n) 3 → s.stat (R.TB_CMD n) ≠ statBusy →
    (s.tbOfs n).natAbs < 2147483648 → s.on (R.TB_CFG.SRV_EN n) = false → s.on (R.TB_CFG.EN n) = true → s.atLimit n (s.tbOfs n) = false →
    ∃ t, exec (.tbSlew req n) s = .next t ∧ t.tb n = { s.tb n with slew := some (s.tbOfs n * 4294967296) } ∧
      t.stat (R.TB_CMD n) = statBusy ∧ (∀ k, k ≠ n → t.tb k = s.tb k) ∧ Kept { s with tbs := t.tbs } t [R.TB_CMD n]) ∧
  (∀ (s : State) (n : Nat), n < 4 → (s.tb n).slew = some 0 →
    ∃ t, exec (.slewComplete n) s = .next t ∧ t.tb n = { s.tb n with slew := none } ∧ t.stat (R.TB_CMD n) = statDone ∧
      (∀ k, k ≠ n → t.tb k = s.tb k) ∧ Kept { s with tbs := t.tbs } t [R.TB_CMD n]) ∧
  (∀ (s : State) (req n : Nat), n < 4 → Admitted s req (R.TB_CMD n) 4 → s.stat (R.TB_CMD n) ≠ statBusy → s.on (R.TB_CFG.SRV_EN n) = false →
    ∃ t, exec (.tbAdjZero req n) s = .next t ∧ t.tb n = { s.tb n with adj := 0, integ := 0 } ∧ t.rd (R.TB_SRV_ADJ n) = 0 ∧
      t.stat (R.TB_CMD n) = statDone ∧ (∀ k, k ≠ n → t.tb k = s.tb k) ∧ Kept { s with tbs := t.tbs } t [R.TB_CMD n, R.TB_SRV_ADJ n])

/-- R262-R264, R273-R278: servos and captures. A servo that follows another time base takes the difference as its offset; with
no update for HOLD_MS it is in HOLDOVER; a selected edge at a capture input is stamped into the ring. Trigger generators. A
one-shot generator whose start lies ahead of its running time base runs; EN cleared it stops, its pin at rest; its first
edge is made and counted; WIDTH later the pin is at rest again; its edge commands reach the power die, which acts on them in
order. -/
def Obligations.ServosAndTriggers : Prop :=
  (∀ (s : State) (n : Nat), n < 4 → s.srv n ≠ srvOff → (s.tb n).src = 2 → s.tbRun n = true → s.tbRun (s.tb n).idx = true →
    exec (.servoTbSample n) s = .next (State.passOn s
      (let r := s.wholeNs (tvDiff (s.tbVal n) (s.tbVal (s.tb n).idx))
       r.1.srvUpdate n r.2))) ∧
  (∀ (s : State) (n : Nat), n < 4 → s.srv n = srvLocked → ∃ t, exec (.servoHoldover n) s = .next t ∧ t.srv n = srvHoldover ∧
    t.g (R.TB_EVT.HOLDOVER n) = 1 ∧ t.tb n = { s.tb n with good := 0 } ∧ (∀ k, k ≠ n → t.tb k = s.tb k) ∧
    Kept { s with tbs := t.tbs } t [R.TB_STS n, R.TB_EVT n]) ∧
  (∀ (s : State) (i pulse : Nat), i < 8 → s.enOn (R.CAP_CFG.EN i) = true → 8 * s.g (R.CAP_CFG.FILT i) ≤ pulse → s.g (R.CAP_CFG.EDGE i) ≠ 2 →
    (s.g (R.CAP_PTR.WR i) + 32 - s.g (R.CAP_PTR.RD i)) % 32 ≠ 16 → (∀ r, r < 64 → s.g (R.MEM_RING_TRIG.CAPSEL r) ≠ i) →
    ∃ t, exec (.capEdge i true pulse) s = .next t ∧
      t.rd (R.CAP_ENT_LO i (s.g (R.CAP_PTR.WR i) % 16)) = tvW0 (s.capStamp i (s.g (R.CAP_CFG.TB i))) ||| 0x80000000 ∧
      t.rd (R.CAP_ENT_LO i (s.g (R.CAP_PTR.WR i) % 16) + 4) = tvW1 (s.capStamp i (s.g (R.CAP_CFG.TB i))) ∧
      t.rd (R.CAP_ENT_LO i (s.g (R.CAP_PTR.WR i) % 16) + 8) = tvW2 (s.capStamp i (s.g (R.CAP_CFG.TB i))) ∧
      t.g (R.CAP_PTR.WR i) = (s.g (R.CAP_PTR.WR i) + 1) % 32 ∧ t.g R.TIME_EVT.CAP = 1 ∧
      Kept s t [R.CAP_ENT_LO i (s.g (R.CAP_PTR.WR i) % 16), R.CAP_ENT_LO i (s.g (R.CAP_PTR.WR i) % 16) + 4,
        R.CAP_ENT_LO i (s.g (R.CAP_PTR.WR i) % 16) + 8, R.CAP_PTR i, R.TIME_EVT]) ∧
  (∀ (s : State) (req g v : Nat) (x : Word), g < 32 → Admitted s req (R.TG_CFG g) (x ||| 0x80000000) → s.on (R.TG_CFG.EN g) = false →
    s.deferred req = false → bit (x ||| 0x80000000).toNat 30 = true → bit (x ||| 0x80000000).toNat 26 = false →
    bit (x ||| 0x80000000).toNat 25 = false → s.tbRun (fieldOf (x ||| 0x80000000) 28 2) = true → (s.gen g).startBad = false →
    s.rdTv (R.TG_START_LO g) = some v → tv256 (s.tbVal (fieldOf (x ||| 0x80000000) 28 2)) < tv256 v →
    ∃ t, exec (.tgEnable req g x) s = .next t ∧ t.genRun g = true ∧ (t.gen g).oneShot = true ∧ (t.gen g).start = tv256 v ∧
      (t.gen g).next = 0 ∧ (t.gen g).tb = fieldOf (x ||| 0x80000000) 28 2 ∧ (∀ k, k ≠ g → t.gen k = s.gen k) ∧
      Kept { s with gens := t.gens } t [R.TG_CFG g, R.TG_STS g]) ∧
  (∀ (s : State) (req g : Nat) (x : Word), g < 32 → Admitted s req (R.TG_CFG g) (x &&& 0x7FFFFFFF) → s.enOn (R.TG_CFG.EN g) = true →
    s.gensWhere (fun q => q.link) = [] →
    ∃ t, exec (.tgDisable req g x) s = .next t ∧ t.genRun g = false ∧ t.g (R.TG_STS.CFG_ERR g) = 0 ∧
      t.gen g = { s.gen g with pin := (s.gen g).pol } ∧ (∀ k, k ≠ g → t.gen k = s.gen k) ∧
      Kept { s with gens := t.gens } t [R.TG_CFG g, R.TG_STS g]) ∧
  (∀ (s : State) (g : Nat), g < 32 → s.genRun g = true → (s.gen g).oneShot = false → (s.gen g).link = false → (s.gen g).made = [] →
    (s.gen g).at (s.gen g).next ≤ tv256 (s.tbVal (s.gen g).tb) → (∀ r, r < 64 → s.g (R.MEM_RING_TRIG.TGSEL r) ≠ g) →
    (∀ c, c < 256 → s.g (R.DMA_CH_CFG.TRIG c) ≠ 1 ∨ s.g (R.DMA_CH_CFG.TG c) ≠ g) →
    ∃ t, exec (.tgEdge g) s = .next t ∧ t.gen g = { s.gen g with next := (s.gen g).next + 1, made := [(s.gen g).next], lastTick := s.tick, pin := if (s.gen g).pinEn then !(s.gen g).pol else (s.gen g).pin } ∧
      t.g (R.TG_STS.EDGES g) = (s.g (R.TG_STS.EDGES g) + 1) % 65536 ∧ (∀ k, k ≠ g → t.gen k = s.gen k) ∧
      Kept { s with gens := t.gens } t [R.TG_STS g]) ∧
  (∀ (s : State) (g : Nat), g < 32 → (s.gen g).pinEn = true → ∃ t, exec (.tgPinWidthEnd g) s = .next t ∧
    t.gen g = { s.gen g with pin := (s.gen g).pol } ∧ (∀ k, k ≠ g → t.gen k = s.gen k) ∧ Kept { s with gens := t.gens } t []) ∧
  (∀ (s : State) (g : Nat), g < 32 → s.genRun g = true → s.tenon.lostState = false →
    ∃ t, exec (.tgEdgeCommand g) s = .next t ∧ t.edges = s.edges ++ [g] ∧ Kept { s with edges := t.edges } t []) ∧
  (∀ (s : State) (late : Bool) (g : Nat) (rest : List Nat), s.edges = g :: rest → s.tenon.lostState = false →
    exec (.powerDieEdge late) s = .next (State.passOn s
      (({ s with edges := rest }.when late (fun u => (u.bump (R.TG_LATE_LO g)).ev R.TIME_EVT.TG_LATE)).each (List.range 24) (fun n u =>
        let v := if u.ldMode n = 3 ∧ u.g (R.PWR_LD_CTL.TG n) = g ∧ u.ldActive n then u.periodStart n else u
        if v.on (R.PWR_LD_ADCC.TRIG_EN n) && v.g (R.PWR_LD_ADCC.TG n) == g then v.adcStart n else v))))

/-- R265, R267-R269, R271: the link-delay service of a port. Its timer sends the next request; a request received is answered in
two steps; the first part of a response is kept until the second. Sync messages and domains. A two-step Sync at the slave
port waits for its Follow_Up, with which it is accepted, or is given up; a timeout clears SYNC_OK; the grandmaster sends at
every master port; EN samples the domain; another message is copied to TP_GLB.Q. -/
def Obligations.GptpService : Prop :=
  (∀ (s : State) (n : Nat), n < 24 → s.g (R.TP_PORT_CFG.PD_EN n) = 1 → s.portUp n = true → s.paused n 6 = false →
    (s.pd n).pending = false →
    ∃ t, exec (.pdelayReqTimer n) s = .next t ∧ t.pd n = { s.pd n with seq := ((s.pd n).seq + 1) % 65536, pending := true, t1 := s.txStamp n (s.pdTb n), parts := 0, dup := false, valid := false } ∧
      (t.port n).event = s.gpFrame n (s.gpHeader n gpPdReq 54 0 0x0008 0 (((s.pd n).seq + 1) % 65536) 5
        (unsigned 8 (signed 4 (s.g (R.TP_PORT_CFG.PD_LOG n)))) ++ List.replicate 20 0) ∧
      (∀ k, k ≠ n → t.pd k = s.pd k) ∧ Kept { s with pdelay := t.pdelay, ports := t.ports } t []) ∧
  (∀ (s u : State) (m : TpMsg), s.tpTake (fun x => x.type == gpPdReq) = some (m, u) → u.g (R.TP_PORT_CFG.PD_EN m.port) = 1 →
    u.portUp m.port = true → u.paused m.port 6 = false → exec .pdelayReqReceived s = .next (State.passOn s
      ((u.sendEvent m.port (u.gpHeader m.port gpPdResp 54 m.domain 0x0208 (tsFrac (m.stamp (u.pdTb m.port))) m.seq 5 0x7F ++
        tsBytes (m.stamp (u.pdTb m.port)) ++ m.source)).sendGeneral m.port
          (u.gpHeader m.port gpPdFollow 54 m.domain 0x0008 (tsFrac (u.txStamp m.port (u.pdTb m.port))) m.seq 5 0x7F ++
            tsBytes (u.txStamp m.port (u.pdTb m.port)) ++ m.source)))) ∧
  (∀ (s u : State) (m : TpMsg), s.tpTake (fun x => x.type == gpPdResp || x.type == gpPdFollow) = some (m, u) → m.type = gpPdResp →
    u.g (R.TP_PORT_CFG.PD_EN m.port) = 1 → (u.pd m.port).pending = true → m.seq = (u.pd m.port).seq → (u.pd m.port).parts = 0 →
    ∃ t, exec .pdelayRespReceived s = .next t ∧ t.tpIn = u.tpIn ∧ t.pd m.port = { u.pd m.port with parts := 1, t4 := m.stamp (u.pdTb m.port), t2 := tvAdd m.time (m.corr * 65536) } ∧ (∀ k, k ≠ m.port → t.pd k = s.pd k) ∧
      Kept { s with tpIn := t.tpIn, pdelay := t.pdelay } t []) ∧
  (∀ (s u : State) (m : TpMsg) (d : Nat), s.tpTake (fun x => x.type == gpSync && (s.domNamed x.domain).isSome) = some (m, u) →
    u.domNamed m.domain = some d → m.port = (u.dom d).slave → u.asCapable m.port = true → m.twoStep = true → (u.dom d).await = none →
    ∃ t, exec .syncReceived s = .next t ∧ t.tpIn = u.tpIn ∧
      t.dom d = { u.dom d with await := some { seq := m.seq, stamps := m.stamps, corr := m.corr, stepped := m.stepped } } ∧
      (∀ k, k ≠ d → t.dom k = s.dom k) ∧ Kept { s with tpIn := t.tpIn, doms := t.doms } t []) ∧
  (∀ (s u : State) (m : TpMsg) (d : Nat) (r : SyncRec), s.tpTake (fun x => x.type == gpFollow && (s.domNamed x.domain).isSome) = some (m, u) →
    u.domNamed m.domain = some d → (u.dom d).await = some r → m.port = (u.dom d).slave → m.seq = r.seq →
    exec .followUpReceived s = .next (State.passOn s
      ((u.modDom d (fun q => { q with await := none })).syncAccept d r m.time (r.corr + m.corr) m.csro m.info))) ∧
  (∀ (s : State) (d : Nat) (r : SyncRec), d < 4 → (s.dom d).await = some r → s.saving = false → ∃ t, exec (.followUpTimeout d) s = .next t ∧
    t.dom d = { s.dom d with await := none } ∧ t.rd64 (R.TP_SYNC_DROP_LO d) = (s.rd64 (R.TP_SYNC_DROP_LO d) + 1) % 2 ^ 64 ∧
    t.g R.TIME_EVT.TP_SYNC_DROP = 1 ∧ (∀ k, k ≠ d → t.dom k = s.dom k) ∧
    Kept { s with doms := t.doms } t [R.TP_SYNC_DROP_LO d, R.TP_SYNC_DROP_LO d + 4, R.TIME_EVT]) ∧
  (∀ (s u : State) (m : TpMsg) (e : List Word), s.tpTake (fun x => !x.isPd && !s.isRelay x) = some (m, u) → u.g R.TP_GLB.COPY = 1 →
    e = ethEntry 0 m.port 6 1 0 m.frame.stampTb m.frame.stamp (m.frame.bytes ++ fcsOf m.frame.bytes) →
    u.offer (u.g R.TP_GLB.Q) e.length ≠ .noRoom → exec .gptpOtherMessage s = .next (State.passOn s (u.qFrame (u.g R.TP_GLB.Q) e))) ∧
  (∀ (s u : State) (m : TpMsg), s.tpTake (fun x => !x.isPd && !s.isRelay x) = some (m, u) → u.g R.TP_GLB.COPY = 0 →
    ∃ t, exec .gptpOtherMessage s = .next t ∧ t.tpIn = s.tpIn.erase m ∧ Kept { s with tpIn := t.tpIn } t []) ∧
  (∀ (s : State) (d : Nat), d < 4 → (s.dom d).en = true → (s.dom d).slave ≠ 31 → (s.dom d).timing = true → s.saving = false →
    ∃ t, exec (.syncTmo d) s = .next t ∧ t.dom d = { s.dom d with timing := false } ∧ t.g (R.TP_DOM_STS.SYNC_OK d) = 0 ∧
      t.g R.TIME_EVT.TP_SYNC_TMO = 1 ∧ t.rd64 (R.TP_SYNC_TMO_LO d) = (s.rd64 (R.TP_SYNC_TMO_LO d) + 1) % 2 ^ 64 ∧
      (∀ k, k ≠ d → t.dom k = s.dom k) ∧
      Kept { s with doms := t.doms } t [R.TP_DOM_STS d, R.TP_SYNC_TMO_LO d, R.TP_SYNC_TMO_LO d + 4, R.TIME_EVT]) ∧
  (∀ (s : State) (d : Nat), d < 4 → (s.dom d).en = true → (s.dom d).slave = 31 → exec (.grandmasterSync d) s = .next (State.passOn s
    (s.each (s.masterPorts d) (fun n u =>
      if u.paused n 6 then u.tpWait n (.gm d ((s.g (R.TP_DOM_STS.SEQ d) + 1) % 65536))
      else u.sendSync d n ((s.g (R.TP_DOM_STS.SEQ d) + 1) % 65536) (u.txStamp n (u.dom d).tb) (tsFrac (u.txStamp n (u.dom d).tb)) 0 [])))) ∧
  (∀ (s : State) (req d : Nat) (v : Word), d < 4 → Admitted s req (R.TP_DOM_CFG d) (v ||| 0x80000000) → s.on (R.TP_DOM_CFG.EN d) = false →
    s.deferred req = false → (fieldOf (v ||| 0x80000000) 23 5 < 24 ∨ fieldOf (v ||| 0x80000000) 23 5 = 31) →
    -5 ≤ signed 4 (fieldOf (v ||| 0x80000000) 16 4) → signed 4 (fieldOf (v ||| 0x80000000) 16 4) ≤ 0 →
    s.domNamed (fieldOf (v ||| 0x80000000) 0 8) = none →
    ∃ t, exec (.tpDomEnable req d v) s = .next t ∧ t.dom d = { en := true, oneStep := bit (v ||| 0x80000000).toNat 30, tb := fieldOf (v ||| 0x80000000) 28 2, slave := fieldOf (v ||| 0x80000000) 23 5, number := fieldOf (v ||| 0x80000000) 0 8, log := fieldOf (v ||| 0x80000000) 16 4, masters := s.g (R.TP_DOM_MASTER.MASK d), timing := fieldOf (v ||| 0x80000000) 23 5 != 31 } ∧
      (∀ k, k ≠ d → t.dom k = s.dom k) ∧ Kept { s with doms := t.doms } t [R.TP_DOM_CFG d])

/-- R289-R294: software jobs. EN samples the ring and sets CI to PI; a new PI offers a descriptor, which joins its level, and
one too far ahead of CI halts the queue; a good job writes its output, then ends OK; a bad descriptor or a slot that may not
be used ends it with no data read or written; a long wait is counted once. -/
def Obligations.CipherSoftwareJobs : Prop :=
  (∀ (s : State) (req q : Nat) (v : Word), q < 8 → Admitted s req (R.CRY_SJQ_CFG q) (v ||| 0x80000000) → s.on (R.CRY_SJQ_CFG.EN q) = false →
    ∃ t, exec (.sjqEnable req q v) s = .next t ∧ t.on (R.CRY_SJQ_CFG.EN q) = true ∧ t.g (R.CRY_SJQ_CI.CI q) = s.g (R.CRY_SJQ_PI.PI q) ∧
      t.g (R.CRY_SJQ_CI.HALT q) = 0 ∧ t.sjq q = { before := ((s.sjqPast q).sjq q).before, base := s.rd64 (R.CRY_SJQ_BASE_LO q) / 64 * 64, size := 2 ^ clampNat 4 11 (t.g (R.CRY_SJQ_CFG.SIZE q)), next := s.g (R.CRY_SJQ_PI.PI q), prog := [] } ∧
      (∀ k, k ≠ q → t.sjq k = s.sjq k) ∧ t.grit = { (s.sjqPast q).grit with sjq := t.grit.sjq } ∧
      Kept { s with grit := t.grit } t [R.CRY_SJQ_CFG q, R.CRY_SJQ_CI q]) ∧
  (∀ (s : State) (req q : Nat) (v : Word) (h : HostMem) (d : List Byte), q < 8 → Admitted s req (R.CRY_SJQ_PI q) v →
    s.on (R.CRY_SJQ_CFG.EN q) = true → s.g (R.CRY_SJQ_CI.HALT q) = 0 → (s.sjq q).prog = [] → (s.sjq q).before = 0 → 0 < (s.sjq q).size →
    (s.sjq q).next = s.g (R.CRY_SJQ_CI.CI q) → fieldOf v 0 12 = (s.g (R.CRY_SJQ_CI.CI q) + 1) % 4096 →
    (s.store (R.CRY_SJQ_PI q) v).devRead h ((s.sjq q).base + 64 * ((s.sjq q).next % (s.sjq q).size)) 64 = (s.store (R.CRY_SJQ_PI q) v, .inl d) →
    ∃ t, exec (.sjqPiWrite req q v h) s = .next t ∧ t.g (R.CRY_SJQ_PI.PI q) = fieldOf v 0 12 ∧
      t.grit.waiting = s.grit.waiting ++ [djJob q (s.sjq q).next ((s.sjq q).base + 64 * ((s.sjq q).next % (s.sjq q).size)) d] ∧
      t.sjq q = { s.sjq q with next := ((s.sjq q).next + 1) % 4096, prog := [(s.sjq q).next] } ∧ (∀ k, k ≠ q → t.sjq k = s.sjq k) ∧
      Kept { s with grit := { s.grit with waiting := t.grit.waiting, sjq := t.grit.sjq } } t [R.CRY_SJQ_PI q]) ∧
  (∀ (s : State) (req q : Nat) (v : Word) (h : HostMem), q < 8 → Admitted s req (R.CRY_SJQ_PI q) v → s.on (R.CRY_SJQ_CFG.EN q) = true →
    (s.sjq q).size < (fieldOf v 0 12 + 4096 - s.g (R.CRY_SJQ_CI.CI q)) % 4096 →
    ∃ t, exec (.sjqPiWrite req q v h) s = .next t ∧ t.g (R.CRY_SJQ_CI.HALT q) = 1 ∧ t.g (R.CRY_SJQ_PI.PI q) = fieldOf v 0 12 ∧
      t.g (R.CRY_SJQ_CI.CI q) = s.g (R.CRY_SJQ_CI.CI q) ∧ Kept s t [R.CRY_SJQ_PI q, R.CRY_SJQ_CI q]) ∧
  (∀ (s : State) (n q i : Nat) (h : HostMem) (j : Job) (src aux : List Byte) (u : State), s.jobOn n = some j → j.user = .soft q i →
    (136 ≤ n ∨ j.blocks ≤ 64) → djOk j.desc = true → djCtrWrap j.desc = false → j.nokey = false → djOp j.desc ≠ 10 →
    s.djGet h (djSrc j.desc) (djSrcLen j.desc) = (s, some src) → s.djGet h (djAux j.desc) (djAuxRead j.desc) = (s, some aux) →
    (djResult j.desc j.key src aux []).2 = true → s.djPut (djDst j.desc) (djResult j.desc j.key src aux []).1 = (u, true) →
    exec (.swJobComplete n h) s = .next (State.passOn s (u.softEnd (some h) n j q i cmOk))) ∧
  (∀ (s : State) (n q i : Nat) (h : HostMem) (j : Job), s.jobOn n = some j → j.user = .soft q i → (136 ≤ n ∨ j.blocks ≤ 64) →
    (djOk j.desc = false ∨ djCtrWrap j.desc = false ∧ j.nokey = true ∧ j.key = []) →
    exec (.swJobComplete n h) s = .next (State.passOn s (s.softEnd (some h) n j q i (if djOk j.desc then cmNoKey else cmBadDesc)))) ∧
  (∀ (s : State) (q i : Nat) (j : Job), q < 8 → s.grit.waiting = [j] → j.user = .soft q i → j.unit = 0 → j.waited = false → s.saving = false →
    ∃ t, exec (.swWait q i) s = .next t ∧ t.grit.waiting = [{ j with waited := true }] ∧
      t.rd64 R.CRY_SW_WAIT_LO = (s.rd64 R.CRY_SW_WAIT_LO + 1) % 2 ^ 64 ∧ t.g R.CRY_EVT.SW_WAIT = 1 ∧
      t.rd64 (R.GLB_YIELD_LO 6) = (s.rd64 (R.GLB_YIELD_LO 6) + 1) % 2 ^ 64 ∧ Kept { s with grit := { s.grit with waiting := t.grit.waiting } } t
        [R.CRY_SW_WAIT_LO, R.CRY_SW_WAIT_LO + 4, R.CRY_EVT, R.GLB_YIELD_LO 6, R.GLB_YIELD_LO 6 + 4])

/-- R287, R296-R300: the pool and the DRBG. An idle core takes the next job, unless its masks are late; a segment ends and the job
rejoins the head of its level; an abort restarts a hardware job once, on another core, and sends the core to quarantine, whose tests bring it
back or retire it; RETIRE and RETEST; a reseed passes or fails; the output test failing stops the DRBG, and DRBG_RESTART
instantiates it afresh. -/
def Obligations.CipherPool : Prop :=
  (∀ (s : State) (j : Job) (n q i : Nat), s.nextJob = some j → s.nextCore j = some n → s.drbgServes = true → j.level = 6 →
    j.user = .soft q i → j.started = false → j.head = false → s.swSlotOk j.desc = true → s.grit.maskWait = [] →
    ∃ t, exec (.jobDispatch 0 [] false) s = .next t ∧ t.jobOn n = some (s.resolveKey j) ∧ t.grit.waiting = s.grit.waiting.erase j ∧
      t.grit.lastTile = n / 17 ∧ t.grit.lastSjq = q ∧ t.g (R.CRY_CORE.BUSY n) = 1 ∧ t.g R.CRY_POOL_STS.IDLE = t.idleCores.length % 256 ∧
      (∀ k, k ≠ n → t.jobOn k = s.jobOn k) ∧ Kept { s with grit := t.grit } t [R.CRY_CORE n, R.CRY_POOL_STS]) ∧
  (∀ (s : State) (j : Job) (n : Nat), s.nextJob = some j → s.nextCore j = some n → s.drbgServes = true → s.grit.maskWait = [] →
    s.saving = false →
    ∃ t, exec (.jobDispatch 0 [n] false) s = .next t ∧ t.grit = { s.grit with maskWait := [n] } ∧
      t.rd64 R.CRY_MASK_WAIT_LO = (s.rd64 R.CRY_MASK_WAIT_LO + 1) % 2 ^ 64 ∧
      Kept { s with grit := t.grit } t [R.CRY_MASK_WAIT_LO, R.CRY_MASK_WAIT_LO + 4]) ∧
  (∀ (s : State) (u : Nat) (l : List Nat), s.drbgServes = true → exec (.jobDispatch u l true) s = .next (State.passOn s s.drbgFails)) ∧
  (∀ (s : State) (n : Nat) (j : Job), n < 136 → s.jobOn n = some j → 4 ≤ j.level → 64 < j.blocks → s.grit.retiring.find? n = none →
    ∃ t, exec (.segmentEnd n) s = .next t ∧ t.grit.waiting = { j with blocks := j.blocks - 64, head := true } :: s.grit.waiting ∧ t.jobOn n = none ∧
      t.g (R.CRY_CORE.BUSY n) = 0 ∧ (∀ k, k ≠ n → t.jobOn k = s.jobOn k) ∧
      Kept { s with grit := { s.grit with waiting := t.grit.waiting, running := t.grit.running } } t [R.CRY_CORE n, R.CRY_POOL_STS]) ∧
  (∀ (s : State) (n : Nat) (j : Job), n < 136 → s.jobOn n = some j → j.level ≤ 3 → j.retried = false →
    exec (.coreAbort n) s = .next (State.passOn s
      (((((s.quarantine n).bump R.CRY_ABORT_LO).freeCore n).requeue { j with retried := true, avoid := some n }).bump R.CRY_RETRY_LO))) ∧
  (∀ (s : State) (n : Nat) (b : Bool), n < 136 → s.coreState n = coreQuarantine → s.grit.again.get (fun _ => false) n = false →
    s.grit.retiring.find? n = none →
    ∃ t, exec (.quarantineTestDone n true b) s = .next t ∧ t.coreState n = coreActive ∧ t.g R.CRY_POOL_STS.INSVC = t.inSvc.length % 256 ∧
      t.g (R.CRY_CORE.LOGICAL n) = s.g (R.CRY_CORE.LOGICAL n) ∧ Kept s t [R.CRY_CORE n, R.CRY_POOL_STS]) ∧
  (∀ (s : State) (n : Nat) (a b : Bool), n < 136 → s.coreState n = coreQuarantine → (a = false ∨ s.grit.again.get (fun _ => false) n = true) →
    s.grit.retiring.find? n = none →
    exec (.quarantineTestDone n a b) s = .next (State.passOn s (s.retireCore n b))) ∧
  (∀ (s : State) (req n : Nat) (b : Bool), n < 136 → Admitted s req R.CRY_CMD (W (0x100 + n)) → s.stat R.CRY_CMD ≠ statBusy →
    s.coreState n = coreActive → s.hasSpare n = true → s.on (R.CRY_CORE.BUSY n) = true →
    ∃ t, exec (.coreRetire req n b) s = .next t ∧ t.grit.retiring.find? n = some b ∧ t.stat R.CRY_CMD = statBusy ∧
      Kept { s with grit := { s.grit with retiring := t.grit.retiring } } t [R.CRY_CMD]) ∧
  (∀ (s : State) (req n : Nat) (b : Bool), n < 136 → Admitted s req R.CRY_CMD (W (0x100 + n)) → s.stat R.CRY_CMD ≠ statBusy →
    s.coreState n = coreActive → s.hasSpare n = true → s.on (R.CRY_CORE.BUSY n) = false →
    exec (.coreRetire req n b) s = .next (State.passOn s ((s.putCmd R.CRY_CMD (W (0x100 + n)) statDone).retireCore n b))) ∧
  (∀ (s : State) (req n : Nat), n < 136 → Admitted s req R.CRY_CMD (W (0x200 + n)) → s.stat R.CRY_CMD ≠ statBusy → s.coreState n = coreRetired →
    ∃ t, exec (.coreRetest req n) s = .next t ∧ t.stat R.CRY_CMD = statBusy ∧ t.g R.CRY_CMD.OP = 2 ∧ t.g R.CRY_CMD.CORE = n ∧ Kept s t [R.CRY_CMD]) ∧
  (∀ (s : State) (n : Nat), s.stat R.CRY_CMD = statBusy → s.g R.CRY_CMD.OP = 2 → s.g R.CRY_CMD.CORE = n → s.coreState n = coreRetired →
    exec (.coreRetestDone true) s = .next (State.passOn s
      (((s.p (R.CRY_CORE.STATE n) coreSpare).dropRecords repCore (n / 17) n).setStat R.CRY_CMD statDone).tileTouch)) ∧
  (∀ (s : State) (req : Nat), Admitted s req R.CRY_CMD 0x300 → s.stat R.CRY_CMD ≠ statBusy → s.g R.CRY_DRBG_STS.STATE = drbgFail → s.saving = false →
    ∃ t, exec (.drbgRestart req true) s = .next t ∧ t.g R.CRY_DRBG_STS.STATE = drbgRun ∧ t.stat R.CRY_CMD = statDone ∧
      t.rd64 R.CRY_RESEED_LO = (s.rd64 R.CRY_RESEED_LO + 1) % 2 ^ 64 ∧ t.grit = { s.grit with requests := 0, maskWait := [] } ∧
      Kept { s with grit := t.grit } t [R.CRY_CMD, R.CRY_DRBG_STS, R.CRY_RESEED_LO, R.CRY_RESEED_LO + 4]) ∧
  (∀ s : State, s.drbgServes = true → s.saving = false → ∃ t, exec (.drbgReseed true) s = .next t ∧ t.g R.CRY_DRBG_STS.STATE = drbgRun ∧
    t.rd64 R.CRY_RESEED_LO = (s.rd64 R.CRY_RESEED_LO + 1) % 2 ^ 64 ∧ t.grit = { s.grit with requests := 0 } ∧
    Kept { s with grit := t.grit } t [R.CRY_DRBG_STS, R.CRY_RESEED_LO, R.CRY_RESEED_LO + 4]) ∧
  (∀ s : State, s.drbgServes = true → s.saving = false → ∃ t, exec (.drbgReseed false) s = .next t ∧ t.g R.CRY_DRBG_STS.STATE = drbgNoReseed ∧
    t.rd64 R.CRY_HEALTH_LO = (s.rd64 R.CRY_HEALTH_LO + 1) % 2 ^ 64 ∧ t.g R.CRY_EVT.DRBG_HEALTH = 1 ∧
    Kept s t [R.CRY_DRBG_STS, R.CRY_HEALTH_LO, R.CRY_HEALTH_LO + 4, R.CRY_EVT])

/-- R306, R312, R313, R316, R317, R319, R322-R324, R329: an accepted KEY_CMD takes its arguments and is busy. One that uses AES
waits as a level 4 job of the pool, with the job of its second KCV; ZEROISE raises tamper source SOFT. How a KEY_CMD ends. DERIVE from the root fills its
slot; INVALIDATE and FREE change the slot's state; the fuse commands blow their fuses or fail with POLICY; RES_INIT makes a
record VALID at the base of its band; INVALIDATE of a slot that is not VALID fails with SLOT_STATE and changes nothing. -/
def Obligations.VaultCommands : Prop :=
  (∀ (s : State) (req op : Nat) (v : Word) (c : Instr), (c, op) ∈ [(Instr.keyDerive req v, 1), (Instr.keyUnwrap req v, 2),
      (Instr.keyGenerate req v, 3), (Instr.keyProvision req v, 6)] → Unlocked s req R.KEY_CMD (keyVal v op) → s.stat R.KEY_CMD ≠ statBusy →
    s.on R.KEY_NEW.REPL = false →
    ∃ t, Machine.exec c s = .next t ∧ t.vault = { s.vault with cmd := some (s.keyTake req (keyVal v op)) } ∧
      t.grit.waiting = s.grit.waiting ++ [{ level := 4, user := .vault, slot := if op = 1 ∧ bit v.toNat 24 = false then fieldOf v 12 12 else noSlot, blocks := 16 }, { level := 4, user := .vaultKcv, slot := noSlot, blocks := 2 }] ∧ t.stat R.KEY_CMD = statBusy ∧
      fieldOf (t.rd R.KEY_CMD) 25 5 = op ∧ fieldOf (t.rd R.KEY_CMD) 0 12 = fieldOf v 0 12 ∧
      Kept { s.spend req with vault := t.vault, grit := { s.grit with waiting := t.grit.waiting } } t [R.KEY_CMD]) ∧
  (∀ (s : State) (req op : Nat) (v : Word) (c : Instr), (c, op) ∈ [(Instr.keyInvalidate req v, 4), (Instr.keyFree req v, 5),
      (Instr.fuseSigner req v, 8), (Instr.fuseRevoke req v, 9), (Instr.fusePolicy req v, 10), (Instr.fuseLock req v, 11), (Instr.resInit req v, 12)] →
    Unlocked s req R.KEY_CMD (keyVal v op) → s.stat R.KEY_CMD ≠ statBusy → s.keyCmdOk (keyVal v op) = true →
    ∃ t, Machine.exec c s = .next t ∧ t.vault = { s.vault with cmd := some (s.keyTake req (keyVal v op)) } ∧ t.stat R.KEY_CMD = statBusy ∧
      fieldOf (t.rd R.KEY_CMD) 25 5 = op ∧ fieldOf (t.rd R.KEY_CMD) 0 12 = fieldOf v 0 12 ∧ Kept { s.spend req with vault := t.vault } t [R.KEY_CMD]) ∧
  (∀ (s : State) (req : Nat) (v : Word), Unlocked s req R.KEY_CMD (keyVal v 7) → s.stat R.KEY_CMD ≠ statBusy →
    exec (.keyZeroise req v) s = .next (State.passOn s
      ({ ((s.spend req).putCmd R.KEY_CMD (keyVal v 7) statBusy) with vault := { s.vault with cmd := some (s.keyTake req (keyVal v 7)) } }.tamper 6))) ∧
  (∀ (s : State) (h : HostMem) (c : KeyCmd) (rs : List Byte) (n k : Nat) (j : Job), s.vault.cmd = some c → c.op = 1 → c.root = true →
    s.rootKey = some rs → reservedLabel (slice c.arg 0 16) = false → s.slotState c.slot = slotEmpty → s.vaultCores = some (n, j, k) →
    j.nokey = false → c.slot < 4096 → exec (.keyCommandComplete h false) s = .next (State.passOn s
      (((((s.endJob n j).freeCore k).pendKey c false).fillSlot c.slot { key := kdf rs (slice c.arg 0 16) (slice c.arg 16 16) (if c.size then 256 else 128), use := c.use % 64, root := true, parent := 0 } false).keyEnd kOk))) ∧
  (∀ (s : State) (h : HostMem) (c : KeyCmd) (b : Bool), s.vault.cmd = some c → c.op = 4 → s.slotState c.slot = slotValid →
    s.g R.KEY_STS.SWEEP = 0 → exec (.keyCommandComplete h b) s = .next (State.passOn s
      ((((s.setKey c.slot []).setSlotState c.slot slotInvalid).inc (R.KEY_SLOT_GEN.GEN c.slot)).orphan c.slot |>.keyEnd kOk))) ∧
  (∀ (s : State) (h : HostMem) (c : KeyCmd) (b : Bool), s.vault.cmd = some c → c.op = 5 → 2 ≤ s.slotState c.slot → c.slot ∉ s.worn.slots →
    exec (.keyCommandComplete h b) s = .next (State.passOn s
      ((((s.setKey c.slot []).setSlotState c.slot slotEmpty).orphan c.slot).keyEnd kOk))) ∧
  (∀ (s : State) (h : HostMem) (c : KeyCmd) (b : Bool), s.vault.cmd = some c → c.op = 4 → s.slotState c.slot ≠ slotValid →
    s.g R.KEY_STS.SWEEP = 0 → s.saving = false →
    ∃ t, exec (.keyCommandComplete h b) s = .next t ∧ t.stat R.KEY_CMD = statFailed ∧ t.g R.KEY_RESULT.CODE = kSlot ∧ t.g R.KEY_EVT.CMD_FAIL = 1 ∧
      t.rd64 R.KEY_CMD_FAIL_LO = (s.rd64 R.KEY_CMD_FAIL_LO + 1) % 2 ^ 64 ∧ t.vault = { s.vault with cmd := none } ∧
      Kept { s with vault := t.vault } t [R.KEY_RESULT, R.KEY_CMD, R.KEY_EVT, R.KEY_CMD_FAIL_LO, R.KEY_CMD_FAIL_LO + 4]) ∧
  (∀ (s : State) (h : HostMem) (c : KeyCmd) (b : Bool), s.vault.cmd = some c → (c.op = 8 ∨ c.op = 11) →
    (c.op = 8 → s.vault.signers.find? (4 * (c.slot / 4 % 2) + c.slot % 4) = none) →
    ∃ t, exec (.keyCommandComplete h b) s = .next t ∧ t.stat R.KEY_CMD = statDone ∧ t.g R.KEY_RESULT.CODE = kOk ∧ t.g R.KEY_EVT.CMD_DONE = 1 ∧
      t.vault = (if c.op = 8 then
          { s.vault with cmd := none, signers := s.vault.signers.put (4 * (c.slot / 4 % 2) + c.slot % 4) (slice c.arg 0 32) }
        else { s.vault with cmd := none, locks := s.vault.locks ||| (c.slot % 8) }) ∧
      Kept { s with vault := t.vault } t [R.KEY_RESULT, R.KEY_CMD, R.KEY_EVT]) ∧
  (∀ (s : State) (h : HostMem) (c : KeyCmd) (b : Bool), s.vault.cmd = some c → (c.op = 9 ∨ c.op = 10) → s.loader.act = [] →
    ∃ t, exec (.keyCommandComplete h b) s = .next t ∧ t.stat R.KEY_CMD = statDone ∧ t.g R.KEY_RESULT.CODE = kOk ∧ t.g R.KEY_EVT.CMD_DONE = 1 ∧
      t.vault = (if c.op = 9 then { s.vault with cmd := none, revoked := setBit s.vault.revoked (c.slot % 4) true }
        else { s.vault with cmd := none, policy := s.vault.policy ||| (c.slot % 4) }) ∧
      Kept { s with vault := t.vault } t [R.KEY_RESULT, R.KEY_CMD, R.KEY_EVT]) ∧
  (∀ (s : State) (h : HostMem) (c : KeyCmd) (b : Bool), s.vault.cmd = some c → c.op = 9 → s.loader.act ≠ [] →
    leAt s.loader.act 0x3C 1 = c.slot % 4 → s.saving = false →
    ∃ t, exec (.keyCommandComplete h b) s = .next t ∧ t.stat R.KEY_CMD = statFailed ∧ t.g R.KEY_RESULT.CODE = kPolicy ∧
      t.vault = { s.vault with cmd := none } ∧
      Kept { s with vault := t.vault } t [R.KEY_RESULT, R.KEY_CMD, R.KEY_EVT, R.KEY_CMD_FAIL_LO, R.KEY_CMD_FAIL_LO + 4]) ∧
  (∀ (s : State) (h : HostMem) (c : KeyCmd) (b : Bool), s.vault.cmd = some c → c.op = 12 → c.slot < 512 →
    ∃ t, exec (.keyCommandComplete h b) s = .next t ∧ t.stat R.KEY_CMD = statDone ∧ t.resState c.slot = resValid ∧
      t.ceiling c.slot = s.vault.lossEpoch * 2 ^ 56 % 2 ^ 64 ∧ t.resKcv c.slot = s.recordKcv c.slot ∧
      (∀ r, r ≠ c.slot → t.resKcv r = s.resKcv r) ∧ Kept { s with vault := { s.vault with cmd := none, resKcv := t.vault.resKcv } } t
        [R.KEY_RES_LO c.slot, R.KEY_RES_LO c.slot + 4, R.KEY_RES_STS c.slot, R.KEY_RESULT, R.KEY_CMD, R.KEY_EVT])

/-- R312, R320, R325-R328, R331, R333: the sweep, re-randomisation, tamper, reservations and attestation. The sweep zeroes the
material of every orphan; shares re-randomised with fresh DRBG output leave every key; a detection while the core rails are off zeroes RS and
writes the log; a completed ceiling write is the new ceiling; ATTEST takes its nonce and ends with a statement, or fails
with the DRBG. -/
def Obligations.VaultEvents : Prop :=
  (∀ s : State, s.on R.KEY_STS.SWEEP = true → ∃ t, exec .orphanSweepDone s = .next t ∧ t.g R.KEY_STS.SWEEP = 0 ∧
    (∀ n, n < 4096 → t.slotKey n = if s.slotState n = slotOrphaned then [] else s.slotKey n) ∧
    Kept { s with vault := { s.vault with keys := t.vault.keys, masks := t.vault.masks } } t [R.KEY_STS]) ∧
  (∀ s : State, s.drbgServes = true → s.grit.requests + 1 < 4294967296 → ∃ t, exec .shareRerandomise s = .next t ∧
    t.grit = { s.grit with requests := s.grit.requests + 1 } ∧ t.vault.masks.map (·.1) = s.vault.masks.map (·.1) ∧
    (∀ p ∈ t.vault.masks, s.freeCtr ≤ p.2 ∧ p.2 < t.freeCtr) ∧
    Kept { s with grit := t.grit, vault := { s.vault with masks := t.vault.masks }, freeCtr := t.freeCtr } t []) ∧
  (∀ (s : State) (b : Bool), s.coreUp = false → s.prov = provYes → s.saving = false →
    ∃ t, exec (.tamperDetected 5 b) s = .next t ∧ t.vault = { s.vault with rs := none, tampered := true } ∧ t.prov = provZeroed ∧
      t.rd64 R.KEY_ROOT_KCV_LO = 0 ∧ t.rd (R.KEY_TLOG_LO (s.g R.KEY_TLOG_PTR.NEXT)) = s.rd R.KEY_KA_TIME ∧
      t.rd (R.KEY_TLOG_HI (s.g R.KEY_TLOG_PTR.NEXT)) = W ((s.g R.KEY_TLOG_PTR.TOTAL + 1) % 256 * 65536 + 32) ∧
      t.g R.KEY_TLOG_PTR.TOTAL = (s.g R.KEY_TLOG_PTR.TOTAL + 1) % 65536 ∧ t.g R.KEY_TLOG_PTR.NEXT = (s.g R.KEY_TLOG_PTR.NEXT + 1) % 16 ∧
      t.rd64 R.KEY_TAMPER_LO = (s.rd64 R.KEY_TAMPER_LO + 1) % 2 ^ 64 ∧ Kept { s with vault := t.vault } t
        [R.KEY_TAMP_STS, R.KEY_STS, R.KEY_ROOT_KCV_LO, R.KEY_ROOT_KCV_LO + 4, R.KEY_TLOG_LO (s.g R.KEY_TLOG_PTR.NEXT),
         R.KEY_TLOG_HI (s.g R.KEY_TLOG_PTR.NEXT), R.KEY_TLOG_PTR, R.KEY_TAMPER_LO, R.KEY_TAMPER_LO + 4]) ∧
  (∀ (s : State) (r c : Nat), r < 256 → s.vault.adv.find? r = some c → (s.ctx r).pend = [] → s.saving = false →
    ∃ t, exec (.reservationAdvanceDone r) s = .next t ∧ t.ceiling r = c % 2 ^ 64 ∧ t.g (R.KEY_RES_STS.ADV r) = 0 ∧ t.vault.adv.find? r = none ∧
      t.rd64 R.KEY_RES_ADV_LO = (s.rd64 R.KEY_RES_ADV_LO + 1) % 2 ^ 64 ∧ Kept { s with vault := { s.vault with adv := t.vault.adv } } t
        [R.KEY_RES_LO r, R.KEY_RES_LO r + 4, R.KEY_RES_STS r, R.KEY_RES_ADV_LO, R.KEY_RES_ADV_LO + 4]) ∧
  (∀ (s : State) (req n : Nat), 8 ≤ n → n ≤ 32 → req < 7 → Admitted s req R.KEY_ATT_CMD (W n) → s.stat R.KEY_ATT_CMD ≠ statBusy →
    ∃ t, exec (.keyAttest req n) s = .next t ∧ t.stat R.KEY_ATT_CMD = statBusy ∧
      t.vault = { s.vault with att := some (slice (ofWords (s.rdList (R.KEY_ARG req 0) 16)) 0 n) } ∧
      t.grit.waiting = s.grit.waiting ++ [{ level := 4, user := .attest, slot := noSlot, unit := 2 }] ∧
      Kept { s with vault := t.vault, grit := { s.grit with waiting := t.grit.waiting } } t [R.KEY_ATT_CMD]) ∧
  (∀ (s : State) (n : List Byte) (j : Job), s.vault.att = some n → s.jobOn publicKeyUnit = some j → j.user = .attest →
    s.g R.CRY_DRBG_STS.STATE = drbgFail →
    ∃ t, exec .attestComplete s = .next t ∧ t.stat R.KEY_ATT_CMD = statFailed ∧ t.vault = { s.vault with att := none } ∧
      t.jobOn publicKeyUnit = none ∧ Kept { s with vault := t.vault, grit := { s.grit with running := t.grit.running } } t
        [R.KEY_ATT_CMD, R.CRY_JOB_LO j.level, R.CRY_JOB_LO j.level + 4]) ∧
  (∀ (s : State) (n : List Byte) (j : Job), s.vault.att = some n → s.jobOn publicKeyUnit = some j → j.user = .attest →
    s.g R.CRY_DRBG_STS.STATE ≠ drbgFail →
    exec .attestComplete s = .next (State.passOn s
      (let u := { (s.endJob publicKeyUnit j) with vault := { s.vault with att := none } }.used.bump R.KEY_ATTEST_LO
       let st := coseSign1 (u.claims n) (1 + s.freeNat % (p256N - 1))
       (((u.wrList (R.KEY_ATT_BUF 0) (wordsOf 256 st)).p R.KEY_ATT_LEN.LEN st.length).setStat R.KEY_ATT_CMD statDone).ev R.KEY_EVT.CMD_DONE)))

/-- R339, R341-R343, R346, R349, R355: commands of load channels, starts and pulses. A write of MODE from OFF makes a start,
which waits; MODE OFF turns the output off; ALL_OFF does so on every channel; CLR_LOCK brings a locked channel back to OFF;
ADC_NOW starts a conversion; a start that fits the budget turns the output on with its claim, and one that does not is
refused; the window ends; pulses follow their period. -/
def Obligations.LoadChannelCommands : Prop :=
  (∀ (s : State) (req n : Nat) (v : Word), n < 24 → Admitted s req (R.PWR_LD_CTL n) v → s.tenon.up = true → s.tenon.acc.any (fun x => x.req == req) = false →
    (req ≠ reqCfg ∨ s.beforeRun = false) →
    s.ldState n = ldOff → s.ldMode n = 0 → fieldOf v 30 2 ≠ 0 → s.ldSafe n = false → s.on (R.PWR_LD_STS.TLATCH n) = false →
    ∃ t, exec (.loadModeWrite req n v) s = .next t ∧ t.ldState n = ldWait ∧ t.rd (R.PWR_LD_CTL n) = v ∧
      t.g (R.PWR_LD_STS.OWNER n) = req % 8 ∧ t.ld n = { s.ld n with kind := .command, owned := true, degr := false } ∧
      (t.rq req).resp.err = false ∧ (∀ k, k ≠ n → t.ld k = s.ld k) ∧
      Kept { s with reqs := t.reqs, loads := t.loads } t [R.PWR_LD_CTL n, R.PWR_LD_STS n]) ∧
  (∀ (s : State) (req n : Nat) (v : Word), n < 24 → Admitted s req (R.PWR_LD_CTL n) v → s.tenon.up = true → s.tenon.acc.any (fun x => x.req == req) = false →
    (req ≠ reqCfg ∨ s.beforeRun = false) →
    s.ldState n ≠ ldOff → s.ldState n ≠ ldLock → fieldOf v 30 2 = 0 →
    ∃ t, exec (.loadModeWrite req n v) s = .next t ∧ t.ldState n = ldOff ∧ t.ldMode n = 0 ∧ t.ldOut n = false ∧ (t.ld n).claim = 0 ∧
      t.g (R.PWR_LD_STS.RTY_CNT n) = 0 ∧ t.g (R.PWR_LD_STS.CAUSE n) = causeCommand ∧ (∀ k, k ≠ n → t.ld k = s.ld k) ∧
      Kept { s with reqs := t.reqs, loads := t.loads } t [R.PWR_LD_CTL n, R.PWR_LD_STS n]) ∧
  (∀ (s : State) (req : Nat) (v : Word), Admitted s req R.PWR_LD_CMD (withField v 8 2 3) → s.tenon.up = true →
    s.tenon.acc.any (fun x => x.req == req) = false → s.stat R.PWR_LD_CMD ≠ statBusy →
    ∃ t, exec (.ldAllOff req v) s = .next t ∧ t.stat R.PWR_LD_CMD = statDone ∧ (∀ n, n < 24 → t.ldMode n = 0 ∧ t.g (R.PWR_LD_STS.RTY_CNT n) = 0 ∧
        t.ldState n = (if s.ldState n = ldLock then ldLock else ldOff) ∧
        (s.ldState n ≠ ldLock → s.ldState n ≠ ldOff → t.ldOut n = false ∧ (t.ld n).claim = 0)) ∧
      Kept { s with reqs := t.reqs, loads := t.loads } t (R.PWR_LD_CMD :: (List.range 24).flatMap (fun n => [R.PWR_LD_CTL n, R.PWR_LD_STS n]))) ∧
  (∀ (s : State) (req n : Nat), n < 24 → Admitted s req R.PWR_LD_CMD (withField (W n) 8 2 1) → s.tenon.up = true →
    s.tenon.acc.any (fun x => x.req == req) = false → s.stat R.PWR_LD_CMD ≠ statBusy →
    s.ldMayClear n = true →
    ∃ t, exec (.ldClrLock req (W n)) s = .next t ∧ t.stat R.PWR_LD_CMD = statDone ∧ t.ldState n = ldOff ∧ t.ldMode n = 0 ∧
      Kept { s with reqs := t.reqs } t [R.PWR_LD_CMD, R.PWR_LD_CTL n, R.PWR_LD_STS n]) ∧
  (∀ (s : State) (req n : Nat), n < 24 → Admitted s req R.PWR_LD_CMD (withField (W n) 8 2 2) → s.tenon.up = true →
    s.tenon.acc.any (fun x => x.req == req) = false → s.stat R.PWR_LD_CMD ≠ statBusy →
    ∃ t, exec (.ldAdcNow req (W n)) s = .next t ∧ t.stat R.PWR_LD_CMD = statDone ∧ t.ld n = { s.ld n with conv := true } ∧
      (∀ k, k ≠ n → t.ld k = s.ld k) ∧ Kept { s with reqs := t.reqs, loads := t.loads } t [R.PWR_LD_CMD]) ∧
  (∀ (s : State) (n : Nat) (l : List Nat), n < 24 →
    s.grantOrder ((List.range 24).filter (fun k => s.ldState k == ldWait && (s.windowOf (k / 4)).isNone && !s.ldSafe k)) = n :: l → s.ldMode n = 1 →
    (s.ld n).kind = .command → s.fits (s.claimOf n (s.inrushMs n != 0)) = true →
    ∃ t, exec .loadStart s = .next t ∧ t.ldState n = (if s.inrushMs n = 0 then ldOn else ldInrush) ∧ t.ldOut n = true ∧
      (t.ld n).claim = s.claimOf n (s.inrushMs n != 0) ∧ (∀ k, k ≠ n → t.ld k = s.ld k) ∧
      Kept { s with loads := t.loads } t [R.PWR_LD_STS n]) ∧
  (∀ (s : State) (n : Nat) (l : List Nat), n < 24 →
    s.grantOrder ((List.range 24).filter (fun k => s.ldState k == ldWait && (s.windowOf (k / 4)).isNone && !s.ldSafe k)) = n :: l →
    (s.ld n).kind = .command → s.fits (s.claimOf n (s.inrushMs n != 0)) = false → s.tenon.up = true →
    ∃ t, exec .loadStart s = .next t ∧ t.ldState n = ldOff ∧ t.ldMode n = 0 ∧ t.g (R.PWR_LD_STS.CAUSE n) = causeBudget ∧
      t.rd64 (R.PWR_LD_BUD_REFUSE_LO n) = (s.rd64 (R.PWR_LD_BUD_REFUSE_LO n) + 1) % 2 ^ 64 ∧ t.g R.PWR_LD_EVT.BUD_REFUSE = 1 ∧
      t.rd64 (R.GLB_YIELD_LO 6) = (s.rd64 (R.GLB_YIELD_LO 6) + 1) % 2 ^ 64 ∧ bit (t.rd R.PWR_LD_PEND).toNat n = true ∧
      Kept s t [R.PWR_LD_BUD_REFUSE_LO n, R.PWR_LD_BUD_REFUSE_LO n + 4, R.PWR_LD_EVT, R.PWR_LD_PEND, R.GLB_YIELD_LO 6, R.GLB_YIELD_LO 6 + 4,
        R.PWR_LD_CTL n, R.PWR_LD_STS n]) ∧
  (∀ (s : State) (n : Nat), n < 24 → s.ldState n = ldInrush → s.ldOut n = true → ∃ t, exec (.inrushWindowEnd n) s = .next t ∧
    t.ldState n = ldOn ∧ t.ld n = { s.ld n with claim := s.g (R.PWR_LD_BUD.CLAIM n) } ∧ (∀ k, k ≠ n → t.ld k = s.ld k) ∧
    Kept { s with loads := t.loads } t [R.PWR_LD_STS n]) ∧
  (∀ (s : State) (n : Nat), n < 24 → s.ldActive n = true → s.ldMode n = 2 → ∃ t, exec (.pulsePeriodStart n) s = .next t ∧
    t.ld n = { s.ld n with duty := min (s.g (R.PWR_LD_CTL.DUTY n)) 1024, period := true } ∧ (∀ k, k ≠ n → t.ld k = s.ld k) ∧
    Kept { s with loads := t.loads } t []) ∧
  (∀ (s : State) (n : Nat), n < 24 → s.ldState n = ldOn → 2 ≤ s.ldMode n → (s.ld n).period = true → (s.ld n).duty ≠ 0 → s.ldOut n = false →
    s.fits (s.g (R.PWR_LD_BUD.CLAIM n)) = true → (s.ld n).retrying = false →
    ∃ t, exec (.pulseTurnOn n) s = .next t ∧ t.ldOut n = true ∧
      t.ld n = { s.ld n with claim := s.g (R.PWR_LD_BUD.CLAIM n), retrying := false, pulse := (s.ld n).duty } ∧ (∀ k, k ≠ n → t.ld k = s.ld k) ∧
      Kept { s with loads := t.loads } t [R.PWR_LD_STS n]) ∧
  (∀ (s : State) (n : Nat), n < 24 → s.ldActive n = true → 2 ≤ s.ldMode n → s.ldOut n = true → (s.ld n).pulse < 1024 →
    ∃ t, exec (.pulseTurnOff n) s = .next t ∧ t.ldOut n = false ∧ t.ld n = { s.ld n with claim := 0, pulse := 0 } ∧ (∀ k, k ≠ n → t.ld k = s.ld k) ∧
      Kept { s with loads := t.loads } t [R.PWR_LD_STS n]) ∧
  (∀ (s : State) (n : Nat), n < 24 → s.ldActive n = true → s.ldMode n = 3 → (s.ld n).period = true → ∃ t, exec (.ldEdgeMiss n) s = .next t ∧
    t.rd64 (R.PWR_LD_EDGE_MISS_LO n) = (s.rd64 (R.PWR_LD_EDGE_MISS_LO n) + 1) % 2 ^ 64 ∧ t.g R.PWR_LD_EVT.EDGE_MISS = 1 ∧
    t.ld n = { s.ld n with duty := min (s.g (R.PWR_LD_CTL.DUTY n)) 1024 } ∧ (∀ k, k ≠ n → t.ld k = s.ld k) ∧
    Kept { s with loads := t.loads } t [R.PWR_LD_EDGE_MISS_LO n, R.PWR_LD_EDGE_MISS_LO n + 4, R.PWR_LD_EVT, R.PWR_LD_PEND])

/-- R344-R349, R351: protection of a load channel. A short and an over-current turn it off, into TRIP while it may retry and
else into FAULT; a clamp event beyond its limit locks it; 175 degrees latch it, into THERM while it may retry and else into FAULT,
as 165 degrees of its region do every channel that is on or waits for a start or a retry; the latch's release and RETRY_MS make it wait for its start; trip-free on-time returns RTY_CNT to
0; open load sets OPEN with the output on. -/
def Obligations.LoadChannelProtection : Prop :=
  (∀ (s : State) (n : Nat), n < 24 → s.ldOut n = true → s.ldHeld n = false →
    ∃ t, exec (.ldShort n false) s = .next t ∧ t.ldState n = (if s.ldMayRetry n then ldTrip else ldFault) ∧ t.ldOut n = false ∧ (t.ld n).claim = 0 ∧
      t.g (R.PWR_LD_STS.CAUSE n) = causeShort ∧ t.g R.PWR_LD_EVT.SHORT = 1 ∧
      t.rd64 (R.PWR_LD_SHORT_LO n) = (s.rd64 (R.PWR_LD_SHORT_LO n) + 1) % 2 ^ 64 ∧
      t.rd64 (R.PWR_LD_FAULT_LO n) = (s.rd64 (R.PWR_LD_FAULT_LO n) + (if s.ldMayRetry n then 0 else 1)) % 2 ^ 64 ∧
      (∀ k, k ≠ n → t.ld k = s.ld k) ∧ Kept { s with loads := t.loads } t [R.PWR_LD_SHORT_LO n, R.PWR_LD_SHORT_LO n + 4, R.PWR_LD_EVT,
        R.PWR_LD_PEND, R.PWR_LD_STS n, R.PWR_LD_FAULT_LO n, R.PWR_LD_FAULT_LO n + 4]) ∧
  (∀ (s : State) (n : Nat), n < 24 → s.ldOut n = true → s.ldState n = ldOn → s.ldHeld n = false →
    ∃ t, exec (.ldOvercur n) s = .next t ∧ t.ldState n = (if s.ldMayRetry n then ldTrip else ldFault) ∧ t.ldOut n = false ∧ (t.ld n).claim = 0 ∧
      t.g (R.PWR_LD_STS.CAUSE n) = causeOvercur ∧ t.g R.PWR_LD_EVT.OC = 1 ∧
      t.rd64 (R.PWR_LD_OC_LO n) = (s.rd64 (R.PWR_LD_OC_LO n) + 1) % 2 ^ 64 ∧
      (∀ k, k ≠ n → t.ld k = s.ld k) ∧ Kept { s with loads := t.loads } t [R.PWR_LD_OC_LO n, R.PWR_LD_OC_LO n + 4, R.PWR_LD_EVT,
        R.PWR_LD_PEND, R.PWR_LD_STS n, R.PWR_LD_FAULT_LO n, R.PWR_LD_FAULT_LO n + 4]) ∧
  (∀ (s : State) (n nj : Nat), n < 24 → s.ldState n ≠ ldLock → s.ldOut n = false →
    (s.emaxPj n < nj * 1000 ∨ s.g (R.PWR_LD_CLMP.EBUD n) * 500000000 < s.clampNow n + nj * 1000) →
    ∃ t, exec (.clampEvent n nj) s = .next t ∧ t.ldState n = ldLock ∧ t.g (R.PWR_LD_STS.CAUSE n) = causeClamp ∧ t.g R.PWR_LD_EVT.LOCK = 1 ∧
      t.rd64 (R.PWR_LD_LOCK_LO n) = (s.rd64 (R.PWR_LD_LOCK_LO n) + 1) % 2 ^ 64 ∧ (t.ld n).bucket = s.clampNow n + nj * 1000 ∧
      (∀ k, k ≠ n → t.ld k = s.ld k) ∧ Kept { s with loads := t.loads } t [R.PWR_LD_LOCK_LO n, R.PWR_LD_LOCK_LO n + 4, R.PWR_LD_EVT,
        R.PWR_LD_PEND, R.PWR_LD_STS n]) ∧
  (∀ (s : State) (n nj : Nat), n < 24 → nj * 1000 ≤ s.emaxPj n → s.clampNow n + nj * 1000 ≤ s.g (R.PWR_LD_CLMP.EBUD n) * 500000000 →
    ∃ t, exec (.clampEvent n nj) s = .next t ∧ t.ld n = { s.ld n with bucket := s.clampNow n + nj * 1000, since := s.tick } ∧
      (∀ k, k ≠ n → t.ld k = s.ld k) ∧ Kept { s with loads := t.loads } t []) ∧
  (∀ (s : State) (n : Nat), n < 24 → s.ldActive n = true → s.on (R.PWR_LD_STS.TLATCH n) = false → s.ldHeld n = false →
    ∃ t, exec (.thermalLatchSet n) s = .next t ∧ t.ldState n = (if s.ldMayRetry n then ldTherm else ldFault) ∧ t.ldOut n = false ∧ t.g (R.PWR_LD_STS.TLATCH n) = 1 ∧ (t.ld n).claim = 0 ∧
      (t.ld n).kind = .thermal ∧ t.g (R.PWR_LD_STS.CAUSE n) = causeThermal ∧ t.g R.PWR_LD_EVT.THERM = 1 ∧
      t.rd64 (R.PWR_LD_THERM_LO n) = (s.rd64 (R.PWR_LD_THERM_LO n) + 1) % 2 ^ 64 ∧
      t.rd64 (R.PWR_LD_FAULT_LO n) = (s.rd64 (R.PWR_LD_FAULT_LO n) + (if s.ldMayRetry n then 0 else 1)) % 2 ^ 64 ∧
      (∀ k, k ≠ n → t.ld k = s.ld k) ∧ Kept { s with loads := t.loads } t [R.PWR_LD_THERM_LO n, R.PWR_LD_THERM_LO n + 4, R.PWR_LD_EVT,
        R.PWR_LD_PEND, R.PWR_LD_STS n, R.PWR_LD_FAULT_LO n, R.PWR_LD_FAULT_LO n + 4]) ∧
  (∀ (s : State) (g x : Nat), g < 6 → exec (.groupThermalShutdown g x) s = .next (State.passOn s
    ((s.p (R.PWR_LD_GRP.TREG g) x).each [4 * g, 4 * g + 1, 4 * g + 2, 4 * g + 3] (fun n t => if s.ldHeats n then t.latchSet n else t)))) ∧
  (∀ (s : State) (g x : Nat), g < 6 → ∃ t, exec (.ldTwarn g x) s = .next t ∧ t.g R.PWR_LD_EVT.TWARN = 1 ∧ t.g (R.PWR_LD_GRP.TREG g) = x % 256 ∧
    Kept s t [R.PWR_LD_GRP g, R.PWR_LD_EVT]) ∧
  (∀ (s : State) (n : Nat), n < 24 → s.g (R.PWR_LD_STS.TLATCH n) = 1 → s.ldState n = ldTherm → s.ldMode n ≠ 0 → s.ldMayRetry n = true →
    ∃ t, exec (.thermalLatchRelease n) s = .next t ∧ t.ldState n = ldWait ∧ t.g (R.PWR_LD_STS.TLATCH n) = 0 ∧
      t.g (R.PWR_LD_STS.RTY_CNT n) = s.g (R.PWR_LD_STS.RTY_CNT n) ∧ (∀ k, k ≠ n → t.ld k = s.ld k) ∧
      Kept { s with loads := t.loads } t [R.PWR_LD_STS n]) ∧
  (∀ (s : State) (n : Nat), n < 24 → s.ldState n = ldTrip → s.on (R.PWR_LD_STS.TLATCH n) = false → ∃ t, exec (.ldRetry n) s = .next t ∧
    t.ldState n = ldWait ∧ t.ld n = { s.ld n with kind := .retry } ∧ t.g (R.PWR_LD_STS.RTY_CNT n) = s.g (R.PWR_LD_STS.RTY_CNT n) ∧
    (∀ k, k ≠ n → t.ld k = s.ld k) ∧ Kept { s with loads := t.loads } t [R.PWR_LD_STS n]) ∧
  (∀ (s : State) (n : Nat), n < 24 → s.ldActive n = true → ∃ t, exec (.ldRtyClr n) s = .next t ∧ t.g (R.PWR_LD_STS.RTY_CNT n) = 0 ∧
    t.ldState n = s.ldState n ∧ Kept s t [R.PWR_LD_STS n]) ∧
  (∀ (s : State) (n : Nat), n < 24 → s.on (R.PWR_LD_PROT.OL_EN n) = true → s.ldState n = ldOn → s.ldOut n = true → s.on (R.PWR_LD_STS.OPEN n) = false →
    ∃ t, exec (.ldOpen n) s = .next t ∧ t.g (R.PWR_LD_STS.OPEN n) = 1 ∧ t.g R.PWR_LD_EVT.OPEN = 1 ∧ t.ldOut n = true ∧ t.ldState n = ldOn ∧
      t.rd64 (R.PWR_LD_OPEN_LO n) = (s.rd64 (R.PWR_LD_OPEN_LO n) + 1) % 2 ^ 64 ∧
      Kept s t [R.PWR_LD_OPEN_LO n, R.PWR_LD_OPEN_LO n + 4, R.PWR_LD_EVT, R.PWR_LD_PEND, R.PWR_LD_STS n]) ∧
  (∀ (s : State) (n : Nat), n < 24 → s.ldState n = ldOn → s.ldOut n = true → ∃ t, exec (.ldOpenClear n) s = .next t ∧ t.g (R.PWR_LD_STS.OPEN n) = 0 ∧
    t.ldOut n = true ∧ Kept s t [R.PWR_LD_STS n])

/-- R352, R353, R355: undervoltage, SAFE_OFF and current measurement. VS low turns every channel off into UV; recovery queues
them in grant order, and one queued start is made at a time; SAFE_OFF turns masked channels off with MODE OFF, and its
release restarts none; with TRIG_EN 0 every channel is converted, and a result ends its conversion. -/
def Obligations.LoadSupplyAndCurrent : Prop :=
  (∀ s : State, clampNat 40 200 (s.g R.PWR_SUP_CFG.VS_SAVE) ≤ s.vsUv → ∃ t, exec .ldUv s = .next t ∧
    (∀ n, n < 24 → if 1 ≤ s.ldState n ∧ s.ldState n ≤ 4 then t.ldState n = ldUv ∧ t.ldOut n = false ∧ (t.ld n).claim = 0 ∧
        t.g (R.PWR_LD_STS.CAUSE n) = causeUv ∧ t.g (R.PWR_LD_STS.RTY_CNT n) = s.g (R.PWR_LD_STS.RTY_CNT n)
      else t.rd (R.PWR_LD_STS n) = s.rd (R.PWR_LD_STS n) ∧ t.ld n = s.ld n) ∧ t.g R.PWR_LD_EVT.UV = 1 ∧
    t.rd64 R.PWR_LD_UV_LO = (s.rd64 R.PWR_LD_UV_LO + 1) % 2 ^ 64 ∧ Kept { s with loads := t.loads } t
      ([R.PWR_LD_UV_LO, R.PWR_LD_UV_LO + 4, R.PWR_LD_EVT, R.PWR_LD_PEND] ++ (List.range 24).map R.PWR_LD_STS)) ∧
  (∀ s : State, s.loads.stag = [] → ∃ t, exec .ldUvRecovery s = .next t ∧
    t.loads = { s.loads with stag := s.grantOrder ((List.range 24).filter (fun n => s.ldState n == ldUv)) } ∧ Kept { s with loads := t.loads } t []) ∧
  (∀ (s : State) (n : Nat) (l : List Nat), n < 24 → s.loads.stag = n :: l → s.ldState n = ldUv → s.ldMode n ≠ 0 → s.ldSafe n = false →
    s.on (R.PWR_LD_STS.TLATCH n) = false →
    ∃ t, exec .staggerStart s = .next t ∧ t.ldState n = ldWait ∧ t.loads.stag = l ∧ t.ld n = { s.ld n with kind := .undervoltage } ∧
      (∀ k, k ≠ n → t.ld k = s.ld k) ∧ Kept { s with loads := t.loads } t [R.PWR_LD_STS n]) ∧
  (∀ s : State, ∃ t, exec .safeOffAssert s = .next t ∧ t.g R.PWR_SO.PIN = 1 ∧ t.g R.PWR_LD_EVT.SAFE = 1 ∧
    (∀ n, n < 24 → if bit (s.g R.PWR_SO.MASK) n = true ∧ s.ldState n ≠ ldOff ∧ s.ldState n ≠ ldFault ∧ s.ldState n ≠ ldLock then
        t.ldState n = ldOff ∧ t.ldMode n = 0 ∧ t.ldOut n = false ∧ (t.ld n).claim = 0 ∧ t.g (R.PWR_LD_STS.CAUSE n) = causeSafe
      else t.rd (R.PWR_LD_STS n) = s.rd (R.PWR_LD_STS n) ∧
        t.ldMode n = (if bit (s.g R.PWR_SO.MASK) n = true ∧ s.ldState n = ldOff then 0 else s.ldMode n) ∧ t.ld n = s.ld n) ∧
    Kept { s with loads := t.loads } t ([R.PWR_SO, R.PWR_LD_EVT, R.PWR_LD_PEND] ++
      (List.range 24).flatMap (fun n => [R.PWR_LD_CTL n, R.PWR_LD_STS n]))) ∧
  (∀ s : State, ∃ t, exec .safeOffRelease s = .next t ∧ t.g R.PWR_SO.PIN = 0 ∧ Kept s t [R.PWR_SO]) ∧
  (∀ s : State, ∃ t, exec .adcPeriodicConversion s = .next t ∧
    (∀ n, n < 24 → t.ld n = if s.g (R.PWR_LD_ADCC.TRIG_EN n) = 0 then { s.ld n with conv := true } else s.ld n) ∧
    Kept { s with loads := t.loads } t []) ∧
  (∀ (s : State) (n code tj : Nat), n < 24 → (s.ld n).conv = true → s.tenon.lostState = false → ∃ t, exec (.adcResult n code tj) s = .next t ∧
    t.ld n = { s.ld n with conv := false } ∧ t.g (R.PWR_LD_ADC.CODE n) = min code 4095 ∧ t.g (R.PWR_LD_ADC.VALID n) = 1 ∧
    t.g (R.PWR_LD_ADC.SAT n) = (if 4095 ≤ code then 1 else 0) ∧ t.g (R.PWR_LD_ADC.SEQ n) = (s.g (R.PWR_LD_ADC.SEQ n) + 1) % 64 ∧
    t.g (R.PWR_LD_ADC.TJ n) = tj % 256 ∧ (∀ k, k ≠ n → t.ld k = s.ld k) ∧ Kept { s with loads := t.loads } t [R.PWR_LD_ADC n])

/-- R359-R365: transceivers and wakes. A write of MODE takes that mode, where the transceiver is not in it; a wake-up pattern, a matching wake-up frame and the 32nd
decoder error wake a sleeping transceiver, with the source latched and the first wake recorded; bus idle returns the bias; a
WAKE input and the sleep timer latch wakes, which end SLEEP; FS_MS returns a woken transceiver to sleep. -/
def Obligations.TransceiversAndWakes : Prop :=
  (∀ (s : State) (req c : Nat) (v : Word), c < 16 → Admitted s req (R.PWR_TRX_CFG c) v → s.tenon.up = true →
    s.tenon.acc.any (fun x => x.req == req) = false → trxMode (fieldOf v 29 3) ≠ trxSw → s.trx c ≠ trxMode (fieldOf v 29 3) →
    (s.trx c = trxNormal → s.canState c = canOffSt ∨ s.canState c = canIntegrating) →
    ∃ t, exec (.trxModeWrite req c v) s = .next t ∧ t.trx c = trxMode (fieldOf v 29 3) ∧ t.rd (R.PWR_TRX_CFG c) = v ∧
      t.g (R.PWR_TRX_STS.BIAS c) = (if trxSilent ≤ trxMode (fieldOf v 29 3) then 1 else 0) ∧ t.g (R.PWR_TRX_STS.ERRCNT c) = 0 ∧
      (t.rq req).resp.err = false ∧ Kept { s with reqs := t.reqs } t [R.PWR_TRX_CFG c, R.PWR_TRX_STS c]) ∧
  (∀ (s : State) (req c : Nat) (v : Word), c < 16 → Admitted s req (R.PWR_TRX_CFG c) v → s.tenon.up = true →
    s.tenon.acc.any (fun x => x.req == req) = false → s.trx c = trxMode (fieldOf v 29 3) →
    ∃ t, exec (.trxModeWrite req c v) s = .next t ∧ t.rd (R.PWR_TRX_CFG c) = v ∧ (t.rq req).resp.err = false ∧
      Kept { s with reqs := t.reqs } t [R.PWR_TRX_CFG c]) ∧
  (∀ (s : State) (c : Nat), c < 16 → (s.trx c = trxWupSleep ∨ s.trx c = trxSw) → s.slpState = slpAwake → s.slp.firstFree = true →
    ∃ t, exec (.trxWup c) s = .next t ∧ t.trx c = trxWoken ∧ t.rd64 (R.PWR_TRX_WAKE_LO c) = (s.rd64 (R.PWR_TRX_WAKE_LO c) + 1) % 2 ^ 64 ∧
      bit (t.rd R.PWR_WK_SRC).toNat c = true ∧ t.g R.PWR_WK_FIRST.CODE = 2 ∧ t.g R.PWR_WK_FIRST.IDX = c ∧ t.g R.PWR_SLP_EVT.WAKE = 1 ∧
      t.slp = { s.slp with firstFree := false } ∧ Kept { s with slp := t.slp } t
        [R.PWR_TRX_STS c, R.PWR_TRX_WAKE_LO c, R.PWR_TRX_WAKE_LO c + 4, R.PWR_WK_SRC, R.PWR_WK_FIRST]) ∧
  (∀ (s : State) (c id dlc : Nat) (ide rtr : Bool) (d : List Byte), c < 16 → s.decoding c = true → s.slpState = slpAwake → s.slp.firstFree = false →
    swMatch (s.slp.sampled.get (fun _ => []) c) ide rtr id dlc d = true →
    ∃ t, exec (.trxWuf c ide rtr id dlc d) s = .next t ∧ t.trx c = trxWoken ∧
      t.rd64 (R.PWR_TRX_WAKE_LO c) = (s.rd64 (R.PWR_TRX_WAKE_LO c) + 1) % 2 ^ 64 ∧ bit (t.rd R.PWR_WK_SRC).toNat c = true ∧
      t.g (R.PWR_TRX_STS.ERRCNT c) = s.g (R.PWR_TRX_STS.ERRCNT c) - 1 ∧
      Kept s t [R.PWR_TRX_STS c, R.PWR_TRX_WAKE_LO c, R.PWR_TRX_WAKE_LO c + 4, R.PWR_WK_SRC]) ∧
  (∀ (s : State) (c n : Nat), c < 16 → s.decoding c = true → s.slpState = slpAwake → s.g (R.PWR_TRX_STS.ERRCNT c) + n < 32 →
    ∃ t, exec (.trxFderr c n) s = .next t ∧ t.g (R.PWR_TRX_STS.ERRCNT c) = s.g (R.PWR_TRX_STS.ERRCNT c) + n ∧ t.trx c = trxSw ∧
      Kept s t [R.PWR_TRX_STS c]) ∧
  (∀ (s : State) (c n : Nat), c < 16 → s.decoding c = true → s.slpState = slpAwake → s.slp.firstFree = true → 32 ≤ s.g (R.PWR_TRX_STS.ERRCNT c) + n →
    ∃ t, exec (.trxFderr c n) s = .next t ∧ t.trx c = trxWoken ∧ t.g R.PWR_WK_FIRST.CODE = 4 ∧ t.g R.PWR_WK_FIRST.IDX = c ∧
      t.slp = { s.slp with firstFree := false } ∧ Kept { s with slp := t.slp } t
        [R.PWR_TRX_STS c, R.PWR_TRX_WAKE_LO c, R.PWR_TRX_WAKE_LO c + 4, R.PWR_WK_SRC, R.PWR_WK_FIRST]) ∧
  (∀ (s : State) (c : Nat), c < 16 → s.trx c = trxSw → ∃ t, exec (.busIdleBiasReturn c) s = .next t ∧ t.g (R.PWR_TRX_STS.BIAS c) = 0 ∧
    t.g (R.PWR_TRX_STS.ERRCNT c) = 0 ∧ t.trx c = trxSw ∧ Kept s t [R.PWR_TRX_STS c]) ∧
  (∀ (s : State) (i : Nat), i < 4 → bit s.slp.level i = false → s.on (R.PWR_WK_CFG.EN i) = true → s.g (R.PWR_WK_CFG.TYPE i) = 0 →
    s.slpState = slpAwake → s.slp.firstFree = true →
    ∃ t, exec (.wakePin i true) s = .next t ∧ bit (t.rd R.PWR_WK_SRC).toNat (16 + i) = true ∧ t.g R.PWR_WK_FIRST.CODE = 5 ∧ t.g R.PWR_WK_FIRST.IDX = i ∧
      t.slp = { s.slp with firstFree := false, level := setBit s.slp.level i true } ∧ Kept { s with slp := t.slp } t [R.PWR_WK_SRC, R.PWR_WK_FIRST]) ∧
  (∀ s : State, s.slpState = slpAsleep → s.rd R.PWR_SLP_TIMER ≠ 0 → s.slp.firstFree = true → ∃ t, exec .wakeTimer s = .next t ∧
    t.slpState = slpWaking ∧ t.slp = { s.slp with firstFree := false, inh := true } ∧ t.g R.PWR_WK_FIRST.CODE = 6 ∧
    bit (t.rd R.PWR_WK_SRC).toNat 20 = true ∧ t.rd R.PWR_WK_SLEPT = W ((s.tick - s.slp.since) / 500000000) ∧
    Kept { s with slp := t.slp } t [R.PWR_WK_SRC, R.PWR_WK_FIRST, R.PWR_WK_SLEPT]) ∧
  (∀ (s : State) (c : Nat), c < 16 → s.trx c = trxWoken → s.g (R.PWR_TRX_CFG.MODE c) ≠ trxSw → ∃ t, exec (.trxFs c) s = .next t ∧
    t.trx c = trxWupSleep ∧ t.rd64 (R.PWR_TRX_FS_LO c) = (s.rd64 (R.PWR_TRX_FS_LO c) + 1) % 2 ^ 64 ∧ t.g R.PWR_SLP_EVT.TRX_FS = 1 ∧
    t.rd R.PWR_WK_SRC = s.rd R.PWR_WK_SRC ∧ Kept s t [R.PWR_TRX_STS c, R.PWR_TRX_FS_LO c, R.PWR_TRX_FS_LO c + 4])

/-- R366-R370: the sleep master. PREPARE clears the wake reports and starts; the last silent bus completes it; ABORT and
PREP_TMO return to AWAKE; COMMIT runs its steps; INH falls into SLEEP; the module fail-safe returns WAKING to SLEEP. -/
def Obligations.SleepMaster : Prop :=
  (∀ (s : State) (req : Nat), Unlocked s req R.PWR_SLP_CMD 1 → s.tenon.up = true → s.tenon.acc.any (fun x => x.req == req) = false → s.stat R.PWR_SLP_CMD ≠ statBusy → s.slpState = slpAwake →
    s.g R.PWR_SLP_MASK.BUS ≠ 0 → s.g R.PWR_SLP_MASK.PHY_EN = 0 → (∀ c, c < 16 → s.g (R.PWR_SLP_ANN.EN c) = 0) →
    (∀ i, i < 4 → s.g (R.PWR_WK_CFG.EN i) = 0) →
    ∃ t, exec (.slpPrepare req) s = .next t ∧ t.slpState = slpPreparing ∧ t.stat R.PWR_SLP_CMD = statBusy ∧ t.g R.PWR_SLP_STS.QUIET = 0 ∧
      t.rd R.PWR_WK_SRC = 0 ∧ t.rd R.PWR_WK_FIRST = 0 ∧ t.slp = { s.slp with firstFree := true, ann := [] } ∧
      Kept { s.spend req with reqs := t.reqs, slp := t.slp } t [R.PWR_WK_SRC, R.PWR_WK_FIRST]) ∧
  (∀ (s : State) (c : Nat), c < 16 → s.slpState = slpPreparing → bit (s.g R.PWR_SLP_MASK.BUS) c = true → s.slp.ann = [] → s.slp.mdio = 0 →
    s.g R.PWR_SLP_MASK.BUS &&& setBit (s.g R.PWR_SLP_STS.QUIET) c true = s.g R.PWR_SLP_MASK.BUS →
    ∃ t, exec (.busSilence c) s = .next t ∧ t.slpState = slpReady ∧ t.g R.PWR_SLP_STS.QUIET = setBit (s.g R.PWR_SLP_STS.QUIET) c true ∧
      t.stat R.PWR_SLP_CMD = statDone ∧ t.g R.PWR_SLP_EVT.READY = 1 ∧ Kept s t []) ∧
  (∀ (s : State) (c : Nat), c < 16 → s.slpState = slpPreparing → bit (s.g R.PWR_SLP_MASK.BUS) c = true → s.slp.mdio ≠ 0 →
    ∃ t, exec (.busSilence c) s = .next t ∧ t.slpState = slpPreparing ∧ t.g R.PWR_SLP_STS.QUIET = setBit (s.g R.PWR_SLP_STS.QUIET) c true ∧ Kept s t []) ∧
  (∀ (s : State) (req : Nat), Unlocked s req R.PWR_SLP_CMD 3 → s.tenon.up = true → s.tenon.acc.any (fun x => x.req == req) = false → (s.slpState = slpPreparing ∨ s.slpState = slpReady) →
    s.slp.ann = [] → s.g R.PWR_SLP_MASK.PHY_EN = 0 →
    ∃ t, exec (.sleepAbort req) s = .next t ∧ t.slpState = slpAwake ∧ t.g R.PWR_SLP_STS.REASON = whyAbort ∧ t.stat R.PWR_SLP_CMD = statDone ∧
      t.rd64 R.PWR_SLP_ABORT_LO = (s.rd64 R.PWR_SLP_ABORT_LO + 1) % 2 ^ 64 ∧ t.slp = { s.slp with mdio := 0 } ∧
      Kept { s.spend req with reqs := t.reqs, slp := t.slp, mdio := t.mdio } t [R.PWR_SLP_ABORT_LO, R.PWR_SLP_ABORT_LO + 4]) ∧
  (∀ s : State, s.slpState = slpPreparing → s.slp.ann = [] → s.g R.PWR_SLP_MASK.PHY_EN = 0 → s.stat R.PWR_SLP_CMD = statBusy →
    ∃ t, exec .slpPrepTmo s = .next t ∧ t.slpState = slpAwake ∧ t.g R.PWR_SLP_STS.REASON = whyTimeout ∧ t.stat R.PWR_SLP_CMD = statFailed ∧
      t.g R.PWR_SLP_EVT.ABORT = 1 ∧ t.rd64 R.PWR_SLP_ABORT_LO = (s.rd64 R.PWR_SLP_ABORT_LO + 1) % 2 ^ 64 ∧ t.slp = { s.slp with mdio := 0 } ∧
      Kept { s with slp := t.slp, mdio := t.mdio } t [R.PWR_SLP_ABORT_LO, R.PWR_SLP_ABORT_LO + 4]) ∧
  (∀ (s : State) (req : Nat), Unlocked s req R.PWR_SLP_CMD 2 → s.tenon.up = true → s.tenon.acc.any (fun x => x.req == req) = false → s.stat R.PWR_SLP_CMD ≠ statBusy → s.slpState = slpReady →
    exec (.slpCommit req) s = .next (State.passOn s ((((s.spend req).putCmd R.PWR_SLP_CMD 2 statBusy).slpCommit).respond req false 0))) ∧
  (∀ s : State, s.slpState = slpCommitting → (∀ n, n < 24 → s.ldState n = ldOff) → s.g R.PWR_SUP_STS.SAVE ≠ 1 → s.stat R.PWR_SLP_CMD = statBusy →
    ∃ t, exec .slpInhFall s = .next t ∧ t.slpState = slpAsleep ∧ t.stat R.PWR_SLP_CMD = statDone ∧
      t.rd64 R.PWR_SLEEP_LO = (s.rd64 R.PWR_SLEEP_LO + 1) % 2 ^ 64 ∧ t.slp = { s.slp with inh := false, since := s.tick, saved := [] } ∧
      Kept { s with slp := t.slp } t [R.PWR_SLEEP_LO, R.PWR_SLEEP_LO + 4]) ∧
  (∀ s : State, s.slpState = slpWaking → (∀ i, i < 4 → s.g (R.PWR_WK_CFG.EN i) = 0) → ∃ t, exec .slpModFs s = .next t ∧ t.slpState = slpAsleep ∧
    t.rd R.PWR_WK_SRC = 0 ∧ t.rd64 R.PWR_MOD_FS_LO = (s.rd64 R.PWR_MOD_FS_LO + 1) % 2 ^ 64 ∧
    t.slp = { s.slp with inh := false, modFs := true, since := s.tick } ∧
    Kept { s with slp := t.slp } t [R.PWR_MOD_FS_LO, R.PWR_MOD_FS_LO + 4, R.PWR_WK_SRC])

/-- R378-R384, R388, R389: inbound requests. A write makes its register access, and a failed or poisoned one is a late failure;
a read completes with its data or with Completer Abort, or is answered after RD_TMO_US; BAR2 leads to DRAM through the
window; an AtomicOp returns the original value; what is not served is an Unsupported Request. -/
def Obligations.BridgeInboundRequests : Prop :=
  (∀ (s : State) (rid k : Nat) (w : Word), k < 16 → s.g R.BRG_LINK.UP = 1 → s.g R.BRG_LINK.MSE = 1 → s.loadRefused reqHost (R.BRG_SEM k) = false →
    s.saving = false → ∃ t, exec (.inboundWrite rid (R.BRG_SEM k) 15 0 false [w]) s = .next t ∧ t.rd (R.BRG_SEM k) = w ∧
      t.rd64 R.BRG_IN_WR_LO = (s.rd64 R.BRG_IN_WR_LO + 1) % 2 ^ 64 ∧ Kept s t [R.BRG_SEM k, R.BRG_IN_WR_LO, R.BRG_IN_WR_LO + 4]) ∧
  (∀ (s : State) (rid off : Nat) (w : Word), off < 2 ^ 26 → off % 4 = 0 → rowOf off = none → s.g R.BRG_LINK.UP = 1 → s.g R.BRG_LINK.MSE = 1 →
    s.loadRefused reqHost off = false → exec (.inboundWrite rid off 15 0 false [w]) s = .next (State.passOn s
      (((s.bump R.BRG_IN_WR_LO).logAccess reqHost off 15 true .unmap).lateFail rid 0 off 15 lfUnmap))) ∧
  (∀ (s : State) (rid off : Nat) (l : List Word), rid < 65536 → off < 2 ^ 26 → off % 4 = 0 → s.g R.BRG_LINK.UP = 1 → s.g R.BRG_LINK.MSE = 1 →
    s.saving = false → ∃ t, exec (.inboundWrite rid off 15 15 true l) s = .next t ∧
      t.rd (R.BRG_LFL_ADDR (s.g R.BRG_LFL_PTR.NEXT)) = W off ∧
      t.rd (R.BRG_LFL_INFO (s.g R.BRG_LFL_PTR.NEXT)) = W (rid * 65536 + 15 * 256 + lfPoison * 16) ∧
      t.g R.BRG_LFL_PTR.NEXT = (s.g R.BRG_LFL_PTR.NEXT + 1) % 16 ∧ t.g R.BRG_EVT.LATE = 1 ∧ t.g R.BRG_EVT.POISON = 1 ∧
      t.rd64 R.BRG_LATE_FAIL_LO = (s.rd64 R.BRG_LATE_FAIL_LO + 1) % 2 ^ 64 ∧ t.rd64 R.BRG_POISON_RX_LO = (s.rd64 R.BRG_POISON_RX_LO + 1) % 2 ^ 64 ∧
      .poisoned ∈ t.brg.aer ∧ Kept { s with brg := { s.brg with aer := t.brg.aer } } t
        [R.BRG_LFL_ADDR (s.g R.BRG_LFL_PTR.NEXT), R.BRG_LFL_INFO (s.g R.BRG_LFL_PTR.NEXT), R.BRG_LFL_PTR, R.BRG_LATE_FAIL_LO, R.BRG_LATE_FAIL_LO + 4,
         R.BRG_EVT, R.BRG_POISON_RX_LO, R.BRG_POISON_RX_LO + 4]) ∧
  (∀ (s : State) (rid tag k be be' : Nat), k < 16 → s.g R.BRG_LINK.UP = 1 → s.g R.BRG_LINK.MSE = 1 → s.saving = false →
    ∃ t, exec (.inboundRead rid tag (R.BRG_SEM k) 1 be be') s = .next t ∧ t.brg.tlps.head? = some (.cplData rid tag [s.rd (R.BRG_SEM k)] false) ∧
      t.rd64 R.BRG_IN_RD_LO = (s.rd64 R.BRG_IN_RD_LO + 1) % 2 ^ 64 ∧ Kept s t [R.BRG_IN_RD_LO, R.BRG_IN_RD_LO + 4]) ∧
  (∀ (s : State) (rid tag off be be' : Nat), off < 2 ^ 26 → off % 4 = 0 → rowOf off = none → s.g R.BRG_LINK.UP = 1 → s.g R.BRG_LINK.MSE = 1 →
    exec (.inboundRead rid tag off 1 be be') s = .next (State.passOn s ((((((s.bump R.BRG_IN_RD_LO).logAccess reqHost off (be % 16) false .unmap).sendTlps
      [.cplAbort rid tag]).bump R.BRG_RD_CA_LO).ev R.BRG_EVT.RD_CA)))) ∧
  (∀ (s : State) (rid tag : Nat) (r : InRead), s.brg.inReads = [r] → r.src = .inRead rid tag → s.saving = false →
    ∃ t, exec (.brgRdTmo rid tag) s = .next t ∧ t.brg.inReads = [] ∧ t.brg.tlps.head? = some (.cplAbort rid tag) ∧ t.g R.BRG_EVT.RD_TMO = 1 ∧
      t.rd64 R.BRG_RD_TMO_LO = (s.rd64 R.BRG_RD_TMO_LO + 1) % 2 ^ 64 ∧
      t.tenon.acc = s.tenon.acc.map (fun x => if x.src = .inRead rid tag then { x with src := .gone } else x) ∧
      Kept { s with brg := { s.brg with inReads := [] }, tenon := { s.tenon with acc := t.tenon.acc } } t
        [R.BRG_RD_TMO_LO, R.BRG_RD_TMO_LO + 4, R.BRG_EVT]) ∧
  (∀ (s u : State) (rid tag off n : Nat) (w : Word), off % 4 = 0 → s.g R.BRG_LINK.UP = 1 → s.g R.BRG_LINK.MSE = 1 →
    (s.bump R.BRG_IN_WR_LO).dramWrite (s.g R.BRG_WIN.BASE_MIB * 1048576 + off % 2 ^ 28) (leBytes 4 w.toNat) = (u, true) →
    exec (.bar2Access rid tag true off 15 0 n false [w]) s = .next (State.passOn s u)) ∧
  (∀ (s : State) (rid tag off be : Nat) (w : Word), off % 4 = 0 → s.g R.BRG_LINK.UP = 1 → s.g R.BRG_LINK.MSE = 1 → s.saving = false →
    beyond (s.g R.BRG_WIN.BASE_MIB * 1048576 + off % 2 ^ 28) 4 = false →
    (linesOf (s.g R.BRG_WIN.BASE_MIB * 1048576 + off % 2 ^ 28) 4).any s.poisoned = false →
    ∃ t, exec (.bar2Access rid tag false off be be 1 false [w]) s = .next t ∧
      t.brg.tlps.head? = some (.cplData rid tag (toWords (s.dramBytes (s.g R.BRG_WIN.BASE_MIB * 1048576 + off % 2 ^ 28) 4)) false) ∧
      Kept s t [R.BRG_IN_RD_LO, R.BRG_IN_RD_LO + 4]) ∧
  (∀ (s : State) (rid tag k a b : Nat), k < 16 → s.g R.BRG_LINK.UP = 1 → s.g R.BRG_LINK.MSE = 1 → s.loadRefused reqHost (R.BRG_SEM k) = false →
    s.saving = false → ∃ t, exec (.atomicOp rid tag 0 (R.BRG_SEM k) 0 4 a b) s = .next t ∧
      (t.rd (R.BRG_SEM k)).toNat = ((s.rd (R.BRG_SEM k)).toNat + a) % 2 ^ 32 ∧
      t.brg.tlps.head? = some (.cplData rid tag [s.rd (R.BRG_SEM k)] false) ∧ t.rd64 R.BRG_ATOMIC_LO = (s.rd64 R.BRG_ATOMIC_LO + 1) % 2 ^ 64 ∧
      Kept s t [R.BRG_SEM k, R.BRG_ATOMIC_LO, R.BRG_ATOMIC_LO + 4]) ∧
  (∀ (s : State) (rid tag k a b : Nat), k < 16 → s.g R.BRG_LINK.UP = 1 → s.g R.BRG_LINK.MSE = 1 → s.loadRefused reqHost (R.BRG_SEM k) = false →
    s.saving = false → ∃ t, exec (.atomicOp rid tag 0 (R.BRG_SEM k) 2 4 a b) s = .next t ∧
      (t.rd (R.BRG_SEM k)).toNat = (if (s.rd (R.BRG_SEM k)).toNat = a % 2 ^ 32 then b % 2 ^ 32 else (s.rd (R.BRG_SEM k)).toNat) ∧
      t.brg.tlps.head? = some (.cplData rid tag [s.rd (R.BRG_SEM k)] false) ∧ Kept s t [R.BRG_SEM k, R.BRG_ATOMIC_LO, R.BRG_ATOMIC_LO + 4]) ∧
  (∀ (s : State) (rid tag : Nat), s.g R.BRG_LINK.UP = 1 → s.saving = false → ∃ t, exec (.unsupportedRequest rid tag 1) s = .next t ∧
    t.brg.tlps.head? = some (.cplUr rid tag) ∧ t.rd64 R.BRG_UR_LO = (s.rd64 R.BRG_UR_LO + 1) % 2 ^ 64 ∧ t.g R.BRG_EVT.UR = 1 ∧
    .unsupported ∈ t.brg.aer ∧ Kept { s with brg := { s.brg with aer := t.brg.aer } } t [R.BRG_UR_LO, R.BRG_UR_LO + 4, R.BRG_EVT])

/-- R376, R377, R390, R393, R394: configuration space, the link and outbound requests. Before the bridge is ready a
configuration request gets retry status; the first word names the device; Memory Space Enable is written; the link trained
or up again attaches the function; a lost link detaches it; outbound writes and reads are sent while they can be, a
completion brings the data of its tag, and a missing one ends in error. -/
def Obligations.BridgeLinkAndOutbound : Prop :=
  (∀ (s : State) (rid tag reg be : Nat) (wr : Bool) (v : Word), s.g R.BRG_LINK.UP = 1 → s.brg.ready = false →
    ∃ t, exec (.configurationRequest rid tag wr reg be v false) s = .next t ∧ t.brg.tlps.head? = some (.cplRetry rid tag) ∧ Kept s t []) ∧
  (∀ (s : State) (rid tag be : Nat) (v : Word) (b : Bool), s.g R.BRG_LINK.UP = 1 → s.brg.ready = true →
    ∃ t, exec (.configurationRequest rid tag false 0 be v b) s = .next t ∧ t.brg.tlps.head? = some (.cplData rid tag [0x9256D7E5] false) ∧ Kept s t []) ∧
  (∀ (s : State) (rid tag : Nat) (v : Word), s.g R.BRG_LINK.UP = 1 → v.toNat < 2 ^ 32 →
    ∃ t, exec (.configurationRequest rid tag true 5 15 v true) s = .next t ∧ .cplOk rid tag ∈ t.brg.tlps ∧
      t.brg.bar0 = s.brg.bar0 % 2 ^ 32 + v.toNat * 2 ^ 32 ∧ t.brg.ready = true ∧
      Kept { s with brg := { s.brg with bar0 := t.brg.bar0, ready := true } } t []) ∧
  (∀ (s : State) (width speed : Nat), s.brg.training = true → s.g R.BRG_LINK.UP = 0 → linkOk width speed = true →
    ∃ t, exec (.pcieLinkTrained width speed) s = .next t ∧ t.g R.BRG_LINK.UP = 1 ∧ t.g R.BRG_LINK.WIDTH = width ∧ t.g R.BRG_LINK.SPEED = speed ∧
      t.g R.BRG_LINK.MSE = 0 ∧ t.g R.BRG_EVT.ATTACH = 1 ∧ t.brg.mps = 128 ∧ t.brg.mrrs = 512 ∧ t.brg.training = false ∧
      Kept { s with brg := { s.brg with bar0 := 0, bar2 := 0, mps := 128, mrrs := 512, aer := [], training := false } } t
        ([R.BRG_LINK, R.BRG_EVT] ++ (List.range 8192).map (fun k => R.MSIX_TAB_W0 0 + k))) ∧
  (∀ (s : State) (width speed : Nat), s.coreUp = true → s.loader.pllLocked = true → s.g R.BRG_LINK.UP = 0 → linkOk width speed = true →
    ∃ t, exec (.brgAttach width speed) s = .next t ∧ t.g R.BRG_LINK.UP = 1 ∧ t.g R.BRG_LINK.WIDTH = width ∧ t.g R.BRG_LINK.SPEED = speed ∧
      t.g R.BRG_LINK.BME = 0 ∧ t.g R.BRG_EVT.ATTACH = 1 ∧
      Kept { s with brg := { s.brg with bar0 := 0, bar2 := 0, mps := 128, mrrs := 512, aer := [], training := false } } t
        ([R.BRG_LINK, R.BRG_EVT] ++ (List.range 8192).map (fun k => R.MSIX_TAB_W0 0 + k))) ∧
  (∀ s : State, s.g R.BRG_LINK.UP = 1 → s.brg.outReads = [] → (∀ p ∈ s.grit.running, softTouchesHost p.2 = false) →
    (∀ j ∈ s.grit.waiting, softTouchesHost j = false) → s.saving = false → ∃ t, exec .brgDetach s = .next t ∧
    t.g R.BRG_LINK.UP = 0 ∧ t.g R.BRG_EVT.DETACH = 1 ∧ t.rd64 R.BRG_DETACH_LO = (s.rd64 R.BRG_DETACH_LO + 1) % 2 ^ 64 ∧
    (t.rq reqHost).armed = false ∧ (t.rq reqHost).shadows = [] ∧ t.g R.BRG_LINK.MSE = 0 ∧ t.brg.inReads = s.brg.inReads.filter (fun r => r.src == .cqp) ∧
    (∀ k, k < 64 → t.rd (R.MSIX_TAB_W0 k) = resetOf (R.MSIX_TAB_W0 k))) ∧
  (∀ (s : State) (a : Nat) (d : List Byte), a < 2 ^ 63 → s.g R.BRG_LINK.UP = 1 → s.g R.BRG_LINK.BME = 1 → 0 < d.length → d.length ≤ 4096 - a % 4096 →
    d.length ≤ s.brg.mps → s.saving = false → ∃ t, exec (.outboundWrite a d) s = .next t ∧ t.brg.tlps.head? = some (.memWr a d) ∧
      t.rd64 R.BRG_OUT_WR_LO = (s.rd64 R.BRG_OUT_WR_LO + 1) % 2 ^ 64 ∧ Kept s t [R.BRG_OUT_WR_LO, R.BRG_OUT_WR_LO + 4]) ∧
  (∀ (s : State) (a : Nat) (d : List Byte), s.g R.BRG_LINK.BME = 0 → s.saving = false → ∃ t, exec (.outboundWrite a d) s = .next t ∧
    t.rd64 R.BRG_OUT_ERR_LO = (s.rd64 R.BRG_OUT_ERR_LO + 1) % 2 ^ 64 ∧ t.g R.BRG_EVT.OUT_ERR = 1 ∧
    Kept s t [R.BRG_OUT_ERR_LO, R.BRG_OUT_ERR_LO + 4, R.BRG_EVT]) ∧
  (∀ (s : State) (a n : Nat), a < 2 ^ 63 → s.g R.BRG_LINK.UP = 1 → s.g R.BRG_LINK.BME = 1 → 0 < n → n ≤ 4096 - a % 4096 → n ≤ s.brg.mrrs →
    s.brg.outReads = [] → s.saving = false → ∃ t, exec (.outboundRead a n) s = .next t ∧ t.brg.outReads = [{ tag := 0, src := .other, addr := a, len := n }] ∧
      t.brg.tlps.head? = some (.memRd 0 a n) ∧ t.rd64 R.BRG_OUT_RD_LO = (s.rd64 R.BRG_OUT_RD_LO + 1) % 2 ^ 64 ∧
      Kept { s with brg := { s.brg with outReads := t.brg.outReads } } t [R.BRG_OUT_RD_LO, R.BRG_OUT_RD_LO + 4]) ∧
  (∀ (s : State) (tag : Nat) (d : List Byte) (r : OutRead), s.g R.BRG_LINK.UP = 1 → s.brg.outReads = [r] → r.tag = tag → r.got = none → r.src = .other →
    ∃ t, exec (.outboundCompletion tag 0 d) s = .next t ∧ t.brg.outReads = [] ∧ Kept { s with brg := { s.brg with outReads := [] } } t []) ∧
  (∀ (s : State) (tag : Nat) (r : OutRead), s.brg.outReads = [r] → r.tag = tag → r.got = none → r.src = .other → s.saving = false →
    ∃ t, exec (.brgCplTmo tag) s = .next t ∧ t.brg.outReads = [] ∧ .completionTimeout ∈ t.brg.aer ∧ t.g R.BRG_EVT.CPL_TMO = 1 ∧ t.g R.BRG_EVT.OUT_ERR = 1 ∧
      t.rd64 R.BRG_CPL_TMO_LO = (s.rd64 R.BRG_CPL_TMO_LO + 1) % 2 ^ 64 ∧ t.rd64 R.BRG_OUT_ERR_LO = (s.rd64 R.BRG_OUT_ERR_LO + 1) % 2 ^ 64 ∧
      Kept { s with brg := { s.brg with outReads := [], aer := t.brg.aer } } t
        [R.BRG_CPL_TMO_LO, R.BRG_CPL_TMO_LO + 4, R.BRG_EVT, R.BRG_OUT_ERR_LO, R.BRG_OUT_ERR_LO + 4])

/-- R400-R406: DMA channels. START takes an idle channel to ACTIVE, or to ARMED with a trigger; STOP, EN cleared and CLEAR take
it to IDLE; a good descriptor is taken up and a bad one halts the channel with DESC; a granted slot moves its burst; the
last descriptor ends the list; an error response halts the channel and latches the first failure. -/
def Obligations.DmaChannels : Prop :=
  (∀ (s : State) (req c : Nat), c < 256 → Admitted s req (R.DMA_CH_CMD c) 1 → s.stat (R.DMA_CH_CMD c) ≠ statBusy → s.chState c = chIdle →
    s.g (R.DMA_CH_CFG.EN c) = 1 → s.beforeRun = false → s.g (R.DMA_CH_CFG.TRIG c) = 0 →
    ∃ t, exec (.dmaStart req c) s = .next t ∧ t.chState c = chActive ∧ t.chan c = { s.chan c with fetch := some (s.chList c), part := 0 } ∧
      t.rd64 (R.DMA_CH_CUR_LO c) = s.chList c ∧ t.g (R.DMA_CH_STS.STOPPED c) = 0 ∧ t.stat (R.DMA_CH_CMD c) = statDone ∧
      (∀ k, k ≠ c → t.chan k = s.chan k) ∧ Kept { s with dma := t.dma } t
        [R.DMA_CH_CMD c, R.DMA_CH_STS c, R.DMA_CH_CUR_LO c, R.DMA_CH_CUR_LO c + 4]) ∧
  (∀ (s : State) (req c : Nat), c < 256 → Admitted s req (R.DMA_CH_CMD c) 1 → s.stat (R.DMA_CH_CMD c) ≠ statBusy → s.chState c = chIdle →
    s.g (R.DMA_CH_CFG.EN c) = 1 → s.beforeRun = false → s.g (R.DMA_CH_CFG.TRIG c) ≠ 0 → (s.chan c).desc = none →
    ∃ t, exec (.dmaStart req c) s = .next t ∧ t.chState c = chArmed ∧ (t.chan c).list = s.chList c ∧ t.stat (R.DMA_CH_CMD c) = statDone ∧
      (∀ k, k ≠ c → t.chan k = s.chan k) ∧ Kept { s with dma := t.dma } t [R.DMA_CH_CMD c, R.DMA_CH_STS c]) ∧
  (∀ (s : State) (req c : Nat), c < 256 → Admitted s req (R.DMA_CH_CMD c) 2 → s.stat (R.DMA_CH_CMD c) ≠ statBusy →
    (s.chState c = chActive ∨ s.chState c = chArmed) → (s.chan c).desc = none →
    ∃ t, exec (.dmaStop req c) s = .next t ∧ t.chState c = chIdle ∧ t.g (R.DMA_CH_STS.STOPPED c) = 1 ∧ (t.chan c).fetch = none ∧
      (t.chan c).inflight = (s.chan c).inflight ∧ t.stat (R.DMA_CH_CMD c) = statDone ∧ (∀ k, k ≠ c → t.chan k = s.chan k) ∧
      Kept { s with dma := t.dma } t [R.DMA_CH_CMD c, R.DMA_CH_STS c]) ∧
  (∀ (s : State) (req c : Nat) (v : Word), c < 256 → Admitted s req (R.DMA_CH_CFG c) (v &&& 0x7FFFFFFF) → s.g (R.DMA_CH_CFG.EN c) = 1 →
    (s.chState c = chActive ∨ s.chState c = chArmed) → (s.chan c).desc = none →
    ∃ t, exec (.dmaChannelDisable req c v) s = .next t ∧ t.chState c = chIdle ∧ t.g (R.DMA_CH_STS.STOPPED c) = 1 ∧ t.g (R.DMA_CH_CFG.EN c) = 0 ∧
      (t.chan c).fetch = none ∧ (∀ k, k ≠ c → t.chan k = s.chan k) ∧ Kept { s with dma := t.dma } t [R.DMA_CH_CFG c, R.DMA_CH_STS c]) ∧
  (∀ (s : State) (req c : Nat), c < 256 → Admitted s req (R.DMA_CH_CMD c) 3 → s.stat (R.DMA_CH_CMD c) ≠ statBusy → s.chState c = chHalted →
    ∃ t, exec (.dmaClear req c) s = .next t ∧ t.chState c = chIdle ∧ t.g (R.DMA_CH_ERR_INFO.VALID c) = 0 ∧ t.stat (R.DMA_CH_CMD c) = statDone ∧
      Kept s t [R.DMA_CH_CMD c, R.DMA_CH_STS c, R.DMA_CH_ERR_INFO c]) ∧
  (∀ (s : State) (c a : Nat) (h : HostMem) (b : List Byte), c < 256 → (s.chan c).fetch = some a → s.chState c = chActive →
    s.devRead h a 32 = (s, .inl b) → s.descOk c (descOf a b) = true → (descOf a b).sq = false → (descOf a b).dq = false →
    ∃ t, exec (.descriptorFetch c h) s = .next t ∧ t.chan c = { s.chan c with fetch := none, desc := some (descOf a b), ofs := 0, timer := none } ∧
      t.g (R.DMA_CH_STS.REM c) = (descOf a b).len ∧ t.chState c = chActive ∧ (∀ k, k ≠ c → t.chan k = s.chan k) ∧
      Kept { s with dma := t.dma } t [R.DMA_CH_STS c]) ∧
  (∀ (s : State) (c a : Nat) (h : HostMem) (b : List Byte), c < 256 → (s.chan c).fetch = some a → (s.chan c).desc = none → s.chState c = chActive →
    s.devRead h a 32 = (s, .inl b) → s.descOk c (descOf a b) = false → s.g (R.DMA_CH_ERR_INFO.VALID c) = 0 → s.brg.outReads = [] → a < 2 ^ 64 →
    ∃ t, exec (.descriptorFetch c h) s = .next t ∧ t.chState c = chHalted ∧ t.rd (R.DMA_CH_ERR_INFO c) = 0xA0000006 ∧
      t.rd64 (R.DMA_CH_ERR_ADDR_LO c) = a ∧ t.g (R.DMA_CH_EVT.HALT c) = 1 ∧ (∀ k, k ≠ c → t.chan k = s.chan k) ∧
      Kept { s with dma := t.dma } t [R.DMA_CH_STS c, R.DMA_CH_ERR_INFO c, R.DMA_CH_ERR_ADDR_LO c, R.DMA_CH_ERR_ADDR_LO c + 4, R.DMA_CH_EVT c]) ∧
  (∀ (s u v : State) (b c : Nat) (d : Desc) (l : List Byte), b < 8 → s.slotPick b = some c → (s.chan c).desc = some d → d.sq = false → d.dq = false →
    0 < s.burstLen c d → s.burstLen c d ≤ 64 → (∀ h, targetOf (d.src + (s.chan c).ofs) ≠ .host h) →
    ({ s with dma := { s.dma with last := s.dma.last.set (fun _ => 31) b (c % 32) } }.issued c (s.burstLen c d) d).beatRead
      (d.src + (s.chan c).ofs) (s.burstLen c d) = (u, l, []) → u.beatWrite (d.dst + (s.chan c).ofs) l = (v, []) →
    exec (.burstGrant b) s = .next (State.passOn s v)) ∧
  (∀ (s : State) (c : Nat) (d : Desc), c < 256 → (s.chan c).desc = some d → s.chState c = chActive → (s.chan c).ofs = d.len →
    (s.chan c).inflight = none → d.wb = false → d.irq = true → d.chain = false → d.sq = false → d.dq = false → d.next = 0 →
    s.g (R.DMA_CH_CFG.REARM c) = 0 → s.saving = false →
    ∃ t, exec (.descriptorComplete c) s = .next t ∧ t.chState c = chIdle ∧ t.g (R.DMA_CH_STS.STOPPED c) = 0 ∧ t.g (R.DMA_CH_EVT.DONE c) = 1 ∧
      t.rd64 (R.DMA_DONE_LO c) = (s.rd64 (R.DMA_DONE_LO c) + 1) % 2 ^ 64 ∧ (t.chan c).desc = none ∧ (∀ k, k ≠ c → t.chan k = s.chan k) ∧
      Kept { s with dma := t.dma } t [R.DMA_CH_EVT c, R.DMA_DONE_LO c, R.DMA_DONE_LO c + 4, R.DMA_CH_STS c]) ∧
  (∀ (s : State) (c k a : Nat) (w e : Bool), c < 256 → 1 ≤ k → k ≤ 5 → s.chState c = chActive → (s.chan c).desc = none → s.brg.outReads = [] →
    s.g (R.DMA_CH_ERR_INFO.VALID c) = 0 → s.saving = false → a < 2 ^ 64 →
    ∃ t, exec (.dmaHalt c k w e a) s = .next t ∧ t.chState c = chHalted ∧ t.rd (R.DMA_CH_ERR_INFO c) = W (2 ^ 31 + (if w then 2 ^ 30 else 0) + (if e then 2 ^ 29 else 0) + k) ∧
      t.rd64 (R.DMA_CH_ERR_ADDR_LO c) = a ∧ t.g (R.DMA_CH_EVT.HALT c) = 1 ∧
      t.rd64 (R.DMA_ERR_LO c) = (s.rd64 (R.DMA_ERR_LO c) + 1) % 2 ^ 64 ∧ (∀ n, n ≠ c → t.chan n = s.chan n) ∧
      Kept { s with dma := t.dma } t [R.DMA_ERR_LO c, R.DMA_ERR_LO c + 4, R.DMA_CH_STS c, R.DMA_CH_ERR_INFO c, R.DMA_CH_ERR_ADDR_LO c,
        R.DMA_CH_ERR_ADDR_LO c + 4, R.DMA_CH_EVT c])

/-- R407, R412-R416: message queues. A write of QUE_RD consumes words, one that would pass WR is ignored and logged PTR; a write
of QUE_WR commits words; DROP_REM, FLUSH and RESUME act; the device skips idle words and halts a queue on a bad entry; the
flush timer requests what a bound queue holds. -/
def Obligations.MessageQueues : Prop :=
  (∀ (s : State) (req q : Nat) (v : Word), q < 64 → q ≠ 48 → Admitted s req (R.QUE_RD q) v → s.qIsIn q = false → s.qBound q = false →
    (fieldOf v 0 15 + 32768 - s.qRd q) % 32768 ≤ s.qLevel q →
    ∃ t, exec (.queRdWrite req q v) s = .next t ∧ t.qRd q = fieldOf v 0 15 ∧ t.qWr q = s.qWr q ∧
      t.g (R.QUE_STS.LEVEL q) = (s.qWr q + 32768 - fieldOf v 0 15) % 32768 ∧ Kept s t [R.QUE_RD q, R.QUE_STS q, R.QUE_EVT q]) ∧
  (∀ (s : State) (req q : Nat) (v : Word), q < 64 → Admitted s req (R.QUE_RD q) v →
    (s.qIsIn q = true ∨ s.qBound q = true ∨ s.qLevel q < (fieldOf v 0 15 + 32768 - s.qRd q) % 32768) →
    ∃ t, exec (.queRdWrite req q v) s = .next t ∧ Logged s t req (R.QUE_RD q) 15 true .ptr ∧ t.qRd q = s.qRd q ∧ Kept s t (logRegs s)) ∧
  (∀ (s : State) (req q : Nat) (v : Word), q < 64 → q ≠ 48 → Admitted s req (R.QUE_WR q) v → s.qIsIn q = true → s.qBound q = false →
    (fieldOf v 0 15 + 32768 - s.qWr q) % 32768 ≤ s.qRoom q → s.saving = false →
    ∃ t, exec (.queWrWrite req q v) s = .next t ∧ t.qWr q = fieldOf v 0 15 ∧ t.qRd q = s.qRd q ∧
      t.g (R.QUE_STS.LEVEL q) = (fieldOf v 0 15 + 32768 - s.qRd q) % 32768 ∧
      Kept s t [R.QUE_WR q, R.QUE_STS q, R.QUE_EVT q, R.QUE_ENTRY_LO q, R.QUE_ENTRY_LO q + 4]) ∧
  (∀ (s : State) (req q : Nat), q < 64 → q ≠ 48 → Admitted s req (R.QUE_CMD q) 1 → s.stat (R.QUE_CMD q) ≠ statBusy → s.canDropRem q = true →
    entryWords (s.qWord q (s.qRd q)) ≤ s.qLevel q →
    ∃ t, exec (.queDropRem req q) s = .next t ∧ t.qRd q = (s.qRd q + entryWords (s.qWord q (s.qRd q))) % 32768 ∧ t.qWr q = s.qWr q ∧
      t.stat (R.QUE_CMD q) = statDone ∧ Kept s t [R.QUE_CMD q, R.QUE_RD q, R.QUE_STS q, R.QUE_EVT q]) ∧
  (∀ (s : State) (req q : Nat), q < 64 → q ≠ 48 → Admitted s req (R.QUE_CMD q) 2 → s.stat (R.QUE_CMD q) ≠ statBusy →
    ∃ t, exec (.queFlush req q) s = .next t ∧ t.qRd q = (if s.qIsIn q then s.qRd q else s.qWr q) ∧
      t.qWr q = (if s.qIsIn q then s.qRd q else s.qWr q) ∧ t.g (R.QUE_STS.LEVEL q) = 0 ∧ t.stat (R.QUE_CMD q) = statDone ∧
      Kept s t [R.QUE_CMD q, R.QUE_RD q, R.QUE_WR q, R.QUE_STS q, R.QUE_EVT q]) ∧
  (∀ (s : State) (req q : Nat), q < 64 → q ≠ 48 → Admitted s req (R.QUE_CMD q) 3 → s.stat (R.QUE_CMD q) ≠ statBusy →
    ∃ t, exec (.queResume req q) s = .next t ∧ t.g (R.QUE_STS.HALT q) = 0 ∧ t.stat (R.QUE_CMD q) = statDone ∧ Kept s t [R.QUE_CMD q, R.QUE_STS q]) ∧
  (∀ (s : State) (q : Nat), q < 64 → q ≠ 48 → s.qIsIn q = true → s.qEn q = true → s.g (R.QUE_STS.HALT q) = 0 → 0 < s.qLevel q →
    s.qWord q (s.qRd q) = idleWord → ∃ t, exec (.inQueueTake q) s = .next t ∧ t.qRd q = (s.qRd q + 1) % 32768 ∧ t.qWr q = s.qWr q ∧
      Kept s t [R.QUE_RD q, R.QUE_STS q, R.QUE_EVT q]) ∧
  (∀ (s : State) (q : Nat), q < 64 → q ≠ 48 → s.qIsIn q = true → s.qEn q = true → s.g (R.QUE_STS.HALT q) = 0 → 0 < s.qLevel q →
    s.qWord q (s.qRd q) ≠ idleWord → inEntryOk (s.qWord q (s.qRd q)) = false → s.saving = false →
    ∃ t, exec (.inQueueTake q) s = .next t ∧ t.g (R.QUE_STS.HALT q) = 1 ∧ t.g (R.QUE_EVT.HALT q) = 1 ∧ t.qRd q = s.qRd q ∧
      t.rd64 (R.QUE_FMT_ERR_LO q) = (s.rd64 (R.QUE_FMT_ERR_LO q) + 1) % 2 ^ 64 ∧
      Kept s t [R.QUE_STS q, R.QUE_FMT_ERR_LO q, R.QUE_FMT_ERR_LO q + 4, R.QUE_EVT q]) ∧
  (∀ (s : State) (q c : Nat) (k : Chan) (d : Desc), q < 64 → s.dma.chans = [(c, k)] → k.desc = some d → d.sq = true → d.q = q →
    s.chState c = chActive → s.g (R.QUE_TMO.FLUSH_US q) ≠ 0 → 0 < s.qLevel q → s.qLevel q < s.burstLen c d / 4 → k.timer = none → k.ofs < d.len →
    ∃ t, exec (.queFlushTimer q) s = .next t ∧ t.chan c = { k with timer := some (s.qLevel q) } ∧ (∀ n, n ≠ c → t.chan n = s.chan n) ∧
      Kept { s with dma := t.dma } t [])

/-- R418-R422: the companion port. CQ_CS_N falling shifts out the status byte; WR32 and RD32 access registers as requester CQP;
QTAKE and QPEEK shift out queue words, QPUT takes words for its end, QSKIP drops an entry, STATUS returns CQP_STS; CQ_CS_N
rising records the outcome and consumes or commits whole entries; a silent port is inactive. -/
def Obligations.CompanionPort : Prop :=
  (∀ s : State, s.cqp.sel = false → s.loader.pllLocked = true → s.g R.CQP_CFG.EN = 1 → ∃ t, exec .cqpTransactionStart s = .next t ∧
    t.cqp = { sel := true, quad := s.on R.CQP_CFG.QUAD, out := [B8 s.cqpStatus] } ∧ Kept { s with cqp := t.cqp } t []) ∧
  (∀ (s : State) (k : Nat) (w : Word), k < 16 → s.cqpOpen = true → s.loadRefused reqCqp (R.BRG_SEM k) = false →
    ∃ t, exec (.cqpWr32 (R.BRG_SEM k) [w]) s = .next t ∧ t.rd (R.BRG_SEM k) = w ∧ t.cqp = { s.cqp with cmd := true } ∧
      Kept { s with cqp := t.cqp } t [R.BRG_SEM k]) ∧
  (∀ (s : State) (k : Nat), k < 16 → s.cqpOpen = true → ∃ t, exec (.cqpRd32 (R.BRG_SEM k) 1) s = .next t ∧
    t.cqp = { s.cqp with cmd := true, out := s.cqp.out ++ 0xA5 :: ofWords [s.rd (R.BRG_SEM k)] } ∧ Kept { s with cqp := t.cqp } t []) ∧
  (∀ (s : State) (q n : Nat), s.cqpOpen = true → 48 ≤ q → q ≤ 55 → s.qIsIn q = false → n < 65536 → ∃ t, exec (.cqpQtake q n) s = .next t ∧
    t.cqp = { s.cqp with cmd := true, out := s.cqp.out ++ 0xA5 :: ofWords (s.cqpWords q n), take := some (q, n) } ∧ Kept { s with cqp := t.cqp } t []) ∧
  (∀ (s : State) (q n : Nat), s.cqpOpen = true → 48 ≤ q → q ≤ 55 → s.qIsIn q = false → n < 65536 → ∃ t, exec (.cqpQpeek q n) s = .next t ∧
    t.cqp = { s.cqp with cmd := true, out := s.cqp.out ++ 0xA5 :: ofWords (s.cqpWords q n), take := none } ∧ Kept { s with cqp := t.cqp } t []) ∧
  (∀ (s : State) (q : Nat) (l : List Word), s.cqpOpen = true → 48 ≤ q → q ≤ 55 → s.qIsIn q = true → ∃ t, exec (.cqpQput q l) s = .next t ∧
    t.cqp = { s.cqp with cmd := true, put := some (q, l) } ∧ Kept { s with cqp := t.cqp } t []) ∧
  (∀ (s : State) (q : Nat) (l : List Word), s.cqpOpen = true → (q < 48 ∨ 55 < q ∨ s.qIsIn q = false) → ∃ t, exec (.cqpQput q l) s = .next t ∧
    t.cqp = { s.cqp with cmd := true, outcome := cqpRefused } ∧ Kept { s with cqp := t.cqp } t []) ∧
  (∀ (s : State) (q : Nat), s.cqpOpen = true → 49 ≤ q → q ≤ 55 → s.canDropRem q = true → entryWords (s.qWord q (s.qRd q)) ≤ s.qLevel q →
    ∃ t, exec (.cqpQskip q) s = .next t ∧ t.qRd q = (s.qRd q + entryWords (s.qWord q (s.qRd q))) % 32768 ∧ t.qWr q = s.qWr q ∧
      t.cqp = { s.cqp with cmd := true } ∧ Kept { s with cqp := t.cqp } t [R.QUE_RD q, R.QUE_STS q, R.QUE_EVT q]) ∧
  (∀ s : State, s.cqpOpen = true → ∃ t, exec .cqpStatus s = .next t ∧
    t.cqp = { s.cqp with cmd := true, out := s.cqp.out ++ leBytes 4 s.cqpStatus } ∧ Kept { s with cqp := t.cqp } t []) ∧
  (∀ (s : State) (n : Nat), s.cqp.sel = true → s.cqp.take = none → s.cqp.put = none → s.brg.inReads = [] → s.tenon.acc = [] → s.saving = false →
    s.cqp.outcome = cqpOk → s.cqp.cmd = true → ∃ t, exec (.cqpTransactionEnd n false) s = .next t ∧ t.g R.CQP_STS.LAST = cqpOk ∧
      t.rd64 R.CQP_TXN_LO = (s.rd64 R.CQP_TXN_LO + 1) % 2 ^ 64 ∧ t.cqp = { s.cqp with sel := false, cmd := false } ∧
      Kept { s with cqp := t.cqp } t [R.CQP_STS, R.CQP_FAIL_ADDR, R.CQP_TXN_LO, R.CQP_TXN_LO + 4]) ∧
  (∀ (s : State) (q n : Nat), s.cqp.sel = true → s.cqp.take = some (q, n) → s.cqp.put = none → s.brg.inReads = [] → s.tenon.acc = [] →
    49 ≤ q → q ≤ 55 → s.saving = false → s.cqp.outcome = cqpOk → s.cqp.cmd = true →
    isEntry (s.qWord q (s.qRd q)) = true → n = entryWords (s.qWord q (s.qRd q)) → n ≤ s.qLevel q →
    ∃ t, exec (.cqpTransactionEnd n false) s = .next t ∧ t.g R.CQP_STS.LAST = cqpOk ∧ t.qRd q = (s.qRd q + n) % 32768 ∧ t.qWr q = s.qWr q ∧
      t.cqp = { s.cqp with sel := false, cmd := false, take := none } ∧
      Kept { s with cqp := t.cqp } t [R.CQP_STS, R.CQP_FAIL_ADDR, R.CQP_TXN_LO, R.CQP_TXN_LO + 4, R.QUE_RD q, R.QUE_STS q, R.QUE_EVT q]) ∧
  (∀ s : State, s.g R.CQP_CFG.EN = 1 → s.g R.CQP_CFG.ALIVE_MS ≠ 0 → ∃ t, exec .cqpInactivity s = .next t ∧
    t.cqp = { s.cqp with inactive := true } ∧ t.unavailable reqCqp = true ∧ Kept { s with cqp := t.cqp } t [])

/-- R427-R431, R435-R437, R440: DRAM and the recorder's rings. Initialisation ends; a single-bit error is counted and logged, a
double-bit error poisons its line and fails the rings that record over it; EN set on a valid ring empties it and starts it;
EN cleared abandons it; a trigger takes a RUN ring, and those of its group, to POST and is counted as lost in POST and
FROZEN; POST ends FROZEN; UNFREEZE empties a frozen ring. -/
def Obligations.RecorderRings : Prop :=
  (∀ (s : State), ∃ t, exec .memInitDone s = .next t ∧ t.g R.MEM_STS.INIT = 1 ∧ Kept s t [R.MEM_STS]) ∧
  (∀ (s : State) (l : Nat), l * 64 + 64 ≤ capBytes →
    ∃ t, exec (.dramScrub l 1) s = .next t ∧ (s.saving = false → t.rd64 R.MEM_CE_LO = (s.rd64 R.MEM_CE_LO + 1) % 2 ^ 64) ∧ t.g R.MEM_EVT.CE = 1 ∧
      t.rd (R.MEM_ELOG (s.g R.MEM_ELOG_PTR.NEXT)) = W (2 ^ 30 + l % 2 ^ 28) ∧ t.g R.MEM_ELOG_PTR.NEXT = (s.g R.MEM_ELOG_PTR.NEXT + 1) % 8 ∧
      t.g (R.FLT_SRC_STS.INSVC 296) = 1 ∧ t.rd (R.FLT_LAST_INFO 296) = faultInfo 7 0 l ∧
      Kept s t (faultRegs 296 ++ [R.MEM_CE_LO, R.MEM_CE_LO + 4, R.MEM_EVT, R.MEM_ELOG (s.g R.MEM_ELOG_PTR.NEXT), R.MEM_ELOG_PTR])) ∧
  (∀ (s : State) (l : Nat), l * 64 + 64 ≤ capBytes → s.poisoned l = false →
    ∃ t, exec (.dramScrub l 2) s = .next t ∧ t.poisoned l = true ∧ (∀ k, k ≠ l → t.poisoned k = s.poisoned k) ∧
      (s.saving = false → t.rd64 R.MEM_UE_LO = (s.rd64 R.MEM_UE_LO + 1) % 2 ^ 64) ∧ t.g R.MEM_EVT.UE = 1 ∧
      t.rd (R.MEM_ELOG (s.g R.MEM_ELOG_PTR.NEXT)) = W (2 ^ 31 + l % 2 ^ 28) ∧ t.g R.MEM_ELOG_PTR.NEXT = (s.g R.MEM_ELOG_PTR.NEXT + 1) % 8 ∧
      t.g (R.FLT_SRC_STS.INSVC 297) = 1 ∧ t.rd (R.FLT_LAST_INFO 297) = faultInfo 7 0 l ∧
      (∀ r, r < 64 → t.ringState r = (if (s.ringState r = ringRun ∨ s.ringState r = ringPost) ∧
        overlap (l * 64) 64 (s.ring r).base (s.ring r).size then ringError else s.ringState r)) ∧ t.mem = { s.mem with poison := t.mem.poison } ∧
      Kept { s with mem := t.mem } t (faultRegs 297 ++ [R.MEM_UE_LO, R.MEM_UE_LO + 4, R.MEM_EVT, R.MEM_ELOG (s.g R.MEM_ELOG_PTR.NEXT),
        R.MEM_ELOG_PTR] ++ (List.range 64).map (fun r => R.MEM_RING_STS r))) ∧
  (∀ (s : State) (req r : Nat) (v : Word), r < 64 → Admitted s req (R.MEM_RING_CFG r) (v ||| 0x80000000) → s.g (R.MEM_RING_CFG.EN r) = 0 →
    (req ≠ reqCfg ∨ s.ringState r ≠ ringFrozen) → s.ringValid r = true →
    ∃ t, exec (.ringEnable req r v) s = .next t ∧ t.ringState r = ringRun ∧ t.rd (R.MEM_RING_CFG r) = v ||| 0x80000000 ∧ t.rd (R.MEM_RING_WR r) = 0 ∧
      t.rd (R.MEM_RING_OLD r) = 0 ∧ t.ring r = { base := s.g (R.MEM_RING_AREA.BASE_MIB r) * 1048576, size := s.g (R.MEM_RING_AREA.SIZE_MIB r) * 1048576 } ∧
      (∀ q, q ≠ r → t.ring q = s.ring q) ∧ t.mem = { s.mem with rings := t.mem.rings } ∧
      Kept { s with mem := t.mem } t [R.MEM_RING_CFG r, R.MEM_RING_STS r, R.MEM_RING_WR r, R.MEM_RING_OLD r]) ∧
  (∀ (s : State) (req r : Nat) (v : Word), r < 64 → Admitted s req (R.MEM_RING_CFG r) (v &&& 0x7FFFFFFF) → s.g (R.MEM_RING_CFG.EN r) = 1 →
    (req ≠ reqCfg ∨ s.ringState r ≠ ringFrozen) → s.mem.exp.all (fun e => e.ring ≠ r) = true →
    ∃ t, exec (.ringDisable req r v) s = .next t ∧ t.ringState r = ringOff ∧ t.rd (R.MEM_RING_CFG r) = v &&& 0x7FFFFFFF ∧ t.ring r = {} ∧
      t.g (R.MEM_RING_STS.CFG_ERR r) = 0 ∧ (∀ q, q ≠ r → t.ring q = s.ring q) ∧ t.mem = { s.mem with rings := t.mem.rings } ∧
      Kept { s with mem := t.mem } t [R.MEM_RING_CFG r, R.MEM_RING_STS r]) ∧
  (∀ (s : State) (req r : Nat), r < 64 → Admitted s req R.MEM_REC_CMD (W (0x100 + r)) → s.stat R.MEM_REC_CMD ≠ statBusy →
    bit (s.g (R.MEM_RING_TRIG.SRC r)) 0 = true → s.ringState r = ringRun →
    ∃ t, exec (.recTrigger req r) s = .next t ∧ t.stat R.MEM_REC_CMD = statDone ∧ t.ringState r = ringPost ∧
      t.rd (R.MEM_RING_TSEQ r) = W (s.ring r).seq ∧ t.rdList (R.MEM_RING_T_LO r) 3 = tvWords (s.ringNow r) ∧ t.g R.MEM_EVT.TRIG = 1 ∧
      (∀ q, q < 64 → q ≠ r → s.g (R.MEM_RING_TRIG.GROUP q) = s.g (R.MEM_RING_TRIG.GROUP r) → bit (s.g (R.MEM_RING_TRIG.SRC q)) 6 = true →
        s.ringState q = ringRun → t.ringState q = ringPost ∧ t.rd (R.MEM_RING_TSEQ q) = W (s.ring q).seq ∧
        t.rdList (R.MEM_RING_T_LO q) 3 = tvWords (s.ringNow r)) ∧
      (∀ q, q < 64 → q ≠ r → ¬ (s.g (R.MEM_RING_TRIG.GROUP q) = s.g (R.MEM_RING_TRIG.GROUP r) ∧ bit (s.g (R.MEM_RING_TRIG.SRC q)) 6 = true) →
        t.ringState q = s.ringState q ∧ t.rd (R.MEM_RING_TSEQ q) = s.rd (R.MEM_RING_TSEQ q)) ∧
      Kept s t (R.MEM_REC_CMD :: R.MEM_EVT :: (List.range 64).flatMap (fun q => [R.MEM_RING_STS q, R.MEM_RING_TSEQ q, R.MEM_RING_T_LO q,
        R.MEM_RING_T_LO q + 4, R.MEM_RING_T_LO q + 8, R.MEM_TRIG_LOST_LO q, R.MEM_TRIG_LOST_LO q + 4]))) ∧
  (∀ (s : State) (req r : Nat), r < 64 → Admitted s req R.MEM_REC_CMD (W (0x100 + r)) → s.stat R.MEM_REC_CMD ≠ statBusy →
    bit (s.g (R.MEM_RING_TRIG.SRC r)) 0 = true → (s.ringState r = ringPost ∨ s.ringState r = ringFrozen) → s.saving = false →
    ∃ t, exec (.recTrigger req r) s = .next t ∧ t.stat R.MEM_REC_CMD = statDone ∧
      t.rd64 (R.MEM_TRIG_LOST_LO r) = (s.rd64 (R.MEM_TRIG_LOST_LO r) + 1) % 2 ^ 64 ∧
      Kept s t [R.MEM_REC_CMD, R.MEM_TRIG_LOST_LO r, R.MEM_TRIG_LOST_LO r + 4]) ∧
  (∀ (s : State) (r : Nat), r < 64 → s.ringState r = ringPost →
    ∃ t, exec (.recPostExpiry r) s = .next t ∧ t.ringState r = ringFrozen ∧ t.g R.MEM_EVT.FROZEN = 1 ∧ Kept s t [R.MEM_RING_STS r, R.MEM_EVT]) ∧
  (∀ (s : State) (req r : Nat), r < 64 → Admitted s req R.MEM_REC_CMD (W (0x200 + r)) → s.stat R.MEM_REC_CMD ≠ statBusy →
    (s.ringState r = ringFrozen ∨ s.ringState r = ringError) →
    ∃ t, exec (.recUnfreeze req r) s = .next t ∧ (if s.g (R.MEM_RING_STS.EXP r) = 1 then t.stat R.MEM_REC_CMD = statRefused ∧ Kept s t [R.MEM_REC_CMD]
      else t.stat R.MEM_REC_CMD = statDone ∧ t.ringState r = ringRun ∧ t.rd (R.MEM_RING_WR r) = 0 ∧ t.rd (R.MEM_RING_OLD r) = 0 ∧
        t.ring r = { s.ring r with seq := 0, recs := [] } ∧ (∀ q, q ≠ r → t.ring q = s.ring q) ∧ t.mem = { s.mem with rings := t.mem.rings } ∧
        Kept { s with mem := t.mem } t [R.MEM_REC_CMD, R.MEM_RING_STS r, R.MEM_RING_WR r, R.MEM_RING_OLD r]))

/-- R433, R434, R436, R438, R439: records and export. A copy is buffered, dropped at a full buffer, or counted idle; a record is
written at WR and WR and OLD advance; one that would pass the ring's end goes to its base after a pad record; in POST one
that would overwrite a protected record is dropped and freezes the ring; EXPORT takes the records of a frozen ring as
chunks, fails without a usable key or a valid area; a chunk is committed at EXP_WR, the last ends the export; ABORT_EXP ends
it. -/
def Obligations.RecordsAndExport : Prop :=
  (∀ (s : State) (r : Nat) (f : Frame) (l : List (Nat × Frame)), s.sw.recq = (r, f) :: l → (s.ringState r = ringRun ∨ s.ringState r = ringPost) →
    s.mem.bufUsed + (f.bytes ++ fcsOf f.bytes).length ≤ recBufSize →
    ∃ t, exec .recCopyArrival s = .next t ∧ t.sw = { s.sw with recq := l } ∧
      t.mem = { s.mem with bufUsed := s.mem.bufUsed + (f.bytes ++ fcsOf f.bytes).length, buf := s.mem.buf ++ [{ ring := r, frame := f.bytes ++ fcsOf f.bytes, tb := f.stampTb, stamp := f.stamp }] } ∧
      Kept { s with sw := t.sw, mem := t.mem } t []) ∧
  (∀ (s : State) (r : Nat) (f : Frame) (l : List (Nat × Frame)), s.sw.recq = (r, f) :: l → s.saving = false →
    (recBufSize < s.mem.bufUsed + (f.bytes ++ fcsOf f.bytes).length ∨ (s.ringState r ≠ ringRun ∧ s.ringState r ≠ ringPost)) →
    ∃ t, exec .recCopyArrival s = .next t ∧ t.sw = { s.sw with recq := l } ∧
      (if recBufSize < s.mem.bufUsed + (f.bytes ++ fcsOf f.bytes).length then
        t.rd64 (R.MEM_REC_DROP_LO r) = (s.rd64 (R.MEM_REC_DROP_LO r) + 1) % 2 ^ 64 ∧ t.g R.MEM_EVT.REC_DROP = 1 ∧
          Kept { s with sw := t.sw } t [R.MEM_REC_DROP_LO r, R.MEM_REC_DROP_LO r + 4, R.MEM_EVT]
      else t.rd64 (R.MEM_REC_IDLE_LO r) = (s.rd64 (R.MEM_REC_IDLE_LO r) + 1) % 2 ^ 64 ∧
          Kept { s with sw := t.sw } t [R.MEM_REC_IDLE_LO r, R.MEM_REC_IDLE_LO r + 4])) ∧
  (∀ (s : State) (c : RecCopy) (l : List RecCopy) (w n : Nat), s.mem.buf = c :: l → c.ring < 64 → s.ringState c.ring = ringRun → s.saving = false →
    w = (s.rd (R.MEM_RING_WR c.ring)).toNat * 64 → n = (recordBytes c (s.ring c.ring).seq).length → w + n ≤ (s.ring c.ring).size →
    ∃ t, exec (.recordWrite []) s = .next t ∧ t.dramBytes ((s.ring c.ring).base + w) n = recordBytes c (s.ring c.ring).seq ∧
      (∀ a, (a < (s.ring c.ring).base + w ∨ (s.ring c.ring).base + w + n ≤ a) → t.dramByte a = s.dramByte a) ∧
      t.rd (R.MEM_RING_WR c.ring) = W ((w + n) % (s.ring c.ring).size / 64) ∧ (t.ring c.ring).seq = ((s.ring c.ring).seq + 1) % 2 ^ 32 ∧
      (t.ring c.ring).recs = (s.ring c.ring).recs.filter (fun x => !overlap x.ofs x.len w n) ++
        [{ ofs := w, len := n, num := (s.ring c.ring).seq, pad := false }] ∧
      t.rd64 (R.MEM_REC_WR_LO c.ring) = (s.rd64 (R.MEM_REC_WR_LO c.ring) + 1) % 2 ^ 64 ∧ t.mem.buf = l ∧ (∀ q, q ≠ c.ring → t.ring q = s.ring q) ∧
      Kept { s with mem := t.mem } t [R.MEM_RING_WR c.ring, R.MEM_RING_OLD c.ring, R.MEM_RING_STS c.ring, R.MEM_REC_WR_LO c.ring,
        R.MEM_REC_WR_LO c.ring + 4]) ∧
  (∀ (s : State) (c : RecCopy) (l : List RecCopy) (w n : Nat), s.mem.buf = c :: l → c.ring < 64 → s.ringState c.ring = ringRun →
    w = (s.rd (R.MEM_RING_WR c.ring)).toNat * 64 → n = (recordBytes c (s.ring c.ring).seq).length → (s.ring c.ring).size < w + n →
    n ≤ w → w + 64 ≤ (s.ring c.ring).size →
    ∃ t, exec (.recordWrite []) s = .next t ∧ t.dramBytes (s.ring c.ring).base n = recordBytes c (s.ring c.ring).seq ∧
      t.dramBytes ((s.ring c.ring).base + w) 4 = leBytes 4 (2 ^ 31 + 2 ^ 30 + c.ring * 2 ^ 24) ∧
      (∀ a, (a < (s.ring c.ring).base ∨ ((s.ring c.ring).base + n ≤ a ∧ a < (s.ring c.ring).base + w) ∨
        (s.ring c.ring).base + (s.ring c.ring).size ≤ a) → t.dramByte a = s.dramByte a) ∧
      t.rd (R.MEM_RING_WR c.ring) = W (n / 64) ∧ (t.ring c.ring).seq = ((s.ring c.ring).seq + 1) % 2 ^ 32 ∧ t.mem.buf = l ∧
      (∀ q, q ≠ c.ring → t.ring q = s.ring q) ∧
      Kept { s with mem := t.mem, freeCtr := t.freeCtr } t [R.MEM_RING_WR c.ring, R.MEM_RING_OLD c.ring, R.MEM_RING_STS c.ring,
        R.MEM_REC_WR_LO c.ring, R.MEM_REC_WR_LO c.ring + 4]) ∧
  (∀ (s : State) (c : RecCopy) (l : List RecCopy) (w n : Nat), s.mem.buf = c :: l → c.ring < 64 → s.ringState c.ring = ringPost →
    w = (s.rd (R.MEM_RING_WR c.ring)).toNat * 64 → n = (recordBytes c (s.ring c.ring).seq).length → w + n ≤ (s.ring c.ring).size → s.saving = false →
    (s.ring c.ring).recs.any (fun x => overlap x.ofs x.len w n && (protectedRecs (s.g (R.MEM_RING_WIN.PRE_MIB c.ring) * 1048576)
      (s.rd (R.MEM_RING_TSEQ c.ring)).toNat 0 (s.ring c.ring).recs.reverse).contains x) = true →
    ∃ t, exec (.recordWrite []) s = .next t ∧ t.ringState c.ring = ringFrozen ∧ t.g (R.MEM_RING_STS.SHORT c.ring) = 1 ∧
      t.g R.MEM_EVT.FROZEN = 1 ∧ t.g R.MEM_EVT.REC_DROP = 1 ∧
      t.rd64 (R.MEM_REC_DROP_LO c.ring) = (s.rd64 (R.MEM_REC_DROP_LO c.ring) + 1) % 2 ^ 64 ∧
      t.mem = { s.mem with buf := l, bufUsed := s.mem.bufUsed - c.frame.length } ∧
      Kept { s with mem := t.mem } t [R.MEM_RING_STS c.ring, R.MEM_EVT, R.MEM_REC_DROP_LO c.ring, R.MEM_REC_DROP_LO c.ring + 4]) ∧
  (∀ (s : State) (req r : Nat), r < 64 → Admitted s req R.MEM_REC_CMD (W (0x300 + r)) → s.stat R.MEM_REC_CMD ≠ statBusy →
    s.ringState r = ringFrozen → s.mem.exp = none → s.usable (s.g R.MEM_EXP_CFG.SLOT) = true → s.slotUse (s.g R.MEM_EXP_CFG.SLOT) useMac = true →
    areaValid s.expArea = true → chunkMax ((s.g R.MEM_EXP_CFG.CHUNK + 1) * 4096) ≤ s.expArea.2 →
    ∃ t, exec (.recExport req r) s = .next t ∧ t.stat R.MEM_REC_CMD = statDone ∧ t.g R.MEM_EXP_STS.STATE = expRun ∧ t.g R.MEM_EXP_STS.CODE = 0 ∧
      t.g R.MEM_EXP_STS.RING = r ∧ t.g (R.MEM_RING_STS.EXP r) = 1 ∧ t.rd R.MEM_EXP_ID = s.rd R.MEM_EXP_ID + 1 ∧
      t.mem = { s.mem with exp := t.mem.exp } ∧ t.mem.exp.any (fun e => e.ring == r && e.slot == s.g R.MEM_EXP_CFG.SLOT &&
        decide (1 ≤ e.chunks.length) && decide (e.chunks.length ≤ 8)) = true ∧
      t.grit = { s.grit with waiting := t.grit.waiting } ∧ s.grit.waiting <+: t.grit.waiting ∧
      Kept { s with mem := t.mem, grit := t.grit } t [R.MEM_REC_CMD, R.MEM_EXP_STS, R.MEM_RING_STS r, R.MEM_EXP_ID]) ∧
  (∀ (s : State) (req r : Nat), r < 64 → Admitted s req R.MEM_REC_CMD (W (0x300 + r)) → s.stat R.MEM_REC_CMD ≠ statBusy →
    s.ringState r = ringFrozen → s.mem.exp = none → List.filter (fun (p : Nat × Job) => isChunk p.2) s.grit.running = [] →
    (s.usable (s.g R.MEM_EXP_CFG.SLOT) = false ∨ s.slotUse (s.g R.MEM_EXP_CFG.SLOT) useMac = false ∨ areaValid s.expArea = false ∨
      s.expArea.2 < chunkMax ((s.g R.MEM_EXP_CFG.CHUNK + 1) * 4096)) →
    ∃ t, exec (.recExport req r) s = .next t ∧ t.stat R.MEM_REC_CMD = statDone ∧ t.g R.MEM_EXP_STS.STATE = expFailed ∧
      t.g R.MEM_EXP_STS.CODE = (if s.usable (s.g R.MEM_EXP_CFG.SLOT) && s.slotUse (s.g R.MEM_EXP_CFG.SLOT) useMac then expBadArea else expNoKey) ∧
      t.g R.MEM_EVT.EXP_FAIL = 1 ∧ t.g (R.MEM_RING_STS.EXP r) = 0 ∧ t.rd R.MEM_EXP_ID = s.rd R.MEM_EXP_ID + 1 ∧
      t.grit = { s.grit with waiting := s.grit.waiting.filter (fun j => !isChunk j) } ∧
      Kept { s with grit := t.grit } t [R.MEM_REC_CMD, R.MEM_EXP_STS, R.MEM_RING_STS r, R.MEM_EXP_ID, R.MEM_EVT]) ∧
  (∀ (s : State) (n : Nat) (e : ExportSt) (c : ChunkSt) (j : Job) (raw : List Byte), s.mem.exp = some e → e.chunks = [c] → c.last = true → c.recs ≠ [] →
    List.find? (fun (p : Nat × Job) => p.2.user == .chunk c.index && decide (p.2.blocks ≤ 64)) s.working = some (n, j) → j.nokey = false →
    n < 136 → s.grit.retiring = [] → (c.recs.any (fun r => s.recPoisoned (s.ring e.ring).base r)) = false → s.saving = false →
    raw = s.chunkBytes e { c with key := some j.key } (beBytes 8 (kcvOf j.key)) ++
      cmac j.key (s.chunkBytes e { c with key := some j.key } (beBytes 8 (kcvOf j.key))) →
    ((s.rd R.MEM_EXP_WR).toNat + 2 ^ 32 - (s.rd R.MEM_EXP_RD).toNat) % 2 ^ 32 + (raw.length + 63) / 64 ≤ s.expArea.2 / 64 →
    ∃ t, exec (.recChunk c.index []) s = .next t ∧ t.rd R.MEM_EXP_WR = W ((s.rd R.MEM_EXP_WR).toNat + (raw.length + 63) / 64) ∧
      t.g R.MEM_EXP_STS.STATE = expDone ∧ t.g R.MEM_EXP_STS.CODE = 0 ∧ t.g R.MEM_EVT.CHUNK = 1 ∧ t.g R.MEM_EVT.EXP_DONE = 1 ∧
      t.rd64 R.MEM_EXP_CHUNK_LO = (s.rd64 R.MEM_EXP_CHUNK_LO + 1) % 2 ^ 64 ∧ t.mem.exp = none ∧
      (∀ i, i < (raw.length + 63) / 64 * 64 → t.dramByte (s.expArea.1 + ((s.rd R.MEM_EXP_WR).toNat * 64 + i) % s.expArea.2) = raw.getD i 0) ∧
      (∀ a, (a < s.expArea.1 ∨ s.expArea.1 + s.expArea.2 ≤ a) → t.dramByte a = s.dramByte a) ∧
      t.mem = { s.mem with dram := t.mem.dram, poison := t.mem.poison, exp := none } ∧
      Kept { s with mem := t.mem, grit := t.grit } t ([R.MEM_EXP_WR, R.MEM_EXP_STS, R.MEM_RING_STS e.ring, R.MEM_EVT, R.MEM_EXP_CHUNK_LO,
        R.MEM_EXP_CHUNK_LO + 4, R.CRY_JOB_LO j.level, R.CRY_JOB_LO j.level + 4, R.CRY_POOL_STS] ++ (List.range 136).map (fun k => R.CRY_CORE k))) ∧
  (∀ (s : State) (req : Nat) (e : ExportSt), Admitted s req R.MEM_REC_CMD 0x400 → s.stat R.MEM_REC_CMD ≠ statBusy → s.mem.exp = some e → s.grit.retiring = [] →
    ∃ t, exec (.recAbortExp req 0) s = .next t ∧ t.stat R.MEM_REC_CMD = statDone ∧ t.g R.MEM_EXP_STS.STATE = expFailed ∧
      t.g R.MEM_EXP_STS.CODE = expAborted ∧ t.g R.MEM_EVT.EXP_FAIL = 1 ∧ t.g (R.MEM_RING_STS.EXP e.ring) = 0 ∧ t.mem = { s.mem with exp := none } ∧
      t.grit.waiting = s.grit.waiting.filter (fun j => !isChunk j) ∧ Kept { s with mem := t.mem, grit := t.grit } t
        ([R.MEM_REC_CMD, R.MEM_EXP_STS, R.MEM_RING_STS e.ring, R.MEM_EVT, R.CRY_POOL_STS] ++ (List.range 136).map (fun n => R.CRY_CORE n)))

/-- R432: ring r occupies SIZE_MIB MiB from offset BASE_MIB MiB; at its enable it is refused, with CFG_ERR set as a level event,
if it does not lie wholly in a valid recorder area, overlaps another enabled ring, is empty, or PRE_MIB is not below
SIZE_MIB; otherwise it runs. -/
def Obligations.RingsRefused : Prop :=
  (∀ (s : State) (req r b z : Nat) (v : Word), r < 64 → Admitted s req (R.MEM_RING_CFG r) (v ||| 0x80000000) → s.g (R.MEM_RING_CFG.EN r) = 0 →
    (req ≠ reqCfg ∨ s.ringState r ≠ ringFrozen) → b = s.g (R.MEM_RING_AREA.BASE_MIB r) * 1048576 → z = s.g (R.MEM_RING_AREA.SIZE_MIB r) * 1048576 →
    (¬ (areaValid s.recArea = true ∧ s.recArea.1 ≤ b ∧ b + z ≤ s.recArea.1 + s.recArea.2) ∨
      (∃ q ∈ List.range 64, q ≠ r ∧ s.ringState q ≠ ringOff ∧ overlap b z (s.ring q).base (s.ring q).size = true) ∨ z = 0 ∨
      s.g (R.MEM_RING_AREA.SIZE_MIB r) ≤ s.g (R.MEM_RING_WIN.PRE_MIB r)) →
    ∃ t, exec (.ringEnable req r v) s = .next t ∧ t.ringState r = s.ringState r ∧ t.rd (R.MEM_RING_CFG r) = v ||| 0x80000000 ∧
      t.g (R.MEM_RING_STS.CFG_ERR r) = 1 ∧ t.g R.MEM_EVT.CFG_ERR = 1 ∧ Kept s t [R.MEM_RING_CFG r, R.MEM_RING_STS r, R.MEM_EVT]) ∧
  (∀ (s : State) (req r b z : Nat) (v : Word), r < 64 → Admitted s req (R.MEM_RING_CFG r) (v ||| 0x80000000) → s.g (R.MEM_RING_CFG.EN r) = 0 →
    (req ≠ reqCfg ∨ s.ringState r ≠ ringFrozen) → b = s.g (R.MEM_RING_AREA.BASE_MIB r) * 1048576 → z = s.g (R.MEM_RING_AREA.SIZE_MIB r) * 1048576 →
    areaValid s.recArea = true → s.recArea.1 ≤ b → b + z ≤ s.recArea.1 + s.recArea.2 →
    (∀ q ∈ List.range 64, q = r ∨ s.ringState q = ringOff ∨ overlap b z (s.ring q).base (s.ring q).size = false) → z ≠ 0 →
    s.g (R.MEM_RING_WIN.PRE_MIB r) < s.g (R.MEM_RING_AREA.SIZE_MIB r) →
    ∃ t, exec (.ringEnable req r v) s = .next t ∧ t.ringState r = ringRun ∧ (t.ring r).base = b ∧ (t.ring r).size = z ∧
      Kept { s with mem := t.mem } t [R.MEM_RING_CFG r, R.MEM_RING_STS r, R.MEM_RING_WR r, R.MEM_RING_OLD r]) ∧
  (∀ (s : State) (req r : Nat) (v : Word), r < 64 → s.g (R.MEM_RING_STS.CFG_ERR r) = 1 → s.g R.MEM_EVT.CFG_ERR = 1 → s.saving = false →
    Admitted s req R.MEM_EVT v →
    ∃ t, exec (.registerWrite req R.MEM_EVT 15 v) s = .next t ∧ t.g R.MEM_EVT.CFG_ERR = 1)

/-- R443-R445, R447-R450, R453: fault occurrences and the fault commands. The first occurrence of a source fills FIRST and LAST
and sets the class event, a later one overwrites LAST and counts in OVF; a FATAL one takes the fatal path once and only
counts while that path lasts; the dump starts in the slot without a VALID dump or of lower DUMP_ID and ends complete; DUMP
is refused while a dump runs; INVAL_DUMP, RELEASE and FATAL_CLEAR act on their field alone. -/
def Obligations.FaultsAndDumps : Prop :=
  (∀ (s : State) (n : Nat) (x : Word), n < 320 → n ≠ 2 → n ≠ 3 → n ≠ 88 → (n < 56 ∨ 61 < n) → faultClass n < 3 → s.g (R.FLT_SRC_STS.INSVC n) = 0 →
    s.saving = false →
    ∃ t, exec (.faultOccurrence n x) s = .next t ∧ t.rd (R.FLT_FIRST_INFO n) = x ∧ t.rd (R.FLT_LAST_INFO n) = x ∧
      t.rd64 (R.FLT_FIRST_TS_LO n) = s.sofCtr ∧ t.rd64 (R.FLT_LAST_TS_LO n) = s.sofCtr ∧ t.g (R.FLT_SRC_STS.INSVC n) = 1 ∧
      t.g (R.FLT_SRC_STS.OVF n) = 0 ∧ t.g R.FLT_STS.INSVC_N = (s.g R.FLT_STS.INSVC_N + 1) % 512 ∧
      t.g (classEvent (faultClass n)) = (if s.g (R.FLT_SRC_CFG.MASK n) = 1 then s.g (classEvent (faultClass n)) else 1) ∧
      t.rd64 (R.FLT_CLASS_CNT_LO (faultClass n)) = (s.rd64 (R.FLT_CLASS_CNT_LO (faultClass n)) + 1) % 2 ^ 64 ∧
      t.g R.FLT_STS.FATAL = s.g R.FLT_STS.FATAL ∧ t.g R.FLT_STS.HOLD = s.g R.FLT_STS.HOLD ∧ Kept s t (faultRegs n)) ∧
  (∀ (s : State) (n : Nat) (x : Word), n < 320 → n ≠ 2 → n ≠ 3 → n ≠ 88 → (n < 56 ∨ 61 < n) → faultClass n < 3 → s.g (R.FLT_SRC_STS.INSVC n) = 1 →
    s.saving = false →
    ∃ t, exec (.faultOccurrence n x) s = .next t ∧ t.rd (R.FLT_LAST_INFO n) = x ∧ t.rd64 (R.FLT_LAST_TS_LO n) = s.sofCtr ∧
      t.g (R.FLT_SRC_STS.INSVC n) = 1 ∧ t.g (R.FLT_SRC_STS.OVF n) = min (s.g (R.FLT_SRC_STS.OVF n) + 1) 65535 ∧
      t.rd64 (R.FLT_CLASS_CNT_LO (faultClass n)) = (s.rd64 (R.FLT_CLASS_CNT_LO (faultClass n)) + 1) % 2 ^ 64 ∧
      Kept s t [R.FLT_SRC_STS n, R.FLT_LAST_INFO n, R.FLT_LAST_TS_LO n, R.FLT_LAST_TS_LO n + 4, R.FLT_CLASS_CNT_LO (faultClass n),
        R.FLT_CLASS_CNT_LO (faultClass n) + 4]) ∧
  (∀ (s : State) (n : Nat) (x : Word), (n = 2 ∨ n = 3 ∨ n = 88 ∨ (56 ≤ n ∧ n ≤ 61)) →
    exec (.faultOccurrence n x) s = .next (State.passOn s ((s.faultSide n x).fault n x))) ∧
  (∀ (s : State) (n : Nat) (x : Word), n < 320 → faultClass n = 3 → n ≠ 2 → n ≠ 3 → (n < 56 ∨ 61 < n) → s.flt.path = false → s.saving = false →
    ∃ t, exec (.faultOccurrence n x) s = .next t ∧ t.g R.FLT_STS.FATAL = 1 ∧ t.g R.FLT_STS.FATAL_OVF = 0 ∧ t.rd R.FLT_FATAL_SRC = W n ∧
      t.rd R.FLT_FATAL_INFO = x ∧ t.rd64 R.FLT_FATAL_LO = (s.rd64 R.FLT_FATAL_LO + 1) % 2 ^ 64 ∧ t.g R.FLT_EVT.FATAL = (if s.g (R.FLT_SRC_STS.INSVC n) = 1
        then s.g R.FLT_EVT.FATAL else 1) ∧ t.rd (R.FLT_LAST_INFO n) = x ∧ t.g (R.FLT_SRC_STS.INSVC n) = 1 ∧
      t.g R.FLT_STS.HOLD = (if s.fatalAct = 1 then 1 else s.g R.FLT_STS.HOLD) ∧
      t.flt = { s.flt with path := true, held := s.fatalAct != 0, dumpWanted := true, dumpSrc := n, dumpInfo := x.toNat } ∧
      (∀ r, r < 64 → s.ringState r = ringRun → bit (s.g (R.MEM_RING_TRIG.SRC r)) 5 = true → t.ringState r = ringPost) ∧
      Kept { s with flt := t.flt } t (faultRegs n ++ [R.FLT_FATAL_SRC, R.FLT_FATAL_INFO, R.FLT_FATAL_LO, R.FLT_FATAL_LO + 4, R.MEM_EVT] ++
        (List.range 64).flatMap (fun q => [R.MEM_RING_STS q, R.MEM_RING_TSEQ q, R.MEM_RING_T_LO q, R.MEM_RING_T_LO q + 4,
          R.MEM_RING_T_LO q + 8, R.MEM_TRIG_LOST_LO q, R.MEM_TRIG_LOST_LO q + 4]))) ∧
  (∀ (s : State) (n : Nat) (x : Word), n < 320 → faultClass n = 3 → n ≠ 2 → n ≠ 3 → (n < 56 ∨ 61 < n) → s.flt.path = true → s.saving = false →
    ∃ t, exec (.faultOccurrence n x) s = .next t ∧ t.g R.FLT_STS.FATAL_OVF = min (s.g R.FLT_STS.FATAL_OVF + 1) 16383 ∧
      t.rd (R.FLT_LAST_INFO n) = x ∧ t.g (R.FLT_SRC_STS.INSVC n) = 1 ∧ t.flt = s.flt ∧ Kept s t (faultRegs n)) ∧
  (∀ (s : State) (k : Nat), s.flt.dumpWanted = true → k = (if s.g (R.FLT_DUMP_STS.VALID 0) = 0 then 0 else if s.g (R.FLT_DUMP_STS.VALID 1) = 0 then 1
      else if s.flt.slotIds.getD 1 0 < s.flt.slotIds.getD 0 0 then 1 else 0) →
    ∃ t, exec .fltDumpStart s = .next t ∧ t.g R.FLT_STS.DUMPING = 1 ∧ t.rd (R.FLT_DUMP_STS k) = W (2 ^ 31 + (s.flt.dumpId + 1) % 2 ^ 32 % 65536) ∧
      t.flt.dump.any (fun d => d.slot == k && d.src == s.flt.dumpSrc && d.info == s.flt.dumpInfo && d.tStart == s.sofCtr) = true ∧
      t.flt.dumpWanted = false ∧ t.flt.dumpId = (s.flt.dumpId + 1) % 2 ^ 32 ∧
      t.dramBytes (dumpBase + k * 134217728) 5 = [0x48, 0x4B, 0x44, 0x50, 1] ∧ bit (t.dramByte (dumpBase + k * 134217728 + 5)).toNat 0 = false ∧
      (∀ a, (a < dumpBase + k * 134217728 ∨ dumpBase + k * 134217728 + 64 ≤ a) → t.dramByte a = s.dramByte a) ∧
      Kept { s with flt := t.flt, mem := t.mem, freeCtr := t.freeCtr } t [R.FLT_STS, R.FLT_DUMP_STS k]) ∧
  (∀ (s : State) (d : DumpSt), s.flt.dump = some d → s.flt.dumpWanted = false → (s.flt.path = false ∨ s.flt.held = false ∨ s.g R.FLT_STS.HOLD = 1) →
    s.saving = false → d.slot < 2 →
    ∃ t, exec .fltDumpDone s = .next t ∧ t.g R.FLT_STS.DUMPING = 0 ∧ t.g (R.FLT_DUMP_STS.COMPLETE d.slot) = 1 ∧ t.g R.FLT_EVT.DUMP_DONE = 1 ∧
      t.rd64 R.FLT_DUMP_LO = (s.rd64 R.FLT_DUMP_LO + 1) % 2 ^ 64 ∧ t.flt.dump = none ∧
      (∀ a, a < dumpSlot d.slot → t.dramByte a = s.dramByte a) ∧ t.dramBytes (dumpSlot d.slot) 5 = [0x48, 0x4B, 0x44, 0x50, 1] ∧
      bit (t.dramByte (dumpSlot d.slot + 5)).toNat 0 = true ∧ (d.src = 0xFFFF → s.stat R.FLT_DUMP_CMD = statBusy → t.stat R.FLT_DUMP_CMD = statDone) ∧
      Kept { s with flt := t.flt, mem := t.mem, freeCtr := t.freeCtr } t [R.FLT_STS, R.FLT_DUMP_STS d.slot, R.FLT_EVT, R.FLT_DUMP_LO,
        R.FLT_DUMP_LO + 4, R.FLT_DUMP_CMD]) ∧
  (∀ (s : State) (req : Nat), Admitted s req R.FLT_DUMP_CMD 1 → s.stat R.FLT_DUMP_CMD ≠ statBusy →
    ∃ t, exec (.fltDump req) s = .next t ∧ (if s.flt.dump.isSome ∨ s.flt.dumpWanted = true then
        t.stat R.FLT_DUMP_CMD = statRefused ∧ Kept s t [R.FLT_DUMP_CMD]
      else t.stat R.FLT_DUMP_CMD = statBusy ∧ t.flt.dumpWanted = true ∧ t.flt.dumpSrc = 0xFFFF ∧ t.flt.held = s.flt.held ∧
        Kept { s with flt := t.flt, freeCtr := t.freeCtr } t [R.FLT_DUMP_CMD])) ∧
  (∀ (s : State) (req k : Nat), k < 2 → Admitted s req R.FLT_DUMP_CMD (W (2 + k * 4)) → s.stat R.FLT_DUMP_CMD ≠ statBusy →
    ∃ t, exec (.fltInvalDump req k) s = .next t ∧ t.stat R.FLT_DUMP_CMD = statDone ∧ t.g (R.FLT_DUMP_STS.VALID k) = 0 ∧
      t.g (R.FLT_DUMP_STS.COMPLETE k) = s.g (R.FLT_DUMP_STS.COMPLETE k) ∧ Kept s t [R.FLT_DUMP_CMD, R.FLT_DUMP_STS k]) ∧
  (∀ (s : State) (req : Nat), Admitted s req R.FLT_DUMP_CMD 3 → s.stat R.FLT_DUMP_CMD ≠ statBusy →
    ∃ t, exec (.fltRelease req) s = .next t ∧ (if s.g R.FLT_STS.HOLD = 1 ∧ s.flt.dump = none ∧ s.flt.dumpWanted = false then
        t.stat R.FLT_DUMP_CMD = statDone ∧ t.g R.FLT_STS.HOLD = 0 ∧ t.g R.FLT_STS.FATAL = s.g R.FLT_STS.FATAL ∧ t.flt.held = false ∧
        Kept { s with flt := t.flt } t [R.FLT_DUMP_CMD, R.FLT_STS]
      else t.stat R.FLT_DUMP_CMD = statRefused ∧ Kept s t [R.FLT_DUMP_CMD])) ∧
  (∀ (s : State) (req : Nat), Admitted s req R.FLT_STS 0x80000000 →
    ∃ t, exec (.fltFatalClear req) s = .next t ∧ t.g R.FLT_STS.FATAL = 0 ∧ t.g R.FLT_STS.HOLD = s.g R.FLT_STS.HOLD ∧ t.flt.held = s.flt.held ∧
      Kept { s with flt := t.flt } t [R.FLT_STS])

/-- R454-R460, R494: the hold-up supply, the save and repairs. A measured energy below 15 mJ is fault 227; SAVING holds
forwarding, turns loads off into UV, freezes the rings and writes the record's BEGIN, SAVED writes its END; recovery
restarts the core die and power lost leaves the record without END; a repaired row is recorded, one without a spare is fault
313 and DEGRADED; the loss of the keep-alive store loses the root secret and the records it holds. -/
def Obligations.SaveAndRepair : Prop :=
  (∀ (s : State) (uf vs vh e : Nat), s.pins.vs = true → e = uf * (s.vholdSet * s.vholdSet - 49) / 8 →
    ∃ t, exec (.holdUpMeasured uf vs vh) s = .next t ∧ (uf < 65536 → t.g R.PWR_SUP_CAP.UF = uf) ∧
      (e / 100 < 65536 → t.g R.PWR_SUP_CAP.E = e / 100) ∧ (vs < 4096 → t.g R.PWR_SUP_STS.VS = vs) ∧ (vh < 4096 → t.g R.PWR_SUP_STS.VHOLD = vh) ∧
      t.g R.PWR_SUP_STS.CHARGED = (if 50 * s.vholdSet ≤ vh then 1 else 0) ∧
      (if e < 15000 ∧ s.coreUp = true then t.rd (R.FLT_LAST_INFO 227) = faultInfo 6 0 (e / 100) ∧ t.g (R.FLT_SRC_STS.INSVC 227) = 1 ∧
          Kept { s with freeCtr := t.freeCtr } t (faultRegs 227 ++ [R.PWR_SUP_STS, R.PWR_SUP_CAP])
        else Kept { s with freeCtr := t.freeCtr } t [R.PWR_SUP_STS, R.PWR_SUP_CAP])) ∧
  (∀ (s : State) (vs vh : Nat), s.coreUp = true → s.g R.PWR_SUP_STS.SAVE = 0 → s.sw.frames = [] →
    ∃ t, exec (.saveSaving vs vh) s = .next t ∧ t.g R.PWR_SUP_STS.SAVE = 1 ∧ t.rd64 R.FLT_SAVE_LO = (s.rd64 R.FLT_SAVE_LO + 1) % 2 ^ 64 ∧
      t.flt.held = true ∧ t.mgt.running = false ∧ t.rd (R.FLT_SAVE_REC 0) = 0x5A5A0001 ∧ t.rd (R.FLT_SAVE_REC 31) = 0 ∧
      (∀ n, n < 24 → (s.ldState n = ldWait ∨ s.ldState n = ldInrush ∨ s.ldState n = ldOn ∨ s.ldState n = ldTrip) →
        t.ldState n = ldUv ∧ t.g (R.PWR_LD_STS.CAUSE n) = causeUv ∧ t.ldOut n = false) ∧
      (∀ r, r < 64 → (s.ringState r = ringRun ∨ s.ringState r = ringPost) → t.ringState r = ringFrozen) ∧
      (∀ j ∈ t.grit.waiting, j.level < 4)) ∧
  (∀ (s : State) (us : Nat), s.g R.PWR_SUP_STS.SAVE = 1 →
    ∃ t, exec (.saveSaved us) s = .next t ∧ t.g R.PWR_SUP_STS.SAVE = 2 ∧ t.rd (R.FLT_SAVE_REC 20) = W us ∧ t.rd (R.FLT_SAVE_REC 31) = 0x5A5A00FF ∧
      t.flt = { s.flt with saveOpen := false } ∧
      Kept { s with flt := t.flt } t [R.FLT_SAVE_REC 20, R.FLT_SAVE_REC 31, R.PWR_SUP_STS]) ∧
  (∀ (s : State), s.g R.PWR_SUP_STS.SAVE = 2 → s.pins.pwrGood = true →
    exec .saveRecovery s = .next (State.passOn s ((((s.p R.PWR_SUP_STS.SAVE 0).restart 0).ldUvRecover)))) ∧
  (∀ (s : State), s.g R.PWR_SUP_STS.SAVE = 1 →
    ∃ t, exec .savePowerLost s = .next t ∧ t.g R.PWR_SUP_STS.SAVE = 0 ∧ t.pins = {} ∧ t.coreUp = false ∧
      (∀ i, i < 32 → t.rd (R.FLT_SAVE_REC i) = s.rd (R.FLT_SAVE_REC i))) ∧
  (∀ (s : State) (region unit row src k n : Nat), s.coreUp = true → n = s.g R.REP_REC_N.N → n < 512 → s.saving = false →
    ∃ t, exec (.arrayRowRepair region unit row src (some k) [] [] [] [] 0 [] [] [] []) s = .next t ∧
      t.rd (R.REP_REC_W0 n) = W (2 ^ 28 + region % 256 * 2 ^ 16 + unit % 65536) ∧ t.rd (R.REP_REC_W1 n) = W (row % 65536 * 2 ^ 16 + k % 65536) ∧
      t.g R.REP_REC_N.N = n + 1 ∧ t.g R.REP_EVT.REPAIR = 1 ∧ t.rd64 R.REP_REPAIR_LO = (s.rd64 R.REP_REPAIR_LO + 1) % 2 ^ 64 ∧
      t.shim = (s.inForce ⟨repRow, region % 256, unit % 65536, row % 65536, k % 65536⟩).shim ∧
      Kept { s with shim := t.shim } t [R.REP_REC_W0 n, R.REP_REC_W1 n, R.REP_REC_N, R.REP_EVT, R.REP_REPAIR_LO, R.REP_REPAIR_LO + 4]) ∧
  (∀ (s : State) (region unit row src b : Nat) (qs os : List Nat), s.coreUp = true →
    ∃ t, exec (.arrayRowRepair region unit row src none [] [] [] [] b qs os [] []) s = .next t ∧ t.g R.FLT_DEGR.ARRAY = 1 ∧
      t.g (R.FLT_SRC_STS.INSVC 313) = 1 ∧ t.rd (R.FLT_LAST_INFO 313) = faultInfo 1 region row ∧ t.g R.REP_EVT.EXH = 1 ∧
      t.sw = { s.sw with gone := s.sw.gone + 32 * b } ∧ t.worn = { s.worn with queues := s.worn.queues ++ qs, objs := s.worn.objs ++ os } ∧
      Kept { s with sw := t.sw, worn := t.worn } t (faultRegs 313 ++ [R.SW_POOL_STS, R.SW_POOL_RES, R.SW_EVT, R.FLT_DEGR, R.REP_EVT])) ∧
  (∀ (s : State), ∃ t, exec .keepAliveStoreLoss s = .next t ∧ t.vault.rs = none ∧ t.vault.high = [] ∧ t.vault.lost = true ∧
      t.pins = {} ∧ t.coreUp = false ∧ t.g R.FLT_STS.FATAL = 0 ∧ t.flt.dumpId = 0 ∧
      (∀ i, i < 32 → t.rd (R.FLT_SAVE_REC i) = resetOf (R.FLT_SAVE_REC i)))

/-- R446: sources are independent: an occurrence of a source, as a command and as every other command reports it, never changes
the FIRST, LAST, OVF or INSVC of another. -/
def Obligations.FaultSourcesIndependent : Prop :=
  (∀ (s : State) (n m : Nat) (x : Word), n < 320 → m < 320 → m ≠ n →
    ∃ t, exec (.faultOccurrence n x) s = .next t ∧ t.rd (R.FLT_FIRST_INFO m) = s.rd (R.FLT_FIRST_INFO m) ∧
      t.rd64 (R.FLT_FIRST_TS_LO m) = s.rd64 (R.FLT_FIRST_TS_LO m) ∧ t.rd (R.FLT_LAST_INFO m) = s.rd (R.FLT_LAST_INFO m) ∧
      t.rd64 (R.FLT_LAST_TS_LO m) = s.rd64 (R.FLT_LAST_TS_LO m) ∧ t.g (R.FLT_SRC_STS.OVF m) = s.g (R.FLT_SRC_STS.OVF m) ∧
      t.g (R.FLT_SRC_STS.INSVC m) = s.g (R.FLT_SRC_STS.INSVC m)) ∧
  (∀ (s t : State) (n m : Nat) (x : Word), n < 320 → m < 320 → m ≠ n → t = s.fault n x →
    t.rd (R.FLT_FIRST_INFO m) = s.rd (R.FLT_FIRST_INFO m) ∧ t.rd64 (R.FLT_FIRST_TS_LO m) = s.rd64 (R.FLT_FIRST_TS_LO m) ∧
      t.rd (R.FLT_LAST_INFO m) = s.rd (R.FLT_LAST_INFO m) ∧ t.rd64 (R.FLT_LAST_TS_LO m) = s.rd64 (R.FLT_LAST_TS_LO m) ∧
      t.rd (R.FLT_SRC_STS m) = s.rd (R.FLT_SRC_STS m))

/-- R466, R472, R473, R477, R479-R481, R485: the management cluster. MGT_RST, the watchdog, a lockstep mismatch and ACTIVATE reset it, each with its CAUSE;
the watchdog is kicked by MGT0-MGT3 alone; MTIP follows the comparison; the loader orders the candidates, runs the first
that passes, and is in NOFW when none does. -/
def Obligations.ManagementCluster : Prop :=
  (∀ (s : State) (req : Nat) (v : Word), Unlocked s req R.MGT_RST v → s.stat R.MGT_RST ≠ statBusy → bit v.toNat 0 = true → s.saving = false →
    ∃ t, exec (.mgtRst req v) s = .next t ∧ MgtRestarted (s.spend req) t 1 ∧ t.stat R.MGT_RST = statDone ∧
      t.rd64 R.MGT_RESET_LO = (s.rd64 R.MGT_RESET_LO + 1) % 2 ^ 64 ∧
      (∀ a, s.mgt.check = some (.ram a) → t.mgt.check = none ∧ t.stat R.MGT_FW_CMD = statFailed ∧ ∀ j ∈ t.grit.waiting, j.user ≠ .fwCheck) ∧
      ((∀ a, s.mgt.check ≠ some (.ram a)) →
        Kept { s.spend req with reqs := t.reqs, mgt := t.mgt, freeCtr := t.freeCtr } t (R.MGT_RST :: mgtRegs))) ∧
  (∀ (s : State), s.g R.MGT_WDT.EN = 1 → (s.g R.MGT_STS.STATE = mgtLoader ∨ s.g R.MGT_STS.STATE = mgtRun) → s.saving = false →
    ∃ t, exec .watchdogExpiry s = .next t ∧ MgtRestarted s t 2 ∧ t.g R.MGT_EVT.WDT = 1 ∧ t.rd (R.FLT_LAST_INFO 305) = faultInfo 2 0 0 ∧
      t.g (R.FLT_SRC_STS.INSVC 305) = 1 ∧ t.rd64 R.MGT_WDT_EXP_LO = (s.rd64 R.MGT_WDT_EXP_LO + 1) % 2 ^ 64 ∧
      t.rd64 R.MGT_RESET_LO = (s.rd64 R.MGT_RESET_LO + 1) % 2 ^ 64) ∧
  (∀ (s : State) (req : Nat) (v : Word), Admitted s req R.MGT_WDT_KICK v →
    ∃ t, exec (.watchdogKick req v) s = .next t ∧ (if 1 ≤ req ∧ req ≤ 4 then t.mgt = { s.mgt with kick := s.tick } ∧
        Kept { s with mgt := t.mgt } t [R.MGT_WDT_KICK] else Kept s t [])) ∧
  (∀ (s : State) (p : Nat), p < 2 → bit s.mgt.pair p = true → s.saving = false →
    ∃ t, exec (.lockstepMismatch p) s = .next t ∧ MgtRestarted s t 3 ∧ t.g R.MGT_EVT.LOCK = 1 ∧ t.rd (R.FLT_LAST_INFO 304) = faultInfo 2 p 0 ∧
      t.g (R.FLT_SRC_STS.INSVC 304) = 1 ∧ t.rd64 R.MGT_LOCK_ERR_LO = (s.rd64 R.MGT_LOCK_ERR_LO + 1) % 2 ^ 64 ∧
      ((∀ a, s.mgt.check ≠ some (.ram a)) → Kept { s with reqs := t.reqs, mgt := t.mgt, freeCtr := t.freeCtr } t
        (faultRegs 304 ++ mgtRegs ++ [R.MGT_EVT, R.MGT_LOCK_ERR_LO, R.MGT_LOCK_ERR_LO + 4]))) ∧
  (∀ (s : State) (n : Nat), n < 4 → ∃ t, exec (.mtimecmpReached n) s = .next t ∧
    t.mgt = { s.mgt with mtip := setBit s.mgt.mtip n (decide (s.rd64 (R.MGT_MTIMECMP_LO n) ≤ s.mtime)) } ∧ Kept { s with mgt := t.mgt } t []) ∧
  (∀ (s : State), s.g R.MGT_STS.STATE = mgtLoader → s.mgt.begun = false → 6 ≤ s.g R.CFG_STS.STATE → s.g R.MGT_FW_SEL.TRIAL = 1 →
    ∃ t, exec .loaderBegin s = .next t ∧ t.g R.MGT_FW_SEL.TRIAL = 0 ∧ t.g R.MGT_FW_SEL.TRIED = 1 ∧ t.mgt = { s.mgt with begun := true, order := [s.g R.MGT_FW_SEL.TSLOT, 1 - s.g R.MGT_FW_SEL.TSLOT], first := s.g R.MGT_FW_SEL.TSLOT, trial := true } ∧
      Kept { s with mgt := t.mgt } t [R.MGT_FW_SEL]) ∧
  (∀ (s : State), s.g R.MGT_STS.STATE = mgtLoader → s.mgt.begun = false → 6 ≤ s.g R.CFG_STS.STATE → s.g R.MGT_FW_SEL.TRIAL = 0 →
    s.g R.MGT_FW_SEL.KNOWN = 1 → s.g R.MGT_STS.FALLBACK = 0 → s.saving = false →
    ∃ t, exec .loaderBegin s = .next t ∧ t.mgt = { s.mgt with begun := true, order := [s.g R.MGT_FW_SEL.ACT, 1 - s.g R.MGT_FW_SEL.ACT], first := s.g R.MGT_FW_SEL.ACT, trial := false } ∧ t.g R.MGT_FW_SEL.TRIED = 0 ∧
      (if s.g R.MGT_FW_SEL.TRIED = 1 then t.g R.MGT_STS.FALLBACK = 1 ∧ t.g R.MGT_EVT.FALLBACK = 1 ∧
          t.rd64 R.MGT_FALLBACK_LO = (s.rd64 R.MGT_FALLBACK_LO + 1) % 2 ^ 64 ∧
          Kept { s with mgt := t.mgt } t [R.MGT_FW_SEL, R.MGT_STS, R.MGT_EVT, R.MGT_FALLBACK_LO, R.MGT_FALLBACK_LO + 4]
        else Kept { s with mgt := t.mgt } t [])) ∧
  (∀ (s : State) (k : Nat) (l : List Nat) (e : Nat × Nat) (m : List Byte), s.mgt.order = k :: l → k < 2 → s.fwSlot k = some e →
    s.fwVerdict (s.slotImg e) = (0, 0) → m = s.flashBytes e.1 4352 →
    ∃ t, exec (.fwCandidateChecked false) s = .next t ∧ t.g R.MGT_STS.STATE = mgtRun ∧ t.g R.MGT_STS.SLOT = k ∧ t.mgt.running = true ∧
      t.mgt.kick = s.tick ∧ t.g R.MGT_STS.TRIAL = (if s.mgt.trial = true ∧ k = s.mgt.first then 1 else 0) ∧
      t.g R.MGT_STS.FALLBACK = (if k = s.mgt.first then s.g R.MGT_STS.FALLBACK else 1) ∧ t.g R.MGT_FW_SEL.DEFAULTS = 0 ∧
      t.rd R.MGT_FW_VER = W (leAt m 12 4) ∧ t.rd R.MGT_FW_SEQ = W (leAt m 8 4) ∧ t.sramBytes 0x3FF000 6 = [0x48, 0x4B, 0x53, 0x52, 1, B8 k] ∧
      Kept { s with mgt := t.mgt, mem := t.mem } t ([R.MGT_STS, R.MGT_FW_SEL, R.MGT_FW_VER, R.MGT_FW_SEQ, R.MGT_EVT, R.MGT_FALLBACK_LO,
        R.MGT_FALLBACK_LO + 4] ++ (List.range 12).map (fun i => R.MGT_FW_DIG i))) ∧
  (∀ (s : State) (k : Nat) (l : List Nat) (b : Bool), s.mgt.order = k :: l → s.fwSlot k = none →
    ∃ t, exec (.fwCandidateChecked b) s = .next t ∧ t.mgt = { s.mgt with order := l, codes := s.mgt.codes.set k 1 } ∧
      (if l = [] then t.g R.MGT_STS.STATE = mgtNoFw ∧ t.g R.MGT_WDT.EN = 0 ∧ t.g R.MGT_EVT.NOFW = 1 ∧
          Kept { s with mgt := t.mgt } t [R.MGT_STS, R.MGT_WDT, R.MGT_EVT] else Kept { s with mgt := t.mgt } t []))

/-- R478, R481, R483-R485: firmware and flash commands. CHECK is refused for the running slot and its result goes to MGT_FW_CHK;
ACTIVATE needs CHECKED and restarts on a trial, CONFIRM needs TRIAL, RECOVER needs NOFW; READ, PROGRAM and ERASE are refused
as R483 says and else act on the flash when they end; a raise of the firmware epoch blows its fuses. -/
def Obligations.FirmwareAndFlash : Prop :=
  (∀ (s : State) (req k : Nat), k < 2 → Unlocked s req R.MGT_FW_CMD (W (1 + k * 16)) → s.stat R.MGT_FW_CMD ≠ statBusy →
    ∃ t, exec (.fwCheck req k) s = .next t ∧ (if s.g R.MGT_STS.SLOT = k then t.stat R.MGT_FW_CMD = statRefused ∧ Kept (s.spend req) t [R.MGT_FW_CMD]
      else t.stat R.MGT_FW_CMD = statBusy ∧ t.mgt = { s.mgt with check := some (.slot k) } ∧
        t.grit = { s.grit with waiting := s.grit.waiting ++ [fwJob] } ∧ Kept { s.spend req with mgt := t.mgt, grit := t.grit } t [R.MGT_FW_CMD])) ∧
  (∀ (s : State) (k c b : Nat) (e : Nat × Nat) (j : Job), s.mgt.check = some (.slot k) → s.jobOn publicKeyUnit = some j → j.user = .fwCheck → k < 2 → s.fwSlot k = some e → s.fwVerdict (s.slotImg e) = (c, b) →
    c < 256 → b < 128 →
    ∃ t, exec (.fwCheckDone false) s = .next t ∧ t.mgt = { s.mgt with check := none } ∧ t.g R.MGT_EVT.CHECK_DONE = 1 ∧
      t.rd R.MGT_FW_CHK = W ((if c = 0 then 2 ^ 31 else 0) + k * 2 ^ 30 + c * 2 ^ 16 + b) ∧
      t.stat R.MGT_FW_CMD = (if c = 0 then statDone else statFailed) ∧ t.jobOn publicKeyUnit = none ∧ t.grit.waiting = s.grit.waiting ∧
      Kept { s with mgt := t.mgt, grit := t.grit } t [R.MGT_FW_CHK, R.MGT_FW_CMD, R.MGT_EVT, R.CRY_JOB_LO j.level, R.CRY_JOB_LO j.level + 4]) ∧
  (∀ (s : State) (req : Nat), Unlocked s req R.MGT_FW_CMD 2 → s.stat R.MGT_FW_CMD ≠ statBusy → (∀ a, s.mgt.check ≠ some (.ram a)) →
    ∃ t, exec (.fwActivate req) s = .next t ∧ (if s.g R.MGT_FW_CHK.CHECKED = 1 then t.g R.MGT_FW_SEL.TRIAL = 1 ∧
        t.g R.MGT_FW_SEL.TSLOT = s.g R.MGT_FW_CHK.SLOT ∧ MgtRestarted (s.spend req) t 4 ∧ t.stat R.MGT_FW_CMD = statDone ∧
        Kept { s.spend req with reqs := t.reqs, mgt := t.mgt, freeCtr := t.freeCtr } t (R.MGT_FW_SEL :: mgtRegs)
      else t.stat R.MGT_FW_CMD = statRefused ∧ Kept (s.spend req) t [R.MGT_FW_CMD])) ∧
  (∀ (s : State) (req : Nat), Unlocked s req R.MGT_FW_CMD 3 → s.stat R.MGT_FW_CMD ≠ statBusy →
    ∃ t, exec (.fwConfirm req) s = .next t ∧ (if s.g R.MGT_STS.TRIAL = 1 then t.g R.MGT_FW_SEL.ACT = s.g R.MGT_STS.SLOT % 2 ∧
        t.g R.MGT_FW_SEL.KNOWN = 1 ∧ t.g R.MGT_FW_SEL.TRIED = 0 ∧ t.g R.MGT_STS.TRIAL = 0 ∧ t.stat R.MGT_FW_CMD = statDone ∧
        Kept (s.spend req) t [R.MGT_FW_CMD, R.MGT_FW_SEL, R.MGT_STS]
      else t.stat R.MGT_FW_CMD = statRefused ∧ Kept (s.spend req) t [R.MGT_FW_CMD])) ∧
  (∀ (s : State) (req : Nat), Unlocked s req R.MGT_FW_CMD 4 → s.stat R.MGT_FW_CMD ≠ statBusy →
    ∃ t, exec (.fwRecover req) s = .next t ∧ (if s.g R.MGT_STS.STATE = mgtNoFw then t.stat R.MGT_FW_CMD = statBusy ∧
        t.mgt = { s.mgt with check := some (.ram (s.rd64 R.MGT_REC_ADDR_LO)) } ∧ t.grit = { s.grit with waiting := s.grit.waiting ++ [fwJob] } ∧
        Kept { s.spend req with mgt := t.mgt, grit := t.grit } t [R.MGT_FW_CMD]
      else t.stat R.MGT_FW_CMD = statRefused ∧ Kept (s.spend req) t [R.MGT_FW_CMD])) ∧
  (∀ (s : State) (req op ofs len : Nat) (c : Instr), (c, op) ∈ [(Instr.flashRead req, 1), (Instr.flProgram req, 2), (Instr.flErase req, 3)] →
    Unlocked s req R.MGT_FL_CMD (W op) → s.stat R.MGT_FL_CMD ≠ statBusy → ofs = (s.rd R.MGT_FL_OFS).toNat → len = (s.rd R.MGT_FL_LEN).toNat →
    ∃ t, Machine.exec c s = .next t ∧ (if 6 ≤ s.g R.CFG_STS.STATE ∧ ofs % 4 = 0 ∧ len % 4 = 0 ∧ len ≤ 65536 ∧ (op = 1 ∨
        ((s.g R.CFG_STS.SLOT < 2 → meetsArea op ofs len (s.cfgSlot (s.g R.CFG_STS.SLOT)) = false) ∧
          (s.g R.MGT_STS.SLOT < 2 → meetsArea op ofs len (s.fwSlot (s.g R.MGT_STS.SLOT)) = false)))
      then t.stat R.MGT_FL_CMD = statBusy ∧ t.mgt = { s.mgt with fl := some ⟨op, ofs, len, s.rd64 R.MGT_FL_BUF_LO⟩ } ∧
        t.g R.MGT_FW_CHK.CHECKED = (if 2 ≤ op ∧ meetsArea op ofs len (s.fwSlot (s.g R.MGT_FW_CHK.SLOT)) = true then 0 else s.g R.MGT_FW_CHK.CHECKED) ∧
        Kept { s.spend req with mgt := t.mgt } t [R.MGT_FL_CMD, R.MGT_FW_CHK]
      else t.stat R.MGT_FL_CMD = statRefused ∧ Kept (s.spend req) t [R.MGT_FL_CMD])) ∧
  (∀ (s u : State) (c : FlCmd) (h : HostMem), s.mgt.fl = some c → c.op = 1 → s.devWrite dmaWriter c.buf (s.flashBytes c.ofs c.len) = (u, none) →
    exec (.flDone false h) s = .next (State.passOn s
      (((u.modMgt (fun k => { k with fl := none })).setStat R.MGT_FL_CMD statDone).ev R.MGT_EVT.FL_DONE))) ∧
  (∀ (s : State) (c : FlCmd) (h : HostMem) (b : List Byte), s.mgt.fl = some c → c.op = 2 → s.devRead h c.buf c.len = (s, .inl b) → b.length = c.len →
    ∃ t, exec (.flDone false h) s = .next t ∧ t.flashBytes c.ofs c.len = b ∧ (∀ a, (a < c.ofs ∨ c.ofs + c.len ≤ a) → t.flashBytes a 1 = s.flashBytes a 1) ∧
      t.stat R.MGT_FL_CMD = statDone ∧ t.g R.MGT_EVT.FL_DONE = 1 ∧ t.mgt = { s.mgt with fl := none } ∧
      Kept { s with flash := t.flash, mgt := t.mgt } t [R.MGT_FL_CMD, R.MGT_EVT]) ∧
  (∀ (s : State) (c : FlCmd) (h : HostMem), s.mgt.fl = some c → c.op = 3 →
    ∃ t, exec (.flDone false h) s = .next t ∧ (∀ a, t.flashBytes a 1 = (if a / 65536 = c.ofs / 65536 then [0xFF] else s.flashBytes a 1)) ∧
      t.stat R.MGT_FL_CMD = statDone ∧ t.g R.MGT_EVT.FL_DONE = 1 ∧ t.mgt = { s.mgt with fl := none } ∧
      Kept { s with flash := t.flash, mgt := t.mgt } t [R.MGT_FL_CMD, R.MGT_EVT]) ∧
  (∀ (s : State) (req e : Nat), Unlocked s req R.MGT_FLOOR (withField (s.peek req R.MGT_FLOOR) 0 8 e) → e < 256 → s.g R.MGT_STS.STATE = mgtRun →
    s.mgt.fusing = none →
    ∃ t, exec (.fwFloorRaise req e) s = .next t ∧ t.mgt = { s.mgt with fusing := if s.vault.fwEpoch < e ∧ e ≤ fieldOf (s.rd R.MGT_FW_SEQ) 24 8 then some e else none } ∧
      t.g R.MGT_FLOOR.FUSING = (if s.vault.fwEpoch < e ∧ e ≤ fieldOf (s.rd R.MGT_FW_SEQ) 24 8 then 1 else 0) ∧
      Kept { s.spend req with reqs := t.reqs, mgt := t.mgt } t [R.MGT_FLOOR]) ∧
  (∀ (s : State) (e : Nat), s.mgt.fusing = some e →
    ∃ t, exec .fwFloorDone s = .next t ∧ t.vault = { s.vault with fwEpoch := e } ∧ t.mgt = { s.mgt with fusing := none } ∧ t.g R.MGT_FLOOR.FUSING = 0 ∧
      Kept { s with vault := t.vault, mgt := t.mgt } t [R.MGT_FLOOR])

/-- R466-R470: accesses of a running management core. SRAM and DRAM loads give the bytes in little-endian order and stores write
them and nothing else; SC succeeds on the core's own reservation alone; a BAR0 word load is one register access; an access
outside the map, a refused DRAM store and an atomic on BAR0 end in an access fault and change nothing. -/
def Obligations.CoreAccesses : Prop :=
  (∀ (s : State) (c k a n v : Nat), c < 4 → k < 4 → s.mgt.running = true → s.coreShadowed c = false → n = 2 ^ k → a + n ≤ sramSize → s.sramBad a n = false →
    ∃ t, exec (.mgtMemoryAccess c 1 (sramBase + a) k v 0) s = .next t ∧ t.sramBytes a n = leBytes n v ∧
      (∀ b, (b < a ∨ a + n ≤ b) → t.sramBytes b 1 = s.sramBytes b 1) ∧ (t.rq (1 + c)).resp.err = false ∧ (∀ q, q ≠ 1 + c → t.rq q = s.rq q) ∧
      t.mgt = { s.mgt with sram := t.mgt.sram, resv := s.mgt.resv.filter (fun p => p.2.any (fun x => !overlap a n x.1 x.2)) } ∧
      Kept { s with reqs := t.reqs, mgt := t.mgt } t []) ∧
  (∀ (s : State) (c k a n v : Nat), c < 4 → k < 4 → s.mgt.running = true → s.coreShadowed c = false → n = 2 ^ k → a + n ≤ sramSize → s.sramBad a n = false →
    ∃ t, exec (.mgtMemoryAccess c 0 (sramBase + a) k v 0) s = .next t ∧
      (t.rq (1 + c)).resp = { err := false, data := W (leNat (s.sramBytes a n)), hi := W (leNat (s.sramBytes a n) / 2 ^ 32) } ∧
      (∀ q, q ≠ 1 + c → t.rq q = s.rq q) ∧ Kept { s with reqs := t.reqs } t []) ∧
  (∀ (s : State) (c k a n v : Nat), c < 4 → (k = 2 ∨ k = 3) → s.mgt.running = true → s.coreShadowed c = false → n = 2 ^ k → a % n = 0 → a + n ≤ sramSize →
    s.sramBad a n = false →
    ∃ t, exec (.mgtMemoryAccess c 3 (sramBase + a) k v 0) s = .next t ∧ (if s.mgt.resv.get (fun _ => none) c = some (a, n) then
        t.sramBytes a n = leBytes n v ∧ (∀ b, (b < a ∨ a + n ≤ b) → t.sramBytes b 1 = s.sramBytes b 1) ∧
        (t.rq (1 + c)).resp = { err := false, data := 0, hi := 0 }
      else t.mgt.sram = s.mgt.sram ∧ (t.rq (1 + c)).resp = { err := false, data := 1, hi := 0 }) ∧
      t.mgt.resv.get (fun _ => none) c = none ∧ (∀ q, q ≠ 1 + c → t.rq q = s.rq q) ∧
      t.mgt = { s.mgt with sram := t.mgt.sram, resv := t.mgt.resv } ∧ Kept { s with reqs := t.reqs, mgt := t.mgt } t []) ∧
  (∀ (s : State) (c k d n v : Nat) (b : List Byte), c < 4 → k < 4 → s.mgt.running = true → s.coreShadowed c = false → n = 2 ^ k → d + n ≤ capBytes →
    s.dramRead d n = some b →
    ∃ t, exec (.mgtMemoryAccess c 0 (dramBase + d) k v 0) s = .next t ∧ (t.rq (1 + c)).resp = { err := false, data := W (leNat b), hi := W (leNat b / 2 ^ 32) } ∧
      (∀ q, q ≠ 1 + c → t.rq q = s.rq q) ∧ Kept { s with reqs := t.reqs } t []) ∧
  (∀ (s : State) (c k d n v : Nat), c < 4 → k < 4 → s.mgt.running = true → s.coreShadowed c = false → n = 2 ^ k → d + n ≤ capBytes → s.saving = false →
    ∃ t, exec (.mgtMemoryAccess c 1 (dramBase + d) k v 0) s = .next t ∧ (if s.protectedArea d n = true then (t.rq (1 + c)).resp.err = true ∧
        t.rd64 R.MEM_REFUSED_LO = (s.rd64 R.MEM_REFUSED_LO + 1) % 2 ^ 64 ∧ t.g R.MEM_EVT.REFUSED = 1 ∧
        Kept { s with reqs := t.reqs } t [R.MEM_REFUSED_LO, R.MEM_REFUSED_LO + 4, R.MEM_EVT]
      else if s.partialPoison d n = true then (t.rq (1 + c)).resp.err = true ∧ Kept { s with reqs := t.reqs } t []
      else t.dramBytes d n = leBytes n v ∧ (∀ a, (a < d ∨ d + n ≤ a) → t.dramByte a = s.dramByte a) ∧ (t.rq (1 + c)).resp.err = false ∧
        Kept { s with reqs := t.reqs, mem := t.mem } t [])) ∧
  (∀ (s : State) (c op a k v e : Nat), c < 4 → s.mgt.running = true → s.coreShadowed c = false →
    ((a < 0x4000000 ∧ 2 ≤ op) ∨ (0x4000000 ≤ a ∧ a < 0x80000000) ∨ (0x80010000 ≤ a ∧ a < sramBase) ∨ (sramBase + sramSize ≤ a ∧ a < dramBase) ∨
      dramBase + capBytes ≤ a) →
    ∃ t, exec (.mgtMemoryAccess c op a k v e) s = .next t ∧ (t.rq (1 + c)).resp.err = true ∧ (∀ q, q ≠ 1 + c → t.rq q = s.rq q) ∧
      Kept { s with reqs := t.reqs } t []) ∧
  (∀ (s : State) (c a v : Nat), c < 4 → s.mgt.running = true → s.coreShadowed c = false → a < 0x4000000 → a % 4 = 0 → regionOf a ≠ 12 →
    (rowOf a).any (fun r => r.mwLen == 1) = true →
    ∃ t, exec (.mgtMemoryAccess c 0 a 2 v 0) s = .next t ∧ (t.rq (1 + c)).resp = { err := false, data := s.peek (1 + c) a, hi := 0 } ∧
      (∀ q, q ≠ 1 + c → t.rq q = s.rq q) ∧ Kept { s with reqs := t.reqs } t [])
end

