-- ==== Sys2Proof/Laws/Crypto.lean ====
section
/-! SUPPORT. Lengths of byte strings and of what the cipher algorithms give. -/

namespace Sys2Proof.Machine

@[simp] theorem leBytes_length (n v : Nat) : (leBytes n v).length = n := by
  induction n generalizing v with
  | zero => rfl
  | succ n ih => simp [leBytes, ih]

@[simp] theorem beBytes_length (n v : Nat) : (beBytes n v).length = n := by simp [beBytes]

@[simp] theorem slice_length (l : List Byte) (o n : Nat) : (slice l o n).length = n := by
  simp only [slice, List.length_append, List.length_take, List.length_replicate]; omega

theorem encRounds_length_le (ks : List (List Nat)) (st : List Nat) (h : st.length ≤ 16) : (encRounds ks st).length ≤ 16 := by
  induction ks generalizing st with
  | nil => exact h
  | cons k ks ih =>
    cases ks with
    | nil => simp only [encRounds, xorNats, List.length_zipWith, shiftRows, List.length_map, List.length_range]; omega
    | cons k' ks =>
      rw [encRounds]
      · refine ih _ ?_
        have : ∀ m s, (mixCols m s).length = 16 := by
          intro m s; simp [mixCols, mixCol, List.range_succ]
        simp only [xorNats, List.length_zipWith, this]; omega
      · simp

/-- A block of AES output is no longer than 16 bytes. -/
theorem aesEnc_length_le (key b : List Byte) : (aesEnc key b).length ≤ 16 := by
  unfold aesEnc
  split
  · rename_i h
    have : (roundKeys key).length = 0 := by rw [h]; rfl
    simp only [roundKeys, List.length_map, List.length_range] at this
    omega
  · simp only [List.length_map]
    refine encRounds_length_le _ _ ?_
    simp only [xorNats, List.length_zipWith, List.length_map, slice_length]; omega

/-- A CMAC is no longer than 16 bytes. -/
theorem cmac_length_le (key m : List Byte) : (cmac key m).length ≤ 16 := by
  unfold cmac cbcMac
  rw [List.foldl_append]
  exact aesEnc_length_le _ _

end Sys2Proof.Machine
end

