-- ==== Sys2Proof/Laws/Tab.lean ====
section
/-! SUPPORT. The laws of sparse tables: what a table reads after each operation on it, and that every operation keeps
the canonical form. -/

namespace Sys2Proof.Machine

variable {α : Type}

@[simp] theorem Tab.find?_nil (k : Nat) : Tab.find? ([] : Tab α) k = none := rfl

theorem Tab.find?_put_same (m : Tab α) (k : Nat) (v : α) : (m.put k v).find? k = some v := by
  induction m with
  | nil => simp [Tab.put, Tab.find?]
  | cons p t ih =>
    obtain ⟨a, x⟩ := p
    unfold Tab.put
    split
    · simp [Tab.find?]
    · split
      · simp [Tab.find?]
      · simp [Tab.find?, *]; omega

theorem Tab.find?_put_ne (m : Tab α) {k j : Nat} (v : α) (h : j ≠ k) : (m.put k v).find? j = m.find? j := by
  induction m with
  | nil => simp [Tab.put, Tab.find?, h.symm]
  | cons p t ih =>
    obtain ⟨a, x⟩ := p
    unfold Tab.put
    split
    · simp [Tab.find?, h.symm]
    · split
      · rename_i h1; subst h1; simp [Tab.find?, h.symm]
      · simp [Tab.find?, ih]

theorem Tab.find?_del_same (m : Tab α) (k : Nat) : (m.del k).find? k = none := by
  induction m with
  | nil => rfl
  | cons p t ih =>
    obtain ⟨a, x⟩ := p
    unfold Tab.del
    split
    · exact ih
    · simp [Tab.find?, *]

theorem Tab.find?_del_ne (m : Tab α) {k j : Nat} (h : j ≠ k) : (m.del k).find? j = m.find? j := by
  induction m with
  | nil => rfl
  | cons p t ih =>
    obtain ⟨a, x⟩ := p
    unfold Tab.del
    split
    · rename_i h1; subst h1; simp [Tab.find?, ih, h.symm]
    · simp [Tab.find?, ih]

theorem Tab.find?_clear (p : Nat → Bool) (m : Tab α) (k : Nat) :
    (m.clear p).find? k = if p k then none else m.find? k := by
  induction m with
  | nil => simp [Tab.clear]
  | cons q t ih =>
    obtain ⟨a, x⟩ := q
    unfold Tab.clear
    by_cases hk : a = k
    · subst hk; by_cases hp : p a <;> simp [hp, Tab.find?, ih]
    · by_cases hp : p a <;> simp [hp, Tab.find?, ih, hk]

variable [DecidableEq α]

/-- What was stored last at an index is read there. -/
@[simp] theorem Tab.get_set_same (d : Nat → α) (m : Tab α) (k : Nat) (v : α) : (m.set d k v).get d k = v := by
  unfold Tab.set Tab.get
  by_cases hv : v = d k
  · simp [hv, Tab.find?_del_same]
  · simp [hv, Tab.find?_put_same]

/-- A store at one index leaves every other index as it was. -/
theorem Tab.get_set_ne (d : Nat → α) (m : Tab α) {k j : Nat} (v : α) (h : j ≠ k) :
    (m.set d k v).get d j = m.get d j := by
  unfold Tab.set Tab.get
  by_cases hv : v = d k
  · simp [hv, Tab.find?_del_ne m h]
  · simp [hv, Tab.find?_put_ne m v h]

theorem Tab.get_set (d : Nat → α) (m : Tab α) (k j : Nat) (v : α) :
    (m.set d k v).get d j = if j = k then v else m.get d j := by
  split
  · subst_vars; simp
  · rw [Tab.get_set_ne]; assumption

omit [DecidableEq α] in
/-- Cleared indices read their defaults, the others are as they were. -/
theorem Tab.get_clear (d : Nat → α) (p : Nat → Bool) (m : Tab α) (k : Nat) :
    (m.clear p).get d k = if p k then d k else m.get d k := by
  unfold Tab.get
  rw [Tab.find?_clear]
  split <;> simp_all

/-! ### The canonical form -/

theorem Tab.wfFrom_weaken (d : Nat → α) (m : Tab α) (b c : Option Nat)
    (h : ∀ y, c = some y → ∃ x, b = some x ∧ y ≤ x) : Tab.wfFrom d b m = true → Tab.wfFrom d c m = true := by
  cases m with
  | nil => simp [Tab.wfFrom]
  | cons p t =>
    obtain ⟨a, v⟩ := p
    simp only [Tab.wfFrom, Bool.and_eq_true, decide_eq_true_eq]
    rintro ⟨⟨h1, h2⟩, h3⟩
    refine ⟨⟨?_, h2⟩, h3⟩
    cases c with
    | none => rfl
    | some y =>
      obtain ⟨x, rfl, hy⟩ := h y rfl
      simp only [decide_eq_true_eq] at h1 ⊢
      omega

theorem Tab.wfFrom_put (d : Nat → α) (k : Nat) (v : α) (hv : v ≠ d k) (m : Tab α) (b : Option Nat)
    (hb : ∀ x, b = some x → x < k) (h : Tab.wfFrom d b m = true) : Tab.wfFrom d b (m.put k v) = true := by
  induction m generalizing b with
  | nil => cases b <;> simp_all [Tab.put, Tab.wfFrom]
  | cons p t ih =>
    obtain ⟨a, x⟩ := p
    have h0 := h
    simp only [Tab.wfFrom, Bool.and_eq_true, decide_eq_true_eq] at h
    obtain ⟨⟨h1, h2⟩, h3⟩ := h
    unfold Tab.put
    by_cases hka : k < a
    · cases b <;> simp_all [Tab.wfFrom]
    · by_cases he : k = a
      · subst he
        cases b <;> simp_all [Tab.wfFrom]
      · have := ih (some a) (by intro y hy; cases hy; omega) h3
        rw [if_neg hka, if_neg he]
        cases b <;> simp_all [Tab.wfFrom]

theorem Tab.wfFrom_del (d : Nat → α) (k : Nat) (m : Tab α) (b : Option Nat)
    (h : Tab.wfFrom d b m = true) : Tab.wfFrom d b (m.del k) = true := by
  induction m generalizing b with
  | nil => simp [Tab.del, Tab.wfFrom]
  | cons p t ih =>
    obtain ⟨a, x⟩ := p
    simp only [Tab.wfFrom, Bool.and_eq_true, decide_eq_true_eq] at h
    obtain ⟨⟨h1, h2⟩, h3⟩ := h
    unfold Tab.del
    split
    · refine ih b (Tab.wfFrom_weaken d t (some a) b ?_ h3)
      intro y hy
      subst hy
      simp only [decide_eq_true_eq] at h1
      exact ⟨a, rfl, by omega⟩
    · simp only [Tab.wfFrom, Bool.and_eq_true, decide_eq_true_eq]
      exact ⟨⟨h1, h2⟩, ih _ h3⟩

/-- A store keeps the canonical form. -/
theorem Tab.wf_set (d : Nat → α) (m : Tab α) (k : Nat) (v : α) (h : m.wf d = true) : (m.set d k v).wf d = true := by
  unfold Tab.set
  split
  · exact Tab.wfFrom_del d k m none h
  · exact Tab.wfFrom_put d k v (by assumption) m none (by simp) h

theorem Tab.wfFrom_clear (d : Nat → α) (p : Nat → Bool) (m : Tab α) (b : Option Nat)
    (h : Tab.wfFrom d b m = true) : Tab.wfFrom d b (m.clear p) = true := by
  induction m generalizing b with
  | nil => simp [Tab.clear, Tab.wfFrom]
  | cons q t ih =>
    obtain ⟨a, x⟩ := q
    simp only [Tab.wfFrom, Bool.and_eq_true, decide_eq_true_eq] at h
    obtain ⟨⟨h1, h2⟩, h3⟩ := h
    unfold Tab.clear
    split
    · refine ih b (Tab.wfFrom_weaken d t (some a) b ?_ h3)
      intro y hy
      subst hy
      simp only [decide_eq_true_eq] at h1
      exact ⟨a, rfl, by omega⟩
    · simp only [Tab.wfFrom, Bool.and_eq_true, decide_eq_true_eq]
      exact ⟨⟨h1, h2⟩, ih _ h3⟩

/-- Clearing a set of indices keeps the canonical form. -/
theorem Tab.wf_clear (d : Nat → α) (p : Nat → Bool) (m : Tab α) (h : m.wf d = true) : (m.clear p).wf d = true :=
  Tab.wfFrom_clear d p m none h

/-- Keeping a set of indices keeps the canonical form. -/
theorem Tab.wf_keep (d : Nat → α) (p : Nat → Bool) (m : Tab α) (h : m.wf d = true) : (m.keep p).wf d = true :=
  Tab.wf_clear d _ m h

/-- The empty table is in canonical form. -/
@[simp] theorem Tab.wf_nil (d : Nat → α) : Tab.wf d ([] : Tab α) = true := rfl

theorem Tab.find?_none_of_wfFrom (d : Nat → α) (m : Tab α) (x k : Nat) (hk : k ≤ x)
    (h : Tab.wfFrom d (some x) m = true) : m.find? k = none := by
  induction m generalizing x with
  | nil => rfl
  | cons p t ih =>
    obtain ⟨a, v⟩ := p
    simp only [Tab.wfFrom, Bool.and_eq_true, decide_eq_true_eq] at h
    obtain ⟨⟨h1, -⟩, h3⟩ := h
    have : a ≠ k := by omega
    simp only [Tab.find?, this, if_false]
    exact ih a (by omega) h3

theorem Tab.find?_ne_default (d : Nat → α) (m : Tab α) (b : Option Nat) (h : Tab.wfFrom d b m = true) (k : Nat) :
    m.find? k ≠ some (d k) := by
  induction m generalizing b with
  | nil => simp
  | cons p t ih =>
    obtain ⟨a, v⟩ := p
    simp only [Tab.wfFrom, Bool.and_eq_true, decide_eq_true_eq] at h
    obtain ⟨⟨-, h2⟩, h3⟩ := h
    unfold Tab.find?
    split
    · subst_vars; simpa using h2
    · exact ih _ h3

theorem Tab.find?_eq_of_get (d : Nat → α) (m n : Tab α) (b c : Option Nat) (hm : Tab.wfFrom d b m = true)
    (hn : Tab.wfFrom d c n = true) (k : Nat) (h : m.get d k = n.get d k) : m.find? k = n.find? k := by
  have h1 := Tab.find?_ne_default d m b hm k
  have h2 := Tab.find?_ne_default d n c hn k
  unfold Tab.get at h
  cases hx : m.find? k <;> cases hy : n.find? k <;> simp_all

theorem Tab.ext_aux (d : Nat → α) (m n : Tab α) (b c : Option Nat) (hm : Tab.wfFrom d b m = true)
    (hn : Tab.wfFrom d c n = true) (h : ∀ k, m.find? k = n.find? k) : m = n := by
  induction m generalizing n b c with
  | nil =>
    cases n with
    | nil => rfl
    | cons p t => have := h p.1; simp [Tab.find?] at this
  | cons p t ih =>
    obtain ⟨a, v⟩ := p
    cases n with
    | nil => have := h a; simp [Tab.find?] at this
    | cons q u =>
      obtain ⟨e, w⟩ := q
      simp only [Tab.wfFrom, Bool.and_eq_true, decide_eq_true_eq] at hm hn
      obtain ⟨⟨-, -⟩, hm3⟩ := hm
      obtain ⟨⟨-, -⟩, hn3⟩ := hn
      have hae : a = e := by
        rcases Nat.lt_trichotomy a e with hlt | heq | hgt
        · have h0 := h a
          have : e ≠ a := by omega
          simp [Tab.find?, this, Tab.find?_none_of_wfFrom d u e a (by omega) hn3] at h0
        · exact heq
        · have h0 := h e
          have : a ≠ e := by omega
          simp [Tab.find?, this, Tab.find?_none_of_wfFrom d t a e (by omega) hm3] at h0
      subst hae
      have hv : v = w := by have := h a; simpa [Tab.find?] using this
      subst hv
      have : t = u := by
        refine ih u (some a) (some a) hm3 hn3 (fun k => ?_)
        by_cases hk : a = k
        · subst hk
          rw [Tab.find?_none_of_wfFrom d t a a (by omega) hm3, Tab.find?_none_of_wfFrom d u a a (by omega) hn3]
        · have := h k; simpa [Tab.find?, hk] using this
      rw [this]

/-- Tables in canonical form that read alike are equal data. -/
theorem Tab.ext_of_wf (d : Nat → α) (m n : Tab α) (hm : m.wf d = true) (hn : n.wf d = true)
    (h : ∀ k, m.get d k = n.get d k) : m = n :=
  Tab.ext_aux d m n none none hm hn (fun k => Tab.find?_eq_of_get d m n none none hm hn k (h k))

end Sys2Proof.Machine
end

