-- ==== Sys2Proof/Laws/State.lean ====
section
/-! SUPPORT. What the register operations leave: one lemma per field of State and operation, what a register reads
after a write, and what a field holds after one. -/

namespace Sys2Proof.Machine

/-! ### Registers -/

/-- A register reads what was written to it last; the others keep their values. -/
theorem State.rd_wr (s : State) (a b : Nat) (v : Word) : (s.wr a v).rd b = if b = a then v else s.rd b := by
  simp only [State.rd, State.wr, Tab.get_set]

@[simp] theorem State.rd_wr_same (s : State) (a : Nat) (v : Word) : (s.wr a v).rd a = v := by simp [State.rd_wr]

theorem State.rd_wr_ne (s : State) {a b : Nat} (v : Word) (h : b ≠ a) : (s.wr a v).rd b = s.rd b := by
  simp [State.rd_wr, h]

/-- A register's value depends on the register map alone. -/
theorem State.rd_congr (s t : State) (h : t.regs = s.regs) (a : Nat) : t.rd a = s.rd a := by
  simp only [State.rd, h]

theorem State.g_congr (s t : State) (h : t.regs = s.regs) (l : Loc) : t.g l = s.g l := by
  simp only [State.g, State.rd, h]

/-- A region's reset gives its registers their reset values and leaves the others. -/
theorem State.rd_resetRegs (s : State) (p : Nat → Bool) (a : Nat) :
    (s.resetRegs p).rd a = if p a then resetOf a else s.rd a := by
  simp only [State.rd, State.resetRegs, Tab.get_clear]

/-- Every register of the state after reset holds its reset value. -/
theorem State.rd_reset (a : Nat) : State.reset.rd a = resetOf a := rfl

/-! ### Fields -/

theorem State.rd_p (s : State) (l : Loc) (v a : Nat) :
    (s.p l v).rd a = if a = l.addr then withField (s.rd l.addr) l.lo l.wd v else s.rd a := by
  simp only [State.p, State.rd_wr]

theorem State.rd_p_ne (s : State) (l : Loc) (v : Nat) {a : Nat} (h : a ≠ l.addr) : (s.p l v).rd a = s.rd a := by
  simp [State.rd_p, h]

theorem State.rd_ev_ne (s : State) (l : Loc) {a : Nat} (h : a ≠ l.addr) : (s.ev l).rd a = s.rd a := by
  simp [State.ev, State.rd_p, h]

theorem State.g_wr_ne (s : State) (l : Loc) {a : Nat} (v : Word) (h : l.addr ≠ a) : (s.wr a v).g l = s.g l := by
  simp only [State.g, State.rd_wr_ne s v h]

theorem State.g_wr_same (s : State) (l : Loc) (v : Word) : (s.wr l.addr v).g l = fieldOf v l.lo l.wd := by
  simp only [State.g, State.rd_wr_same]

theorem State.g_p_ne (s : State) (l m : Loc) (v : Nat) (h : m.addr ≠ l.addr) : (s.p l v).g m = s.g m := by
  simp only [State.g, State.rd_p_ne s l v h]

theorem testBit_fieldOf (w : Word) (lo wd i : Nat) :
    (fieldOf w lo wd).testBit i = (decide (i < wd) && w.getLsbD (lo + i)) := by
  unfold fieldOf
  rw [Nat.testBit_mod_two_pow, Nat.testBit_div_two_pow, BitVec.getLsbD, Nat.add_comm]

theorem getLsbD_withField (w : Word) (lo wd v i : Nat) (hi : i < 32) :
    (withField w lo wd v).getLsbD i = if lo ≤ i ∧ i < lo + wd then v.testBit (i - lo) else w.getLsbD i := by
  have h1 : ((2 ^ wd - 1) * 2 ^ lo).testBit i = (decide (lo ≤ i) && decide (i - lo < wd)) := by
    rw [Nat.testBit_mul_two_pow, Nat.testBit_two_pow_sub_one]
  have h2 : (v % 2 ^ wd * 2 ^ lo).testBit i = (decide (lo ≤ i) && (decide (i - lo < wd) && v.testBit (i - lo))) := by
    rw [Nat.testBit_mul_two_pow, Nat.testBit_mod_two_pow]
  simp only [withField, BitVec.getLsbD_or, BitVec.getLsbD_and, BitVec.getLsbD_not, hi, decide_true, Bool.true_and,
    W, BitVec.getLsbD_ofNat, h1, h2]
  by_cases ha : lo ≤ i
  · by_cases hb : i - lo < wd
    · have : lo ≤ i ∧ i < lo + wd := by omega
      simp [ha, hb, this]
    · have : ¬ i < lo + wd := by omega
      simp [ha, hb, this]
  · have : ¬ (lo ≤ i ∧ i < lo + wd) := by omega
    simp [ha]

/-- A field reads what was put into it, modulo its width. -/
theorem fieldOf_withField_same (w : Word) (lo wd v : Nat) (h : lo + wd ≤ 32) :
    fieldOf (withField w lo wd v) lo wd = v % 2 ^ wd := by
  apply Nat.eq_of_testBit_eq
  intro i
  rw [testBit_fieldOf, Nat.testBit_mod_two_pow]
  by_cases hi : i < wd
  · rw [getLsbD_withField _ _ _ _ _ (by omega)]
    simp [hi]
  · simp [hi]

/-- A field that does not meet the one changed reads as before. -/
theorem fieldOf_withField_ne (w : Word) (lo wd v lo' wd' : Nat) (h : lo' + wd' ≤ 32)
    (hd : lo + wd ≤ lo' ∨ lo' + wd' ≤ lo) : fieldOf (withField w lo wd v) lo' wd' = fieldOf w lo' wd' := by
  apply Nat.eq_of_testBit_eq
  intro i
  rw [testBit_fieldOf, testBit_fieldOf]
  by_cases hi : i < wd'
  · rw [getLsbD_withField _ _ _ _ _ (by omega)]
    have : ¬ (lo ≤ lo' + i ∧ lo' + i < lo + wd) := by omega
    simp [this]
  · simp [hi]

theorem State.g_p_same (s : State) (l : Loc) (v : Nat) (h : l.lo + l.wd ≤ 32) : (s.p l v).g l = v % 2 ^ l.wd := by
  simp only [State.g, State.rd_p, if_true, fieldOf_withField_same _ _ _ _ h]

theorem State.g_p_disj (s : State) (l m : Loc) (v : Nat) (h : m.lo + m.wd ≤ 32)
    (hd : l.lo + l.wd ≤ m.lo ∨ m.lo + m.wd ≤ l.lo) : (s.p l v).g m = s.g m := by
  simp only [State.g, State.rd_p]
  split
  · rename_i he
    rw [fieldOf_withField_ne _ _ _ _ _ _ h hd, he]
  · rfl

theorem State.g_ev_same (s : State) (l : Loc) (h : l.lo + l.wd ≤ 32) (hw : 0 < l.wd) : (s.ev l).g l = 1 := by
  rw [State.ev, State.g_p_same s l 1 h]
  exact Nat.mod_eq_of_lt (Nat.one_lt_two_pow (by omega))

/-! ### The rest of the state -/

@[simp] theorem State.wr_pending (s : State) (a : Nat) (v : Word) : (s.wr a v).pending = s.pending := rfl
@[simp] theorem State.wr_freeCtr (s : State) (a : Nat) (v : Word) : (s.wr a v).freeCtr = s.freeCtr := rfl
@[simp] theorem State.wr_tick (s : State) (a : Nat) (v : Word) : (s.wr a v).tick = s.tick := rfl
@[simp] theorem State.wr_reqs (s : State) (a : Nat) (v : Word) : (s.wr a v).reqs = s.reqs := rfl
@[simp] theorem State.wr_once (s : State) (a : Nat) (v : Word) : (s.wr a v).once = s.once := rfl
@[simp] theorem State.wr_tenon (s : State) (a : Nat) (v : Word) : (s.wr a v).tenon = s.tenon := rfl
@[simp] theorem State.wr_loader (s : State) (a : Nat) (v : Word) : (s.wr a v).loader = s.loader := rfl
@[simp] theorem State.wr_pins (s : State) (a : Nat) (v : Word) : (s.wr a v).pins = s.pins := rfl
@[simp] theorem State.wr_tbl (s : State) (a : Nat) (v : Word) : (s.wr a v).tbl = s.tbl := rfl
@[simp] theorem State.wr_sw (s : State) (a : Nat) (v : Word) : (s.wr a v).sw = s.sw := rfl
@[simp] theorem State.wr_ports (s : State) (a : Nat) (v : Word) : (s.wr a v).ports = s.ports := rfl
@[simp] theorem State.wr_mdio (s : State) (a : Nat) (v : Word) : (s.wr a v).mdio = s.mdio := rfl
@[simp] theorem State.wr_str (s : State) (a : Nat) (v : Word) : (s.wr a v).str = s.str := rfl
@[simp] theorem State.wr_vault (s : State) (a : Nat) (v : Word) : (s.wr a v).vault = s.vault := rfl
@[simp] theorem State.wr_grit (s : State) (a : Nat) (v : Word) : (s.wr a v).grit = s.grit := rfl
@[simp] theorem State.wr_tbs (s : State) (a : Nat) (v : Word) : (s.wr a v).tbs = s.tbs := rfl
@[simp] theorem State.wr_gens (s : State) (a : Nat) (v : Word) : (s.wr a v).gens = s.gens := rfl
@[simp] theorem State.wr_edges (s : State) (a : Nat) (v : Word) : (s.wr a v).edges = s.edges := rfl
@[simp] theorem State.wr_doms (s : State) (a : Nat) (v : Word) : (s.wr a v).doms = s.doms := rfl
@[simp] theorem State.wr_pdelay (s : State) (a : Nat) (v : Word) : (s.wr a v).pdelay = s.pdelay := rfl
@[simp] theorem State.wr_tpIn (s : State) (a : Nat) (v : Word) : (s.wr a v).tpIn = s.tpIn := rfl
@[simp] theorem State.wr_tpOut (s : State) (a : Nat) (v : Word) : (s.wr a v).tpOut = s.tpOut := rfl
@[simp] theorem State.wr_can (s : State) (a : Nat) (v : Word) : (s.wr a v).can = s.can := rfl
@[simp] theorem State.wr_gw (s : State) (a : Nat) (v : Word) : (s.wr a v).gw = s.gw := rfl
@[simp] theorem State.wr_sofBase (s : State) (a : Nat) (v : Word) : (s.wr a v).sofBase = s.sofBase := rfl
@[simp] theorem State.wr_loads (s : State) (a : Nat) (v : Word) : (s.wr a v).loads = s.loads := rfl
@[simp] theorem State.wr_slp (s : State) (a : Nat) (v : Word) : (s.wr a v).slp = s.slp := rfl
@[simp] theorem State.wr_brg (s : State) (a : Nat) (v : Word) : (s.wr a v).brg = s.brg := rfl
@[simp] theorem State.wr_dma (s : State) (a : Nat) (v : Word) : (s.wr a v).dma = s.dma := rfl
@[simp] theorem State.wr_qmem (s : State) (a : Nat) (v : Word) : (s.wr a v).qmem = s.qmem := rfl
@[simp] theorem State.wr_cqp (s : State) (a : Nat) (v : Word) : (s.wr a v).cqp = s.cqp := rfl
@[simp] theorem State.wr_mem (s : State) (a : Nat) (v : Word) : (s.wr a v).mem = s.mem := rfl
@[simp] theorem State.wr_flt (s : State) (a : Nat) (v : Word) : (s.wr a v).flt = s.flt := rfl
@[simp] theorem State.wr_flash (s : State) (a : Nat) (v : Word) : (s.wr a v).flash = s.flash := rfl
@[simp] theorem State.wr_worn (s : State) (a : Nat) (v : Word) : (s.wr a v).worn = s.worn := rfl
@[simp] theorem State.wr_shim (s : State) (a : Nat) (v : Word) : (s.wr a v).shim = s.shim := rfl
@[simp] theorem State.wr_mgt (s : State) (a : Nat) (v : Word) : (s.wr a v).mgt = s.mgt := rfl

@[simp] theorem State.p_pending (s : State) (l : Loc) (v : Nat) : (s.p l v).pending = s.pending := rfl
@[simp] theorem State.p_freeCtr (s : State) (l : Loc) (v : Nat) : (s.p l v).freeCtr = s.freeCtr := rfl
@[simp] theorem State.p_tick (s : State) (l : Loc) (v : Nat) : (s.p l v).tick = s.tick := rfl
@[simp] theorem State.p_reqs (s : State) (l : Loc) (v : Nat) : (s.p l v).reqs = s.reqs := rfl
@[simp] theorem State.p_once (s : State) (l : Loc) (v : Nat) : (s.p l v).once = s.once := rfl
@[simp] theorem State.p_tenon (s : State) (l : Loc) (v : Nat) : (s.p l v).tenon = s.tenon := rfl
@[simp] theorem State.p_loader (s : State) (l : Loc) (v : Nat) : (s.p l v).loader = s.loader := rfl
@[simp] theorem State.p_pins (s : State) (l : Loc) (v : Nat) : (s.p l v).pins = s.pins := rfl
@[simp] theorem State.p_tbl (s : State) (l : Loc) (v : Nat) : (s.p l v).tbl = s.tbl := rfl
@[simp] theorem State.p_sw (s : State) (l : Loc) (v : Nat) : (s.p l v).sw = s.sw := rfl
@[simp] theorem State.p_ports (s : State) (l : Loc) (v : Nat) : (s.p l v).ports = s.ports := rfl
@[simp] theorem State.p_mdio (s : State) (l : Loc) (v : Nat) : (s.p l v).mdio = s.mdio := rfl
@[simp] theorem State.p_str (s : State) (l : Loc) (v : Nat) : (s.p l v).str = s.str := rfl
@[simp] theorem State.p_vault (s : State) (l : Loc) (v : Nat) : (s.p l v).vault = s.vault := rfl
@[simp] theorem State.p_grit (s : State) (l : Loc) (v : Nat) : (s.p l v).grit = s.grit := rfl
@[simp] theorem State.p_tbs (s : State) (l : Loc) (v : Nat) : (s.p l v).tbs = s.tbs := rfl
@[simp] theorem State.p_gens (s : State) (l : Loc) (v : Nat) : (s.p l v).gens = s.gens := rfl
@[simp] theorem State.p_edges (s : State) (l : Loc) (v : Nat) : (s.p l v).edges = s.edges := rfl
@[simp] theorem State.p_doms (s : State) (l : Loc) (v : Nat) : (s.p l v).doms = s.doms := rfl
@[simp] theorem State.p_pdelay (s : State) (l : Loc) (v : Nat) : (s.p l v).pdelay = s.pdelay := rfl
@[simp] theorem State.p_tpIn (s : State) (l : Loc) (v : Nat) : (s.p l v).tpIn = s.tpIn := rfl
@[simp] theorem State.p_tpOut (s : State) (l : Loc) (v : Nat) : (s.p l v).tpOut = s.tpOut := rfl
@[simp] theorem State.p_can (s : State) (l : Loc) (v : Nat) : (s.p l v).can = s.can := rfl
@[simp] theorem State.p_gw (s : State) (l : Loc) (v : Nat) : (s.p l v).gw = s.gw := rfl
@[simp] theorem State.p_sofBase (s : State) (l : Loc) (v : Nat) : (s.p l v).sofBase = s.sofBase := rfl
@[simp] theorem State.p_loads (s : State) (l : Loc) (v : Nat) : (s.p l v).loads = s.loads := rfl
@[simp] theorem State.p_slp (s : State) (l : Loc) (v : Nat) : (s.p l v).slp = s.slp := rfl
@[simp] theorem State.p_brg (s : State) (l : Loc) (v : Nat) : (s.p l v).brg = s.brg := rfl
@[simp] theorem State.p_dma (s : State) (l : Loc) (v : Nat) : (s.p l v).dma = s.dma := rfl
@[simp] theorem State.p_qmem (s : State) (l : Loc) (v : Nat) : (s.p l v).qmem = s.qmem := rfl
@[simp] theorem State.p_cqp (s : State) (l : Loc) (v : Nat) : (s.p l v).cqp = s.cqp := rfl
@[simp] theorem State.p_mem (s : State) (l : Loc) (v : Nat) : (s.p l v).mem = s.mem := rfl
@[simp] theorem State.p_flt (s : State) (l : Loc) (v : Nat) : (s.p l v).flt = s.flt := rfl
@[simp] theorem State.p_flash (s : State) (l : Loc) (v : Nat) : (s.p l v).flash = s.flash := rfl
@[simp] theorem State.p_worn (s : State) (l : Loc) (v : Nat) : (s.p l v).worn = s.worn := rfl
@[simp] theorem State.p_shim (s : State) (l : Loc) (v : Nat) : (s.p l v).shim = s.shim := rfl
@[simp] theorem State.p_mgt (s : State) (l : Loc) (v : Nat) : (s.p l v).mgt = s.mgt := rfl

@[simp] theorem State.wr64_pending (s : State) (a n : Nat) : (s.wr64 a n).pending = s.pending := rfl
@[simp] theorem State.wr64_freeCtr (s : State) (a n : Nat) : (s.wr64 a n).freeCtr = s.freeCtr := rfl
@[simp] theorem State.wr64_tick (s : State) (a n : Nat) : (s.wr64 a n).tick = s.tick := rfl
@[simp] theorem State.wr64_reqs (s : State) (a n : Nat) : (s.wr64 a n).reqs = s.reqs := rfl
@[simp] theorem State.wr64_once (s : State) (a n : Nat) : (s.wr64 a n).once = s.once := rfl
@[simp] theorem State.wr64_tenon (s : State) (a n : Nat) : (s.wr64 a n).tenon = s.tenon := rfl
@[simp] theorem State.wr64_loader (s : State) (a n : Nat) : (s.wr64 a n).loader = s.loader := rfl
@[simp] theorem State.wr64_pins (s : State) (a n : Nat) : (s.wr64 a n).pins = s.pins := rfl
@[simp] theorem State.wr64_tbl (s : State) (a n : Nat) : (s.wr64 a n).tbl = s.tbl := rfl
@[simp] theorem State.wr64_sw (s : State) (a n : Nat) : (s.wr64 a n).sw = s.sw := rfl
@[simp] theorem State.wr64_ports (s : State) (a n : Nat) : (s.wr64 a n).ports = s.ports := rfl
@[simp] theorem State.wr64_mdio (s : State) (a n : Nat) : (s.wr64 a n).mdio = s.mdio := rfl
@[simp] theorem State.wr64_str (s : State) (a n : Nat) : (s.wr64 a n).str = s.str := rfl
@[simp] theorem State.wr64_vault (s : State) (a n : Nat) : (s.wr64 a n).vault = s.vault := rfl
@[simp] theorem State.wr64_grit (s : State) (a n : Nat) : (s.wr64 a n).grit = s.grit := rfl
@[simp] theorem State.wr64_tbs (s : State) (a n : Nat) : (s.wr64 a n).tbs = s.tbs := rfl
@[simp] theorem State.wr64_gens (s : State) (a n : Nat) : (s.wr64 a n).gens = s.gens := rfl
@[simp] theorem State.wr64_edges (s : State) (a n : Nat) : (s.wr64 a n).edges = s.edges := rfl
@[simp] theorem State.wr64_doms (s : State) (a n : Nat) : (s.wr64 a n).doms = s.doms := rfl
@[simp] theorem State.wr64_pdelay (s : State) (a n : Nat) : (s.wr64 a n).pdelay = s.pdelay := rfl
@[simp] theorem State.wr64_tpIn (s : State) (a n : Nat) : (s.wr64 a n).tpIn = s.tpIn := rfl
@[simp] theorem State.wr64_tpOut (s : State) (a n : Nat) : (s.wr64 a n).tpOut = s.tpOut := rfl
@[simp] theorem State.wr64_can (s : State) (a n : Nat) : (s.wr64 a n).can = s.can := rfl
@[simp] theorem State.wr64_gw (s : State) (a n : Nat) : (s.wr64 a n).gw = s.gw := rfl
@[simp] theorem State.wr64_sofBase (s : State) (a n : Nat) : (s.wr64 a n).sofBase = s.sofBase := rfl
@[simp] theorem State.wr64_loads (s : State) (a n : Nat) : (s.wr64 a n).loads = s.loads := rfl
@[simp] theorem State.wr64_slp (s : State) (a n : Nat) : (s.wr64 a n).slp = s.slp := rfl
@[simp] theorem State.wr64_brg (s : State) (a n : Nat) : (s.wr64 a n).brg = s.brg := rfl
@[simp] theorem State.wr64_dma (s : State) (a n : Nat) : (s.wr64 a n).dma = s.dma := rfl
@[simp] theorem State.wr64_qmem (s : State) (a n : Nat) : (s.wr64 a n).qmem = s.qmem := rfl
@[simp] theorem State.wr64_cqp (s : State) (a n : Nat) : (s.wr64 a n).cqp = s.cqp := rfl
@[simp] theorem State.wr64_mem (s : State) (a n : Nat) : (s.wr64 a n).mem = s.mem := rfl
@[simp] theorem State.wr64_flt (s : State) (a n : Nat) : (s.wr64 a n).flt = s.flt := rfl
@[simp] theorem State.wr64_flash (s : State) (a n : Nat) : (s.wr64 a n).flash = s.flash := rfl
@[simp] theorem State.wr64_worn (s : State) (a n : Nat) : (s.wr64 a n).worn = s.worn := rfl
@[simp] theorem State.wr64_shim (s : State) (a n : Nat) : (s.wr64 a n).shim = s.shim := rfl
@[simp] theorem State.wr64_mgt (s : State) (a n : Nat) : (s.wr64 a n).mgt = s.mgt := rfl

end Sys2Proof.Machine
end

