-- ==== Sys2Proof/Laws/Mem.lean ====
section
/-! SUPPORT. What the operations on DRAM can do: what a byte reads after a store, and that every operation keeps the
canonical form. -/

namespace Sys2Proof.Machine

/-! ### Canonical form -/

theorem Memory.wf_reset : Memory.wf State.reset.mem.dram = true := rfl

theorem Memory.wf_dramSet (s : State) (a : Nat) (b : Byte) (h : Memory.wf s.mem.dram = true) :
    Memory.wf (s.dramSet a b).mem.dram = true := Tab.wf_set _ _ a b h

theorem Memory.wf_dramPut (bs : List Byte) (s : State) (a : Nat) (h : Memory.wf s.mem.dram = true) :
    Memory.wf (s.dramPut a bs).mem.dram = true := by
  induction bs generalizing s a with
  | nil => exact h
  | cons b t ih => exact ih _ _ (Memory.wf_dramSet s a b h)

theorem dram_setPoison (s : State) (l : Nat) (b : Bool) : (s.setPoison l b).mem.dram = s.mem.dram := rfl

/-- Taking the poison from a line leaves the bytes of every line. -/
theorem dram_unpoison (p : State → Nat → Bool) (l : List Nat) (s : State) :
    (l.foldl (fun t k => if p t k then t.setPoison k false else t) s).mem.dram = s.mem.dram := by
  induction l generalizing s with
  | nil => rfl
  | cons k l ih =>
    rw [List.foldl_cons, ih]
    split <;> rfl

theorem Memory.wf_dramWriteOwn (s : State) (a : Nat) (bs : List Byte) (h : Memory.wf s.mem.dram = true) :
    Memory.wf (s.dramWriteOwn a bs).mem.dram = true := by
  unfold State.dramWriteOwn
  refine Memory.wf_dramPut bs _ a ?_
  rw [dram_unpoison (fun t l => t.poisoned l && decide (a ≤ l * 64) && decide (l * 64 + 64 ≤ a + bs.length))]
  exact h

theorem mem_bump (s : State) (a : Nat) : (s.bump a).mem = s.mem := by
  simp only [State.bump, State.bumpBy, State.count, State.yield]
  split <;> rfl

/-- A requester's write, let in or refused, keeps the canonical form. -/
theorem Memory.wf_dramWrite (s : State) (a : Nat) (bs : List Byte) (h : Memory.wf s.mem.dram = true) :
    Memory.wf (s.dramWrite a bs).1.mem.dram = true := by
  unfold State.dramWrite
  split
  · exact h
  · split
    · show Memory.wf ((s.bump R.MEM_REFUSED_LO).ev R.MEM_EVT.REFUSED).mem.dram = true
      rw [show ((s.bump R.MEM_REFUSED_LO).ev R.MEM_EVT.REFUSED).mem = (s.bump R.MEM_REFUSED_LO).mem from rfl, mem_bump]
      exact h
    · split
      · exact h
      · exact Memory.wf_dramWriteOwn s a bs h

/-! ### Reading after writing -/

theorem State.dramByte_dramSet (s : State) (a b : Nat) (v : Byte) :
    (s.dramSet a v).dramByte b = if b = a then v else s.dramByte b := by
  simp only [State.dramByte, State.dramSet, Tab.get_set]

/-- A store leaves every byte outside the bytes stored. -/
theorem State.dramByte_dramPut_out (bs : List Byte) (s : State) (a b : Nat) (h : b < a ∨ a + bs.length ≤ b) :
    (s.dramPut a bs).dramByte b = s.dramByte b := by
  induction bs generalizing s a with
  | nil => rfl
  | cons v t ih =>
    simp only [List.length_cons] at h
    rw [State.dramPut, ih _ _ (by omega), State.dramByte_dramSet, if_neg (by omega)]

/-- The bytes stored are read back. -/
theorem State.dramByte_dramPut_in (bs : List Byte) (s : State) (a k : Nat) (h : k < bs.length) :
    (s.dramPut a bs).dramByte (a + k) = bs[k] := by
  induction bs generalizing s a k with
  | nil => simp at h
  | cons v t ih =>
    rw [State.dramPut]
    cases k with
    | zero => rw [State.dramByte_dramPut_out _ _ _ _ (by omega), State.dramByte_dramSet]; simp
    | succ k =>
      have := ih (s.dramSet a v) (a + 1) k (by simpa using h)
      rw [show a + (k + 1) = a + 1 + k by omega, this]
      rfl

/-- A store to DRAM changes nothing but DRAM. -/
theorem State.dramPut_frame (bs : List Byte) (s : State) (a : Nat) :
    s.dramPut a bs = { s with mem := { s.mem with dram := (s.dramPut a bs).mem.dram } } := by
  induction bs generalizing s a with
  | nil => rfl
  | cons v t ih => rw [State.dramPut, ih]; rfl

/-! ### Low addresses, which either order code has (R2-R4, R427, R428) -/

theorem capBytes_ge : 8589934592 ≤ capBytes := by
  unfold capBytes; split <;> omega

theorem beyond_low {a n : Nat} (h : a + n ≤ 8589934592) : beyond a n = false := by
  have := capBytes_ge
  simp only [beyond, decide_eq_false_iff_not]; omega

theorem overlap_dump_low {a n : Nat} (h : a + n ≤ 8321499136) : overlap a n dumpBase 268435456 = false := by
  have := capBytes_ge
  have h2 : ¬ dumpBase < a + n := by unfold dumpBase; omega
  simp only [overlap, h2, decide_false, Bool.and_false]

theorem areaValid_low {ar : Nat × Nat} (h0 : 0 < ar.2) (h : ar.1 + ar.2 ≤ 8321499136) : areaValid ar = true := by
  have := capBytes_ge
  have h2 : ar.1 + ar.2 ≤ dumpBase := by unfold dumpBase; omega
  simp only [areaValid, h0, h2, decide_true, Bool.and_self]

theorem targetOf_dram_low {o : Nat} (h : o < 8589934592) : targetOf (dramBase + o) = .dram o := by
  have := capBytes_ge
  have h1 : ¬ 9223372036854775808 ≤ dramBase + o := by unfold dramBase; omega
  have h2 : ¬ dramBase + o < 0x4000000 := by unfold dramBase; omega
  have h3 : dramBase ≤ dramBase + o ∧ dramBase + o < dramBase + capBytes := by unfold dramBase; omega
  rw [targetOf, show (2 : Nat) ^ 63 = 9223372036854775808 from rfl, if_neg h1, if_neg h2, if_pos h3, Nat.add_sub_cancel_left]

/-- A read of general DRAM with no poisoned line returns its bytes. -/
theorem State.dramRead_low (s : State) {a n : Nat} (h : a + n ≤ 8589934592) (hp : (linesOf a n).any s.poisoned = false) :
    s.dramRead a n = some (s.dramBytes a n) := by
  simp only [State.dramRead, beyond_low h, hp, Bool.or_self, Bool.false_eq_true, if_false]

/-- A write below the dump area and outside the other protected ones is made. -/
theorem State.dramWrite_low (s : State) {a : Nat} {bs : List Byte} (h : a + bs.length ≤ 8321499136)
    (hr : overlap a bs.length s.recArea.1 s.recArea.2 = false) (he : overlap a bs.length s.expArea.1 s.expArea.2 = false)
    (hp : s.partialPoison a bs.length = false) : s.dramWrite a bs = (s.dramWriteOwn a bs, true) := by
  have h1 : beyond a bs.length = false := beyond_low (by omega)
  have h2 : s.protectedArea a bs.length = false := by
    simp only [State.protectedArea, overlap_dump_low h, hr, he, Bool.or_self]
  simp only [State.dramWrite, h1, h2, hp, Bool.false_eq_true, if_false]

/-- A device's read of general DRAM. -/
theorem State.devRead_low (s : State) (m : HostMem) {o n : Nat} (h : o + n ≤ 8589934592) (h0 : o < 8589934592)
    (hp : (linesOf o n).any s.poisoned = false) : s.devRead m (dramBase + o) n = (s, .inl (s.dramBytes o n)) := by
  simp only [State.devRead, targetOf_dram_low h0, State.dramRead_low s h hp]

end Sys2Proof.Machine
end

