-- ==== Sys2Proof/Laws/PassOn.lean ====
section
/-! SUPPORT. What passing events on can do after a command: the one frame lemma of `State.passOn`, from which a
statement about a command follows from its effect. -/

namespace Sys2Proof.Machine

/-- Nothing but registers of `passRegs`, words of Q48 and the record of TLPs differs. -/
abbrev Quiet (s t : State) : Prop := Kept s t []

theorem Kept.refl (s : State) (l : List Nat) : Kept s s l := ⟨fun _ _ _ => rfl, fun _ _ _ => rfl, rfl⟩

theorem Kept.trans {s t u : State} {l m : List Nat} (h : Kept s t l) (k : Kept t u m) : Kept s u (l ++ m) := by
  obtain ⟨h1, h2, h3⟩ := h
  obtain ⟨k1, k2, k3⟩ := k
  refine ⟨fun a ha hp => ?_, fun q i hq => ?_, ?_⟩
  · rw [k1 a (fun hm => ha (List.mem_append_right _ hm)) hp, h1 a (fun hm => ha (List.mem_append_left _ hm)) hp]
  · rw [k2 q i hq, h2 q i hq]
  · rw [k3, h3]

theorem Kept.mono {s t : State} {l m : List Nat} (h : Kept s t l) (hl : ∀ a, a ∈ l → a ∈ m ∨ a ∈ passRegs) : Kept s t m :=
  ⟨fun a ha hp => h.1 a (fun hm => (hl a hm).elim ha hp) hp, h.2⟩

/-- A register write is framed by its address. -/
theorem Kept.wr (s : State) (a : Nat) (v : Word) : Kept s (s.wr a v) [a] :=
  ⟨fun b hb _ => State.rd_wr_ne s v (by simpa using hb), fun _ _ _ => rfl, rfl⟩

theorem Kept.p (s : State) (l : Loc) (v : Nat) : Kept s (s.p l v) [l.addr] := Kept.wr s _ _

theorem Quiet.wr (s : State) {a : Nat} (v : Word) (h : a ∈ passRegs) : Quiet s (s.wr a v) :=
  (Kept.wr s a v).mono (by simp_all)

theorem Quiet.p (s : State) {l : Loc} (v : Nat) (h : l.addr ∈ passRegs) : Quiet s (s.p l v) := Quiet.wr s _ h

theorem Quiet.trans {s t u : State} (h : Quiet s t) (k : Quiet t u) : Quiet s u := Kept.trans h k

theorem Quiet.wr64 (s : State) {a : Nat} (n : Nat) (h : a ∈ passRegs) (h' : a + 4 ∈ passRegs) : Quiet s (s.wr64 a n) :=
  (Quiet.wr s _ h).trans (Quiet.wr _ _ h')

theorem Quiet.yield8 (s : State) : Quiet s (s.yield 8) := by
  simp only [State.yield, State.count]
  exact (Quiet.wr64 s _ (by decide) (by decide)).trans (Quiet.wr _ _ (by decide))

theorem Quiet.bump (s : State) {a : Nat} (h : a ∈ passRegs) (h' : a + 4 ∈ passRegs) : Quiet s (s.bump a) := by
  simp only [State.bump, State.bumpBy, State.count]
  split
  · exact Quiet.yield8 s
  · exact Quiet.wr64 s _ h h'

theorem Quiet.each {α : Type} (l : List α) (f : α → State → State) (s : State)
    (h : ∀ x ∈ l, ∀ t, Quiet t (f x t)) : Quiet s (s.each l f) := by
  unfold State.each
  induction l generalizing s with
  | nil => exact Kept.refl s _
  | cons a l ih =>
    exact (h a (by simp) s).trans (ih (f a s) (fun x hx => h x (by simp [hx])))

theorem Quiet.tlps (s : State) (l : List Tlp) : Quiet s { s with brg := { s.brg with tlps := l } } :=
  ⟨fun _ _ _ => rfl, fun _ _ _ => rfl, rfl⟩

theorem pba_mem (v : Nat) (h : v < 64) : R.MSIX_PBA (v / 32) ∈ passRegs := by
  have : v / 32 = 0 ∨ v / 32 = 1 := by omega
  rcases this with h | h <;> rw [h] <;> decide

theorem Quiet.msixSend (s : State) (v : Nat) : Quiet s (s.msixSend v) :=
  (Quiet.bump s (by decide) (by decide)).trans (Quiet.tlps _ _)

theorem Quiet.msixRaise (s : State) (v : Nat) (h : v < 64) : Quiet s (s.msixRaise v) := by
  unfold State.msixRaise
  split
  · exact Quiet.bump s (by decide) (by decide)
  · split
    · exact Quiet.wr s _ (pba_mem v h)
    · exact Quiet.msixSend s v

theorem Quiet.msixFall (s : State) (v : Nat) (h : v < 64) : Quiet s (s.msixFall v) := by
  unfold State.msixFall
  split
  · exact Quiet.wr s _ (pba_mem v h)
  · exact Kept.refl s _

theorem vectors_lt {v : Nat} (h : v ∈ vectors) : v < 64 := by
  simp only [vectors, List.mem_append, List.mem_map, List.mem_range] at h
  rcases h with h | ⟨k, hk, rfl⟩ <;> omega

theorem Quiet.msixNotify (s : State) (was now : List Nat) : Quiet s (s.msixNotify was now) := by
  refine Quiet.each _ _ _ (fun v hv t => ?_)
  have := vectors_lt hv
  split
  · exact Quiet.msixRaise t v this
  · exact Quiet.msixFall t v this
  · exact Kept.refl t _

theorem Quiet.qStore (s : State) (i : Nat) (w : Word) : Quiet s (s.qStore 48 i w) := by
  refine ⟨fun _ _ _ => rfl, fun q j hq => ?_, rfl⟩
  simp only [State.qWord, State.qStore, queWords]
  rw [Tab.get_set_ne]
  have := Nat.mod_lt i (show 16384 > 0 by decide)
  have := Nat.mod_lt j (show 16384 > 0 by decide)
  omega

theorem Quiet.qFill (ws : List Word) (s : State) (i : Nat) : Quiet s (s.qFill 48 i ws) := by
  induction ws generalizing s i with
  | nil => exact Kept.refl s _
  | cons w ws ih => exact (Quiet.qStore s i w).trans (ih _ _)

theorem Quiet.qTouch (s : State) : Quiet s (s.qTouch 48) := by
  have h1 : Quiet s (s.p (R.QUE_STS.LEVEL 48) (s.qLevel 48)) := Quiet.p s _ (by decide)
  have h2 : ∀ (t : State) (v : Nat), Quiet t (t.p (R.QUE_STS.WM 48) v) := fun t v => Quiet.p t v (by decide)
  unfold State.qTouch
  dsimp only
  split
  · exact (h1.trans (h2 _ _)).trans (Quiet.p _ _ (by decide))
  · split
    · exact (h1.trans (h2 _ _)).trans (Quiet.p _ _ (by decide))
    · exact h1

theorem Quiet.qOffer (s : State) (entry : List Word) : Quiet s (s.qOffer 48 entry) := by
  unfold State.qOffer
  split
  · unfold State.qPush State.qSetWr
    refine (Quiet.trans ?_ (Quiet.bump _ (by decide) (by decide))).trans (Quiet.p _ _ (by decide))
    exact ((Quiet.qFill entry s _).trans (Quiet.p _ _ (by decide))).trans (Quiet.qTouch _)
  · exact (Quiet.bump s (by decide) (by decide)).trans (Quiet.p _ _ (by decide))
  · exact Quiet.bump s (by decide) (by decide)

theorem Quiet.notify (s0 s : State) : Quiet s (State.notify s0 s) := by
  unfold State.notify State.entryNotify
  split
  · exact Quiet.msixNotify s _ _
  · split
    · exact (Quiet.msixNotify s _ _).trans (Quiet.bump _ (by decide) (by decide))
    · exact (Quiet.msixNotify s _ _).trans (Quiet.qOffer _ _)

theorem Quiet.settle (s0 s1 : State) : Quiet s1 (State.settle s0 s1) :=
  ((Quiet.notify s0 s1).trans (Quiet.notify s1 _)).trans (Quiet.notify _ _)

theorem Quiet.slpCheck (s : State) : Quiet s s.slpCheck := by
  unfold State.slpCheck
  split
  · exact ((Quiet.p s _ (by decide)).trans (Quiet.p _ _ (by decide))).trans (Quiet.p _ _ (by decide))
  · exact Kept.refl s _

theorem Quiet.keepTlps (s0 s : State) : Quiet s (State.keepTlps s0 s) := by
  unfold State.keepTlps
  dsimp only
  split
  · exact Kept.refl s _
  · exact Quiet.tlps s _

/-- Passing events on changes nothing but what the frame excepts. -/
theorem Quiet.passOn (s0 s1 : State) : Quiet s1 (State.passOn s0 s1) :=
  ((Quiet.slpCheck s1).trans (Quiet.settle s0 _)).trans (Quiet.keepTlps s0 _)

/-- A frame of a command's effect is a frame of what the command leaves. -/
theorem Kept.passOn {s u : State} {l : List Nat} (s0 : State) (h : Kept s u l) : Kept s (State.passOn s0 u) l := by
  have := h.trans (Quiet.passOn s0 u)
  simpa using this

theorem rd_passOn (s0 s : State) {a : Nat} (h : a ∉ passRegs) : (State.passOn s0 s).rd a = s.rd a :=
  (Quiet.passOn s0 s).1 a (by simp) h

theorem g_passOn (s0 s : State) {l : Loc} (h : l.addr ∉ passRegs) : (State.passOn s0 s).g l = s.g l := by
  simp only [State.g, rd_passOn s0 s h]

theorem rd64_passOn (s0 s : State) {a : Nat} (h : a ∉ passRegs) (h' : a + 4 ∉ passRegs) :
    (State.passOn s0 s).rd64 a = s.rd64 a := by
  simp only [State.rd64, rd_passOn s0 s h, rd_passOn s0 s h']

theorem qWord_passOn (s0 s : State) {q : Nat} (i : Nat) (h : q ≠ 48) : (State.passOn s0 s).qWord q i = s.qWord q i :=
  (Quiet.passOn s0 s).2.1 q i h

@[simp] theorem passOn_pending (s0 s : State) : (State.passOn s0 s).pending = s.pending := by
  rw [(Quiet.passOn s0 s).2.2]

@[simp] theorem passOn_freeCtr (s0 s : State) : (State.passOn s0 s).freeCtr = s.freeCtr := by
  rw [(Quiet.passOn s0 s).2.2]

@[simp] theorem passOn_tick (s0 s : State) : (State.passOn s0 s).tick = s.tick := by
  rw [(Quiet.passOn s0 s).2.2]

@[simp] theorem passOn_reqs (s0 s : State) : (State.passOn s0 s).reqs = s.reqs := by
  rw [(Quiet.passOn s0 s).2.2]

@[simp] theorem passOn_once (s0 s : State) : (State.passOn s0 s).once = s.once := by
  rw [(Quiet.passOn s0 s).2.2]

@[simp] theorem passOn_tenon (s0 s : State) : (State.passOn s0 s).tenon = s.tenon := by
  rw [(Quiet.passOn s0 s).2.2]

@[simp] theorem passOn_loader (s0 s : State) : (State.passOn s0 s).loader = s.loader := by
  rw [(Quiet.passOn s0 s).2.2]

@[simp] theorem passOn_pins (s0 s : State) : (State.passOn s0 s).pins = s.pins := by
  rw [(Quiet.passOn s0 s).2.2]

@[simp] theorem passOn_tbl (s0 s : State) : (State.passOn s0 s).tbl = s.tbl := by
  rw [(Quiet.passOn s0 s).2.2]

@[simp] theorem passOn_sw (s0 s : State) : (State.passOn s0 s).sw = s.sw := by
  rw [(Quiet.passOn s0 s).2.2]

@[simp] theorem passOn_ports (s0 s : State) : (State.passOn s0 s).ports = s.ports := by
  rw [(Quiet.passOn s0 s).2.2]

@[simp] theorem passOn_mdio (s0 s : State) : (State.passOn s0 s).mdio = s.mdio := by
  rw [(Quiet.passOn s0 s).2.2]

@[simp] theorem passOn_str (s0 s : State) : (State.passOn s0 s).str = s.str := by
  rw [(Quiet.passOn s0 s).2.2]

@[simp] theorem passOn_vault (s0 s : State) : (State.passOn s0 s).vault = s.vault := by
  rw [(Quiet.passOn s0 s).2.2]

@[simp] theorem passOn_grit (s0 s : State) : (State.passOn s0 s).grit = s.grit := by
  rw [(Quiet.passOn s0 s).2.2]

@[simp] theorem passOn_tbs (s0 s : State) : (State.passOn s0 s).tbs = s.tbs := by
  rw [(Quiet.passOn s0 s).2.2]

@[simp] theorem passOn_gens (s0 s : State) : (State.passOn s0 s).gens = s.gens := by
  rw [(Quiet.passOn s0 s).2.2]

@[simp] theorem passOn_edges (s0 s : State) : (State.passOn s0 s).edges = s.edges := by
  rw [(Quiet.passOn s0 s).2.2]

@[simp] theorem passOn_doms (s0 s : State) : (State.passOn s0 s).doms = s.doms := by
  rw [(Quiet.passOn s0 s).2.2]

@[simp] theorem passOn_pdelay (s0 s : State) : (State.passOn s0 s).pdelay = s.pdelay := by
  rw [(Quiet.passOn s0 s).2.2]

@[simp] theorem passOn_tpIn (s0 s : State) : (State.passOn s0 s).tpIn = s.tpIn := by
  rw [(Quiet.passOn s0 s).2.2]

@[simp] theorem passOn_tpOut (s0 s : State) : (State.passOn s0 s).tpOut = s.tpOut := by
  rw [(Quiet.passOn s0 s).2.2]

@[simp] theorem passOn_can (s0 s : State) : (State.passOn s0 s).can = s.can := by
  rw [(Quiet.passOn s0 s).2.2]

@[simp] theorem passOn_gw (s0 s : State) : (State.passOn s0 s).gw = s.gw := by
  rw [(Quiet.passOn s0 s).2.2]

@[simp] theorem passOn_sofBase (s0 s : State) : (State.passOn s0 s).sofBase = s.sofBase := by
  rw [(Quiet.passOn s0 s).2.2]

@[simp] theorem passOn_loads (s0 s : State) : (State.passOn s0 s).loads = s.loads := by
  rw [(Quiet.passOn s0 s).2.2]

@[simp] theorem passOn_slp (s0 s : State) : (State.passOn s0 s).slp = s.slp := by
  rw [(Quiet.passOn s0 s).2.2]

@[simp] theorem passOn_dma (s0 s : State) : (State.passOn s0 s).dma = s.dma := by
  rw [(Quiet.passOn s0 s).2.2]

@[simp] theorem passOn_cqp (s0 s : State) : (State.passOn s0 s).cqp = s.cqp := by
  rw [(Quiet.passOn s0 s).2.2]

@[simp] theorem passOn_mem (s0 s : State) : (State.passOn s0 s).mem = s.mem := by
  rw [(Quiet.passOn s0 s).2.2]

@[simp] theorem passOn_flt (s0 s : State) : (State.passOn s0 s).flt = s.flt := by
  rw [(Quiet.passOn s0 s).2.2]

@[simp] theorem passOn_flash (s0 s : State) : (State.passOn s0 s).flash = s.flash := by
  rw [(Quiet.passOn s0 s).2.2]

@[simp] theorem passOn_worn (s0 s : State) : (State.passOn s0 s).worn = s.worn := by
  rw [(Quiet.passOn s0 s).2.2]

@[simp] theorem passOn_shim (s0 s : State) : (State.passOn s0 s).shim = s.shim := by
  rw [(Quiet.passOn s0 s).2.2]

@[simp] theorem passOn_mgt (s0 s : State) : (State.passOn s0 s).mgt = s.mgt := by
  rw [(Quiet.passOn s0 s).2.2]

end Sys2Proof.Machine
end

