-- ==== Sys2Proof/Laws/Ops.lean ====
section
/-! SUPPORT. What the shared operations can do: counters, events, the access log, the register-interface state of a
requester. -/

namespace Sys2Proof.Machine

/-- A state built from another without touching registers reads them alike. -/
theorem State.rd_mk (s t : State) (h : t.regs = s.regs) (a : Nat) : t.rd a = s.rd a := State.rd_congr s t h a

/-! ### Counters (R51) -/

theorem W_toNat (n : Nat) : (W n).toNat = n % 2 ^ 32 := by simp [W]

theorem State.rd64_wr64_same (s : State) (a n : Nat) : (s.wr64 a n).rd64 a = n % 2 ^ 64 := by
  have : a ≠ a + 4 := by omega
  simp only [State.rd64, State.wr64, State.rd_wr, if_true, this, if_false, W_toNat]
  omega

theorem State.rd_wr64_ne (s : State) (a n : Nat) {b : Nat} (h : b ≠ a) (h' : b ≠ a + 4) : (s.wr64 a n).rd b = s.rd b := by
  simp only [State.wr64, State.rd_wr, h, h', if_false]

/-- A counter advances by one modulo 2^64, but during a save (R31, R51). -/
theorem State.rd64_bump (s : State) (a : Nat) (h : s.saving = false) : (s.bump a).rd64 a = (s.rd64 a + 1) % 2 ^ 64 := by
  simp only [State.bump, State.bumpBy, h, Bool.false_and, Bool.false_eq_true, if_false, State.count, State.rd64_wr64_same]

theorem Kept.yield8 (s : State) (l : List Nat) : Kept s (s.yield 8) l :=
  (Quiet.yield8 s).mono (by simp)

theorem Kept.wr64 (s : State) (a n : Nat) : Kept s (s.wr64 a n) [a, a + 4] := (Kept.wr s a _).trans (Kept.wr _ (a + 4) _)

/-- A counter's update changes that counter alone, or gives way (rank 8) during a save. -/
theorem Kept.bump (s : State) (a : Nat) : Kept s (s.bump a) [a, a + 4] := by
  simp only [State.bump, State.bumpBy, State.count]
  split
  · exact Kept.yield8 s _
  · exact Kept.wr64 s a _

theorem Kept.ev (s : State) (l : Loc) : Kept s (s.ev l) [l.addr] := Kept.p s l 1

theorem State.rd_bump_ne (s : State) (a : Nat) {b : Nat} (h : b ≠ a) (h' : b ≠ a + 4) (hp : b ∉ passRegs) :
    (s.bump a).rd b = s.rd b := (Kept.bump s a).1 b (by simp [h, h']) hp

theorem State.saving_wr (s : State) (a : Nat) (v : Word) (h : a ≠ R.PWR_SUP_STS.SAVE.addr) :
    (s.wr a v).saving = s.saving := by
  simp only [State.saving, State.g_wr_ne s _ v (Ne.symm h)]

/-! ### The access log (R52) -/

theorem logIndex_lt (s : State) : s.g R.GLB_ACCLOG_PTR.NEXT < 16 := by
  simp only [State.g, fieldOf, R.GLB_ACCLOG_PTR.NEXT]
  exact Nat.mod_lt _ (by decide)

/-- The access log changes its own registers alone. -/
theorem Kept.logAccess (s : State) (req addr be : Nat) (wr : Bool) (r : LogReason) :
    Kept s (s.logAccess req addr be wr r) (logRegs s) := by
  unfold State.logAccess
  exact (((((Kept.wr s _ _).trans (Kept.wr _ _ _)).trans (Kept.p _ _ _)).trans (Kept.bump _ _)).trans (Kept.ev _ _)).mono
    (fun a ha => by simpa [logRegs, R.GLB_ACCLOG_PTR.NEXT, R.GLB_EVT.ACCLOG] using Or.inl ha)

/-- One entry of the access log, whole. -/
theorem Logged.logAccess (s : State) (req addr be : Nat) (wr : Bool) (r : LogReason) :
    Logged s (s.logAccess req addr be wr r) req addr be wr r := by
  have hn := logIndex_lt s
  generalize hk : s.g R.GLB_ACCLOG_PTR.NEXT = k at hn
  unfold Logged State.logAccess
  simp only [hk]
  generalize hv : W (req % 8 + (if wr then 8 else 0) + 16 * r.code + 256 * (be % 16)) = info
  have hp : ∀ k, k < 16 → R.GLB_ACCLOG_ADDR k ∉ passRegs ∧ R.GLB_ACCLOG_INFO k ∉ passRegs := by decide
  obtain ⟨hpa, hpi⟩ := hp k hn
  have e1 : R.GLB_ACCLOG_ADDR k = 0x200 + 0x8 * k := rfl
  have e2 : R.GLB_ACCLOG_INFO k = 0x204 + 0x8 * k := rfl
  have e3 : R.GLB_ACCLOG_PTR = 0x280 := rfl
  have e4 : R.GLB_ACCLOG_CNT_LO = 0x288 := rfl
  have e5 : R.GLB_EVT = 0x104 := rfl
  have e6 : R.GLB_ACCLOG_PTR.NEXT.addr = 0x280 := rfl
  have e7 : R.GLB_EVT.ACCLOG.addr = 0x104 := rfl
  refine ⟨?_, ?_, ?_, ?_, ?_⟩
  · rw [State.rd_ev_ne _ _ (by omega), State.rd_bump_ne _ _ (by omega) (by omega) hpa, State.rd_p_ne _ _ _ (by omega),
      State.rd_wr_ne _ _ (by omega), State.rd_wr_same]
  · rw [State.rd_ev_ne _ _ (by omega), State.rd_bump_ne _ _ (by omega) (by omega) hpi, State.rd_p_ne _ _ _ (by omega),
      State.rd_wr_same]
  · have : ∀ t : State, ((t.bump R.GLB_ACCLOG_CNT_LO).ev R.GLB_EVT.ACCLOG).g R.GLB_ACCLOG_PTR.NEXT = t.g R.GLB_ACCLOG_PTR.NEXT := by
      intro t
      simp only [State.g]
      rw [State.rd_ev_ne _ _ (by decide), State.rd_bump_ne _ _ (by decide) (by decide) (by decide)]
    rw [this, State.g_p_same _ _ _ (by decide)]
    rfl
  · exact State.g_ev_same _ _ (by decide) (by decide)
  · intro hs
    have h1 : ∀ t : State, (t.ev R.GLB_EVT.ACCLOG).rd64 R.GLB_ACCLOG_CNT_LO = t.rd64 R.GLB_ACCLOG_CNT_LO := by
      intro t
      simp only [State.rd64]
      rw [State.rd_ev_ne _ _ (by decide), State.rd_ev_ne _ _ (by decide)]
    rw [h1, State.rd64_bump]
    · simp only [State.rd64]
      rw [State.rd_p_ne _ _ _ (by omega), State.rd_p_ne _ _ _ (by omega), State.rd_wr_ne _ _ (by omega),
        State.rd_wr_ne _ _ (by omega), State.rd_wr_ne _ _ (by omega), State.rd_wr_ne _ _ (by omega)]
    · have e : R.PWR_SUP_STS.SAVE.addr ≥ 0x1E00000 := by decide
      simp only [State.p]
      rw [State.saving_wr _ _ _ (by omega), State.saving_wr _ _ _ (by omega), State.saving_wr _ _ _ (by omega), hs]

/-- What follows an entry of the log without touching its registers leaves it. -/
theorem Logged.mono {s t u : State} {req addr be : Nat} {wr : Bool} {r : LogReason} (h : Logged s t req addr be wr r)
    (k : ∀ a ∈ logRegs s, u.rd a = t.rd a) : Logged s u req addr be wr r := by
  obtain ⟨h1, h2, h3, h4, h5⟩ := h
  simp only [logRegs, List.mem_cons, List.not_mem_nil, or_false, forall_eq_or_imp, forall_eq] at k
  obtain ⟨k1, k2, k3, k4, k5, k6⟩ := k
  refine ⟨k1.trans h1, k2.trans h2, ?_, ?_, fun hs => ?_⟩
  · simp only [State.g] at h3 ⊢; rw [show R.GLB_ACCLOG_PTR.NEXT.addr = R.GLB_ACCLOG_PTR from rfl, k3]; exact h3
  · simp only [State.g] at h4 ⊢; rw [show R.GLB_EVT.ACCLOG.addr = R.GLB_EVT from rfl, k6]; exact h4
  · rw [← h5 hs]; simp only [State.rd64, k4, k5]

theorem logRegs_pass (s : State) : ∀ a ∈ logRegs s, a ∉ passRegs := by
  have hp : ∀ k, k < 16 → R.GLB_ACCLOG_ADDR k ∉ passRegs ∧ R.GLB_ACCLOG_INFO k ∉ passRegs := by decide
  obtain ⟨h1, h2⟩ := hp _ (logIndex_lt s)
  simp only [logRegs, List.mem_cons, List.not_mem_nil, or_false, forall_eq_or_imp, forall_eq]
  exact ⟨h1, h2, by decide, by decide, by decide, by decide⟩

theorem Logged.passOn {s u : State} {req addr be : Nat} {wr : Bool} {r : LogReason} (s0 : State)
    (h : Logged s u req addr be wr r) : Logged s (State.passOn s0 u) req addr be wr r :=
  h.mono (fun a ha => rd_passOn s0 u (logRegs_pass s a ha))

/-! ### Requesters (R35) -/

@[simp] theorem rq_modRq_same (s : State) (r : Nat) (f : Requester → Requester) : (s.modRq r f).rq r = f (s.rq r) := by
  simp [State.rq, State.modRq]

theorem rq_modRq_ne (s : State) {r q : Nat} (f : Requester → Requester) (h : q ≠ r) : (s.modRq r f).rq q = s.rq q := by
  simp only [State.rq, State.modRq]
  rw [Tab.get_set_ne _ _ _ h]

@[simp] theorem rd_modRq (s : State) (r a : Nat) (f : Requester → Requester) : (s.modRq r f).rd a = s.rd a := rfl
@[simp] theorem rd_respond (s : State) (r a : Nat) (e : Bool) (d : Word) : (s.respond r e d).rd a = s.rd a := rfl

theorem rq_congr (s t : State) (h : t.reqs = s.reqs) (r : Nat) : t.rq r = s.rq r := by simp only [State.rq, h]

theorem reqs_bump (s : State) (a : Nat) : (s.bump a).reqs = s.reqs := by
  rw [(Kept.bump s a).2.2]

theorem reqs_logAccess (s : State) (req addr be : Nat) (wr : Bool) (r : LogReason) :
    (s.logAccess req addr be wr r).reqs = s.reqs := by
  rw [(Kept.logAccess s req addr be wr r).2.2]

/-- A frame does not see the register-interface state. -/
theorem Kept.modRq {s t : State} {l : List Nat} (h : Kept { s with reqs := t.reqs } t l) (r : Nat) (f : Requester → Requester) :
    Kept { s with reqs := (t.modRq r f).reqs } (t.modRq r f) l := by
  obtain ⟨h1, h2, h3⟩ := h
  refine ⟨fun a ha hp => h1 a ha hp, fun q i hq => h2 q i hq, ?_⟩
  simp only [State.modRq]
  rw [h3]

theorem Kept.withReqs {s t : State} {l : List Nat} (h : Kept s t l) : Kept { s with reqs := t.reqs } t l := by
  obtain ⟨h1, h2, h3⟩ := h
  refine ⟨fun a ha hp => h1 a ha hp, fun q i hq => h2 q i hq, ?_⟩
  rw [h3]

/-! ### The port of a requester (R42-R46, R57) -/

theorem State.resStep_keeps (s : State) (req a : Nat) (v : Word) (h : s.keepsRes a v = true) : s.resStep req a v = s := by
  unfold State.resStep
  unfold State.keepsRes at h
  cases hr : rowOf a with
  | none => rfl
  | some r => simp only [hr, Option.all_some, beq_iff_eq] at h; simp [h]

/-- An unguarded write that its port admits acts as its block says, and that is all. -/
theorem State.byPort_admitted (s : State) (req a : Nat) (v : Word) (eff : State → State) (h : Admitted s req a v) :
    s.byPort req a v false eff = eff s := by
  obtain ⟨h1, h2⟩ := h
  simp [State.byPort, h1, State.resStep_keeps s req a v h2]

end Sys2Proof.Machine
end

