-- ==== Sys2Proof/Laws/Port.lean ====
section
/-! SUPPORT. What the settling of ended transmissions can do: nothing where no port has ended one. -/

namespace Sys2Proof.Machine

/-- No port is settled that still sends the frame it was sending at the command's begin, or sent none then. -/
theorem State.portsClose_of_sending (was s : State) (n : Nat)
    (h : ∀ p, (was.port p).txCut.isSome = true → (s.port p).txCut.isSome = true) : State.portsClose was n s = s := by
  have none : (List.range 24).find?
      (fun p => (s.port p).closing && (s.port p).txCut.isNone && (was.port p).txCut.isSome) = none := by
    simp only [List.find?_eq_none, Bool.and_eq_true, not_and, Option.isNone_iff_eq_none]
    intro p _ hp hw
    simpa [hp.2] using h p hw
  cases n with
  | zero => rfl
  | succ n => simp only [State.portsClose, none]

/-- A command that leaves the ports ends no frame in transmission (R82). -/
theorem State.txSettle_of_ports (s t : State) (h : t.ports = s.ports) : t.txSettle s = t :=
  State.portsClose_of_sending s t 24 (fun p hp => by simpa only [State.port, h] using hp)

end Sys2Proof.Machine
end

