-- ==== Sys2Proof/WellFormed.lean ====
section
/-! DEFINITION. The ranges of the operands: the numbers of requesters, units and registers that the spec gives, the widths of
the fields and messages that carry the others. A meaning takes the number of a unit modulo how many there are, so that every
command has its effect; a well-formed command is one that the outside can send. -/

namespace Sys2Proof

/-- Every operand of a command lies in its range. -/
def Instr.wf : Instr → Bool
  | .registerWrite req addr be _ => decide (req < 8) && decide (addr < 67108864) && decide (be < 16)
  | .unmappedAccess req addr be _ => decide (req < 8) && decide (addr < 67108864) && decide (be < 16)
  | .unlockWrite req _ => decide (req < 8)
  | .unlockExpiry req => decide (req < 8)
  | .loWordRead req addr => decide (req < 8) && decide (addr < 67108864)
  | .holdingWordWrite req addr _ => decide (req < 8) && decide (addr < 67108864)
  | .hiWordCommit req addr _ => decide (req < 8) && decide (addr < 67108864)
  | .dmaMultiwordWrite addr _ => decide (addr < 67108864)
  | .counterClear req blk => decide (req < 8) && decide (blk < 32)
  | .softReset req blk => decide (req < 8) && decide (blk < 32)
  | .powerOn => true
  | .pwrGoodFall => true
  | .resetNAssert => true
  | .coreDieStart _ => true
  | .pllLock _ => true
  | .flashDirectoryRead _ _ => true
  | .selftestComplete cores plies _ tables queues _ _ _ _ _ => cores.all (· < 136) && plies.all (· < 8) && tables.all (· < 4) && queues.all (· < 64)
  | .candidateHeaderCheck _ => true
  | .bodyReadComplete _ => true
  | .signatureVerifyComplete => true
  | .applyBegin => true
  | .reg32 => true
  | .regblk => true
  | .regpoll => true
  | .regpollMatch => true
  | .regpollTimeout => true
  | .regwait => true
  | .regwaitExpiry => true
  | .tblload _ => true
  | .keyblob => true
  | .keyblobComplete _ => true
  | .mdioRecord => true
  | .noteRecord => true
  | .unknownRecord => true
  | .endRecord => true
  | .commitEnables => true
  | .forwardingEnable => true
  | .cfgReload req => decide (req < 8)
  | .floorRaise req epoch => decide (req < 8) && decide (epoch < 256)
  | .floorDone => true
  | .tenonLinkLossDetect => true
  | .linkLostState => true
  | .tenonLinkRetrain _ => true
  | .tenonRetrainTimeout => true
  | .pwrAccessComplete => true
  | .tenonTimeout => true
  | .macEnable req port _ => decide (req < 8) && decide (port < 24)
  | .macDisable req port _ => decide (req < 8) && decide (port < 24)
  | .laneTrained port => decide (port < 24)
  | .pcsLockGain port => decide (port < 24)
  | .pcsLockLoss port => decide (port < 24)
  | .mdioPollComplete master data => decide (master < 2) && decide (data < 65536)
  | .mdioRoundGapExpiry master => decide (master < 2)
  | .mdioWrite req master _ => decide (req < 8) && decide (master < 2)
  | .mdioRead req master _ => decide (req < 8) && decide (master < 2)
  | .mdioCommandComplete master data => decide (master < 2) && decide (data < 65536)
  | .frameReceive port _ _ _ => decide (port < 24)
  | .mmEnable req port _ => decide (req < 8) && decide (port < 24)
  | .mmVerifyTimeout port => decide (port < 24)
  | .mmRespondReceived port => decide (port < 24)
  | .mmVerifyReceived port => decide (port < 24)
  | .mmFragmentReceived port _ _ count _ _ _ => decide (port < 24) && decide (count < 4)
  | .pauseReceived port quanta => decide (port < 24) && decide (quanta < 65536)
  | .pfcReceived port classes _ => decide (port < 24) && decide (classes < 256)
  | .pauseTimerExpiry port cls => decide (port < 24) && cls.all (· < 8)
  | .pauseRefresh port => decide (port < 24)
  | .frameTransmit port _ _ => decide (port < 24)
  | .learnProcess _ => true
  | .ageingSecond => true
  | .ageingBucketScan _ => true
  | .tableScrub table index bad => decide (table < 4) && decide (index < 16384) && decide (bad < 16)
  | .tableRowRepair table row => decide (table < 4) && decide (row < 4096)
  | .tblRead req ch table index => decide (req < 8) && decide (ch < 7) && decide (table < 4) && decide (index < 16384)
  | .tblWrite req ch table index _ => decide (req < 8) && decide (ch < 7) && decide (table < 4) && decide (index < 16384)
  | .tblInval req ch table index _ => decide (req < 8) && decide (ch < 7) && decide (table < 4) && decide (index < 16384)
  | .tblInsert req ch _ => decide (req < 8) && decide (ch < 7)
  | .tblDelete req ch _ => decide (req < 8) && decide (ch < 7)
  | .tblSearch req ch => decide (req < 8) && decide (ch < 7)
  | .tblFlush req ch => decide (req < 8) && decide (ch < 7)
  | .tblFlushComplete _ => true
  | .tblDrain req tmo => decide (req < 8) && decide (tmo < 65536)
  | .tblDrained => true
  | .tblDrainTmo => true
  | .mcgrpWrite req g mask => decide (req < 8) && decide (g < 1024) && decide (mask < 268435456)
  | .matchingCycle _ => true
  | .cellArrival _ => true
  | .reseqGapTimeout src dst => decide (src < 28) && decide (dst < 28)
  | .egressFetch out => decide (out < 28)
  | .ageScan => true
  | .mcTmo out ingress cls => decide (out < 28) && decide (ingress < 28) && decide (cls < 8)
  | .outputFlushComplete out => decide (out < 28)
  | .plyFail ply => decide (ply < 8)
  | .plyReady ply _ => decide (ply < 8)
  | .plyDrained ply => decide (ply < 8)
  | .plyRetire req ply => decide (req < 8) && decide (ply < 8)
  | .plyRetest req ply => decide (req < 8) && decide (ply < 8)
  | .plyRetestDone _ => true
  | .strEnable req n _ => decide (req < 8) && decide (n < 256)
  | .strDisable req n _ => decide (req < 8) && decide (n < 256)
  | .verifyJobDone core => decide (core < 136)
  | .generateJobDone core => decide (core < 136)
  | .rollTimerExpiry n => decide (n < 256)
  | .keyEntryWrite req n entry _ => decide (req < 8) && decide (n < 256) && decide (entry < 2)
  | .strSilent n => decide (n < 256)
  | .strSeqReset n => decide (n < 256)
  | .strHighPersist => true
  | .canEnable req c _ => decide (req < 8) && decide (c < 16)
  | .canDisable req c _ => decide (req < 8) && decide (c < 16)
  | .integrationDone c => decide (c < 16)
  | .busOffRecovery c _ => decide (c < 16)
  | .canFrameReceived c fmt id _ _ _ _ _ sdt vcid af _ _ _ => decide (c < 16) && decide (fmt < 3) && decide (id < 536870912) && decide (sdt < 256) && decide (vcid < 256) && decide (af < 4294967296)
  | .canTxStart c => decide (c < 16)
  | .canTxSuccess c _ => decide (c < 16)
  | .canArbLost c => decide (c < 16)
  | .canError c kind _ _ _ => decide (c < 16) && decide (kind < 6)
  | .txRequest req c obj _ => decide (req < 8) && decide (c < 16) && decide (obj < 512)
  | .canAbort req c obj => decide (req < 8) && decide (c < 16) && decide (obj < 512)
  | .canAbortAll req c => decide (req < 8) && decide (c < 16)
  | .rxObjectW0Write req c obj _ => decide (req < 8) && decide (c < 16) && decide (obj < 2560)
  | .crossCapture => true
  | .matrixStart c => decide (c < 16)
  | .windowStart c => decide (c < 16)
  | .exclLateExpiry c => decide (c < 16)
  | .fifoObjectRefill dst => decide (dst < 16)
  | .tokenRefill dst => decide (dst < 16)
  | .gwRateWrite req dst _ => decide (req < 8) && decide (dst < 16)
  | .packEnable req k _ => decide (req < 8) && decide (k < 32)
  | .packDisable req k _ => decide (req < 8) && decide (k < 32)
  | .holdExpiry k => decide (k < 32)
  | .pduPresent => true
  | .gwUnpack => true
  | .jigTrigger => true
  | .jigTimeout entry => decide (entry < 4096)
  | .jigEntryCommit req entry _ => decide (req < 8) && decide (entry < 4096)
  | .cmaEnable req entry _ => decide (req < 8) && decide (entry < 256)
  | .cmaVerifyDone core => decide (core < 136)
  | .cmaGenerateDone core => decide (core < 136)
  | .tbEnable req t _ => decide (req < 8) && decide (t < 4)
  | .tbDisable req t _ => decide (req < 8) && decide (t < 4)
  | .tbIncCommit req t _ => decide (req < 8) && decide (t < 4)
  | .tbSet req t => decide (req < 8) && decide (t < 4)
  | .tbAdd req t => decide (req < 8) && decide (t < 4)
  | .tbSlew req t => decide (req < 8) && decide (t < 4)
  | .slewComplete t => decide (t < 4)
  | .tbAdjZero req t => decide (req < 8) && decide (t < 4)
  | .servoEnable req t _ => decide (req < 8) && decide (t < 4)
  | .servoTbSample t => decide (t < 4)
  | .servoHoldover t => decide (t < 4)
  | .pdelayReqTimer n => decide (n < 24)
  | .pdelayReqReceived => true
  | .pdelayRespReceived => true
  | .syncReceived => true
  | .followUpReceived => true
  | .followUpTimeout d => decide (d < 4)
  | .gptpOtherMessage => true
  | .syncTmo d => decide (d < 4)
  | .grandmasterSync d => decide (d < 4)
  | .tpDomEnable req d _ => decide (req < 8) && decide (d < 4)
  | .tgEnable req g _ => decide (req < 8) && decide (g < 32)
  | .tgDisable req g _ => decide (req < 8) && decide (g < 32)
  | .tgEdge g => decide (g < 32)
  | .tgPinWidthEnd g => decide (g < 32)
  | .tgEdgeCommand g => decide (g < 32)
  | .powerDieEdge _ => true
  | .capEdge unit _ _ => decide (unit < 9)
  | .sjqEnable req queue _ => decide (req < 8) && decide (queue < 8)
  | .sjqPiWrite req queue _ _ => decide (req < 8) && decide (queue < 8)
  | .jobDispatch unit late _ => decide (unit < 4) && late.all (fun n => decide (n < 136))
  | .segmentEnd core => decide (core < 136)
  | .swJobComplete core _ => decide (core < 136)
  | .swWait queue index => decide (queue < 8) && decide (index < 65536)
  | .coreAbort core => decide (core < 136)
  | .quarantineTestDone core _ _ => decide (core < 136)
  | .coreRetire req core _ => decide (req < 8) && decide (core < 256)
  | .coreRetest req core => decide (req < 8) && decide (core < 256)
  | .coreRetestDone _ => true
  | .drbgRestart req _ => decide (req < 8)
  | .drbgReseed _ => true
  | .keyDerive req _ => decide (req < 8)
  | .keyUnwrap req _ => decide (req < 8)
  | .keyGenerate req _ => decide (req < 8)
  | .keyInvalidate req _ => decide (req < 8)
  | .keyFree req _ => decide (req < 8)
  | .keyProvision req _ => decide (req < 8)
  | .keyZeroise req _ => decide (req < 8)
  | .fuseSigner req _ => decide (req < 8)
  | .fuseRevoke req _ => decide (req < 8)
  | .fusePolicy req _ => decide (req < 8)
  | .fuseLock req _ => decide (req < 8)
  | .resInit req _ => decide (req < 8)
  | .keyCommandComplete _ _ => true
  | .orphanSweepDone => true
  | .shareRerandomise => true
  | .tamperDetected src _ => decide (src < 7)
  | .keyAttest req nlen => decide (req < 8) && decide (nlen < 64)
  | .attestComplete => true
  | .reservationAdvanceDone record => decide (record < 512)
  | .loadModeWrite req ch _ => decide (req < 8) && decide (ch < 24)
  | .loadStart => true
  | .inrushWindowEnd ch => decide (ch < 24)
  | .pulsePeriodStart ch => decide (ch < 24)
  | .pulseTurnOn ch => decide (ch < 24)
  | .pulseTurnOff ch => decide (ch < 24)
  | .ldEdgeMiss ch => decide (ch < 24)
  | .ldShort ch _ => decide (ch < 24)
  | .ldOvercur ch => decide (ch < 24)
  | .clampEvent ch _ => decide (ch < 24)
  | .thermalLatchSet ch => decide (ch < 24)
  | .groupThermalShutdown grp _ => decide (grp < 6)
  | .ldTwarn grp _ => decide (grp < 6)
  | .thermalLatchRelease ch => decide (ch < 24)
  | .ldRetry ch => decide (ch < 24)
  | .ldRtyClr ch => decide (ch < 24)
  | .ldOpen ch => decide (ch < 24)
  | .ldOpenClear ch => decide (ch < 24)
  | .ldUv => true
  | .ldUvRecovery => true
  | .staggerStart => true
  | .safeOffAssert => true
  | .safeOffRelease => true
  | .ldClrLock req _ => decide (req < 8)
  | .ldAdcNow req _ => decide (req < 8)
  | .ldAllOff req _ => decide (req < 8)
  | .adcPeriodicConversion => true
  | .adcResult ch code _ => decide (ch < 24) && decide (code < 4096)
  | .trxModeWrite req c _ => decide (req < 8) && decide (c < 16)
  | .trxWup c => decide (c < 16)
  | .trxWuf c _ _ id dlc _ => decide (c < 16) && decide (id < 536870912) && decide (dlc < 16)
  | .trxFderr c _ => decide (c < 16)
  | .busIdleBiasReturn c => decide (c < 16)
  | .wakePin pin _ => decide (pin < 4)
  | .wakeTimer => true
  | .trxFs c => decide (c < 16)
  | .slpPrepare req => decide (req < 8)
  | .slpCommit req => decide (req < 8)
  | .sleepAbort req => decide (req < 8)
  | .busSilence c => decide (c < 16)
  | .slpPrepTmo => true
  | .slpInhFall => true
  | .slpModFs => true
  | .inboundWrite rid _ beFirst beLast _ _ => decide (rid < 65536) && decide (beFirst < 16) && decide (beLast < 16)
  | .inboundRead rid tag _ _ beFirst beLast => decide (rid < 65536) && decide (tag < 1024) && decide (beFirst < 16) && decide (beLast < 16)
  | .brgRdTmo rid tag => decide (rid < 65536) && decide (tag < 1024)
  | .bar2Access rid tag _ _ beFirst beLast _ _ _ => decide (rid < 65536) && decide (tag < 1024) && decide (beFirst < 16) && decide (beLast < 16)
  | .atomicOp rid tag bar _ op _ a b => decide (rid < 65536) && decide (tag < 1024) && decide (bar < 3) && decide (op < 3) && decide (a < 18446744073709551616) && decide (b < 18446744073709551616)
  | .unsupportedRequest rid tag kind => decide (rid < 65536) && decide (tag < 1024) && decide (kind < 4)
  | .configurationRequest rid tag _ reg be _ _ => decide (rid < 65536) && decide (tag < 1024) && decide (reg < 1024) && decide (be < 16)
  | .pcieLinkTrained _ _ => true
  | .outboundWrite addr _ => decide (addr < 9223372036854775808)
  | .outboundRead addr _ => decide (addr < 9223372036854775808)
  | .outboundCompletion tag status _ => decide (tag < 1024) && decide (status < 8)
  | .brgCplTmo tag => decide (tag < 1024)
  | .brgDetach => true
  | .brgAttach _ _ => true
  | .dmaStart req ch => decide (req < 8) && decide (ch < 256)
  | .dmaStop req ch => decide (req < 8) && decide (ch < 256)
  | .dmaClear req ch => decide (req < 8) && decide (ch < 256)
  | .dmaChannelDisable req ch _ => decide (req < 8) && decide (ch < 256)
  | .descriptorFetch ch _ => decide (ch < 256)
  | .burstGrant block => decide (block < 8)
  | .descriptorComplete ch => decide (ch < 256)
  | .dmaHalt ch code _ _ addr => decide (ch < 256) && decide (code < 8) && decide (addr < 18446744073709551616)
  | .inQueueTake queue => decide (queue < 64)
  | .queRdWrite req queue _ => decide (req < 8) && decide (queue < 64)
  | .queWrWrite req queue _ => decide (req < 8) && decide (queue < 64)
  | .queDropRem req queue => decide (req < 8) && decide (queue < 64)
  | .queFlush req queue => decide (req < 8) && decide (queue < 64)
  | .queResume req queue => decide (req < 8) && decide (queue < 64)
  | .queFlushTimer queue => decide (queue < 64)
  | .cqpTransactionStart => true
  | .cqpWr32 addr _ => decide (addr < 67108864)
  | .cqpRd32 addr _ => decide (addr < 67108864)
  | .cqpQtake queue _ => decide (queue < 64)
  | .cqpQpeek queue _ => decide (queue < 64)
  | .cqpQput queue _ => decide (queue < 64)
  | .cqpQskip queue => decide (queue < 64)
  | .cqpStatus => true
  | .cqpTransactionEnd _ _ => true
  | .cqpInactivity => true
  | .memInitDone => true
  | .dramScrub line err => decide (line < 268435456) && decide (err < 3)
  | .recCopyArrival => true
  | .recordWrite _ => true
  | .ringEnable req r _ => decide (req < 8) && decide (r < 64)
  | .ringDisable req r _ => decide (req < 8) && decide (r < 64)
  | .recTrigger req r => decide (req < 8) && decide (r < 64)
  | .recPostExpiry r => decide (r < 64)
  | .recUnfreeze req r => decide (req < 8) && decide (r < 64)
  | .recExport req r => decide (req < 8) && decide (r < 64)
  | .recAbortExp req r => decide (req < 8) && decide (r < 64)
  | .recChunk index _ => decide (index < 16384)
  | .faultOccurrence src _ => decide (src < 320)
  | .fltDumpStart => true
  | .fltDumpDone => true
  | .fltDump req => decide (req < 8)
  | .fltInvalDump req slot => decide (req < 8) && decide (slot < 2)
  | .fltRelease req => decide (req < 8)
  | .fltFatalClear req => decide (req < 8)
  | .holdUpMeasured _ _ _ => true
  | .saveSaving _ _ => true
  | .saveSaved _ => true
  | .saveRecovery => true
  | .savePowerLost => true
  | .arrayRowRepair region _ _ src _ _ lostQueues _ _ _ queues _ _ _ => decide (region < 19) && decide (src < 320) && lostQueues.all (· < 1048576) && queues.all (· < 64)
  | .mgtRst req _ => decide (req < 8)
  | .watchdogExpiry => true
  | .watchdogKick req _ => decide (req < 8)
  | .lockstepMismatch pair => decide (pair < 2)
  | .loaderBegin => true
  | .fwCandidateChecked _ => true
  | .fwCheck req slot => decide (req < 8) && decide (slot < 2)
  | .fwCheckDone _ => true
  | .fwActivate req => decide (req < 8)
  | .fwConfirm req => decide (req < 8)
  | .fwRecover req => decide (req < 8)
  | .flashRead req => decide (req < 8)
  | .flProgram req => decide (req < 8)
  | .flErase req => decide (req < 8)
  | .flDone _ _ => true
  | .fwFloorRaise req epoch => decide (req < 8) && decide (epoch < 256)
  | .mtimecmpReached core => decide (core < 4)
  | .pexEnd c => decide (c < 16)
  | .fecBlockReceived port _ => decide (port < 24)
  | .fwFloorDone => true
  | .keepAliveStoreLoss => true
  | .mgtMemoryAccess core _ addr size data ecc => decide (core < 4) && decide (addr < 18446744073709551616) && decide (size < 4) && decide (data < 18446744073709551616) && decide (ecc < 3)

end Sys2Proof
end

