-- ==== Sys2Proof/Tests/Slice0.lean ====
section
/-! SUPPORT. Tests: ill-formed commands that the check of operands refuses, the worked examples of the spec and the vectors of
the standards it names, and for every statement with hypotheses a state and operands that meet them, clause by clause. -/

open Sys2Proof Sys2Proof.Machine

set_option maxRecDepth 100000
set_option Elab.async false
set_option linter.unusedVariables false

namespace Sys2Proof.Tests

/-! ### Operands out of range -/

theorem test_ill_formed_1 : ([
    .registerWrite 8 0 0 0, .registerWrite 0 67108864 0 0, .registerWrite 0 0 16 0, .unmappedAccess 8 0 0 false,
    .unmappedAccess 0 67108864 0 false, .unmappedAccess 0 0 16 false, .unlockWrite 8 0, .unlockExpiry 8, .loWordRead 8 0,
    .loWordRead 0 67108864, .holdingWordWrite 8 0 0, .holdingWordWrite 0 67108864 0, .hiWordCommit 8 0 0,
    .hiWordCommit 0 67108864 0, .dmaMultiwordWrite 67108864 0, .counterClear 8 0, .counterClear 0 32, .softReset 8 0,
    .softReset 0 32, .selftestComplete [136] [] 0 [] [] [] [] [] false, .selftestComplete [] [8] 0 [] [] [] [] [] false,
    .selftestComplete [] [] 0 [4] [] [] [] [] false, .selftestComplete [] [] 0 [] [64] [] [] [] false, .cfgReload 8,
    .floorRaise 8 0, .floorRaise 0 256, .macEnable 8 0 0, .macEnable 0 24 0, .macDisable 8 0 0, .macDisable 0 24 0, .laneTrained 24,
    .pcsLockGain 24, .pcsLockLoss 24, .mdioPollComplete 2 0, .mdioPollComplete 0 65536, .mdioRoundGapExpiry 2, .mdioWrite 8 0 0,
    .mdioWrite 0 2 0, .mdioRead 8 0 0, .mdioRead 0 2 0] : List Instr).all (fun c => !c.wf) = true := by decide

theorem test_ill_formed_2 : ([
    .mdioCommandComplete 2 0, .mdioCommandComplete 0 65536, .frameReceive 24 [] false false, .mmEnable 8 0 0, .mmEnable 0 24 0,
    .mmVerifyTimeout 24, .mmRespondReceived 24, .mmVerifyReceived 24, .mmFragmentReceived 24 false false 0 [] false false,
    .mmFragmentReceived 0 false false 4 [] false false, .pauseReceived 24 0, .pauseReceived 0 65536, .pfcReceived 24 0 [],
    .pfcReceived 0 256 [], .pauseTimerExpiry 24 none, .pauseTimerExpiry 0 (some 8), .pauseRefresh 24, .frameTransmit 24 false [],
    .tableScrub 4 0 0, .tableScrub 0 16384 0, .tableScrub 0 0 16, .tableRowRepair 4 0, .tableRowRepair 0 4096, .tblRead 8 0 0 0,
    .tblRead 0 7 0 0, .tblRead 0 0 4 0, .tblRead 0 0 0 16384, .tblWrite 8 0 0 0 false, .tblWrite 0 7 0 0 false,
    .tblWrite 0 0 4 0 false, .tblWrite 0 0 0 16384 false, .tblInval 8 0 0 0 false, .tblInval 0 7 0 0 false, .tblInval 0 0 4 0 false,
    .tblInval 0 0 0 16384 false, .tblInsert 8 0 false, .tblInsert 0 7 false, .tblDelete 8 0 false, .tblDelete 0 7 false, .tblSearch 8 0] : List Instr).all (fun c => !c.wf) = true := by decide

theorem test_ill_formed_3 : ([
    .tblSearch 0 7, .tblFlush 8 0, .tblFlush 0 7, .tblDrain 8 0, .tblDrain 0 65536, .mcgrpWrite 8 0 0, .mcgrpWrite 0 1024 0,
    .mcgrpWrite 0 0 268435456, .reseqGapTimeout 28 0, .reseqGapTimeout 0 28, .egressFetch 28, .mcTmo 28 0 0, .mcTmo 0 28 0,
    .mcTmo 0 0 8, .outputFlushComplete 28, .plyFail 8, .plyReady 8 false, .plyDrained 8, .plyRetire 8 0, .plyRetire 0 8,
    .plyRetest 8 0, .plyRetest 0 8, .strEnable 8 0 0, .strEnable 0 256 0, .strDisable 8 0 0, .strDisable 0 256 0,
    .verifyJobDone 136, .generateJobDone 136, .rollTimerExpiry 256, .keyEntryWrite 8 0 0 0, .keyEntryWrite 0 256 0 0,
    .keyEntryWrite 0 0 2 0, .strSilent 256, .strSeqReset 256, .canEnable 8 0 0, .canEnable 0 16 0, .canDisable 8 0 0,
    .canDisable 0 16 0, .integrationDone 16, .busOffRecovery 16 0] : List Instr).all (fun c => !c.wf) = true := by decide

theorem test_ill_formed_4 : ([
    .canFrameReceived 16 0 0 false false false false false 0 0 0 0 [] 0,
    .canFrameReceived 0 3 0 false false false false false 0 0 0 0 [] 0,
    .canFrameReceived 0 0 536870912 false false false false false 0 0 0 0 [] 0,
    .canFrameReceived 0 0 0 false false false false false 256 0 0 0 [] 0,
    .canFrameReceived 0 0 0 false false false false false 0 256 0 0 [] 0,
    .canFrameReceived 0 0 0 false false false false false 0 0 4294967296 0 [] 0, .canTxStart 16, .canTxSuccess 16 0, .canArbLost 16,
    .canError 16 0 false 0 none, .canError 0 6 false 0 none, .txRequest 8 0 0 0, .txRequest 0 16 0 0, .txRequest 0 0 512 0, .canAbort 8 0 0,
    .canAbort 0 16 0, .canAbort 0 0 512, .canAbortAll 8 0, .canAbortAll 0 16, .rxObjectW0Write 8 0 0 0, .rxObjectW0Write 0 16 0 0,
    .rxObjectW0Write 0 0 2560 0, .matrixStart 16, .windowStart 16, .exclLateExpiry 16, .fifoObjectRefill 16, .tokenRefill 16,
    .gwRateWrite 8 0 0, .gwRateWrite 0 16 0, .packEnable 8 0 0, .packEnable 0 32 0, .packDisable 8 0 0, .packDisable 0 32 0,
    .holdExpiry 32, .jigTimeout 4096, .jigEntryCommit 8 0 0, .jigEntryCommit 0 4096 0, .cmaEnable 8 0 0, .cmaEnable 0 256 0,
    .cmaVerifyDone 136] : List Instr).all (fun c => !c.wf) = true := by decide

theorem test_ill_formed_5 : ([
    .cmaGenerateDone 136, .tbEnable 8 0 0, .tbEnable 0 4 0, .tbDisable 8 0 0, .tbDisable 0 4 0, .tbIncCommit 8 0 0,
    .tbIncCommit 0 4 0, .tbSet 8 0, .tbSet 0 4, .tbAdd 8 0, .tbAdd 0 4, .tbSlew 8 0, .tbSlew 0 4, .slewComplete 4, .tbAdjZero 8 0,
    .tbAdjZero 0 4, .servoEnable 8 0 0, .servoEnable 0 4 0, .servoTbSample 4, .servoHoldover 4, .pdelayReqTimer 24,
    .followUpTimeout 4, .syncTmo 4, .grandmasterSync 4, .tpDomEnable 8 0 0, .tpDomEnable 0 4 0, .tgEnable 8 0 0, .tgEnable 0 32 0,
    .tgDisable 8 0 0, .tgDisable 0 32 0, .tgEdge 32, .tgPinWidthEnd 32, .tgEdgeCommand 32, .capEdge 9 false 0, .sjqEnable 8 0 0,
    .sjqEnable 0 8 0, .sjqPiWrite 8 0 0 [], .sjqPiWrite 0 8 0 [], .jobDispatch 4 [] false, .jobDispatch 0 [136] false, .segmentEnd 136] : List Instr).all (fun c => !c.wf) = true := by decide

theorem test_ill_formed_6 : ([
    .swJobComplete 136 [], .swWait 8 0, .swWait 0 65536, .coreAbort 136, .quarantineTestDone 136 false false, .coreRetire 8 0 false,
    .coreRetire 0 256 false, .coreRetest 8 0, .coreRetest 0 256, .drbgRestart 8 false, .keyDerive 8 0, .keyUnwrap 8 0,
    .keyGenerate 8 0, .keyInvalidate 8 0, .keyFree 8 0, .keyProvision 8 0, .keyZeroise 8 0, .fuseSigner 8 0, .fuseRevoke 8 0,
    .fusePolicy 8 0, .fuseLock 8 0, .resInit 8 0, .tamperDetected 7 false, .keyAttest 8 0, .keyAttest 0 64,
    .reservationAdvanceDone 512, .loadModeWrite 8 0 0, .loadModeWrite 0 24 0, .inrushWindowEnd 24, .pulsePeriodStart 24,
    .pulseTurnOn 24, .pulseTurnOff 24, .ldEdgeMiss 24, .ldShort 24 false, .ldOvercur 24, .clampEvent 24 0, .thermalLatchSet 24,
    .groupThermalShutdown 6 0, .ldTwarn 6 0, .thermalLatchRelease 24] : List Instr).all (fun c => !c.wf) = true := by decide

theorem test_ill_formed_7 : ([
    .ldRetry 24, .ldRtyClr 24, .ldOpen 24, .ldOpenClear 24, .ldClrLock 8 0, .ldAdcNow 8 0, .ldAllOff 8 0, .adcResult 24 0 0,
    .adcResult 0 4096 0, .trxModeWrite 8 0 0, .trxModeWrite 0 16 0, .trxWup 16, .trxWuf 16 false false 0 0 [],
    .trxWuf 0 false false 536870912 0 [], .trxWuf 0 false false 0 16 [], .trxFderr 16 0, .busIdleBiasReturn 16, .wakePin 4 false,
    .trxFs 16, .slpPrepare 8, .slpCommit 8, .sleepAbort 8, .busSilence 16, .inboundWrite 65536 0 0 0 false [],
    .inboundWrite 0 0 16 0 false [], .inboundWrite 0 0 0 16 false [], .inboundRead 65536 0 0 0 0 0, .inboundRead 0 1024 0 0 0 0, .inboundRead 0 0 0 0 16 0,
    .inboundRead 0 0 0 0 0 16,
    .brgRdTmo 65536 0, .brgRdTmo 0 1024, .bar2Access 65536 0 false 0 0 0 0 false [], .bar2Access 0 1024 false 0 0 0 0 false [],
    .bar2Access 0 0 false 0 16 0 0 false [], .bar2Access 0 0 false 0 0 16 0 false [], .atomicOp 65536 0 0 0 0 0 0 0,
    .atomicOp 0 1024 0 0 0 0 0 0, .atomicOp 0 0 3 0 0 0 0 0, .atomicOp 0 0 0 0 3 0 0 0,
    .atomicOp 0 0 0 0 0 0 18446744073709551616 0, .atomicOp 0 0 0 0 0 0 0 18446744073709551616] : List Instr).all (fun c => !c.wf) = true := by decide

theorem test_ill_formed_8 : ([
    .unsupportedRequest 65536 0 0, .unsupportedRequest 0 1024 0, .unsupportedRequest 0 0 4,
    .configurationRequest 65536 0 false 0 0 0 false, .configurationRequest 0 1024 false 0 0 0 false,
    .configurationRequest 0 0 false 1024 0 0 false, .configurationRequest 0 0 false 0 16 0 false,
    .outboundWrite 9223372036854775808 [], .outboundRead 9223372036854775808 0, .outboundCompletion 1024 0 [],
    .outboundCompletion 0 8 [], .brgCplTmo 1024, .dmaStart 8 0, .dmaStart 0 256, .dmaStop 8 0, .dmaStop 0 256, .dmaClear 8 0,
    .dmaClear 0 256, .dmaChannelDisable 8 0 0, .dmaChannelDisable 0 256 0, .descriptorFetch 256 [], .burstGrant 8,
    .descriptorComplete 256, .dmaHalt 256 0 false false 0, .dmaHalt 0 8 false false 0,
    .dmaHalt 0 0 false false 18446744073709551616, .inQueueTake 64, .queRdWrite 8 0 0, .queRdWrite 0 64 0, .queWrWrite 8 0 0,
    .queWrWrite 0 64 0, .queDropRem 8 0, .queDropRem 0 64, .queFlush 8 0, .queFlush 0 64, .queResume 8 0, .queResume 0 64,
    .queFlushTimer 64, .cqpWr32 67108864 [], .cqpRd32 67108864 0] : List Instr).all (fun c => !c.wf) = true := by decide

theorem test_ill_formed_9 : ([
    .cqpQtake 64 0, .cqpQpeek 64 0, .cqpQput 64 [], .cqpQskip 64, .dramScrub 268435456 0, .dramScrub 0 3, .ringEnable 8 0 0,
    .ringEnable 0 64 0, .ringDisable 8 0 0, .ringDisable 0 64 0, .recTrigger 8 0, .recTrigger 0 64, .recPostExpiry 64,
    .recUnfreeze 8 0, .recUnfreeze 0 64, .recExport 8 0, .recExport 0 64, .recAbortExp 8 0, .recAbortExp 0 64, .recChunk 16384 [],
    .faultOccurrence 320 0, .fltDump 8, .fltInvalDump 8 0, .fltInvalDump 0 2, .fltRelease 8, .fltFatalClear 8,
    .arrayRowRepair 19 0 0 0 none [] [] [] [] 0 [] [] [] [], .arrayRowRepair 0 0 0 320 none [] [] [] [] 0 [] [] [] [],
    .arrayRowRepair 0 0 0 0 none [] [1048576] [] [] 0 [] [] [] [], .arrayRowRepair 0 0 0 0 none [] [] [] [] 0 [64] [] [] [], .mgtRst 8 0,
    .watchdogKick 8 0, .lockstepMismatch 2, .fwCheck 8 0, .fwCheck 0 2, .fwActivate 8, .fwConfirm 8, .fwRecover 8, .flashRead 8,
    .flProgram 8] : List Instr).all (fun c => !c.wf) = true := by decide

theorem test_ill_formed_10 : ([
    .flErase 8, .fwFloorRaise 8 0, .fwFloorRaise 0 256, .mtimecmpReached 4, .pexEnd 16, .fecBlockReceived 24 false,
    .mgtMemoryAccess 4 0 0 0 0 0, .mgtMemoryAccess 0 0 18446744073709551616 0 0 0, .mgtMemoryAccess 0 0 0 4 0 0,
    .mgtMemoryAccess 0 0 0 0 18446744073709551616 0, .mgtMemoryAccess 0 0 0 0 0 3] : List Instr).all (fun c => !c.wf) = true := by decide

theorem test_well_formed : ([
    .registerWrite 7 0x3FFFFFC 15 0, .macEnable 6 23 0, .tblWrite 6 6 3 16383 true,
    .canFrameReceived 15 2 0x1FFFFFFF false false false false true 255 255 0xFFFFFFFF 2047 [] 9, .faultOccurrence 319 0xFFFFFFFF,
    .mgtMemoryAccess 3 10 0xFFFFFFFFFFFFFFFF 3 0xFFFFFFFFFFFFFFFF 2] : List Instr).all Instr.wf = true := by decide

/-! ### Worked examples and standard vectors -/

namespace Examples

/-- Whether command `c` in state `s` leaves a state of which `p` holds. -/
def after (c : Instr) (s : State) (p : State → Bool) : Bool :=
  match exec c s with
  | .next t => p t
  | _ => false

/-- A state in which the device runs. -/
def run : State := State.reset.p R.CFG_STS.STATE 6

/-- Register `r` of the log entry 0 shows requester, direction, reason and byte enables. -/
def logged (t : State) (req addr : Nat) (wr : Bool) (reason be : Nat) : Bool :=
  t.rd (R.GLB_ACCLOG_ADDR 0) == W addr && t.rd (R.GLB_ACCLOG_INFO 0) == W (req + (if wr then 8 else 0) + 16 * reason + 256 * be)

/-! Worked example of 02 (HOST and MGT0 around one unlock). -/

/-- At 0.0 HOST arms; at 1.5 MGT0's GLB_SRST is ignored and logged GUARD with requester 1. -/
theorem test_unlock_is_per_requester : after (.softReset 1 5) (run.setArmed 0 true)
    (fun t => logged t 1 R.GLB_SRST true 1 15 && (t.rq 0).armed && !(t.rq 1).armed) = true := by decide +kernel

/-- At 2.4 an unguarded write acts and the unlock stays armed. -/
theorem test_unguarded_write_keeps_unlock : after (.registerWrite 0 (R.MEM_REC_AREA) 15 0x10) (run.setArmed 0 true)
    (fun t => t.rd R.MEM_REC_AREA == 0x10 && (t.rq 0).armed) = true := by decide +kernel

/-! Worked examples of 07 (CMAC input), 09 (packing, Jig), 10 (INC), 13 (budget), 15 (late failure), 16 (trap queue), 18 (energy). -/

/-- A lorry camera frame: DA, SA, EtherType 22 F0 and 1,500 payload bytes; its trailer. -/
def camera (tag : List Byte) : List Byte := [0x02, 0x48, 0x4B, 0, 0, 0x0A, 0x02, 0x48, 0x4B, 0, 1, 4] ++ tag ++ [0x22, 0xF0] ++ List.replicate 1500 7
def trailer : List Byte := [0x5A, 0x10, 3, 0, 0, 0, 0, 0, 0, 0x12, 0xD6, 0x87] ++ List.replicate 16 9

/-- M has 1,526 bytes, and the copy with a C-VLAN tag has the same M. -/
theorem test_cmac_input : (macInput (camera []) trailer).length = 1526 ∧
    macInput (camera [0x81, 0, 0x40, 5]) trailer = macInput (camera []) trailer := by decide +kernel

/-- Message 1 begins 02 06 28 00 and carries 0C F0 04 00; four of them make S = 126 bytes. -/
theorem test_acf_message :
    let q : Pack := { cfg := 0x90000000 }
    let s : State := { run with gw := { run.gw with capGood := [(0, 2)], caps := [(1000, [2000, 0, 0, 0]), (0, [1000, 0, 0, 0])] } }
    let m := s.acfMsg q 0 { fmt := 0, ide := true, id := 0x0CF00400, rtr := false, len := 8, data := List.replicate 8 1, stamp := 1000 }
    m.take 4 = [2, 6, 0x28, 0] ∧ (m.drop 12).take 4 = [0x0C, 0xF0, 4, 0] ∧ q.size (4 * m.length) = 126 := by decide +kernel

/-- The entry of the ambient temperature: C0 stops, and 0xFFF goes into bits 16-27 of C2 object 1. -/
theorem test_jig_substitute :
    after (.jigTimeout 0) ((((run.wr (R.GW_JIG_LO 0) 0x00F00C4B).wr (R.GW_JIG_W1 0) 0x90042048).wr (R.GW_JIG_W2 0) 0xFFF).jigTimer 0 true)
      (fun t => (t.txoData 2 1).take 4 == [0, 0, 0xFF, 0x0F] && t.g R.GW_EVT.JIG_TMO == 1) = true := by decide +kernel

/-- Source bits 24-31 and then 16-19: byte 3 is the low byte, the low nibble of byte 2 the high nibble. -/
theorem test_jig_source_positions :
    ((run.wr (R.GW_JIG_LO 0) 0x00F00C4B).wr (R.GW_JIG_W1 0) 0x90042048).jigSrc 0 = some [24, 25, 26, 27, 28, 29, 30, 31, 16, 17, 18, 19] := by
  decide +kernel

/-- An oscillator 35 ppm fast: INC 0x01_FFFB_69A3 is in range and acts. -/
theorem test_tb_inc : (run.tbIncCommit 0 0xFFFB69A3 1).rd64 (R.TB_INC_LO 0) = 0x1FFFB69A3 := by decide +kernel

/-- 470 uF at VHOLD_SET 12.0 V hold 30.96 mJ: PWR_SUP_CAP.E reads 309; 376 uF hold 24.77 mJ, above 15 mJ. -/
theorem test_hold_up_energy : after (.holdUpMeasured 470 2400 1200) { run.p R.PWR_SUP_CFG.VHOLD_SET 24 with pins := { vs := true, pwrGood := true, resetN := true } }
    (fun t => t.g R.PWR_SUP_CAP.E == 309 && t.holdEnergy 376 / 10 == 2476 && t.g (R.FLT_SRC_STS.INSVC 227) == 0) = true := by decide +kernel

/-- The write to PWR_LD_CTL[17] that the link loses: ADDR 0x01E0_1440, BAR 0, BE 0xF, REASON 3, BRG_LATE_FAIL + 1, LATE. -/
theorem test_late_failure :
    let t := run.lateFail 0x100 0 (R.PWR_LD_CTL 17) 15 3
    t.rd (R.BRG_LFL_ADDR 0) = 0x01E01440 ∧ t.rd64 R.BRG_LATE_FAIL_LO = 1 ∧ t.g R.BRG_EVT.LATE = 1 := by decide +kernel

/-- A trapped frame of 90 bytes: its length word is 0x8012_005A and its entry has 27 words. -/
theorem test_trap_entry_words : entryWords 0x8012005A = 27 := by decide

/-! The algorithms, on the vectors of their standards (log 6). -/

/-- FIPS 197, appendix B. -/
theorem test_aes128 :
    aesEnc [0x2B, 0x7E, 0x15, 0x16, 0x28, 0xAE, 0xD2, 0xA6, 0xAB, 0xF7, 0x15, 0x88, 0x09, 0xCF, 0x4F, 0x3C]
      [0x32, 0x43, 0xF6, 0xA8, 0x88, 0x5A, 0x30, 0x8D, 0x31, 0x31, 0x98, 0xA2, 0xE0, 0x37, 0x07, 0x34] =
      [0x39, 0x25, 0x84, 0x1D, 0x02, 0xDC, 0x09, 0xFB, 0xDC, 0x11, 0x85, 0x97, 0x19, 0x6A, 0x0B, 0x32] := by decide +kernel

/-- FIPS 180-4, the message "abc". -/
theorem test_sha256 : (sha256 [0x61, 0x62, 0x63]).take 8 = [0xBA, 0x78, 0x16, 0xBF, 0x8F, 0x01, 0xCF, 0xEA] := by decide +kernel

/-- SP 800-38B, AES-128, the empty message. -/
theorem test_cmac_empty :
    cmac [0x2B, 0x7E, 0x15, 0x16, 0x28, 0xAE, 0xD2, 0xA6, 0xAB, 0xF7, 0x15, 0x88, 0x09, 0xCF, 0x4F, 0x3C] [] =
      [0xBB, 0x1D, 0x69, 0x29, 0xE9, 0x59, 0x37, 0x28, 0x7F, 0xA3, 0x7D, 0x12, 0x9B, 0x75, 0x67, 0x46] := by decide +kernel

/-- IEEE 802.3 FCS of "123456789" is the CRC-32 check value. -/
theorem test_crc32 : crc32 [0x31, 0x32, 0x33, 0x34, 0x35, 0x36, 0x37, 0x38, 0x39] = 0xCBF43926 := by decide +kernel

end Examples

/-! ### Witnesses -/

theorem witness_EmptyQueueTicks : ∃ s : State, s.pending = [] := ⟨State.reset, rfl⟩

theorem witness_PrepareEndsWhenComplete : ∃ s t : State, s.prepared = false ∧ step s = .next t :=
  ⟨State.reset, State.reset.idle, by decide +kernel, rfl⟩

namespace P01

def rn : State := State.reset.p R.CFG_STS.STATE 6
def up : State := { rn with pins := { vs := true, pwrGood := true, resetN := true } }
def tn (x : Tenon) (s : State) : State := { s with tenon := x }
def wa : PwrAcc := { req := 2, wr := true, addr := R.PWR_LD_CTL 23, be := 15, val := 0x40000000, granted := false, src := .port }
def ra : PwrAcc := { req := 2, wr := false, addr := R.PWR_LD_CTL 23, be := 15, val := 0, granted := false, src := .port }

theorem witness_TenonLinkEvents :
    (∃ (s : State), s.coreUp = true ∧ s.tenon.up = true) ∧
    (∃ (s : State), s.tenon.up = false ∧ s.tenon.lostState = false ∧ s.pins.vs = true) ∧
    (∃ (s : State) (ms : Nat), s.coreUp = true ∧ s.tenon.retraining = true ∧ s.tenon.lostState = true ∧ s.tenon.heldYield = 0) ∧
    (∃ (s : State), s.coreUp = true ∧ s.tenon.retraining = true) ∧
    (∃ (s : State) (x : PwrAcc) (rest : List PwrAcc), s.tenon.acc = x :: rest ∧ s.tenon.up = true ∧ x.src = .port ∧ x.wr = true) ∧
    (∃ (s : State) (x : PwrAcc) (rest : List PwrAcc), s.tenon.acc = x :: rest ∧ s.tenon.up = true ∧ x.src = .port ∧ x.wr = false ∧
        (rowOf x.addr).any (fun r => r.mwLen == 1) = true) ∧
    (∃ (s : State) (x : PwrAcc) (rest : List PwrAcc), s.tenon.acc = x :: rest ∧ x.src = .port ∧ x.wr = false) ∧
    (∃ (s : State) (u : State) (x : PwrAcc) (rest : List PwrAcc), s.tenon.acc = x :: rest ∧ x.src = .port ∧ x.wr = true ∧ u = { s
        with tenon := { s.tenon with acc := rest } }) :=
  ⟨⟨up, by decide +kernel⟩,
   ⟨tn { up := false } up, by decide +kernel⟩,
   ⟨tn { up := false, retraining := true, lostState := true } up, 70000, by decide +kernel⟩,
   ⟨tn { up := false, retraining := true } up, by decide +kernel⟩,
   ⟨tn { acc := [wa] } up, wa, [], by decide +kernel⟩,
   ⟨tn { acc := [ra] } up, ra, [], by decide +kernel⟩,
   ⟨tn { acc := [ra] } up, ra, [], by decide +kernel⟩,
   ⟨tn { acc := [wa] } up, tn {} up, wa, [], by decide +kernel, by decide +kernel, by decide +kernel, rfl⟩⟩

end P01

namespace P02

def rn : State := State.reset.p R.CFG_STS.STATE 6
def ul (r : Nat) : State := rn.setArmed r true
def pa (q a : Nat) : PwrAcc := { req := q, wr := false, addr := a, be := 15, val := 0, granted := false, src := .port }
def row (a : Nat) : Row := (rowOf a).getD ⟨"", 0, 0, 0, 0, 0, 0, 0, 0, 0, 0, 0, 0, 0, 0, false⟩

theorem witness_UnlockAndGuard :
    (∃ (s : State) (r : Nat), r ≤ 6) ∧
    (∃ (s : State) (r : Nat) (v : Word), r ≤ 6 ∧ v ≠ 0x5AFEC0DE) ∧
    (∃ (s : State) (r : Nat), (s.rq r).armed = true) ∧
    (∃ (s : State) (req : Nat) (a : Nat) (v : Word), guardedCmd a = true ∧ req ≠ reqDma ∧ s.barred req = false ∧ (s.rq req).armed
        = false ∧ s.loadRefused req a = false) ∧
    (∃ (s : State) (a : Nat) (v : Word), guardedCmd a = true) ∧
    (∃ (s : State) (req : Nat) (a : Nat) (v : Word), guardedCmd a = true ∧ req ≠ reqDma ∧ s.barred req = true ∧ s.loadRefused req
        a = false) ∧
    (∃ (s : State) (req : Nat) (a : Nat) (be : Nat) (v : Word), req ≤ 5 ∧ s.beforeRun = true ∧ 3 ≤ regionOf a ∧ regionOf a ≤ 18) :=
  ⟨⟨rn, 6, by decide +kernel⟩,
   ⟨rn, 0, 0, by decide +kernel⟩,
   ⟨ul 3, 3, by decide +kernel⟩,
   ⟨rn, 5, R.PWR_SLP_CMD, 0, by decide +kernel⟩,
   ⟨rn, R.KEY_CMD, 0, by decide +kernel⟩,
   ⟨(ul 5).p R.GLB_LOCK.CQP_GUARD 1, 5, R.GLB_SRST, 5, by decide +kernel⟩,
   ⟨State.reset.setArmed 5 true, 5, 0x3FFFFFF, 3, 0, by decide +kernel⟩⟩

theorem witness_UnmappedAccessLogged :
    (∃ (s : State) (r : Nat) (a : Nat) (be : Nat), rowOf a = none) ∧
    (∃ (s : State) (r : Nat) (a : Nat) (be : Nat), rowOf a = none ∧ s.loadRefused r a = false) :=
  ⟨⟨rn, 6, 0x3FFFFFC, 3, by decide +kernel⟩,
   ⟨rn, 6, 0x3FFFFFC, 3, by decide +kernel⟩⟩

theorem witness_RegisterWriteStores :
    (∃ (s : State) (req : Nat) (a : Nat) (v : Word) (r : Row), rowOf a = some r ∧ r.mwLen = 1 ∧ r.rwg = 0 ∧ r.w1c = 0 ∧ r.w1x = 0
        ∧ guardedCmd a = false ∧ a ≠ R.GLB_UNLOCK ∧ regionOf a ≠ 12 ∧ a ∉ passRegs ∧ Admitted s req a v ∧ s.ringShut req a = false
        ∧ s.ownAct cmplWriter req r a v true = none) ∧
    (∃ (s : State) (req : Nat) (a : Nat) (be : Nat) (v : Word) (r : Row), rowOf a = some r ∧ s.loadRefused req a = false ∧ be <
        15) :=
  ⟨⟨rn, 0, R.MEM_REC_AREA + 8, 0x1000010, row (R.MEM_REC_AREA + 8), by unfold Admitted; decide +kernel⟩,
   ⟨rn, 6, R.GLB_EVT_RT 0, 14, 0xFFFFFFFF, row (R.GLB_EVT_RT 0), by decide +kernel⟩⟩

theorem witness_MultiwordAccesses :
    (∃ (s : State) (req : Nat) (a : Nat) (r : Row), rowOf a = some r ∧ 1 < r.mwLen ∧ r.mwIdx = 0 ∧ req ≠ reqDma ∧ regionOf a ≠ 12) ∧
    (∃ (s : State) (req : Nat) (a : Nat) (v : Word) (r : Row) (held : Tab Word), rowOf a = some r ∧ r.mwIdx + 1 < r.mwLen ∧ r.rwg
        = 0 ∧ guardedCmd a = false ∧ req ≠ reqDma ∧ regionOf a ≠ 12 ∧ s.loadRefused req a = false ∧ a ≠ R.GLB_UNLOCK ∧ held =
        (match s.holding req (regionOf a) with | some h => if h.tag = a - 4 * r.mwIdx then h.words else [] | none => [])) ∧
    (∃ (s : State) (req : Nat) (a : Nat) (v : Word) (low : Word) (r : Row), rowOf a = some r ∧ r.mwIdx = 1 ∧ r.mwLen = 2 ∧ r.rwg =
        0 ∧ guardedCmd a = false ∧ req ≠ reqDma ∧ regionOf a ≠ 12 ∧ a ≠ R.GLB_UNLOCK ∧ Admitted s req a v ∧ 4 ≤ a ∧ low =
        (match s.holding req (regionOf a) with | some h => if h.tag = a - 4 then (h.words.find? 0).getD (s.peek req (a - 4)) else s.peek req (a - 4) | none => s.peek req (a - 4))
        ∧ s.keepsRes (a - 4) low = true ∧ (∀ u : State, (s.setHolding req (regionOf a) none).commitAct (a - 4) r u = none)) :=
  ⟨⟨rn, 6, R.MGT_MTIMECMP_LO 3, row (R.MGT_MTIMECMP_LO 3), by decide +kernel⟩,
   ⟨rn, 6, R.MGT_MTIMECMP_LO 3, 5, row (R.MGT_MTIMECMP_LO 3), [], by decide +kernel⟩,
   ⟨rn, 6, R.MGT_FL_BUF_LO + 4, 5, 0, row (R.MGT_FL_BUF_LO + 4),
       by (unfold Admitted; and_intros <;> first | exact (fun _ => rfl) | decide +kernel)⟩⟩

theorem witness_DmaMultiwordAccesses :
    (∃ (s : State) (a : Nat) (r : Row), rowOf a = some r ∧ 1 < r.mwLen ∧ regionOf a ≠ 12) ∧
    (∃ (s : State) (x : PwrAcc) (rest : List PwrAcc) (r : Row), s.tenon.acc = x :: rest ∧ s.tenon.up = true ∧ x.src = .port ∧ x.wr
        = false ∧ x.req = reqDma ∧ rowOf x.addr = some r ∧ 1 < r.mwLen) ∧
    (∃ (s : State) (a : Nat) (v : Word) (r : Row), rowOf a = some r ∧ 1 < r.mwLen) :=
  ⟨⟨rn, R.MGT_FL_BUF_LO + 4, row (R.MGT_FL_BUF_LO + 4), by decide +kernel⟩,
   ⟨{ rn with tenon := { acc := [pa 7 R.PWR_LD_UV_LO] } }, pa 7 R.PWR_LD_UV_LO, [], row R.PWR_LD_UV_LO, by decide +kernel⟩,
   ⟨rn, R.PWR_LD_UV_LO + 4, 5, row (R.PWR_LD_UV_LO + 4), by decide +kernel⟩⟩

theorem witness_ReadsChangeNothing :
    (∃ (s : State) (req : Nat) (a : Nat) (r : Row), rowOf a = some r ∧ regionOf a ≠ 12) ∧
    (∃ (s : State) (x : PwrAcc) (rest : List PwrAcc) (r : Row), s.tenon.acc = x :: rest ∧ s.tenon.up = true ∧ x.src = .port ∧ x.wr
        = false ∧ rowOf x.addr = some r) :=
  ⟨⟨rn, 6, R.MGT_MTIMECMP_LO 3, row (R.MGT_MTIMECMP_LO 3), by decide +kernel⟩,
   ⟨{ rn with tenon := { acc := [pa 2 (R.PWR_LD_STS 23)] } }, pa 2 (R.PWR_LD_STS 23), [], row (R.PWR_LD_STS 23),
       by decide +kernel⟩⟩

theorem witness_ClearAndSoftReset :
    (∃ (s : State) (req : Nat) (n : Nat), n ≤ 18 ∧ Admitted s req R.GLB_CTR_CLR (W n) ∧ s.stat R.GLB_CTR_CLR ≠ statBusy) ∧
    (∃ (s : State) (req : Nat) (n : Nat), 1 ≤ n ∧ n ≤ 18 ∧ Unlocked s req R.GLB_SRST (W n) ∧ s.stat R.GLB_SRST ≠ statBusy) ∧
    (∃ (s : State) (req : Nat) (n : Nat), (n = 2 ∨ n = 18) ∧ Unlocked s req R.GLB_SRST (W n) ∧ s.stat R.GLB_SRST ≠ statBusy) ∧
    (∃ (s : State) (req : Nat) (n : Nat), n < 32 ∧ s.barred req = false ∧ (s.rq req).armed = false ∧ req ≠ reqDma) :=
  ⟨⟨rn.bump R.MGT_RESET_LO, 0, 17, by unfold Admitted; decide +kernel⟩,
   ⟨ul 1, 1, 18, by unfold Unlocked Admitted; decide +kernel⟩,
   ⟨ul 1, 1, 18, by unfold Unlocked Admitted; decide +kernel⟩,
   ⟨rn, 6, 31, by decide +kernel⟩⟩

theorem witness_WriteOnceFields :
    (∃ (s : State) (req : Nat) (a : Nat) (v : Word) (m : Word), (a = R.GLB_LOCK ∧ m = 7 ∧ s.vault.locks % 8 = 0 ∨ a =
        R.KEY_TAMP_EN ∧ m = 31) ∧ Admitted s req a v ∧ a ∉ s.once) ∧
    (∃ (s : State) (req : Nat) (a : Nat) (v : Word), (a = R.GLB_LOCK ∨ a = R.KEY_TAMP_EN) ∧ Admitted s req a v ∧ a ∈ s.once) ∧
    (∃ (s : State), s.pins.pwrGood = true) :=
  ⟨⟨rn, 2, R.KEY_TAMP_EN, 0x15, 31, by unfold Admitted; decide +kernel⟩,
   ⟨{ rn with once := [R.GLB_LOCK] }, 6, R.GLB_LOCK, 7, by unfold Admitted; decide +kernel⟩,
   ⟨{ rn with pins := { vs := true, pwrGood := true, resetN := true }, once := [R.GLB_LOCK] }, by decide +kernel⟩⟩

end P02

namespace P03

def rn : State := State.reset.p R.CFG_STS.STATE 6
def pv (s : State) : State := { s.p R.KEY_STS.PROV 1 with vault := { s.vault with rs := some (List.replicate 32 9) } }
def up (s : State) : State := { s with pins := { vs := true, pwrGood := true, resetN := true } }
def ld (l : Loader) (s : State) : State := { s with loader := l }
def ap (r : Rec) : State := pv (ld { active := true, cand := some 0, recs := [⟨0, 0, r⟩] } (State.reset.p R.CFG_STS.STATE 4))
def body : List Byte := leBytes 2 1 ++ leBytes 2 0 ++ leBytes 4 4 ++ leBytes 4 1 ++ leBytes 4 0
def hd : List Byte := cfgMagic ++ leBytes 2 1 ++ leBytes 2 128 ++ leBytes 4 5 ++ leBytes 4 16 ++ leBytes 4 1 ++ leBytes 4 0 ++ leBytes 8 0 ++
  List.replicate 16 7 ++ List.replicate 12 3 ++ List.replicate 4 0 ++ List.replicate 32 0 ++ leBytes 2 0x9256 ++ [0, 0] ++ leBytes 4 0 ++ List.replicate 24 0
def key : List Byte := cfgKey (List.replicate 32 9) (slice hd 0x20 16)
def ct : List Byte := gcmCrypt key (slice hd 0x30 12) body
def img : List Byte := hd ++ ct ++ gcmTag key (slice hd 0x30 12) hd ct
def fl (s : State) : State := { s with flash := img.zipIdx.map (fun p => (65536 + p.2, p.1)) }
def bodyU : List Byte := leBytes 2 0x77 ++ leBytes 2 1 ++ leBytes 4 0 ++ leBytes 2 1 ++ leBytes 2 0 ++ leBytes 4 4 ++ leBytes 4 2 ++ leBytes 12 0
def bodyB : List Byte := leBytes 2 0x77 ++ leBytes 2 1 ++ leBytes 4 0 ++ leBytes 2 1 ++ leBytes 2 0 ++ leBytes 4 3 ++ leBytes 16 0
def hdF (f : Nat) : List Byte := cfgMagic ++ leBytes 2 1 ++ leBytes 2 128 ++ leBytes 4 5 ++ leBytes 4 32 ++ leBytes 4 2 ++ leBytes 4 f ++ leBytes 8 0 ++
  List.replicate 96 0
def dir : Option (List (Nat × Nat × Nat)) := some [(1, 65536, 65536), (2, 131072, 65536)]
def vf (f : Nat) (b : List Byte) : State := ld { active := true, dirRead := true, dir := dir, taken := 1, order := [1], cand := some 0, header := hdF f, bodyRead := true, plain := b } (pv rn)

theorem witness_PowerAndResetEvents :
    (∃ (s : State) (bad : List Nat), s.pins.vs = true ∧ s.coreUp = false) ∧
    (∃ (s : State), s.pins.resetN = true) ∧
    (∃ (s : State), s.pins.pwrGood = true) ∧
    (∃ (s : State) (ms : Nat), s.coreUp = true ∧ s.loader.active = true ∧ s.loader.pllLocked = false ∧ s.loader.reload = false ∧
        s.tenon.lostState = false ∧ s.tenon.heldYield = 0) :=
  ⟨⟨{ State.reset with pins := { vs := true } }, [], by decide +kernel⟩,
   ⟨up rn, by decide +kernel⟩,
   ⟨(up rn).p R.PWR_SUP_STS.SAVE 1, by decide +kernel⟩,
   ⟨up (ld { active := true } State.reset), 70000, by decide +kernel⟩⟩

theorem witness_LoaderAndCommit :
    (∃ (s : State), s.loader.active = true ∧ s.loader.pllLocked = true ∧ s.loader.cand = none ∧ s.loader.taken = 0) ∧
    (∃ (s : State) (ok : Bool), s.coreUp = true ∧ s.loader.selfTest = false ∧ s.g R.REP_REC_N.N = 0 ∧ (∀ k, k < 256 → s.rd
        (R.REP_FUSE_W0 k) = 0 ∧ s.rd (R.REP_FUSE_W1 k) = 0)) ∧
    (∃ (s : State) (k : Nat) (rest : List Nat) (ofs : Nat) (size : Nat) (h : List Byte), s.loader.active = true ∧ s.loader.dirRead
        = true ∧ s.loader.cand = none ∧ s.loader.taken ≠ 0 ∧ s.loader.order = k :: rest ∧ s.cfgSlot k = some (ofs, size) ∧ h =
        s.flashBytes ofs 128 ∧ s.headerFault size h (s.flashBytes (ofs + 144 + hdBodyLen h) (min (hdSigLen h) 5392)) = none) ∧
    (∃ (s : State) (k : Nat) (ofs : Nat) (size : Nat) (n : Nat) (rs : List Byte) (h : List Byte) (key : List Byte), s.loader.cand
        = some k ∧ s.loader.header ≠ [] ∧ s.loader.bodyRead = false ∧ s.cfgSlot k = some (ofs, size) ∧ s.rootKey = some rs ∧ h =
        s.loader.header ∧ n = hdBodyLen h ∧ key = cfgKey rs (slice h 0x20 16) ∧ gcmTag key (slice h 0x30 12) h (s.flashBytes (ofs
        + 128) n) = s.flashBytes (ofs + 128 + n) 16) ∧
    (∃ (s : State) (k : Nat) (ofs : Nat) (size : Nat) (h : List Byte) (recs : List RecAt), s.loader.cand = some k ∧
        s.loader.bodyRead = true ∧ s.loader.verified = false ∧ s.cfgSlot k = some (ofs, size) ∧ h = s.loader.header ∧ recs =
        parseRecs (leAt h 0x10 4) (hdBodyLen h / 8 + 1) 0 0 s.loader.plain ∧ sigsGood (hdFlags h) (sha384 (h ++ s.loader.cipher))
        (s.flashBytes (ofs + 144 + hdBodyLen h) (hdSigLen h)) = true ∧ (∀ r ∈ recs, r.body ≠ .bad ∧ ∀ ty, r.body ≠ .unknown ty
        true)) ∧
    (∃ (s : State), s.loader.selfTest = true ∧ s.loader.verified = true ∧ s.g R.CFG_STS.STATE = 3) ∧
    (∃ (s : State), s.g R.CFG_STS.STATE = 5 ∧ s.loader.committed = false ∧ s.cfgMdio = false) ∧
    (∃ (s : State) (k : Nat), s.loader.cand = some k ∧ s.g R.CFG_STS.STATE = 5 ∧ s.loader.committed = true) ∧
    (∃ (s : State) (req : Nat), s.g R.CFG_STS.STATE = 7 ∧ Admitted s req R.CFG_CMD 1 ∧ s.stat R.CFG_CMD ≠ statBusy) ∧
    (∃ (s : State) (req : Nat) (e : Nat), Unlocked s req R.CFG_FLOOR (withField (s.peek req R.CFG_FLOOR) 0 8 e) ∧ e < 256) ∧
    (∃ (s : State) (e : Nat), s.loader.fusing = some e) :=
  ⟨⟨ld { active := true, pllLocked := true } rn, by decide +kernel⟩,
   ⟨up rn, true, by decide +kernel⟩,
   ⟨fl (ld { active := true, dirRead := true, dir := dir, taken := 1, order := [0, 1] } (pv rn)), 0, [1], 65536, 65536, hd,
       by decide +kernel⟩,
   ⟨fl (ld { active := true, dirRead := true, dir := dir, taken := 1, order := [1], cand := some 0, header := hd } (pv rn)), 0,
       65536, 65536, 16, List.replicate 32 9, hd, key, by decide +kernel⟩,
   ⟨fl (ld { active := true, dirRead := true, dir := dir, taken := 1, order := [1], cand := some 0, header := hd, bodyRead :=
       true, plain := body } (pv rn)), 0, 65536, 65536, hd, [⟨0, 0, .endRec 1⟩],
       by (and_intros <;> first | decide +kernel | simp)⟩,
   ⟨ld { selfTest := true, verified := true } (State.reset.p R.CFG_STS.STATE 3), by decide +kernel⟩,
   ⟨ld { active := true } (State.reset.p R.CFG_STS.STATE 5), by decide +kernel⟩,
   ⟨ld { active := true, cand := some 1, committed := true, header := [1] } (State.reset.p R.CFG_STS.STATE 5), 1,
       by decide +kernel⟩,
   ⟨State.reset.p R.CFG_STS.STATE 7, 0, by unfold Admitted; decide +kernel⟩,
   ⟨rn.setArmed 0 true, 0, 255, by unfold Unlocked Admitted; decide +kernel⟩,
   ⟨ld { fusing := some 7 } rn, 7, by decide +kernel⟩⟩

def kbl : State :=
  { ld { wait := .blob 5, recs := [⟨0, 0, .keyblob 5 []⟩] } rn with
    grit := { running := [(3, { level := 4, user := .vault }), (20, { level := 4, user := .vaultKcv })] } }

theorem witness_LoaderRecords :
    (∃ (s : State) (l : List (Nat × Word)), s.rootGone = false ∧ s.nextRec = some (.reg32 l)) ∧
    (∃ (s : State) (off : Nat) (vals : List Word), s.rootGone = false ∧ s.nextRec = some (.regblk off vals)) ∧
    (∃ (s : State) (off : Nat) (m : Word) (v : Word) (us : Nat), s.rootGone = false ∧ s.nextRec = some (.regpoll off m v us)) ∧
    (∃ (s : State) (us : Nat), s.rootGone = false ∧ s.nextRec = some (.regwait us)) ∧
    (∃ (s : State) (tb : Nat) (first : Nat) (count : Nat) (ws : List Word), s.rootGone = false ∧ s.nextRec = some (.tblload tb
        first count ws) ∧ s.tblBusy = false) ∧
    (∃ (s : State) (slot : Nat) (b : List Byte), s.rootGone = false ∧ s.nextRec = some (.keyblob slot b) ∧ s.vault.cmd = none) ∧
    (∃ (s : State) (l : List (List Byte)), s.rootGone = false ∧ s.nextRec = some (.mdio l)) ∧
    (∃ (s : State), s.rootGone = false ∧ s.nextRec = some .note) ∧
    (∃ (s : State) (n : Nat), s.rootGone = false ∧ s.nextRec = some (.endRec n)) ∧
    (∃ (s : State) (off : Nat) (m : Word) (v : Word), s.loader.wait = .poll off m v ∧ (rowOf off).isSome = true ∧ regionOf off ≠
        12 ∧ (s.busRead reqCfg off).2.1 &&& m = v) ∧
    (∃ (s : State) (off : Nat) (m : Word) (v : Word), s.loader.wait = .poll off m v ∧ (rowOf off).isSome = true ∧ regionOf off ≠
        12 ∧ (s.busRead reqCfg off).2.1 &&& m ≠ v) ∧
    (∃ (s : State), s.loader.wait = .time) ∧
    (∃ (s : State) (slot : Nat) (slot' : Nat) (core : Nat) (twin : Nat) (b : List Byte) (j : Job) (d : Bool) (r : State × Nat),
        s.loader.wait = .blob slot ∧ s.handRec = some (.keyblob slot' b) ∧ s.vaultCores = some (core, j, twin) ∧ r = ((s.endJob
        core j).freeCore twin).keyBlob slot b d) :=
  ⟨⟨ap (.reg32 [(R.MEM_REC_AREA, 16)]), [(R.MEM_REC_AREA, 16)], by decide +kernel⟩,
   ⟨ap (.regblk R.MEM_REC_AREA [16, 32]), R.MEM_REC_AREA, [16, 32], by decide +kernel⟩,
   ⟨ap (.regpoll R.MEM_STS 1 1 5), R.MEM_STS, 1, 1, 5, by decide +kernel⟩,
   ⟨ap (.regwait 5), 5, by decide +kernel⟩,
   ⟨ap (.tblload 0 0 1 [1, 2, 3, 4]), 0, 0, 1, [1, 2, 3, 4], by decide +kernel⟩,
   ⟨ap (.keyblob 4095 []), 4095, [], by decide +kernel⟩,
   ⟨ap (.mdio [[1, 45, 31, 31, 1, 0, 2, 0]]), [[1, 45, 31, 31, 1, 0, 2, 0]], by decide +kernel⟩,
   ⟨ap .note, by decide +kernel⟩,
   ⟨ap (.endRec 1), 1, by decide +kernel⟩,
   ⟨ld { wait := .poll R.BRG_LINK 0 0 } rn, R.BRG_LINK, 0, 0, by decide +kernel⟩,
   ⟨ld { wait := .poll R.BRG_LINK 0 1 } rn, R.BRG_LINK, 0, 1, by decide +kernel⟩,
   ⟨ld { wait := .time } rn, by decide +kernel⟩,
   ⟨kbl, 5, 5, 3, 20, [], { level := 4, user := .vault }, false, ((kbl.endJob 3 { level := 4, user := .vault }).freeCore
       20).keyBlob 5 [] false, by decide +kernel, by decide +kernel, by decide +kernel, rfl⟩⟩

theorem witness_UnknownRecords :
    (∃ (s : State) (ty : Nat) (c : Bool), s.rootGone = false ∧ s.nextRec = some (.unknown ty c) ∧ s.saving = false) ∧
    (∃ (s : State) (k : Nat) (ofs : Nat) (size : Nat) (h : List Byte) (recs : List RecAt) (r : RecAt), s.loader.cand = some k ∧
        s.loader.bodyRead = true ∧ s.loader.verified = false ∧ s.cfgSlot k = some (ofs, size) ∧ h = s.loader.header ∧ recs =
        parseRecs (leAt h 0x10 4) (hdBodyLen h / 8 + 1) 0 0 s.loader.plain ∧ recs.find?
        (fun x => match x.body with | .unknown _ c => c | _ => false) = some r ∧ sigsGood (hdFlags h) (sha384 (h ++
        s.loader.cipher)) (s.flashBytes (ofs + 144 + hdBodyLen h) (hdSigLen h)) = true ∧ (∀ x ∈ recs, x.body ≠ .bad)) ∧
    (∃ (s : State) (k : Nat) (ofs : Nat) (size : Nat) (h : List Byte) (recs : List RecAt) (r : RecAt) (x : RecAt), s.loader.cand =
        some k ∧ s.loader.bodyRead = true ∧ s.loader.verified = false ∧ s.cfgSlot k = some (ofs, size) ∧ h = s.loader.header ∧
        recs = parseRecs (leAt h 0x10 4) (hdBodyLen h / 8 + 1) 0 0 s.loader.plain ∧ recs.find?
        (fun x => match x.body with | .unknown _ c => c | _ => false) = some r ∧ sigsGood (hdFlags h) (sha384 (h ++
        s.loader.cipher)) (s.flashBytes (ofs + 144 + hdBodyLen h) (hdSigLen h)) = true ∧ recs.find? (fun y => y.body == .bad) =
        some x) ∧
    (∃ (s : State) (k : Nat) (ofs : Nat) (size : Nat) (h : List Byte) (recs : List RecAt) (r : RecAt), s.loader.cand = some k ∧
        s.loader.bodyRead = true ∧ s.loader.verified = false ∧ s.cfgSlot k = some (ofs, size) ∧ h = s.loader.header ∧ recs =
        parseRecs (leAt h 0x10 4) (hdBodyLen h / 8 + 1) 0 0 s.loader.plain ∧ recs.find?
        (fun x => match x.body with | .unknown _ c => c | _ => false) = some r ∧ sigsGood (hdFlags h) (sha384 (h ++
        s.loader.cipher)) (s.flashBytes (ofs + 144 + hdBodyLen h) (hdSigLen h)) = false) :=
  ⟨⟨ap (.unknown 0x77 false), 0x77, false, by decide +kernel⟩,
   ⟨vf 0 bodyU, 0, 65536, 65536, hdF 0, [⟨0, 0, .unknown 0x77 true⟩, ⟨1, 8, .endRec 2⟩], ⟨0, 0, .unknown 0x77 true⟩,
       by decide +kernel⟩,
   ⟨vf 0 bodyB, 0, 65536, 65536, hdF 0, [⟨0, 0, .unknown 0x77 true⟩, ⟨1, 8, .bad⟩], ⟨0, 0, .unknown 0x77 true⟩, ⟨1, 8, .bad⟩,
       by decide +kernel⟩,
   ⟨vf 1 bodyU, 0, 65536, 65536, hdF 1, [⟨0, 0, .unknown 0x77 true⟩, ⟨1, 8, .endRec 2⟩], ⟨0, 0, .unknown 0x77 true⟩,
       by decide +kernel⟩⟩

end P03

namespace P04

def rn : State := State.reset.p R.CFG_STS.STATE 6
def po (p : Nat) (x : Port) (s : State) : State := s.modPort p (fun _ => x)
def upp (p : Nat) : State := po p { st := .up, trained := true } rn
def mm (p v : Nat) (x : Port) : State := (po p x rn).p (R.MAC_MM_CFG.EN p) 1 |>.p (R.MAC_MM_STS.VSTATE p) v
def fr : List Byte := let b := List.replicate 60 2; b ++ fcsOf b
def fr140 : List Byte := let b := List.replicate 140 2; b ++ fcsOf b
def body (b : List Byte) : List Byte := b.take (b.length - 4)
def mdi (m : Nat) (d : Mdio) (s : State) : State := s.modMdio m (fun _ => d)
def fwd : State := (((((({ upp 0 with pins := { forwarding := true } }).p (R.MAC_STS.LINK 3) 1).modPort 3 (fun q => { q with st := .up }))).setEnt 1 1 ⟨0x8FFFFFFF, 0x0FFFFFFF, 0x00000000, 5⟩).setEnt 0 5 ⟨0x8FFFFFFF, 0, 0, 0⟩).p (R.SW_LIM.MAX 0) 65535
def cls (b : List Byte) : State × Option Frame × Option Frame := (fwd.setRx 0 none).classify 0 0 ((fwd.rxOpen 0 b).asFrame 0 (body b))
def clsF (b : List Byte) : Frame := (cls b).2.1.getD { bytes := [] }
def acc : MdioAcc := { cl45 := true, write := false, prt := 31, dev := 31, reg := 65535, data := 0 }

theorem witness_PortAndMdioCommands :
    (∃ (s : State) (req : Nat) (p : Nat) (v : Word), p < 24 ∧ Admitted s req (R.MAC_CFG p) (v ||| 0x80000000) ∧ s.on (R.MAC_CFG.EN
        p) = false ∧ (s.port p).closing = false ∧ s.deferred req = false ∧ speedOk p (fieldOf (v ||| 0x80000000) (R.MAC_CFG.SPEED
        p).lo (R.MAC_CFG.SPEED p).wd) (fieldOf (v ||| 0x80000000) (R.MAC_CFG.FEC p).lo (R.MAC_CFG.FEC p).wd) = true) ∧
    (∃ (s : State) (req : Nat) (p : Nat) (v : Word), p < 24 ∧ Admitted s req (R.MAC_CFG p) (v &&& 0x7FFFFFFF) ∧ s.enOn
        (R.MAC_CFG.EN p) = true ∧ (s.port p).closing = false ∧ (s.port p).st ≠ .up) ∧
    (∃ (s : State) (p : Nat), p < 24 ∧ (s.port p).st ≠ .disabled) ∧
    (∃ (s : State) (p : Nat), p < 24 ∧ (s.port p).trained = true) ∧
    (∃ (s : State) (p : Nat), p < 24 ∧ s.g (R.MAC_STS.PCS_LOCK p) = 1 ∧ (s.port p).st ≠ .up) ∧
    (∃ (s : State) (req : Nat) (m : Nat) (v : Word), m < 2 ∧ Admitted s req (R.MAC_MDIO_CMD m) (withField v 28 2 1) ∧ s.stat
        (R.MAC_MDIO_CMD m) ≠ statBusy) ∧
    (∃ (s : State) (req : Nat) (m : Nat) (v : Word), m < 2 ∧ Admitted s req (R.MAC_MDIO_CMD m) (withField v 28 2 2) ∧ s.stat
        (R.MAC_MDIO_CMD m) ≠ statBusy) ∧
    (∃ (s : State) (m : Nat) (data : Nat) (a : MdioAcc), m < 2 ∧ (s.mdioM m).started = true ∧ (s.mdioM m).writing = false ∧
        (s.mdioM m).cmd = some a ∧ a.write = false) ∧
    (∃ (s : State) (m : Nat) (p : Nat) (data : Nat), m < 2 ∧ s.polling m = true ∧ s.pollNow m = some p) ∧
    (∃ (s : State) (m : Nat), m < 2) :=
  ⟨⟨rn, 0, 23, 0x02000000, by unfold Admitted; decide +kernel⟩,
   ⟨(po 23 { st := .down } rn).p (R.MAC_CFG.EN 23) 1, 0, 23, 0, by unfold Admitted; decide +kernel⟩,
   ⟨po 23 { st := .down } rn, 23, by decide +kernel⟩,
   ⟨po 23 { st := .down, trained := true } rn, 23, by decide +kernel⟩,
   ⟨(po 23 { st := .down } rn).p (R.MAC_STS.PCS_LOCK 23) 1, 23, by decide +kernel⟩,
   ⟨rn, 0, 1, 0x0FFEFFFF, by unfold Admitted; decide +kernel⟩,
   ⟨rn, 0, 1, 0x0FFE0000, by unfold Admitted; decide +kernel⟩,
   ⟨mdi 1 { started := true, cmd := some acc } rn, 1, 65535, acc, by decide +kernel⟩,
   ⟨((po 23 { st := .down } rn).p (R.MAC_CFG.EN 23) 1).p (R.MAC_PHY.POLL_EN 23) 1 |>.p (R.MAC_PHY.BIT 23) 2, 1, 23, 4,
       by decide +kernel⟩,
   ⟨mdi 1 { gap := true } rn, 1, by decide +kernel⟩⟩

theorem witness_FrameReception :
    (∃ (s : State) (p : Nat) (b : List Byte), p < 24 ∧ s.portUp p = true ∧ s.rx p = none ∧ b.length < 64 ∧ b ≠ [] ∧ s.on
        (R.MAC_CFG.ERR_DEL p) = false ∧ s.saving = false) ∧
    (∃ (s : State) (p : Nat), p < 24 ∧ (s.port p).st ≠ .disabled ∧ (s.port p).fec ≠ 0 ∧ s.saving = false) ∧
    (∃ (s : State) (p : Nat) (b : List Byte), p < 24 ∧ s.portUp p = true ∧ s.rx p = none ∧ 64 ≤ b.length ∧ b.length ≤ s.maxFrame p
        ∧ fcsGood b = true ∧ isControl b = false ∧ frameDa b ≠ [0x01, 0x80, 0xC2, 0x00, 0x00, 0x0E] ∧ isGroup (frameDa b) = false
        ∧ s.pins.forwarding = false ∧ s.saving = false) ∧
    (∃ (s : State) (u : State) (p : Nat) (id : Nat) (b : List Byte) (body : List Byte) (g : State × Option Frame × Option Frame)
        (f : Frame) (a : State × Option Nat), p < 24 ∧ s.portUp p = true ∧ s.rx p = none ∧ 64 ≤ b.length ∧ b.length < 128 ∧
        b.length ≤ s.maxFrame p ∧ fcsGood b = true ∧ isControl b = false ∧ frameDa b ≠ [0x01, 0x80, 0xC2, 0x00, 0x00, 0x0E] ∧
        isGroup (frameDa b) = false ∧ s.pins.forwarding = true ∧ body = b.take (b.length - 4) ∧ g = (s.setRx p none).classify p 0
        ((s.rxOpen p b).asFrame p body) ∧ g.2.1 = some f ∧ u = (g.1.bump (R.MAC_RX_FRAMES_LO p)).bumpBy (R.MAC_RX_OCTETS_LO p)
        b.length ∧ a = (match g.2.2 with | some l => u.learnRequest l | none => u).admitFrame p (cellsFor (s.maxFrame p)) { f with
        bytes := body, size := body.length + 4 } ∧ a.2 = some id) ∧
    (∃ (s : State) (u : State) (p : Nat) (id : Nat) (b : List Byte) (body : List Byte) (g : State × Option Frame × Option Frame)
        (f : Frame) (a : State × Option Nat), p < 24 ∧ s.portUp p = true ∧ s.rx p = none ∧ 128 ≤ b.length ∧ b.length ≤ s.maxFrame
        p ∧ fcsGood b = true ∧ isControl b = false ∧ frameDa b ≠ [0x01, 0x80, 0xC2, 0x00, 0x00, 0x0E] ∧ isGroup (frameDa b) =
        false ∧ s.pins.forwarding = true ∧ body = b.take (b.length - 4) ∧ g = (s.setRx p none).classify p 0 ((s.rxOpen p
        b).asFrame p body) ∧ g.2.1 = some f ∧ a = g.1.admitFrame p (cellsFor (s.maxFrame p)) { f with bytes := body, size :=
        body.length + 4 } ∧ a.2 = some id ∧ u = ((a.1.sduCheck id b.length).bump (R.MAC_RX_FRAMES_LO p)).bumpBy
        (R.MAC_RX_OCTETS_LO p) b.length) :=
  ⟨⟨upp 23, 23, List.replicate 63 2, by decide +kernel⟩,
   ⟨po 23 { st := .up, fec := 1 } rn, 23, by decide +kernel⟩,
   ⟨upp 23, 23, fr, by decide +kernel⟩,
   ⟨fwd, ((cls fr).1.bump (R.MAC_RX_FRAMES_LO 0)).bumpBy (R.MAC_RX_OCTETS_LO 0) fr.length, 0, 0, fr, body fr, cls fr, clsF fr, _,
       by (refine ⟨?_, ?_, ?_, ?_, ?_, ?_, ?_, ?_, ?_, ?_, ?_, rfl, rfl, ?_, rfl, rfl, ?_⟩ <;> decide +kernel)⟩,
   ⟨fwd, _, 0, 0, fr140, body fr140, cls fr140, clsF fr140, (cls fr140).1.admitFrame 0 (cellsFor (fwd.maxFrame 0)) { clsF fr140
       with bytes := body fr140, size := (body fr140).length + 4 },
       by (refine ⟨?_, ?_, ?_, ?_, ?_, ?_, ?_, ?_, ?_, ?_, rfl, rfl, ?_, rfl, ?_, rfl⟩ <;> decide +kernel)⟩⟩

theorem witness_MergeAndFlowControl :
    (∃ (s : State) (req : Nat) (p : Nat) (v : Word), p < 24 ∧ Admitted s req (R.MAC_MM_CFG p) (v ||| 0x80000000) ∧ s.on
        (R.MAC_MM_CFG.EN p) = false ∧ bit (v ||| 0x80000000).toNat 30 = false ∧ s.portUp p = true) ∧
    (∃ (s : State) (p : Nat), p < 24 ∧ s.g (R.MAC_MM_STS.VSTATE p) = mmVerifying ∧ 3 ≤ (s.port p).attempt) ∧
    (∃ (s : State) (p : Nat), p < 24 ∧ s.g (R.MAC_MM_STS.VSTATE p) = mmVerifying ∧ (s.port p).attempt < 3) ∧
    (∃ (s : State) (p : Nat), p < 24 ∧ s.portUp p = true ∧ s.on (R.MAC_MM_CFG.EN p) = true ∧ s.g (R.MAC_MM_STS.VSTATE p) =
        mmVerifying) ∧
    (∃ (s : State) (p : Nat), p < 24 ∧ s.portUp p = true ∧ s.on (R.MAC_MM_CFG.EN p) = true) ∧
    (∃ (s : State) (p : Nat) (n : Nat) (b : List Byte), p < 24 ∧ s.portUp p = true ∧ s.on (R.MAC_MM_CFG.EN p) = true ∧ (s.port
        p).asm = none ∧ 60 ≤ b.length ∧ (b.length < 64 ∨ s.pins.forwarding = false)) ∧
    (∃ (s : State) (p : Nat) (q : Nat), p < 24 ∧ q < 65536 ∧ s.portUp p = true ∧ s.fcMode p = 1 ∧ s.on (R.MAC_FC_CFG.RX_EN p) =
        true ∧ s.saving = false) ∧
    (∃ (s : State) (p : Nat) (q : Nat), p < 24 ∧ q < 65536 ∧ q ≠ 0 ∧ s.portUp p = true ∧ s.fcMode p = 2 ∧ s.on (R.MAC_FC_CFG.RX_EN
        p) = true ∧ bit (s.g (R.MAC_FC_CFG.PFC_IGN p)) 0 = false ∧ s.saving = false) ∧
    (∃ (s : State) (p : Nat), p < 24) ∧
    (∃ (s : State) (p : Nat) (k : Nat), p < 24 ∧ k < 8) ∧
    (∃ (s : State) (p : Nat), p < 24 ∧ (s.port p).xoffSent ≠ 0 ∧ s.fcMode p = 1 ∧ s.on (R.MAC_FC_CFG.TX_EN p) = true ∧ s.g
        (R.MAC_FC_TIME.QUANTA p) ≠ 0 ∧ s.portUp p = true ∧ s.saving = false) :=
  ⟨⟨upp 23, 0, 23, 0, by unfold Admitted; decide +kernel⟩,
   ⟨mm 23 mmVerifying { st := .up, attempt := 3 }, 23, by decide +kernel⟩,
   ⟨mm 23 mmVerifying { st := .up, attempt := 2 }, 23, by decide +kernel⟩,
   ⟨mm 23 mmVerifying { st := .up, attempt := 2 }, 23, by decide +kernel⟩,
   ⟨mm 23 mmVerifying { st := .up }, 23, by decide +kernel⟩,
   ⟨mm 23 mmSucceeded { st := .up }, 23, 3, List.replicate 60 0, by decide +kernel⟩,
   ⟨(upp 23).p (R.MAC_FC_CFG.RX_EN 23) 1 |>.p (R.MAC_FC_CFG.MODE 23) 1, 23, 65535, by decide +kernel⟩,
   ⟨(upp 23).p (R.MAC_FC_CFG.RX_EN 23) 1 |>.p (R.MAC_FC_CFG.MODE 23) 2, 23, 65535, by decide +kernel⟩,
   ⟨po 23 { st := .up, pause := 5 } rn, 23, by decide +kernel⟩,
   ⟨(po 23 { st := .up, pfc := [(7, 5)] } rn).p (R.MAC_STS.PFC_PAUSED 23) 255, 23, 7, by decide +kernel⟩,
   ⟨((po 23 { st := .up, xoffSent := 1 } rn).p (R.MAC_FC_CFG.TX_EN 23) 1).p (R.MAC_FC_CFG.MODE 23) 1 |>.p (R.MAC_FC_TIME.QUANTA
       23) 65535, 23, by decide +kernel⟩⟩

end P04

namespace P05



theorem witness_TableLookups :
    (∃ (s : State) (req : Nat) (c : Nat) (table : Nat) (i : Nat), c < 7 ∧ table < 4 ∧ i < 16384 ∧ Admitted s req (R.TBL_CMD c)
        (tblWord 1 table i) ∧ s.stat (R.TBL_CMD c) ≠ statBusy ∧ s.tblBusy = false ∧ indexOk table i = true ∧ s.entBad table i = 0) ∧
    (∃ (s : State) (req : Nat) (c : Nat) (i : Nat), c < 7 ∧ Admitted s req (R.TBL_CMD c) (tblWord 6 3 0) ∧ s.stat (R.TBL_CMD c) ≠
        statBusy ∧ s.tblBusy = false ∧ s.findKey (s.dataOf c).key = some i ∧ (∀ j ∈ s.waysOf (s.dataOf c).key, s.entBad 3 j = 0)) ∧
    (∃ (s : State) (req : Nat) (c : Nat) (table : Nat) (i : Nat), c < 7 ∧ table < 4 ∧ i < 16384 ∧ Admitted s req (R.TBL_CMD c)
        (tblWord 3 table i) ∧ s.stat (R.TBL_CMD c) ≠ statBusy ∧ s.tblBusy = false ∧ indexOk table i = true ∧ (s.ent table i).valid
        table = true) ∧
    (∃ (s : State) (req : Nat) (c : Nat) (i : Nat), c < 7 ∧ Admitted s req (R.TBL_CMD c) (tblWord 5 3 0) ∧ s.stat (R.TBL_CMD c) ≠
        statBusy ∧ s.tblBusy = false ∧ s.findKey (s.dataOf c).key = some i ∧ (∀ j ∈ s.waysOf (s.dataOf c).key, s.entBad 3 j = 0)) ∧
    (∃ (s : State) (req : Nat) (c : Nat), c < 7 ∧ Admitted s req (R.TBL_CMD c) (tblWord 7 3 0) ∧ s.stat (R.TBL_CMD c) ≠ statBusy ∧
        s.tblBusy = false) :=
  ⟨⟨((State.reset.p R.CFG_STS.STATE 6).setEnt 1 7 (⟨0x11223344, 0x00015566, 0x80800000, 0⟩ : Ent)), 0, 3, 1, 7,
       by unfold Admitted; decide +kernel⟩,
   ⟨(((State.reset.p R.CFG_STS.STATE 6).putData 2 (⟨0x11223344, 0x00015566, 0x80800000, 0⟩ : Ent)).setEnt 3 ((State.reset.buckets
       ((⟨0x11223344, 0x00015566, 0x80800000, 0⟩ : Ent)).key).1 * 4) (⟨0x11223344, 0x00015566, 0x80800000, 0⟩ : Ent)), 0, 2,
       ((State.reset.buckets ((⟨0x11223344, 0x00015566, 0x80800000, 0⟩ : Ent)).key).1 * 4), by unfold Admitted; decide +kernel⟩,
   ⟨((State.reset.p R.CFG_STS.STATE 6).setEnt 1 7 ⟨0x80000000,1,2,3⟩), 0, 3, 1, 7, by unfold Admitted; decide +kernel⟩,
   ⟨((State.reset.p R.CFG_STS.STATE 6).putData 2 (⟨0x11223344, 0x00015566, 0x80800000, 0⟩ : Ent)).setEnt 3 ((State.reset.buckets
       ((⟨0x11223344, 0x00015566, 0x80800000, 0⟩ : Ent)).key).1 * 4) (⟨0x11223344, 0x00015566, 0x80800000, 0⟩ : Ent), 0, 2,
       ((State.reset.buckets ((⟨0x11223344, 0x00015566, 0x80800000, 0⟩ : Ent)).key).1 * 4), by unfold Admitted; decide +kernel⟩,
   ⟨((State.reset.p R.CFG_STS.STATE 6).putData 2 (⟨0x11223344, 0x00015566, 0x80800000, 0⟩ : Ent)), 0, 2,
       by unfold Admitted; decide +kernel⟩⟩

theorem witness_TableWrites :
    (∃ (s : State) (req : Nat) (c : Nat) (table : Nat) (i : Nat), c < 7 ∧ table < 4 ∧ i < 16384 ∧ Admitted s req (R.TBL_CMD c)
        (tblWord 2 table i) ∧ s.stat (R.TBL_CMD c) ≠ statBusy ∧ s.tblBusy = false ∧ indexOk table i = true ∧ (table = 3 →
        (s.dataOf c).valid 3 = true → i ∈ s.waysOf (s.dataOf c).key ∧ (s.findKey (s.dataOf c).key).all (· == i) = true ∧ ∀ j ∈
        s.waysOf (s.dataOf c).key, s.entBad 3 j = 0)) ∧
    (∃ (s : State) (req : Nat) (c : Nat) (w : Nat), c < 7 ∧ Admitted s req (R.TBL_CMD c) (tblWord 4 3 0) ∧ s.stat (R.TBL_CMD c) ≠
        statBusy ∧ s.tblBusy = false ∧ s.findKey (s.dataOf c).key = none ∧ s.freeWay (s.buckets (s.dataOf c).key).1 = some w ∧ (∀
        j ∈ s.waysOf (s.dataOf c).key, s.entBad 3 j = 0)) ∧
    (∃ (s : State) (req : Nat) (g : Nat) (mask : Nat), g < 1024 ∧ mask < 2 ^ 28 ∧ Admitted s req (R.SW_MCGRP g) (W mask) ∧ s.g
        (R.SW_MCGRP.MASK g) ≠ mask) ∧
    (∃ (s : State) (table : Nat) (row : Nat) (n : Nat), table < 4 ∧ row < 4096 ∧ s.tbl.repair = none ∧ s.sparesLeft table = n + 1) ∧
    (∃ (s : State) (c : Nat) (sel : Word), c < 7 ∧ s.tbl.flush = some (c, sel) ∧ s.tbl.waiting = [] ∧ Tab.wf (fun _ => ({} : Ent))
        s.tbl.ents = true) ∧
    (∃ (s : State) (req : Nat) (tmo : Nat), tmo < 65536 ∧ Admitted s req R.TBL_DRAIN (W tmo) ∧ s.stat R.TBL_DRAIN ≠ statBusy) ∧
    (∃ (s : State), s.stat R.TBL_DRAIN = statBusy ∧ s.olderFrames = false) ∧
    (∃ (s : State), s.stat R.TBL_DRAIN = statBusy ∧ s.saving = false) :=
  ⟨⟨((State.reset.p R.CFG_STS.STATE 6).putData 2 (⟨0x11223344, 0x00015566, 0x80800000, 0⟩ : Ent)), 0, 2, 0, 9,
       by unfold Admitted; decide +kernel⟩,
   ⟨((State.reset.p R.CFG_STS.STATE 6).putData 2 (⟨0x11223344, 0x00015566, 0x80800000, 0⟩ : Ent)), 0, 2, 0,
       by unfold Admitted; decide +kernel⟩,
   ⟨(State.reset.p R.CFG_STS.STATE 6), 0, 1023, 5, by unfold Admitted; decide +kernel⟩,
   ⟨(State.reset.p R.CFG_STS.STATE 6), 1, 4095, 15, by decide +kernel⟩,
   ⟨(let u : State := (((State.reset.p R.CFG_STS.STATE 6).putData 2 (⟨0x11223344, 0x00015566, 0x80800000, 0⟩ : Ent)).setEnt 3
         ((State.reset.buckets ((⟨0x11223344, 0x00015566, 0x80800000, 0⟩ : Ent)).key).1 * 4) (⟨0x11223344, 0x00015566, 0x80800000,
         0⟩ : Ent)); { u with tbl := { u.tbl with flush := some (2, 0x20000000) } }), 2, 0x20000000, by decide +kernel⟩,
   ⟨(State.reset.p R.CFG_STS.STATE 6), 0, 65535, by unfold Admitted; decide +kernel⟩,
   ⟨((State.reset.p R.CFG_STS.STATE 6).setStat R.TBL_DRAIN 1), by decide +kernel⟩,
   ⟨((State.reset.p R.CFG_STS.STATE 6).setStat R.TBL_DRAIN 1), by decide +kernel⟩⟩

theorem witness_LearningAndAgeing :
    (∃ (s : State) (r : LearnReq) (rest : List LearnReq) (w : Nat), s.tbl.fifo = r :: rest ∧ rest.length < 256 ∧ r.hi &&&
        0x0FFFFFFF = r.hi ∧ s.findKey (r.lo, r.hi) = none ∧ (∀ j ∈ s.waysOf (r.lo, r.hi), s.entBad 3 j = 0) ∧ s.freeWay (s.buckets
        (r.lo, r.hi)).1 = some w ∧ s.saving = false ∧ s.tblBusy = false ∧ s.tbl.waiting = []) ∧
    (∃ (s : State) (b : Nat), s.tbl.sweep = some b ∧ b + 1 < 4096 ∧ (∀ w, w < 4 → s.entBad 3 (b * 4 + w) = 0)) ∧
    (∃ (s : State) (table : Nat) (i : Nat) (bad : Nat), table < 3 ∧ i < tableSize table ∧ 0 < bad ∧ bad < 16 ∧ s.entBad table i =
        0) :=
  ⟨⟨(let u : State := (State.reset.p R.CFG_STS.STATE 6); { u with tbl := { u.tbl with fifo := [(⟨0x11223344, 0x00015566, 5⟩ :
         LearnReq)] } }), (⟨0x11223344, 0x00015566, 5⟩ : LearnReq), [], 0, by decide +kernel⟩,
   ⟨(let u : State := (((State.reset.p R.CFG_STS.STATE 6).setEnt 3 28 (⟨0x11223344, 0x00015566, 0x80800000, 0⟩ : Ent)).p
         R.TBL_NOW.SEC 400).p R.TBL_AGE.LIMIT 300; { u with tbl := { u.tbl with sweep := some 7 } }), 7, by decide +kernel⟩,
   ⟨(State.reset.p R.CFG_STS.STATE 6), 2, 255, 12, by decide +kernel⟩⟩

end P05

namespace P06

def rn : State := State.reset.p R.CFG_STS.STATE 6
def swS (f : Sw → Sw) (s : State) : State := { s with sw := f s.sw }
def up3 : State := (rn.p (R.MAC_STS.LINK 3) 1).modPort 3 (fun q => { q with st := .up })
def cp (o : Nat) : Copy := { out := o }
def frm (c : Copy) (cls : Nat) : SwFrame := { f := { bytes := List.replicate 60 1, ingress := 5, cls := cls, size := 64, dest := 8 }, copies := [c], whole := true, elig := true, own := 1 }
def oneFr (x : SwFrame) (s : State) : State := swS (fun w => { w with frames := [(4, x)], next := 5 }) s
def cel (q : Nat) (first : Bool) : Cell := { src := 5, dst := 3, frame := 4, first := first, last := true, seq := q, ply := 0 }

theorem witness_CarcassFrames :
    (∃ (s : State) (o : Nat) (h : Nat × SwFrame × Copy), o < 28 ∧ (o < 24 → s.g (R.MAC_STS.TX_PAUSED o) = 0) ∧ (s.heads o).any
        (fun x => s.tooOld x.2.1.f) = false ∧ s.fetching o true = false ∧ s.rrPick o 7 = some h ∧ s.promised o + h.2.1.need ≤ 96) ∧
    (∃ (s : State) (id : Nat) (p : Nat) (x : SwFrame) (c : Copy), s.sw.frames = [(id, x)] ∧ x.copies = [c] ∧ x.f.ingress < 28 ∧
        c.fetched = true ∧ c.sent + 1 = x.ready ∧ s.nextPly x.f.ingress = some p) ∧
    (∃ (s : State) (n : Nat) (c : Cell) (y : Copy), s.sw.flight[n]? = some c ∧ c.dst < 24 ∧ (s.dove c.src c.dst).held = [] ∧
        (s.dove c.src c.dst).next = c.seq ∧ (s.dove c.src c.dst).skip = false ∧ c.lost = false ∧ (s.fr c.frame).copyAt c.dst =
        some y) ∧
    (∃ (s : State) (i : Nat) (o : Nat) (c : Cell), i < 28 ∧ o < 28 ∧ (s.dove i o).held = [c] ∧ c.seq < 1024 ∧ (s.dove i o).next <
        1024 ∧ c.seq ≠ (s.dove i o).next ∧ c.first = false ∧ (∀ x ∈ s.sw.flight, ¬ (x.src = i ∧ x.dst = o))) ∧
    (∃ (s : State) (o : Nat) (id : Nat) (c : Copy), o < 24 ∧ s.portUp o = true ∧ (s.port o).closing = false ∧ (s.port o).txCut =
        none ∧ (s.port o).txHeld = none ∧ (s.sched o).exq.head? = some id ∧ (s.fr id).copyAt o = some c ∧ (s.fr id).crossed c =
        true ∧ s.held = false ∧ s.paused o (s.fr id).f.cls = false ∧ s.tooOld (s.fr id).f = false) ∧
    (∃ (s : State) (o : Nat) (i : Nat) (k : Nat) (h : Nat × SwFrame × Copy), o < 28 ∧ (s.queued o).find? (fun x => x.2.2.mcq &&
        x.2.1.f.ingress == i && x.2.1.f.cls == k && (x.2.1.elig || x.2.2.ct)) = some h) ∧
    (∃ (s : State) (o : Nat), o < 24 ∧ s.on (R.SW_OUT_STS.FLUSHING o) = true) :=
  ⟨⟨oneFr (frm (cp 3) 7) up3, 3, (4, frm (cp 3) 7, cp 3), by decide +kernel⟩,
   ⟨(oneFr (frm { cp 3 with fetched := true } 7) up3).setPly 1 2, 4, 0, frm { cp 3 with fetched := true } 7, { cp 3 with fetched
       := true }, by decide +kernel⟩,
   ⟨swS (fun w => { w with flight := [cel 0 true] }) (oneFr (frm { cp 3 with fetched := true, sent := 1 } 7) up3), 0, cel 0 true,
       { cp 3 with fetched := true, sent := 1 }, by decide +kernel⟩,
   ⟨rn.setDove 5 3 { next := 7, held := [cel 9 false] }, 5, 3, cel 9 false, by decide +kernel⟩,
   ⟨(oneFr (frm { cp 3 with fetched := true, sent := 1, got := 1 } 7) up3).modSched 3 (fun q => { q with exq := [4] }), 3, 4, { cp
       3 with fetched := true, sent := 1, got := 1 }, by decide +kernel⟩,
   ⟨oneFr (frm { cp 3 with mcq := true } 4) up3, 3, 5, 4, (4, frm { cp 3 with mcq := true } 4, { cp 3 with mcq := true }),
       by decide +kernel⟩,
   ⟨up3.p (R.SW_OUT_STS.FLUSHING 3) 1, 3, by decide +kernel⟩⟩

theorem witness_PlyCommands :
    (∃ (s : State) (p : Nat), p < 5 ∧ s.ply p = plyActive ∧ (∀ c ∈ s.sw.flight, c.ply ≠ p) ∧
        (let u := (((s.setPly p plyFailed).ev R.SW_EVT.PLY_FAIL).bump R.SW_PLY_FAIL_LO).fault (80 + p) (faultInfo 3 p 0); (({ u
              with sw := { u.sw with replaced := some p } }.bringSpare).plyTouch p).inService ≠ [])) ∧
    (∃ (s : State) (p : Nat), p < 5 ∧ s.ply p = plyTraining ∧ s.sw.replaced = none) ∧
    (∃ (s : State) (p : Nat), p < 5 ∧ s.ply p = plyDraining ∧ (∀ c ∈ s.sw.flight, c.ply ≠ p)) ∧
    (∃ (s : State) (req : Nat) (p : Nat), p < 5 ∧ Admitted s req R.SW_PLY_CMD (W (8 * p + 1)) ∧ s.stat R.SW_PLY_CMD ≠ statBusy ∧
        s.ply p = plyActive ∧ 3 ≤ s.otherPlies p) ∧
    (∃ (s : State) (req : Nat) (p : Nat), p < 5 ∧ Admitted s req R.SW_PLY_CMD (W (8 * p + 2)) ∧ s.stat R.SW_PLY_CMD ≠ statBusy ∧
        s.ply p = plyFailed) ∧
    (∃ (s : State), s.stat R.SW_PLY_CMD = statBusy) ∧
    (∃ (s : State), s.stat R.SW_PLY_CMD = statBusy) :=
  ⟨⟨((rn.setPly 1 2).setPly 2 2).setPly 3 0, 1, by decide +kernel⟩,
   ⟨((rn.setPly 1 2).setPly 2 2).setPly 3 1, 3, by decide +kernel⟩,
   ⟨((rn.setPly 1 2).setPly 2 2).setPly 3 3, 3, by decide +kernel⟩,
   ⟨((((rn.setPly 0 2).setPly 1 2).setPly 2 2).setPly 3 2), 0, 3, by unfold Admitted; decide +kernel⟩,
   ⟨((((rn.setPly 0 2).setPly 1 2).setPly 2 2).setPly 3 4), 0, 3, by unfold Admitted; decide +kernel⟩,
   ⟨((rn.setPly 4 4).setStat R.SW_PLY_CMD 1).p R.SW_PLY_CMD.PLY 4, by decide +kernel⟩,
   ⟨((rn.setPly 4 4).setStat R.SW_PLY_CMD 1).p R.SW_PLY_CMD.PLY 4, by decide +kernel⟩⟩

end P06

namespace P07

def rn : State := State.reset.p R.CFG_STS.STATE 6
def vjob : Job := { level := 1, user := .strVerify 9 4, key := List.replicate 16 7 }
def gjob : Job := { level := 2, user := .strGenerate 9 4, key := List.replicate 16 7 }
def trl : List Byte := beBytes 2 0x5A08 ++ [3, 0] ++ beBytes 8 77
def bdy : List Byte := List.replicate 60 1
def vframe (tag : List Byte) : SwFrame := { f := { bytes := bdy ++ trl ++ tag, ingress := 5, cls := 2, size := 84, dest := 8, ctx := some 9 }, copies := [{ out := 3 }], whole := true, stream := true, own := 1 }
def goodTag : List Byte := (cmac (List.replicate 16 7) (macInput bdy trl)).take 8
def pq : StrPend := { frame := 4, entry := 0, fresh := 77, stage := 1 }
def wv (j : Job) (x : SwFrame) (auth : Nat) : State :=
  let s := rn.modCtx 9 (fun c => { c with cfg := W (auth * 2 ^ 28), pend := [pq] })
  { s with sw := { s.sw with frames := [(4, x)], next := 5 }, grit := { s.grit with running := [(20, j)] } }

theorem witness_StreamContexts :
    (∃ (s : State) (req : Nat) (n : Nat) (v : Word), n < 256 ∧ Admitted s req (R.STR_CFG n) (v ||| 0x80000000) ∧ s.on
        (R.STR_CFG.EN n) = false ∧ fieldOf (v ||| 0x80000000) 28 3 = 1) ∧
    (∃ (s : State) (req : Nat) (n : Nat) (v : Word), n < 256 ∧ Admitted s req (R.STR_CFG n) (v &&& 0x7FFFFFFF) ∧ s.on
        (R.STR_CFG.EN n) = true ∧ s.rxOfCtx n = [] ∧ (∀ q ∈ (s.ctx n).pend, q.stage ≠ 0)) ∧
    (∃ (s : State) (k : Nat) (n : Nat) (id : Nat) (j : Job) (q : StrPend), s.jobOn k = some j ∧ j.user = .strVerify n id ∧
        s.pendOf n id = some q ∧ s.hasFr id = true ∧ (s.endJob k j).tooOld ((s.endJob k j).fr q.frame).f = false ∧ tagMatches
        j.key ((s.endJob k j).fr q.frame).f.bytes ((s.endJob k j).ctx n).tagLen = false) ∧
    (∃ (s : State) (k : Nat) (n : Nat) (id : Nat) (j : Job) (q : StrPend), s.jobOn k = some j ∧ j.user = .strVerify n id ∧
        s.pendOf n id = some q ∧ s.hasFr id = true ∧ q.seq = none ∧
        (let u := s.endJob k j; u.tooOld (u.fr q.frame).f = false ∧ tagMatches j.key (u.fr q.frame).f.bytes (u.ctx n).tagLen =
              true ∧ windowPasses (u.high n) (u.win n) q.fresh = true)) ∧
    (∃ (s : State) (k : Nat) (n : Nat) (id : Nat) (j : Job) (q : StrPend), s.jobOn k = some j ∧ j.user = .strGenerate n id ∧
        s.pendOf n id = some q ∧ s.hasFr id = true) ∧
    (∃ (s : State) (n : Nat), n < 256 ∧ s.g (R.STR_STS.ROLLING n) = 1) ∧
    (∃ (s : State) (req : Nat) (n : Nat) (e : Nat) (v : Word), n < 256 ∧ Admitted s req (if e = 0 then R.STR_KEYA n else
        R.STR_KEYB n) v) ∧
    (∃ (s : State) (n : Nat), n < 256 ∧ (s.ctx n).armed = true ∧ s.ctxState n = ctxActive ∧ s.g (R.STR_CFG.TAP_EN n) = 0 ∧
        s.saving = false) ∧
    (∃ (s : State) (n : Nat), n < 256 ∧ (s.ctx n).seqEn = true ∧ s.ctxState n ≠ ctxDisabled ∧ s.g (R.STR_SEQ_STS.TAKE_ANY n) = 0 ∧
        s.saving = false) :=
  ⟨⟨rn.storeHigh 9 1234, 0, 9, 0x10000000, by unfold Admitted; decide +kernel⟩,
   ⟨(rn.p (R.STR_CFG.EN 9) 1).modCtx 9 (fun c => { c with armed := true }), 0, 9, 0x10000000, by unfold Admitted; decide +kernel⟩,
   ⟨wv vjob (vframe (List.replicate 8 0)) 1, 20, 9, 4, vjob, pq, by decide +kernel⟩,
   ⟨wv vjob (vframe goodTag) 1, 20, 9, 4, vjob, pq, by decide +kernel⟩,
   ⟨wv gjob { vframe [] with f := { (vframe []).f with bytes := bdy } } 3, 20, 9, 4, gjob, pq, by decide +kernel⟩,
   ⟨((rn.p (R.STR_STS.ROLLING 9) 1).p (R.STR_KEYB.VALID 9) 1), 9, by decide +kernel⟩,
   ⟨(rn.p (R.STR_STS.ROLLING 9) 1), 0, 9, 1, 0x80012345, by unfold Admitted; decide +kernel⟩,
   ⟨(rn.modCtx 9 (fun c => { c with armed := true })).setCtxState 9 1, 9, by decide +kernel⟩,
   ⟨((rn.modCtx 9 (fun c => { c with cfg := 0x04000000, hist := 3 })).setCtxState 9 1).p (R.STR_SEQ_STS.TAKE_ANY 9) 0, 9,
       by decide +kernel⟩⟩

end P07

namespace P08

def rn : State := State.reset.p R.CFG_STS.STATE 6
def act (c : Nat) : State := (rn.p (R.CAN_STS.STATE c) 2).p (R.CAN_CFG.EN c) 1
def tm : State := (rn.wr (R.CAN_NBT 5) 0x03F38000)
def ob : State := (((act 5).p (R.CAN_TXO_W1.READY 5 511) 1).p (R.CAN_TXO_W1.REQ 5 511) 1).p (R.CAN_TXO_W1.LEN 5 511) 8
def fr8 : CFrame := { fmt := 0, ide := false, id := 3, rtr := false, len := 0, data := [] }
def tx8 : State := ob.modCan 5 (fun k => { k with tx := some { obj := 511, f := fr8, excl := false } })
def mx (owed : Bool) : State := (act 5).modMatrix 5 (fun _ => { run := true, bc := 1000, ents := [0xA0000000, 0xA0000001], at0 := some 0, owed := owed })

theorem witness_CanControllerStates :
    (∃ (s : State) (req : Nat) (c : Nat) (v : Word), c < 16 ∧ Admitted s req (R.CAN_CFG c) (v ||| 0x80000000) ∧ s.on (R.CAN_CFG.EN
        c) = false ∧ (s.canOf c).closing = false ∧ s.deferred req = false ∧ timingOk ((s.store (R.CAN_CFG c) (v |||
        0x80000000)).rd (R.CAN_CFG c)) (s.rd (R.CAN_NBT c)) (s.rd (R.CAN_DBT c)) (s.rd (R.CAN_XBT c)) = true) ∧
    (∃ (s : State) (req : Nat) (c : Nat) (v : Word), c < 16 ∧ Admitted s req (R.CAN_CFG c) (v &&& 0x7FFFFFFF) ∧ s.enOn
        (R.CAN_CFG.EN c) = true ∧ (s.canOf c).closing = false ∧ (s.canOf c).tx = none) ∧
    (∃ (s : State) (c : Nat), c < 16 ∧ s.canState c = canIntegrating ∧ s.canBusOk c = true) ∧
    (∃ (s : State) (c : Nat) (n : Nat), c < 16 ∧ s.canState c = canBusOff ∧ n < 128) ∧
    (∃ (s : State) (c : Nat) (n : Nat), c < 16 ∧ s.canState c = canBusOff ∧ 128 ≤ n) ∧
    (∃ (s : State) (c : Nat), c < 16 ∧ s.canState c = canActive ∧ s.g (R.CAN_STS.PEX c) = 0 ∧ s.listen c = false ∧ s.g
        (R.CAN_ERRC.TEC c) < 96 ∧ s.g (R.CAN_ERRC.REC c) < 95 ∧ s.saving = false) ∧
    (∃ (s : State) (c : Nat), c < 16) :=
  ⟨⟨tm, 0, 5, 0, by unfold Admitted; decide +kernel⟩,
   ⟨act 5, 0, 5, 0, by unfold Admitted; decide +kernel⟩,
   ⟨((rn.p (R.CAN_STS.STATE 5) 1).p (R.PWR_TRX_STS.STATE 5) 4).p (R.CAN_ERRC.TEC 5) 9, 5, by decide +kernel⟩,
   ⟨rn.p (R.CAN_STS.STATE 15) 4, 15, 127, by decide +kernel⟩,
   ⟨rn.p (R.CAN_STS.STATE 15) 4, 15, 128, by decide +kernel⟩,
   ⟨act 0, 0, by decide +kernel⟩,
   ⟨(act 0).p (R.CAN_STS.PEX 0) 1, 0, by decide +kernel⟩⟩

theorem witness_CanReception :
    (∃ (s : State) (c : Nat) (id : Nat) (dlc : Nat) (age : Nat) (d : List Byte), c < 16 ∧ id < 2048 ∧ s.canState c = canActive ∧
        s.g (R.CAN_STS.PEX c) = 0 ∧ s.g (R.CAN_ERRC.TEC c) < 96 ∧ s.g (R.CAN_ERRC.REC c) = 0 ∧ s.on (R.CAN_RXC.EN c id) = false ∧
        s.saving = false) ∧
    (∃ (s : State) (c : Nat) (id : Nat) (dlc : Nat) (age : Nat) (d : List Byte), c < 16 ∧ id < 2048 ∧ s.canState c = canActive ∧
        s.g (R.CAN_STS.PEX c) = 0 ∧ s.g (R.CAN_ERRC.TEC c) < 96 ∧ s.g (R.CAN_ERRC.REC c) = 0 ∧ s.on (R.CAN_RXC.EN c id) = true ∧
        s.g (R.CAN_RXC.DEL c id) ≤ 1 ∧ s.objWorn c id = false) ∧
    (∃ (s : State) (req : Nat) (c : Nat) (i : Nat) (v : Word), c < 16 ∧ i < 2560 ∧ Admitted s req (R.CAN_RXO_W0 c i) v) :=
  ⟨⟨act 5, 5, 2047, 3, 9, [1,2,3], by decide +kernel⟩,
   ⟨(act 5).p (R.CAN_RXC.EN 5 9) 1, 5, 9, 3, 9, [1,2,3], by decide +kernel⟩,
   ⟨rn.wr (R.CAN_RXO_W0 15 2559) 0xC4000000, 0, 15, 2559, 0x84000000, by unfold Admitted; decide +kernel⟩⟩

theorem witness_CanTransmission :
    (∃ (s : State) (c : Nat) (i : Nat) (ex : Bool), c < 16 ∧ i < 512 ∧ s.canOnBus c = true ∧ s.listen c = false ∧ (s.canOf c).tx =
        none ∧ (s.canOf c).closing = false ∧ s.txPick c = some (i, ex) ∧ s.txBad c i = false) ∧
    (∃ (s : State) (c : Nat) (k : Nat) (x : CanTx), c < 16 ∧ x.obj < 512 ∧ (s.canOf c).tx = some x ∧ x.excl = false ∧ x.f.fmt = 0
        ∧ (s.canOf c).closing = false ∧ (s.matrix c).stop = false ∧ s.cmaFor true c x.obj = none ∧ s.isLong c x.obj = false ∧ s.g
        (R.PWR_SLP_ANN.OBJ c) ≠ x.obj ∧ s.canState c = canActive ∧ s.g (R.CAN_ERRC.TEC c) = 0 ∧ s.g (R.CAN_ERRC.REC c) < 96 ∧
        s.saving = false) ∧
    (∃ (s : State) (c : Nat) (x : CanTx), c < 16 ∧ (s.canOf c).tx = some x ∧ x.excl = false ∧ (s.canOf c).closing = false ∧
        (s.matrix c).stop = false ∧ s.saving = false) ∧
    (∃ (s : State) (req : Nat) (c : Nat) (i : Nat) (v : Word) (w : Word), c < 16 ∧ i < 512 ∧ Admitted s req (R.CAN_TXO_W1 c i) (v
        ||| 0x40000000) ∧ s.objWorn c (2560 + i) = false ∧ s.cmaFor true c i = none ∧ w = (((v ||| 0x40000000) &&& 0xF8000FFF) |||
        ((s.rd (R.CAN_TXO_W1 c i) &&& ~~~(v ||| 0x40000000) &&& 0x04000000) ||| (s.rd (R.CAN_TXO_W1 c i) &&& 0x03FFF000))) ∧ (s.wr
        (R.CAN_TXO_W1 c i) w).txBad c i = false) ∧
    (∃ (s : State) (req : Nat) (c : Nat) (i : Nat), c < 16 ∧ i < 512 ∧ Admitted s req (R.CAN_TXCMD c) (W (2 ^ 28 + i)) ∧ s.stat
        (R.CAN_TXCMD c) ≠ statBusy ∧ s.isLong c i = false) ∧
    (∃ (s : State) (req : Nat) (c : Nat), c < 16 ∧ Admitted s req (R.CAN_TXCMD c) (W (2 ^ 29)) ∧ s.stat (R.CAN_TXCMD c) ≠ statBusy
        ∧ s.longHead c = false) :=
  ⟨⟨ob, 5, 511, false, by decide +kernel⟩,
   ⟨tx8, 5, 0, { obj := 511, f := fr8, excl := false }, by decide +kernel⟩,
   ⟨tx8, 5, { obj := 511, f := fr8, excl := false }, by decide +kernel⟩,
   ⟨rn, 0, 5, 511, 0x80000008, 0xC0000008, by unfold Admitted; decide +kernel⟩,
   ⟨ob, 0, 5, 511, by unfold Admitted; decide +kernel⟩,
   ⟨(ob.p (R.CAN_TXO_W1.REQ 5 0) 1).p (R.CAN_TXO_W1.REQ 6 0) 1, 0, 5, by unfold Admitted; decide +kernel⟩⟩

theorem witness_CanMatrix :
    (∃ (s : State) (c : Nat), c < 16 ∧ (s.matrix c).armed = true ∧ (s.matrix c).stop = false ∧ s.canState c ≠ canOffSt ∧ s.enOn
        (R.CAN_SCH_CFG.EN c) = true) ∧
    (∃ (s : State) (c : Nat) (w : Nat) (st : Nat) (k : Nat) (e : Word), c < 16 ∧ (s.matrix c).run = true ∧ s.tbRun (s.matrix c).tb
        = true ∧ (s.matrix c).owed = false ∧ k = (s.matrix c).pos (s.matrixNow c) / (s.matrix c).bcNs ∧ (s.matrix c).at0 = some
        (s.matrixNow c - (s.matrix c).pos (s.matrixNow c) % (s.matrix c).bcNs) ∧ (s.matrix c).entryAt ((s.matrix c).pos
        (s.matrixNow c) % (s.matrix c).bcNs) = some (w, st, e) ∧ (s.matrix c).win ≠ some w ∧ fieldOf ((s.matrix c).ents.getD w 0)
        29 2 ≠ 0) ∧
    (∃ (s : State) (c : Nat), c < 16 ∧ (s.matrix c).owed = true ∧ (s.canOf c).tx = none ∧ s.saving = false) :=
  ⟨⟨((act 5).modMatrix 5 (fun m => { m with armed := true })).p (R.CAN_SCH_CFG.EN 5) 1, 5, by decide +kernel⟩,
   ⟨(mx false).p (R.TB_STS.RUN 0) 1, 5, 0, 0, 0, 0xA0000000, by decide +kernel⟩,
   ⟨mx true, 5, by decide +kernel⟩⟩

end P08

namespace P09

def rn : State := State.reset.p R.CFG_STS.STATE 6
def fr8 : CFrame := { fmt := 0, ide := false, id := 3, rtr := false, len := 2, data := [7, 8] }
def ff : State := (((rn.p (R.GW_DST_CFG.FIFO_EN 5) 1).p (R.GW_DST_CFG.FIFO_OBJ 5) 9).p (R.CAN_STS.STATE 5) 2).setFifo 5 [fr8]
def pk : State := (rn.p (R.GW_PK_CFG.EN 31) 1).modPack 31 (fun _ => { cfg := 0x80000000, msgs := [[1, 2, 3, 4]], seq := 255 })
def swS (f : Sw → Sw) (s : State) : State := { s with sw := f s.sw }
def up (b : List Byte) : Frame := { bytes := List.replicate 12 1 ++ b }
def pdu : List Byte := [0x22, 0xF0, 0x82, 0x80, 8, 5, 0, 0, 0, 0, 0, 0, 0, 7] ++ List.replicate 40 0
def upS : State := ((swS (fun w => { w with canbq := [up pdu] }) rn).p (R.GW_UP_CFG.EN 3) 1).wr (R.GW_UP_SID_LO 3) 7
def upS2 : State := { upS with gw := { upS.gw with upSeq := [(3, some 2)] } }
def jg : State := ((rn.wr (R.GW_JIG_LO 4095) 0x50030007).wr (R.GW_JIG_W1 4095) 0xA8240800)
def tr : JigTrig := { can := 5, obj := 3, len := 2, data := [0xA5, 0x5A] }
def cm (gen : Bool) (e : Cma) (j : Job) : State := { (rn.modCma 9 (fun _ => e)) with grit := { rn.grit with running := [(20, j)] } }
def key : List Byte := List.replicate 16 7
def ecfg (gen : Bool) : Word := W (2 ^ 31 + (if gen then 2 ^ 30 else 0) + 5 * 2 ^ 25 + 3 * 2 ^ 13 + 1 * 2 ^ 10 + 4 * 2 ^ 6 + 2)
def w0c : CFrame := { fmt := 0, ide := false, id := 3, rtr := false, len := 7, data := [1, 2, 0x21] }
def mac4 : List Byte := (cmac key (cmaInput 0 w0c.w0 [1, 2] 33)).take 4
def xin : GwIn := { can := 5, obj := 3, del := 0, seq := 6, f := { w0c with data := [1, 2, 0x21] ++ mac4 } }
def jv : Job := { level := 3, user := .canVerify 9, key := key }
def jgn : Job := { level := 3, user := .canGenerate 9 33, key := key }
def ev : Cma := { cfg := ecfg false, ver := [xin], busy := true, f := 33 }
def eg : Cma := { cfg := ecfg true, busy := true, f := 33 }

def jgs : State := { jg with gw := { jg.gw with trig := [tr] } }

theorem witness_GatewayRoutesAndPdus :
    (∃ (s : State) (u : State) (d : Nat) (i : Nat) (f : CFrame) (rest : List CFrame), d < 16 ∧ i = s.g (R.GW_DST_CFG.FIFO_OBJ d) ∧
        s.on (R.GW_DST_CFG.FIFO_EN d) = true ∧ s.g (R.CAN_TXO_W1.REQ d i) = 0 ∧ s.longHead d = false ∧ s.fifo d = f :: rest ∧
        f.len ≤ 64 ∧ rest.length < 128 ∧ u = (((s.putFrame d i f false).p (R.CAN_TXO_W1.SCHED d i) 0).p (R.CAN_TXO_W1.REQ d i)
        1).setFifo d rest ∧ u.txBad d i = false ∧ u.cmaFor true d i = none) ∧
    (∃ (s : State) (d : Nat), d < 16 ∧ s.g (R.GW_DST_RATE.PER_US d) ≠ 0) ∧
    (∃ (s : State) (req : Nat) (d : Nat) (v : Word), d < 16 ∧ Admitted s req (R.GW_DST_RATE d) v) ∧
    (∃ (s : State) (req : Nat) (k : Nat) (v : Word), k < 32 ∧ Admitted s req (R.GW_PK_CFG k) (v ||| 0x80000000) ∧ s.on
        (R.GW_PK_CFG.EN k) = false) ∧
    (∃ (s : State) (req : Nat) (k : Nat) (v : Word), k < 32 ∧ Admitted s req (R.GW_PK_CFG k) (v &&& 0x7FFFFFFF) ∧ s.on
        (R.GW_PK_CFG.EN k) = true ∧ (s.pack k).msgs ≠ [] ∧ s.gw.out.length < 16) ∧
    (∃ (s : State) (k : Nat), k < 32 ∧ (s.pack k).msgs ≠ [] ∧ s.gw.out.length < 16) ∧
    (∃ (s : State) (o : PduOut) (rest : List PduOut), s.gw.out = o :: rest ∧ s.pins.forwarding = true ∧ s.on (R.SW_USED.XOFF (8 *
        26 + o.pcp.getD (s.g (R.TBL_PORT.DEF_PCP 26)))) = false) ∧
    (∃ (s : State) (f : Frame) (rest : List Frame), s.sw.canbq = f :: rest ∧ beAt f.bytes (typeAt f.bytes) 2 ≠ 0x22F0 ∧ s.saving =
        false) ∧
    (∃ (s : State) (f : Frame) (rest : List Frame) (b : List Byte) (u : Nat) (n : Nat) (q : Nat), s.sw.canbq = f :: rest ∧ b =
        f.bytes.drop (typeAt f.bytes + 2) ∧ beAt f.bytes (typeAt f.bytes) 2 = 0x22F0 ∧ beAt b 0 1 = 0x82 ∧ beAt b 1 1 / 16 = 8 ∧
        s.upEntry (beAt b 4 8) = some u ∧ n = beAt b 1 2 % 2048 ∧ 12 + n ≤ b.length ∧ s.gw.upSeq.get (fun _ => none) u = some q) :=
  ⟨⟨ff, (((ff.putFrame 5 9 fr8 false).p (R.CAN_TXO_W1.SCHED 5 9) 0).p (R.CAN_TXO_W1.REQ 5 9) 1).setFifo 5 [], 5, 9, fr8, [],
       by decide +kernel⟩,
   ⟨(rn.p (R.GW_DST_RATE.PER_US 5) 9).setTokens 5 0, 5, by decide +kernel⟩,
   ⟨rn.setTokens 5 0, 0, 5, 0x00091400, by unfold Admitted; decide +kernel⟩,
   ⟨rn, 0, 31, 0x50000000, by unfold Admitted; decide +kernel⟩,
   ⟨pk, 0, 31, 0, by unfold Admitted; decide +kernel⟩,
   ⟨pk, 31, by decide +kernel⟩,
   ⟨{ pk with gw := { pk.gw with out := [{ k := 31, msgs := 1, frame := List.replicate 60 0, fh := 0, pcp := none }] }, pins := {
       pk.pins with forwarding := true } }, { k := 31, msgs := 1, frame := List.replicate 60 0, fh := 0, pcp := none }, [],
       by decide +kernel⟩,
   ⟨swS (fun w => { w with canbq := [up (List.replicate 50 3)] }) rn, up (List.replicate 50 3), [], by decide +kernel⟩,
   ⟨upS2, up pdu, [], pdu.drop 2, 3, 8, 2, by decide +kernel⟩⟩

theorem witness_JigAndCanAuthentication :
    (∃ (s : State) (u : State) (x : JigTrig) (rest : List JigTrig) (e : Nat) (ps : List Nat) (pd : List Nat), s.gw.trig = x ::
        rest ∧ s.jigEntries x.can x.obj = [e] ∧ e < 4096 ∧ s.jigSrc e = some ps ∧ s.jigDst e = some pd ∧ (∀ p ∈ ps, p < 8 * x.len)
        ∧ s.g (R.GW_JIG_W1.SET_REQ e) = 0 ∧ u = (((({ s with gw := { s.gw with trig := rest } }.jigPut (s.jigDest e).1 (s.jigDest
        e).2 pd (ps.map (dataBit x.data))).bump R.GW_JIG_MOVE_LO).p (R.GW_JIG_STS.TIMED_OUT e) 0).jigTimer e (s.jigTimed e)) ∧
        u.cmaFor true (s.jigDest e).1 (s.jigDest e).2 = none) ∧
    (∃ (s : State) (e : Nat), e < 4096 ∧ s.gw.timer.get (fun _ => false) e = true ∧ s.on (R.GW_JIG_W1.VALID e) = true ∧ s.g
        (R.GW_JIG_W1.SUB_EN e) = 0 ∧ s.saving = false) ∧
    (∃ (s : State) (req : Nat) (e : Nat) (v : Word), e < 4096 ∧ Admitted s req (R.GW_JIG_HI e) v ∧ req ≠ reqDma ∧ s.holding req 8
        = none) ∧
    (∃ (s : State) (req : Nat) (a : Nat) (v : Word) (w : Word), a < 256 ∧ w = v ||| 0x80000000 ∧ Admitted s req (R.GW_CMA_CFG a) w
        ∧ s.on (R.GW_CMA_CFG.EN a) = false ∧ ({ cfg := w } : Cma).gen = false ∧ 3 ≤ ({ cfg := w } : Cma).macb ∧ ({ cfg := w } :
        Cma).macb ≤ 8 ∧ ({ cfg := w } : Cma).fvb ≤ 4 ∧ ({ cfg := w } : Cma).size ≤ 64) ∧
    (∃ (s : State) (u : State) (n : Nat) (a : Nat) (j : Job) (x : GwIn), s.jobOn n = some j ∧ j.user = .canVerify a ∧ u = s.endJob
        n j ∧ (u.cmaOf a).busy = true ∧ (u.cmaOf a).ver = [x] ∧ (cmac j.key (cmaInput (u.g (R.GW_CMA_ID.DATA_ID a)) x.f.w0 (slice
        x.f.data 0 (u.cmaOf a).plen) (u.cmaOf a).f)).take (u.cmaOf a).macb = slice x.f.data ((u.cmaOf a).plen + (u.cmaOf a).fvb)
        (u.cmaOf a).macb) ∧
    (∃ (s : State) (u : State) (v : State) (n : Nat) (a : Nat) (f : Nat) (len : Nat) (j : Job) (e : Cma), s.jobOn n = some j ∧
        j.user = .canGenerate a f ∧ u = s.endJob n j ∧ e = u.cmaOf a ∧ e.busy = true ∧ e.f = f ∧ e.more = 0 ∧ len = max e.size
        (u.g (R.CAN_TXO_W1.LEN e.can e.obj)) ∧ v = (u.setTxoData e.can e.obj (slice (u.txoData e.can e.obj) 0 e.plen ++ beBytes
        e.fvb f ++ (cmac j.key (cmaInput (u.g (R.GW_CMA_ID.DATA_ID a)) (u.rd (R.CAN_TXO_W0 e.can e.obj)) (slice (u.txoData e.can
        e.obj) 0 e.plen) f)).take e.macb ++ List.replicate (len - e.size) 0 ++ (u.txoData e.can e.obj).drop len)).bump
        (R.GW_CMA_GEN_LO e.can)) :=
  ⟨⟨jgs, ((({ jgs with gw := { jgs.gw with trig := [] } }.jigPut (jgs.jigDest 4095).1 (jgs.jigDest 4095).2 [4, 5, 6, 7, 8, 9, 10,
       11] (List.map (dataBit tr.data) [0, 1, 2, 3, 4, 5, 6, 7])).bump R.GW_JIG_MOVE_LO).p (R.GW_JIG_STS.TIMED_OUT 4095)
       0).jigTimer 4095 (jgs.jigTimed 4095), tr, [], 4095, [0, 1, 2, 3, 4, 5, 6, 7], [4, 5, 6, 7, 8, 9, 10, 11],
       by decide +kernel⟩,
   ⟨jgs.jigTimer 4095 true, 4095, by decide +kernel⟩,
   ⟨jg.p (R.GW_JIG_STS.BAD 4095) 1, 0, 4095, 0x12345678, by unfold Admitted; decide +kernel⟩,
   ⟨rn.storeHigh 265 77, 0, 9, ecfg false, ecfg false, by unfold Admitted; decide +kernel⟩,
   ⟨cm false ev jv, (cm false ev jv).endJob 20 jv, 20, 9, jv, xin, by decide +kernel, by decide +kernel, rfl, by decide +kernel⟩,
   ⟨cm true eg jgn, _, _, 20, 9, 33, 7, jgn, eg, by decide +kernel, by decide +kernel, rfl, by decide +kernel, by decide +kernel,
       by decide +kernel, by decide +kernel, by decide +kernel, rfl⟩⟩

end P09

namespace P10

def rn : State := State.reset.p R.CFG_STS.STATE 6
def tbr (n : Nat) : State := (rn.p (R.TB_STS.RUN n) 1).p (R.TB_CFG.EN n) 1
def tv1 : State := (rn.wr (R.TB_SET_LO 2) 5).wr (R.TB_SET_LO 2 + 4) 9
def tgs : State := ((tbr 2).wr (R.TG_START_LO 5) 5).wr (R.TG_START_LO 5 + 4) 9
def tgp : State := ((tbr 2).modGen 5 (fun q => { q with tb := 2, per := 25600, pinEn := true, pol := true })).p (R.TG_STS.RUN 5) 1
def tgt : State := (rn.p (R.TG_STS.RUN 5) 1).p (R.TG_CFG.EN 5) 1
def msg (body : List Byte) : TpMsg := { port := 3, frame := { bytes := List.replicate 14 0 ++ body }, stamps := [1, 2, 3, 4] }
def hdr (ty : Nat) (fl : Nat) : List Byte := [B8 (16 + ty), 2, 0, 54, 7, 0, B8 fl, 0] ++ List.replicate 22 0 ++ [0, 9] ++ List.replicate 50 0
def prt (s : State) : State := (((s.p (R.TP_PORT_CFG.PD_EN 3) 1).p (R.MAC_STS.LINK 3) 1).p (R.TP_PORT_STS.AS_CAPABLE 3) 1).modPort 3 (fun q => { q with st := .up })
def withM (l : List TpMsg) (s : State) : State := { s with tpIn := l }
def dm (s : State) : State := s.modDom 1 (fun _ => { en := true, slave := 3, number := 7, timing := true })
def rec0 : SyncRec := { seq := 9, stamps := [1, 2, 3, 4], corr := 0 }
def dma' (s : State) : State := (dm s).modDom 1 (fun q => { q with await := some rec0 })

theorem witness_TimeBaseCommands :
    (∃ (s : State) (req : Nat) (n : Nat) (v : Word), n < 4 ∧ Admitted s req (R.TB_CFG n) (v ||| 0x80000000) ∧ s.on (R.TB_CFG.EN n)
        = false ∧ bit (v ||| 0x80000000).toNat 30 = s.on (R.TB_CFG.SRV_EN n) ∧ s.deferred req = false) ∧
    (∃ (s : State) (req : Nat) (n : Nat) (v : Word), n < 4 ∧ Admitted s req (R.TB_CFG n) (v &&& 0x7FFFFFFF) ∧ s.enOn (R.TB_CFG.EN
        n) = true ∧ bit (v &&& 0x7FFFFFFF).toNat 30 = s.on (R.TB_CFG.SRV_EN n) ∧ s.gensWhere (fun q => q.tb == n) = []) ∧
    (∃ (s : State) (req : Nat) (n : Nat) (v : Word), n < 4 ∧ Admitted s req (R.TB_CFG n) (v ||| 0x40000000) ∧ s.on
        (R.TB_CFG.SRV_EN n) = false ∧ bit (v ||| 0x40000000).toNat 31 = s.on (R.TB_CFG.EN n) ∧ s.deferred req = false ∧ fieldOf (v
        ||| 0x40000000) (R.TB_CFG.SRC n).lo (R.TB_CFG.SRC n).wd ≤ 1) ∧
    (∃ (s : State) (req : Nat) (n : Nat) (v : Word), n < 4 ∧ req ≠ reqDma ∧ Admitted s req (R.TB_INC_HI n) v ∧ s.holding req 9 =
        none ∧ (s.tb n).adj = 0 ∧ tbEMin ≤ ((fieldOf v 0 8 * 4294967296 + (s.rd (R.TB_INC_LO n)).toNat : Nat) : Int) ∧ ((fieldOf v
        0 8 * 4294967296 + (s.rd (R.TB_INC_LO n)).toNat : Nat) : Int) ≤ tbEMax) ∧
    (∃ (s : State) (req : Nat) (n : Nat) (v : Nat), n < 4 ∧ Admitted s req (R.TB_CMD n) 1 ∧ s.stat (R.TB_CMD n) ≠ statBusy ∧ (s.tb
        n).setBad = false ∧ s.rdTv (R.TB_SET_LO n) = some v) ∧
    (∃ (s : State) (req : Nat) (n : Nat), n < 4 ∧ Admitted s req (R.TB_CMD n) 2 ∧ s.stat (R.TB_CMD n) ≠ statBusy) ∧
    (∃ (s : State) (req : Nat) (n : Nat), n < 4 ∧ Admitted s req (R.TB_CMD n) 3 ∧ s.stat (R.TB_CMD n) ≠ statBusy ∧ (s.tbOfs
        n).natAbs < 2147483648 ∧ s.on (R.TB_CFG.SRV_EN n) = false ∧ s.on (R.TB_CFG.EN n) = true ∧ s.atLimit n (s.tbOfs n) = false) ∧
    (∃ (s : State) (n : Nat), n < 4 ∧ (s.tb n).slew = some 0) ∧
    (∃ (s : State) (req : Nat) (n : Nat), n < 4 ∧ Admitted s req (R.TB_CMD n) 4 ∧ s.stat (R.TB_CMD n) ≠ statBusy ∧ s.on
        (R.TB_CFG.SRV_EN n) = false) :=
  ⟨⟨rn, 0, 3, 0, by unfold Admitted; decide +kernel⟩,
   ⟨(tbr 3).modTb 3 (fun b => { b with slew := some 7 }), 0, 3, 0, by unfold Admitted; decide +kernel⟩,
   ⟨rn, 0, 3, 0, by unfold Admitted; decide +kernel⟩,
   ⟨rn, 0, 3, 2, by unfold Admitted; decide +kernel⟩,
   ⟨tv1, 0, 2, 9 * tvSec + 5 * 4294967296, by unfold Admitted; decide +kernel⟩,
   ⟨(tbr 2).wr64 (R.TB_OFS_LO 2) 77, 0, 2, by unfold Admitted; decide +kernel⟩,
   ⟨(tbr 2).wr64 (R.TB_OFS_LO 2) 77, 0, 2, by unfold Admitted; decide +kernel⟩,
   ⟨(tbr 2).modTb 2 (fun b => { b with slew := some 0 }), 2, by decide +kernel⟩,
   ⟨(rn.modTb 2 (fun b => { b with adj := 5, integ := 6 })), 0, 2, by unfold Admitted; decide +kernel⟩⟩

theorem witness_ServosAndTriggers :
    (∃ (s : State) (n : Nat), n < 4 ∧ s.srv n ≠ srvOff ∧ (s.tb n).src = 2 ∧ s.tbRun n = true ∧ s.tbRun (s.tb n).idx = true) ∧
    (∃ (s : State) (n : Nat), n < 4 ∧ s.srv n = srvLocked) ∧
    (∃ (s : State) (i : Nat) (pulse : Nat), i < 8 ∧ s.enOn (R.CAP_CFG.EN i) = true ∧ 8 * s.g (R.CAP_CFG.FILT i) ≤ pulse ∧ s.g
        (R.CAP_CFG.EDGE i) ≠ 2 ∧ (s.g (R.CAP_PTR.WR i) + 32 - s.g (R.CAP_PTR.RD i)) % 32 ≠ 16 ∧ (∀ r, r < 64 → s.g
        (R.MEM_RING_TRIG.CAPSEL r) ≠ i)) ∧
    (∃ (s : State) (req : Nat) (g : Nat) (v : Nat) (x : Word), g < 32 ∧ Admitted s req (R.TG_CFG g) (x ||| 0x80000000) ∧ s.on
        (R.TG_CFG.EN g) = false ∧ s.deferred req = false ∧ bit (x ||| 0x80000000).toNat 30 = true ∧ bit (x ||| 0x80000000).toNat
        26 = false ∧ bit (x ||| 0x80000000).toNat 25 = false ∧ s.tbRun (fieldOf (x ||| 0x80000000) 28 2) = true ∧ (s.gen
        g).startBad = false ∧ s.rdTv (R.TG_START_LO g) = some v ∧ tv256 (s.tbVal (fieldOf (x ||| 0x80000000) 28 2)) < tv256 v) ∧
    (∃ (s : State) (req : Nat) (g : Nat) (x : Word), g < 32 ∧ Admitted s req (R.TG_CFG g) (x &&& 0x7FFFFFFF) ∧ s.enOn (R.TG_CFG.EN
        g) = true ∧ s.gensWhere (fun q => q.link) = []) ∧
    (∃ (s : State) (g : Nat), g < 32 ∧ s.genRun g = true ∧ (s.gen g).oneShot = false ∧ (s.gen g).link = false ∧ (s.gen g).made =
        [] ∧ (s.gen g).at (s.gen g).next ≤ tv256 (s.tbVal (s.gen g).tb) ∧ (∀ r, r < 64 → s.g (R.MEM_RING_TRIG.TGSEL r) ≠ g) ∧ (∀
        c, c < 256 → s.g (R.DMA_CH_CFG.TRIG c) ≠ 1 ∨ s.g (R.DMA_CH_CFG.TG c) ≠ g)) ∧
    (∃ (s : State) (g : Nat), g < 32 ∧ (s.gen g).pinEn = true) ∧
    (∃ (s : State) (g : Nat), g < 32 ∧ s.genRun g = true ∧ s.tenon.lostState = false) ∧
    (∃ (s : State) (late : Bool) (g : Nat) (rest : List Nat), s.edges = g :: rest ∧ s.tenon.lostState = false) :=
  ⟨⟨(((tbr 2).p (R.TB_STS.RUN 1) 1).modTb 2 (fun b => { b with src := 2, idx := 1, v := 4294967296 })).setSrv 2 1, 2,
       by decide +kernel⟩,
   ⟨rn.setSrv 3 2, 3, by decide +kernel⟩,
   ⟨(rn.p (R.CAP_CFG.EN 7) 1).p (R.CAP_PTR.WR 7) 31, 7, 100, by decide +kernel⟩,
   ⟨tgs, 0, 5, 9 * tvSec + 5 * 4294967296, 0x60000000, by unfold Admitted; decide +kernel⟩,
   ⟨tgt, 0, 5, 0, by unfold Admitted; decide +kernel⟩,
   ⟨tgp, 5, by decide +kernel⟩,
   ⟨rn.modGen 5 (fun q => { q with pinEn := true, pol := true }), 5, by decide +kernel⟩,
   ⟨tgt, 5, by decide +kernel⟩,
   ⟨{ rn with edges := [5] }, true, 5, [], by decide +kernel⟩⟩

theorem witness_GptpService :
    (∃ (s : State) (n : Nat), n < 24 ∧ s.g (R.TP_PORT_CFG.PD_EN n) = 1 ∧ s.portUp n = true ∧ s.paused n 6 = false ∧ (s.pd
        n).pending = false) ∧
    (∃ (s : State) (u : State) (m : TpMsg), s.tpTake (fun x => x.type == gpPdReq) = some (m, u) ∧ u.g (R.TP_PORT_CFG.PD_EN m.port)
        = 1 ∧ u.portUp m.port = true ∧ u.paused m.port 6 = false) ∧
    (∃ (s : State) (u : State) (m : TpMsg), s.tpTake (fun x => x.type == gpPdResp || x.type == gpPdFollow) = some (m, u) ∧ m.type
        = gpPdResp ∧ u.g (R.TP_PORT_CFG.PD_EN m.port) = 1 ∧ (u.pd m.port).pending = true ∧ m.seq = (u.pd m.port).seq ∧ (u.pd
        m.port).parts = 0) ∧
    (∃ (s : State) (u : State) (m : TpMsg) (d : Nat), s.tpTake (fun x => x.type == gpSync && (s.domNamed x.domain).isSome) = some
        (m, u) ∧ u.domNamed m.domain = some d ∧ m.port = (u.dom d).slave ∧ u.asCapable m.port = true ∧ m.twoStep = true ∧ (u.dom
        d).await = none) ∧
    (∃ (s : State) (u : State) (m : TpMsg) (d : Nat) (r : SyncRec), s.tpTake (fun x => x.type == gpFollow && (s.domNamed
        x.domain).isSome) = some (m, u) ∧ u.domNamed m.domain = some d ∧ (u.dom d).await = some r ∧ m.port = (u.dom d).slave ∧
        m.seq = r.seq) ∧
    (∃ (s : State) (d : Nat) (r : SyncRec), d < 4 ∧ (s.dom d).await = some r ∧ s.saving = false) ∧
    (∃ (s : State) (u : State) (m : TpMsg) (e : List Word), s.tpTake (fun x => !x.isPd && !s.isRelay x) = some (m, u) ∧ u.g
        R.TP_GLB.COPY = 1 ∧ e = ethEntry 0 m.port 6 1 0 m.frame.stampTb m.frame.stamp (m.frame.bytes ++ fcsOf m.frame.bytes) ∧
        u.offer (u.g R.TP_GLB.Q) e.length ≠ .noRoom) ∧
    (∃ (s : State) (u : State) (m : TpMsg), s.tpTake (fun x => !x.isPd && !s.isRelay x) = some (m, u) ∧ u.g R.TP_GLB.COPY = 0) ∧
    (∃ (s : State) (d : Nat), d < 4 ∧ (s.dom d).en = true ∧ (s.dom d).slave ≠ 31 ∧ (s.dom d).timing = true ∧ s.saving = false) ∧
    (∃ (s : State) (d : Nat), d < 4 ∧ (s.dom d).en = true ∧ (s.dom d).slave = 31) ∧
    (∃ (s : State) (req : Nat) (d : Nat) (v : Word), d < 4 ∧ Admitted s req (R.TP_DOM_CFG d) (v ||| 0x80000000) ∧ s.on
        (R.TP_DOM_CFG.EN d) = false ∧ s.deferred req = false ∧ (fieldOf (v ||| 0x80000000) 23 5 < 24 ∨ fieldOf (v ||| 0x80000000)
        23 5 = 31) ∧ -5 ≤ signed 4 (fieldOf (v ||| 0x80000000) 16 4) ∧ signed 4 (fieldOf (v ||| 0x80000000) 16 4) ≤ 0 ∧ s.domNamed
        (fieldOf (v ||| 0x80000000) 0 8) = none) :=
  ⟨⟨prt rn, 3, by decide +kernel⟩,
   ⟨withM [msg (hdr 2 0)] (prt rn), prt rn, msg (hdr 2 0), by decide +kernel⟩,
   ⟨withM [msg (hdr 3 0)] ((prt rn).modPd 3 (fun q => { q with seq := 9, pending := true })), (prt rn).modPd 3 (fun q => { q with
       seq := 9, pending := true }), msg (hdr 3 0), by decide +kernel⟩,
   ⟨withM [msg (hdr 0 2)] (dm (prt rn)), dm (prt rn), msg (hdr 0 2), 1, by decide +kernel⟩,
   ⟨withM [msg (hdr 8 0)] (dma' (prt rn)), dma' (prt rn), msg (hdr 8 0), 1, rec0, by decide +kernel⟩,
   ⟨dma' rn, 1, rec0, by decide +kernel⟩,
   ⟨withM [msg (hdr 11 0)] (((rn.p R.TP_GLB.COPY 1).p (R.QUE_CFG.EN 0) 1)), (rn.p R.TP_GLB.COPY 1).p (R.QUE_CFG.EN 0) 1, msg (hdr
       11 0), ethEntry 0 3 6 1 0 0 0 ((msg (hdr 11 0)).frame.bytes ++ fcsOf (msg (hdr 11 0)).frame.bytes), by decide +kernel⟩,
   ⟨withM [msg (hdr 11 0)] rn, rn, msg (hdr 11 0), by decide +kernel⟩,
   ⟨dm rn, 1, by decide +kernel⟩,
   ⟨prt (rn.modDom 1 (fun _ => { en := true, slave := 31, number := 7, masters := 8 })), 1, by decide +kernel⟩,
   ⟨rn, 0, 3, 0x4F800007, by unfold Admitted; decide +kernel⟩⟩

end P10

namespace P11

def rn : State := State.reset.p R.CFG_STS.STATE 6
def qn (q nx : Nat) : State := (((rn.p (R.CRY_SJQ_CFG.EN q) 1).modSjq q (fun _ => { base := dramBase, size := 16, next := nx })).p (R.CRY_SJQ_CI.CI q) nx)
def qb (q nx : Nat) : State := (((rn.p (R.CRY_SJQ_CFG.EN q) 1).modSjq q (fun _ => { base := R.FLT_SAVE_REC 0, size := 1, next := nx })).p (R.CRY_SJQ_CI.CI q) nx)
def dB (op len : Nat) : List Byte := [B8 (32 + op), 0, 0, 0, 7, 0, 0, 0, B8 len, 0, 0, 0, 0, 0, 0, 0] ++ leBytes 8 (R.FLT_SAVE_REC 0) ++ leBytes 8 (R.BRG_SEM 0) ++ List.replicate 32 0
def jB (op len : Nat) : Job := djJob 7 4095 (dramBase + 8192) (dB op len)
def ds (op len : Nat) : List Byte := [B8 (32 + op), 0, 0, 0, 7, 0, 0, 0, B8 len, 0, 0, 0, 0, 0, 0, 0] ++ leBytes 8 (dramBase) ++ leBytes 8 (dramBase + 4096) ++ List.replicate 32 0
def jb (op len : Nat) : Job := djJob 7 4095 (dramBase + 8192) (ds op len)
def onc (n : Nat) (j : Job) (s : State) : State := { s with grit := { s.grit with running := s.grit.running.put n j } }
def wt (l : List Job) (s : State) : State := { s with grit := { s.grit with waiting := l } }
def dr (s : State) : State := s.p R.CRY_DRBG_STS.STATE 1
def j0 : Job := { level := 3, user := .canVerify 5 }
def jL : Job := { level := 6, user := .soft 7 3, blocks := 65 }
def cor (n st : Nat) (s : State) : State := s.p (R.CRY_CORE.STATE n) st

theorem witness_CipherSoftwareJobs :
    (∃ (s : State) (req : Nat) (q : Nat) (v : Word), q < 8 ∧ Admitted s req (R.CRY_SJQ_CFG q) (v ||| 0x80000000) ∧ s.on
        (R.CRY_SJQ_CFG.EN q) = false) ∧
    (∃ (s : State) (req : Nat) (q : Nat) (v : Word) (h : HostMem) (d : List Byte), q < 8 ∧ Admitted s req (R.CRY_SJQ_PI q) v ∧
        s.on (R.CRY_SJQ_CFG.EN q) = true ∧ s.g (R.CRY_SJQ_CI.HALT q) = 0 ∧ (s.sjq q).prog = [] ∧ (s.sjq q).before = 0 ∧ 0 < (s.sjq
        q).size ∧ (s.sjq q).next = s.g (R.CRY_SJQ_CI.CI q) ∧ fieldOf v 0 12 = (s.g (R.CRY_SJQ_CI.CI q) + 1) % 4096 ∧ (s.store
        (R.CRY_SJQ_PI q) v).devRead h ((s.sjq q).base + 64 * ((s.sjq q).next % (s.sjq q).size)) 64 = (s.store (R.CRY_SJQ_PI q) v,
        .inl d)) ∧
    (∃ (s : State) (req : Nat) (q : Nat) (v : Word) (h : HostMem), q < 8 ∧ Admitted s req (R.CRY_SJQ_PI q) v ∧ s.on
        (R.CRY_SJQ_CFG.EN q) = true ∧ (s.sjq q).size < (fieldOf v 0 12 + 4096 - s.g (R.CRY_SJQ_CI.CI q)) % 4096) ∧
    (∃ (s : State) (n : Nat) (q : Nat) (i : Nat) (h : HostMem) (j : Job) (src : List Byte) (aux : List Byte) (u : State), s.jobOn
        n = some j ∧ j.user = .soft q i ∧ (136 ≤ n ∨ j.blocks ≤ 64) ∧ djOk j.desc = true ∧ djCtrWrap j.desc = false ∧ j.nokey =
        false ∧ djOp j.desc ≠ 10 ∧ s.djGet h (djSrc j.desc) (djSrcLen j.desc) = (s, some src) ∧ s.djGet h (djAux j.desc)
        (djAuxRead j.desc) = (s, some aux) ∧ (djResult j.desc j.key src aux []).2 = true ∧ s.djPut (djDst j.desc) (djResult j.desc
        j.key src aux []).1 = (u, true)) ∧
    (∃ (s : State) (n : Nat) (q : Nat) (i : Nat) (h : HostMem) (j : Job), s.jobOn n = some j ∧ j.user = .soft q i ∧ (136 ≤ n ∨
        j.blocks ≤ 64) ∧ (djOk j.desc = false ∨ djCtrWrap j.desc = false ∧ j.nokey = true ∧ j.key = [])) ∧
    (∃ (s : State) (q : Nat) (i : Nat) (j : Job), q < 8 ∧ s.grit.waiting = [j] ∧ j.user = .soft q i ∧ j.unit = 0 ∧ j.waited =
        false ∧ s.saving = false) :=
  ⟨⟨(rn.p (R.CRY_SJQ_PI.PI 7) 4095).wr (R.CRY_SJQ_BASE_LO 7) 0x1040, 0, 7, 0x0B000000, by unfold Admitted; decide +kernel⟩,
   ⟨qb 7 4095, 0, 7, 0, [], List.replicate 64 0, by unfold Admitted; decide +kernel⟩,
   ⟨qn 7 4095, 0, 7, 16, [], by unfold Admitted; decide +kernel⟩,
   ⟨onc 137 (jB 11 4) (qn 7 4095), 137, 7, 4095, [], jB 11 4, [0, 0, 0, 0], [], ((onc 137 (jB 11 4) (qn 7 4095)).djPut (djDst (jB
       11 4).desc) (djResult (jB 11 4).desc (jB 11 4).key [0, 0, 0, 0] [] []).1).1,
       by (and_intros <;> first | exact (Prod.ext rfl (by decide +kernel)) | decide +kernel)⟩,
   ⟨onc 137 (jb 15 4) (qn 7 4095), 137, 7, 4095, [], jb 15 4, by decide +kernel⟩,
   ⟨wt [jb 1 16] rn, 7, 4095, jb 1 16, by decide +kernel⟩⟩

theorem witness_CipherPool :
    (∃ (s : State) (j : Job) (n : Nat) (q : Nat) (i : Nat), s.nextJob = some j ∧ s.nextCore j = some n ∧ s.drbgServes = true ∧
        j.level = 6 ∧ j.user = .soft q i ∧ j.started = false ∧ j.head = false ∧ s.swSlotOk j.desc = true ∧ s.grit.maskWait = []) ∧
    (∃ (s : State) (j : Job) (n : Nat), s.nextJob = some j ∧ s.nextCore j = some n ∧ s.drbgServes = true ∧ s.grit.maskWait = [] ∧
        s.saving = false) ∧
    (∃ (s : State) (u : Nat) (l : List Nat), s.drbgServes = true) ∧
    (∃ (s : State) (n : Nat) (j : Job), n < 136 ∧ s.jobOn n = some j ∧ 4 ≤ j.level ∧ 64 < j.blocks ∧ s.grit.retiring.find? n =
        none) ∧
    (∃ (s : State) (n : Nat) (j : Job), n < 136 ∧ s.jobOn n = some j ∧ j.level ≤ 3 ∧ j.retried = false) ∧
    (∃ (s : State) (n : Nat) (b : Bool), n < 136 ∧ s.coreState n = coreQuarantine ∧ s.grit.again.get (fun _ => false) n = false ∧
        s.grit.retiring.find? n = none) ∧
    (∃ (s : State) (n : Nat) (a : Bool) (b : Bool), n < 136 ∧ s.coreState n = coreQuarantine ∧ (a = false ∨ s.grit.again.get (fun
        _ => false) n = true) ∧ s.grit.retiring.find? n = none) ∧
    (∃ (s : State) (req : Nat) (n : Nat) (b : Bool), n < 136 ∧ Admitted s req R.CRY_CMD (W (0x100 + n)) ∧ s.stat R.CRY_CMD ≠
        statBusy ∧ s.coreState n = coreActive ∧ s.hasSpare n = true ∧ s.on (R.CRY_CORE.BUSY n) = true) ∧
    (∃ (s : State) (req : Nat) (n : Nat) (b : Bool), n < 136 ∧ Admitted s req R.CRY_CMD (W (0x100 + n)) ∧ s.stat R.CRY_CMD ≠
        statBusy ∧ s.coreState n = coreActive ∧ s.hasSpare n = true ∧ s.on (R.CRY_CORE.BUSY n) = false) ∧
    (∃ (s : State) (req : Nat) (n : Nat), n < 136 ∧ Admitted s req R.CRY_CMD (W (0x200 + n)) ∧ s.stat R.CRY_CMD ≠ statBusy ∧
        s.coreState n = coreRetired) ∧
    (∃ (s : State) (n : Nat), s.stat R.CRY_CMD = statBusy ∧ s.g R.CRY_CMD.OP = 2 ∧ s.g R.CRY_CMD.CORE = n ∧ s.coreState n =
        coreRetired) ∧
    (∃ (s : State) (req : Nat), Admitted s req R.CRY_CMD 0x300 ∧ s.stat R.CRY_CMD ≠ statBusy ∧ s.g R.CRY_DRBG_STS.STATE = drbgFail
        ∧ s.saving = false) ∧
    (∃ (s : State), s.drbgServes = true ∧ s.saving = false) ∧
    (∃ (s : State), s.drbgServes = true ∧ s.saving = false) :=
  ⟨⟨dr (wt [jL] (qn 7 4095)), jL, 0, 7, 3, by decide +kernel⟩,
   ⟨dr (wt [jL] (qn 7 4095)), jL, 0, by decide +kernel⟩,
   ⟨dr rn, 0, [3], by decide +kernel⟩,
   ⟨onc 135 jL rn, 135, jL, by decide +kernel⟩,
   ⟨onc 135 j0 (cor 135 1 rn), 135, j0, by decide +kernel⟩,
   ⟨cor 20 2 rn, 20, false, by decide +kernel⟩,
   ⟨cor 20 2 rn, 20, false, true, by decide +kernel⟩,
   ⟨rn.p (R.CRY_CORE.BUSY 20) 1, 0, 20, true, by unfold Admitted; decide +kernel⟩,
   ⟨rn, 0, 20, true, by unfold Admitted; decide +kernel⟩,
   ⟨cor 20 3 rn, 0, 20, by unfold Admitted; decide +kernel⟩,
   ⟨(cor 20 3 rn).wr R.CRY_CMD 0x40000214, 20, by decide +kernel⟩,
   ⟨rn.p R.CRY_DRBG_STS.STATE 3, 0, by unfold Admitted; decide +kernel⟩,
   ⟨dr rn, by decide +kernel⟩,
   ⟨dr rn, by decide +kernel⟩⟩

end P11

namespace P12

def rn : State := State.reset.p R.CFG_STS.STATE 6
def ul : State := rn.setArmed 0 true
def kc (op slot : Nat) : KeyCmd := { op := op, root := true, parent := 0, slot := slot, req := 0, repl := false, size := true, use := 1, arg := List.replicate 64 7, src := 0, exp := 0 }
def wc (c : KeyCmd) (s : State) : State := { s with vault := { s.vault with cmd := some c, rs := some (List.replicate 32 9) } }
def vj : Job := { level := 4, user := .vault, slot := noSlot, blocks := 16 }
def onc (n : Nat) (j : Job) (s : State) : State := { s with grit := { s.grit with running := s.grit.running.put n j } }
def prv : State := rn.p R.KEY_STS.PROV 1
def kj : Job := { level := 4, user := .vaultKcv, slot := noSlot, blocks := 2 }
def aj : Job := { level := 6, user := .attest, slot := noSlot, unit := 2 }
def sl (n st : Nat) (s : State) : State := (s.p (R.KEY_SLOT_CFG.STATE n) st).setKey n (List.replicate 16 5)

theorem witness_VaultCommands :
    (∃ (s : State) (req : Nat) (op : Nat) (v : Word) (c : Instr), (c, op) ∈ [(Instr.keyDerive req v, 1), (Instr.keyUnwrap req v,
        2), (Instr.keyGenerate req v, 3), (Instr.keyProvision req v, 6)] ∧ Unlocked s req R.KEY_CMD (keyVal v op) ∧ s.stat
        R.KEY_CMD ≠ statBusy ∧ s.on R.KEY_NEW.REPL = false) ∧
    (∃ (s : State) (req : Nat) (op : Nat) (v : Word) (c : Instr), (c, op) ∈ [(Instr.keyInvalidate req v, 4), (Instr.keyFree req v,
        5), (Instr.fuseSigner req v, 8), (Instr.fuseRevoke req v, 9), (Instr.fusePolicy req v, 10), (Instr.fuseLock req v, 11),
        (Instr.resInit req v, 12)] ∧ Unlocked s req R.KEY_CMD (keyVal v op) ∧ s.stat R.KEY_CMD ≠ statBusy ∧ s.keyCmdOk (keyVal v
        op) = true) ∧
    (∃ (s : State) (req : Nat) (v : Word), Unlocked s req R.KEY_CMD (keyVal v 7) ∧ s.stat R.KEY_CMD ≠ statBusy) ∧
    (∃ (s : State) (h : HostMem) (c : KeyCmd) (rs : List Byte) (n : Nat) (k : Nat) (j : Job), s.vault.cmd = some c ∧ c.op = 1 ∧
        c.root = true ∧ s.rootKey = some rs ∧ reservedLabel (slice c.arg 0 16) = false ∧ s.slotState c.slot = slotEmpty ∧
        s.vaultCores = some (n, j, k) ∧ j.nokey = false ∧ c.slot < 4096) ∧
    (∃ (s : State) (h : HostMem) (c : KeyCmd) (b : Bool), s.vault.cmd = some c ∧ c.op = 4 ∧ s.slotState c.slot = slotValid ∧ s.g
        R.KEY_STS.SWEEP = 0) ∧
    (∃ (s : State) (h : HostMem) (c : KeyCmd) (b : Bool), s.vault.cmd = some c ∧ c.op = 5 ∧ 2 ≤ s.slotState c.slot ∧ c.slot ∉
        s.worn.slots) ∧
    (∃ (s : State) (h : HostMem) (c : KeyCmd) (b : Bool), s.vault.cmd = some c ∧ c.op = 4 ∧ s.slotState c.slot ≠ slotValid ∧ s.g
        R.KEY_STS.SWEEP = 0 ∧ s.saving = false) ∧
    (∃ (s : State) (h : HostMem) (c : KeyCmd) (b : Bool), s.vault.cmd = some c ∧ (c.op = 8 ∨ c.op = 11) ∧ (c.op = 8 →
        s.vault.signers.find? (4 * (c.slot / 4 % 2) + c.slot % 4) = none)) ∧
    (∃ (s : State) (h : HostMem) (c : KeyCmd) (b : Bool), s.vault.cmd = some c ∧ (c.op = 9 ∨ c.op = 10) ∧ s.loader.act = []) ∧
    (∃ (s : State) (h : HostMem) (c : KeyCmd) (b : Bool), s.vault.cmd = some c ∧ c.op = 9 ∧ s.loader.act ≠ [] ∧ leAt s.loader.act
        0x3C 1 = c.slot % 4 ∧ s.saving = false) ∧
    (∃ (s : State) (h : HostMem) (c : KeyCmd) (b : Bool), s.vault.cmd = some c ∧ c.op = 12 ∧ c.slot < 512) :=
  ⟨⟨ul, 0, 1, 0x7123, .keyDerive 0 0x7123, by unfold Unlocked Admitted; decide +kernel⟩,
   ⟨ul, 0, 11, 0x7, .fuseLock 0 7, by unfold Unlocked Admitted; decide +kernel⟩,
   ⟨ul, 0, 0, by unfold Unlocked Admitted; decide +kernel⟩,
   ⟨onc 20 kj (onc 3 vj (wc (kc 1 4095) prv)), [], kc 1 4095, List.replicate 32 9, 3, 20, vj, by decide +kernel⟩,
   ⟨sl 4095 1 (wc (kc 4 4095) rn), [], kc 4 4095, false, by decide +kernel⟩,
   ⟨sl 4095 3 (wc (kc 5 4095) rn), [], kc 5 4095, false, by decide +kernel⟩,
   ⟨sl 4095 2 (wc (kc 4 4095) rn), [], kc 4 4095, false, by decide +kernel⟩,
   ⟨wc (kc 8 7) rn, [], kc 8 7, false, by decide +kernel⟩,
   ⟨wc (kc 10 3) rn, [], kc 10 3, false, by decide +kernel⟩,
   ⟨{ wc (kc 9 2) rn with loader := { rn.loader with act := List.replicate 60 0 ++ [2] } }, [], kc 9 2, false, by decide +kernel⟩,
   ⟨{ wc (kc 12 511) rn with vault := { (wc (kc 12 511) rn).vault with lossEpoch := 255 } }, [], kc 12 511, false,
       by decide +kernel⟩⟩

theorem witness_VaultEvents :
    (∃ (s : State), s.on R.KEY_STS.SWEEP = true) ∧
    (∃ (s : State), s.drbgServes = true ∧ s.grit.requests + 1 < 4294967296) ∧
    (∃ (s : State) (b : Bool), s.coreUp = false ∧ s.prov = provYes ∧ s.saving = false) ∧
    (∃ (s : State) (r : Nat) (c : Nat), r < 256 ∧ s.vault.adv.find? r = some c ∧ (s.ctx r).pend = [] ∧ s.saving = false) ∧
    (∃ (s : State) (req : Nat) (n : Nat), 8 ≤ n ∧ n ≤ 32 ∧ req < 7 ∧ Admitted s req R.KEY_ATT_CMD (W n) ∧ s.stat R.KEY_ATT_CMD ≠
        statBusy) ∧
    (∃ (s : State) (n : List Byte) (j : Job), s.vault.att = some n ∧ s.jobOn publicKeyUnit = some j ∧ j.user = .attest ∧ s.g
        R.CRY_DRBG_STS.STATE = drbgFail) ∧
    (∃ (s : State) (n : List Byte) (j : Job), s.vault.att = some n ∧ s.jobOn publicKeyUnit = some j ∧ j.user = .attest ∧ s.g
        R.CRY_DRBG_STS.STATE ≠ drbgFail) :=
  ⟨⟨sl 9 3 (sl 8 1 (rn.p R.KEY_STS.SWEEP 1)), by decide +kernel⟩,
   ⟨rn.p R.CRY_DRBG_STS.STATE 1, by decide +kernel⟩,
   ⟨({ wc (kc 1 1) prv with pins := { prv.pins with pwrGood := false } }).p R.KEY_TLOG_PTR.NEXT 15, true, by decide +kernel⟩,
   ⟨{ rn with vault := { rn.vault with adv := rn.vault.adv.put 255 77 } }, 255, 77, by decide +kernel⟩,
   ⟨rn, 6, 32, by unfold Admitted; decide +kernel⟩,
   ⟨onc 137 aj { rn.p R.CRY_DRBG_STS.STATE 3 with vault := { rn.vault with att := some [1] } }, [1], aj, by decide +kernel⟩,
   ⟨onc 137 aj { rn with vault := { rn.vault with att := some [1] } }, [1], aj, by decide +kernel⟩⟩

end P12

namespace P13

def up (s : State) : State := { s with tenon := { s.tenon with up := true } }
def rn : State := up (State.reset.p R.CFG_STS.STATE 6)
def st (n v m : Nat) (s : State) : State := (s.setLdState n v).p (R.PWR_LD_CTL.MODE n) m
def outp (n c : Nat) (s : State) : State := (s.p (R.PWR_LD_STS.OUT n) 1).modLd n (fun q => { q with claim := c })
def onn (n m : Nat) : State := outp n 50 (st n ldOn m rn)
def perd (n d p : Nat) (s : State) : State := s.modLd n (fun q => { q with period := true, duty := d, pulse := p })

theorem witness_LoadChannelCommands :
    (∃ (s : State) (req : Nat) (n : Nat) (v : Word), n < 24 ∧ Admitted s req (R.PWR_LD_CTL n) v ∧ s.tenon.up = true ∧
        s.tenon.acc.any (fun x => x.req == req) = false ∧ (req ≠ reqCfg ∨ s.beforeRun = false) ∧ s.ldState n = ldOff ∧ s.ldMode n
        = 0 ∧ fieldOf v 30 2 ≠ 0 ∧ s.ldSafe n = false ∧ s.on (R.PWR_LD_STS.TLATCH n) = false) ∧
    (∃ (s : State) (req : Nat) (n : Nat) (v : Word), n < 24 ∧ Admitted s req (R.PWR_LD_CTL n) v ∧ s.tenon.up = true ∧
        s.tenon.acc.any (fun x => x.req == req) = false ∧ (req ≠ reqCfg ∨ s.beforeRun = false) ∧ s.ldState n ≠ ldOff ∧ s.ldState n
        ≠ ldLock ∧ fieldOf v 30 2 = 0) ∧
    (∃ (s : State) (req : Nat) (v : Word), Admitted s req R.PWR_LD_CMD (withField v 8 2 3) ∧ s.tenon.up = true ∧ s.tenon.acc.any
        (fun x => x.req == req) = false ∧ s.stat R.PWR_LD_CMD ≠ statBusy) ∧
    (∃ (s : State) (req : Nat) (n : Nat), n < 24 ∧ Admitted s req R.PWR_LD_CMD (withField (W n) 8 2 1) ∧ s.tenon.up = true ∧
        s.tenon.acc.any (fun x => x.req == req) = false ∧ s.stat R.PWR_LD_CMD ≠ statBusy ∧ s.ldMayClear n = true) ∧
    (∃ (s : State) (req : Nat) (n : Nat), n < 24 ∧ Admitted s req R.PWR_LD_CMD (withField (W n) 8 2 2) ∧ s.tenon.up = true ∧
        s.tenon.acc.any (fun x => x.req == req) = false ∧ s.stat R.PWR_LD_CMD ≠ statBusy) ∧
    (∃ (s : State) (n : Nat) (l : List Nat), n < 24 ∧ s.grantOrder ((List.range 24).filter (fun k => s.ldState k == ldWait &&
        (s.windowOf (k / 4)).isNone && !s.ldSafe k)) = n :: l ∧ s.ldMode n = 1 ∧ (s.ld n).kind = .command ∧ s.fits (s.claimOf n
        (s.inrushMs n != 0)) = true) ∧
    (∃ (s : State) (n : Nat) (l : List Nat), n < 24 ∧ s.grantOrder ((List.range 24).filter (fun k => s.ldState k == ldWait &&
        (s.windowOf (k / 4)).isNone && !s.ldSafe k)) = n :: l ∧ (s.ld n).kind = .command ∧ s.fits (s.claimOf n (s.inrushMs n !=
        0)) = false ∧ s.tenon.up = true) ∧
    (∃ (s : State) (n : Nat), n < 24 ∧ s.ldState n = ldInrush ∧ s.ldOut n = true) ∧
    (∃ (s : State) (n : Nat), n < 24 ∧ s.ldActive n = true ∧ s.ldMode n = 2) ∧
    (∃ (s : State) (n : Nat), n < 24 ∧ s.ldState n = ldOn ∧ 2 ≤ s.ldMode n ∧ (s.ld n).period = true ∧ (s.ld n).duty ≠ 0 ∧ s.ldOut
        n = false ∧ s.fits (s.g (R.PWR_LD_BUD.CLAIM n)) = true ∧ (s.ld n).retrying = false) ∧
    (∃ (s : State) (n : Nat), n < 24 ∧ s.ldActive n = true ∧ 2 ≤ s.ldMode n ∧ s.ldOut n = true ∧ (s.ld n).pulse < 1024) ∧
    (∃ (s : State) (n : Nat), n < 24 ∧ s.ldActive n = true ∧ s.ldMode n = 3 ∧ (s.ld n).period = true) :=
  ⟨⟨rn, 6, 23, 0xFE1FFFFF, by unfold Admitted; decide +kernel⟩,
   ⟨onn 23 1, 6, 23, 0x00000001, by unfold Admitted; decide +kernel⟩,
   ⟨st 5 7 1 (onn 23 1), 0, 0, by unfold Admitted; decide +kernel⟩,
   ⟨st 23 7 1 rn, 0, 23, by unfold Admitted; decide +kernel⟩,
   ⟨rn, 0, 23, by unfold Admitted; decide +kernel⟩,
   ⟨st 23 1 1 rn, 23, [], by decide +kernel⟩,
   ⟨outp 0 400 (st 23 1 1 rn), 23, [], by decide +kernel⟩,
   ⟨outp 23 60 (st 23 2 1 rn), 23, by decide +kernel⟩,
   ⟨(st 23 3 2 rn).p (R.PWR_LD_CTL.DUTY 23) 2000, 23, by decide +kernel⟩,
   ⟨perd 23 512 0 (st 23 3 2 rn), 23, by decide +kernel⟩,
   ⟨perd 23 512 512 (onn 23 2), 23, by decide +kernel⟩,
   ⟨perd 23 512 512 (onn 23 3), 23, by decide +kernel⟩⟩

theorem witness_LoadChannelProtection :
    (∃ (s : State) (n : Nat), n < 24 ∧ s.ldOut n = true ∧ s.ldHeld n = false) ∧
    (∃ (s : State) (n : Nat), n < 24 ∧ s.ldOut n = true ∧ s.ldState n = ldOn ∧ s.ldHeld n = false) ∧
    (∃ (s : State) (n : Nat) (nj : Nat), n < 24 ∧ s.ldState n ≠ ldLock ∧ s.ldOut n = false ∧ (s.emaxPj n < nj * 1000 ∨ s.g
        (R.PWR_LD_CLMP.EBUD n) * 500000000 < s.clampNow n + nj * 1000)) ∧
    (∃ (s : State) (n : Nat) (nj : Nat), n < 24 ∧ nj * 1000 ≤ s.emaxPj n ∧ s.clampNow n + nj * 1000 ≤ s.g (R.PWR_LD_CLMP.EBUD n) *
        500000000) ∧
    (∃ (s : State) (n : Nat), n < 24 ∧ s.ldActive n = true ∧ s.on (R.PWR_LD_STS.TLATCH n) = false ∧ s.ldHeld n = false) ∧
    (∃ (s : State) (g : Nat) (x : Nat), g < 6) ∧
    (∃ (s : State) (g : Nat) (x : Nat), g < 6) ∧
    (∃ (s : State) (n : Nat), n < 24 ∧ s.g (R.PWR_LD_STS.TLATCH n) = 1 ∧ s.ldState n = ldTherm ∧ s.ldMode n ≠ 0 ∧ s.ldMayRetry n =
        true) ∧
    (∃ (s : State) (n : Nat), n < 24 ∧ s.ldState n = ldTrip ∧ s.on (R.PWR_LD_STS.TLATCH n) = false) ∧
    (∃ (s : State) (n : Nat), n < 24 ∧ s.ldActive n = true) ∧
    (∃ (s : State) (n : Nat), n < 24 ∧ s.on (R.PWR_LD_PROT.OL_EN n) = true ∧ s.ldState n = ldOn ∧ s.ldOut n = true ∧ s.on
        (R.PWR_LD_STS.OPEN n) = false) ∧
    (∃ (s : State) (n : Nat), n < 24 ∧ s.ldState n = ldOn ∧ s.ldOut n = true) :=
  ⟨⟨onn 23 1, 23, by decide +kernel⟩,
   ⟨(onn 23 1).p (R.PWR_LD_STS.RTY_CNT 23) 3, 23, by decide +kernel⟩,
   ⟨st 23 3 1 rn, 23, 15000001, by decide +kernel⟩,
   ⟨st 23 3 1 rn, 23, 15000000, by decide +kernel⟩,
   ⟨onn 23 1, 23, by decide +kernel⟩,
   ⟨onn 23 1, 5, 229, by decide +kernel⟩,
   ⟨onn 23 1, 5, 229, by decide +kernel⟩,
   ⟨((st 23 5 1 rn).p (R.PWR_LD_STS.TLATCH 23) 1).modLd 23 (fun q => { q with kind := .thermal }), 23, by decide +kernel⟩,
   ⟨st 23 4 1 rn, 23, by decide +kernel⟩,
   ⟨(onn 23 1).p (R.PWR_LD_STS.RTY_CNT 23) 3, 23, by decide +kernel⟩,
   ⟨(onn 23 1).p (R.PWR_LD_PROT.OL_EN 23) 1, 23, by decide +kernel⟩,
   ⟨(onn 23 1).p (R.PWR_LD_STS.OPEN 23) 1, 23, by decide +kernel⟩⟩

theorem witness_LoadSupplyAndCurrent :
    (∃ (s : State), clampNat 40 200 (s.g R.PWR_SUP_CFG.VS_SAVE) ≤ s.vsUv) ∧
    (∃ (s : State), s.loads.stag = []) ∧
    (∃ (s : State) (n : Nat) (l : List Nat), n < 24 ∧ s.loads.stag = n :: l ∧ s.ldState n = ldUv ∧ s.ldMode n ≠ 0 ∧ s.ldSafe n =
        false ∧ s.on (R.PWR_LD_STS.TLATCH n) = false) ∧
    (∃ (s : State) (n : Nat) (code : Nat) (tj : Nat), n < 24 ∧ (s.ld n).conv = true ∧ s.tenon.lostState = false) :=
  ⟨⟨(st 0 5 1 (onn 23 1)).p R.PWR_LD_GLB.VS_UV 200, by decide +kernel⟩,
   ⟨st 0 8 1 (st 23 8 1 rn), by decide +kernel⟩,
   ⟨{ st 23 8 1 rn with loads := { rn.loads with stag := [23, 0] } }, 23, [0], by decide +kernel⟩,
   ⟨rn.modLd 23 (fun q => { q with conv := true }), 23, 5000, 300, by decide +kernel⟩⟩

end P13

namespace P14

def up (s : State) : State := { s with tenon := { s.tenon with up := true } }
def rn : State := up (State.reset.p R.CFG_STS.STATE 6)
def ff (s : State) : State := s.modSlp (fun x => { x with firstFree := true })
def trs (c m : Nat) (s : State) : State := s.p (R.PWR_TRX_STS.STATE c) m
def sw (c : Nat) (s : State) : State := (trs c 2 s).modSlp (fun x => { x with sampled := x.sampled.set (fun _ => []) c [0x40000000, 0x123, 0x1FFFFFFF, 0, 0], firstFree := false })
def ms (v : Nat) : State := rn.setSlp v

theorem witness_TransceiversAndWakes :
    (∃ (s : State) (req : Nat) (c : Nat) (v : Word), c < 16 ∧ Admitted s req (R.PWR_TRX_CFG c) v ∧ s.tenon.up = true ∧
        s.tenon.acc.any (fun x => x.req == req) = false ∧ trxMode (fieldOf v 29 3) ≠ trxSw ∧ s.trx c ≠ trxMode (fieldOf v 29 3) ∧
        (s.trx c = trxNormal → s.canState c = canOffSt ∨ s.canState c = canIntegrating)) ∧
    (∃ (s : State) (req : Nat) (c : Nat) (v : Word), c < 16 ∧ Admitted s req (R.PWR_TRX_CFG c) v ∧ s.tenon.up = true ∧
        s.tenon.acc.any (fun x => x.req == req) = false ∧ s.trx c = trxMode (fieldOf v 29 3)) ∧
    (∃ (s : State) (c : Nat), c < 16 ∧ (s.trx c = trxWupSleep ∨ s.trx c = trxSw) ∧ s.slpState = slpAwake ∧ s.slp.firstFree = true) ∧
    (∃ (s : State) (c : Nat) (id : Nat) (dlc : Nat) (ide : Bool) (rtr : Bool) (d : List Byte), c < 16 ∧ s.decoding c = true ∧
        s.slpState = slpAwake ∧ s.slp.firstFree = false ∧ swMatch (s.slp.sampled.get (fun _ => []) c) ide rtr id dlc d = true) ∧
    (∃ (s : State) (c : Nat) (n : Nat), c < 16 ∧ s.decoding c = true ∧ s.slpState = slpAwake ∧ s.g (R.PWR_TRX_STS.ERRCNT c) + n <
        32) ∧
    (∃ (s : State) (c : Nat) (n : Nat), c < 16 ∧ s.decoding c = true ∧ s.slpState = slpAwake ∧ s.slp.firstFree = true ∧ 32 ≤ s.g
        (R.PWR_TRX_STS.ERRCNT c) + n) ∧
    (∃ (s : State) (c : Nat), c < 16 ∧ s.trx c = trxSw) ∧
    (∃ (s : State) (i : Nat), i < 4 ∧ bit s.slp.level i = false ∧ s.on (R.PWR_WK_CFG.EN i) = true ∧ s.g (R.PWR_WK_CFG.TYPE i) = 0
        ∧ s.slpState = slpAwake ∧ s.slp.firstFree = true) ∧
    (∃ (s : State), s.slpState = slpAsleep ∧ s.rd R.PWR_SLP_TIMER ≠ 0 ∧ s.slp.firstFree = true) ∧
    (∃ (s : State) (c : Nat), c < 16 ∧ s.trx c = trxWoken ∧ s.g (R.PWR_TRX_CFG.MODE c) ≠ trxSw) :=
  ⟨⟨rn, 6, 15, 0x80000000, by unfold Admitted; decide +kernel⟩,
   ⟨trs 15 1 rn, 6, 15, 0xE0000000, by unfold Admitted; decide +kernel⟩,
   ⟨ff (trs 15 1 rn), 15, by decide +kernel⟩,
   ⟨(sw 15 rn).p (R.PWR_TRX_STS.ERRCNT 15) 9, 15, 0x123, 0, false, false, [], by decide +kernel⟩,
   ⟨sw 15 rn, 15, 31, by decide +kernel⟩,
   ⟨ff (sw 15 rn), 15, 32, by decide +kernel⟩,
   ⟨(sw 15 rn).p (R.PWR_TRX_STS.BIAS 15) 1, 15, by decide +kernel⟩,
   ⟨ff (rn.p (R.PWR_WK_CFG.EN 3) 1), 3, by decide +kernel⟩,
   ⟨ff ((ms 4).wr R.PWR_SLP_TIMER 5), by decide +kernel⟩,
   ⟨trs 15 5 rn, 15, by decide +kernel⟩⟩

theorem witness_SleepMaster :
    (∃ (s : State) (req : Nat), Unlocked s req R.PWR_SLP_CMD 1 ∧ s.tenon.up = true ∧ s.tenon.acc.any (fun x => x.req == req) =
        false ∧ s.stat R.PWR_SLP_CMD ≠ statBusy ∧ s.slpState = slpAwake ∧ s.g R.PWR_SLP_MASK.BUS ≠ 0 ∧ s.g R.PWR_SLP_MASK.PHY_EN =
        0 ∧ (∀ c, c < 16 → s.g (R.PWR_SLP_ANN.EN c) = 0) ∧ (∀ i, i < 4 → s.g (R.PWR_WK_CFG.EN i) = 0)) ∧
    (∃ (s : State) (c : Nat), c < 16 ∧ s.slpState = slpPreparing ∧ bit (s.g R.PWR_SLP_MASK.BUS) c = true ∧ s.slp.ann = [] ∧
        s.slp.mdio = 0 ∧ s.g R.PWR_SLP_MASK.BUS &&& setBit (s.g R.PWR_SLP_STS.QUIET) c true = s.g R.PWR_SLP_MASK.BUS) ∧
    (∃ (s : State) (c : Nat), c < 16 ∧ s.slpState = slpPreparing ∧ bit (s.g R.PWR_SLP_MASK.BUS) c = true ∧ s.slp.mdio ≠ 0) ∧
    (∃ (s : State) (req : Nat), Unlocked s req R.PWR_SLP_CMD 3 ∧ s.tenon.up = true ∧ s.tenon.acc.any (fun x => x.req == req) =
        false ∧ (s.slpState = slpPreparing ∨ s.slpState = slpReady) ∧ s.slp.ann = [] ∧ s.g R.PWR_SLP_MASK.PHY_EN = 0) ∧
    (∃ (s : State), s.slpState = slpPreparing ∧ s.slp.ann = [] ∧ s.g R.PWR_SLP_MASK.PHY_EN = 0 ∧ s.stat R.PWR_SLP_CMD = statBusy) ∧
    (∃ (s : State) (req : Nat), Unlocked s req R.PWR_SLP_CMD 2 ∧ s.tenon.up = true ∧ s.tenon.acc.any (fun x => x.req == req) =
        false ∧ s.stat R.PWR_SLP_CMD ≠ statBusy ∧ s.slpState = slpReady) ∧
    (∃ (s : State), s.slpState = slpCommitting ∧ (∀ n, n < 24 → s.ldState n = ldOff) ∧ s.g R.PWR_SUP_STS.SAVE ≠ 1 ∧ s.stat
        R.PWR_SLP_CMD = statBusy) ∧
    (∃ (s : State), s.slpState = slpWaking ∧ (∀ i, i < 4 → s.g (R.PWR_WK_CFG.EN i) = 0)) :=
  ⟨⟨(rn.setArmed 0 true).p R.PWR_SLP_MASK.BUS 0x8000, 0, by unfold Unlocked Admitted; decide +kernel⟩,
   ⟨((ms 1).p R.PWR_SLP_MASK.BUS 0x8001).p R.PWR_SLP_STS.QUIET 1, 15, by decide +kernel⟩,
   ⟨((ms 1).p R.PWR_SLP_MASK.BUS 0x8001).modSlp (fun x => { x with mdio := 1 }), 15, by decide +kernel⟩,
   ⟨((ms 1).setArmed 0 true).p R.PWR_SLP_MASK.BUS 1, 0, by unfold Unlocked Admitted; decide +kernel⟩,
   ⟨((ms 1).p R.PWR_SLP_MASK.BUS 1).setStat R.PWR_SLP_CMD 1, by decide +kernel⟩,
   ⟨(ms 2).setArmed 0 true, 0, by unfold Unlocked Admitted; decide +kernel⟩,
   ⟨(ms 3).setStat R.PWR_SLP_CMD 1, by decide +kernel⟩,
   ⟨ms 5, by decide +kernel⟩⟩

end P14

namespace P15

def rn : State := (State.reset.p R.CFG_STS.STATE 6).p R.BRG_LINK.UP 1
def ms : State := rn.p R.BRG_LINK.MSE 1
def bm : State := rn.p R.BRG_LINK.BME 1
def ir : InRead := { src := .inRead 5 7, addr := 0, left := 1, got := [] }
def orr (s : State) : State := { s with brg := { s.brg with outReads := [{ tag := 9, src := .other, addr := 64, len := 4 }] } }
def wt (b : Bool) (s : State) : State := { s with brg := { s.brg with ready := b } }

theorem witness_BridgeInboundRequests :
    (∃ (s : State) (rid : Nat) (k : Nat) (w : Word), k < 16 ∧ s.g R.BRG_LINK.UP = 1 ∧ s.g R.BRG_LINK.MSE = 1 ∧ s.loadRefused
        reqHost (R.BRG_SEM k) = false ∧ s.saving = false) ∧
    (∃ (s : State) (rid : Nat) (off : Nat) (w : Word), off < 2 ^ 26 ∧ off % 4 = 0 ∧ rowOf off = none ∧ s.g R.BRG_LINK.UP = 1 ∧ s.g
        R.BRG_LINK.MSE = 1 ∧ s.loadRefused reqHost off = false) ∧
    (∃ (s : State) (rid : Nat) (off : Nat) (l : List Word), rid < 65536 ∧ off < 2 ^ 26 ∧ off % 4 = 0 ∧ s.g R.BRG_LINK.UP = 1 ∧ s.g
        R.BRG_LINK.MSE = 1 ∧ s.saving = false) ∧
    (∃ (s : State) (rid : Nat) (tag : Nat) (k : Nat) (be : Nat) (be' : Nat), k < 16 ∧ s.g R.BRG_LINK.UP = 1 ∧ s.g R.BRG_LINK.MSE =
        1 ∧ s.saving = false) ∧
    (∃ (s : State) (rid : Nat) (tag : Nat) (off : Nat) (be : Nat) (be' : Nat), off < 2 ^ 26 ∧ off % 4 = 0 ∧ rowOf off = none ∧ s.g
        R.BRG_LINK.UP = 1 ∧ s.g R.BRG_LINK.MSE = 1) ∧
    (∃ (s : State) (rid : Nat) (tag : Nat) (r : InRead), s.brg.inReads = [r] ∧ r.src = .inRead rid tag ∧ s.saving = false) ∧
    (∃ (s : State) (u : State) (rid : Nat) (tag : Nat) (off : Nat) (n : Nat) (w : Word), off % 4 = 0 ∧ s.g R.BRG_LINK.UP = 1 ∧ s.g
        R.BRG_LINK.MSE = 1 ∧ (s.bump R.BRG_IN_WR_LO).dramWrite (s.g R.BRG_WIN.BASE_MIB * 1048576 + off % 2 ^ 28) (leBytes 4
        w.toNat) = (u, true)) ∧
    (∃ (s : State) (rid : Nat) (tag : Nat) (off : Nat) (be : Nat) (w : Word), off % 4 = 0 ∧ s.g R.BRG_LINK.UP = 1 ∧ s.g
        R.BRG_LINK.MSE = 1 ∧ s.saving = false ∧ beyond (s.g R.BRG_WIN.BASE_MIB * 1048576 + off % 2 ^ 28) 4 = false ∧ (linesOf (s.g
        R.BRG_WIN.BASE_MIB * 1048576 + off % 2 ^ 28) 4).any s.poisoned = false) ∧
    (∃ (s : State) (rid : Nat) (tag : Nat) (k : Nat) (a : Nat) (b : Nat), k < 16 ∧ s.g R.BRG_LINK.UP = 1 ∧ s.g R.BRG_LINK.MSE = 1
        ∧ s.loadRefused reqHost (R.BRG_SEM k) = false ∧ s.saving = false) ∧
    (∃ (s : State) (rid : Nat) (tag : Nat) (k : Nat) (a : Nat) (b : Nat), k < 16 ∧ s.g R.BRG_LINK.UP = 1 ∧ s.g R.BRG_LINK.MSE = 1
        ∧ s.loadRefused reqHost (R.BRG_SEM k) = false ∧ s.saving = false) ∧
    (∃ (s : State) (rid : Nat) (tag : Nat), s.g R.BRG_LINK.UP = 1 ∧ s.saving = false) :=
  ⟨⟨ms, 5, 15, 0xFFFFFFFF, by decide +kernel⟩,
   ⟨ms, 5, 0x3FFFFFC, 1, by decide +kernel⟩,
   ⟨ms.p R.BRG_LFL_PTR.NEXT 15, 65535, 0x3FFFFFC, [1, 2], by decide +kernel⟩,
   ⟨ms.wr (R.BRG_SEM 15) 77, 5, 7, 15, 15, 0, by decide +kernel⟩,
   ⟨ms, 5, 7, 0x3FFFFFC, 6, 0, by decide +kernel⟩,
   ⟨{ ms with brg := { ms.brg with inReads := [ir] } }, 5, 7, ir, by decide +kernel⟩,
   ⟨(ms.p R.MEM_STS.INIT 1).p R.BRG_WIN.BASE_MIB 1, ((((ms.p R.MEM_STS.INIT 1).p R.BRG_WIN.BASE_MIB 1).bump
       R.BRG_IN_WR_LO).dramWriteOwn (((ms.p R.MEM_STS.INIT 1).p R.BRG_WIN.BASE_MIB 1).g R.BRG_WIN.BASE_MIB * 1048576 + 60 % 2 ^
       28) (leBytes 4 (77 : Word).toNat)), 5, 7, 60, 0, 77, by decide +kernel, by decide +kernel, by decide +kernel,
       State.dramWrite_low _ (by decide +kernel) (by decide +kernel) (by decide +kernel) (by decide +kernel)⟩,
   ⟨(ms.p R.MEM_STS.INIT 1).p R.BRG_WIN.BASE_MIB 1, 5, 7, 60, 15, 77,
       by (and_intros <;> first | exact (beyond_low (by decide +kernel)) | decide +kernel)⟩,
   ⟨ms.wr (R.BRG_SEM 15) 0xFFFFFFFF, 5, 7, 15, 2, 0, by decide +kernel⟩,
   ⟨ms.wr (R.BRG_SEM 15) 0xFFFFFFFF, 5, 7, 15, 0xFFFFFFFF, 9, by decide +kernel⟩,
   ⟨ms, 5, 7, by decide +kernel⟩⟩

theorem witness_BridgeLinkAndOutbound :
    (∃ (s : State) (rid : Nat) (tag : Nat) (reg : Nat) (be : Nat) (wr : Bool) (v : Word), s.g R.BRG_LINK.UP = 1 ∧ s.brg.ready =
        false) ∧
    (∃ (s : State) (rid : Nat) (tag : Nat) (be : Nat) (v : Word) (b : Bool), s.g R.BRG_LINK.UP = 1 ∧ s.brg.ready = true) ∧
    (∃ (s : State) (rid : Nat) (tag : Nat) (v : Word), s.g R.BRG_LINK.UP = 1 ∧ v.toNat < 2 ^ 32) ∧
    (∃ (s : State) (width : Nat) (speed : Nat), s.brg.training = true ∧ s.g R.BRG_LINK.UP = 0 ∧ linkOk width speed = true) ∧
    (∃ (s : State) (width : Nat) (speed : Nat), s.coreUp = true ∧ s.loader.pllLocked = true ∧ s.g R.BRG_LINK.UP = 0 ∧ linkOk width
        speed = true) ∧
    (∃ (s : State), s.g R.BRG_LINK.UP = 1 ∧ s.brg.outReads = [] ∧ (∀ p ∈ s.grit.running, softTouchesHost p.2 = false) ∧ (∀ j ∈
        s.grit.waiting, softTouchesHost j = false) ∧ s.saving = false) ∧
    (∃ (s : State) (a : Nat) (d : List Byte), a < 2 ^ 63 ∧ s.g R.BRG_LINK.UP = 1 ∧ s.g R.BRG_LINK.BME = 1 ∧ 0 < d.length ∧
        d.length ≤ 4096 - a % 4096 ∧ d.length ≤ s.brg.mps ∧ s.saving = false) ∧
    (∃ (s : State) (a : Nat) (d : List Byte), s.g R.BRG_LINK.BME = 0 ∧ s.saving = false) ∧
    (∃ (s : State) (a : Nat) (n : Nat), a < 2 ^ 63 ∧ s.g R.BRG_LINK.UP = 1 ∧ s.g R.BRG_LINK.BME = 1 ∧ 0 < n ∧ n ≤ 4096 - a % 4096
        ∧ n ≤ s.brg.mrrs ∧ s.brg.outReads = [] ∧ s.saving = false) ∧
    (∃ (s : State) (tag : Nat) (d : List Byte) (r : OutRead), s.g R.BRG_LINK.UP = 1 ∧ s.brg.outReads = [r] ∧ r.tag = tag ∧ r.got =
        none ∧ r.src = .other) ∧
    (∃ (s : State) (tag : Nat) (r : OutRead), s.brg.outReads = [r] ∧ r.tag = tag ∧ r.got = none ∧ r.src = .other ∧ s.saving =
        false) :=
  ⟨⟨wt false rn, 5, 7, 0, 15, false, 0, by decide +kernel⟩,
   ⟨wt true rn, 5, 7, 15, 0, false, by decide +kernel⟩,
   ⟨wt false rn, 5, 7, 0x12345678, by decide +kernel⟩,
   ⟨let u := rn.p R.BRG_LINK.UP 0; { u with brg := { u.brg with training := true } }, 4, 4, by decide +kernel⟩,
   ⟨let u := rn.p R.BRG_LINK.UP 0; { u with pins := { u.pins with pwrGood := true, resetN := true }, loader := { u.loader with
         pllLocked := true } }, 1, 1, by decide +kernel⟩,
   ⟨bm.wr (R.MSIX_TAB_W0 63) 77, by decide +kernel⟩,
   ⟨bm, 4095, [7], by decide +kernel⟩,
   ⟨rn, 4095, [7], by decide +kernel⟩,
   ⟨bm, 4095, 1, by decide +kernel⟩,
   ⟨orr bm, 9, [1,2,3,4], { tag := 9, src := .other, addr := 64, len := 4 }, by decide +kernel⟩,
   ⟨orr bm, 9, { tag := 9, src := .other, addr := 64, len := 4 }, by decide +kernel⟩⟩

end P15

namespace P16

def rn : State := State.reset.p R.CFG_STS.STATE 6
def en (c : Nat) (s : State) : State := s.p (R.DMA_CH_CFG.EN c) 1
def st (c v : Nat) (s : State) : State := s.p (R.DMA_CH_STS.STATE c) v
def db (src dst next len ctl : Nat) : List Byte := leBytes 8 src ++ leBytes 8 dst ++ leBytes 8 next ++ leBytes 4 len ++ leBytes 4 ctl
def mi : State := rn.p R.MEM_STS.INIT 1
def wD (l : List Byte) : State := mi.dramWriteOwn 64 l
def chn (c : Nat) (s : State) (k : Chan) : State := s.modChan c (fun _ => k)
def dN (n : Nat) : List Byte := db (dramBase + 1) (dramBase + 4097) 0 n 0
def sD (n : Nat) : State := chn 255 (st 255 2 (wD (dN n))) { fetch := some (dramBase + 64) }
theorem rdOk (n : Nat) (hp : (linesOf 64 32).any (sD n).poisoned = false) (hb : (sD n).dramBytes 64 32 = dN n) :
    (sD n).devRead [] (dramBase + 64) 32 = (sD n, .inl (dN n)) := by
  rw [State.devRead_low (o := 64) _ _ (by decide) (by decide) hp, hb]
def dd : Desc := { addr := dramBase, src := dramBase + 4096, dst := dramBase + 8192, next := 0, len := 60, ctl := 2 ^ 26 }
def d1 : Desc := { addr := dramBase, src := R.FLT_SAVE_REC 0, dst := R.BRG_SEM 0, next := 0, len := 60, ctl := 2 ^ 26 }
def bh : State := chn 255 (st 255 2 mi) { desc := some d1 }
def bi : State := { bh with dma := { bh.dma with last := bh.dma.last.set (fun _ => 31) 7 31 } }.issued 255 60 d1
def bg : State := chn 255 (st 255 2 mi) { desc := some dd }
def qo (q : Nat) (n : Nat) : State := ((rn.p (R.QUE_CFG.EN q) 1).p (R.QUE_RD.RD q) 32767).qSetWr q n
def qi (q : Nat) (n : Nat) : State := (qo q n).p (R.QUE_CFG.DIR q) 1
def lw : Word := 0x8100000A
def cq (s : State) : State := { s.p R.CQP_CFG.EN 1 with cqp := { sel := true, out := [7] } }
def dq : Desc := { addr := 0, src := 0, dst := dramBase, next := 0, len := 4096, ctl := 2 ^ 25 + 63 * 2 ^ 18 }
def ct (s : State) (c : Cqp) : State := { s with cqp := c }

theorem witness_DmaChannels :
    (∃ (s : State) (req : Nat) (c : Nat), c < 256 ∧ Admitted s req (R.DMA_CH_CMD c) 1 ∧ s.stat (R.DMA_CH_CMD c) ≠ statBusy ∧
        s.chState c = chIdle ∧ s.g (R.DMA_CH_CFG.EN c) = 1 ∧ s.beforeRun = false ∧ s.g (R.DMA_CH_CFG.TRIG c) = 0) ∧
    (∃ (s : State) (req : Nat) (c : Nat), c < 256 ∧ Admitted s req (R.DMA_CH_CMD c) 1 ∧ s.stat (R.DMA_CH_CMD c) ≠ statBusy ∧
        s.chState c = chIdle ∧ s.g (R.DMA_CH_CFG.EN c) = 1 ∧ s.beforeRun = false ∧ s.g (R.DMA_CH_CFG.TRIG c) ≠ 0 ∧ (s.chan c).desc
        = none) ∧
    (∃ (s : State) (req : Nat) (c : Nat), c < 256 ∧ Admitted s req (R.DMA_CH_CMD c) 2 ∧ s.stat (R.DMA_CH_CMD c) ≠ statBusy ∧
        (s.chState c = chActive ∨ s.chState c = chArmed) ∧ (s.chan c).desc = none) ∧
    (∃ (s : State) (req : Nat) (c : Nat) (v : Word), c < 256 ∧ Admitted s req (R.DMA_CH_CFG c) (v &&& 0x7FFFFFFF) ∧ s.g
        (R.DMA_CH_CFG.EN c) = 1 ∧ (s.chState c = chActive ∨ s.chState c = chArmed) ∧ (s.chan c).desc = none) ∧
    (∃ (s : State) (req : Nat) (c : Nat), c < 256 ∧ Admitted s req (R.DMA_CH_CMD c) 3 ∧ s.stat (R.DMA_CH_CMD c) ≠ statBusy ∧
        s.chState c = chHalted) ∧
    (∃ (s : State) (c : Nat) (a : Nat) (h : HostMem) (b : List Byte), c < 256 ∧ (s.chan c).fetch = some a ∧ s.chState c = chActive
        ∧ s.devRead h a 32 = (s, .inl b) ∧ s.descOk c (descOf a b) = true ∧ (descOf a b).sq = false ∧ (descOf a b).dq = false) ∧
    (∃ (s : State) (c : Nat) (a : Nat) (h : HostMem) (b : List Byte), c < 256 ∧ (s.chan c).fetch = some a ∧ (s.chan c).desc = none
        ∧ s.chState c = chActive ∧ s.devRead h a 32 = (s, .inl b) ∧ s.descOk c (descOf a b) = false ∧ s.g (R.DMA_CH_ERR_INFO.VALID
        c) = 0 ∧ s.brg.outReads = [] ∧ a < 2 ^ 64) ∧
    (∃ (s : State) (u : State) (v : State) (b : Nat) (c : Nat) (d : Desc) (l : List Byte), b < 8 ∧ s.slotPick b = some c ∧ (s.chan
        c).desc = some d ∧ d.sq = false ∧ d.dq = false ∧ 0 < s.burstLen c d ∧ s.burstLen c d ≤ 64 ∧ (∀ h, targetOf (d.src +
        (s.chan c).ofs) ≠ .host h) ∧ ({ s with dma := { s.dma with last := s.dma.last.set (fun _ => 31) b (c % 32) } }.issued c
        (s.burstLen c d) d).beatRead (d.src + (s.chan c).ofs) (s.burstLen c d) = (u, l, []) ∧ u.beatWrite (d.dst + (s.chan c).ofs)
        l = (v, [])) ∧
    (∃ (s : State) (c : Nat) (d : Desc), c < 256 ∧ (s.chan c).desc = some d ∧ s.chState c = chActive ∧ (s.chan c).ofs = d.len ∧
        (s.chan c).inflight = none ∧ d.wb = false ∧ d.irq = true ∧ d.chain = false ∧ d.sq = false ∧ d.dq = false ∧ d.next = 0 ∧
        s.g (R.DMA_CH_CFG.REARM c) = 0 ∧ s.saving = false) ∧
    (∃ (s : State) (c : Nat) (k : Nat) (a : Nat) (w : Bool) (e : Bool), c < 256 ∧ 1 ≤ k ∧ k ≤ 5 ∧ s.chState c = chActive ∧ (s.chan
        c).desc = none ∧ s.brg.outReads = [] ∧ s.g (R.DMA_CH_ERR_INFO.VALID c) = 0 ∧ s.saving = false ∧ a < 2 ^ 64) :=
  ⟨⟨(en 255 rn).wr64 (R.DMA_CH_DESC_LO 255) 0x1000000040, 0, 255, by unfold Admitted; decide +kernel⟩,
   ⟨((en 255 rn).wr64 (R.DMA_CH_DESC_LO 255) 0x1000000040).p (R.DMA_CH_CFG.TRIG 255) 3, 0, 255,
       by unfold Admitted; decide +kernel⟩,
   ⟨chn 255 (st 255 2 (en 255 rn)) { fetch := some 64 }, 0, 255, by unfold Admitted; decide +kernel⟩,
   ⟨chn 255 (st 255 1 (en 255 rn)) { list := 64 }, 0, 255, 0, by unfold Admitted; decide +kernel⟩,
   ⟨(st 255 3 rn).wr (R.DMA_CH_ERR_INFO 255) 0x80000006, 0, 255, by unfold Admitted; decide +kernel⟩,
   ⟨sD 16777216, 255, dramBase + 64, [], dN 16777216, by decide +kernel, by decide +kernel, by decide +kernel, rdOk 16777216
       (by decide +kernel) (by decide +kernel), by decide +kernel⟩,
   ⟨sD 16777217, 255, dramBase + 64, [], dN 16777217,
       by (and_intros <;> first | exact (rdOk 16777217 (by decide +kernel) (by decide +kernel)) | decide +kernel)⟩,
   ⟨bh, (bi.beatRead (R.FLT_SAVE_REC 0) 60).1, ((bi.beatRead (R.FLT_SAVE_REC 0) 60).1.beatWrite (R.BRG_SEM 0) (List.replicate 60
       0)).1, 7, 255, d1, List.replicate 60 0,
       by (and_intros <;> first | exact (fun h => by (rw [show targetOf (d1.src + (bh.chan 255).ofs) = .bar0 (R.FLT_SAVE_REC 0) by decide +kernel]; simp)) | decide +kernel)⟩,
   ⟨chn 255 (st 255 2 rn) { desc := some dd, ofs := 60 }, 255, dd, by decide +kernel⟩,
   ⟨st 255 2 rn, 255, 5, 2 ^ 63 + 5, true, false, by decide +kernel⟩⟩

theorem witness_MessageQueues :
    (∃ (s : State) (req : Nat) (q : Nat) (v : Word), q < 64 ∧ q ≠ 48 ∧ Admitted s req (R.QUE_RD q) v ∧ s.qIsIn q = false ∧
        s.qBound q = false ∧ (fieldOf v 0 15 + 32768 - s.qRd q) % 32768 ≤ s.qLevel q) ∧
    (∃ (s : State) (req : Nat) (q : Nat) (v : Word), q < 64 ∧ Admitted s req (R.QUE_RD q) v ∧ (s.qIsIn q = true ∨ s.qBound q =
        true ∨ s.qLevel q < (fieldOf v 0 15 + 32768 - s.qRd q) % 32768)) ∧
    (∃ (s : State) (req : Nat) (q : Nat) (v : Word), q < 64 ∧ q ≠ 48 ∧ Admitted s req (R.QUE_WR q) v ∧ s.qIsIn q = true ∧ s.qBound
        q = false ∧ (fieldOf v 0 15 + 32768 - s.qWr q) % 32768 ≤ s.qRoom q ∧ s.saving = false) ∧
    (∃ (s : State) (req : Nat) (q : Nat), q < 64 ∧ q ≠ 48 ∧ Admitted s req (R.QUE_CMD q) 1 ∧ s.stat (R.QUE_CMD q) ≠ statBusy ∧
        s.canDropRem q = true ∧ entryWords (s.qWord q (s.qRd q)) ≤ s.qLevel q) ∧
    (∃ (s : State) (req : Nat) (q : Nat), q < 64 ∧ q ≠ 48 ∧ Admitted s req (R.QUE_CMD q) 2 ∧ s.stat (R.QUE_CMD q) ≠ statBusy) ∧
    (∃ (s : State) (req : Nat) (q : Nat), q < 64 ∧ q ≠ 48 ∧ Admitted s req (R.QUE_CMD q) 3 ∧ s.stat (R.QUE_CMD q) ≠ statBusy) ∧
    (∃ (s : State) (q : Nat), q < 64 ∧ q ≠ 48 ∧ s.qIsIn q = true ∧ s.qEn q = true ∧ s.g (R.QUE_STS.HALT q) = 0 ∧ 0 < s.qLevel q ∧
        s.qWord q (s.qRd q) = idleWord) ∧
    (∃ (s : State) (q : Nat), q < 64 ∧ q ≠ 48 ∧ s.qIsIn q = true ∧ s.qEn q = true ∧ s.g (R.QUE_STS.HALT q) = 0 ∧ 0 < s.qLevel q ∧
        s.qWord q (s.qRd q) ≠ idleWord ∧ inEntryOk (s.qWord q (s.qRd q)) = false ∧ s.saving = false) ∧
    (∃ (s : State) (q : Nat) (c : Nat) (k : Chan) (d : Desc), q < 64 ∧ s.dma.chans = [(c, k)] ∧ k.desc = some d ∧ d.sq = true ∧
        d.q = q ∧ s.chState c = chActive ∧ s.g (R.QUE_TMO.FLUSH_US q) ≠ 0 ∧ 0 < s.qLevel q ∧ s.qLevel q < s.burstLen c d / 4 ∧
        k.timer = none ∧ k.ofs < d.len) :=
  ⟨⟨qo 63 10, 0, 63, 10, by unfold Admitted; decide +kernel⟩,
   ⟨qo 63 10, 0, 63, 11, by unfold Admitted; decide +kernel⟩,
   ⟨qi 63 0, 0, 63, 16383, by unfold Admitted; decide +kernel⟩,
   ⟨(qo 63 8).qStore 63 32767 lw, 0, 63, by unfold Admitted; decide +kernel⟩,
   ⟨qo 63 10, 0, 63, by unfold Admitted; decide +kernel⟩,
   ⟨(qo 63 10).p (R.QUE_STS.HALT 63) 1, 0, 63, by unfold Admitted; decide +kernel⟩,
   ⟨(qi 63 10).qStore 63 32767 idleWord, 63, by decide +kernel⟩,
   ⟨(qi 63 10).qStore 63 32767 0x8000003B, 63, by decide +kernel⟩,
   ⟨{ ((st 255 2 (qo 63 10)).p (R.QUE_TMO.FLUSH_US 63) 20) with dma := { chans := [(255, { desc := some dq })] } }, 63, 255, {
       desc := some dq }, dq, by decide +kernel⟩⟩

theorem witness_CompanionPort :
    (∃ (s : State), s.cqp.sel = false ∧ s.loader.pllLocked = true ∧ s.g R.CQP_CFG.EN = 1) ∧
    (∃ (s : State) (k : Nat) (w : Word), k < 16 ∧ s.cqpOpen = true ∧ s.loadRefused reqCqp (R.BRG_SEM k) = false) ∧
    (∃ (s : State) (k : Nat), k < 16 ∧ s.cqpOpen = true) ∧
    (∃ (s : State) (q : Nat) (n : Nat), s.cqpOpen = true ∧ 48 ≤ q ∧ q ≤ 55 ∧ s.qIsIn q = false ∧ n < 65536) ∧
    (∃ (s : State) (q : Nat) (n : Nat), s.cqpOpen = true ∧ 48 ≤ q ∧ q ≤ 55 ∧ s.qIsIn q = false ∧ n < 65536) ∧
    (∃ (s : State) (q : Nat) (l : List Word), s.cqpOpen = true ∧ 48 ≤ q ∧ q ≤ 55 ∧ s.qIsIn q = true) ∧
    (∃ (s : State) (q : Nat) (l : List Word), s.cqpOpen = true ∧ (q < 48 ∨ 55 < q ∨ s.qIsIn q = false)) ∧
    (∃ (s : State) (q : Nat), s.cqpOpen = true ∧ 49 ≤ q ∧ q ≤ 55 ∧ s.canDropRem q = true ∧ entryWords (s.qWord q (s.qRd q)) ≤
        s.qLevel q) ∧
    (∃ (s : State), s.cqpOpen = true) ∧
    (∃ (s : State) (n : Nat), s.cqp.sel = true ∧ s.cqp.take = none ∧ s.cqp.put = none ∧ s.brg.inReads = [] ∧ s.tenon.acc = [] ∧
        s.saving = false ∧ s.cqp.outcome = cqpOk ∧ s.cqp.cmd = true) ∧
    (∃ (s : State) (q : Nat) (n : Nat), s.cqp.sel = true ∧ s.cqp.take = some (q, n) ∧ s.cqp.put = none ∧ s.brg.inReads = [] ∧
        s.tenon.acc = [] ∧ 49 ≤ q ∧ q ≤ 55 ∧ s.saving = false ∧ s.cqp.outcome = cqpOk ∧ s.cqp.cmd = true ∧ isEntry (s.qWord q
        (s.qRd q)) = true ∧ n = entryWords (s.qWord q (s.qRd q)) ∧ n ≤ s.qLevel q) ∧
    (∃ (s : State), s.g R.CQP_CFG.EN = 1 ∧ s.g R.CQP_CFG.ALIVE_MS ≠ 0) :=
  ⟨⟨{ rn.p R.CQP_CFG.EN 1 with loader := { rn.loader with pllLocked := true } }, by decide +kernel⟩,
   ⟨cq rn, 15, 0xFFFFFFFF, by decide +kernel⟩,
   ⟨cq (rn.wr (R.BRG_SEM 15) 77), 15, by decide +kernel⟩,
   ⟨cq (qo 55 3), 55, 65535, by decide +kernel⟩,
   ⟨cq (qo 55 3), 55, 9, by decide +kernel⟩,
   ⟨cq (qi 55 3), 55, [1, 2], by decide +kernel⟩,
   ⟨cq (qo 55 3), 55, [1, 2], by decide +kernel⟩,
   ⟨cq ((qo 55 8).qStore 55 32767 lw), 55, by decide +kernel⟩,
   ⟨cq (rn.p R.CQP_STS.LAST 4), by decide +kernel⟩,
   ⟨ct rn { sel := true, cmd := true }, 0, by decide +kernel⟩,
   ⟨ct ((qo 55 8).qStore 55 32767 lw) { sel := true, cmd := true, take := some (55, 8) }, 55, 8, by decide +kernel⟩,
   ⟨(rn.p R.CQP_CFG.EN 1).p R.CQP_CFG.ALIVE_MS 5, by decide +kernel⟩⟩

end P16

namespace P17

def rn : State := (State.reset.p R.CFG_STS.STATE 6).p R.MEM_STS.INIT 1
def area (s : State) : State := (s.p R.MEM_REC_AREA.BASE_MIB 16).p R.MEM_REC_AREA.SIZE_MIB 64
def ra (r : Nat) (s : State) : State := ((area s).p (R.MEM_RING_AREA.BASE_MIB r) 17).p (R.MEM_RING_AREA.SIZE_MIB r) 2 |>.p (R.MEM_RING_WIN.PRE_MIB r) 1
def rs (r v : Nat) (s : State) : State := s.setRing r v
def geo (r : Nat) (s : State) : State := s.modRing r (fun _ => { seq := 7, base := 17 * 1048576, size := 2097152 })
def fr : Frame := { bytes := List.replicate 60 3, stampTb := 1, stamp := 5000000000000000000 }
def cp : RecCopy := { ring := 63, frame := List.replicate 64 3, tb := 1, stamp := 5000000000 }
def fr2 (s : State) : State := { s with sw := { s.sw with recq := [(63, fr)] } }
def cpy (s : State) : State := { s with mem := { s.mem with buf := [cp], bufUsed := 64 } }
def atWr (w : Nat) (s : State) : State := s.wr (R.MEM_RING_WR 63) (W w)
def src (q v g : Nat) (s : State) : State := (s.p (R.MEM_RING_TRIG.SRC q) v).p (R.MEM_RING_TRIG.GROUP q) g
def expo (s : State) : State := (s.p R.MEM_EXP_AREA.BASE_MIB 200).p R.MEM_EXP_AREA.SIZE_MIB 1
def ky (s : State) : State := ((((s.p R.KEY_STS.PROV 1).p (R.KEY_SLOT_CFG.STATE 5) 1).p (R.KEY_SLOT_CFG.USE 5) 63).p (R.KEY_SLOT_CFG.ROOTP 5) 1).setKey 5 (List.replicate 16 5)
def keyd (s : State) : State := ky (s.p R.MEM_EXP_CFG.SLOT 5)
def rec1 : RingRec := { ofs := 0, len := 128, num := 6, pad := false }
def held (s : State) : State := s.modRing 63 (fun g => { g with recs := [rec1, { ofs := 128, len := 128, num := 7, pad := false }] })
def ck : ChunkSt := { index := 0, recs := [rec1], last := true, gap := false }
def ex : ExportSt := { ring := 63, slot := 5, limit := 4096, next := 1, chunks := [ck], all := true }
def jb : Job := { level := 5, user := .chunk 0, slot := 5, blocks := 14, key := List.replicate 16 5, started := true }
def run (s : State) : State := { s with mem := { s.mem with exp := some ex }, grit := { s.grit with running := [(3, jb)] } }
def rawOf (s : State) : List Byte := let b := s.chunkBytes ex { ck with key := some jb.key } (beBytes 8 (kcvOf jb.key)); b ++ cmac jb.key b
theorem rawFits : (((run (keyd (expo (held (rs 63 3 (geo 63 rn)))))).rd R.MEM_EXP_WR).toNat + 2 ^ 32 -
    ((run (keyd (expo (held (rs 63 3 (geo 63 rn)))))).rd R.MEM_EXP_RD).toNat) % 2 ^ 32 +
    ((rawOf (run (keyd (expo (held (rs 63 3 (geo 63 rn))))))).length + 63) / 64 ≤ (run (keyd (expo (held (rs 63 3 (geo 63 rn)))))).expArea.2 / 64 := by
  have h1 : (rawOf (run (keyd (expo (held (rs 63 3 (geo 63 rn))))))).length ≤ 400 := by
    have := cmac_length_le jb.key ((run (keyd (expo (held (rs 63 3 (geo 63 rn)))))).chunkBytes ex { ck with key := some jb.key } (beBytes 8 (kcvOf jb.key)))
    simp only [rawOf, List.length_append, State.chunkBytes, leBytes_length, beBytes_length, List.length_cons, List.length_nil] at this ⊢
    have e1 : (List.flatMap (fun r => (run (keyd (expo (held (rs 63 3 (geo 63 rn)))))).dramBytes (((run (keyd (expo (held (rs 63 3 (geo 63 rn)))))).ring ex.ring).base + r.ofs) r.len)
      ck.recs).length = 128 := by decide +kernel
    have e2 : (ofWords ((run (keyd (expo (held (rs 63 3 (geo 63 rn)))))).rdList (R.MEM_RING_T_LO ex.ring) 3)).length = 12 := by decide +kernel
    omega
  have h2 : (((run (keyd (expo (held (rs 63 3 (geo 63 rn)))))).rd R.MEM_EXP_WR).toNat + 2 ^ 32 -
    ((run (keyd (expo (held (rs 63 3 (geo 63 rn)))))).rd R.MEM_EXP_RD).toNat) % 2 ^ 32 = 0 := by decide +kernel
  have h3 : (run (keyd (expo (held (rs 63 3 (geo 63 rn)))))).expArea.2 = 1048576 := by decide +kernel
  rw [h2, h3]
  omega

theorem witness_RecorderRings :
    (∃ (s : State) (l : Nat), l * 64 + 64 ≤ capBytes) ∧
    (∃ (s : State) (l : Nat), l * 64 + 64 ≤ capBytes ∧ s.poisoned l = false) ∧
    (∃ (s : State) (req : Nat) (r : Nat) (v : Word), r < 64 ∧ Admitted s req (R.MEM_RING_CFG r) (v ||| 0x80000000) ∧ s.g
        (R.MEM_RING_CFG.EN r) = 0 ∧ (req ≠ reqCfg ∨ s.ringState r ≠ ringFrozen) ∧ s.ringValid r = true) ∧
    (∃ (s : State) (req : Nat) (r : Nat) (v : Word), r < 64 ∧ Admitted s req (R.MEM_RING_CFG r) (v &&& 0x7FFFFFFF) ∧ s.g
        (R.MEM_RING_CFG.EN r) = 1 ∧ (req ≠ reqCfg ∨ s.ringState r ≠ ringFrozen) ∧ s.mem.exp.all (fun e => e.ring ≠ r) = true) ∧
    (∃ (s : State) (req : Nat) (r : Nat), r < 64 ∧ Admitted s req R.MEM_REC_CMD (W (0x100 + r)) ∧ s.stat R.MEM_REC_CMD ≠ statBusy
        ∧ bit (s.g (R.MEM_RING_TRIG.SRC r)) 0 = true ∧ s.ringState r = ringRun) ∧
    (∃ (s : State) (req : Nat) (r : Nat), r < 64 ∧ Admitted s req R.MEM_REC_CMD (W (0x100 + r)) ∧ s.stat R.MEM_REC_CMD ≠ statBusy
        ∧ bit (s.g (R.MEM_RING_TRIG.SRC r)) 0 = true ∧ (s.ringState r = ringPost ∨ s.ringState r = ringFrozen) ∧ s.saving = false) ∧
    (∃ (s : State) (r : Nat), r < 64 ∧ s.ringState r = ringPost) ∧
    (∃ (s : State) (req : Nat) (r : Nat), r < 64 ∧ Admitted s req R.MEM_REC_CMD (W (0x200 + r)) ∧ s.stat R.MEM_REC_CMD ≠ statBusy
        ∧ (s.ringState r = ringFrozen ∨ s.ringState r = ringError)) :=
  ⟨⟨rn, capBytes / 64 - 1, by have := capBytes_ge; omega⟩,
   ⟨rs 63 1 (geo 63 rn), 17 * 16384 + 5, Nat.le_trans (by decide) capBytes_ge, by decide +kernel⟩,
   ⟨ra 63 rn, 0, 63, 0x60000000, by decide +kernel, by unfold Admitted; decide +kernel, by decide +kernel, by decide +kernel,
       by (rw [State.ringValid, areaValid_low (by decide +kernel) (by decide +kernel)]; decide +kernel)⟩,
   ⟨rs 63 3 (geo 63 (rn.p (R.MEM_RING_CFG.EN 63) 1)), 0, 63, 0xA0000000, by unfold Admitted; decide +kernel⟩,
   ⟨src 63 1 2 (rs 63 1 (src 0 127 2 (rs 0 1 (geo 63 rn)))), 0, 63, by unfold Admitted; decide +kernel⟩,
   ⟨src 63 1 2 (rs 63 2 rn), 0, 63, by unfold Admitted; decide +kernel⟩,
   ⟨rs 63 2 rn, 63, by decide +kernel⟩,
   ⟨rs 63 3 (geo 63 rn), 0, 63, by unfold Admitted; decide +kernel⟩⟩

theorem witness_RecordsAndExport :
    (∃ (s : State) (r : Nat) (f : Frame) (l : List (Nat × Frame)), s.sw.recq = (r, f) :: l ∧ (s.ringState r = ringRun ∨
        s.ringState r = ringPost) ∧ s.mem.bufUsed + (f.bytes ++ fcsOf f.bytes).length ≤ recBufSize) ∧
    (∃ (s : State) (r : Nat) (f : Frame) (l : List (Nat × Frame)), s.sw.recq = (r, f) :: l ∧ s.saving = false ∧ (recBufSize <
        s.mem.bufUsed + (f.bytes ++ fcsOf f.bytes).length ∨ (s.ringState r ≠ ringRun ∧ s.ringState r ≠ ringPost))) ∧
    (∃ (s : State) (c : RecCopy) (l : List RecCopy) (w : Nat) (n : Nat), s.mem.buf = c :: l ∧ c.ring < 64 ∧ s.ringState c.ring =
        ringRun ∧ s.saving = false ∧ w = (s.rd (R.MEM_RING_WR c.ring)).toNat * 64 ∧ n = (recordBytes c (s.ring c.ring).seq).length
        ∧ w + n ≤ (s.ring c.ring).size) ∧
    (∃ (s : State) (c : RecCopy) (l : List RecCopy) (w : Nat) (n : Nat), s.mem.buf = c :: l ∧ c.ring < 64 ∧ s.ringState c.ring =
        ringRun ∧ w = (s.rd (R.MEM_RING_WR c.ring)).toNat * 64 ∧ n = (recordBytes c (s.ring c.ring).seq).length ∧ (s.ring
        c.ring).size < w + n ∧ n ≤ w ∧ w + 64 ≤ (s.ring c.ring).size) ∧
    (∃ (s : State) (c : RecCopy) (l : List RecCopy) (w : Nat) (n : Nat), s.mem.buf = c :: l ∧ c.ring < 64 ∧ s.ringState c.ring =
        ringPost ∧ w = (s.rd (R.MEM_RING_WR c.ring)).toNat * 64 ∧ n = (recordBytes c (s.ring c.ring).seq).length ∧ w + n ≤ (s.ring
        c.ring).size ∧ s.saving = false ∧ (s.ring c.ring).recs.any (fun x => overlap x.ofs x.len w n && (protectedRecs (s.g
        (R.MEM_RING_WIN.PRE_MIB c.ring) * 1048576) (s.rd (R.MEM_RING_TSEQ c.ring)).toNat 0 (s.ring c.ring).recs.reverse).contains
        x) = true) ∧
    (∃ (s : State) (req : Nat) (r : Nat), r < 64 ∧ Admitted s req R.MEM_REC_CMD (W (0x300 + r)) ∧ s.stat R.MEM_REC_CMD ≠ statBusy
        ∧ s.ringState r = ringFrozen ∧ s.mem.exp = none ∧ s.usable (s.g R.MEM_EXP_CFG.SLOT) = true ∧ s.slotUse (s.g
        R.MEM_EXP_CFG.SLOT) useMac = true ∧ areaValid s.expArea = true ∧ chunkMax ((s.g R.MEM_EXP_CFG.CHUNK + 1) * 4096) ≤
        s.expArea.2) ∧
    (∃ (s : State) (req : Nat) (r : Nat), r < 64 ∧ Admitted s req R.MEM_REC_CMD (W (0x300 + r)) ∧ s.stat R.MEM_REC_CMD ≠ statBusy
        ∧ s.ringState r = ringFrozen ∧ s.mem.exp = none ∧ List.filter (fun (p : Nat × Job) => isChunk p.2) s.grit.running = [] ∧
        (s.usable (s.g R.MEM_EXP_CFG.SLOT) = false ∨ s.slotUse (s.g R.MEM_EXP_CFG.SLOT) useMac = false ∨ areaValid s.expArea =
        false ∨ s.expArea.2 < chunkMax ((s.g R.MEM_EXP_CFG.CHUNK + 1) * 4096))) ∧
    (∃ (s : State) (n : Nat) (e : ExportSt) (c : ChunkSt) (j : Job) (raw : List Byte), s.mem.exp = some e ∧ e.chunks = [c] ∧
        c.last = true ∧ c.recs ≠ [] ∧ List.find? (fun (p : Nat × Job) => p.2.user == .chunk c.index && decide (p.2.blocks ≤ 64))
        s.working = some (n, j) ∧ j.nokey = false ∧ n < 136 ∧ s.grit.retiring = [] ∧ (c.recs.any (fun r => s.recPoisoned (s.ring
        e.ring).base r)) = false ∧ s.saving = false ∧ raw = s.chunkBytes e { c with key := some j.key } (beBytes 8 (kcvOf j.key))
        ++ cmac j.key (s.chunkBytes e { c with key := some j.key } (beBytes 8 (kcvOf j.key))) ∧ ((s.rd R.MEM_EXP_WR).toNat + 2 ^
        32 - (s.rd R.MEM_EXP_RD).toNat) % 2 ^ 32 + (raw.length + 63) / 64 ≤ s.expArea.2 / 64) ∧
    (∃ (s : State) (req : Nat) (e : ExportSt), Admitted s req R.MEM_REC_CMD 0x400 ∧ s.stat R.MEM_REC_CMD ≠ statBusy ∧ s.mem.exp =
        some e ∧ s.grit.retiring = []) :=
  ⟨⟨fr2 (rs 63 2 rn), 63, fr, [], by decide +kernel⟩,
   ⟨fr2 (rs 63 1 { rn with mem := { rn.mem with bufUsed := 1048520 } }), 63, fr, [], by decide +kernel⟩,
   ⟨atWr 2 (held (cpy (rs 63 1 (geo 63 rn)))), cp, [], 128, 128, by decide +kernel⟩,
   ⟨atWr 32767 (held (cpy (rs 63 1 (geo 63 rn)))), cp, [], 2097088, 128, by decide +kernel⟩,
   ⟨((held (cpy (rs 63 2 (geo 63 rn)))).p (R.MEM_RING_WIN.PRE_MIB 63) 1).wr (R.MEM_RING_TSEQ 63) 7, cp, [], 0, 128,
       by decide +kernel⟩,
   ⟨keyd (expo (held (rs 63 3 (geo 63 rn)))), 0, 63,
       by (unfold Admitted; and_intros <;> first | exact (areaValid_low (by decide +kernel) (by decide +kernel)) | decide +kernel)⟩,
   ⟨keyd (held (rs 63 3 (geo 63 rn))), 0, 63, by unfold Admitted; decide +kernel⟩,
   ⟨run (keyd (expo (held (rs 63 3 (geo 63 rn))))), 3, ex, ck, jb, rawOf (run (keyd (expo (held (rs 63 3 (geo 63 rn)))))), by
       refine ⟨?_, ?_, ?_, ?_, ?_, ?_, ?_, ?_, ?_, ?_, rfl, rawFits⟩ <;> decide +kernel⟩,
   ⟨run (keyd (expo (held (rs 63 3 (geo 63 rn))))), 0, ex, by unfold Admitted; decide +kernel⟩⟩

theorem witness_RingsRefused :
    (∃ (s : State) (req : Nat) (r : Nat) (b : Nat) (z : Nat) (v : Word), r < 64 ∧ Admitted s req (R.MEM_RING_CFG r) (v |||
        0x80000000) ∧ s.g (R.MEM_RING_CFG.EN r) = 0 ∧ (req ≠ reqCfg ∨ s.ringState r ≠ ringFrozen) ∧ b = s.g
        (R.MEM_RING_AREA.BASE_MIB r) * 1048576 ∧ z = s.g (R.MEM_RING_AREA.SIZE_MIB r) * 1048576 ∧ (¬ (areaValid s.recArea = true ∧
        s.recArea.1 ≤ b ∧ b + z ≤ s.recArea.1 + s.recArea.2) ∨ (∃ q ∈ List.range 64, q ≠ r ∧ s.ringState q ≠ ringOff ∧ overlap b z
        (s.ring q).base (s.ring q).size = true) ∨ z = 0 ∨ s.g (R.MEM_RING_AREA.SIZE_MIB r) ≤ s.g (R.MEM_RING_WIN.PRE_MIB r))) ∧
    (∃ (s : State) (req : Nat) (r : Nat) (b : Nat) (z : Nat) (v : Word), r < 64 ∧ Admitted s req (R.MEM_RING_CFG r) (v |||
        0x80000000) ∧ s.g (R.MEM_RING_CFG.EN r) = 0 ∧ (req ≠ reqCfg ∨ s.ringState r ≠ ringFrozen) ∧ b = s.g
        (R.MEM_RING_AREA.BASE_MIB r) * 1048576 ∧ z = s.g (R.MEM_RING_AREA.SIZE_MIB r) * 1048576 ∧ areaValid s.recArea = true ∧
        s.recArea.1 ≤ b ∧ b + z ≤ s.recArea.1 + s.recArea.2 ∧ (∀ q ∈ List.range 64, q = r ∨ s.ringState q = ringOff ∨ overlap b z
        (s.ring q).base (s.ring q).size = false) ∧ z ≠ 0 ∧ s.g (R.MEM_RING_WIN.PRE_MIB r) < s.g (R.MEM_RING_AREA.SIZE_MIB r)) ∧
    (∃ (s : State) (req : Nat) (r : Nat) (v : Word), r < 64 ∧ s.g (R.MEM_RING_STS.CFG_ERR r) = 1 ∧ s.g R.MEM_EVT.CFG_ERR = 1 ∧
        s.saving = false ∧ Admitted s req R.MEM_EVT v) :=
  ⟨⟨rn, 0, 63, 0, 0, 0, by (unfold Admitted; and_intros <;> first | exact (Or.inr (Or.inr (Or.inl rfl))) | decide +kernel)⟩,
   ⟨ra 63 rn, 0, 63, 17825792, 2097152, 0x60000000,
       by (unfold Admitted; and_intros <;> first | exact (areaValid_low (by decide +kernel) (by decide +kernel)) | decide +kernel)⟩,
   ⟨(rn.p (R.MEM_RING_STS.CFG_ERR 63) 1).p R.MEM_EVT.CFG_ERR 1, 0, 63, 0x7FF, by unfold Admitted; decide +kernel⟩⟩

end P17

namespace P18

def rn : State := State.reset.p R.CFG_STS.STATE 6
def up : State := { rn with pins := { vs := true, pwrGood := true, resetN := true } }
def flt (f : Flt) (s : State) : State := { s with flt := f }
def rs (r v : Nat) (s : State) : State := s.setRing r v
def busy (s : State) : State := { (((s.p (R.PWR_LD_STS.STATE 23) ldOn).p (R.PWR_LD_STS.STATE 0) ldWait)) with grit := { s.grit with waiting := [{ level := 3, user := .vault }, { level := 4, user := .vault }] } }

theorem witness_FaultsAndDumps :
    (∃ (s : State) (n : Nat) (x : Word), n < 320 ∧ n ≠ 2 ∧ n ≠ 3 ∧ n ≠ 88 ∧ (n < 56 ∨ 61 < n) ∧ faultClass n < 3 ∧ s.g
        (R.FLT_SRC_STS.INSVC n) = 0 ∧ s.saving = false) ∧
    (∃ (s : State) (n : Nat) (x : Word), n < 320 ∧ n ≠ 2 ∧ n ≠ 3 ∧ n ≠ 88 ∧ (n < 56 ∨ 61 < n) ∧ faultClass n < 3 ∧ s.g
        (R.FLT_SRC_STS.INSVC n) = 1 ∧ s.saving = false) ∧
    (∃ (s : State) (n : Nat) (x : Word), (n = 2 ∨ n = 3 ∨ n = 88 ∨ (56 ≤ n ∧ n ≤ 61))) ∧
    (∃ (s : State) (n : Nat) (x : Word), n < 320 ∧ faultClass n = 3 ∧ n ≠ 2 ∧ n ≠ 3 ∧ (n < 56 ∨ 61 < n) ∧ s.flt.path = false ∧
        s.saving = false) ∧
    (∃ (s : State) (n : Nat) (x : Word), n < 320 ∧ faultClass n = 3 ∧ n ≠ 2 ∧ n ≠ 3 ∧ (n < 56 ∨ 61 < n) ∧ s.flt.path = true ∧
        s.saving = false) ∧
    (∃ (s : State) (k : Nat), s.flt.dumpWanted = true ∧ k = (if s.g (R.FLT_DUMP_STS.VALID 0) = 0 then 0 else if s.g
        (R.FLT_DUMP_STS.VALID 1) = 0 then 1 else if s.flt.slotIds.getD 1 0 < s.flt.slotIds.getD 0 0 then 1 else 0)) ∧
    (∃ (s : State) (d : DumpSt), s.flt.dump = some d ∧ s.flt.dumpWanted = false ∧ (s.flt.path = false ∨ s.flt.held = false ∨ s.g
        R.FLT_STS.HOLD = 1) ∧ s.saving = false ∧ d.slot < 2) ∧
    (∃ (s : State) (req : Nat), Admitted s req R.FLT_DUMP_CMD 1 ∧ s.stat R.FLT_DUMP_CMD ≠ statBusy) ∧
    (∃ (s : State) (req : Nat) (k : Nat), k < 2 ∧ Admitted s req R.FLT_DUMP_CMD (W (2 + k * 4)) ∧ s.stat R.FLT_DUMP_CMD ≠
        statBusy) ∧
    (∃ (s : State) (req : Nat), Admitted s req R.FLT_DUMP_CMD 3 ∧ s.stat R.FLT_DUMP_CMD ≠ statBusy) ∧
    (∃ (s : State) (req : Nat), Admitted s req R.FLT_STS 0x80000000) :=
  ⟨⟨rn, 68, 0xFFFFFFFF, by decide +kernel⟩,
   ⟨(rn.p (R.FLT_SRC_STS.INSVC 297) 1).p (R.FLT_SRC_STS.OVF 297) 65534, 297, 5, by decide +kernel⟩,
   ⟨rn, 61, 5, by decide +kernel⟩,
   ⟨((((rs 63 1 rn).p (R.MEM_RING_TRIG.SRC 63) 32).p R.FLT_FATAL_CFG.ACT 1)), 312, 7, by decide +kernel⟩,
   ⟨flt { path := true } ((rn.p R.FLT_STS.FATAL 1).p R.FLT_STS.FATAL_OVF 16383), 0, 7, by decide +kernel⟩,
   ⟨flt { dumpWanted := true, dumpSrc := 4, slotIds := [3, 2] } ((rn.p (R.FLT_DUMP_STS.VALID 0) 1).p (R.FLT_DUMP_STS.VALID 1) 1),
       1, by decide +kernel⟩,
   ⟨flt { dump := some { slot := 1, flags := 4, src := 65535, info := 0, tStart := 0, tb0 := List.replicate 12 0 } } (rn.setStat
       R.FLT_DUMP_CMD 1), { slot := 1, flags := 4, src := 65535, info := 0, tStart := 0, tb0 := List.replicate 12 0 },
       by decide +kernel⟩,
   ⟨rn, 0, by unfold Admitted; decide +kernel⟩,
   ⟨rn.p (R.FLT_DUMP_STS.VALID 1) 1, 0, 1, by unfold Admitted; decide +kernel⟩,
   ⟨flt { path := true, held := true } (rn.p R.FLT_STS.HOLD 1), 0, by unfold Admitted; decide +kernel⟩,
   ⟨flt { path := true, held := true } ((rn.p R.FLT_STS.HOLD 1).p R.FLT_STS.FATAL 1), 0, by unfold Admitted; decide +kernel⟩⟩

theorem witness_SaveAndRepair :
    (∃ (s : State) (uf : Nat) (vs : Nat) (vh : Nat) (e : Nat), s.pins.vs = true ∧ e = uf * (s.vholdSet * s.vholdSet - 49) / 8) ∧
    (∃ (s : State) (vs : Nat) (vh : Nat), s.coreUp = true ∧ s.g R.PWR_SUP_STS.SAVE = 0 ∧ s.sw.frames = []) ∧
    (∃ (s : State) (us : Nat), s.g R.PWR_SUP_STS.SAVE = 1) ∧
    (∃ (s : State), s.g R.PWR_SUP_STS.SAVE = 2 ∧ s.pins.pwrGood = true) ∧
    (∃ (s : State), s.g R.PWR_SUP_STS.SAVE = 1) ∧
    (∃ (s : State) (region : Nat) (unit : Nat) (row : Nat) (src : Nat) (k : Nat) (n : Nat), s.coreUp = true ∧ n = s.g
        R.REP_REC_N.N ∧ n < 512 ∧ s.saving = false) ∧
    (∃ (s : State) (region : Nat) (unit : Nat) (row : Nat) (src : Nat) (b : Nat) (qs : List Nat) (os : List Nat), s.coreUp = true) :=
  ⟨⟨up.p R.PWR_SUP_CFG.VHOLD_SET 24, 100, 1200, 1190, 6587, by decide +kernel⟩,
   ⟨busy up, 1300, 1200, by decide +kernel⟩,
   ⟨up.p R.PWR_SUP_STS.SAVE 1, 330, by decide +kernel⟩,
   ⟨up.p R.PWR_SUP_STS.SAVE 2, by decide +kernel⟩,
   ⟨(up.p R.PWR_SUP_STS.SAVE 1).wr (R.FLT_SAVE_REC 0) 0x5A5A0001, by decide +kernel⟩,
   ⟨up.p R.REP_REC_N.N 511, 15, 63, 511, 288, 511, 511, by decide +kernel⟩,
   ⟨up, 4, 1, 511, 88, 2, [63], [65535], by decide +kernel⟩⟩

theorem witness_FaultSourcesIndependent :
    (∃ (s : State) (n : Nat) (m : Nat) (x : Word), n < 320 ∧ m < 320 ∧ m ≠ n) ∧
    (∃ (s : State) (t : State) (n : Nat) (m : Nat) (x : Word), n < 320 ∧ m < 320 ∧ m ≠ n ∧ t = s.fault n x) :=
  ⟨⟨((rn.p (R.FLT_SRC_STS.INSVC 297) 1).p (R.FLT_SRC_STS.OVF 297) 65534), 312, 297, 5, by decide +kernel⟩,
   ⟨((rn.p (R.FLT_SRC_STS.INSVC 297) 1).p (R.FLT_SRC_STS.OVF 297) 65534), (((rn.p (R.FLT_SRC_STS.INSVC 297) 1).p
       (R.FLT_SRC_STS.OVF 297) 65534)).fault 312 5, 312, 297, 5, by decide +kernel⟩⟩

end P18

namespace P19

def rn : State := State.reset.p R.CFG_STS.STATE 6
def ul (r : Nat) : State := rn.setArmed r true
def mg (m : Mgt) (s : State) : State := { s with mgt := m }
def st (v : Nat) (s : State) : State := s.p R.MGT_STS.STATE v
def body : List Byte := [0x13]
def man : List Byte := [0x48, 0x4B, 0x46, 0x57, 1, 0, 1, 0, 5, 0, 0, 3] ++ leBytes 4 77 ++ leBytes 4 1 ++ leBytes 4 0 ++ leBytes 8 0 ++ leBytes 8 0x90000000 ++
  leBytes 2 0x9256 ++ [0, 0] ++ leBytes 2 0 ++ leBytes 2 1 ++ leBytes 4 0 ++ List.replicate 76 0 ++
  (leBytes 8 0x90000000 ++ leBytes 4 0 ++ leBytes 4 1) ++ List.replicate 112 0 ++ sha256 body
def put (a : Nat) (s : State) : State := { s with flash := man.zipIdx.map (fun p => (a + p.2, p.1)) ++ [(a + 65536, 0x13)] }
def dir (s : State) : State := { s with loader := { s.loader with dir := some [(3, 65536, 262144), (1, 1048576, 65536)] } }
def sr (s : State) : State := { s with mgt := { s.mgt with sram := [(0, 1), (4194303, 0xFF)] } }
def run (s : State) : State := { s with mgt := { s.mgt with running := true } }
def fl (c : FlCmd) (s : State) : State := { s with mgt := { s.mgt with fl := some c } }
def chk (s : State) : State := { s with grit := { s.grit with running := [(137, fwJob)] } }
def cand : State := mg { order := [0, 1], first := 1, begun := true } (put 65536 (dir (st 1 rn)))

theorem witness_ManagementCluster :
    (∃ (s : State) (req : Nat) (v : Word), Unlocked s req R.MGT_RST v ∧ s.stat R.MGT_RST ≠ statBusy ∧ bit v.toNat 0 = true ∧
        s.saving = false) ∧
    (∃ (s : State), s.g R.MGT_WDT.EN = 1 ∧ (s.g R.MGT_STS.STATE = mgtLoader ∨ s.g R.MGT_STS.STATE = mgtRun) ∧ s.saving = false) ∧
    (∃ (s : State) (req : Nat) (v : Word), Admitted s req R.MGT_WDT_KICK v) ∧
    (∃ (s : State) (p : Nat), p < 2 ∧ bit s.mgt.pair p = true ∧ s.saving = false) ∧
    (∃ (s : State) (n : Nat), n < 4) ∧
    (∃ (s : State), s.g R.MGT_STS.STATE = mgtLoader ∧ s.mgt.begun = false ∧ 6 ≤ s.g R.CFG_STS.STATE ∧ s.g R.MGT_FW_SEL.TRIAL = 1) ∧
    (∃ (s : State), s.g R.MGT_STS.STATE = mgtLoader ∧ s.mgt.begun = false ∧ 6 ≤ s.g R.CFG_STS.STATE ∧ s.g R.MGT_FW_SEL.TRIAL = 0 ∧
        s.g R.MGT_FW_SEL.KNOWN = 1 ∧ s.g R.MGT_STS.FALLBACK = 0 ∧ s.saving = false) ∧
    (∃ (s : State) (k : Nat) (l : List Nat) (e : Nat × Nat) (m : List Byte), s.mgt.order = k :: l ∧ k < 2 ∧ s.fwSlot k = some e ∧
        s.fwVerdict (s.slotImg e) = (0, 0) ∧ m = s.flashBytes e.1 4352) ∧
    (∃ (s : State) (k : Nat) (l : List Nat) (b : Bool), s.mgt.order = k :: l ∧ s.fwSlot k = none) :=
  ⟨⟨sr (ul 0), 0, 1, by unfold Unlocked Admitted; decide +kernel⟩,
   ⟨sr (st 2 (rn.p R.MGT_WDT.EN 1)), by decide +kernel⟩,
   ⟨{ rn with tick := 77 }, 4, 0, by unfold Admitted; decide +kernel⟩,
   ⟨sr { rn with tick := 77 }, 1, by decide +kernel⟩,
   ⟨{ rn.wr64 (R.MGT_MTIMECMP_LO 3) 15 with tick := 77 }, 3, by decide +kernel⟩,
   ⟨(st 1 rn).wr R.MGT_FW_SEL 0x2E, by decide +kernel⟩,
   ⟨(st 1 rn).wr R.MGT_FW_SEL 0x29, by decide +kernel⟩,
   ⟨cand, 0, [1], (65536, 262144), cand.flashBytes 65536 4352, by decide +kernel, by decide +kernel, by decide +kernel,
       by decide +kernel, rfl⟩,
   ⟨mg { order := [1] } rn, 1, [], false, by decide +kernel⟩⟩

theorem witness_FirmwareAndFlash :
    (∃ (s : State) (req : Nat) (k : Nat), k < 2 ∧ Unlocked s req R.MGT_FW_CMD (W (1 + k * 16)) ∧ s.stat R.MGT_FW_CMD ≠ statBusy) ∧
    (∃ (s : State) (k : Nat) (c : Nat) (b : Nat) (e : Nat × Nat) (j : Job), s.mgt.check = some (.slot k) ∧ s.jobOn publicKeyUnit =
        some j ∧ j.user = .fwCheck ∧ k < 2 ∧ s.fwSlot k = some e ∧ s.fwVerdict (s.slotImg e) = (c, b) ∧ c < 256 ∧ b < 128) ∧
    (∃ (s : State) (req : Nat), Unlocked s req R.MGT_FW_CMD 2 ∧ s.stat R.MGT_FW_CMD ≠ statBusy ∧ (∀ a, s.mgt.check ≠ some (.ram
        a))) ∧
    (∃ (s : State) (req : Nat), Unlocked s req R.MGT_FW_CMD 3 ∧ s.stat R.MGT_FW_CMD ≠ statBusy) ∧
    (∃ (s : State) (req : Nat), Unlocked s req R.MGT_FW_CMD 4 ∧ s.stat R.MGT_FW_CMD ≠ statBusy) ∧
    (∃ (s : State) (req : Nat) (op : Nat) (ofs : Nat) (len : Nat) (c : Instr), (c, op) ∈ [(Instr.flashRead req, 1),
        (Instr.flProgram req, 2), (Instr.flErase req, 3)] ∧ Unlocked s req R.MGT_FL_CMD (W op) ∧ s.stat R.MGT_FL_CMD ≠ statBusy ∧
        ofs = (s.rd R.MGT_FL_OFS).toNat ∧ len = (s.rd R.MGT_FL_LEN).toNat) ∧
    (∃ (s : State) (u : State) (c : FlCmd) (h : HostMem), s.mgt.fl = some c ∧ c.op = 1 ∧ s.devWrite dmaWriter c.buf (s.flashBytes
        c.ofs c.len) = (u, none)) ∧
    (∃ (s : State) (c : FlCmd) (h : HostMem) (b : List Byte), s.mgt.fl = some c ∧ c.op = 2 ∧ s.devRead h c.buf c.len = (s, .inl b)
        ∧ b.length = c.len) ∧
    (∃ (s : State) (c : FlCmd) (h : HostMem), s.mgt.fl = some c ∧ c.op = 3) ∧
    (∃ (s : State) (req : Nat) (e : Nat), Unlocked s req R.MGT_FLOOR (withField (s.peek req R.MGT_FLOOR) 0 8 e) ∧ e < 256 ∧ s.g
        R.MGT_STS.STATE = mgtRun ∧ s.mgt.fusing = none) ∧
    (∃ (s : State) (e : Nat), s.mgt.fusing = some e) :=
  ⟨⟨ul 2, 2, 1, by unfold Unlocked Admitted; decide +kernel⟩,
   ⟨mg { check := some (.slot 0) } (chk cand), 0, 0, 0, (65536, 262144), fwJob, by decide +kernel⟩,
   ⟨(ul 2).wr R.MGT_FW_CHK 0xC0000000, 2, by unfold Unlocked Admitted; decide +kernel, by decide +kernel, fun _ =>
       by (show (none : Option FwSrc) ≠ _; simp)⟩,
   ⟨(ul 2).p R.MGT_STS.TRIAL 1 |>.p R.MGT_STS.SLOT 1, 2, by unfold Unlocked Admitted; decide +kernel⟩,
   ⟨st 3 (ul 2), 2, by unfold Unlocked Admitted; decide +kernel⟩,
   ⟨dir (((ul 2).wr R.MGT_FL_OFS 65536).wr R.MGT_FL_LEN 65536), 2, 3, 65536, 65536, .flErase 2,
       by unfold Unlocked Admitted; decide +kernel⟩,
   ⟨fl ⟨1, 0, 64, R.BRG_SEM 0⟩ rn, ((fl ⟨1, 0, 64, R.BRG_SEM 0⟩ rn).devWrite dmaWriter (R.BRG_SEM 0) (List.replicate 64 0xFF)).1,
       ⟨1, 0, 64, R.BRG_SEM 0⟩, [], by decide +kernel⟩,
   ⟨fl ⟨2, 65532, 8, R.FLT_SAVE_REC 0⟩ rn, ⟨2, 65532, 8, R.FLT_SAVE_REC 0⟩, [], List.replicate 8 0, by decide +kernel⟩,
   ⟨fl ⟨3, 65540, 8, 0⟩ ({ rn with flash := [(65535, 7), (65536, 7), (131072, 7)] }), ⟨3, 65540, 8, 0⟩, [], by decide +kernel⟩,
   ⟨st 2 ((ul 2).wr R.MGT_FW_SEQ 0xFF000000), 2, 255, by unfold Unlocked Admitted; decide +kernel⟩,
   ⟨mg { fusing := some 9 } rn, 9, by decide +kernel⟩⟩

theorem witness_CoreAccesses :
    (∃ (s : State) (c : Nat) (k : Nat) (a : Nat) (n : Nat) (v : Nat), c < 4 ∧ k < 4 ∧ s.mgt.running = true ∧ s.coreShadowed c =
        false ∧ n = 2 ^ k ∧ a + n ≤ sramSize ∧ s.sramBad a n = false) ∧
    (∃ (s : State) (c : Nat) (k : Nat) (a : Nat) (n : Nat) (v : Nat), c < 4 ∧ k < 4 ∧ s.mgt.running = true ∧ s.coreShadowed c =
        false ∧ n = 2 ^ k ∧ a + n ≤ sramSize ∧ s.sramBad a n = false) ∧
    (∃ (s : State) (c : Nat) (k : Nat) (a : Nat) (n : Nat) (v : Nat), c < 4 ∧ (k = 2 ∨ k = 3) ∧ s.mgt.running = true ∧
        s.coreShadowed c = false ∧ n = 2 ^ k ∧ a % n = 0 ∧ a + n ≤ sramSize ∧ s.sramBad a n = false) ∧
    (∃ (s : State) (c : Nat) (k : Nat) (d : Nat) (n : Nat) (v : Nat) (b : List Byte), c < 4 ∧ k < 4 ∧ s.mgt.running = true ∧
        s.coreShadowed c = false ∧ n = 2 ^ k ∧ d + n ≤ capBytes ∧ s.dramRead d n = some b) ∧
    (∃ (s : State) (c : Nat) (k : Nat) (d : Nat) (n : Nat) (v : Nat), c < 4 ∧ k < 4 ∧ s.mgt.running = true ∧ s.coreShadowed c =
        false ∧ n = 2 ^ k ∧ d + n ≤ capBytes ∧ s.saving = false) ∧
    (∃ (s : State) (c : Nat) (op : Nat) (a : Nat) (k : Nat) (v : Nat) (e : Nat), c < 4 ∧ s.mgt.running = true ∧ s.coreShadowed c =
        false ∧ ((a < 0x4000000 ∧ 2 ≤ op) ∨ (0x4000000 ≤ a ∧ a < 0x80000000) ∨ (0x80010000 ≤ a ∧ a < sramBase) ∨ (sramBase +
        sramSize ≤ a ∧ a < dramBase) ∨ dramBase + capBytes ≤ a)) ∧
    (∃ (s : State) (c : Nat) (a : Nat) (v : Nat), c < 4 ∧ s.mgt.running = true ∧ s.coreShadowed c = false ∧ a < 0x4000000 ∧ a % 4
        = 0 ∧ regionOf a ≠ 12 ∧ (rowOf a).any (fun r => r.mwLen == 1) = true) :=
  ⟨⟨run (sr rn), 2, 3, 4194296, 8, 0x1122334455667788, by decide +kernel⟩,
   ⟨run (sr rn), 0, 3, 4194296, 8, 0, by decide +kernel⟩,
   ⟨run { rn with mgt := { rn.mgt with resv := [(2, some (4194296, 8))] } }, 2, 3, 4194296, 8, 77, by decide +kernel⟩,
   ⟨run rn, 0, 0, 8589934591, 1, 0, [0],
       by (and_intros <;> first | exact (Nat.le_trans (by decide) capBytes_ge) | exact (by (rw [State.dramRead_low _ (by decide) (by decide +kernel)]; decide +kernel)) | decide +kernel)⟩,
   ⟨run rn, 0, 3, 8321499128, 8, 77, by (and_intros <;> first | exact (Nat.le_trans (by decide) capBytes_ge) | decide +kernel)⟩,
   ⟨run rn, 0, 4, 0, 2, 0, 0, by decide +kernel⟩,
   ⟨run rn, 0, 0, 0, by decide +kernel⟩⟩

end P19

end Sys2Proof.Tests
end

section
/-! SUPPORT. The state after reset (R6): what a register reads there, from its row in the register map. -/

namespace Sys2Proof.Machine

/-- After reset a mapped register reads the Reset column of its row (R6). -/
theorem State.rd_reset_of_rowOf {a n : Nat} (h : (rowOf a).map Row.reset = some n) : State.reset.rd a = W n := by
  obtain ⟨r, hr, rfl⟩ := Option.map_eq_some_iff.mp h
  rw [State.rd_reset, resetOf, hr]

end Sys2Proof.Machine

open Sys2Proof Sys2Proof.Machine

/-- Settles O4: no command, memory contents, requester or listed register stands in the reset state, so its register map
is in canonical form and every read falls back to the register's row. -/
theorem resetState : Obligations.ResetState := by
  unfold Obligations.ResetState
  have hwdt : (rowOf R.MGT_WDT).map Row.reset = some 0x800007D0 := by decide
  have hsts : (rowOf R.MGT_STS).map Row.reset = some 0x18000000 := by decide
  have hwin : (rowOf (R.MEM_RING_WIN 63)).map Row.reset = some 0x03E80000 := by decide
  have hexp : (rowOf R.MEM_EXP_CFG).map Row.reset = some 0x0F000000 := by decide
  exact ⟨rfl, State.rd_reset, State.rd_reset_of_rowOf hwdt, State.rd_reset_of_rowOf hsts,
    State.rd_reset_of_rowOf hwin, State.rd_reset_of_rowOf hexp, rfl, rfl, Tab.wf_nil resetOf⟩

end

section
/-! SUPPORT. What a command that answers at a requester's port leaves (R35), what a register write meets at its port and
does by its access codes (R7, R36, R57). -/

namespace Sys2Proof.Machine

/-! ### The answer at a port (R35) -/

/-- What is framed by registers alone leaves the requesters. -/
theorem Kept.reqs_eq {s t : State} {l : List Nat} (h : Kept s t l) : t.reqs = s.reqs := by rw [h.2.2]

/-- What is framed by registers alone leaves the Tenon link. -/
theorem Kept.tenon_eq {s t : State} {l : List Nat} (h : Kept s t l) : t.tenon = s.tenon := by rw [h.2.2]

/-- The requester that is answered sees the answer, whatever events are passed on after it. -/
theorem resp_passOn_respond (s0 u : State) (r : Nat) (e : Bool) (d : Word) :
    ((State.passOn s0 (u.respond r e d)).rq r).resp = { err := e, data := d } := by
  rw [rq_congr _ _ (passOn_reqs s0 _)]
  simp [State.respond]

/-- An answer to one requester leaves the others. -/
theorem rq_passOn_respond_ne {s u : State} {l : List Nat} (s0 : State) (h : Kept s u l) (e : Bool) (d : Word) {r q : Nat}
    (hq : q ≠ r) : (State.passOn s0 (u.respond r e d)).rq q = s.rq q := by
  rw [rq_congr _ _ (passOn_reqs s0 _), State.respond, rq_modRq_ne u _ hq]
  exact rq_congr s u h.reqs_eq q

/-- An answer leaves the Tenon link. -/
theorem tenon_passOn_respond {s u : State} {l : List Nat} (s0 : State) (h : Kept s u l) (r : Nat) (e : Bool) (d : Word) :
    (State.passOn s0 (u.respond r e d)).tenon = s.tenon := by
  rw [passOn_tenon]
  exact h.tenon_eq

/-- A frame of what a command does before it answers is a frame of what it leaves, but for the requesters. -/
theorem Kept.passOn_respond {s u : State} {l : List Nat} (s0 : State) (h : Kept s u l) (r : Nat) (e : Bool) (d : Word) :
    Kept { s with reqs := (State.passOn s0 (u.respond r e d)).reqs } (State.passOn s0 (u.respond r e d)) l := by
  rw [passOn_reqs]
  exact (h.withReqs.modRq r _).passOn s0

/-- An entry of the access log stands after the answer. -/
theorem Logged.passOn_respond {s u : State} {req addr be : Nat} {wr : Bool} {x : LogReason} (s0 : State)
    (h : Logged s u req addr be wr x) (r : Nat) (e : Bool) (d : Word) :
    Logged s (State.passOn s0 (u.respond r e d)) req addr be wr x :=
  Logged.passOn s0 (h.mono (fun a _ => rd_respond u r a e d))

/-! ### A register write at its port (R36, R57) -/

/-- A write that is over at its port is answered there, of whatever region the register is. -/
theorem State.portWrite_of_over {s u : State} {req a be : Nat} {v : Word} {e : Option BusErr}
    (h : s.writeGate req a be v = (u, .over e)) : s.portWrite req a be v = u.answerWrite req a be e := by
  unfold State.portWrite State.busWrite State.busWriteBy
  simp only [h, ite_self]

/-- A write that passes its port acts in its block and is answered without an error, but in the PWR region. -/
theorem State.portWrite_of_act {s u : State} {req a be : Nat} {v : Word} {full : Bool}
    (h : s.writeGate req a be v = (u, .act full)) (hr : regionOf a ≠ 12) :
    s.portWrite req a be v = (u.writeAct cmplWriter req a v full).respond req false 0 := by
  unfold State.portWrite State.busWrite State.busWriteBy
  simp only [h, hr, if_false, false_and, State.answerWrite]

/-- A write with a byte enable clear is over at its port, logged PART (R36). -/
theorem State.writeGate_partial {s : State} {req a be : Nat} {v : Word} {r : Row} (hrow : rowOf a = some r)
    (hl : s.loadRefused req a = false) (hbe : be < 15) :
    s.writeGate req a be v = (s.logAccess req a be true .part, .over none) := by
  have hne : be % 16 ≠ 15 := by omega
  unfold State.writeGate
  simp [hl, hrow, hne]

/-- A whole write of an unguarded register of one word passes its port (R36). -/
theorem State.writeGate_unguarded {s : State} {req a : Nat} {v : Word} {r : Row} (hrow : rowOf a = some r)
    (hl : s.loadRefused req a = false) (hmw : r.mwLen = 1) (hu : a ≠ R.GLB_UNLOCK) (hrwg : r.rwg = 0)
    (hg : guardedCmd a = false) : s.writeGate req a 15 v = (s, .act true) := by
  unfold State.writeGate
  simp [hl, hrow, hmw, hu, hrwg, hg]

/-- A write that changes no Res. field, of a register without an act of its own, does what the access codes say (R7, R46). -/
theorem State.writeAct_of_codes {s : State} {w : Writer} {req a : Nat} {v : Word} {full : Bool} {r : Row}
    (hrow : rowOf a = some r) (hmw : r.mwLen = 1) (hs : s.ringShut req a = false) (hres : s.keepsRes a v = true)
    (hown : s.ownAct w req r a v full = none) : s.writeAct w req a v full = s.codeWrite req r a v full := by
  unfold State.writeAct
  simp [hrow, hmw, hs, State.resStep_keeps s req a v hres, hown]

/-- A register of RW fields alone stores them (R7). -/
theorem State.codeWrite_of_rw {s : State} {req a : Nat} {v : Word} {r : Row} (hrwg : r.rwg = 0) (hw1c : r.w1c = 0)
    (hw1x : r.w1x = 0) (ha : a ≠ R.PWR_SO) : s.codeWrite req r a v true = s.wrBits a r.rw v := by
  unfold State.codeWrite
  simp [hrwg, hw1c, hw1x, ha]

/-- A whole write of a register of RW fields alone, which its port admits, stores those fields and is answered (R7, R36). -/
theorem State.portWrite_of_rw {s : State} {req a : Nat} {v : Word} {r : Row} (hrow : rowOf a = some r) (hmw : r.mwLen = 1)
    (hrwg : r.rwg = 0) (hw1c : r.w1c = 0) (hw1x : r.w1x = 0) (hg : guardedCmd a = false) (hu : a ≠ R.GLB_UNLOCK)
    (hreg : regionOf a ≠ 12) (hadm : Admitted s req a v) (hshut : s.ringShut req a = false)
    (hown : s.ownAct cmplWriter req r a v true = none) :
    s.portWrite req a 15 v = (s.wrBits a r.rw v).respond req false 0 := by
  obtain ⟨hload, hres⟩ := hadm
  have hso : a ≠ R.PWR_SO := by
    rintro rfl
    exact hreg (by decide)
  rw [State.portWrite_of_act (State.writeGate_unguarded hrow hload hmw hu hrwg hg) hreg,
    State.writeAct_of_codes hrow hmw hshut hres hown, State.codeWrite_of_rw hrwg hw1c hw1x hso]

end Sys2Proof.Machine

open Sys2Proof Sys2Proof.Machine

/-- Settles O10: the write passes its port unchanged and its access codes store the RW fields; with a byte enable clear it is
over at the port. -/
theorem registerWriteStores : Obligations.RegisterWriteStores := by
  unfold Obligations.RegisterWriteStores
  refine ⟨?_, ?_⟩
  · intro s req a v r hrow hmw hrwg hw1c hw1x hg hu hreg hpass hadm hshut hown
    have hw := State.portWrite_of_rw hrow hmw hrwg hw1c hw1x hg hu hreg hadm hshut hown
    have hk : Kept s (s.wrBits a r.rw v) [a] := Kept.wr s a _
    refine ⟨_, congrArg (done s) hw, ?_, resp_passOn_respond s _ req false 0,
      fun q hq => rq_passOn_respond_ne s hk false 0 hq, hk.passOn_respond s req false 0⟩
    rw [rd_passOn s _ hpass, rd_respond]
    exact State.rd_wr_same s a _
  · intro s req a be v r hrow hload hbe
    have hw := State.portWrite_of_over (State.writeGate_partial (v := v) hrow hload hbe)
    have hk := Kept.logAccess s req a be true .part
    exact ⟨_, congrArg (done s) hw, (Logged.logAccess s req a be true .part).passOn_respond s req false 0,
      resp_passOn_respond s _ req false 0, fun q hq => rq_passOn_respond_ne s hk false 0 hq,
      hk.passOn_respond s req false 0⟩

end

section
/-! SUPPORT. What the capture of a fault changes (R445), and what the return of the Tenon link and an access over it do
(R11-R14, R457). -/

namespace Sys2Proof.Machine

/-! ### The capture of a fault (R445) -/

theorem faultClass_le (n : Nat) : faultClass n ≤ 3 := by
  have := (Config.unlistedClass n).isLt
  unfold faultClass
  split_ifs <;> omega

/-- The class events all stand in FLT_EVT (R443). -/
theorem classEvent_addr (c : Nat) : (classEvent c).addr = R.FLT_EVT := by
  unfold classEvent
  split <;> rfl

/-- The first half of a capture: the record of source `n` and the count of sources in service. -/
def State.faultRecord (s : State) (n : Nat) (info : Word) : State :=
  let last := (s.wr (R.FLT_LAST_INFO n) info).wr64 (R.FLT_LAST_TS_LO n) s.sofCtr
  if s.on (R.FLT_SRC_STS.INSVC n) then last.sat (R.FLT_SRC_STS.OVF n)
  else
    ((((last.wr (R.FLT_FIRST_INFO n) info).wr64 (R.FLT_FIRST_TS_LO n) s.sofCtr).p (R.FLT_SRC_STS.OVF n) 0).p
      (R.FLT_SRC_STS.INSVC n) 1).p R.FLT_STS.INSVC_N (s.g R.FLT_STS.INSVC_N + 1)

/-- The second half: the event of class `c`, unless `quiet`, and the class counter. -/
def State.classTell (s : State) (c : Nat) (quiet : Bool) : State :=
  (if quiet then s else s.ev (classEvent c)).bump (R.FLT_CLASS_CNT_LO c)

theorem State.capture_eq (s : State) (n : Nat) (info : Word) :
    s.capture n info = (s.faultRecord n info).classTell (faultClass n)
      (s.on (R.FLT_SRC_STS.INSVC n) || (s.on (R.FLT_SRC_CFG.MASK n) && faultClass n != 3)) := rfl

theorem Kept.sat (s : State) (l : Loc) : Kept s (s.sat l) [l.addr] := by
  unfold State.sat
  split
  · exact Kept.p s l _
  · exact Kept.refl s _

/-- Saturating one field leaves a field beside it. -/
theorem State.g_sat_disj (s : State) (l m : Loc) (h : m.lo + m.wd ≤ 32)
    (hd : l.lo + l.wd ≤ m.lo ∨ m.lo + m.wd ≤ l.lo) : (s.sat l).g m = s.g m := by
  unfold State.sat
  split
  · exact State.g_p_disj s l m _ h hd
  · rfl

theorem Kept.classTell (s : State) (c : Nat) (quiet : Bool) :
    Kept s (s.classTell c quiet) [R.FLT_EVT, R.FLT_CLASS_CNT_LO c, R.FLT_CLASS_CNT_LO c + 4] := by
  have hev : Kept s (if quiet then s else s.ev (classEvent c)) [R.FLT_EVT] := by
    split
    · exact Kept.refl s _
    · exact classEvent_addr c ▸ Kept.ev s (classEvent c)
  exact hev.trans (Kept.bump _ _)

theorem Kept.faultRecord (s : State) (n : Nat) (info : Word) :
    Kept s (s.faultRecord n info)
      [R.FLT_SRC_STS n, R.FLT_FIRST_INFO n, R.FLT_FIRST_TS_LO n, R.FLT_FIRST_TS_LO n + 4, R.FLT_LAST_INFO n,
        R.FLT_LAST_TS_LO n, R.FLT_LAST_TS_LO n + 4, R.FLT_STS] := by
  have hlast := (Kept.wr s (R.FLT_LAST_INFO n) info).trans (Kept.wr64 _ (R.FLT_LAST_TS_LO n) s.sofCtr)
  unfold State.faultRecord
  dsimp only
  split
  · exact (hlast.trans (Kept.sat _ (R.FLT_SRC_STS.OVF n))).mono (by simp [R.FLT_SRC_STS.OVF])
  · have hfirst := (hlast.trans (Kept.wr _ (R.FLT_FIRST_INFO n) info)).trans
      (Kept.wr64 _ (R.FLT_FIRST_TS_LO n) s.sofCtr)
    have hsts := (hfirst.trans (Kept.p _ (R.FLT_SRC_STS.OVF n) 0)).trans (Kept.p _ (R.FLT_SRC_STS.INSVC n) 1)
    refine (hsts.trans (Kept.p _ R.FLT_STS.INSVC_N _)).mono ?_
    simp [R.FLT_SRC_STS.OVF, R.FLT_SRC_STS.INSVC, R.FLT_STS.INSVC_N]

/-- The capture of an occurrence changes the registers of its source and class alone. -/
theorem Kept.capture (s : State) (n : Nat) (info : Word) : Kept s (s.capture n info) (faultRegs n) := by
  rw [State.capture_eq]
  exact (Kept.faultRecord s n info).trans (Kept.classTell _ _ _)

theorem State.rd_sat_ne (s : State) (l : Loc) {a : Nat} (h : a ≠ l.addr) : (s.sat l).rd a = s.rd a := by
  unfold State.sat
  split
  · exact State.rd_p_ne s l _ h
  · rfl

/-- The record of a source shows the occurrence's INFO as the last. -/
theorem State.lastInfo_faultRecord (s : State) (n : Nat) (info : Word) :
    (s.faultRecord n info).rd (R.FLT_LAST_INFO n) = info := by
  have eInfo : R.FLT_LAST_INFO n = 0x101014 + 0x20 * n := rfl
  have eTs : R.FLT_LAST_TS_LO n = 0x101018 + 0x20 * n := rfl
  have eFirst : R.FLT_FIRST_INFO n = 0x101008 + 0x20 * n := rfl
  have eFirstTs : R.FLT_FIRST_TS_LO n = 0x10100c + 0x20 * n := rfl
  have eOvf : (R.FLT_SRC_STS.OVF n).addr = 0x101004 + 0x20 * n := rfl
  have eInsvc : (R.FLT_SRC_STS.INSVC n).addr = 0x101004 + 0x20 * n := rfl
  have eSts : R.FLT_STS.INSVC_N.addr < 0x101000 := by decide
  have hlast : ((s.wr (R.FLT_LAST_INFO n) info).wr64 (R.FLT_LAST_TS_LO n) s.sofCtr).rd (R.FLT_LAST_INFO n) = info := by
    rw [State.rd_wr64_ne _ _ _ (by omega) (by omega), State.rd_wr_same]
  unfold State.faultRecord
  dsimp only
  split
  · rw [State.rd_sat_ne _ _ (by omega), hlast]
  · rw [State.rd_p_ne _ _ _ (by omega), State.rd_p_ne _ _ _ (by omega), State.rd_p_ne _ _ _ (by omega),
      State.rd_wr64_ne _ _ _ (by omega) (by omega), State.rd_wr_ne _ _ (by omega), hlast]

/-- The record of a source shows it in service. -/
theorem State.insvc_faultRecord (s : State) (n : Nat) (info : Word) :
    (s.faultRecord n info).g (R.FLT_SRC_STS.INSVC n) = 1 := by
  have eInfo : R.FLT_LAST_INFO n = 0x101014 + 0x20 * n := rfl
  have eTs : R.FLT_LAST_TS_LO n = 0x101018 + 0x20 * n := rfl
  have eInsvc : (R.FLT_SRC_STS.INSVC n).addr = 0x101004 + 0x20 * n := rfl
  have eSts : R.FLT_STS.INSVC_N.addr < 0x101000 := by decide
  unfold State.faultRecord
  dsimp only
  split
  case isTrue hon =>
    have hlt : s.g (R.FLT_SRC_STS.INSVC n) < 2 := Nat.mod_lt _ (by simp [R.FLT_SRC_STS.INSVC])
    have hone : s.g (R.FLT_SRC_STS.INSVC n) = 1 := by
      simp only [State.on, bne_iff_ne] at hon
      omega
    rw [State.g_sat_disj _ _ _ (by simp [R.FLT_SRC_STS.INSVC]) (by simp [R.FLT_SRC_STS.INSVC, R.FLT_SRC_STS.OVF]),
      State.wr64, State.g_wr_ne _ _ _ (by omega), State.g_wr_ne _ _ _ (by omega), State.g_wr_ne _ _ _ (by omega), hone]
  case isFalse =>
    rw [State.g_p_ne _ _ _ _ (by omega), State.g_p_same _ _ _ (by simp [R.FLT_SRC_STS.INSVC])]
    rfl

/-- No register that passing events on may change lies in the region of the fault aggregator (R33). -/
theorem passRegs_outside_flt : ∀ a ∈ passRegs, a < 0x100000 ∨ 0x200000 ≤ a := by decide

/-- The record of one fault source is none of what passing events on may change. -/
theorem faultSource_pass {n a : Nat} (hn : n < 320) (h : a = R.FLT_LAST_INFO n ∨ a = R.FLT_SRC_STS n) : a ∉ passRegs := by
  intro hmem
  have hout := passRegs_outside_flt a hmem
  simp only [R.FLT_LAST_INFO, R.FLT_SRC_STS] at h
  omega

/-- The telling of a class leaves the records of the sources. -/
theorem State.rd_classTell_source (s : State) (c : Nat) (quiet : Bool) {n a : Nat} (hc : c ≤ 3) (hn : n < 320)
    (h : a = R.FLT_LAST_INFO n ∨ a = R.FLT_SRC_STS n) : (s.classTell c quiet).rd a = s.rd a := by
  refine (Kept.classTell s c quiet).1 a ?_ (faultSource_pass hn h)
  simp only [List.mem_cons, List.not_mem_nil, or_false, R.FLT_EVT, R.FLT_CLASS_CNT_LO]
  simp only [R.FLT_LAST_INFO, R.FLT_SRC_STS] at h
  omega

/-- A fault below the FATAL class is captured and no more (R447). -/
theorem State.fault_of_class {s : State} {n : Nat} {info : Word} (h : faultClass n ≠ 3) :
    s.fault n info = s.capture n info := by
  unfold State.fault
  simp [h]

/-- An occurrence that is captured stands in its source's record (R445). -/
theorem State.lastInfo_capture (s : State) {n : Nat} (hn : n < 320) (info : Word) :
    (s.capture n info).rd (R.FLT_LAST_INFO n) = info := by
  rw [State.capture_eq, State.rd_classTell_source _ _ _ (faultClass_le n) hn (.inl rfl), State.lastInfo_faultRecord]

/-- An occurrence that is captured puts its source in service (R445). -/
theorem State.insvc_capture (s : State) {n : Nat} (hn : n < 320) (info : Word) :
    (s.capture n info).g (R.FLT_SRC_STS.INSVC n) = 1 := by
  have hsts := State.rd_classTell_source (s.faultRecord n info) (faultClass n)
    (s.on (R.FLT_SRC_STS.INSVC n) || (s.on (R.FLT_SRC_CFG.MASK n) && faultClass n != 3)) (faultClass_le n) hn (.inr rfl)
  rw [State.capture_eq, State.g, show (R.FLT_SRC_STS.INSVC n).addr = R.FLT_SRC_STS n from rfl, hsts]
  exact State.insvc_faultRecord s n info

/-! ### The Tenon link (R11, R12, R14, R457) -/

/-- The state once the oldest PWR access is no longer on its way. -/
def State.tenonRest (s : State) (rest : List PwrAcc) : State := { s with tenon := { s.tenon with acc := rest } }

/-- A read of a register of one word changes no shadow: at most another free value is next (R38, R47). -/
theorem State.regRead_oneWord (s : State) (req : Nat) {a : Nat} (h : (rowOf a).any (fun r => r.mwLen == 1) = true) :
    s.regRead req a = (s.readUse a, some (s.peek req a)) := by
  unfold State.regRead
  cases hrow : rowOf a with
  | none => simp [hrow] at h
  | some r =>
    have hone : r.mwLen = 1 := by simpa [hrow] using h
    simp [hone]

theorem State.readUse_eq (s : State) (a : Nat) : s.readUse a = { s with freeCtr := (s.readUse a).freeCtr } := by
  unfold State.readUse
  split <;> rfl

section
variable {s : State} {x : PwrAcc} {rest : List PwrAcc} (hacc : s.tenon.acc = x :: rest)
include hacc

/-- The oldest write acts once the link carries traffic (R11). -/
theorem State.tenonDone_write (hup : s.tenon.up = true) (hwr : x.wr = true) :
    s.tenonDone = some ((s.tenonRest rest).writeAct cmplWriter x.req x.addr x.val x.granted, x, 0) := by
  unfold State.tenonDone State.tenonRest
  simp [hacc, hup, hwr]

/-- The oldest read of a register of one word takes the word the power die holds once the link carries traffic (R11). -/
theorem State.tenonDone_read (hup : s.tenon.up = true) (hwr : x.wr = false)
    (hone : (rowOf x.addr).any (fun r => r.mwLen == 1) = true) :
    s.tenonDone = some ((s.tenonRest rest).readUse x.addr, x, (s.tenonRest rest).peek x.req x.addr) := by
  have hread := State.regRead_oneWord (s.tenonRest rest) x.req hone
  have hdone : s.tenonDone = some (((s.tenonRest rest).regRead x.req x.addr).1, x,
      ((s.tenonRest rest).regRead x.req x.addr).2.getD 0) := by
    unfold State.tenonDone State.tenonRest
    simp [hacc, hup, hwr]
  rw [hdone, hread, Option.getD_some]

/-- The oldest read that the link does not complete is given up, with source 225 (R12). -/
theorem State.tenonGone_read (hwr : x.wr = false) :
    s.tenonGone = some ((s.tenonRest rest).tenonLate x.addr, x) := by
  unfold State.tenonGone State.tenonRest
  simp [hacc, hwr]

/-- The oldest write that the link does not complete has acted or not, and is given up with source 225 (R12). -/
theorem State.tenonGone_write (hwr : x.wr = true) :
    s.tenonGone = some ((if (s.tenonRest rest).freeBool then
        (s.tenonRest rest).used.writeAct cmplWriter x.req x.addr x.val x.granted
      else (s.tenonRest rest).used).tenonLate x.addr, x) := by
  unfold State.tenonGone State.tenonRest
  simp [hacc, hwr]

end

/-- An access of a requester that completes is answered with its word (R11). -/
theorem State.pwrComplete_port {s u : State} {x : PwrAcc} {w : Word} (h : s.tenonDone = some (u, x, w))
    (hsrc : x.src = .port) : s.pwrComplete = u.respond x.req false w := by
  unfold State.pwrComplete
  simp only [h, hsrc]

/-- A read of a requester that does not complete is answered with an error and all ones (R12). -/
theorem State.pwrTimeout_port_read {s u : State} {x : PwrAcc} (h : s.tenonGone = some (u, x)) (hsrc : x.src = .port)
    (hwr : x.wr = false) : s.pwrTimeout = u.respond x.req true 0xFFFFFFFF := by
  unfold State.pwrTimeout
  simp [h, hsrc, hwr]

/-- A write of a requester that does not complete is answered with an error (R12). -/
theorem State.pwrTimeout_port_write {s u : State} {x : PwrAcc} (h : s.tenonGone = some (u, x)) (hsrc : x.src = .port)
    (hwr : x.wr = true) : s.pwrTimeout = u.answerWrite x.req x.addr x.be (some .tenon) := by
  unfold State.pwrTimeout
  simp [h, hsrc, hwr]

/-- Source 225 is below the FATAL class: an access given up is captured and no more. -/
theorem State.tenonLate_eq (s : State) (a : Nat) : s.tenonLate a = s.capture 225 (faultInfo 4 0 (a % 65536)) :=
  State.fault_of_class (by decide)

/-- A loss of the link that was up: FLT_TENON, source 224, the counter, the buses (R457). -/
theorem State.linkLoss_of_up {s : State} (hup : s.tenon.up = true) :
    s.linkLoss = (((({ s with tenon := { s.tenon with up := false, retraining := true } }.p R.FLT_TENON.LOST 1).fault 224
      (faultInfo 4 0 0)).bump R.FLT_TENON_LOST_LO).each (List.range 16) (fun c t => t.canBusLost c)) := by
  unfold State.linkLoss
  simp [hup]

/-- The power die enters its link-lost state (R14). -/
theorem State.linkLost_of_down {s : State} (hup : s.tenon.up = false) (hlost : s.tenon.lostState = false)
    (hvs : s.pins.vs = true) :
    s.linkLost = (({ s with tenon := { s.tenon with lostState := true } }.slpBreak whyLink).each (List.range 16)
      (fun c t => if t.trx c = trxNormal ∨ t.trx c = trxSilent then t.trxStandby c else t)) := by
  unfold State.linkLost
  simp [hup, hlost, hvs]

/-- The return of the link, out of the link-lost state and with no counts held, changes the link's state and FLT_TENON
alone (R457). -/
theorem State.tenonUp_of_lost {s : State} {ms : Nat} (hlost : s.tenon.lostState = true) (hheld : s.tenon.heldYield = 0) :
    s.tenonUp ms = ({ s with tenon := { s.tenon with up := true, retraining := false, lostState := false } }.p
      R.FLT_TENON.LOST_MS (min ms 65535)).p R.FLT_TENON.LOST 0 := by
  unfold State.tenonUp
  simp only [hlost, hheld, if_true]
  rfl

end Sys2Proof.Machine

open Sys2Proof Sys2Proof.Machine

/-- Settles O7: each event of the link is its meaning under the premises; what an access leaves follows from the frames of the
answer at a port and of the capture of source 225. -/
theorem tenonLinkEvents : Obligations.TenonLinkEvents := by
  unfold Obligations.TenonLinkEvents
  refine ⟨?loss, ?lost, ?retrain, ?giveUp, ?write, ?read, ?readLate, ?writeLate⟩
  case loss =>
    intro s hcore hup
    have hloss : execTenonLinkLossDetect s = done s s.linkLoss := by simp [execTenonLinkLossDetect, hcore]
    have heff := State.linkLoss_of_up hup
    exact hloss.trans (congrArg (done s) heff)
  case lost =>
    intro s hup hlost hvs
    exact congrArg (done s) (State.linkLost_of_down hup hlost hvs)
  case retrain =>
    intro s ms hcore hre hlost hheld
    have hexec : execTenonLinkRetrain ms s = done s (s.tenonUp ms) := by simp [execTenonLinkRetrain, hcore, hre]
    rw [State.tenonUp_of_lost hlost hheld] at hexec
    refine ⟨_, hexec, ?_, ?_, ?_, ?_⟩
    · rw [g_passOn _ _ (by decide), State.g_p_disj _ _ _ _ (by decide) (by decide), State.g_p_same _ _ _ (by decide)]
      exact Nat.mod_eq_of_lt (Nat.lt_of_le_of_lt (Nat.min_le_right ms 65535) (by decide))
    · rw [g_passOn _ _ (by decide), State.g_p_same _ _ _ (by decide)]
      rfl
    · rw [passOn_tenon]
      rfl
    · rw [passOn_tenon]
      exact Kept.passOn s (((Kept.p _ R.FLT_TENON.LOST_MS _).trans (Kept.p _ R.FLT_TENON.LOST 0)).mono (by
        simp [R.FLT_TENON.LOST_MS, R.FLT_TENON.LOST]))
  case giveUp =>
    intro s hcore hre
    have hexec : execTenonRetrainTimeout s = done s (s.fault 226 (faultInfo 4 0 0)) := by
      simp [execTenonRetrainTimeout, hcore, hre]
    exact hexec
  case write =>
    intro s x rest hacc hup hsrc hwr
    exact congrArg (done s) (State.pwrComplete_port (State.tenonDone_write hacc hup hwr) hsrc)
  case read =>
    intro s x rest hacc hup hsrc hwr hone
    have heff := State.pwrComplete_port (State.tenonDone_read hacc hup hwr hone) hsrc
    rw [State.readUse_eq] at heff
    refine ⟨_, congrArg (done s) heff, resp_passOn_respond s _ x.req false _, ?_,
      fun q hq => rq_passOn_respond_ne s (Kept.refl _ []) false _ hq, ?_⟩
    · rw [passOn_tenon]
      rfl
    · rw [passOn_tenon, passOn_freeCtr]
      exact Kept.passOn_respond s (Kept.refl _ []) x.req false _
  case readLate =>
    intro s x rest hacc hsrc hwr
    have heff := State.pwrTimeout_port_read (State.tenonGone_read hacc hwr) hsrc hwr
    rw [State.tenonLate_eq] at heff
    have hk := Kept.capture (s.tenonRest rest) 225 (faultInfo 4 0 (x.addr % 65536))
    refine ⟨_, congrArg (done s) heff, resp_passOn_respond s _ x.req true _, tenon_passOn_respond s hk x.req true _, ?_, ?_,
      fun q hq => rq_passOn_respond_ne s hk true _ hq, ?_⟩
    · rw [rd_passOn _ _ (by decide), rd_respond]
      exact State.lastInfo_capture _ (by decide) _
    · rw [g_passOn _ _ (by decide)]
      exact State.insvc_capture _ (by decide) _
    · rw [tenon_passOn_respond s hk x.req true _]
      exact hk.passOn_respond s x.req true _
  case writeLate =>
    rintro s u x rest hacc hsrc hwr rfl
    exact congrArg (done s) (State.pwrTimeout_port_write (State.tenonGone_write hacc hwr) hsrc hwr)

end

section
/-! SUPPORT. Accesses that end at their requester's port: the late-failure log, error responses, the unlock and the guard
(R34, R41-R44, R52, R57, R383). -/

namespace Sys2Proof.Machine

/-! ### The late-failure log (R383) -/

theorem lateIndex_lt (s : State) : s.g R.BRG_LFL_PTR.NEXT < 16 := by
  simp only [State.g, fieldOf, R.BRG_LFL_PTR.NEXT]
  exact Nat.mod_lt _ (by decide)

/-- The late-failure log lies in the region of the bridge (R33). -/
theorem lateRegs_range (s : State) : ∀ a ∈ lateRegs s, 0x2000000 ≤ a ∧ a < 0x2010000 ∧ a ∉ passRegs := by
  have hring : ∀ k, k < 16 → R.BRG_LFL_ADDR k ∉ passRegs ∧ R.BRG_LFL_INFO k ∉ passRegs := by decide
  obtain ⟨hpa, hpi⟩ := hring _ (lateIndex_lt s)
  have hlt := lateIndex_lt s
  simp only [lateRegs, List.mem_cons, List.not_mem_nil, or_false, forall_eq_or_imp, forall_eq]
  refine ⟨⟨?_, ?_, hpa⟩, ⟨?_, ?_, hpi⟩, by decide, by decide, by decide, by decide⟩
  all_goals simp only [R.BRG_LFL_ADDR, R.BRG_LFL_INFO]; omega

/-- The access log and its event lie in the first 768 bytes of BAR0, above the unlock (R52). -/
theorem logRegs_range (s : State) : ∀ a ∈ logRegs s, 0x100 ≤ a ∧ a < 0x300 := by
  have hlt := logIndex_lt s
  simp only [logRegs, List.mem_cons, List.not_mem_nil, or_false, forall_eq_or_imp, forall_eq]
  refine ⟨?_, ?_, by decide, by decide, by decide, by decide⟩
  all_goals simp only [R.GLB_ACCLOG_ADDR, R.GLB_ACCLOG_INFO]; omega

/-- The late-failure log changes its own registers alone. -/
theorem Kept.lateFail (s : State) (rid bar addr be reason : Nat) :
    Kept s (s.lateFail rid bar addr be reason) (lateRegs s) := by
  unfold State.lateFail
  exact (((((Kept.wr s _ _).trans (Kept.wr _ _ _)).trans (Kept.p _ _ _)).trans (Kept.bump _ _)).trans (Kept.ev _ _)).mono
    (fun a ha => by simpa [lateRegs, R.BRG_LFL_PTR.NEXT, R.BRG_EVT.LATE] using Or.inl ha)

/-- One entry of the late-failure log for a write to BAR0, whole. -/
theorem Late.lateFail (s : State) (rid addr be reason : Nat) : Late s (s.lateFail rid 0 addr be reason) addr be reason := by
  have hn := lateIndex_lt s
  have hring : ∀ k, k < 16 → R.BRG_LFL_ADDR k ∉ passRegs ∧ R.BRG_LFL_INFO k ∉ passRegs := by decide
  obtain ⟨hpa, hpi⟩ := hring _ hn
  unfold Late State.lateFail
  generalize hk : s.g R.BRG_LFL_PTR.NEXT = k at hn hpa hpi
  have eAddr : R.BRG_LFL_ADDR k = 0x2000100 + 0x8 * k := rfl
  have eInfo : R.BRG_LFL_INFO k = 0x2000104 + 0x8 * k := rfl
  have ePtr : R.BRG_LFL_PTR.NEXT.addr = 0x200000c := rfl
  have eEvt : R.BRG_EVT.LATE.addr = 0x2000010 := rfl
  have eCnt : R.BRG_LATE_FAIL_LO = 0x2000810 := rfl
  refine ⟨?_, ?_, ?_, State.g_ev_same _ _ (by decide) (by decide), fun hs => ?_⟩
  · rw [State.rd_ev_ne _ _ (by omega), State.rd_bump_ne _ _ (by omega) (by omega) hpa, State.rd_p_ne _ _ _ (by omega),
      State.rd_wr_ne _ _ (by omega), State.rd_wr_same]
  · rw [State.rd_ev_ne _ _ (by omega), State.rd_bump_ne _ _ (by omega) (by omega) hpi, State.rd_p_ne _ _ _ (by omega),
      State.rd_wr_same]
    simp only [fieldOf, W_toNat]
    omega
  · have hptr : ∀ t : State, ((t.bump R.BRG_LATE_FAIL_LO).ev R.BRG_EVT.LATE).g R.BRG_LFL_PTR.NEXT = t.g R.BRG_LFL_PTR.NEXT := by
      intro t
      simp only [State.g]
      rw [State.rd_ev_ne _ _ (by decide), State.rd_bump_ne _ _ (by decide) (by decide) (by decide)]
    rw [hptr, State.g_p_same _ _ _ (by decide)]
    rfl
  · have hcnt : ∀ t : State, (t.ev R.BRG_EVT.LATE).rd64 R.BRG_LATE_FAIL_LO = t.rd64 R.BRG_LATE_FAIL_LO := by
      intro t
      simp only [State.rd64]
      rw [State.rd_ev_ne _ _ (by decide), State.rd_ev_ne _ _ (by decide)]
    rw [hcnt, State.rd64_bump]
    · simp only [State.rd64]
      rw [State.rd_p_ne _ _ _ (by omega), State.rd_p_ne _ _ _ (by omega), State.rd_wr_ne _ _ (by omega),
        State.rd_wr_ne _ _ (by omega), State.rd_wr_ne _ _ (by omega), State.rd_wr_ne _ _ (by omega)]
    · have hsave : R.PWR_SUP_STS.SAVE.addr < 0x2000000 := by decide
      simp only [State.p]
      rw [State.saving_wr _ _ _ (by omega), State.saving_wr _ _ _ (by omega), State.saving_wr _ _ _ (by omega), hs]

/-- What follows an entry of the late-failure log without touching its registers leaves it. -/
theorem Late.mono {s t u : State} {addr be reason : Nat} (h : Late s t addr be reason)
    (k : ∀ a ∈ lateRegs s, u.rd a = t.rd a) : Late s u addr be reason := by
  obtain ⟨h1, h2, h3, h4, h5⟩ := h
  simp only [lateRegs, List.mem_cons, List.not_mem_nil, or_false, forall_eq_or_imp, forall_eq] at k
  obtain ⟨k1, k2, k3, k4, k5, k6⟩ := k
  refine ⟨k1.trans h1, by rw [k2]; exact h2, ?_, ?_, fun hs => ?_⟩
  · simp only [State.g] at h3 ⊢; rw [show R.BRG_LFL_PTR.NEXT.addr = R.BRG_LFL_PTR from rfl, k3]; exact h3
  · simp only [State.g] at h4 ⊢; rw [show R.BRG_EVT.LATE.addr = R.BRG_EVT from rfl, k6]; exact h4
  · rw [← h5 hs]; simp only [State.rd64, k4, k5]

/-- An entry that came in after registers outside region 13 and PWR_SUP_STS had changed has come in since before. -/
theorem Late.since {s u t : State} {addr be reason : Nat} (h : Late u t addr be reason)
    (hreg : ∀ a, 0x300 ≤ a → a ∉ passRegs → u.rd a = s.rd a) : Late s t addr be reason := by
  have hptr : u.g R.BRG_LFL_PTR.NEXT = s.g R.BRG_LFL_PTR.NEXT :=
    congrArg (fun w => fieldOf w 0 4) (hreg R.BRG_LFL_PTR (by decide) (by decide))
  have hsave : u.saving = s.saving := by
    simp only [State.saving, State.g]
    rw [hreg _ (by decide) (by decide)]
  have hcnt : u.rd64 R.BRG_LATE_FAIL_LO = s.rd64 R.BRG_LATE_FAIL_LO := by
    simp only [State.rd64]
    rw [hreg _ (by decide) (by decide), hreg _ (by decide) (by decide)]
  unfold Late at h ⊢
  rwa [hptr, hsave, hcnt] at h

theorem lateRegs_since {s u : State} (hreg : ∀ a, 0x300 ≤ a → a ∉ passRegs → u.rd a = s.rd a) : lateRegs u = lateRegs s := by
  have hptr : u.g R.BRG_LFL_PTR.NEXT = s.g R.BRG_LFL_PTR.NEXT :=
    congrArg (fun w => fieldOf w 0 4) (hreg R.BRG_LFL_PTR (by decide) (by decide))
  simp only [lateRegs, hptr]

/-- An answer leaves the unlock of the requester that is answered. -/
theorem armed_passOn_respond {s u : State} {l : List Nat} (s0 : State) (h : Kept s u l) (r : Nat) (e : Bool) (d : Word) :
    ((State.passOn s0 (u.respond r e d)).rq r).armed = (s.rq r).armed := by
  rw [rq_congr _ _ (passOn_reqs s0 _), State.respond, rq_modRq_same, ← rq_congr s u h.reqs_eq r]

/-- What is framed by registers alone uses no free value. -/
theorem Kept.freeCtr_eq {s t : State} {l : List Nat} (h : Kept s t l) : t.freeCtr = s.freeCtr := by rw [h.2.2]

/-! ### Error responses (R34, R35, R57, R383) -/

/-- A frame of registers holds whatever free values have been used before. -/
theorem Kept.withFreeCtr {s t : State} {l : List Nat} (h : Kept s t l) (n : Nat) :
    Kept { s with freeCtr := n } { t with freeCtr := n } l := by
  obtain ⟨hreg, hq, hrest⟩ := h
  refine ⟨fun a ha hp => hreg a ha hp, fun q i hne => hq q i hne, ?_⟩
  rw [hrest]

/-- The access log leaves every register above it. -/
theorem rd_logAccess_above (s : State) (req addr be : Nat) (wr : Bool) (x : LogReason) {a : Nat} (ha : 0x300 ≤ a)
    (hp : a ∉ passRegs) : (s.logAccess req addr be wr x).rd a = s.rd a :=
  (Kept.logAccess s req addr be wr x).1 a (fun hm => Nat.not_lt.mpr ha (logRegs_range s a hm).2) hp

/-- A write that has been logged, and of HOST entered in the late-failure log, fails with the answer to it. -/
theorem WriteFailed.passOn_respond {s v : State} {n req addr be late : Nat} {x : LogReason} (s0 : State)
    (hk : Kept { s with freeCtr := n } v (if req = reqHost then lateRegs s ++ logRegs s else logRegs s))
    (hlog : Logged s v req addr be true x) (hlate : req = reqHost → Late s v addr be late) :
    WriteFailed s (State.passOn s0 (v.respond req true 0)) req addr be x late := by
  refine ⟨resp_passOn_respond s0 v req true 0, armed_passOn_respond s0 hk req true 0,
    fun q hq => rq_passOn_respond_ne s0 hk true 0 hq, hlog.passOn_respond s0 req true 0, fun h => ?_, ?_⟩
  · refine (hlate h).mono (fun a ha => ?_)
    obtain ⟨-, -, hp⟩ := lateRegs_range s a ha
    rw [rd_passOn _ _ hp, rd_respond]
  · have hfree : (State.passOn s0 (v.respond req true 0)).freeCtr = n := by
      rw [passOn_freeCtr]
      exact hk.freeCtr_eq
    rw [hfree]
    exact hk.passOn_respond s0 req true 0

/-- A logged write that ends in an error response: of HOST it is a late failure as well (R34, R35, R383). -/
theorem WriteFailed.answerWrite (s0 s : State) (req addr be : Nat) (x : LogReason) (e : BusErr) :
    WriteFailed s (State.passOn s0 ((s.logAccess req addr be true x).answerWrite req addr be (some e))) req addr be x e.late := by
  have hk := Kept.logAccess s req addr be true x
  have hlog := Logged.logAccess s req addr be true x
  by_cases hreq : req = reqHost
  case neg =>
    have hans : (s.logAccess req addr be true x).answerWrite req addr be (some e) =
        (s.logAccess req addr be true x).respond req true 0 := by
      simp only [State.answerWrite, State.hostLate, hreq, if_false]
    rw [hans]
    exact WriteFailed.passOn_respond (n := s.freeCtr) s0 (by rwa [if_neg hreq]) hlog (fun h => absurd h hreq)
  case pos =>
    generalize hu : s.logAccess req addr be true x = u at hk hlog
    have habove : ∀ a, 0x300 ≤ a → a ∉ passRegs → u.used.rd a = s.rd a := fun a ha hp =>
      hu ▸ rd_logAccess_above s req addr be true x ha hp
    have hans : u.answerWrite req addr be (some e) =
        (u.used.lateFail (u.freeNat % 65536) 0 addr be e.late).respond req true 0 := by
      simp only [State.answerWrite, State.hostLate, hreq, if_true]
    have hfail := Kept.lateFail u.used (u.freeNat % 65536) 0 addr be e.late
    rw [lateRegs_since habove] at hfail
    rw [hans]
    refine WriteFailed.passOn_respond (n := u.freeCtr + 1) s0 ?_ (hlog.mono (fun a ha => ?_))
      (fun _ => (Late.lateFail u.used _ addr be e.late).since habove)
    · rw [if_pos hreq]
      refine ((hk.withFreeCtr (u.freeCtr + 1)).trans hfail).mono (fun a ha => .inl ?_)
      simp only [List.mem_append] at ha ⊢
      exact ha.symm
    · refine hfail.1 a (fun hm => ?_) (logRegs_pass s a ha)
      obtain ⟨-, hlow⟩ := logRegs_range s a ha
      obtain ⟨hhigh, -⟩ := lateRegs_range s a hm
      omega

/-! ### Answers after the port's own state has changed (R35, R41) -/

/-- An answer leaves a frame that excepts the requesters already. -/
theorem Kept.passOn_answered {s u : State} {l : List Nat} (s0 : State) (h : Kept { s with reqs := u.reqs } u l) (r : Nat) (e : Bool)
    (d : Word) : Kept { s with reqs := (State.passOn s0 (u.respond r e d)).reqs } (State.passOn s0 (u.respond r e d)) l := by
  rw [passOn_reqs]
  exact (h.modRq r _).passOn s0

/-- Arming or disarming an unlock changes what GLB_UNLOCK_STS shows, and no other register (R41). -/
theorem Kept.setArmed (s : State) (r : Nat) (b : Bool) :
    Kept { s with reqs := (s.setArmed r b).reqs } (s.setArmed r b) [R.GLB_UNLOCK_STS] := Kept.wr _ _ _

theorem State.rd_setArmed_ne (s : State) (r : Nat) (b : Bool) {a : Nat} (h : a ≠ R.GLB_UNLOCK_STS) :
    (s.setArmed r b).rd a = s.rd a := State.rd_wr_ne _ _ h

@[simp] theorem armed_setArmed_same (s : State) (r : Nat) (b : Bool) : ((s.setArmed r b).rq r).armed = b :=
  congrArg Requester.armed (rq_modRq_same s r (fun q => { q with armed := b }))

theorem rq_setArmed_ne (s : State) {r q : Nat} (b : Bool) (h : q ≠ r) : (s.setArmed r b).rq q = s.rq q :=
  rq_modRq_ne s (fun x => { x with armed := b }) h

/-- An entry of the access log that came in after no register but GLB_UNLOCK_STS had changed has come in since before. -/
theorem Logged.since {s u t : State} {req addr be : Nat} {wr : Bool} {x : LogReason} (h : Logged u t req addr be wr x)
    (hreg : ∀ a, a ≠ R.GLB_UNLOCK_STS → u.rd a = s.rd a) : Logged s t req addr be wr x := by
  have hptr : u.g R.GLB_ACCLOG_PTR.NEXT = s.g R.GLB_ACCLOG_PTR.NEXT :=
    congrArg (fun w => fieldOf w 0 4) (hreg R.GLB_ACCLOG_PTR (by decide))
  have hsave : u.saving = s.saving := by
    simp only [State.saving, State.g]
    rw [hreg _ (by decide)]
  have hcnt : u.rd64 R.GLB_ACCLOG_CNT_LO = s.rd64 R.GLB_ACCLOG_CNT_LO := by
    simp only [State.rd64]
    rw [hreg _ (by decide), hreg _ (by decide)]
  unfold Logged at h ⊢
  rwa [hptr, hsave, hcnt] at h

theorem logRegs_since {s u : State} (hreg : ∀ a, a ≠ R.GLB_UNLOCK_STS → u.rd a = s.rd a) : logRegs u = logRegs s := by
  have hptr : u.g R.GLB_ACCLOG_PTR.NEXT = s.g R.GLB_ACCLOG_PTR.NEXT :=
    congrArg (fun w => fieldOf w 0 4) (hreg R.GLB_ACCLOG_PTR (by decide))
  simp only [logRegs, hptr]

/-! ### The checks at the port (R34, R36, R41-R44, R57) -/

theorem State.writeGate_loadRefused {s : State} {req a : Nat} (be : Nat) (v : Word) (h : s.loadRefused req a = true) :
    s.writeGate req a be v = (s.logAccess req a be true .load, .over (some .load)) := by
  unfold State.writeGate
  rw [if_pos h]

theorem State.writeGate_unmapped {s : State} {req a : Nat} (be : Nat) (v : Word) (h : rowOf a = none) (hl : s.loadRefused req a = false) :
    s.writeGate req a be v = (s.logAccess req a be true .unmap, .over (some .unmap)) := by
  unfold State.writeGate
  simp [hl, h]

/-- DMA's writes are not refused before commit (R57). -/
theorem State.loadRefused_dma (s : State) (a : Nat) : s.loadRefused reqDma a = false := rfl

/-- A write of a register of regions 0-2 is not refused before commit (R57). -/
theorem State.loadRefused_low (s : State) (req : Nat) {a : Nat} (h : regionOf a < 3) : s.loadRefused req a = false := by
  have hlow : ¬ 3 ≤ regionOf a := by omega
  simp [State.loadRefused, hlow]

/-- A write of GLB_UNLOCK is over at its port (R41). -/
theorem State.writeGate_unlock (s : State) (req : Nat) (v : Word) :
    s.writeGate req R.GLB_UNLOCK 15 v = (s.unlockWrite req v, .over none) := by
  obtain ⟨r, hrow, hmw⟩ : ∃ r, rowOf R.GLB_UNLOCK = some r ∧ r.mwLen = 1 := ⟨_, rfl, rfl⟩
  unfold State.writeGate
  simp [s.loadRefused_low req (a := R.GLB_UNLOCK) (by decide), hrow, hmw]

/-- The guarded CMD registers are mapped, have one word each, and GLB_UNLOCK is none of them (R44). -/
theorem guardedCmd_row {a : Nat} (h : guardedCmd a = true) : a ≠ R.GLB_UNLOCK ∧ ∃ r, rowOf a = some r ∧ r.mwLen = 1 := by
  simp only [guardedCmd, Bool.or_eq_true, beq_iff_eq] at h
  rcases h with ((((rfl | rfl) | rfl) | rfl) | rfl) | rfl
  all_goals exact ⟨by decide, _, rfl, rfl⟩

/-- A whole write of a guarded CMD register goes to the guard. -/
theorem State.writeGate_guardedCmd {s : State} {req a : Nat} (v : Word) (hg : guardedCmd a = true) (hl : s.loadRefused req a = false) :
    ∃ r, rowOf a = some r ∧ s.writeGate req a 15 v = s.guardGate req a r v := by
  obtain ⟨hu, r, hrow, hmw⟩ := guardedCmd_row hg
  refine ⟨r, hrow, ?_⟩
  unfold State.writeGate
  simp [hl, hrow, hmw, hu, hg]

section
variable {s : State} {req a : Nat} {r : Row} {v : Word} (hg : guardedCmd a = true)
include hg

theorem State.guardGate_dma : s.guardGate reqDma a r v = (s.logAccess reqDma a 15 true .dmaw, .over none) := by
  unfold State.guardGate
  simp [hg]

variable (hreq : req ≠ reqDma)
include hreq

theorem State.guardGate_unarmed (hb : s.barred req = false) (harm : (s.rq req).armed = false) :
    s.guardGate req a r v = (s.logAccess req a 15 true .guard, .over none) := by
  unfold State.guardGate State.guardVerdict
  simp [hg, hreq, hb, harm]

theorem State.guardGate_barred (hb : s.barred req = true) :
    s.guardGate req a r v = ((s.logAccess req a 15 true .locked).setArmed req false, .over none) := by
  unfold State.guardGate State.guardVerdict
  simp [hg, hreq, hb]

omit hg in
theorem State.guardGate_armed (hb : s.barred req = false) (harm : (s.rq req).armed = true) :
    s.guardGate req a r v = (s.setArmed req false, .act true) := by
  unfold State.guardGate State.guardVerdict
  simp [hreq, hb, harm]

end

/-- A read of an unmapped address ends in an error response (R34). -/
theorem State.portReadBe_unmapped {s : State} (req be : Nat) {a : Nat} (h : rowOf a = none) :
    s.portReadBe req a be = (s.logAccess req a be false .unmap).respond req true 0 := by
  unfold State.portReadBe State.busReadBe
  simp [h]

/-- The effect of a write that is logged at its port and ignored: an entry, and an answer without an error. -/
theorem Kept.loggedAnswer (s0 s : State) (req addr be : Nat) (x : LogReason) :
    Kept { s with reqs := (State.passOn s0 ((s.logAccess req addr be true x).respond req false 0)).reqs }
      (State.passOn s0 ((s.logAccess req addr be true x).respond req false 0)) (logRegs s) :=
  (Kept.logAccess s req addr be true x).passOn_respond s0 req false 0

end Sys2Proof.Machine

open Sys2Proof Sys2Proof.Machine

/-- Settles O9: such an access is over at its port, a read with an entry of the access log and the error response, a write as any
write that has failed. -/
theorem unmappedAccessLogged : Obligations.UnmappedAccessLogged := by
  unfold Obligations.UnmappedAccessLogged
  refine ⟨?read, ?write⟩
  case read =>
    intro s r a be hrow
    have hk := Kept.logAccess s r a be false .unmap
    have hexec : exec (.unmappedAccess r a be false) s =
        .next (State.passOn s ((s.logAccess r a be false .unmap).respond r true 0)) := by
      rw [← State.portReadBe_unmapped r be hrow]
      exact congrArg (done s) (by simp [hrow])
    exact ⟨_, hexec, resp_passOn_respond s _ r true 0, fun q hq => rq_passOn_respond_ne s hk true 0 hq,
      (Logged.logAccess s r a be false .unmap).passOn_respond s r true 0, hk.passOn_respond s r true 0⟩
  case write =>
    intro s r a be hrow hload
    have hexec : exec (.unmappedAccess r a be true) s =
        .next (State.passOn s ((s.logAccess r a be true .unmap).answerWrite r a be (some .unmap))) := by
      rw [← State.portWrite_of_over (State.writeGate_unmapped be 0 hrow hload)]
      exact congrArg (done s) (by simp [hrow])
    exact ⟨_, hexec, WriteFailed.answerWrite s s r a be .unmap .unmap⟩

/-- Settles O8: each write is over at its port, the unlock's by what GLB_UNLOCK says of the value, a guarded one by the guard's
verdict; one before commit fails there. -/
theorem unlockAndGuard : Obligations.UnlockAndGuard := by
  unfold Obligations.UnlockAndGuard
  refine ⟨?key, ?other, ?dma, ?expiry, ?unarmed, ?guardDma, ?barred, ?load⟩
  case key =>
    intro s r hr
    have hdma : r ≠ reqDma := by simp only [reqDma]; omega
    have hexec : exec (.unlockWrite r 0x5AFEC0DE) s = .next (State.passOn s ((s.setArmed r true).respond r false 0)) := by
      refine congrArg (done s) ((State.portWrite_of_over (s.writeGate_unlock r _)).trans ?_)
      simp only [State.unlockWrite, hdma, if_false, if_true, State.answerWrite]
    refine ⟨_, hexec, ?_, resp_passOn_respond s _ r false 0, fun q hq => ?_, (Kept.setArmed s r true).passOn_answered s r false 0⟩
    · rw [armed_passOn_respond s (Kept.refl _ []) r false 0, armed_setArmed_same]
    · rw [rq_passOn_respond_ne s (Kept.refl _ []) false 0 hq, rq_setArmed_ne s true hq]
  case other =>
    intro s r v hr hv
    have hdma : r ≠ reqDma := by simp only [reqDma]; omega
    have hsame : ∀ a, a ≠ R.GLB_UNLOCK_STS → (s.setArmed r false).rd a = s.rd a := fun a ha => s.rd_setArmed_ne r false ha
    have hk := Kept.logAccess (s.setArmed r false) r R.GLB_UNLOCK 15 true .unlk
    have hlog := Logged.logAccess (s.setArmed r false) r R.GLB_UNLOCK 15 true .unlk
    have hexec : exec (.unlockWrite r v) s =
        .next (State.passOn s (((s.setArmed r false).logAccess r R.GLB_UNLOCK 15 true .unlk).respond r false 0)) := by
      refine congrArg (done s) ((State.portWrite_of_over (s.writeGate_unlock r _)).trans ?_)
      simp only [State.unlockWrite, hdma, hv, if_false, State.answerWrite]
    refine ⟨_, hexec, ?_, fun q hq => ?_, (hlog.since hsame).passOn_respond s r false 0, ?_⟩
    · rw [armed_passOn_respond s hk r false 0, armed_setArmed_same]
    · rw [rq_passOn_respond_ne s hk false 0 hq, rq_setArmed_ne s false hq]
    · have hframe := (Kept.setArmed s r false).trans hk
      rw [logRegs_since hsame, ← hk.reqs_eq] at hframe
      exact hframe.passOn_answered s r false 0
  case dma =>
    intro s v
    have hk := Kept.logAccess s reqDma R.GLB_UNLOCK 15 true .dmaw
    have hexec := congrArg (done s) (State.portWrite_of_over (s.writeGate_unlock reqDma v))
    exact ⟨_, hexec, fun q hq => rq_passOn_respond_ne s hk false 0 hq,
      (Logged.logAccess s reqDma R.GLB_UNLOCK 15 true .dmaw).passOn_respond s reqDma false 0, Kept.loggedAnswer s s reqDma R.GLB_UNLOCK 15 .dmaw⟩
  case expiry =>
    intro s r harm
    have hexec : exec (.unlockExpiry r) s = .next (State.passOn s (s.setArmed r false)) := congrArg (done s) (by simp [harm])
    refine ⟨_, hexec, ?_, fun q hq => ?_, ?_⟩
    · rw [rq_congr _ _ (passOn_reqs s _), armed_setArmed_same]
    · rw [rq_congr _ _ (passOn_reqs s _), rq_setArmed_ne s false hq]
    · rw [passOn_reqs]
      exact (Kept.setArmed s r false).passOn s
  case unarmed =>
    intro s req a v hg hreq hb harm hload
    obtain ⟨r, -, hgate⟩ := State.writeGate_guardedCmd v hg hload
    rw [State.guardGate_unarmed hg hreq hb harm] at hgate
    exact ⟨_, congrArg (done s) (State.portWrite_of_over hgate), (Logged.logAccess s req a 15 true .guard).passOn_respond s req false 0,
      resp_passOn_respond s _ req false 0, fun q hq => rq_passOn_respond_ne s (Kept.logAccess s req a 15 true .guard) false 0 hq,
      Kept.loggedAnswer s s req a 15 .guard⟩
  case guardDma =>
    intro s a v hg
    obtain ⟨r, -, hgate⟩ := State.writeGate_guardedCmd v hg (s.loadRefused_dma a)
    rw [State.guardGate_dma hg] at hgate
    exact ⟨_, congrArg (done s) (State.portWrite_of_over hgate), (Logged.logAccess s reqDma a 15 true .dmaw).passOn_respond s reqDma false 0,
      fun q hq => rq_passOn_respond_ne s (Kept.logAccess s reqDma a 15 true .dmaw) false 0 hq, Kept.loggedAnswer s s reqDma a 15 .dmaw⟩
  case barred =>
    intro s req a v hg hreq hb hload
    obtain ⟨r, -, hgate⟩ := State.writeGate_guardedCmd v hg hload
    rw [State.guardGate_barred hg hreq hb] at hgate
    have hk := Kept.logAccess s req a 15 true .locked
    have hlog : Logged s ((s.logAccess req a 15 true .locked).setArmed req false) req a 15 true .locked :=
      (Logged.logAccess s req a 15 true .locked).mono (fun b hb => State.rd_setArmed_ne _ _ _ (by
        rintro rfl
        exact absurd (logRegs_range s _ hb).1 (by decide)))
    refine ⟨_, congrArg (done s) (State.portWrite_of_over hgate), hlog.passOn_respond s req false 0, ?_, fun q hq => ?_, ?_⟩
    · exact (armed_passOn_respond s (Kept.refl _ []) req false 0).trans (armed_setArmed_same _ req false)
    · refine (rq_passOn_respond_ne s (Kept.refl _ []) false 0 hq).trans ((rq_setArmed_ne _ false hq).trans ?_)
      exact rq_congr _ _ hk.reqs_eq q
    · have hframe : Kept { s with reqs := ((s.logAccess req a 15 true .locked).setArmed req false).reqs }
          ((s.logAccess req a 15 true .locked).setArmed req false) (R.GLB_UNLOCK_STS :: logRegs s) :=
        ((hk.withReqs.modRq req (fun q => { q with armed := false })).trans (Kept.wr _ R.GLB_UNLOCK_STS _)).mono
          (fun b hb => .inl (by simpa [or_comm] using hb))
      exact hframe.passOn_answered s req false 0
  case load =>
    intro s req a be v hreq hbefore hlo hhi
    have hload : s.loadRefused req a = true := by simp [State.loadRefused, hreq, hbefore, hlo, hhi]
    exact ⟨_, congrArg (done s) (State.portWrite_of_over (State.writeGate_loadRefused be v hload)),
      WriteFailed.answerWrite s s req a be .load .load⟩

end

section
/-! SUPPORT. What a register read does and leaves (R34, R38, R40, R47), and what a write of a word of a multiword value does
(R39, R40). -/

namespace Sys2Proof.Machine

/-! ### Register reads (R38, R40, R47) -/

/-- An offset lies in region `n` when it is not below the bases up to `n`, and below the others (R33). -/
theorem regionOf_eq {n a : Nat} (hlo : ∀ b ∈ regionBases.take (n + 1), b ≤ a) (hhi : ∀ b ∈ regionBases.drop (n + 1), a < b)
    (hn : n < regionBases.length) : regionOf a = n := by
  have htake : (regionBases.take (n + 1)).countP (fun b => b ≤ a) = n + 1 := by
    rw [List.countP_eq_length.mpr (fun b hb => decide_eq_true (hlo b hb)), List.length_take]
    omega
  have hdrop : (regionBases.drop (n + 1)).countP (fun b => b ≤ a) = 0 :=
    List.countP_eq_zero.mpr (fun b hb => by simpa using hhi b hb)
  rw [regionOf, ← List.take_append_drop (n + 1) regionBases, List.countP_append, htake, hdrop]
  rfl

/-- The registers of the power die (R33). -/
theorem regionOf_pwr {a : Nat} (hlo : 0x1E00000 ≤ a) (hhi : a < 0x2000000) : regionOf a = 12 := by
  have hbelow : ∀ b ∈ regionBases.take 13, b ≤ 0x1E00000 := by decide
  have habove : ∀ b ∈ regionBases.drop 13, 0x2000000 ≤ b := by decide
  exact regionOf_eq (fun b hb => (hbelow b hb).trans hlo) (fun b hb => Nat.lt_of_lt_of_le hhi (habove b hb)) (by decide)

/-- Only PWR_LD_STS, on the power die, shows a free value (log 40). -/
theorem State.readUse_of_region (s : State) {a : Nat} (h : regionOf a ≠ 12) : s.readUse a = s := by
  unfold State.readUse
  refine if_neg (fun hsts => h (regionOf_pwr ?_ ?_))
  all_goals simp only [R.PWR_LD_STS] at hsts; omega

/-- From `s` to `u` a read by requester `req` has changed nothing but that requester's shadows, and the number of the next free
value (R38, R47). -/
structure ReadOnly (s u : State) (req : Nat) : Prop where
  rest : u = { s with reqs := u.reqs, freeCtr := u.freeCtr }
  armed : (u.rq req).armed = (s.rq req).armed
  holds : (u.rq req).holds = (s.rq req).holds
  others : ∀ q, q ≠ req → u.rq q = s.rq q

theorem ReadOnly.refl (s : State) (req : Nat) : ReadOnly s s req := ⟨rfl, rfl, rfl, fun _ _ => rfl⟩

theorem ReadOnly.readUse (s : State) (req a : Nat) : ReadOnly s (s.readUse a) req := by
  have hreqs : (s.readUse a).reqs = s.reqs := by rw [State.readUse_eq]
  refine ⟨?_, congrArg _ (rq_congr _ _ hreqs req), congrArg _ (rq_congr _ _ hreqs req), fun q _ => rq_congr _ _ hreqs q⟩
  rw [hreqs]
  exact State.readUse_eq s a

/-- The state of a requester that has read the _LO word at `a` of a value of row `r` (R38). -/
def State.latch (s : State) (req a : Nat) (r : Row) : State :=
  let sh : Shadow := { tag := a, words := (List.range (r.mwLen - 1)).map (fun k => s.peek req (a + 4 * (k + 1))) }
  s.modRq req (fun q => { q with shadows := q.shadows.set (fun _ => none) (regionOf a) (some sh) })

theorem ReadOnly.latch (s : State) (req a : Nat) (r : Row) : ReadOnly s (s.latch req a r) req := by
  refine ⟨rfl, ?_, ?_, fun q hq => rq_modRq_ne s _ hq⟩
  all_goals rw [State.latch, rq_modRq_same]

theorem State.regRead_dma {s : State} {a : Nat} {r : Row} (hrow : rowOf a = some r) :
    s.regRead reqDma a = (s.readUse a, some (s.peek reqDma a)) := by
  unfold State.regRead
  simp [hrow]

/-- A read of a _LO word latches the higher words (R38). -/
theorem State.regRead_lo {s : State} {req a : Nat} {r : Row} (hrow : rowOf a = some r) (hmw : 1 < r.mwLen) (hidx : r.mwIdx = 0)
    (hreq : req ≠ reqDma) : s.regRead req a = (s.latch req a r, some (s.peek req a)) := by
  have hlen : ¬ (r.mwLen = 1 ∨ req = reqDma) := by
    rintro (hone | hdma)
    · omega
    · exact hreq hdma
  unfold State.regRead
  simp only [hrow, hlen, hidx, if_false, if_true]
  rfl

/-- What a read of a mapped register can do (R38, R40, R47): it answers a word and is a read only, which uses a free value only
where the power die shows one. -/
theorem State.regRead_readOnly (s : State) (req : Nat) {a : Nat} {r : Row} (hrow : rowOf a = some r) :
    ∃ u w, s.regRead req a = (u, some w) ∧ ReadOnly s u req ∧ (regionOf a ≠ 12 → u.freeCtr = s.freeCtr) := by
  by_cases hlive : r.mwLen = 1 ∨ req = reqDma
  · refine ⟨s.readUse a, s.peek req a, ?_, ReadOnly.readUse s req a, fun h => by rw [s.readUse_of_region h]⟩
    unfold State.regRead
    simp only [hrow, hlive, if_true]
  · by_cases hidx : r.mwIdx = 0
    · refine ⟨s.latch req a r, s.peek req a, ?_, ReadOnly.latch s req a r, fun _ => rfl⟩
      unfold State.regRead
      simp only [hrow, hlive, hidx, if_false, if_true]
      rfl
    · have hsame : ∃ w, s.regRead req a = (s, some w) := by
        unfold State.regRead
        simp only [hrow, hlive, hidx, if_false]
        split
        · split
          · exact ⟨_, rfl⟩
          · exact ⟨_, rfl⟩
        · exact ⟨_, rfl⟩
      obtain ⟨w, hw⟩ := hsame
      exact ⟨s, w, hw, ReadOnly.refl s req, fun _ => rfl⟩

/-- A read at the port of a register outside the PWR region is answered at once. -/
theorem State.portRead_of_regRead {s u : State} {req a : Nat} {w : Word} {r : Row} (hrow : rowOf a = some r) (hreg : regionOf a ≠ 12)
    (h : s.regRead req a = (u, some w)) : s.portRead req a = u.respond req false w := by
  unfold State.portRead State.portReadBe State.busReadBe
  simp [hrow, hreg, h]

/-- The oldest read takes its word from the power die once the link carries traffic (R11). -/
theorem State.tenonDone_of_regRead {s u : State} {x : PwrAcc} {rest : List PwrAcc} {w : Word} (hacc : s.tenon.acc = x :: rest)
    (hup : s.tenon.up = true) (hwr : x.wr = false) (h : (s.tenonRest rest).regRead x.req x.addr = (u, some w)) :
    s.tenonDone = some (u, x, w) := by
  have hdone : s.tenonDone = some (((s.tenonRest rest).regRead x.req x.addr).1, x,
      ((s.tenonRest rest).regRead x.req x.addr).2.getD 0) := by
    unfold State.tenonDone State.tenonRest
    simp [hacc, hup, hwr]
  rw [hdone, h, Option.getD_some]

/-- An answer changes what the requester that is answered sees of its last access, and no more (R35). -/
theorem rq_passOn_respond_same (s0 u : State) (r : Nat) (e : Bool) (d : Word) :
    (State.passOn s0 (u.respond r e d)).rq r = { u.rq r with resp := { err := e, data := d } } := by
  rw [rq_congr _ _ (passOn_reqs s0 _), State.respond, rq_modRq_same]

section
variable {s u : State} {req : Nat} (h : ReadOnly s u req) (s0 : State) (e : Bool) (d : Word)
include h

theorem ReadOnly.armed_answered : ((State.passOn s0 (u.respond req e d)).rq req).armed = (s.rq req).armed :=
  (armed_passOn_respond s0 (Kept.refl u []) req e d).trans h.armed

theorem ReadOnly.holds_answered : ((State.passOn s0 (u.respond req e d)).rq req).holds = (s.rq req).holds := by
  rw [rq_passOn_respond_same]
  exact h.holds

theorem ReadOnly.others_answered {q : Nat} (hq : q ≠ req) : (State.passOn s0 (u.respond req e d)).rq q = s.rq q :=
  (rq_passOn_respond_ne s0 (Kept.refl u []) e d hq).trans (h.others q hq)

theorem ReadOnly.tenon_answered : (State.passOn s0 (u.respond req e d)).tenon = s.tenon := by
  have hu : u.tenon = s.tenon := by rw [h.rest]
  exact (passOn_tenon s0 _).trans hu

/-- A read and its answer leave everything but the requesters and the number of the next free value. -/
theorem ReadOnly.kept_answered :
    Kept { s with reqs := (State.passOn s0 (u.respond req e d)).reqs, freeCtr := (State.passOn s0 (u.respond req e d)).freeCtr }
      (State.passOn s0 (u.respond req e d)) [] := by
  rw [passOn_reqs, passOn_freeCtr]
  have hrest : u.respond req e d =
      { s with reqs := (u.respond req e d).reqs, freeCtr := (u.respond req e d).freeCtr } := by
    conv_lhs => rw [h.rest]
    rfl
  rw [← hrest]
  exact Quiet.passOn s0 _

end

/-! ### Writes of a word of a multiword value (R39, R40) -/

/-- The words held for the value at `lo` by requester `req` for region `n`: none under another tag (R39). -/
def State.heldFor (s : State) (req n lo : Nat) : Tab Word :=
  match s.holding req n with
  | some h => if h.tag = lo then h.words else []
  | none => []

theorem State.mwWrite_lower {s : State} {req a : Nat} {r : Row} {v : Word} (hidx : r.mwIdx + 1 < r.mwLen) :
    s.mwWrite req r a v = s.setHolding req (regionOf a)
      (some { tag := a - 4 * r.mwIdx, words := (s.heldFor req (regionOf a) (a - 4 * r.mwIdx)).put r.mwIdx v }) := by
  exact if_pos hidx

/-- The commit of a two-word value that changes no Res. field and has no act of its own stores both words (R39). -/
theorem State.mwCommit_two {s : State} {req lo : Nat} {r : Row} {low v : Word} (hlow : s.keepsRes lo low = true)
    (hhi : s.keepsRes (lo + 4) v = true) (hact : ∀ u, s.commitAct lo r u = none) :
    s.mwCommit req lo r [low, v] = (s.store lo low).store (lo + 4) v := by
  have hres := s.resStep_keeps req lo low hlow
  have hres' := s.resStep_keeps req (lo + 4) v hhi
  unfold State.mwCommit
  simp [State.each, List.zipIdx, hres, hres', hact]

theorem State.mwWrite_hi {s : State} {req a : Nat} {r : Row} {v : Word} (hidx : r.mwIdx = 1) (hlen : r.mwLen = 2) :
    s.mwWrite req r a v = (s.setHolding req (regionOf a) none).mwCommit req (a - 4) r
      [((s.heldFor req (regionOf a) (a - 4)).find? 0).getD (s.peek req (a - 4)), v] := by
  rw [State.mwWrite, hidx, hlen]
  rfl

/-- A write of a word of a multiword value, which is no guarded register, passes its port but from DMA (R39, R40). -/
theorem State.writeGate_multiword {s : State} {req a : Nat} {v : Word} {r : Row} (hrow : rowOf a = some r)
    (hl : s.loadRefused req a = false) (hreq : req ≠ reqDma) (hu : a ≠ R.GLB_UNLOCK) (hrwg : r.rwg = 0)
    (hg : guardedCmd a = false) : s.writeGate req a 15 v = (s, .act true) := by
  unfold State.writeGate
  simp [hl, hrow, hreq, hu, hrwg, hg]

/-- A DMA write of a word of a multiword value is over at its port (R40). -/
theorem State.writeGate_multiword_dma {s : State} {a : Nat} {v : Word} {r : Row} (hrow : rowOf a = some r) (hmw : 1 < r.mwLen) :
    s.writeGate reqDma a 15 v = (s.logAccess reqDma a 15 true .dmaw, .over none) := by
  unfold State.writeGate
  simp [s.loadRefused_dma a, hrow, hmw]

theorem State.writeAct_multiword {s : State} {w : Writer} {req a : Nat} {v : Word} {full : Bool} {r : Row} (hrow : rowOf a = some r)
    (hmw : 1 < r.mwLen) : s.writeAct w req a v full = s.mwWrite req r a v := by
  unfold State.writeAct
  simp [hrow, hmw]

theorem mwPlace_of_rowOf {a : Nat} {r : Row} (h : rowOf a = some r) : mwPlace a = (r.mwIdx, r.mwLen) := by
  unfold mwPlace
  rw [h]

/-- A write of a word of a multiword value outside the PWR region goes to its holding register or commits, and is answered. -/
theorem State.portWrite_multiword {s : State} {req a : Nat} {v : Word} {r : Row} (hrow : rowOf a = some r) (hmw : 1 < r.mwLen)
    (hl : s.loadRefused req a = false) (hreq : req ≠ reqDma) (hu : a ≠ R.GLB_UNLOCK) (hrwg : r.rwg = 0)
    (hg : guardedCmd a = false) (hreg : regionOf a ≠ 12) :
    s.portWrite req a 15 v = (s.mwWrite req r a v).respond req false 0 := by
  rw [State.portWrite_of_act (State.writeGate_multiword hrow hl hreq hu hrwg hg) hreg, State.writeAct_multiword hrow hmw]

end Sys2Proof.Machine

open Sys2Proof Sys2Proof.Machine

/-- Settles O11: a read of a _LO word is a latch and its answer; a write passes its port and is held, or commits the two words
without an act of their own. -/
theorem multiwordAccesses : Obligations.MultiwordAccesses := by
  unfold Obligations.MultiwordAccesses
  refine ⟨?read, ?lower, ?commit⟩
  case read =>
    intro s req a r hrow hmw hidx hreq hreg
    exact congrArg (done s) (State.portRead_of_regRead hrow hreg (State.regRead_lo hrow hmw hidx hreq))
  case lower =>
    intro s req a v r held hrow hidx hrwg hg hreq hreg hload hu hheld
    have hw := State.portWrite_multiword (v := v) hrow (by omega) hload hreq hu hrwg hg hreg
    have hwords : s.heldFor req (regionOf a) (a - 4 * r.mwIdx) = held := by
      rw [hheld]
      unfold State.heldFor
      cases s.holding req (regionOf a)
      · rfl
      · rfl
    have hplace : (mwPlace a).1 + 1 < (mwPlace a).2 := by rwa [mwPlace_of_rowOf hrow]
    rw [State.mwWrite_lower hidx, hwords] at hw
    exact congrArg (done s) ((if_pos hplace).trans hw)
  case commit =>
    intro s req a v low r hrow hidx hlen hrwg hg hreq hreg hu hadm ha hlow hres hact
    obtain ⟨hload, hkeep⟩ := hadm
    have hw := State.portWrite_multiword (v := v) hrow (by omega) hload hreq hu hrwg hg hreg
    have htaken : ((s.heldFor req (regionOf a) (a - 4)).find? 0).getD (s.peek req (a - 4)) = low := by
      rw [hlow, State.heldFor]
      cases s.holding req (regionOf a) with
      | none => rfl
      | some h =>
        by_cases htag : h.tag = a - 4
        · simp only [htag, if_true]
        · simp only [htag, if_false, Tab.find?_nil, Option.getD_none]
    have hplace : 1 < (mwPlace a).2 ∧ (mwPlace a).1 + 1 = (mwPlace a).2 := by
      rw [mwPlace_of_rowOf hrow, hidx, hlen]
      decide
    have hcommit := State.mwCommit_two (s := s.setHolding req (regionOf a) none) (req := req) (low := low) (v := v) hres
      (by rwa [Nat.sub_add_cancel ha]) hact
    rw [State.mwWrite_hi hidx hlen, htaken, hcommit, Nat.sub_add_cancel ha] at hw
    exact congrArg (done s) ((if_pos hplace).trans hw)

/-- Settles O13: the read at the port, or the one that the power die completes, is a read only, and so is its answer. -/
theorem readsChangeNothing : Obligations.ReadsChangeNothing := by
  unfold Obligations.ReadsChangeNothing
  refine ⟨?port, ?die⟩
  case port =>
    intro s req a r hrow hreg
    obtain ⟨u, w, hread, hro, hfree⟩ := s.regRead_readOnly req hrow
    have hk := hro.kept_answered s false w
    have hctr : (State.passOn s (u.respond req false w)).freeCtr = s.freeCtr := by
      rw [passOn_freeCtr]
      exact hfree hreg
    rw [hctr] at hk
    exact ⟨_, congrArg (done s) (State.portRead_of_regRead hrow hreg hread), hro.armed_answered s false w, hro.holds_answered s false w,
      fun q hq => hro.others_answered s false w hq, hk⟩
  case die =>
    intro s x rest r hacc hup hsrc hwr hrow
    obtain ⟨u, w, hread, hro, -⟩ := (s.tenonRest rest).regRead_readOnly x.req hrow
    have hdone := State.pwrComplete_port (State.tenonDone_of_regRead hacc hup hwr hread) hsrc
    have htenon := hro.tenon_answered s false w
    refine ⟨_, congrArg (done s) hdone, hro.armed_answered s false w, hro.holds_answered s false w, htenon,
      fun q hq => hro.others_answered s false w hq, ?_⟩
    rw [htenon]
    exact hro.kept_answered s false w

/-- Settles O12: DMA reads the live word and latches nothing, as a use of a free value at most; its write is over at the port. -/
theorem dmaMultiwordAccesses : Obligations.DmaMultiwordAccesses := by
  unfold Obligations.DmaMultiwordAccesses
  refine ⟨?port, ?die, ?write⟩
  case port =>
    intro s a r hrow hmw hreg
    have hread := State.regRead_dma (s := s) hrow
    rw [s.readUse_of_region hreg] at hread
    have hk := Kept.refl s []
    refine ⟨_, congrArg (done s) (State.portRead_of_regRead hrow hreg hread), resp_passOn_respond s s reqDma false _, ?_, ?_,
      fun q hq => rq_passOn_respond_ne s hk false _ hq, hk.passOn_respond s reqDma false _⟩
    all_goals rw [rq_passOn_respond_same]
  case die =>
    intro s x rest r hacc hup hsrc hwr hreq hrow hmw
    have hro := ReadOnly.readUse (s.tenonRest rest) reqDma x.addr
    have hread := State.regRead_dma (s := s.tenonRest rest) hrow
    rw [← hreq] at hread
    have hdone := State.pwrComplete_port (State.tenonDone_of_regRead hacc hup hwr hread) hsrc
    rw [hreq] at hdone
    have hshadows : ((s.tenonRest rest).readUse x.addr).rq reqDma = s.rq reqDma := by
      rw [State.readUse_eq]
      rfl
    refine ⟨_, congrArg (done s) hdone, resp_passOn_respond s _ reqDma false _, ?_, ?_, fun q hq => hro.others_answered s false _ hq, ?_⟩
    · rw [rq_passOn_respond_same, hshadows]
    · rw [rq_passOn_respond_same, hshadows]
    · rw [hro.tenon_answered s false _]
      exact hro.kept_answered s false _
  case write =>
    intro s a v r hrow hmw
    have hk := Kept.logAccess s reqDma a 15 true .dmaw
    have hw := State.portWrite_of_over (State.writeGate_multiword_dma (s := s) (v := v) hrow hmw)
    have hplace : 1 < (mwPlace a).2 := by rwa [mwPlace_of_rowOf hrow]
    exact ⟨_, congrArg (done s) ((if_pos hplace).trans hw), (Logged.logAccess s reqDma a 15 true .dmaw).passOn_respond s reqDma false 0,
      (ReadOnly.holds_answered (ReadOnly.refl _ reqDma) s false 0).trans (congrArg Requester.holds (rq_congr _ _ hk.reqs_eq reqDma)),
      fun q hq => rq_passOn_respond_ne s hk false 0 hq, Kept.loggedAnswer s s reqDma a 15 .dmaw⟩

end

section
/-! SUPPORT. Write-once fields (R45), and what counter clear and soft reset leave (R51, R59). -/

namespace Sys2Proof.Machine

/-! ### Registers with an act of their own, and command registers (R48) -/

/-- A write of one row of the table outside the PWR region is a write at its requester's port. -/
theorem State.rowWrite_eq_portWrite (s : State) (req : Nat) {a : Nat} (v : Word) (h : regionOf a ≠ 12) :
    s.rowWrite req a v = s.portWrite req a 15 v := by
  unfold State.rowWrite State.portWrite
  simp only [h, false_and, if_false]

/-- A write that changes no Res. field, of a register with an act of its own, is that act. -/
theorem State.writeAct_of_own {s u : State} {w : Writer} {req a : Nat} {v : Word} {full : Bool} {r : Row} (hrow : rowOf a = some r)
    (hmw : r.mwLen = 1) (hs : s.ringShut req a = false) (hres : s.keepsRes a v = true) (hown : s.ownAct w req r a v full = some u) :
    s.writeAct w req a v full = u := by
  unfold State.writeAct
  simp [hrow, hmw, hs, State.resStep_keeps s req a v hres, hown]

/-- A command that is accepted stores its fields with its STAT and acts (R48). -/
theorem State.command_accepted {s : State} {req a st : Nat} {v : Word} {eff : State → State} (hidle : s.stat a ≠ statBusy) :
    s.command req a v true st eff = eff (s.putCmd a v st) := by
  unfold State.command
  simp [hidle]

/-- A field whose bits are all taken from `y` reads as in `y`. -/
theorem fieldOf_merge (x y m : Word) (lo wd : Nat) (h : ∀ i, i < wd → m.getLsbD (lo + i) = true) :
    fieldOf ((x &&& ~~~m) ||| (y &&& m)) lo wd = fieldOf y lo wd := by
  apply Nat.eq_of_testBit_eq
  intro i
  rw [testBit_fieldOf, testBit_fieldOf]
  by_cases hi : i < wd
  · simp [hi, h i hi]
  · simp [hi]

theorem State.rd_putCmd_ne (s : State) {a b : Nat} (v : Word) (st : Nat) (h : b ≠ a) : (s.putCmd a v st).rd b = s.rd b := by
  unfold State.putCmd State.storeCmd
  split
  · exact State.rd_wr_ne s _ h
  · rfl

theorem State.rd_putCmd_same {s : State} {a st : Nat} {v : Word} {r : Row} (hrow : rowOf a = some r) :
    (s.putCmd a v st).rd a = (s.rd a &&& ~~~(W r.cmd)) ||| (withField v 30 2 st &&& W r.cmd) := by
  unfold State.putCmd State.storeCmd
  simp only [hrow]
  exact State.rd_wr_same s a _

/-! ### Write-once fields (R45) -/

/-- The registers with W1X fields, of mask `m`, have no other field that can be written. -/
theorem onceRow {a : Nat} (h : a = R.GLB_LOCK ∨ a = R.KEY_TAMP_EN) :
    ∃ r, rowOf a = some r ∧ r.mwLen = 1 ∧ r.rw = 0 ∧ r.rwg = 0 ∧ r.w1c = 0 ∧ r.base = a ∧
      r.w1x = (if a = R.GLB_LOCK then 7 else 31) := by
  rcases h with rfl | rfl
  · exact ⟨_, rfl, rfl, rfl, rfl, rfl, rfl, rfl⟩
  · exact ⟨_, rfl, rfl, rfl, rfl, rfl, rfl, rfl⟩

theorem State.ownAct_once {s : State} {w : Writer} {req a : Nat} {r : Row} {v : Word} {full : Bool}
    (h : a = R.GLB_LOCK ∨ a = R.KEY_TAMP_EN) (hbase : r.base = a) : s.ownAct w req r a v full = none := by
  unfold State.ownAct
  rcases h with rfl | rfl
  · rw [hbase]
    rfl
  · rw [hbase]
    rfl

/-- A write at the port of a register with W1X fields is a write of those fields and its answer (R45). -/
theorem State.portWrite_once {s : State} {req a : Nat} {v : Word} {r : Row} (h : a = R.GLB_LOCK ∨ a = R.KEY_TAMP_EN)
    (hadm : Admitted s req a v) (hrow : rowOf a = some r) (hmw : r.mwLen = 1) (hrw : r.rw = 0) (hrwg : r.rwg = 0) (hw1c : r.w1c = 0)
    (hw1x : r.w1x ≠ 0) (hbase : r.base = a) :
    s.portWrite req a 15 v = ((s.wrBits a 0 v).onceWrite req a r v).respond req false 0 := by
  obtain ⟨hload, hres⟩ := hadm
  obtain ⟨hu, hg, hreg, hso, hshut⟩ : a ≠ R.GLB_UNLOCK ∧ guardedCmd a = false ∧ regionOf a ≠ 12 ∧ a ≠ R.PWR_SO ∧
      s.ringShut req a = false := by
    rcases h with rfl | rfl
    · exact ⟨by decide, by decide, by decide, by decide, by simp [State.ringShut, R.GLB_LOCK]⟩
    · exact ⟨by decide, by decide, by decide, by decide, by simp [State.ringShut, R.KEY_TAMP_EN]⟩
  have hcode : s.codeWrite req r a v true = (s.wrBits a 0 v).onceWrite req a r v := by
    unfold State.codeWrite
    simp [hrw, hrwg, hw1c, hw1x, hso]
  rw [State.portWrite_of_act (State.writeGate_unguarded hrow hload hmw hu hrwg hg) hreg,
    State.writeAct_of_codes hrow hmw hshut hres (State.ownAct_once h hbase), hcode]

/-- A write of no bit of a register leaves every register. -/
theorem State.rd_wrBits_zero (s : State) (a : Nat) (v : Word) (b : Nat) : (s.wrBits a 0 v).rd b = s.rd b := by
  unfold State.wrBits
  rw [State.rd_wr]
  split
  case isTrue hb => rw [hb, show W 0 = 0#32 from rfl, BitVec.not_zero, BitVec.and_allOnes, BitVec.and_zero, BitVec.or_zero]
  case isFalse => rfl

theorem Kept.wrBits_zero (s : State) (a : Nat) (v : Word) : Kept s (s.wrBits a 0 v) [] :=
  ⟨fun b _ _ => s.rd_wrBits_zero a v b, fun _ _ _ => rfl, rfl⟩

/-- The first write since the reset of the fields, with no fuse of them blown, sets them (R45). -/
theorem State.onceWrite_first {s : State} {req a : Nat} {r : Row} {v : Word} (hfuse : a = R.GLB_LOCK → s.vault.locks % 8 = 0)
    (hnew : a ∉ s.once) : s.onceWrite req a r v = { s.wrBits a r.w1x v with once := s.once ++ [a] } := by
  have hfused : (if a = R.GLB_LOCK then W (s.vault.locks % 8) else 0) = 0 := by
    split
    case isTrue h => rw [hfuse h]; rfl
    case isFalse => rfl
  have hmark : s.once.contains a = false := by simpa using hnew
  have hv : v ||| 0 = v := BitVec.or_zero
  unfold State.onceWrite
  simp only [hfused, hmark, hv, Bool.false_eq_true, if_false, if_true]

/-- Later writes leave the fields and are logged (R45). -/
theorem State.onceWrite_later {s : State} {req a : Nat} {r : Row} {v : Word} (hold : a ∈ s.once) :
    s.onceWrite req a r v = s.logAccess req a 15 true .once := by
  unfold State.onceWrite
  simp [hold]

/-! ### The core die in reset, and the loss of the keep-alive store (R53, R77, R462, R493, R494) -/

/-- What a reset of the core die does before its registers take Reset values: flash, sleep master, vault and recorder. -/
def State.blocksReset (s : State) : State := (s.flTorn.slpBreak whyReset).keyClear.memReset false

/-- A reset of the core die gives every register that it does not keep its Reset value. -/
theorem State.rd_coreReset (s : State) {hard : Bool} {a : Nat} (h : coreKept hard a = false) : (s.coreReset hard).rd a = resetOf a := by
  have hregs : (s.coreReset hard).regs =
      ((s.blocksReset.resetRegs (fun a => (!coreKept hard a) || (hard && regionOf a == 16 && a != R.MEM_EXP_ID))).wr R.FLT_STS
        (s.blocksReset.rd R.FLT_STS &&& 0x80000000)).regs := rfl
  have hsts : a ≠ R.FLT_STS := by
    rintro rfl
    exact absurd h (by cases hard <;> decide)
  rw [State.rd_congr _ _ hregs, State.rd_wr_ne _ _ hsts, State.rd_resetRegs, h]
  rfl

/-- What a reset of the core die keeps is as the blocks have left it, short of the contents that power-on takes. -/
theorem State.rd_coreReset_kept (s : State) {a : Nat} (h : coreKept false a = true) (hsts : a ≠ R.FLT_STS) :
    (s.coreReset false).rd a = s.blocksReset.rd a := by
  have hregs : (s.coreReset false).regs =
      ((s.blocksReset.resetRegs (fun a => (!coreKept false a) || (false && regionOf a == 16 && a != R.MEM_EXP_ID))).wr R.FLT_STS
        (s.blocksReset.rd R.FLT_STS &&& 0x80000000)).regs := rfl
  rw [State.rd_congr _ _ hregs, State.rd_wr_ne _ _ hsts, State.rd_resetRegs, h]
  rfl

/-- The loss of the keep-alive store gives the registers it holds their Reset values. -/
theorem State.rd_storeLost (s : State) {a : Nat} (h : keepAlive a = true) (hsts : a ≠ R.FLT_STS) : s.storeLost.rd a = resetOf a := by
  have hregs : s.storeLost.regs = ((s.resetRegs keepAlive).p R.FLT_STS.FATAL 0).regs := rfl
  rw [State.rd_congr _ _ hregs, State.rd_p_ne _ _ _ hsts, State.rd_resetRegs, if_pos h]

end Sys2Proof.Machine

open Sys2Proof Sys2Proof.Machine

/-- Settles O15: the write passes its port and the mark of its register says whether it is the first; a reset of the core die
as at power-on and the loss of the store each take the mark away. -/
theorem writeOnceFields : Obligations.WriteOnceFields := by
  unfold Obligations.WriteOnceFields
  refine ⟨?first, ?later, ?power, ?store⟩
  case first =>
    intro s req a v m hcase hadm hnew
    have ha : a = R.GLB_LOCK ∨ a = R.KEY_TAMP_EN := hcase.imp And.left And.left
    have hpass : a ∉ passRegs := by rcases ha with rfl | rfl <;> decide
    obtain ⟨r, hrow, hmw, hrw, hrwg, hw1c, hbase, hw1x⟩ := onceRow ha
    have hm : W r.w1x = m ∧ r.w1x ≠ 0 ∧ (a = R.GLB_LOCK → s.vault.locks % 8 = 0) := by
      rw [hw1x]
      rcases hcase with ⟨rfl, rfl, hfuse⟩ | ⟨rfl, rfl⟩
      · exact ⟨by decide, by decide, fun _ => hfuse⟩
      · exact ⟨by decide, by decide, fun h => absurd h (by decide)⟩
    obtain ⟨hmask, hnz, hfuse⟩ := hm
    have hw := State.portWrite_once ha hadm hrow hmw hrw hrwg hw1c hnz hbase
    rw [State.onceWrite_first (s := s.wrBits a 0 v) hfuse hnew] at hw
    have hk : Kept { s with once := s.once ++ [a] } { (s.wrBits a 0 v).wrBits a r.w1x v with once := s.once ++ [a] } [a] :=
      (Kept.wrBits_zero { s with once := s.once ++ [a] } a v).trans (Kept.wr _ a _)
    refine ⟨_, congrArg (done s) hw, ?_, ?_, resp_passOn_respond s _ req false 0, fun q hq => rq_passOn_respond_ne s hk false 0 hq, ?_⟩
    · rw [rd_passOn s _ hpass, rd_respond, ← hmask]
      refine (State.rd_wr_same _ a _).trans ?_
      rw [s.rd_wrBits_zero]
    · rw [passOn_once]
      rfl
    · rw [passOn_once]
      exact hk.passOn_respond s req false 0
  case later =>
    intro s req a v ha hadm hold
    have hpass : a ∉ passRegs := by rcases ha with rfl | rfl <;> decide
    have hlow : a ∉ logRegs s := fun hm => by
      have hrange := logRegs_range s a hm
      rcases ha with rfl | rfl
      · exact absurd hrange.1 (by decide)
      · exact absurd hrange.2 (by decide)
    obtain ⟨r, hrow, hmw, hrw, hrwg, hw1c, hbase, hw1x⟩ := onceRow ha
    have hnz : r.w1x ≠ 0 := by
      rw [hw1x]
      split <;> decide
    have hw := State.portWrite_once ha hadm hrow hmw hrw hrwg hw1c hnz hbase
    rw [State.onceWrite_later (s := s.wrBits a 0 v) hold] at hw
    have hsame : ∀ b, b ≠ R.GLB_UNLOCK_STS → (s.wrBits a 0 v).rd b = s.rd b := fun b _ => s.rd_wrBits_zero a v b
    have hk := (Kept.wrBits_zero s a v).trans (Kept.logAccess (s.wrBits a 0 v) req a 15 true .once)
    rw [logRegs_since hsame, List.nil_append] at hk
    refine ⟨_, congrArg (done s) hw, ?_, ((Logged.logAccess _ req a 15 true .once).since hsame).passOn_respond s req false 0,
      resp_passOn_respond s _ req false 0, fun q hq => rq_passOn_respond_ne s hk false 0 hq, hk.passOn_respond s req false 0⟩
    rw [rd_passOn s _ hpass, rd_respond]
    exact hk.1 a hlow hpass
  case power =>
    intro s hgood
    have hexec : exec .pwrGoodFall s =
        .next (State.passOn s (({ s with pins := { s.pins with pwrGood := false } }.coreReset true).p R.PWR_SUP_STS.SAVE 0)) :=
      congrArg (done s) (if_pos hgood)
    refine ⟨_, hexec, ?_, ?_⟩
    · rw [passOn_once, State.p_once]
      intro hmem
      obtain ⟨-, hkept⟩ := List.mem_filter.mp hmem
      exact absurd hkept (by decide)
    · rw [g_passOn _ _ (by decide), State.g_p_ne _ _ _ _ (by decide), State.g, State.rd_coreReset _ (by decide)]
      decide
  case store =>
    intro s
    refine ⟨_, rfl, ?_, ?_⟩
    · rw [passOn_once]
      intro hmem
      obtain ⟨-, hkept⟩ := List.mem_filter.mp hmem
      exact absurd hkept (by decide)
    · rw [g_passOn _ _ (by decide), State.g, State.rd_storeLost _ (by decide) (by decide)]
      decide

end

section
/-! SUPPORT. What the level events, counter clear and the soft resets of CFG and REP leave (R49, R51, R59, R462). -/

namespace Sys2Proof.Machine

/-! ### Level events (R49) -/

/-- An event register of regions 0-17: where level events stand. -/
def LevelReg (a : Nat) : Prop := evtOf a ≠ none ∧ a < 0x2800000

/-- From `s` to `t` nothing but event registers of regions 0-17 has changed. -/
def LevelsOnly (s t : State) : Prop := (∀ a, ¬ LevelReg a → t.rd a = s.rd a) ∧ t = { s with regs := t.regs }

/-- Every register of a row of event registers is an event register. -/
theorem evtOf_of_row {r : EvtRow} (hr : r ∈ evtRows) {i : Nat} (hi : i < r.count) (hs : 0 < r.stride) :
    evtOf (r.base + r.stride * i) ≠ none := by
  have hinst : r.inst (r.base + r.stride * i) = some i := by
    have hne : r.stride ≠ 0 := by omega
    simp [EvtRow.inst, hne, hi]
  rw [evtOf, ne_eq, List.findSome?_eq_none_iff]
  intro h
  have := h r hr
  simp [hinst] at this

theorem LevelsOnly.reqs_eq {s t : State} (h : LevelsOnly s t) : t.reqs = s.reqs := by rw [h.2]

theorem LevelsOnly.refl (s : State) : LevelsOnly s s := ⟨fun _ _ => rfl, rfl⟩

theorem LevelsOnly.trans {s t u : State} (h : LevelsOnly s t) (k : LevelsOnly t u) : LevelsOnly s u := by
  obtain ⟨hreg, hrest⟩ := h
  obtain ⟨kreg, krest⟩ := k
  exact ⟨fun b hb => (kreg b hb).trans (hreg b hb), by rw [krest, hrest]⟩

theorem LevelsOnly.ev (s : State) {l : Loc} (h : LevelReg l.addr) : LevelsOnly s (s.ev l) :=
  ⟨fun _ ha => State.rd_ev_ne s l (fun he => ha (he ▸ h)), rfl⟩

/-- A level event that is set where its condition persists. -/
theorem LevelsOnly.up (s : State) (c : Bool) {l : Loc} (h : LevelReg l.addr) : LevelsOnly s (if c then s.ev l else s) := by
  split
  · exact LevelsOnly.ev s h
  · exact LevelsOnly.refl s

theorem LevelsOnly.each {α : Type} (l : List α) (f : α → State → State) (s : State) (h : ∀ x ∈ l, ∀ t, LevelsOnly t (f x t)) :
    LevelsOnly s (s.each l f) := by
  unfold State.each
  induction l generalizing s with
  | nil => exact LevelsOnly.refl s
  | cons x l ih => exact (h x (by simp) s).trans (ih (f x s) (fun y hy => h y (by simp [hy])))

theorem LevelsOnly.keyLevels (s : State) : LevelsOnly s s.keyLevels := by
  have hnoroot : LevelsOnly s (if s.prov = provYes then s else s.ev R.KEY_EVT.NOROOT) := by
    split
    · exact LevelsOnly.refl s
    · exact LevelsOnly.ev s ⟨by decide, by decide⟩
  unfold State.keyLevels
  dsimp only
  split
  · exact hnoroot.trans (LevelsOnly.ev _ ⟨by decide, by decide⟩)
  · exact hnoroot

theorem levelReg_of_row {r : EvtRow} (hr : r ∈ evtRows) (hs : 0 < r.stride) {i a : Nat} (hi : i < r.count)
    (ha : a = r.base + r.stride * i) (hlt : a < 0x2800000) : LevelReg a := ⟨ha ▸ evtOf_of_row hr hi hs, hlt⟩

theorem levelReg_mac {p : Nat} (h : p < 24) : LevelReg (R.MAC_EVT.CFG_ERR p).addr :=
  levelReg_of_row (r := ⟨3, 0x400040, 0x4000, 24, 0x400044, 0x4000, 1⟩) (by decide) (by decide) h rfl (by
    simp only [R.MAC_EVT.CFG_ERR, R.MAC_EVT]
    omega)

theorem levelReg_str {n : Nat} (h : n < 256) : LevelReg (R.STR_ALARM.CFG_ERR n).addr :=
  levelReg_of_row (r := ⟨6, 0x1000034, 0x80, 256, 0x1010004, 0x10, 64⟩) (by decide) (by decide) h rfl (by
    simp only [R.STR_ALARM.CFG_ERR, R.STR_ALARM]
    omega)

theorem levelReg_can {c : Nat} (h : c < 16) : LevelReg (R.CAN_EVT.CFG_ERR c).addr :=
  levelReg_of_row (r := ⟨7, 0x1400040, 0x10000, 16, 0x1400044, 0x10000, 1⟩) (by decide) (by decide) h rfl (by
    simp only [R.CAN_EVT.CFG_ERR, R.CAN_EVT]
    omega)

theorem levelReg_tb {k : Nat} (h : k < 4) : LevelReg (R.TB_EVT.CFG_ERR k).addr :=
  levelReg_of_row (r := ⟨9, 0x1A00048, 0x100, 4, 0x1A0004C, 0x100, 1⟩) (by decide) (by decide) h rfl (by
    simp only [R.TB_EVT.CFG_ERR, R.TB_EVT]
    omega)

/-- Setting the level events whose conditions persist changes event registers alone. -/
theorem LevelsOnly.levels (s : State) : LevelsOnly s s.levels := by
  unfold State.levels
  extract_lets up s1 s2 s3 s4 s5 s5' s6 s7 tp s8 s9 s10 s11 s12
  have h1 : LevelsOnly s s1 := LevelsOnly.up s _ ⟨by decide, by decide⟩
  have h2 : LevelsOnly s1 s2 := LevelsOnly.each _ _ s1 (fun p hp t => LevelsOnly.up t _ (levelReg_mac (List.mem_range.mp hp)))
  have h3 : LevelsOnly s2 s3 := LevelsOnly.up s2 _ ⟨by decide, by decide⟩
  have h4 : LevelsOnly s3 s4 := LevelsOnly.up s3 _ ⟨by decide, by decide⟩
  have h5 : LevelsOnly s4 s5 := LevelsOnly.up s4 _ ⟨by decide, by decide⟩
  have h5' : LevelsOnly s5 s5' := LevelsOnly.each _ _ s5 (fun n hn t => LevelsOnly.up t _ (levelReg_str (List.mem_range.mp hn)))
  have h6 : LevelsOnly s5' s6 := LevelsOnly.each _ _ s5' (fun c hc t => LevelsOnly.up t _ (levelReg_can (List.mem_range.mp hc)))
  have h7 : LevelsOnly s6 s7 := LevelsOnly.each _ _ s6 (fun k hk t => LevelsOnly.up t _ (levelReg_tb (List.mem_range.mp hk)))
  have h8 : LevelsOnly s7 s8 := LevelsOnly.up s7 _ ⟨by decide, by decide⟩
  have h9 : LevelsOnly s8 s9 := LevelsOnly.up s8 _ ⟨by decide, by decide⟩
  have h10 : LevelsOnly s9 s10 := LevelsOnly.up s9 _ ⟨by decide, by decide⟩
  have h11 : LevelsOnly s10 s11 := (LevelsOnly.keyLevels s10).trans (LevelsOnly.up _ _ ⟨by decide, by decide⟩)
  have h12 : LevelsOnly s11 s12 := LevelsOnly.up s11 _ ⟨by decide, by decide⟩
  exact (((((((((((((h1.trans h2).trans h3).trans h4).trans h5).trans h5').trans h6).trans h7).trans h8).trans h9).trans h10).trans
    h11).trans h12)).trans (LevelsOnly.up s12 _ ⟨by decide, by decide⟩)

/-! ### Counter clear (R51) -/

/-- Every counter resets to zero (R51). -/
theorem resetOf_counter {n a : Nat} (h : isCounter n a = true) : resetOf a = 0 := by
  have hrows : ∀ k, ∀ r ∈ regionRows k, r.ctr = true → r.reset = 0 := by
    intro k
    unfold regionRows
    split
    all_goals decide
  unfold isCounter at h
  unfold resetOf
  cases hrow : rowOf a with
  | none => rfl
  | some r =>
    have hctr : r.ctr = true := by
      rw [hrow] at h
      simpa using And.right (Bool.and_eq_true_iff.mp h)
    have hmem : r ∈ regionRows (regionOf a) := List.mem_of_find?_eq_some hrow
    simp only [hrows _ r hmem hctr]
    rfl

/-! ### What commands of the register interface leave (R35, R45, R51, R59) -/

/-- From `s` to `v` nothing has changed but registers, the write-once marks and the register-interface state of requesters. -/
def FaceOnly (s v : State) : Prop := ∃ reqs once regs, v = { s with reqs := reqs, once := once, regs := regs }

theorem FaceOnly.trans {s t u : State} (h : FaceOnly s t) (k : FaceOnly t u) : FaceOnly s u := by
  obtain ⟨reqs, once, regs, rfl⟩ := h
  obtain ⟨reqs', once', regs', rfl⟩ := k
  exact ⟨reqs', once', regs', rfl⟩

theorem FaceOnly.ports_eq {s v : State} (h : FaceOnly s v) : v.ports = s.ports := by
  obtain ⟨reqs, once, regs, rfl⟩ := h
  rfl

theorem FaceOnly.setArmed (s : State) (r : Nat) (b : Bool) : FaceOnly s (s.setArmed r b) := ⟨_, _, _, rfl⟩

theorem FaceOnly.putCmd (s : State) (a : Nat) (v : Word) (st : Nat) : FaceOnly s (s.putCmd a v st) := by
  unfold State.putCmd State.storeCmd
  split
  · exact ⟨_, _, _, rfl⟩
  · exact ⟨_, _, _, rfl⟩

theorem FaceOnly.resetRegs (s : State) (p : Nat → Bool) : FaceOnly s (s.resetRegs p) := ⟨_, _, _, rfl⟩

theorem LevelsOnly.face {s t : State} (h : LevelsOnly s t) : FaceOnly s t := ⟨_, _, _, h.2⟩

/-- The rest of the state stands after the answer as well, but for what passing events on may change. -/
theorem FaceOnly.passOn_respond {s v t : State} {s0 : State} {r : Nat} {e : Bool} {d : Word} (h : FaceOnly s v)
    (ht : State.passOn s0 (v.respond r e d) = t) :
    t = { s with reqs := t.reqs, once := t.once, regs := t.regs, qmem := t.qmem, brg := { s.brg with tlps := t.brg.tlps } } := by
  subst ht
  obtain ⟨reqs, once, regs, rfl⟩ := h
  rw [passOn_reqs, passOn_once]
  exact (Quiet.passOn s0 _).2.2

/-- An answer leaves every unlock. -/
theorem armed_passOn_respond_any (s0 u : State) (r : Nat) (e : Bool) (d : Word) (q : Nat) :
    ((State.passOn s0 (u.respond r e d)).rq q).armed = (u.rq q).armed := by
  by_cases hq : q = r
  · rw [hq]
    exact armed_passOn_respond s0 (Kept.refl u []) r e d
  · rw [rq_passOn_respond_ne s0 (Kept.refl u []) e d hq]

/-! ### Soft resets of CFG and REP (R59, R462) -/

/-- A property that every step of a loop keeps stands after the loop. -/
theorem State.each_keeps {α : Type} {P : State → Prop} (l : List α) (f : α → State → State) (s : State) (h : P s)
    (hstep : ∀ x t, P t → P (f x t)) : P (s.each l f) := by
  unfold State.each
  induction l generalizing s with
  | nil => exact h
  | cons x l ih => exact ih (f x s) (hstep x s h)

/-- The state with other requesters, whose unlocks are those of `s`. -/
def SameUnlocks (s t : State) : Prop := (∃ reqs, t = { s with reqs := reqs }) ∧ ∀ q, (t.rq q).armed = (s.rq q).armed

/-- A requester that forgets shadows and holding registers keeps its unlock. -/
theorem SameUnlocks.modRq {s t : State} (h : SameUnlocks s t) (r : Nat) {f : Requester → Requester} (hf : ∀ q, (f q).armed = q.armed) :
    SameUnlocks s (t.modRq r f) := by
  obtain ⟨⟨reqs, hrest⟩, harm⟩ := h
  refine ⟨⟨_, by rw [State.modRq, hrest]⟩, fun q => ?_⟩
  by_cases hq : q = r
  · rw [hq, rq_modRq_same, hf, harm r]
  · rw [rq_modRq_ne t f hq, harm q]

/-- Forgetting a region's shadows, holding registers and marks leaves the registers and every unlock (R45, R53). -/
theorem State.regionForget_keeps (s : State) (n : Nat) :
    FaceOnly s (s.regionForget n) ∧ (s.regionForget n).regs = s.regs ∧ ∀ q, ((s.regionForget n).rq q).armed = (s.rq q).armed := by
  have hloop : SameUnlocks s (s.each (s.reqs.map (·.1)) (fun r t => t.modRq r (fun q =>
      { q with shadows := q.shadows.del n, holds := q.holds.del n }))) :=
    State.each_keeps (P := SameUnlocks s) _ _ s ⟨⟨_, rfl⟩, fun _ => rfl⟩ (fun r t ht => ht.modRq r (fun _ => rfl))
  obtain ⟨⟨reqs, hrest⟩, harm⟩ := hloop
  unfold State.regionForget
  rw [hrest] at harm ⊢
  exact ⟨⟨_, _, _, rfl⟩, rfl, harm⟩

theorem State.softReset_cfg (s : State) : s.softReset 2 = (s.regionForget 2).cfgSoftReset.levels :=
  congrArg State.levels (State.txSettle_of_ports s _ (s.regionForget_keeps 2).1.ports_eq)

theorem State.softReset_rep (s : State) : s.softReset 18 = (s.regionForget 18).repSoftReset.levels :=
  congrArg State.levels (State.txSettle_of_ports s _ (s.regionForget_keeps 18).1.ports_eq)

/-- The soft resets of CFG and REP give the registers for which `p` holds their Reset values. -/
theorem State.softReset_regs (s : State) {n : Nat} {p : Nat → Bool} (h : s.softReset n = ((s.regionForget n).resetRegs p).levels) :
    FaceOnly s (s.softReset n) ∧ (∀ q, ((s.softReset n).rq q).armed = (s.rq q).armed) ∧
      ∀ a, ¬ LevelReg a → (s.softReset n).rd a = if p a then resetOf a else s.rd a := by
  obtain ⟨hface, hregs, harm⟩ := s.regionForget_keeps n
  have hlev := LevelsOnly.levels ((s.regionForget n).resetRegs p)
  rw [h]
  refine ⟨(hface.trans (FaceOnly.resetRegs _ p)).trans hlev.face, fun q => ?_, fun a ha => ?_⟩
  · exact (congrArg Requester.armed (rq_congr _ _ hlev.reqs_eq q)).trans (harm q)
  · rw [hlev.1 a ha, State.rd_resetRegs, State.rd_congr _ _ hregs]

/-- Region 18 is the last (R33). -/
theorem rep_le_of_regionOf {a : Nat} (h : regionOf a = 18) : 0x2800000 ≤ a := by
  by_contra hlt
  have hdrop : (regionBases.drop 18).countP (fun b => b ≤ a) = 0 :=
    List.countP_eq_zero.mpr (fun b hb => by
      have : b = 0x2800000 := by simpa [regionBases] using hb
      simp only [decide_eq_true_eq]
      omega)
  have htake : (regionBases.take 18).countP (fun b => b ≤ a) ≤ 18 := List.countP_le_length
  rw [regionOf, ← List.take_append_drop 18 regionBases, List.countP_append, hdrop] at h
  omega

/-- The repair records lie in region 18, above every register that other commands of the register interface change. -/
theorem rep_le_of_repKept {a : Nat} (h : repKept a = true) : 0x2800000 ≤ a := by
  simp only [repKept, Bool.or_eq_true, Bool.and_eq_true, decide_eq_true_eq, beq_iff_eq, R.REP_REC_N] at h
  omega

theorem passRegs_below_rep : ∀ a ∈ passRegs, a < 0x2800000 := by decide

/-! ### The commands GLB_CTR_CLR and GLB_SRST (R51, R59) -/

/-- The CMD fields of GLB_CTR_CLR and GLB_SRST are STAT and the region number. -/
theorem regionCmdRow {a : Nat} (h : a = R.GLB_CTR_CLR ∨ a = R.GLB_SRST) :
    ∃ r, rowOf a = some r ∧ r.mwLen = 1 ∧ r.rwg = 0 ∧ r.base = a ∧ r.cmd = 0xC000001F := by
  rcases h with rfl | rfl
  · exact ⟨_, rfl, rfl, rfl, rfl, rfl⟩
  · exact ⟨_, rfl, rfl, rfl, rfl, rfl⟩

/-- An accepted command on a region shows its STAT and the region. -/
theorem State.fields_putCmd {s : State} {a n st : Nat} (h : a = R.GLB_CTR_CLR ∨ a = R.GLB_SRST) (hn : n < 32) (hst : st < 4) :
    fieldOf ((s.putCmd a (W n) st).rd a) 0 5 = n ∧ fieldOf ((s.putCmd a (W n) st).rd a) 30 2 = st := by
  obtain ⟨r, hrow, -, -, -, hcmd⟩ := regionCmdRow h
  rw [State.rd_putCmd_same hrow, hcmd]
  refine ⟨?_, ?_⟩
  · rw [fieldOf_merge _ _ _ _ _ (by decide), fieldOf_withField_ne _ _ _ _ _ _ (by decide) (by decide), fieldOf, W_toNat]
    omega
  · rw [fieldOf_merge _ _ _ _ _ (by decide), fieldOf_withField_same _ _ _ _ (by decide)]
    omega

theorem fieldOf_W_five {n : Nat} (h : n < 32) : fieldOf (W n) 0 5 = n := by
  rw [fieldOf, W_toNat]
  omega

/-- An admitted GLB_CTR_CLR that finds it idle clears the counters and is answered (R51). -/
theorem State.portWrite_ctrClr {s : State} {req n : Nat} (hn : n ≤ 18) (hadm : Admitted s req R.GLB_CTR_CLR (W n))
    (hidle : s.stat R.GLB_CTR_CLR ≠ statBusy) :
    s.portWrite req R.GLB_CTR_CLR 15 (W n) =
      ((s.putCmd R.GLB_CTR_CLR (W n) statDone).resetRegs (isCounter n)).respond req false 0 := by
  obtain ⟨hload, hres⟩ := hadm
  obtain ⟨r, hrow, hmw, hrwg, hbase, -⟩ := regionCmdRow (.inl rfl)
  have hown : s.ownAct cmplWriter req r R.GLB_CTR_CLR (W n) true = some (s.ctrClr req (W n)) := by
    unfold State.ownAct
    rw [hbase]
    rfl
  have hact : s.ctrClr req (W n) = (s.putCmd R.GLB_CTR_CLR (W n) statDone).resetRegs (isCounter n) := by
    unfold State.ctrClr
    simp only [fieldOf_W_five (show n < 32 by omega), hn, decide_true]
    exact State.command_accepted hidle
  rw [State.portWrite_of_act (State.writeGate_unguarded hrow hload hmw (by decide) hrwg (by decide)) (by decide),
    State.writeAct_of_own hrow hmw (by simp [State.ringShut, R.GLB_CTR_CLR]) hres hown, hact]

/-- GLB_SRST with an armed unlock consumes it, soft-resets its region and is answered (R42, R59). -/
theorem State.portWrite_srst {s : State} {req n : Nat} (hlo : 1 ≤ n) (hn : n ≤ 18) (hunl : Unlocked s req R.GLB_SRST (W n))
    (hidle : s.stat R.GLB_SRST ≠ statBusy) :
    s.portWrite req R.GLB_SRST 15 (W n) =
      (((s.spend req).putCmd R.GLB_SRST (W n) statDone).srstRun cmplWriter n).respond req false 0 := by
  obtain ⟨⟨hload, hres⟩, hdma, hb, harm⟩ := hunl
  obtain ⟨r, hrow, hgate⟩ := State.writeGate_guardedCmd (a := R.GLB_SRST) (W n) (by decide) hload
  obtain ⟨r', hrow', hmw, -, hbase, -⟩ := regionCmdRow (.inr rfl : R.GLB_SRST = R.GLB_CTR_CLR ∨ R.GLB_SRST = R.GLB_SRST)
  obtain rfl : r' = r := Option.some.inj (hrow'.symm.trans hrow)
  rw [State.guardGate_armed hdma hb harm] at hgate
  have hsame : (s.spend req).rd R.GLB_SRST = s.rd R.GLB_SRST := s.rd_setArmed_ne req false (by decide)
  have hres' : (s.spend req).keepsRes R.GLB_SRST (W n) = true := by
    rw [State.keepsRes, hsame]
    exact hres
  have hidle' : (s.spend req).stat R.GLB_SRST ≠ statBusy := by
    rw [State.stat, State.g, hsame]
    exact hidle
  have hown : (s.spend req).ownAct cmplWriter req r' R.GLB_SRST (W n) true = some ((s.spend req).srst cmplWriter req (W n)) := by
    unfold State.ownAct
    rw [hbase]
    rfl
  have hact : (s.spend req).srst cmplWriter req (W n) =
      ((s.spend req).putCmd R.GLB_SRST (W n) statDone).srstRun cmplWriter n := by
    unfold State.srst
    simp only [fieldOf_W_five (show n < 32 by omega), hlo, hn, decide_true, Bool.and_self]
    exact State.command_accepted hidle'
  rw [State.portWrite_of_act hgate (by decide), show s.setArmed req false = s.spend req from rfl,
    State.writeAct_of_own hrow hmw (by simp [State.ringShut, R.GLB_SRST]) hres' hown, hact]

/-- A command changes its own register (R48). -/
theorem Kept.putCmd (s : State) (a : Nat) (v : Word) (st : Nat) : Kept s (s.putCmd a v st) [a] := by
  unfold State.putCmd State.storeCmd
  split
  · exact Kept.wr s a _
  · exact Kept.refl s _

theorem isCounter_ctrClr (n : Nat) : isCounter n R.GLB_CTR_CLR = false := Bool.and_false _

/-- The soft resets of CFG and REP as resets of registers of their region: which ones. -/
theorem State.softReset_cfgRep (s : State) {n : Nat} (h : n = 2 ∨ n = 18) :
    ∃ p : Nat → Bool, s.softReset n = ((s.regionForget n).resetRegs p).levels ∧
      (∀ a, p a = true → regionOf a = n ∧ repKept a = false) ∧
      (n = 2 → ∀ a, a = R.CFG_REJ_INFO 0 ∨ a = R.CFG_REJ_INFO 1 ∨ a = R.CFG_REJ_OFS 0 ∨ a = R.CFG_REJ_OFS 1 → p a = true) ∧
      (n = 18 → ∀ a, regionOf a = 18 → repKept a = false → p a = true) := by
  rcases h with rfl | rfl
  · refine ⟨_, s.softReset_cfg, fun a ha => ?_, fun _ a ha => ?_, fun h => absurd h (by decide)⟩
    · simp only [Bool.or_eq_true, beq_iff_eq] at ha
      rcases ha with (((rfl | rfl) | rfl) | rfl) | rfl
      all_goals exact ⟨by decide, by decide⟩
    · rcases ha with rfl | rfl | rfl | rfl
      all_goals decide
  · refine ⟨_, s.softReset_rep, fun a ha => ?_, fun h => absurd h (by decide), fun _ a hr hk => ?_⟩
    · simpa using ha
    · simp [hr, hk]

theorem exec_counterClear (s : State) (req n : Nat) :
    exec (.counterClear req n) s = .next (State.passOn s (s.portWrite req R.GLB_CTR_CLR 15 (W (n % 32)))) :=
  congrArg (done s) (s.rowWrite_eq_portWrite req _ (by decide))

theorem exec_softReset (s : State) (req n : Nat) :
    exec (.softReset req n) s = .next (State.passOn s (s.portWrite req R.GLB_SRST 15 (W (n % 32)))) :=
  congrArg (done s) (s.rowWrite_eq_portWrite req _ (by decide))

/-- The soft reset of a region other than FLT, CRY and KEY ends nothing elsewhere. -/
theorem State.srstRun_of_other (s : State) (w : Writer) {n : Nat} (h : n = 2 ∨ n = 18) : s.srstRun w n = s.softReset n := by
  rcases h with rfl | rfl
  · rfl
  · rfl

end Sys2Proof.Machine

open Sys2Proof Sys2Proof.Machine

/-- Settles O14: each command is accepted and acts on its region; the soft resets of CFG and REP are a reset of registers, after
which level events come back. -/
theorem clearAndSoftReset : Obligations.ClearAndSoftReset := by
  unfold Obligations.ClearAndSoftReset
  refine ⟨?clear, ?reset, ?cfgRep, ?unarmed⟩
  case clear =>
    intro s req n hn hadm hidle
    have hexec := exec_counterClear s req n
    rw [Nat.mod_eq_of_lt (show n < 32 by omega), State.portWrite_ctrClr hn hadm hidle] at hexec
    have hk := Kept.putCmd s R.GLB_CTR_CLR (W n) statDone
    have hrd : ∀ a, a ∉ passRegs → (State.passOn s (((s.putCmd R.GLB_CTR_CLR (W n) statDone).resetRegs (isCounter n)).respond req
        false 0)).rd a = if isCounter n a then resetOf a else (s.putCmd R.GLB_CTR_CLR (W n) statDone).rd a := fun a hp => by
      rw [rd_passOn s _ hp, rd_respond, State.rd_resetRegs]
    refine ⟨_, hexec, fun a hctr hp => ?_, fun a hctr ha hp => ?_, ?_, ?_, resp_passOn_respond s _ req false 0, fun q hq => ?_, ?_⟩
    · rw [hrd a hp, if_pos hctr, resetOf_counter hctr]
    · rw [hrd a hp, if_neg (by rw [hctr]; decide), State.rd_putCmd_ne s _ _ ha]
    · rw [hrd _ (by decide), isCounter_ctrClr]
      exact (State.fields_putCmd (.inl rfl) (by omega) (by decide)).1
    · rw [State.stat, State.g, hrd _ (by decide), isCounter_ctrClr]
      exact (State.fields_putCmd (.inl rfl) (by omega) (by decide)).2
    · exact (rq_passOn_respond_ne s (Kept.refl _ []) false 0 hq).trans (rq_congr s _ hk.reqs_eq q)
    · have hrest := ((FaceOnly.putCmd s R.GLB_CTR_CLR (W n) statDone).trans (FaceOnly.resetRegs _ (isCounter n))).passOn_respond
        (s0 := s) (r := req) (e := false) (d := 0) rfl
      have honce : (s.putCmd R.GLB_CTR_CLR (W n) statDone).once = s.once := by rw [hk.2.2]
      rw [passOn_once] at hrest
      exact hrest.trans (by rw [← honce]; rfl)
  case reset =>
    intro s req n hlo hn hunl hidle
    rw [exec_softReset, Nat.mod_eq_of_lt (show n < 32 by omega), State.portWrite_srst hlo hn hunl hidle]
  case cfgRep =>
    intro s req n hn hunl hidle
    have hexec := exec_softReset s req n
    rw [Nat.mod_eq_of_lt (show n < 32 by omega), State.portWrite_srst (by omega) (by omega) hunl hidle, State.srstRun_of_other _ _ hn] at hexec
    have hcmd := Kept.putCmd (s.spend req) R.GLB_SRST (W n) statDone
    have hset := (FaceOnly.setArmed s req false).trans (FaceOnly.putCmd (s.spend req) R.GLB_SRST (W n) statDone)
    have hstat := (State.fields_putCmd (s := s.spend req) (n := n) (st := statDone) (.inr rfl : R.GLB_SRST = R.GLB_CTR_CLR ∨ _)
      (by omega) (by decide)).2
    have hbefore : ∀ a, a ∉ [R.GLB_SRST, R.GLB_UNLOCK_STS] →
        ((s.spend req).putCmd R.GLB_SRST (W n) statDone).rd a = s.rd a := fun a ha => by
      simp only [List.mem_cons, List.not_mem_nil, or_false, not_or] at ha
      rw [State.rd_putCmd_ne _ _ _ ha.1]
      exact s.rd_setArmed_ne req false ha.2
    generalize hw : (s.spend req).putCmd R.GLB_SRST (W n) statDone = w at hexec hcmd hset hstat hbefore
    obtain ⟨p, hp, hregion, hrej, hrep⟩ := w.softReset_cfgRep hn
    obtain ⟨hface, harm, hregs⟩ := w.softReset_regs hp
    have hrd : ∀ a, ¬ LevelReg a → a ∉ passRegs → (State.passOn s ((w.softReset n).respond req false 0)).rd a =
        if p a then resetOf a else w.rd a := fun a ha hpass => by
      rw [rd_passOn s _ hpass, rd_respond, hregs a ha]
    have hunlock : ∀ q, ((State.passOn s ((w.softReset n).respond req false 0)).rq q).armed = ((s.spend req).rq q).armed := fun q => by
      rw [armed_passOn_respond_any s _ req false 0 q, harm q, rq_congr _ _ hcmd.reqs_eq]
    have hkept : ∀ a, regionOf a ≠ n ∨ repKept a = true → p a = false := fun a ha => by
      by_contra hpa
      obtain ⟨hin, hout⟩ := hregion a (by simpa using hpa)
      rcases ha with hne | hkeep
      · exact hne hin
      · rw [hout] at hkeep
        exact absurd hkeep (by decide)
    refine ⟨_, hexec, ?_, ?_, fun h2 a ha => ?_, fun h18 a ha hk => ?_, fun a ha he hl hpass => ?_, fun a ha => ?_, fun q hq => ?_,
      (hset.trans hface).passOn_respond rfl⟩
    · have hsrst : p R.GLB_SRST = false := hkept _ (.inl (by rcases hn with rfl | rfl <;> decide))
      rw [State.stat, State.g, hrd _ (fun h => h.1 (by decide)) (by decide), hsrst]
      exact hstat
    · rw [hunlock]
      exact armed_setArmed_same s req false
    · have hcfg : evtOf a = none ∧ a ∉ passRegs := by rcases ha with rfl | rfl | rfl | rfl <;> exact ⟨by decide, by decide⟩
      rw [hrd a (fun h => h.1 hcfg.1) hcfg.2, hrej h2 a ha, if_pos rfl]
    · have hhigh := rep_le_of_regionOf ha
      rw [hrd a (fun h => absurd h.2 (by omega)) (fun h => absurd (passRegs_below_rep a h) (by omega)), hrep h18 a ha hk, if_pos rfl]
    · rw [hrd a (fun h => h.1 he) hpass, hkept a (.inl ha)]
      exact hbefore a hl
    · have hhigh := rep_le_of_repKept ha
      rw [hrd a (fun h => absurd h.2 (by omega)) (fun h => absurd (passRegs_below_rep a h) (by omega)), hkept a (.inr ha)]
      refine hbefore a ?_
      simp only [List.mem_cons, List.not_mem_nil, or_false, R.GLB_SRST, R.GLB_UNLOCK_STS]
      omega
    · rw [hunlock]
      exact congrArg Requester.armed (rq_setArmed_ne s false hq)
  case unarmed =>
    intro s req n hn hb harm hdma
    have hexec := exec_softReset s req n
    have hgate := State.writeGate_guardedCmd (s := s) (req := req) (a := R.GLB_SRST) (W (n % 32)) (by decide) (s.loadRefused_low req (by decide))
    obtain ⟨r, -, hgate⟩ := hgate
    rw [State.guardGate_unarmed (by decide) hdma hb harm] at hgate
    rw [State.portWrite_of_over hgate] at hexec
    exact ⟨_, hexec, (Logged.logAccess s req R.GLB_SRST 15 true .guard).passOn_respond s req false 0,
      Kept.loggedAnswer s s req R.GLB_SRST 15 .guard⟩

end

section
/-! SUPPORT. What a reset and a start of the core die leave: the loader's state, the load channels and what the keep-alive store
holds of the vault (R53-R55, R77, R493). -/

namespace Sys2Proof.Machine

/-- A register beside GLB_LOCK and CFG_STS. -/
def Beside (a : Nat) : Prop := a ≠ R.GLB_LOCK ∧ a ≠ R.CFG_STS

/-- Work of the blocks during a reset or a start: from `s` to `t` GLB_LOCK, CFG_STS, the pins, the loader, the load channels, the root
key and the stored freshness values are as they were. -/
structure BlocksOnly (s t : State) : Prop where
  lock : t.rd R.GLB_LOCK = s.rd R.GLB_LOCK
  sts : t.rd R.CFG_STS = s.rd R.CFG_STS
  pins : t.pins = s.pins
  loader : t.loader = s.loader
  loads : t.loads = s.loads
  rs : t.vault.rs = s.vault.rs
  high : t.vault.high = s.vault.high

namespace BlocksOnly

theorem refl (s : State) : BlocksOnly s s := ⟨rfl, rfl, rfl, rfl, rfl, rfl, rfl⟩

theorem trans {s t u : State} (h : BlocksOnly s t) (k : BlocksOnly t u) : BlocksOnly s u :=
  ⟨k.lock.trans h.lock, k.sts.trans h.sts, k.pins.trans h.pins, k.loader.trans h.loader, k.loads.trans h.loads, k.rs.trans h.rs,
    k.high.trans h.high⟩

theorem of_kept {s t : State} {l : List Nat} (h : Kept s t l) (hlock : R.GLB_LOCK ∉ l) (hsts : R.CFG_STS ∉ l) : BlocksOnly s t := by
  obtain ⟨hreg, -, hrest⟩ := h
  exact ⟨hreg _ hlock (by decide), hreg _ hsts (by decide), by rw [hrest], by rw [hrest], by rw [hrest], by rw [hrest], by rw [hrest]⟩

theorem ite {s t u : State} {c : Prop} [Decidable c] (ht : BlocksOnly s t) (hu : BlocksOnly s u) :
    BlocksOnly s (if c then t else u) := by
  split
  · exact ht
  · exact hu

theorem each {α : Type} (s : State) (l : List α) {f : α → State → State} (h : ∀ x t, BlocksOnly t (f x t)) :
    BlocksOnly s (s.each l f) :=
  State.each_keeps (P := BlocksOnly s) l f s (refl s) (fun x t ht => ht.trans (h x t))

/-- A change of the cipher pool's state beyond its registers. -/
theorem grit (s : State) (g : Grit) : BlocksOnly s { s with grit := g } := ⟨rfl, rfl, rfl, rfl, rfl, rfl, rfl⟩

theorem used (s : State) : BlocksOnly s s.used := ⟨rfl, rfl, rfl, rfl, rfl, rfl, rfl⟩

/-! #### Registers, fields and counters -/

theorem wr (s : State) {a : Nat} (v : Word) (h : Beside a) : BlocksOnly s (s.wr a v) :=
  of_kept (Kept.wr s a v) (by simpa using h.1.symm) (by simpa using h.2.symm)

theorem p (s : State) {l : Loc} (v : Nat) (h : Beside l.addr) : BlocksOnly s (s.p l v) := wr s _ h

theorem ev (s : State) {l : Loc} (h : Beside l.addr) : BlocksOnly s (s.ev l) := wr s _ h

theorem bump (s : State) {a : Nat} (h : Beside a) (h' : Beside (a + 4)) : BlocksOnly s (s.bump a) :=
  of_kept (Kept.bump s a) (by simpa using ⟨h.1.symm, h'.1.symm⟩) (by simpa using ⟨h.2.symm, h'.2.symm⟩)

theorem resetRegs (s : State) {p : Nat → Bool} (hlock : p R.GLB_LOCK = false) (hsts : p R.CFG_STS = false) :
    BlocksOnly s (s.resetRegs p) := by
  refine ⟨?_, ?_, rfl, rfl, rfl, rfl, rfl⟩
  · rw [State.rd_resetRegs, hlock]
    rfl
  · rw [State.rd_resetRegs, hsts]
    rfl

/-- A fault below the FATAL class is captured in registers of region 1 and no more (R445). -/
theorem fault (s : State) {n : Nat} (info : Word) (hc : faultClass n ≠ 3) (hlock : R.GLB_LOCK ∉ faultRegs n)
    (hsts : R.CFG_STS ∉ faultRegs n) : BlocksOnly s (s.fault n info) := by
  rw [State.fault_of_class hc]
  exact of_kept (Kept.capture s n info) hlock hsts

theorem levels (s : State) : BlocksOnly s s.levels := by
  have h := LevelsOnly.levels s
  exact ⟨h.1 _ (fun hl => hl.1 (by decide)), h.1 _ (fun hl => hl.1 (by decide)), by rw [h.2], by rw [h.2], by rw [h.2], by rw [h.2],
    by rw [h.2]⟩

/-! #### Repairs and cores of the cipher pool (R298-R300, R458) -/

theorem shimRepair (s : State) (kind region index failed spare : Nat) : BlocksOnly s (s.shimRepair kind region index failed spare) := by
  have hforce : ∀ r, BlocksOnly s (s.inForce r) := fun r => ite (refl s) ⟨rfl, rfl, rfl, rfl, rfl, rfl, rfl⟩
  have hw0 : Beside (R.REP_REC_W0 (s.g R.REP_REC_N.N)) := by
    simp only [Beside, R.REP_REC_W0, R.GLB_LOCK, R.CFG_STS]
    omega
  have hw1 : Beside (R.REP_REC_W1 (s.g R.REP_REC_N.N)) := by
    simp only [Beside, R.REP_REC_W1, R.GLB_LOCK, R.CFG_STS]
    omega
  unfold State.shimRepair
  extract_lets s0 s1 n
  have hcount : BlocksOnly s s1 := ((hforce _).trans (bump _ ⟨by decide, by decide⟩ ⟨by decide, by decide⟩)).trans (ev _ ⟨by decide, by decide⟩)
  split
  · exact ((hcount.trans (wr _ _ hw0)).trans (wr _ _ hw1)).trans (p _ _ ⟨by decide, by decide⟩)
  · exact (hcount.trans (bump _ ⟨by decide, by decide⟩ ⟨by decide, by decide⟩)).trans (ev _ ⟨by decide, by decide⟩)

theorem poolSts (s : State) : BlocksOnly s s.poolSts := (p s _ ⟨by decide, by decide⟩).trans (p _ _ ⟨by decide, by decide⟩)

theorem tileTouch (s : State) : BlocksOnly s s.tileTouch := by
  unfold State.tileTouch
  extract_lets short s1 s2
  have h1 : BlocksOnly s s1 := ite (fault s _ (by decide) (by decide) (by decide)) (refl s)
  have h2 : BlocksOnly s s2 := h1.trans (p s1 _ ⟨by decide, by decide⟩)
  exact (h2.trans (ite (refl s2) (ev s2 ⟨by decide, by decide⟩))).trans (poolSts _)

/-- The registers of the cores. -/
theorem beside_core (n : Nat) : Beside (R.CRY_CORE n) := by
  simp only [Beside, R.CRY_CORE, R.GLB_LOCK, R.CFG_STS]
  omega

theorem retireCore (s : State) (n : Nat) (pass : Bool) : BlocksOnly s (s.retireCore n pass) := by
  unfold State.retireCore
  extract_lets t s1
  have h1 : BlocksOnly s s1 := (p s _ (beside_core n)).trans (ev _ ⟨by decide, by decide⟩)
  split
  · extract_lets m s2
    have h2 : BlocksOnly s s2 := h1.trans (shimRepair s1 _ _ _ _ _)
    split
    · exact ((h2.trans (p s2 _ (beside_core m))).trans (p _ _ (beside_core m))).trans (tileTouch _)
    · exact ((h2.trans (p s2 _ (beside_core m))).trans (ev _ ⟨by decide, by decide⟩)).trans (tileTouch _)
  · exact ((h1.trans (used s1)).trans (shimRepair s1.used _ _ _ _ _)).trans (tileTouch _)

theorem retirePending (s : State) (n : Nat) : BlocksOnly s (s.retirePending n) := by
  unfold State.retirePending
  split
  · split
    · exact ((grit s _).trans (retireCore _ n _)).trans (p _ _ ⟨by decide, by decide⟩)
    · exact refl s
  · exact refl s

theorem freeCore (s : State) (n : Nat) : BlocksOnly s (s.freeCore n) := by
  unfold State.freeCore
  extract_lets _ s1
  have h1 : BlocksOnly s s1 := grit s _
  split
  · exact ((h1.trans (p s1 _ (beside_core n))).trans (poolSts _)).trans (retirePending _ n)
  · exact h1

theorem dropJobs (s : State) (q : Job → Bool) : BlocksOnly s (s.dropJobs q) :=
  (grit s _).trans (each { s with grit := _ } _ (fun n t => freeCore t n))

/-! #### Flash, sleep master, vault and recorder in reset (R334, R366, R440, R486) -/

/-- A change of the flash. -/
theorem flash (s : State) (f : Tab Byte) : BlocksOnly s { s with flash := f } := ⟨rfl, rfl, rfl, rfl, rfl, rfl, rfl⟩

theorem flashPut (s : State) (a : Nat) (bs : List Byte) : BlocksOnly s (s.flashPut a bs) := by
  induction bs generalizing s a with
  | nil => exact refl s
  | cons b bs ih => exact (flash s _).trans (ih _ (a + 1))

theorem flTorn (s : State) : BlocksOnly s s.flTorn := by
  unfold State.flTorn
  split
  · exact refl s
  · exact ite ((used s).trans (flashPut _ _ _)) (ite ((used s).trans (flashPut _ _ _)) (refl s))

theorem modMdio (s : State) (m : Nat) (f : Mdio → Mdio) : BlocksOnly s (s.modMdio m f) := ⟨rfl, rfl, rfl, rfl, rfl, rfl, rfl⟩

theorem mdioWork (s : State) (m : Nat) (f : Mdio → Mdio) : BlocksOnly s (s.mdioWork m f) := by
  unfold State.mdioWork
  exact modMdio s m _

theorem modSlp (s : State) (f : Slp → Slp) : BlocksOnly s (s.modSlp f) := ⟨rfl, rfl, rfl, rfl, rfl, rfl, rfl⟩

theorem canAbort (s : State) (c i : Nat) : BlocksOnly s (s.canAbort c i) := by
  have hreq : Beside (R.CAN_TXO_W1.REQ c i).addr := by
    simp only [Beside, R.CAN_TXO_W1.REQ, R.CAN_TXO_W1, R.GLB_LOCK, R.CFG_STS]
    omega
  have hlevel : Beside (R.GW_DST_STS.LEVEL c).addr := by
    simp only [Beside, R.GW_DST_STS.LEVEL, R.GW_DST_STS, R.GLB_LOCK, R.CFG_STS]
    omega
  have hgone : ∀ t : State, BlocksOnly t (t.reqGone c i) := fun t => by
    refine ite ?_ (refl t)
    exact (BlocksOnly.trans (t := { t with gw := _ }) ⟨rfl, rfl, rfl, rfl, rfl, rfl, rfl⟩ (p _ _ hlevel)).trans
      ⟨rfl, rfl, rfl, rfl, rfl, rfl, rfl⟩
  exact ite ((p s _ hreq).trans (hgone _)) (refl s)

theorem slpMdioDrop (s : State) : BlocksOnly s s.slpMdioDrop := (each s _ (fun m t => modMdio t m _)).trans (modSlp _ _)

theorem slpMdio (s : State) (phase : Nat) : BlocksOnly s (s.slpMdio phase) := by
  have hwork : ∀ l : List (Nat × MdioAcc), BlocksOnly s
      (s.each l (fun p t => t.mdioWork p.1 (fun d => { d with writes := d.writes ++ [p.2] }))) := fun l =>
    each s l (fun p t => mdioWork t p.1 _)
  exact ite (refl s) (ite ((hwork _).trans (modSlp _ _)) (hwork _))

theorem slpBack (s : State) (why : Nat) : BlocksOnly s (s.slpBack why) := by
  have hend : ∀ (t : State) (v : Nat), BlocksOnly t (t.slpStat v) := fun t v => ite (p t _ ⟨by decide, by decide⟩) (refl t)
  have hstate := (p s (l := R.PWR_SLP_STS.STATE) slpAwake ⟨by decide, by decide⟩).trans
    (p _ (l := R.PWR_SLP_STS.REASON) why ⟨by decide, by decide⟩)
  exact ((hstate.trans (bump _ ⟨by decide, by decide⟩ ⟨by decide, by decide⟩)).trans (ev _ ⟨by decide, by decide⟩)).trans (hend _ _)

theorem slpAbort (s : State) (why : Nat) : BlocksOnly s (s.slpAbort why) :=
  ((((each s _ (fun c t => canAbort t c _)).trans (modSlp _ _)).trans (slpMdioDrop _)).trans (slpBack _ why)).trans (slpMdio _ 1)

theorem slpBreak (s : State) (why : Nat) : BlocksOnly s (s.slpBreak why) := ite (slpAbort s why) (refl s)

theorem keyClear (s : State) : BlocksOnly s s.keyClear := by
  unfold State.keyClear
  extract_lets sts s1 s2
  have h1 : BlocksOnly s s1 := ((dropJobs s _).trans (resetRegs _ (by decide) (by decide))).trans (wr _ _ ⟨by decide, by decide⟩)
  have h2 : BlocksOnly s s2 := h1.trans (dropJobs s1 _)
  exact h2.trans ⟨rfl, rfl, rfl, rfl, rfl, rfl, rfl⟩

theorem modMem (s : State) (f : Mem → Mem) : BlocksOnly s (s.modMem f) := ⟨rfl, rfl, rfl, rfl, rfl, rfl, rfl⟩

theorem expEnd (s : State) (code : Nat) : BlocksOnly s (s.expEnd code) := by
  unfold State.expEnd
  split
  · exact refl s
  · rename_i e _
    extract_lets s1 _ s2
    have hring : Beside (R.MEM_RING_STS.EXP e.ring).addr := by
      simp only [Beside, R.MEM_RING_STS.EXP, R.MEM_RING_STS, R.GLB_LOCK, R.CFG_STS]
      omega
    have hevt : Beside (if code = 0 then R.MEM_EVT.EXP_DONE else R.MEM_EVT.EXP_FAIL).addr := by
      split
      · exact ⟨by decide, by decide⟩
      · exact ⟨by decide, by decide⟩
    have h2 : BlocksOnly s s2 := (each s _ (fun n t => freeCore t n)).trans (grit s1 _)
    have h3 := (h2.trans (modMem s2 (fun m => { m with exp := none }))).trans (p _ 0 hring)
    exact ((h3.trans (p _ _ ⟨by decide, by decide⟩)).trans (p _ _ ⟨by decide, by decide⟩)).trans (ev _ hevt)

theorem memReset (s : State) : BlocksOnly s (s.memReset false) := by
  unfold State.memReset
  extract_lets s0 exp running id init frozen keep s1 s2
  have h0 : BlocksOnly s s0 := expEnd s _
  have h1 : BlocksOnly s s1 := h0.trans (resetRegs s0 rfl rfl)
  have h2 : BlocksOnly s s2 := ((h1.trans (wr s1 id ⟨by decide, by decide⟩)).trans (p _ init ⟨by decide, by decide⟩)).trans
    (ite (wr _ exp ⟨by decide, by decide⟩) (refl _))
  exact (h2.trans (modMem s2 _)).trans (each _ _ (fun r t => ⟨rfl, rfl, rfl, rfl, rfl, rfl, rfl⟩))

theorem blocksReset (s : State) : BlocksOnly s s.blocksReset :=
  (((flTorn s).trans (slpBreak _ _)).trans (keyClear _)).trans (memReset _)

/-! #### The management cluster and the keep-alive store at a start (R321, R329, R473) -/

theorem modMgt (s : State) (f : Mgt → Mgt) : BlocksOnly s (s.modMgt f) := ⟨rfl, rfl, rfl, rfl, rfl, rfl, rfl⟩

theorem reqReset (s : State) (r : Nat) : BlocksOnly s (s.reqReset r) := by
  have hrq : ∀ (t : State) (f : Requester → Requester), BlocksOnly t (t.modRq r f) := fun _ _ => ⟨rfl, rfl, rfl, rfl, rfl, rfl, rfl⟩
  have harm : BlocksOnly s (s.setArmed r false) := (hrq s _).trans (wr _ (a := R.GLB_UNLOCK_STS) _ ⟨by decide, by decide⟩)
  exact harm.trans (hrq _ _)

theorem mgtReset (s : State) (cause : Nat) : BlocksOnly s (s.mgtReset cause) := by
  unfold State.mgtReset
  extract_lets s1 s2 ram s3
  have h1 : BlocksOnly s s1 := (resetRegs s rfl rfl).trans (wr _ _ ⟨by decide, by decide⟩)
  have h2 : BlocksOnly s s2 := h1.trans (each s1 _ (fun r t => reqReset t r))
  have h3 : BlocksOnly s s3 := h2.trans (ite ((p s2 _ ⟨by decide, by decide⟩).trans (dropJobs _ _)) (refl s2))
  exact ((h3.trans (used s3)).trans (modMgt _ _)).trans (bump _ ⟨by decide, by decide⟩ ⟨by decide, by decide⟩)

theorem keepAliveCheck (s : State) (bad : List Nat) : BlocksOnly s (s.keepAliveCheck bad) := by
  have hres : ∀ r, Beside (R.KEY_RES_STS.STATE r).addr := fun r => by
    simp only [Beside, R.KEY_RES_STS.STATE, R.KEY_RES_STS, R.GLB_LOCK, R.CFG_STS]
    omega
  unfold State.keepAliveCheck
  extract_lets lost s0 _ s1 s2
  have h0 : BlocksOnly s s0 := p s _ ⟨by decide, by decide⟩
  have h1 : BlocksOnly s s1 := h0.trans ⟨rfl, rfl, rfl, rfl, rfl, rfl, rfl⟩
  have h2 : BlocksOnly s s2 := (h1.trans (each s1 _ (fun r t => p t _ (hres r)))).trans (ev _ ⟨by decide, by decide⟩)
  refine ite h0 (ite ?_ h2)
  exact ((h2.trans (p s2 _ ⟨by decide, by decide⟩)).trans (ev _ ⟨by decide, by decide⟩)).trans
    (fault _ _ (by decide) (by decide) (by decide))

end BlocksOnly

/-- The state in which a start has given the loader and GLB_LOCK their first values (R54, R55). -/
def State.startBegun (s : State) : State :=
  let s1 := (s.setCfg cfgSelftest).modLoader (fun _ => { active := true, since := s.tick })
  { (s1.wr R.GLB_LOCK (s1.rd R.GLB_LOCK ||| W (s.vault.locks % 8))).ldSnapshot with
    mgt := { s1.mgt with base := s.tick, kick := s.tick }, sofBase := s.tick }

/-- The rest of a start is work of the blocks. -/
theorem BlocksOnly.coreStart (s : State) (bad : List Nat) (cause : Nat) : BlocksOnly s.startBegun (s.coreStart bad cause) := by
  have h3 : BlocksOnly s.startBegun ((s.startBegun.mgtReset cause).p R.MGT_STS.STATE mgtReset0) :=
    (BlocksOnly.mgtReset _ cause).trans (BlocksOnly.p _ _ ⟨by decide, by decide⟩)
  unfold State.coreStart
  extract_lets _ _ _ _ s3 s4 _ s5 s6 s7
  have h4 : BlocksOnly s.startBegun s4 := h3.trans (BlocksOnly.keepAliveCheck s3 bad)
  have hvault : BlocksOnly s4 { s4 with vault := { s4.vault with tampered := false } } := ⟨rfl, rfl, rfl, rfl, rfl, rfl, rfl⟩
  have h5 : BlocksOnly s4 s5 := BlocksOnly.ite ((hvault.trans (BlocksOnly.ev _ ⟨by decide, by decide⟩)).trans
    (BlocksOnly.fault _ _ (by decide) (by decide) (by decide))) (BlocksOnly.refl s4)
  have hflt : BlocksOnly s5 (s5.modFlt (fun f => { f with saveOpen := false })) := ⟨rfl, rfl, rfl, rfl, rfl, rfl, rfl⟩
  have h6 : BlocksOnly s5 s6 := BlocksOnly.ite ((hflt.trans (BlocksOnly.fault _ _ (by decide) (by decide) (by decide))).trans
    (BlocksOnly.bump _ ⟨by decide, by decide⟩ ⟨by decide, by decide⟩)) (BlocksOnly.refl s5)
  have h7 : BlocksOnly s6 s7 := BlocksOnly.ite ((BlocksOnly.modSlp s6 _).trans (BlocksOnly.ev _ ⟨by decide, by decide⟩))
    (BlocksOnly.refl s6)
  exact (((h4.trans h5).trans h6).trans h7).trans (BlocksOnly.levels s7)

/-- A start begins in SELFTEST (R55). -/
theorem State.startBegun_state (s : State) : s.startBegun.g R.CFG_STS.STATE = cfgSelftest := by
  have hsts : s.startBegun.rd R.CFG_STS = (s.setCfg cfgSelftest).rd R.CFG_STS :=
    State.rd_wr_ne ((s.setCfg cfgSelftest).modLoader (fun _ => { active := true, since := s.tick })) _ (by decide)
  have hset : (s.setCfg cfgSelftest).g R.CFG_STS.STATE = cfgSelftest := State.g_p_same s R.CFG_STS.STATE cfgSelftest (by decide)
  rw [State.g] at hset ⊢
  rw [show R.CFG_STS.STATE.addr = R.CFG_STS from rfl] at hset ⊢
  rw [hsts, hset]

/-- At power-on every register of the power die, and of the core die each that a reset does not keep, has its Reset value (R53). -/
theorem State.rd_powerOn (s : State) {a : Nat} (h : regionOf a = 12 ∨ coreKept true a = false) : s.powerOn.rd a = resetOf a := by
  have hregs : s.powerOn.regs = ((s.coreReset true).resetRegs (fun a => regionOf a == 12)).regs := rfl
  rw [State.rd_congr _ _ hregs, State.rd_resetRegs]
  split
  case isTrue => rfl
  case isFalse hn =>
    refine State.rd_coreReset s (h.resolve_left fun h12 => ?_)
    exact hn (by simp [h12])

theorem training_passOn (s0 s : State) : (State.passOn s0 s).brg.training = s.brg.training := by
  rw [(Quiet.passOn s0 s).2.2]

/-- The link comes up, nothing having been lost with it: no count waits and LOST is clear. -/
theorem State.tenonUp_quiet {s : State} (ms : Nat) (hlost : s.tenon.lostState = false) (hheld : s.tenon.heldYield = 0) :
    s.tenonUp ms = { s with tenon := { s.tenon with up := true, retraining := false } }.p R.FLT_TENON.LOST 0 := by
  unfold State.tenonUp
  simp only [hlost, hheld, Bool.false_eq_true, if_false, if_true]

/-- The state at PLL lock: the link is up, PCIe trains and the management cluster is in its resident loader (R55). -/
def State.pllUp (s : State) : State :=
  ({ s with
    loader := { s.loader with pllLocked := true }
    tenon := { s.tenon with up := true, retraining := false }
    brg := { s.brg with training := true } }.p R.FLT_TENON.LOST 0).p R.MGT_STS.STATE mgtLoader

theorem execPllLock_eq {s : State} (ms : Nat) (hcore : s.coreUp = true) (hactive : s.loader.active = true)
    (hlock : s.loader.pllLocked = false) (hreload : s.loader.reload = false) (hlost : s.tenon.lostState = false)
    (hheld : s.tenon.heldYield = 0) : exec (.pllLock ms) s = .next (State.passOn s s.pllUp) := by
  have hgo : (s.coreUp && s.loader.active && !s.loader.pllLocked && !s.loader.reload) = true := by
    simp [hcore, hactive, hlock, hreload]
  have hup : (s.modLoader (fun l => { l with pllLocked := true })).tenonUp ms = _ := State.tenonUp_quiet ms hlost hheld
  show execPllLock ms s = _
  unfold execPllLock
  rw [if_pos hgo, hup]
  rfl

end Sys2Proof.Machine

open Sys2Proof Sys2Proof.Machine

/-- Settles O16: what a start or a reset does beyond the fields it names is work of the blocks, which leaves the loader, the load
channels and the stored keys; the registers are read through the reset of the core die. -/
theorem powerAndResetEvents : Obligations.PowerAndResetEvents := by
  unfold Obligations.PowerAndResetEvents
  refine ⟨?start, ?resetN, ?pwrGood, ?vs, ?pll⟩
  case start =>
    intro s bad hvs hdown
    have hw := BlocksOnly.coreStart { s with pins := { s.pins with pwrGood := true, resetN := true } } bad 0
    refine ⟨_, congrArg (done s) (if_pos (by simp [hvs, hdown])), rfl, ?_, ?_, ?_⟩
    · rw [passOn_pins, hw.pins]
      rfl
    · rw [g_passOn _ _ (by decide), State.g, show R.CFG_STS.STATE.addr = R.CFG_STS from rfl, hw.sts]
      exact State.startBegun_state _
    · rw [passOn_loader, hw.loader]
      rfl
  case resetN =>
    intro s hup
    have hw := BlocksOnly.blocksReset { s with pins := { s.pins with resetN := false } }
    have hlock : (({ s with pins := { s.pins with resetN := false } } : State).coreReset false).rd R.GLB_LOCK = s.rd R.GLB_LOCK :=
      (State.rd_coreReset_kept _ (by decide) (by decide)).trans hw.lock
    refine ⟨_, congrArg (done s) (if_pos hup), rfl, ?_⟩
    simp only [passOn_pins, passOn_loader, passOn_reqs, passOn_tbl, passOn_sw, passOn_ports, passOn_mdio, passOn_str, passOn_grit,
      passOn_can, passOn_gw, passOn_dma, passOn_cqp, passOn_tenon, passOn_loads, passOn_vault]
    exact ⟨rfl, rfl, rfl, rfl, rfl, rfl, rfl, rfl, rfl, rfl, rfl, rfl, rfl, rfl, hw.loads, hw.rs, hw.high,
      (rd_passOn _ _ (by decide)).trans hlock, fun a ha hpass => (rd_passOn _ _ hpass).trans (State.rd_coreReset _ ha)⟩
  case pwrGood =>
    intro s hgood
    have hw := BlocksOnly.blocksReset { s with pins := { s.pins with pwrGood := false } }
    refine ⟨_, congrArg (done s) (if_pos hgood), rfl, ?_, ?_⟩
    · rw [g_passOn _ _ (by decide)]
      exact State.g_p_same _ R.PWR_SUP_STS.SAVE 0 (by decide)
    simp only [passOn_pins, passOn_mem, passOn_ports, passOn_can, passOn_loader, passOn_loads]
    refine ⟨rfl, rfl, rfl, rfl, rfl, hw.loads, fun a ha hpass => ?_⟩
    have hsup : a ≠ R.PWR_SUP_STS.SAVE.addr := by
      rintro rfl
      exact absurd ha (by decide)
    rw [rd_passOn _ _ hpass, State.rd_p_ne _ _ _ hsup, State.rd_coreReset _ ha]
  case vs =>
    intro s
    refine ⟨_, rfl, ?_⟩
    simp only [passOn_pins, passOn_tenon, passOn_loads, passOn_mem]
    exact ⟨rfl, rfl, rfl, rfl, fun a ha hpass => (rd_passOn _ _ hpass).trans (s.rd_powerOn ha)⟩
  case pll =>
    intro s ms hcore hactive hlock hreload hlost hheld
    refine ⟨_, execPllLock_eq ms hcore hactive hlock hreload hlost hheld, ?_⟩
    rw [training_passOn, g_passOn _ _ (by decide), g_passOn _ _ (by decide), passOn_loader, passOn_tenon]
    refine ⟨rfl, State.g_p_same _ R.MGT_STS.STATE mgtLoader (by decide), rfl, rfl, ?_⟩
    exact (State.g_p_ne _ _ _ _ (by decide)).trans (State.g_p_same _ R.FLT_TENON.LOST 0 (by decide))

end

section
/-! SUPPORT. What the records of an image do when their turn comes, and how a wait of the loader ends (R67-R69, R315). -/

namespace Sys2Proof.Machine

/-! ### Frames of what changes the loader's own state -/

/-- A frame of registers but for the loader's own state stands after events have been passed on. -/
theorem Kept.passOn_withLoader {s u : State} {l : List Nat} (s0 : State) (h : Kept { s with loader := u.loader } u l) :
    Kept { s with loader := (State.passOn s0 u).loader } (State.passOn s0 u) l := by
  rw [passOn_loader]
  exact h.passOn s0

/-- A change of the loader's own state is framed by excepting that. -/
theorem Kept.modLoader {s u : State} {l : List Nat} (h : Kept s u l) (f : Loader → Loader) :
    Kept { s with loader := (u.modLoader f).loader } (u.modLoader f) l := by
  obtain ⟨hreg, hq, hrest⟩ := h
  refine ⟨fun a ha hp => hreg a ha hp, fun q i hne => hq q i hne, ?_⟩
  simp only [State.modLoader]
  rw [hrest]

/-- A command that changes the loader's own state only leaves it so, and everything else but what passing events on may change. -/
theorem exists_passOn_modLoader (s : State) (f : Loader → Loader) :
    ∃ t, done s (s.modLoader f) = .next t ∧ t.loader = f s.loader ∧ Kept { s with loader := t.loader } t [] :=
  ⟨_, rfl, passOn_loader s _, ((Kept.refl s []).modLoader f).passOn_withLoader s⟩

/-! ### Records that wait for nothing of the vault (R67, R77) -/

/-- While RS is in place a record is applied (R77). -/
theorem State.applyRec_of_root {s : State} (h : s.rootGone = false) (f : State → State) : s.applyRec f = f s := by
  unfold State.applyRec
  simp [h]

section
variable {s : State} (hroot : s.rootGone = false)
include hroot

theorem State.regRecord_of_next {l : List (Nat × Word)} (h : s.nextRec = some (.reg32 l)) : s.regRecord = State.cfgWrites l s := by
  unfold State.regRecord
  simp only [h, State.applyRec_of_root hroot]

theorem State.blkRecord_of_next {off : Nat} {vals : List Word} (h : s.nextRec = some (.regblk off vals)) :
    s.blkRecord = State.cfgWrites (vals.zipIdx.map (fun p => (off + 4 * p.2, p.1))) s := by
  unfold State.blkRecord
  simp only [h, State.applyRec_of_root hroot]

theorem State.pollRecord_of_next {off us : Nat} {m v : Word} (h : s.nextRec = some (.regpoll off m v us)) :
    s.pollRecord = s.modLoader (fun l => { l with wait := .poll off m v }) := by
  unfold State.pollRecord
  simp only [h, State.applyRec_of_root hroot]

theorem State.waitRecord_of_next {us : Nat} (h : s.nextRec = some (.regwait us)) :
    s.waitRecord = s.modLoader (fun l => { l with wait := .time }) := by
  unfold State.waitRecord
  simp only [h, State.applyRec_of_root hroot]

theorem State.tblRecord_of_next {tb first count : Nat} {ws : List Word} (bad : Option Nat)
    (h : s.nextRec = some (.tblload tb first count ws)) (hbusy : s.tblBusy = false) :
    s.tblRecord bad = State.tblLoad tb first bad (quads count ws) (s.markRegion 4) := by
  unfold State.tblRecord
  simp only [h, hbusy, Bool.false_eq_true, if_false, State.applyRec_of_root hroot]

theorem State.mdioRecord_of_next {l : List (List Byte)} (h : s.nextRec = some (.mdio l)) :
    s.mdioRecord = (s.each (l.map mdioOfRec)
      (fun e u => u.mdioWork (e.1 % 2) (fun d => { d with writes := d.writes ++ [e.2] }))).recDone := by
  unfold State.mdioRecord
  simp only [h, State.applyRec_of_root hroot]

theorem State.noteRecord_of_next (h : s.nextRec = some .note) : s.noteRecord = s.recDone := by
  unfold State.noteRecord
  simp only [h, State.applyRec_of_root hroot]

theorem State.skipRecord_of_next {ty : Nat} {c : Bool} (h : s.nextRec = some (.unknown ty c)) :
    s.skipRecord = ((s.bump R.CFG_SKIP_LO).ev R.CFG_EVT.SKIP).recDone := by
  unfold State.skipRecord
  simp only [h, State.applyRec_of_root hroot]

theorem State.endRecord_of_next {n : Nat} (h : s.nextRec = some (.endRec n)) : s.endRecord = s.recDone.setCfg cfgCommit := by
  unfold State.endRecord
  simp only [h, State.applyRec_of_root hroot]

end

/-! ### KEYBLOB (R315) -/

/-- The vault takes a KEYBLOB record while it runs no command. -/
theorem State.blobRecord_of_next {s : State} {slot : Nat} {b : List Byte} (h : s.nextRec = some (.keyblob slot b))
    (hidle : s.vault.cmd = none) :
    s.blobRecord = ((s.markRegion 11).modLoader (fun l => { l with wait := .blob slot })).vaultEnqueue noSlot := by
  unfold State.blobRecord
  simp only [h, hidle, Option.isSome_none, Bool.false_eq_true, if_false]

/-- The vault's verdict on a KEYBLOB record ends it: done, or the image rejected. -/
theorem State.blobDone_of_wait {s : State} {slot slot' core twin : Nat} {b : List Byte} {j : Job} (differ : Bool)
    (hwait : s.loader.wait = .blob slot) (hrec : s.handRec = some (.keyblob slot' b)) (hcores : s.vaultCores = some (core, j, twin)) :
    s.blobDone differ = (if (((s.endJob core j).freeCore twin).keyBlob slot b differ).2 = kOk then
      (((s.endJob core j).freeCore twin).keyBlob slot b differ).1.recDone
      else (((s.endJob core j).freeCore twin).keyBlob slot b differ).1.rejectApply) := by
  unfold State.blobDone
  simp only [hwait, hrec, hcores]

/-! ### The ends of the waits (R67, R69) -/

/-- A read of a mapped register outside the PWR region meets no error (R34). -/
theorem State.busRead_of_mapped (s : State) (req : Nat) {a : Nat} (hrow : (rowOf a).isSome = true) (hreg : regionOf a ≠ 12) :
    s.busRead req a = ((s.busRead req a).1, (s.busRead req a).2.1, none) := by
  obtain ⟨r, hr⟩ := Option.isSome_iff_exists.mp hrow
  unfold State.busRead State.busReadBe
  simp only [hr, hreg, false_and, if_false]

/-- A poll of such a register finds that it matches or that it does not. -/
theorem State.pollRead_of_mapped (s : State) {off : Nat} (m v : Word) (hrow : (rowOf off).isSome = true) (hreg : regionOf off ≠ 12) :
    s.pollRead off m v = ((s.busRead reqCfg off).1, some (((s.busRead reqCfg off).2.1 &&& m) == v)) := by
  unfold State.pollRead
  rw [s.busRead_of_mapped reqCfg hrow hreg]

section
variable {s : State} {off : Nat} {m v : Word} (hwait : s.loader.wait = .poll off m v) (hrow : (rowOf off).isSome = true)
  (hreg : regionOf off ≠ 12)
include hwait hrow hreg

/-- A poll that matches is done. -/
theorem State.pollStep_of_match (late : Bool) (hv : (s.busRead reqCfg off).2.1 &&& m = v) :
    s.pollStep late = (s.busRead reqCfg off).1.recDone := by
  have heq : ((s.busRead reqCfg off).2.1 &&& m == v) = true := beq_iff_eq.mpr hv
  unfold State.pollStep
  simp only [hwait, s.pollRead_of_mapped m v hrow hreg, heq]

/-- A poll that does not match by the end of its time has its image rejected. -/
theorem State.pollStep_of_late (hv : (s.busRead reqCfg off).2.1 &&& m ≠ v) :
    s.pollStep true = (s.busRead reqCfg off).1.rejectApply := by
  have hne : ((s.busRead reqCfg off).2.1 &&& m == v) = false := beq_eq_false_iff_ne.mpr hv
  unfold State.pollStep
  simp only [hwait, s.pollRead_of_mapped m v hrow hreg, hne, if_true]

end

theorem State.waitEnd_of_wait {s : State} (h : s.loader.wait = .time) : s.waitEnd = s.recDone := if_pos h

end Sys2Proof.Machine

open Sys2Proof Sys2Proof.Machine

/-- Settles O18: while RS is in place each record is what its own meaning says, and each wait ends as its read or its time has it. -/
theorem loaderRecords : Obligations.LoaderRecords := by
  unfold Obligations.LoaderRecords
  refine ⟨?reg32, ?regblk, ?regpoll, ?regwait, ?tblload, ?keyblob, ?mdio, ?note, ?endRec, ?pollMatch, ?pollLate, ?waitEnd, ?blobDone⟩
  case reg32 => exact fun s l hroot hrec => congrArg (done s) (State.regRecord_of_next hroot hrec)
  case regblk => exact fun s off vals hroot hrec => congrArg (done s) (State.blkRecord_of_next hroot hrec)
  case regpoll =>
    intro s off m v us hroot hrec
    have hexec : exec .regpoll s = done s (s.modLoader (fun l => { l with wait := .poll off m v })) :=
      congrArg (done s) (State.pollRecord_of_next hroot hrec)
    rw [hexec]
    exact exists_passOn_modLoader s _
  case regwait =>
    intro s us hroot hrec
    have hexec : exec .regwait s = done s (s.modLoader (fun l => { l with wait := .time })) :=
      congrArg (done s) (State.waitRecord_of_next hroot hrec)
    rw [hexec]
    exact exists_passOn_modLoader s _
  case tblload =>
    exact fun s tb first count ws hroot hrec hbusy => congrArg (done s) (State.tblRecord_of_next hroot none hrec hbusy)
  case keyblob => exact fun s slot b _ hrec hidle => congrArg (done s) (State.blobRecord_of_next hrec hidle)
  case mdio => exact fun s l hroot hrec => congrArg (done s) (State.mdioRecord_of_next hroot hrec)
  case note =>
    intro s hroot hrec
    have hexec : exec .noteRecord s = done s s.recDone := congrArg (done s) (State.noteRecord_of_next hroot hrec)
    rw [hexec]
    exact exists_passOn_modLoader s _
  case endRec =>
    intro s n hroot hrec
    refine ⟨_, congrArg (done s) (State.endRecord_of_next hroot hrec), ?_, passOn_loader s _, Kept.passOn_withLoader s ?_⟩
    · rw [g_passOn _ _ (by decide)]
      exact State.g_p_same s.recDone R.CFG_STS.STATE cfgCommit (by decide)
    · exact Kept.p s.recDone R.CFG_STS.STATE cfgCommit
  case pollMatch =>
    exact fun s off m v hwait hrow hreg hv => congrArg (done s) (State.pollStep_of_match hwait hrow hreg false hv)
  case pollLate => exact fun s off m v hwait hrow hreg hv => congrArg (done s) (State.pollStep_of_late hwait hrow hreg hv)
  case waitEnd =>
    intro s hwait
    have hexec : exec .regwaitExpiry s = done s s.recDone := congrArg (done s) (State.waitEnd_of_wait hwait)
    rw [hexec]
    exact exists_passOn_modLoader s _
  case blobDone =>
    rintro s slot slot' core twin b j d r hwait hrec hcores rfl
    exact congrArg (done s) (State.blobDone_of_wait d hwait hrec hcores)

end

section
/-! SUPPORT. How the records of a verified image are judged, and how a record of unknown TYPE is skipped (R65, R68, R69). -/

namespace Sys2Proof.Machine

/-- An event leaves a counter that it does not stand in. -/
theorem State.rd64_ev_ne (s : State) (l : Loc) {a : Nat} (h : a ≠ l.addr) (h' : a + 4 ≠ l.addr) : (s.ev l).rd64 a = s.rd64 a := by
  simp only [State.rd64, State.rd_ev_ne s l h, State.rd_ev_ne s l h']

theorem State.rd64_recDone (s : State) (a : Nat) : s.recDone.rd64 a = s.rd64 a := rfl

/-- A record of an unlisted TYPE that is marked critical (R68). -/
def RecAt.critical (r : RecAt) : Bool := match r.body with | .unknown _ c => c | _ => false

/-- The loader's judgement of an image whose signatures are good: `bad` is its first record in error, `crit` its first critical
record of unlisted TYPE (R68, R69). -/
def State.recsJudged (s : State) (recs : List RecAt) (bad crit : Option RecAt) : State :=
  match bad with
  | some x => s.reject rejRecord x.idx (128 + x.ofs)
  | none =>
    match crit with
    | some r => s.reject rejCrit r.idx (128 + r.ofs)
    | none => s.modLoader (fun l => { l with recs := recs, verified := true })

section
variable {s : State} {k ofs size : Nat} (hcand : s.loader.cand = some k) (hbody : s.loader.bodyRead = true)
  (hver : s.loader.verified = false) (hslot : s.cfgSlot k = some (ofs, size)) {h : List Byte} (hh : h = s.loader.header)
include hcand hbody hver hslot hh

/-- A signature that is not good comes first (R65, R69). -/
theorem State.sigVerify_of_bad
    (hsig : sigsGood (hdFlags h) (sha384 (h ++ s.loader.cipher)) (s.flashBytes (ofs + 144 + hdBodyLen h) (hdSigLen h)) = false) :
    s.sigVerify = s.reject rejSig 0 (144 + hdBodyLen h) := by
  subst hh
  unfold State.sigVerify
  simp only [hcand, hbody, hver, hslot, hsig, Bool.not_true, Bool.not_false, Bool.or_self, Bool.false_eq_true, if_false, if_true]

/-- With good signatures the records decide. -/
theorem State.sigVerify_of_good {recs : List RecAt} (hrecs : recs = parseRecs (leAt h 0x10 4) (hdBodyLen h / 8 + 1) 0 0 s.loader.plain)
    (hsig : sigsGood (hdFlags h) (sha384 (h ++ s.loader.cipher)) (s.flashBytes (ofs + 144 + hdBodyLen h) (hdSigLen h)) = true) :
    s.sigVerify = s.recsJudged recs (recs.find? (fun r => r.body == .bad)) (recs.find? RecAt.critical) := by
  subst hh hrecs
  unfold State.sigVerify
  simp only [hcand, hbody, hver, hslot, hsig, Bool.not_true, Bool.or_self, Bool.false_eq_true, if_false]
  rfl

end

/-- No record in error is found where none is. -/
theorem find?_bad_eq_none {recs : List RecAt} (h : ∀ x ∈ recs, x.body ≠ .bad) : recs.find? (fun r => r.body == .bad) = none :=
  List.find?_eq_none.mpr (fun x hx => by simpa using h x hx)

/-- No critical record is found where no record of unlisted TYPE is critical. -/
theorem find?_critical_eq_none {recs : List RecAt} (h : ∀ x ∈ recs, ∀ ty, x.body ≠ .unknown ty true) :
    recs.find? RecAt.critical = none := by
  refine List.find?_eq_none.mpr (fun x hx hcrit => ?_)
  unfold RecAt.critical at hcrit
  split at hcrit
  · rename_i ty c hbody
    exact h x hx ty (hcrit ▸ hbody)
  · exact Bool.false_ne_true hcrit

end Sys2Proof.Machine

open Sys2Proof Sys2Proof.Machine

/-- Settles O19: the skip is counted and its event set; a candidate whose records are checked meets its signature first, then a record
in error, then a critical one. -/
theorem unknownRecords : Obligations.UnknownRecords := by
  unfold Obligations.UnknownRecords
  refine ⟨?skip, ?crit, ?record, ?sig⟩
  case skip =>
    intro s ty c hroot hrec hsave
    have hk := (Kept.bump s R.CFG_SKIP_LO).trans (Kept.ev (s.bump R.CFG_SKIP_LO) R.CFG_EVT.SKIP)
    have hloader : ((s.bump R.CFG_SKIP_LO).ev R.CFG_EVT.SKIP).loader = s.loader := by rw [hk.2.2]
    refine ⟨_, congrArg (done s) (State.skipRecord_of_next hroot hrec), ?_, ?_, ?_, ?_⟩
    · rw [passOn_loader, State.recDone, State.modLoader, hloader]
    · rw [rd64_passOn _ _ (by decide) (by decide), State.rd64_recDone, State.rd64_ev_ne _ _ (by decide) (by decide)]
      exact s.rd64_bump R.CFG_SKIP_LO hsave
    · rw [g_passOn _ _ (by decide)]
      exact State.g_ev_same (s.bump R.CFG_SKIP_LO) R.CFG_EVT.SKIP (by decide) (by decide)
    · exact (hk.modLoader _).passOn_withLoader s
  case crit =>
    intro s k ofs size h recs r hcand hbody hver hslot hh hrecs hcrit hsig hgood
    refine congrArg (done s) ((State.sigVerify_of_good hcand hbody hver hslot hh hrecs hsig).trans ?_)
    rw [find?_bad_eq_none hgood, show recs.find? RecAt.critical = some r from hcrit]
    rfl
  case record =>
    intro s k ofs size h recs r x hcand hbody hver hslot hh hrecs _ hsig hbad
    refine congrArg (done s) ((State.sigVerify_of_good hcand hbody hver hslot hh hrecs hsig).trans ?_)
    rw [hbad]
    rfl
  case sig =>
    exact fun s k ofs size h recs r hcand hbody hver hslot hh _ _ hsig =>
      congrArg (done s) (State.sigVerify_of_bad hcand hbody hver hslot hh hsig)

end

section
/-! SUPPORT. The way of a candidate from the directory to its verdict: what the loader finds in the flash and at the end of
self-test, and what it then holds (R55, R60, R61, R64, R69). -/

namespace Sys2Proof.Machine

/-! ### Directory and self-test (R60, R61) -/

/-- The first copy of the directory counts where it is valid, else the second (R61). -/
theorem State.dirRead_of_due {s : State} (hactive : s.loader.active = true) (hlock : s.loader.pllLocked = true)
    (hcand : s.loader.cand = none) (htaken : s.loader.taken = 0) :
    s.dirRead false false = s.modLoader (fun l =>
      { l with dir := (dirOf (s.flashBytes 0 4096)).or (dirOf (s.flashBytes 4096 4096)), dirRead := true }) := by
  unfold State.dirRead State.when
  simp only [hactive, hlock, hcand, htaken, Option.isNone_none, Bool.or_self, Bool.false_eq_true, if_false]
  generalize dirOf (s.flashBytes 0 4096) = copy0
  generalize dirOf (s.flashBytes 4096 4096) = copy1
  cases copy0 <;> rfl

/-- A loop over what leaves the state as it is leaves it so. -/
theorem State.each_fixed {α : Type} {l : List α} {f : α → State → State} {s : State} (h : ∀ x ∈ l, f x s = s) : s.each l f = s := by
  unfold State.each
  induction l with
  | nil => rfl
  | cons x l ih =>
    rw [List.foldl_cons, h x (by simp)]
    exact ih (fun y hy => h y (by simp [hy]))

/-- With no repair record, of production or of service, Shim changes nothing at a start (R60). -/
theorem State.applyRecords_of_none {s : State} (hn : s.g R.REP_REC_N.N = 0)
    (hfuse : ∀ k, k < 256 → s.rd (R.REP_FUSE_W0 k) = 0 ∧ s.rd (R.REP_FUSE_W1 k) = 0) : s.applyRecords = s := by
  have hprod : s.each (List.range 256) (fun k t => t.applyRecord (t.rd (R.REP_FUSE_W0 k)) (t.rd (R.REP_FUSE_W1 k))) = s := by
    refine State.each_fixed (fun k hk => ?_)
    obtain ⟨hw0, hw1⟩ := hfuse k (List.mem_range.mp hk)
    rw [hw0, hw1]
    rfl
  unfold State.applyRecords
  simp only [hprod, hn]
  rfl

/-- The pool registers of the Carcass lie beside the DRBG's. -/
theorem State.drbg_poolTouch (s : State) : s.poolTouch.g R.CRY_DRBG_STS.STATE = s.g R.CRY_DRBG_STS.STATE := by
  unfold State.poolTouch
  extract_lets tooMuch s1
  have h1 : s1.g R.CRY_DRBG_STS.STATE = s.g R.CRY_DRBG_STS.STATE :=
    ((State.g_p_ne _ _ _ _ (by decide)).trans (State.g_p_ne _ _ _ _ (by decide))).trans (State.g_p_ne _ _ _ _ (by decide))
  split
  · exact (State.g_p_ne s1 R.SW_EVT.OVERCOMMIT _ 1 (by decide)).trans h1
  · exact h1

/-- What self-test takes away when nothing is beyond repair leaves the state of the DRBG (R460). -/
theorem State.drbg_reduce_none (s : State) : (s.reduce {}).g R.CRY_DRBG_STS.STATE = s.g R.CRY_DRBG_STS.STATE :=
  State.drbg_poolTouch _

/-- Self-test ends with no unit failing and no record to apply: what is left is the DRBG's start (R60, R297). -/
theorem State.selfTestDone_of_clean {s : State} (ok : Bool) (hup : s.coreUp = true) (hnew : s.loader.selfTest = false)
    (hn : s.g R.REP_REC_N.N = 0) (hfuse : ∀ k, k < 256 → s.rd (R.REP_FUSE_W0 k) = 0 ∧ s.rd (R.REP_FUSE_W1 k) = 0) :
    s.selfTestDone [] [] [] {} ok =
      ((if s.g R.CRY_DRBG_STS.STATE ≠ drbgInit then s.reduce {} else if ok then (s.reduce {}).drbgSeeded
        else (s.reduce {}).entropyFails).poolSts.modLoader (fun l => { l with selfTest := true })).levels := by
  unfold State.selfTestDone
  rw [if_neg (by simp [hup, hnew]), State.applyRecords_of_none hn hfuse, ← s.drbg_reduce_none]
  simp only [← bne_iff_ne]
  rfl

/-! ### Checks of a candidate (R64, R69) -/

/-- The slots are where the directory says. -/
theorem State.cfgSlot_congr {s t : State} (h : t.loader.dir = s.loader.dir) (k : Nat) : t.cfgSlot k = s.cfgSlot k := by
  simp only [State.cfgSlot, State.areaInFlash, h]

theorem State.flashBytes_setCfg (s : State) (v : Nat) (f : Loader → Loader) (a n : Nat) :
    ((s.setCfg v).modLoader f).flashBytes a n = s.flashBytes a n := rfl

/-- The header checks read nothing that taking the candidate changes. -/
theorem State.headerFault_setCfg (s : State) (v : Nat) (f : Loader → Loader) (size : Nat) (h sig : List Byte) :
    ((s.setCfg v).modLoader f).headerFault size h sig = s.headerFault size h sig := by
  have hprov : ((s.setCfg v).modLoader f).prov = s.prov := State.g_p_ne s R.CFG_STS.STATE R.KEY_STS.PROV v (by decide)
  unfold State.headerFault State.rootKey
  rw [hprov]
  rfl

/-- A candidate whose header passes is in hand, with its header. -/
theorem State.headerCheck_of_good {s : State} {k ofs size : Nat} {rest : List Nat} {h : List Byte} (hactive : s.loader.active = true)
    (hdir : s.loader.dirRead = true) (hcand : s.loader.cand = none) (htaken : s.loader.taken ≠ 0) (horder : s.loader.order = k :: rest)
    (hslot : s.cfgSlot k = some (ofs, size)) (hh : h = s.flashBytes ofs 128)
    (hgood : s.headerFault size h (s.flashBytes (ofs + 144 + hdBodyLen h) (min (hdSigLen h) 5392)) = none) :
    s.headerCheck false = (s.setCfg cfgStage).modLoader (fun l =>
      { l with order := rest, cand := some k, taken := l.taken + 1, header := h }) := by
  subst hh
  have hslot1 : ((s.setCfg cfgStage).modLoader (fun l => { l with order := rest, cand := some k, taken := l.taken + 1 })).cfgSlot k =
      some (ofs, size) := (State.cfgSlot_congr rfl k).trans hslot
  unfold State.headerCheck
  rw [if_neg (by simp [hactive, hdir, hcand])]
  simp only [beq_eq_false_iff_ne.mpr htaken, Bool.false_eq_true, if_false, horder, hslot1, State.headerFault_setCfg,
    State.flashBytes_setCfg, hgood]
  rfl

/-- A body whose tag is right is staged (R64). -/
theorem State.bodyRead_of_good {s : State} {k ofs size n : Nat} {rs h key : List Byte} (hcand : s.loader.cand = some k)
    (hheader : s.loader.header ≠ []) (hbody : s.loader.bodyRead = false) (hslot : s.cfgSlot k = some (ofs, size))
    (hroot : s.rootKey = some rs) (hh : h = s.loader.header) (hn : n = hdBodyLen h) (hkey : key = cfgKey rs (slice h 0x20 16))
    (htag : gcmTag key (slice h 0x30 12) h (s.flashBytes (ofs + 128) n) = s.flashBytes (ofs + 128 + n) 16) :
    s.bodyRead false = (s.modLoader (fun l => { l with
      cipher := s.flashBytes (ofs + 128) n ++ s.flashBytes (ofs + 128 + n) 16,
      plain := gcmCrypt key (slice h 0x30 12) (s.flashBytes (ofs + 128) n), bodyRead := true })).setCfg cfgVerify := by
  subst hh hn hkey
  have hread : s.loader.header.isEmpty = false := by simpa using hheader
  unfold State.bodyRead
  simp only [hcand, hbody, hslot, hroot, htag, hread, Bool.or_self, Bool.false_eq_true, if_false,
    if_true]

theorem State.applyBegin_of_verified {s : State} (htest : s.loader.selfTest = true) (hver : s.loader.verified = true)
    (hstate : s.g R.CFG_STS.STATE = cfgVerify) : s.applyBegin = s.setCfg cfgApply := by
  unfold State.applyBegin State.cfgState
  simp only [htest, hver, hstate, beq_self_eq_true, Bool.and_self, if_true]

/-- COMMIT zeroes the staging area and lets the stored enables act (R55, R508). -/
theorem State.commitLoad_of_due {s : State} (hstate : s.g R.CFG_STS.STATE = cfgCommit) (hnew : s.loader.committed = false)
    (hmdio : s.cfgMdio = false) :
    s.commitLoad = ((s.modLoader (fun l =>
      { l with actDigest := sha384 (l.header ++ l.cipher), cipher := [], plain := [], stored := [], committed := true })).wr
        R.TBL_EPOCH 0).actAll s.loader.stored := by
  unfold State.commitLoad State.cfgState
  simp only [hstate, hnew, hmdio, bne_self_eq_false, Bool.or_self, Bool.false_eq_true, if_false]

end Sys2Proof.Machine
end

section
/-! SUPPORT. What enabling forwarding leaves, and the commands of the configuration region: RELOAD and the epoch (R55, R72, R73, R76,
R356). -/

namespace Sys2Proof.Machine

/-! ### The enabling of forwarding (R55, R356) -/

/-- Work of the outputs and of the load channels: from `s` to `t` the loader's own state and the pins are as they were. -/
structure StartKept (s t : State) : Prop where
  loader : t.loader = s.loader
  pins : t.pins = s.pins

namespace StartKept

theorem refl (s : State) : StartKept s s := ⟨rfl, rfl⟩

theorem trans {s t u : State} (h : StartKept s t) (k : StartKept t u) : StartKept s u :=
  ⟨k.loader.trans h.loader, k.pins.trans h.pins⟩

theorem of_kept {s t : State} {l : List Nat} (h : Kept s t l) : StartKept s t := ⟨by rw [h.2.2], by rw [h.2.2]⟩

theorem ite {s t u : State} {c : Prop} [Decidable c] (ht : StartKept s t) (hu : StartKept s u) : StartKept s (if c then t else u) := by
  split
  · exact ht
  · exact hu

theorem when {s t : State} {c : Bool} {f : State → State} (h : StartKept s t) (hf : StartKept t (f t)) : StartKept s (t.when c f) :=
  h.trans (ite hf (refl t))

theorem each {α : Type} (s : State) (l : List α) {f : α → State → State} (h : ∀ x t, StartKept t (f x t)) :
    StartKept s (s.each l f) :=
  State.each_keeps (P := StartKept s) l f s (refl s) (fun x t ht => ht.trans (h x t))

theorem wr (s : State) (a : Nat) (v : Word) : StartKept s (s.wr a v) := ⟨rfl, rfl⟩

theorem p (s : State) (l : Loc) (v : Nat) : StartKept s (s.p l v) := ⟨rfl, rfl⟩

theorem ev (s : State) (l : Loc) : StartKept s (s.ev l) := ⟨rfl, rfl⟩

theorem bump (s : State) (a : Nat) : StartKept s (s.bump a) := of_kept (Kept.bump s a)

theorem store (s : State) (a : Nat) (v : Word) : StartKept s (s.store a v) := by
  unfold State.store
  split
  · exact ⟨rfl, rfl⟩
  · exact refl s

theorem wrList (s : State) (a : Nat) (ws : List Word) : StartKept s (s.wrList a ws) := by
  induction ws generalizing s a with
  | nil => exact refl s
  | cons w ws ih => exact StartKept.trans (t := s.wr a w) ⟨rfl, rfl⟩ (ih _ _)

theorem swUp (s : State) (o : Nat) : StartKept s (s.swUp o) := ite (refl s) ⟨rfl, rfl⟩

theorem intUp (s : State) : StartKept s s.intUp := each s _ (fun _ _ => ⟨rfl, rfl⟩)

theorem slpCoreUp (s : State) : StartKept s s.slpCoreUp := ite ⟨rfl, rfl⟩ (refl s)

/-! #### Load channels (R339, R341, R342, R356) -/

theorem ldEv (s : State) (n : Nat) (l : Loc) : StartKept s (s.ldEv n l) := ⟨rfl, rfl⟩

theorem ldYield (s : State) : StartKept s s.ldYield := ite ⟨rfl, rfl⟩ ⟨rfl, rfl⟩

theorem ldTurnOn (s : State) (n amt : Nat) : StartKept s (s.ldTurnOn n amt) := by
  unfold State.ldTurnOn
  extract_lets r s1
  have h1 : StartKept s s1 := ⟨rfl, rfl⟩
  exact ite ((h1.trans (of_kept (Kept.sat s1 _))).trans (bump _ _)) h1

theorem ldPulseOn (s : State) (n : Nat) : StartKept s (s.ldPulseOn n) := by
  unfold State.ldPulseOn
  extract_lets amt
  exact ite ((ldTurnOn s n amt).trans ⟨rfl, rfl⟩) (((bump s _).trans (ldEv _ n _)).trans (ldYield _))

theorem ldCmdOff (s : State) (n : Nat) : StartKept s (s.ldCmdOff n) := ite ⟨rfl, rfl⟩ ⟨rfl, rfl⟩

theorem ldModeChange (s : State) (n old : Nat) : StartKept s (s.ldModeChange n old) := by
  unfold State.ldModeChange
  extract_lets m s1
  have h1 : StartKept s s1 := ⟨rfl, rfl⟩
  exact ite (refl s) (ite (ite h1 (h1.trans (ldPulseOn s1 n))) (refl s))

theorem ldCtlAct (s : State) (req n : Nat) (val : Word) : StartKept s (s.ldCtlAct req n val) := by
  unfold State.ldCtlAct
  extract_lets old new s1
  have h1 : StartKept s s1 := (store s _ val).trans ⟨rfl, rfl⟩
  have hstart : StartKept s1 (s1.ldStart n .command) := ⟨rfl, rfl⟩
  exact ite (bump s _) (ite (h1.trans (ldCmdOff s1 n)) (ite (h1.trans hstart) (ite (h1.trans (ldModeChange s1 n old)) h1)))

theorem ldCommit (s : State) : StartKept s s.ldCommit := by
  unfold State.ldCommit
  extract_lets staged differs clear s1 starts s2
  have h1 : StartKept s s1 := each s _ (fun _ _ => ⟨rfl, rfl⟩)
  have h2 : StartKept s1 s2 := each s1 _ (fun p t => ite ((store t _ p.2).trans ⟨rfl, rfl⟩) (ldCtlAct t reqCfg p.1 p.2))
  exact (h1.trans h2).trans ⟨rfl, rfl⟩

end StartKept

/-- The loader once the start is over, the image of header `h` being the active one (R55). -/
def Loader.started (l : Loader) (h : List Byte) : Loader :=
  { l with active := false, reload := false, act := h, cand := none, header := [], bodyRead := false, verified := false, recs := [] }

/-- Forwarding is enabled and the start is over: the image in hand is the active one (R55, R72). -/
theorem State.forwardOn_of_committed {s : State} {k : Nat} (hcand : s.loader.cand = some k) (hstate : s.g R.CFG_STS.STATE = cfgCommit)
    (hcomm : s.loader.committed = true) :
    s.forwardOn.pins = { s.pins with forwarding := true } ∧ s.forwardOn.loader = s.loader.started s.loader.header := by
  have hgo : ¬ (s.cfgState != cfgCommit || !s.loader.committed) = true := by simp [State.cfgState, hstate, hcomm]
  unfold State.forwardOn
  split
  case h_1 hnone => exact absurd (hcand.symm.trans hnone) (by simp)
  case h_2 slot _ =>
    rw [if_neg hgo]
    extract_lets h s1 s2 s3 _ s4
    have h1 : StartKept s s1 := ((((StartKept.p s R.CFG_STS.STATE cfgRun).trans (StartKept.p _ R.CFG_STS.SLOT slot)).trans
      (StartKept.wr _ R.CFG_ACT_SEQ (W (leAt h 8 4)))).trans (StartKept.wrList _ (R.CFG_BUILD 0) (wordsOf 8 (slice h 0x40 32)))).trans
      (StartKept.wr _ R.CFG_T_FWD (W s.sinceStart))
    have h2 : StartKept s s2 := StartKept.when (h1.trans (StartKept.ev s1 R.CFG_EVT.LOADED))
      ((StartKept.ev _ R.CFG_EVT.FALLBACK).trans (StartKept.bump _ R.CFG_FALLBACK_LO))
    have h3 : StartKept s s3 := StartKept.when h2
      ((StartKept.p s2 ⟨R.CFG_CMD, 30, 2⟩ statDone).trans (StartKept.p _ R.FLT_DEGR.CONFIG 0))
    have hwork := (((StartKept.each s4 ((List.range 24).filter (fun p => s4.portUp p)) (fun p t => StartKept.swUp t p)).trans
      (StartKept.intUp _)).trans (StartKept.ldCommit _)).trans (StartKept.slpCoreUp _)
    exact ⟨hwork.pins.trans (congrArg (fun p : Pins => { p with forwarding := true }) h3.pins),
      hwork.loader.trans (congrArg (Loader.started · h) h3.loader)⟩

/-! ### RELOAD and the configuration epoch (R73, R76) -/

/-- The loader at the begin of a RELOAD at tick `now` (R76). -/
def Loader.reloading (l : Loader) (now : Nat) : Loader :=
  { l with
    active := true, reload := true, selfTest := true, dirRead := false, dir := none, order := [], cand := none, taken := 0,
    wait := .none, written := [], stored := [], committed := false, since := now, lead := 5000 }

theorem exec_cfgReload (s : State) (req : Nat) :
    exec (.cfgReload req) s = .next (State.passOn s (s.portWrite req R.CFG_CMD 15 1)) :=
  congrArg (done s) (s.rowWrite_eq_portWrite req _ (by decide))

/-- An admitted RELOAD in DEGRADED that finds CFG_CMD idle begins again (R76). -/
theorem State.portWrite_reload {s : State} {req : Nat} (hstate : s.g R.CFG_STS.STATE = cfgDegraded) (hadm : Admitted s req R.CFG_CMD 1)
    (hidle : s.stat R.CFG_CMD ≠ statBusy) :
    s.portWrite req R.CFG_CMD 15 1 =
      (((s.putCmd R.CFG_CMD 1 statBusy).setCfg cfgStage).modLoader (fun l => l.reloading s.tick)).respond req false 0 := by
  obtain ⟨hload, hres⟩ := hadm
  obtain ⟨r, hrow, hmw, hrwg, hbase⟩ : ∃ r, rowOf R.CFG_CMD = some r ∧ r.mwLen = 1 ∧ r.rwg = 0 ∧ r.base = R.CFG_CMD :=
    ⟨_, rfl, rfl, rfl, rfl⟩
  have hown : s.ownAct cmplWriter req r R.CFG_CMD 1 true = some (s.cfgCommand req 1) := by
    unfold State.ownAct
    rw [hbase]
    rfl
  have htick : (s.putCmd R.CFG_CMD 1 statBusy).tick = s.tick := by rw [(Kept.putCmd s R.CFG_CMD 1 statBusy).2.2]
  have hact : s.cfgCommand req 1 = ((s.putCmd R.CFG_CMD 1 statBusy).setCfg cfgStage).modLoader (fun l => l.reloading s.tick) := by
    have hok : (fieldOf 1 0 4 == 1 && s.cfgState == cfgDegraded) = true := by simp [State.cfgState, hstate, fieldOf]
    unfold State.cfgCommand
    rw [hok, State.command_accepted hidle, ← htick]
    rfl
  rw [State.portWrite_of_act (State.writeGate_unguarded hrow hload hmw (by decide) hrwg (by decide)) (by decide),
    State.writeAct_of_own hrow hmw (by simp [State.ringShut, R.CFG_CMD]) hres hown, hact]

/-- A command that is accepted shows its STAT (R48). -/
theorem State.stat_putCmd (s : State) {a st : Nat} {r : Row} (hrow : rowOf a = some r)
    (hcmd : ∀ i, i < 2 → (W r.cmd).getLsbD (30 + i) = true) (v : Word) (hst : st < 4) : (s.putCmd a v st).stat a = st := by
  rw [State.stat, State.g, State.rd_putCmd_same hrow, fieldOf_merge _ _ _ _ _ hcmd, fieldOf_withField_same _ _ _ _ (by decide)]
  exact Nat.mod_eq_of_lt hst

/-- What is framed by registers alone leaves the loader's own state. -/
theorem Kept.loader_eq {s t : State} {l : List Nat} (h : Kept s t l) : t.loader = s.loader := by rw [h.2.2]

/-- A whole write of a register of one word with RWG fields goes to the guard (R42). -/
theorem State.writeGate_rwg {s : State} {req a : Nat} {v : Word} {r : Row} (hrow : rowOf a = some r) (hl : s.loadRefused req a = false)
    (hmw : r.mwLen = 1) (hu : a ≠ R.GLB_UNLOCK) (hrwg : r.rwg ≠ 0) : s.writeGate req a 15 v = s.guardGate req a r v := by
  unfold State.writeGate
  simp [hl, hrow, hmw, hu, hrwg]

theorem exec_floorRaise (s : State) (req e : Nat) :
    exec (.floorRaise req e) s = .next (State.passOn s (s.portWrite req R.CFG_FLOOR 15 (withField (s.peek req R.CFG_FLOOR) 0 8 e))) :=
  congrArg (done s) (s.rowWrite_eq_portWrite req _ (by decide))

/-- A write of CFG_FLOOR with an armed unlock consumes it and asks for its epoch (R42, R73). -/
theorem State.portWrite_floor {s : State} {req : Nat} {v : Word} (hunl : Unlocked s req R.CFG_FLOOR v) :
    s.portWrite req R.CFG_FLOOR 15 v = ((s.spend req).cfgFloorWrite v).respond req false 0 := by
  obtain ⟨⟨hload, hres⟩, hdma, hb, harm⟩ := hunl
  obtain ⟨r, hrow, hmw, hrwg, hbase⟩ : ∃ r, rowOf R.CFG_FLOOR = some r ∧ r.mwLen = 1 ∧ r.rwg ≠ 0 ∧ r.base = R.CFG_FLOOR :=
    ⟨_, rfl, rfl, by decide, rfl⟩
  have hgate : s.writeGate req R.CFG_FLOOR 15 v = (s.spend req, .act true) :=
    (State.writeGate_rwg hrow hload hmw (by decide) hrwg).trans (State.guardGate_armed hdma hb harm)
  have hres' : (s.spend req).keepsRes R.CFG_FLOOR v = true := by
    rw [State.keepsRes, State.spend, s.rd_setArmed_ne req false (by decide)]
    exact hres
  have hown : (s.spend req).ownAct cmplWriter req r R.CFG_FLOOR v true = some ((s.spend req).cfgFloorWrite v) := by
    unfold State.ownAct
    rw [hbase]
    rfl
  rw [State.portWrite_of_act hgate (by decide), State.writeAct_of_own hrow hmw (by simp [State.ringShut, R.CFG_FLOOR]) hres' hown]

/-- The fuses of epoch `e` are blown (R73). -/
theorem State.cfgFloorDone_of_fusing {s : State} {e : Nat} (h : s.loader.fusing = some e) :
    s.cfgFloorDone = ({ s with
      vault := { s.vault with cfgEpoch := e }, loader := { s.loader with fusing := none } }.p R.CFG_FLOOR.FUSING 0).ev
        R.CFG_EVT.FLOOR_DONE := by
  unfold State.cfgFloorDone
  simp only [h]
  rfl

/-- Such a frame stands after the answer at a port, the loader's own state excepted like the requester's. -/
theorem Kept.passOn_respond_modLoader {s u : State} {l : List Nat} (s0 : State) (h : Kept s u l) (f : Loader → Loader) (r : Nat)
    (e : Bool) (d : Word) {t : State} (ht : t = State.passOn s0 ((u.modLoader f).respond r e d)) :
    Kept { s with loader := t.loader, reqs := t.reqs } t l := by
  have hloader : t.loader = (u.modLoader f).loader := by rw [ht, passOn_loader]; rfl
  rw [hloader, ht]
  exact (h.modLoader f).passOn_respond s0 r e d

end Sys2Proof.Machine

open Sys2Proof Sys2Proof.Machine

/-- Settles O17: each step of a start that goes well is its own meaning; what the outputs and load channels do once forwarding is
enabled leaves pins and loader; RELOAD and the epoch are writes that pass their port. -/
theorem loaderAndCommit : Obligations.LoaderAndCommit := by
  unfold Obligations.LoaderAndCommit
  refine ⟨?directory, ?selfTest, ?header, ?body, ?verify, ?apply, ?commit, ?forward, ?reload, ?floor, ?floorDone⟩
  case directory =>
    intro s hactive hlock hcand htaken
    have hexec : exec (.flashDirectoryRead false false) s = done s (s.modLoader _) :=
      congrArg (done s) (State.dirRead_of_due hactive hlock hcand htaken)
    rw [hexec]
    exact exists_passOn_modLoader s _
  case selfTest => exact fun s ok hup hnew hn hfuse => congrArg (done s) (State.selfTestDone_of_clean ok hup hnew hn hfuse)
  case header =>
    exact fun s k rest ofs size h hactive hdir hcand htaken horder hslot hh hgood =>
      congrArg (done s) (State.headerCheck_of_good hactive hdir hcand htaken horder hslot hh hgood)
  case body =>
    exact fun s k ofs size n rs h key hcand hheader hbody hslot hroot hh hn hkey htag =>
      congrArg (done s) (State.bodyRead_of_good hcand hheader hbody hslot hroot hh hn hkey htag)
  case verify =>
    intro s k ofs size h recs hcand hbody hver hslot hh hrecs hsig hgood
    refine congrArg (done s) ((State.sigVerify_of_good hcand hbody hver hslot hh hrecs hsig).trans ?_)
    rw [find?_bad_eq_none (fun r hr => (hgood r hr).1), find?_critical_eq_none (fun r hr => (hgood r hr).2)]
    rfl
  case apply =>
    intro s htest hver hstate
    refine ⟨_, congrArg (done s) (State.applyBegin_of_verified htest hver hstate), ?_,
      Kept.passOn s (Kept.p s R.CFG_STS.STATE cfgApply)⟩
    rw [g_passOn _ _ (by decide)]
    exact State.g_p_same s R.CFG_STS.STATE cfgApply (by decide)
  case commit => exact fun s hstate hnew hmdio => congrArg (done s) (State.commitLoad_of_due hstate hnew hmdio)
  case forward =>
    intro s k hcand hstate hcomm
    obtain ⟨hpins, hloader⟩ := State.forwardOn_of_committed hcand hstate hcomm
    refine ⟨_, rfl, (passOn_pins s _).trans hpins, ?_⟩
    rw [passOn_loader, hloader]
    exact ⟨rfl, rfl, rfl⟩
  case reload =>
    intro s req hstate hadm hidle
    have hcmd := Kept.putCmd s R.CFG_CMD 1 statBusy
    have hk := hcmd.trans (Kept.p (s.putCmd R.CFG_CMD 1 statBusy) R.CFG_STS.STATE cfgStage)
    have hexec := exec_cfgReload s req
    rw [State.portWrite_reload hstate hadm hidle] at hexec
    refine ⟨_, hexec, ?_, ?_, ?_, hk.passOn_respond_modLoader s _ req false 0 rfl⟩
    · rw [g_passOn _ _ (by decide)]
      exact State.g_p_same (s.putCmd R.CFG_CMD 1 statBusy) R.CFG_STS.STATE cfgStage (by decide)
    · rw [State.stat, g_passOn _ _ (by decide)]
      refine (State.g_p_ne (s.putCmd R.CFG_CMD 1 statBusy) R.CFG_STS.STATE ⟨R.CFG_CMD, 30, 2⟩ cfgStage (by decide)).trans ?_
      exact State.stat_putCmd (a := R.CFG_CMD) s rfl (by decide) 1 (by decide)
    · rw [passOn_loader]
      exact congrArg (Loader.reloading · s.tick) (hcmd.loader_eq)
  case floor =>
    intro s req e hunl _
    rw [exec_floorRaise, State.portWrite_floor hunl]
  case floorDone =>
    intro s e hfusing
    have hk := (Kept.p { s with vault := { s.vault with cfgEpoch := e }, loader := { s.loader with fusing := none } } R.CFG_FLOOR.FUSING
      0).trans (Kept.ev _ R.CFG_EVT.FLOOR_DONE)
    refine ⟨_, congrArg (done s) (State.cfgFloorDone_of_fusing hfusing), passOn_vault s _, passOn_loader s _, ?_, ?_, ?_⟩
    · rw [g_passOn _ _ (by decide)]
      exact (State.g_p_ne _ _ _ _ (by decide)).trans (State.g_p_same _ R.CFG_FLOOR.FUSING 0 (by decide))
    · rw [g_passOn _ _ (by decide)]
      exact State.g_ev_same _ R.CFG_EVT.FLOOR_DONE (by decide) (by decide)
    · rw [passOn_vault, passOn_loader]
      exact hk.passOn s

end

section
/-! SUPPORT. The registers of the ports and the operations on a port's own state, an MDIO master's, and counters: what each leaves
(R51, R78-R107). -/

namespace Sys2Proof.Machine

/-! ### Registers of the MAC region -/

theorem passRegs_outside_mac : ∀ a ∈ passRegs, a < 0x400000 ∨ 0x800000 ≤ a := by decide

/-- The register of port `p` that stands at `j` for port 0 is none that passing events on may change. -/
theorem portReg_pass {j p : Nat} (hlo : 0x400000 ≤ j) (hhi : j < 0x404000) (hp : p < 24) : j + 0x4000 * p ∉ passRegs := by
  intro h
  have := passRegs_outside_mac _ h
  omega

/-- Nor is the upper word of such a counter. -/
theorem portReg_hi_pass {j p : Nat} (hlo : 0x400000 ≤ j) (hhi : j < 0x404000) (hp : p < 24) : j + 0x4000 * p + 4 ∉ passRegs := by
  intro h
  have := passRegs_outside_mac _ h
  omega

/-- Two registers of one port are apart. -/
theorem portReg_ne {j k : Nat} (p : Nat) (h : j ≠ k) : j + 0x4000 * p ≠ k + 0x4000 * p := by omega

theorem portReg_hi_ne {j k : Nat} (p : Nat) (h : j + 4 ≠ k) : j + 0x4000 * p + 4 ≠ k + 0x4000 * p := by omega

/-- A register of a port is neither word of one of its counters. -/
theorem portReg_off_counter {j k : Nat} (p : Nat) (h : j ≠ k) (h4 : j ≠ k + 4) :
    j + 0x4000 * p ∉ [k + 0x4000 * p, k + 0x4000 * p + 4] := by
  simp only [List.mem_cons, List.not_mem_nil, or_false]
  omega

theorem portReg_hi_off_counter {j k : Nat} (p : Nat) (h : j + 4 ≠ k) (h4 : j ≠ k) :
    j + 0x4000 * p + 4 ∉ [k + 0x4000 * p, k + 0x4000 * p + 4] := by
  simp only [List.mem_cons, List.not_mem_nil, or_false]
  omega

/-- A field of a port reads after events have been passed on as before. -/
theorem g_passOn_port (s0 s : State) {l : Loc} {j p : Nat} (hp : p < 24) (hl : l.addr = j + 0x4000 * p) (hlo : 0x400000 ≤ j)
    (hhi : j < 0x404000) : (State.passOn s0 s).g l = s.g l :=
  g_passOn s0 s (hl ▸ portReg_pass hlo hhi hp)

theorem rd64_passOn_port (s0 s : State) {a j p : Nat} (hp : p < 24) (ha : a = j + 0x4000 * p) (hlo : 0x400000 ≤ j)
    (hhi : j < 0x404000) : (State.passOn s0 s).rd64 a = s.rd64 a := by
  subst ha
  exact rd64_passOn s0 s (portReg_pass hlo hhi hp) (portReg_hi_pass hlo hhi hp)

/-! ### Fields -/

/-- A field lies within its word. -/
def Loc.fits (l : Loc) : Bool := decide (l.lo + l.wd ≤ 32)

/-- The bits of two fields are apart. -/
def Loc.apart (l m : Loc) : Bool := decide (l.lo + l.wd ≤ m.lo) || decide (m.lo + m.wd ≤ l.lo)

theorem State.g_p_fits (s : State) {l : Loc} (v : Nat) (h : l.fits = true) : (s.p l v).g l = v % 2 ^ l.wd :=
  State.g_p_same s l v (of_decide_eq_true h)

theorem State.g_p_apart (s : State) (l : Loc) {m : Loc} (v : Nat) (h : m.fits = true) (hd : l.apart m = true) :
    (s.p l v).g m = s.g m :=
  State.g_p_disj s l m v (of_decide_eq_true h) (by simpa [Loc.apart] using hd)

/-! ### One-bit fields -/

theorem bit_eq_testBit (v n : Nat) : bit v n = v.testBit n := by
  rw [bit, Nat.testBit_eq_decide_div_mod_eq]
  rfl

theorem State.on_eq_bit (s : State) (a n : Nat) : s.on ⟨a, n, 1⟩ = bit (s.rd a).toNat n := by
  have h : ∀ x : Nat, (x % 2 ^ 1 != 0) = (x % 2 == 1) := by
    intro x
    rcases Nat.mod_two_eq_zero_or_one x with hx | hx <;> simp [hx]
  exact h _

theorem bit_or_top (v : Word) : bit (v ||| 0x80000000).toNat 31 = true := by
  have h : (0x80000000 : Word).getLsbD 31 = true := rfl
  simp only [bit_eq_testBit, BitVec.testBit_toNat, BitVec.getLsbD_or, h, Bool.or_true]

theorem bit_and_rest (v : Word) : bit (v &&& 0x7FFFFFFF).toNat 31 = false := by
  have h : (0x7FFFFFFF : Word).getLsbD 31 = false := rfl
  simp only [bit_eq_testBit, BitVec.testBit_toNat, BitVec.getLsbD_and, h, Bool.and_false]

theorem bit_setBit_same (v n : Nat) (b : Bool) : bit (setBit v n b) n = b := by
  have hpos : 0 < 2 ^ n := Nat.two_pow_pos n
  unfold setBit
  split
  · assumption
  · next hne =>
    cases b with
    | true =>
      have hv : v / 2 ^ n % 2 = 0 := by simpa [bit] using hne
      simp [bit, Nat.add_div_right _ hpos, Nat.add_mod, hv]
    | false =>
      have hv : v / 2 ^ n % 2 = 1 := by simpa [bit] using hne
      have hle : 2 ^ n ≤ v := by
        by_contra hlt
        rw [Nat.div_eq_of_lt (by omega)] at hv
        omega
      have hsub : (v - 2 ^ n) / 2 ^ n = v / 2 ^ n - 1 := by simpa using Nat.sub_mul_div_of_le v (2 ^ n) 1 (by simpa using hle)
      simp [bit, hsub]
      omega

/-! ### Frames read back -/

theorem Kept.rd_eq {s t : State} {l : List Nat} (h : Kept s t l) {a : Nat} (ha : a ∉ l) (hp : a ∉ passRegs) : t.rd a = s.rd a :=
  h.1 a ha hp

theorem Kept.g_eq {s t : State} {l : List Nat} (h : Kept s t l) {x : Loc} (ha : x.addr ∉ l) (hp : x.addr ∉ passRegs) :
    t.g x = s.g x := by
  simp only [State.g, h.rd_eq ha hp]

theorem Kept.saving_eq {s t : State} {l : List Nat} (h : Kept s t l) (hl : R.PWR_SUP_STS.SAVE.addr ∉ l) : t.saving = s.saving := by
  simp only [State.saving, h.g_eq hl (by decide)]

theorem Kept.port_eq {s t : State} {l : List Nat} (h : Kept s t l) (p : Nat) : t.port p = s.port p := by
  rw [State.port, State.port, h.2.2]

theorem Kept.sw_eq {s t : State} {l : List Nat} (h : Kept s t l) : t.sw = s.sw := by rw [h.2.2]

theorem Kept.store (s : State) (a : Nat) (v : Word) : Kept s (s.store a v) [a] := by
  unfold State.store
  split
  · exact Kept.wr s a _
  · exact Kept.refl s _

theorem Kept.pb (s : State) (l : Loc) (b : Bool) : Kept s (s.pb l b) [l.addr] := Kept.p s l _

/-! ### Counters (R51) -/

theorem Kept.bumpBy (s : State) (a n : Nat) : Kept s (s.bumpBy a n) [a, a + 4] := by
  unfold State.bumpBy
  split
  · exact Kept.yield8 s _
  · exact Kept.wr64 s a _

theorem State.rd64_bumpBy (s : State) (a n : Nat) (h : s.saving = false) : (s.bumpBy a n).rd64 a = (s.rd64 a + n) % 2 ^ 64 := by
  simp only [State.bumpBy, h, Bool.false_and, Bool.false_eq_true, if_false, State.count, State.rd64_wr64_same]

theorem Kept.rd64_eq {s t : State} {l : List Nat} (h : Kept s t l) {a : Nat} (ha : a ∉ l) (ha4 : a + 4 ∉ l) (hp : a ∉ passRegs)
    (hp4 : a + 4 ∉ passRegs) : t.rd64 a = s.rd64 a := by
  simp only [State.rd64, h.rd_eq ha hp, h.rd_eq ha4 hp4]

theorem State.rd64_p_ne (s : State) (l : Loc) (v : Nat) {a : Nat} (h : a ≠ l.addr) (h' : a + 4 ≠ l.addr) :
    (s.p l v).rd64 a = s.rd64 a := by
  simp only [State.rd64, State.rd_p_ne s l v h, State.rd_p_ne s l v h']

/-! ### The port's own state -/

@[simp] theorem State.g_modPort (s : State) (p : Nat) (l : Loc) (f : Port → Port) : (s.modPort p f).g l = s.g l := rfl
@[simp] theorem State.rd64_modPort (s : State) (p a : Nat) (f : Port → Port) : (s.modPort p f).rd64 a = s.rd64 a := rfl
@[simp] theorem State.port_p (s : State) (l : Loc) (v p : Nat) : (s.p l v).port p = s.port p := rfl
@[simp] theorem State.port_ev (s : State) (l : Loc) (p : Nat) : (s.ev l).port p = s.port p := rfl
@[simp] theorem State.port_store (s : State) (a : Nat) (v : Word) (p : Nat) : (s.store a v).port p = s.port p :=
  (Kept.store s a v).port_eq p
@[simp] theorem State.port_bump (s : State) (a p : Nat) : (s.bump a).port p = s.port p := (Kept.bump s a).port_eq p

@[simp] theorem State.port_modPort_same (s : State) (p : Nat) (f : Port → Port) : (s.modPort p f).port p = f (s.port p) :=
  Tab.get_set_same _ _ _ _

theorem State.port_modPort_ne (s : State) {p q : Nat} (f : Port → Port) (h : q ≠ p) : (s.modPort p f).port q = s.port q :=
  Tab.get_set_ne _ _ _ h

@[simp] theorem port_passOn (s0 s : State) (p : Nat) : (State.passOn s0 s).port p = s.port p := by
  rw [State.port, passOn_ports, State.port]

/-- From `s` to `t` nothing changes but the ports' own state, the registers of `l`, and what passing events on may change. -/
abbrev PortKept (s t : State) (l : List Nat) : Prop := Kept { s with ports := t.ports } t l

theorem PortKept.of_kept {s t : State} {l : List Nat} (h : Kept s t l) : PortKept s t l := by
  obtain ⟨hreg, hq, hrest⟩ := h
  exact ⟨hreg, hq, by rw [hrest]⟩

theorem PortKept.trans {s t u : State} {l m : List Nat} (h : PortKept s t l) (k : PortKept t u m) : PortKept s u (l ++ m) := by
  have h' : Kept { s with ports := u.ports } { t with ports := u.ports } l := by
    obtain ⟨hreg, hq, hrest⟩ := h
    exact ⟨hreg, hq, by rw [hrest]⟩
  exact Kept.trans h' k

theorem PortKept.mono {s t : State} {l m : List Nat} (h : PortKept s t l) (hl : ∀ a ∈ l, a ∈ m) : PortKept s t m :=
  Kept.mono h (fun a ha => .inl (hl a ha))

theorem PortKept.modPort (s : State) (p : Nat) (f : Port → Port) : PortKept s (s.modPort p f) [] :=
  Kept.refl (s.modPort p f) []

theorem PortKept.passOn {s u : State} {l : List Nat} (s0 : State) (h : PortKept s u l) : PortKept s (State.passOn s0 u) l := by
  unfold PortKept
  rw [passOn_ports]
  exact Kept.passOn s0 h

/-- A command that changes one port's state alone leaves the other ports, and everything else but what passing events on may change. -/
theorem exists_passOn_modPort (s : State) (p : Nat) (f : Port → Port) :
    ∃ t, done s (s.modPort p f) = .next t ∧ t.port p = f (s.port p) ∧ (∀ q, q ≠ p → t.port q = s.port q) ∧ PortKept s t [] :=
  ⟨_, rfl, by simp, fun q hq => by rw [port_passOn, State.port_modPort_ne s f hq], (PortKept.modPort s p f).passOn s⟩

/-! ### An MDIO master's own state -/

@[simp] theorem State.g_modMdio (s : State) (m : Nat) (l : Loc) (f : Mdio → Mdio) : (s.modMdio m f).g l = s.g l := rfl

@[simp] theorem State.mdioM_modMdio_same (s : State) (m : Nat) (f : Mdio → Mdio) : (s.modMdio m f).mdioM m = f (s.mdioM m) :=
  Tab.get_set_same _ _ _ _

theorem State.mdioM_modMdio_ne (s : State) {m k : Nat} (f : Mdio → Mdio) (h : k ≠ m) : (s.modMdio m f).mdioM k = s.mdioM k :=
  Tab.get_set_ne _ _ _ h

@[simp] theorem mdioM_passOn (s0 s : State) (m : Nat) : (State.passOn s0 s).mdioM m = s.mdioM m := by
  rw [State.mdioM, passOn_mdio, State.mdioM]

/-- A frame of registers becomes, with a master's own state changed as well, one that excepts the masters. -/
theorem Kept.passOn_modMdio {s u : State} {l : List Nat} (s0 : State) (h : Kept s u l) (m : Nat) (f : Mdio → Mdio) :
    Kept { s with mdio := (State.passOn s0 (u.modMdio m f)).mdio } (State.passOn s0 (u.modMdio m f)) l := by
  obtain ⟨hreg, hq, hrest⟩ := h
  rw [passOn_mdio]
  refine Kept.passOn s0 ⟨hreg, hq, ?_⟩
  simp only [State.modMdio]
  rw [hrest]

/-! ### The settling of ended transmissions (R82) -/

/-- A change of ports that ends no transmission lets no port go DISABLED. -/
theorem State.txSettle_of_txCut {s t : State} (h : ∀ p, (t.port p).txCut = (s.port p).txCut) : t.txSettle s = t :=
  State.portsClose_of_sending s t 24 (fun p hp => by rw [h p]; exact hp)

theorem State.txCut_modPort (s : State) (p : Nat) {f : Port → Port} (hf : (f (s.port p)).txCut = (s.port p).txCut) (q : Nat) :
    ((s.modPort p f).port q).txCut = (s.port q).txCut := by
  by_cases hq : q = p
  · subst hq
    rw [State.port_modPort_same, hf]
  · rw [State.port_modPort_ne s f hq]

end Sys2Proof.Machine
end

section
/-! SUPPORT. What enables, disables, locks and polls a port, and what an MDIO master does (R78-R85, R509). -/

namespace Sys2Proof.Machine

/-! ### Registers of a port that a write sets -/

/-- A field of RW bits reads what was written to it. -/
theorem State.g_store {s : State} {l : Loc} {v : Word} {r : Row} (hrow : rowOf l.addr = some r)
    (hrw : ∀ i, i < l.wd → (W (r.rw ||| r.rwg)).getLsbD (l.lo + i) = true) :
    (s.store l.addr v).g l = fieldOf v l.lo l.wd := by
  unfold State.g State.store
  simp only [hrow, State.wrBits, State.rd_wr_same]
  exact fieldOf_merge _ _ _ _ _ hrw

theorem rowOf_macCfg {p : Nat} (hp : p < 24) : ∃ r, rowOf (R.MAC_CFG p) = some r ∧ r.rw ||| r.rwg = 0x8fefc000 := by
  interval_cases p <;> exact ⟨_, rfl, rfl⟩

/-- SPEED and FEC read what a write of MAC_CFG gave them. -/
theorem State.speed_store (s : State) {p : Nat} (hp : p < 24) (v : Word) :
    (s.store (R.MAC_CFG p) v).g (R.MAC_CFG.SPEED p) = fieldOf v (R.MAC_CFG.SPEED p).lo (R.MAC_CFG.SPEED p).wd := by
  obtain ⟨r, hrow, hrw⟩ := rowOf_macCfg hp
  refine State.g_store (l := R.MAC_CFG.SPEED p) hrow ?_
  rw [hrw]
  exact (by decide : ∀ i, i < 4 → (W 0x8fefc000).getLsbD (24 + i) = true)

theorem State.fec_store (s : State) {p : Nat} (hp : p < 24) (v : Word) :
    (s.store (R.MAC_CFG p) v).g (R.MAC_CFG.FEC p) = fieldOf v (R.MAC_CFG.FEC p).lo (R.MAC_CFG.FEC p).wd := by
  obtain ⟨r, hrow, hrw⟩ := rowOf_macCfg hp
  refine State.g_store (l := R.MAC_CFG.FEC p) hrow ?_
  rw [hrw]
  exact (by decide : ∀ i, i < 2 → (W 0x8fefc000).getLsbD (22 + i) = true)

/-! ### MAC_CFG.EN (R80, R82, R508) -/

theorem exec_macEnable {s : State} {req p : Nat} {v : Word} (hp : p < 24) (hadm : Admitted s req (R.MAC_CFG p) (v ||| 0x80000000)) :
    exec (.macEnable req p v) s = done s (s.macCfgWrite req p (v ||| 0x80000000)) := by
  show execMacEnable req p v s = _
  rw [execMacEnable, Nat.mod_eq_of_lt hp, State.byPort_admitted s _ _ _ _ hadm]

theorem exec_macDisable {s : State} {req p : Nat} {v : Word} (hp : p < 24) (hadm : Admitted s req (R.MAC_CFG p) (v &&& 0x7FFFFFFF)) :
    exec (.macDisable req p v) s = done s (s.macCfgWrite req p (v &&& 0x7FFFFFFF)) := by
  show execMacDisable req p v s = _
  rw [execMacDisable, Nat.mod_eq_of_lt hp, State.byPort_admitted s _ _ _ _ hadm]

/-- A write that sets EN enables the port, unless the loader holds the enable until COMMIT. -/
theorem State.macCfgWrite_rise {s : State} {req p : Nat} {v : Word} (hen : s.on (R.MAC_CFG.EN p) = false)
    (hset : bit v.toNat 31 = true) (hdef : s.deferred req = false) :
    s.macCfgWrite req p v = ((s.store (R.MAC_CFG p) v).macEnable p).txSettle s := by
  have hwas : bit (s.rd (R.MAC_CFG p)).toNat 31 = false := (s.on_eq_bit (R.MAC_CFG p) 31).symm.trans hen
  have hact : s.enAct req (R.MAC_CFG p) 31 v = .rise := by
    unfold State.enAct
    simp [hwas, hset, hdef]
  rw [State.macCfgWrite, hact]
  rfl

/-- A write that clears EN disables the port that it had enabled. -/
theorem State.macCfgWrite_fall {s : State} {req p : Nat} {v : Word} (hen : s.enOn (R.MAC_CFG.EN p) = true)
    (hclr : bit v.toNat 31 = false) :
    s.macCfgWrite req p v = ((s.store (R.MAC_CFG p) v).macDisable p).txSettle s := by
  obtain ⟨hon, hstored⟩ := Bool.and_eq_true_iff.mp hen
  have hwas : bit (s.rd (R.MAC_CFG p)).toNat 31 = true := (s.on_eq_bit (R.MAC_CFG p) 31).symm.trans hon
  have hnot : s.loader.stored.contains (R.MAC_CFG p, 31) = false := (Bool.not_eq_true' _).mp hstored
  have hact : s.enAct req (R.MAC_CFG p) 31 v = .fall := by
    unfold State.enAct
    rw [hwas, hclr, hnot]
    rfl
  rw [State.macCfgWrite, hact]
  rfl

/-- A port without a frame in transmission is enabled at once with a SPEED and FEC of its class (R78, R80). -/
theorem State.macEnable_of_ok {s : State} {p : Nat} (hclosing : (s.port p).closing = false)
    (hok : speedOk p (s.g (R.MAC_CFG.SPEED p)) (s.g (R.MAC_CFG.FEC p)) = true) :
    s.macEnable p = (s.p (R.MAC_STS.RATE p) (s.g (R.MAC_CFG.SPEED p))).modPort p
      (fun q => { q with st := .down, trained := false, speed := s.g (R.MAC_CFG.SPEED p), fec := s.g (R.MAC_CFG.FEC p) }) := by
  unfold State.macEnable State.macStart
  simp only [hclosing, hok, Bool.false_eq_true, if_false, if_true]

/-- What MAC_STS of a port shows once it is DISABLED (R82). -/
def State.stsOff (s : State) (p : Nat) : State :=
  (((s.p (R.MAC_STS.LINK p) 0).p (R.MAC_STS.PCS_LOCK p) 0).p (R.MAC_STS.RATE p) 0).p (R.MAC_STS.CFG_ERR p) 0

theorem Kept.stsOff (s : State) (p : Nat) : Kept s (s.stsOff p) [R.MAC_STS p] :=
  ((((Kept.p s (R.MAC_STS.LINK p) 0).trans (Kept.p _ (R.MAC_STS.PCS_LOCK p) 0)).trans (Kept.p _ (R.MAC_STS.RATE p) 0)).trans
    (Kept.p _ (R.MAC_STS.CFG_ERR p) 0)).mono (fun a ha => .inl (by simpa [R.MAC_STS.LINK, R.MAC_STS.PCS_LOCK, R.MAC_STS.RATE,
      R.MAC_STS.CFG_ERR] using ha))

theorem State.g_stsOff (s : State) (p : Nat) :
    (s.stsOff p).g (R.MAC_STS.LINK p) = 0 ∧ (s.stsOff p).g (R.MAC_STS.PCS_LOCK p) = 0 ∧ (s.stsOff p).g (R.MAC_STS.RATE p) = 0 ∧
      (s.stsOff p).g (R.MAC_STS.CFG_ERR p) = 0 := by
  unfold State.stsOff
  refine ⟨?_, ?_, ?_, State.g_p_fits _ 0 rfl⟩
  · rw [State.g_p_apart _ _ 0 rfl rfl, State.g_p_apart _ _ 0 rfl rfl, State.g_p_apart _ _ 0 rfl rfl]
    exact State.g_p_fits _ 0 rfl
  · rw [State.g_p_apart _ _ 0 rfl rfl, State.g_p_apart _ _ 0 rfl rfl]
    exact State.g_p_fits _ 0 rfl
  · rw [State.g_p_apart _ _ 0 rfl rfl]
    exact State.g_p_fits _ 0 rfl

/-- A port that is not UP goes DISABLED at once (R82). -/
theorem State.macDisable_of_down {s : State} {p : Nat} (hclosing : (s.port p).closing = false) (hdown : (s.port p).st ≠ .up) :
    s.macDisable p = (s.stsOff p).modPort p (fun q => { q with st := .disabled, trained := false, closing := false, again := none }) := by
  have hup : s.portUp p = false := beq_eq_false_iff_ne.mpr hdown
  unfold State.macDisable State.portOff
  simp only [hclosing, hup, Bool.false_and, Bool.false_eq_true, if_false]
  rfl

/-! ### The lane and the PCS (R81, R509) -/

/-- A port that is not UP loses PCS lock and LINK; nothing leaves UP. -/
theorem State.pcsLoss_of_down {s : State} {p : Nat} (hlock : s.g (R.MAC_STS.PCS_LOCK p) = 1) (hdown : (s.port p).st ≠ .up) :
    s.pcsLoss p = ((s.p (R.MAC_STS.PCS_LOCK p) 0).ev (R.MAC_EVT.PCS_LOSS p)).pb (R.MAC_STS.LINK p) false := by
  have hon : s.on (R.MAC_STS.PCS_LOCK p) = true := by simp [State.on, hlock]
  have hoff : ((s.p (R.MAC_STS.PCS_LOCK p) 0).ev (R.MAC_EVT.PCS_LOSS p)).on (R.MAC_STS.PCS_LOCK p) = false := by
    rw [State.on, State.ev, State.g_p_ne _ _ _ _ (portReg_ne p (by decide)), State.g_p_fits _ 0 rfl]
    rfl
  unfold State.pcsLoss State.linkEval
  simp only [hon, if_true, hoff, Bool.false_and, State.port_ev, State.port_p]
  cases hst : (s.port p).st with
  | disabled => rfl
  | down => rfl
  | up => exact absurd hst hdown

/-! ### The MDIO masters (R48, R83-R85) -/

theorem rowOf_mdioCmd {m : Nat} (hm : m < 2) :
    ∃ r, rowOf (R.MAC_MDIO_CMD m) = some r ∧ ∀ i, i < 2 → (W r.cmd).getLsbD (30 + i) = true := by
  interval_cases m <;> exact ⟨_, rfl, by decide⟩

/-- The access that a write of MAC_MDIO_CMD asks for, the register MAC_MDIO_RD standing as in `s` (R83). -/
def State.mdioAcc (s : State) (m : Nat) (val : Word) : MdioAcc :=
  { cl45 := bit val.toNat 27, write := fieldOf val 28 2 == 1, prt := fieldOf val 22 5,
    dev := if bit val.toNat 27 then fieldOf val 17 5 else 0,
    reg := if bit val.toNat 27 then s.g (R.MAC_MDIO_RD.ADDR m) else fieldOf val 17 5, data := fieldOf val 0 16 }

/-- What arrives at a master is done to its state, whether or not an access is in progress, but for which access that is. -/
theorem State.mdioWork_eq (s : State) (m : Nat) (f : Mdio → Mdio) :
    ∃ g : Mdio → Mdio, s.mdioWork m f = s.modMdio m g ∧ ∀ d, (g d).cmd = (f d).cmd := by
  unfold State.mdioWork
  refine ⟨_, rfl, fun d => ?_⟩
  split <;> rfl

/-- A command for a read or a write at an idle MAC_MDIO_CMD goes busy to its master. -/
theorem exec_mdioCommand {s : State} {req m : Nat} {val : Word} (hm : m < 2) (hadm : Admitted s req (R.MAC_MDIO_CMD m) val)
    (hidle : s.stat (R.MAC_MDIO_CMD m) ≠ statBusy) (hop : fieldOf val 28 2 = 1 ∨ fieldOf val 28 2 = 2) :
    ∃ t, done s (s.mdioCommand req m val) = .next t ∧ t.stat (R.MAC_MDIO_CMD m) = statBusy ∧
      (∃ u : State, (t.mdioM m).cmd = some (u.mdioAcc m val)) ∧ Kept { s with mdio := t.mdio } t [R.MAC_MDIO_CMD m] := by
  obtain ⟨r, hrow, hcmd⟩ := rowOf_mdioCmd hm
  have hok : (fieldOf val 28 2 == 1 || fieldOf val 28 2 == 2) = true := by simpa using hop
  obtain ⟨g, hwork, hg⟩ := (s.putCmd (R.MAC_MDIO_CMD m) val statBusy).mdioWork_eq m
    (fun d => { d with cmd := some ((s.putCmd (R.MAC_MDIO_CMD m) val statBusy).mdioAcc m val) })
  have heff : s.mdioCommand req m val = (s.putCmd (R.MAC_MDIO_CMD m) val statBusy).modMdio m g := by
    rw [State.mdioCommand, State.byPort_admitted s _ _ _ _ hadm, State.mdioAct, hok, State.command_accepted hidle, ← hwork]
    rfl
  have hpass : R.MAC_MDIO_CMD m ∉ passRegs := (by decide : ∀ k, k < 2 → R.MAC_MDIO_CMD k ∉ passRegs) m hm
  rw [heff]
  refine ⟨_, rfl, ?_, ⟨s.putCmd (R.MAC_MDIO_CMD m) val statBusy, ?_⟩, (Kept.putCmd s _ _ _).passOn_modMdio s m g⟩
  · rw [State.stat, g_passOn _ _ hpass]
    exact State.stat_putCmd s hrow hcmd val (by decide)
  · rw [mdioM_passOn, State.mdioM_modMdio_same, hg]

/-- The end of a command's access: a read's data is shown (R84). -/
theorem State.mdioDone_read {s : State} {m data : Nat} {a : MdioAcc} (hstart : (s.mdioM m).started = true)
    (hwriting : (s.mdioM m).writing = false) (hcmd : (s.mdioM m).cmd = some a) (hread : a.write = false) :
    s.mdioDone m data = ((s.p (R.MAC_MDIO_RD.DATA m) data).setStat (R.MAC_MDIO_CMD m) statDone).modMdio m
      (fun x => { x with cmd := none, last := some a }.next) := by
  unfold State.mdioDone
  simp only [hstart, hwriting, hcmd, hread, Bool.not_true, Bool.false_eq_true, if_false]

/-- A poll that completes shows in PHY_UP and in the two latest polls, and LINK follows (R81, R85). -/
theorem State.pollDone_of_polling {s : State} {m p : Nat} (data : Nat) (hpoll : s.polling m = true) (hnow : s.pollNow m = some p) :
    ∃ u : State, s.pollDone m data = u.linkEval p ∧
      u.g (R.MAC_STS.PHY_UP p) = (if data % 65536 ≠ 0xFFFF ∧ bit data (s.g (R.MAC_PHY.BIT p)) then 1 else 0) ∧
      (u.port p).poll1 = decide (data % 65536 ≠ 0xFFFF ∧ bit data (s.g (R.MAC_PHY.BIT p))) ∧ (u.port p).poll2 = (s.port p).poll1 := by
  have hgood : (data % 65536 != 0xFFFF && bit data (s.g (R.MAC_PHY.BIT p))) =
      decide (data % 65536 ≠ 0xFFFF ∧ bit data (s.g (R.MAC_PHY.BIT p))) := by
    rw [Bool.eq_iff_iff]
    simp
  unfold State.pollDone
  simp only [hpoll, hnow]
  rw [hgood]
  have hport := State.port_modPort_same (s.pb (R.MAC_STS.PHY_UP p) (decide (data % 65536 ≠ 0xFFFF ∧ bit data (s.g (R.MAC_PHY.BIT p)))))
    p (fun q => { q with poll1 := decide (data % 65536 ≠ 0xFFFF ∧ bit data (s.g (R.MAC_PHY.BIT p))), poll2 := q.poll1 })
  refine ⟨_, rfl, ?_, congrArg Port.poll1 hport, congrArg Port.poll2 hport⟩
  refine (State.g_p_fits s _ rfl).trans ?_
  by_cases h : data % 65536 ≠ 0xFFFF ∧ bit data (s.g (R.MAC_PHY.BIT p)) <;> simp [h, R.MAC_STS.PHY_UP]

end Sys2Proof.Machine

open Sys2Proof Sys2Proof.Machine

/-- Settles O20: a write of EN that its port admits enables or disables, and ends no transmission where the port sends none; the
rows of lane, PCS and MDIO are each the meaning of one function. -/
theorem portAndMdioCommands : Obligations.PortAndMdioCommands := by
  unfold Obligations.PortAndMdioCommands
  refine ⟨?enable, ?disable, ?trained, ?gain, ?loss, ?write, ?read, ?complete, ?poll, ?gap⟩
  case enable =>
    intro s req p v hp hadm hen hclosing hdef hok
    have hstore := Kept.store s (R.MAC_CFG p) (v ||| 0x80000000)
    have hstart := State.macEnable_of_ok (s := s.store (R.MAC_CFG p) (v ||| 0x80000000)) (p := p) (by rwa [State.port_store])
      (by rwa [State.speed_store s hp, State.fec_store s hp])
    rw [State.speed_store s hp, State.fec_store s hp] at hstart
    rw [exec_macEnable hp hadm, State.macCfgWrite_rise hen (bit_or_top v) hdef, hstart, State.txSettle_of_txCut (fun q =>
      (State.txCut_modPort _ p (by rfl) q).trans (by rw [State.port_p, State.port_store]))]
    refine ⟨_, rfl, ?_, ?_, ?_, fun q hq => ?_, ?_⟩
    · rw [port_passOn, State.port_modPort_same]
    · rw [port_passOn, State.port_modPort_same]
    · rw [g_passOn_port _ _ hp rfl (by decide) (by decide), State.g_modPort, State.g_p_fits _ _ rfl]
      exact Nat.mod_mod _ _
    · rw [port_passOn, State.port_modPort_ne _ _ hq, State.port_p, State.port_store]
    · exact ((PortKept.of_kept (hstore.trans (Kept.p _ _ _))).trans (PortKept.modPort _ p _)).passOn s
  case disable =>
    intro s req p v hp hadm hen hclosing hdown
    have hkept := (Kept.store s (R.MAC_CFG p) (v &&& 0x7FFFFFFF)).trans (Kept.stsOff _ p)
    have hoff := State.g_stsOff (s.store (R.MAC_CFG p) (v &&& 0x7FFFFFFF)) p
    rw [exec_macDisable hp hadm, State.macCfgWrite_fall hen (bit_and_rest v), State.macDisable_of_down (by rwa [State.port_store])
      (by rwa [State.port_store]), State.txSettle_of_txCut (fun q => (State.txCut_modPort _ p (by rfl) q).trans (by rw [hkept.port_eq]))]
    obtain ⟨hlink, hpcs, hrate, herr⟩ := hoff
    refine ⟨_, rfl, ?_, ?_, ?_, ?_, ?_, fun q hq => ?_, ?_⟩
    · rw [port_passOn, State.port_modPort_same]
    · rw [g_passOn_port _ _ hp rfl (by decide) (by decide), State.g_modPort, hlink]
    · rw [g_passOn_port _ _ hp rfl (by decide) (by decide), State.g_modPort, hpcs]
    · rw [g_passOn_port _ _ hp rfl (by decide) (by decide), State.g_modPort, hrate]
    · rw [g_passOn_port _ _ hp rfl (by decide) (by decide), State.g_modPort, herr]
    · rw [port_passOn, State.port_modPort_ne _ _ hq, hkept.port_eq]
    · exact ((PortKept.of_kept hkept).trans (PortKept.modPort _ p _)).passOn s
  case trained =>
    intro s p hp hst
    have hexec : exec (.laneTrained p) s = done s (s.modPort p (fun q => { q with trained := true })) := by
      show done s (s.trained (p % 24)) = _
      rw [Nat.mod_eq_of_lt hp, State.trained, if_neg hst]
    obtain ⟨t, ht, hport, hothers, hkept⟩ := exists_passOn_modPort s p (fun q => { q with trained := true })
    exact ⟨t, hexec.trans ht, by rw [hport], hothers, hkept⟩
  case gain =>
    intro s p hp htrained
    show done s (s.pcsGain (p % 24)) = _
    rw [Nat.mod_eq_of_lt hp, State.pcsGain, if_pos htrained]
    rfl
  case loss =>
    intro s p hp hlock hdown
    have hexec : exec (.pcsLockLoss p) s = done s (s.pcsLoss p) := congrArg (fun k => done s (s.pcsLoss k)) (Nat.mod_eq_of_lt hp)
    rw [hexec, State.pcsLoss_of_down hlock hdown]
    refine ⟨_, rfl, ?_, ?_, ?_, ?_⟩
    · rw [g_passOn_port _ _ hp rfl (by decide) (by decide), State.pb, State.g_p_apart _ _ _ rfl rfl, State.ev,
        State.g_p_ne _ _ _ _ (portReg_ne p (by decide))]
      exact State.g_p_fits s 0 rfl
    · rw [g_passOn_port _ _ hp rfl (by decide) (by decide)]
      exact State.g_p_fits _ 0 rfl
    · rw [g_passOn_port _ _ hp rfl (by decide) (by decide), State.pb, State.g_p_ne _ _ _ _ (portReg_ne p (by decide))]
      exact State.g_p_fits _ 1 rfl
    · exact (((Kept.p s (R.MAC_STS.PCS_LOCK p) 0).trans (Kept.ev _ (R.MAC_EVT.PCS_LOSS p))).trans
        (Kept.pb _ (R.MAC_STS.LINK p) false)).mono (fun a ha => .inl (by
          simp only [R.MAC_STS.PCS_LOCK, R.MAC_EVT.PCS_LOSS, R.MAC_STS.LINK, List.mem_append, List.mem_singleton] at ha
          simp only [List.mem_cons, List.not_mem_nil, or_false]
          tauto)) |>.passOn s
  case write =>
    intro s req m v hm hadm hidle
    have hexec : exec (.mdioWrite req m v) s = done s (s.mdioCommand req m (withField v 28 2 1)) :=
      congrArg (fun k => done s (s.mdioCommand req k (withField v 28 2 1))) (Nat.mod_eq_of_lt hm)
    have hop : fieldOf (withField v 28 2 1) 28 2 = 1 := fieldOf_withField_same v 28 2 1 (by decide)
    obtain ⟨t, ht, hstat, ⟨u, hcmd⟩, hkept⟩ := exec_mdioCommand hm hadm hidle (.inl hop)
    refine ⟨t, hexec.trans ht, hstat, ?_, hkept⟩
    rw [hcmd]
    simp [State.mdioAcc, hop]
  case read =>
    intro s req m v hm hadm hidle
    have hexec : exec (.mdioRead req m v) s = done s (s.mdioCommand req m (withField v 28 2 2)) :=
      congrArg (fun k => done s (s.mdioCommand req k (withField v 28 2 2))) (Nat.mod_eq_of_lt hm)
    have hop : fieldOf (withField v 28 2 2) 28 2 = 2 := fieldOf_withField_same v 28 2 2 (by decide)
    obtain ⟨t, ht, hstat, ⟨u, hcmd⟩, hkept⟩ := exec_mdioCommand hm hadm hidle (.inr hop)
    refine ⟨t, hexec.trans ht, hstat, ?_, hkept⟩
    rw [hcmd]
    simp [State.mdioAcc, hop]
  case complete =>
    intro s m data a hm hstart hwriting hcmd hread
    have hexec : exec (.mdioCommandComplete m data) s = done s (s.mdioDone m data) :=
      congrArg (fun k => done s (s.mdioDone k data)) (Nat.mod_eq_of_lt hm)
    have hpass : R.MAC_MDIO_CMD m ∉ passRegs ∧ R.MAC_MDIO_RD m ∉ passRegs :=
      (by decide : ∀ k, k < 2 → R.MAC_MDIO_CMD k ∉ passRegs ∧ R.MAC_MDIO_RD k ∉ passRegs) m hm
    have hapart : R.MAC_MDIO_RD m ≠ R.MAC_MDIO_CMD m := (by decide : ∀ k, k < 2 → R.MAC_MDIO_RD k ≠ R.MAC_MDIO_CMD k) m hm
    rw [hexec, State.mdioDone_read hstart hwriting hcmd hread]
    refine ⟨_, rfl, ?_, ?_, ?_, ?_, ((Kept.p s (R.MAC_MDIO_RD.DATA m) data).trans
      (Kept.p _ ⟨R.MAC_MDIO_CMD m, 30, 2⟩ statDone)).passOn_modMdio s m _⟩
    · rw [g_passOn _ _ hpass.2, State.g_modMdio, State.setStat, State.g_p_ne _ _ _ _ hapart, State.g_p_fits _ _ rfl]
      rfl
    · rw [State.stat, g_passOn _ _ hpass.1, State.g_modMdio, State.setStat, State.g_p_fits _ _ rfl]
      rfl
    · rw [mdioM_passOn, State.mdioM_modMdio_same]
      rfl
    · rw [mdioM_passOn, State.mdioM_modMdio_same]
      rfl
  case poll =>
    intro s m p data hm hpoll hnow
    obtain ⟨u, hdone, hphy, hpoll1, hpoll2⟩ := State.pollDone_of_polling data hpoll hnow
    refine ⟨u, ?_, hphy, hpoll1, hpoll2⟩
    show done s (s.pollDone (m % 2) data) = _
    rw [Nat.mod_eq_of_lt hm, hdone]
    rfl
  case gap =>
    intro s m hm
    have hexec : exec (.mdioRoundGapExpiry m) s = done s (s.modMdio m (fun d => { d with gap := false })) :=
      congrArg (fun k => done s (s.modMdio k (fun d => { d with gap := false }))) (Nat.mod_eq_of_lt hm)
    refine ⟨_, hexec, ?_, ?_, (Kept.refl s []).passOn_modMdio s m _⟩
    · rw [mdioM_passOn, State.mdioM_modMdio_same]
    · exact fun k hk => by rw [mdioM_passOn, State.mdioM_modMdio_ne s _ hk]

end

section
/-! SUPPORT. What MAC merge and flow control do at a port that is UP (R86, R95-R101), and what comes of a frame that is not looked
up (R108). -/

namespace Sys2Proof.Machine

/-! ### Bytes of a frame that is not looked up (R86, R108) -/

theorem State.maxFrame_ge (s : State) (p : Nat) : 64 ≤ s.maxFrame p := by
  unfold State.maxFrame clampNat
  split
  · exact Nat.le_refl 64
  · split <;> omega

/-- Below 64 bytes, and while forwarding is not enabled, no frame is looked up. -/
theorem State.rxLook_none {s : State} {p : Nat} {r : RxOpen} (body : List Byte) (h : r.bytes.length < 64 ∨ s.pins.forwarding = false) :
    s.rxLook p r body = (s, r) := by
  unfold State.rxLook
  rcases h with h | h <;> simp [h]

/-- A frame without a lookup result is not admitted. -/
theorem State.rxAdmit_none {s : State} {p : Nat} {r : RxOpen} (body : List Byte) (h : r.found = none) : s.rxAdmit p r body = (s, r) := by
  unfold State.rxAdmit
  simp only [h]

/-- What has come of such a frame acts on nothing. -/
theorem State.rxTake_none {s : State} {p : Nat} {r : RxOpen} (body : List Byte) (h : r.bytes.length < 64 ∨ s.pins.forwarding = false)
    (hfound : r.found = none) (hframe : r.frame = none) : s.rxTake p r body = (s, r) := by
  unfold State.rxTake
  simp only [State.rxLook_none body h, State.rxAdmit_none body hfound, ite_self, hframe]

theorem State.rxPart_none {s : State} {p : Nat} {r : RxOpen} (h : r.bytes.length < 64 ∨ s.pins.forwarding = false)
    (hfound : r.found = none) (hframe : r.frame = none) : s.rxPart p r = (s, r) := by
  have htake : (r.bytes.take r.max).length < 64 ∨ s.pins.forwarding = false := by
    rcases h with h | h
    · left
      rw [List.length_take]
      omega
    · exact .inr h
  have hnone : s.rxTake p { r with bytes := r.bytes.take r.max } (r.bytes.take r.max) = (s, { r with bytes := r.bytes.take r.max }) :=
    State.rxTake_none _ htake hfound hframe
  unfold State.rxPart
  simp only [hnone]
  cases r
  cases hframe
  rfl

/-! ### MAC merge (R95, R96) -/

theorem State.g_setVstate (s : State) (p : Nat) {v : Nat} (hv : v < 16) : (s.setVstate p v).g (R.MAC_MM_STS.VSTATE p) = v :=
  (State.g_p_fits s v rfl).trans (Nat.mod_eq_of_lt hv)

/-- EN set without VERIFY_DIS at a port that is UP: the first verify is sent. -/
theorem State.mmCfgWrite_rise {s : State} {p : Nat} {v : Word} (hen : s.on (R.MAC_MM_CFG.EN p) = false) (hset : bit v.toNat 31 = true)
    (hver : bit v.toNat 30 = false) (hup : s.portUp p = true) :
    s.mmCfgWrite p v = (((((s.store (R.MAC_MM_CFG p) v).modPort p (fun q => { q with verDis := false })).setVstate p mmInitial).setVstate p
      mmVerifying).modPort p (fun q => { q with attempt := 1, verifySent := q.verifySent + 1 })) := by
  have hinit : ∀ t : State, (t.setVstate p mmInitial).vstate p = mmInitial := fun t => t.g_setVstate p (by decide)
  have hport : (((s.store (R.MAC_MM_CFG p) v).modPort p (fun q => { q with verDis := false })).setVstate p mmInitial).portUp p = true := by
    rw [State.portUp, State.setVstate, State.port_p, State.port_modPort_same, State.port_store]
    exact hup
  unfold State.mmCfgWrite
  simp only [hen, hset, hver, Bool.not_false, Bool.and_true, if_true, Bool.false_eq_true, if_false]
  rw [State.mmStart, if_pos ⟨hinit _, hport⟩]

theorem State.mmTimeout_last {s : State} {p : Nat} (hv : s.vstate p = mmVerifying) (hlast : 3 ≤ (s.port p).attempt) :
    s.mmTimeout p = (s.setVstate p mmFailed).ev (R.MAC_EVT.MM_FAILED p) := by
  simp [State.mmTimeout, hv, hlast]

theorem State.mmTimeout_again {s : State} {p : Nat} (hv : s.vstate p = mmVerifying) (hmore : (s.port p).attempt < 3) :
    s.mmTimeout p = s.modPort p (fun q => { q with attempt := q.attempt + 1, verifySent := q.verifySent + 1 }) := by
  simp [State.mmTimeout, hv, Nat.not_le.mpr hmore]

section
variable {s : State} {p : Nat} (hup : s.portUp p = true) (hen : s.on (R.MAC_MM_CFG.EN p) = true)
include hup hen

theorem State.mmRespond_verifying (hv : s.vstate p = mmVerifying) :
    s.mmRespond p = (s.setVstate p mmSucceeded).ev (R.MAC_EVT.MM_VERIFIED p) := by
  simp [State.mmRespond, hup, hen, hv]

theorem State.mmVerify_enabled : s.mmVerify p = s.modPort p (fun q => { q with respondSent := q.respondSent + 1 }) := by
  simp [State.mmVerify, hup, hen]

/-- A first fragment of a frame that goes on stands in assembly. -/
theorem State.mmFragment_start {n : Nat} {b : List Byte} (hasm : (s.port p).asm = none) (hlen : 60 ≤ b.length)
    (hlook : b.length < 64 ∨ s.pins.forwarding = false) :
    s.mmFragment p false false n b true false = s.modPort p (fun q => { q with asm := some ⟨s.rxOpen p b, n % 4⟩ }) := by
  have hdrop : s.mmDiscard p = s := by
    unfold State.mmDiscard
    simp only [hasm]
  have hpart : s.rxPart p (s.rxOpen p b) = (s, s.rxOpen p b) := State.rxPart_none hlook rfl rfl
  unfold State.mmFragment
  simp only [hup, hen, hdrop, Bool.not_true, Bool.not_false, Bool.or_self, Bool.false_eq_true, if_false, if_true, Nat.not_lt.mpr hlen,
    State.mmJoin, hpart]

end

/-! ### Flow control (R99-R101) -/

theorem State.pauseRx_taken {s : State} {p t : Nat} (hmode : s.fcMode p = 1) (hrx : s.on (R.MAC_FC_CFG.RX_EN p) = true) :
    s.pauseRx p t = (((s.bump (R.MAC_RX_PAUSE_LO p)).ev (R.MAC_EVT.PAUSE_RX p)).pb (R.MAC_STS.TX_PAUSED p) (t != 0)).modPort p
      (fun q => { q with pause := t }) := by
  simp [State.pauseRx, hmode, hrx]

theorem State.pauseEnds_port (s : State) (p : Nat) :
    s.pauseEnds p none = (s.p (R.MAC_STS.TX_PAUSED p) 0).modPort p (fun q => { q with pause := 0 }) := rfl

theorem State.pauseEnds_class (s : State) (p : Nat) {k : Nat} (hk : k < 8) :
    s.pauseEnds p (some k) = (s.p (R.MAC_STS.PFC_PAUSED p) (setBit (s.g (R.MAC_STS.PFC_PAUSED p)) k false)).modPort p
      (fun q => { q with pfc := q.pfc.del k }) := by
  simp only [State.pauseEnds, Nat.mod_eq_of_lt hk]

/-- A PFC that names class 0 alone. -/
theorem State.pfcRx_class0 {s : State} {p q : Nat} (hmode : s.fcMode p = 2) (hrx : s.on (R.MAC_FC_CFG.RX_EN p) = true)
    (hign : bit (s.g (R.MAC_FC_CFG.PFC_IGN p)) 0 = false) {u : State}
    (hu : u = (s.bump (R.MAC_RX_PFC_LO p)).ev (R.MAC_EVT.PAUSE_RX p)) :
    s.pfcRx p 1 [q] = (u.p (R.MAC_STS.PFC_PAUSED p) (setBit (u.g (R.MAC_STS.PFC_PAUSED p)) 0 (q != 0))).modPort p
      (fun r => { r with pfc := r.pfc.set (fun _ => 0) 0 q }) := by
  have hact : (bitsOf 8 1).filter (fun c => !bit (s.g (R.MAC_FC_CFG.PFC_IGN p)) c) = [0] := by
    rw [show bitsOf 8 1 = [0] from rfl, List.filter_cons_of_pos (by simp [hign]), List.filter_nil]
  unfold State.pfcRx
  simp only [hmode, hrx, hact, bne_self_eq_false, Bool.not_true, Bool.or_self, Bool.false_eq_true, if_false, List.isEmpty_cons]
  rw [hu]
  rfl

/-- Under PAUSE with TX_EN the threshold that stands is signalled again. -/
theorem State.refresh_pause {s : State} {p : Nat} (hsent : (s.port p).xoffSent ≠ 0) (hmode : s.fcMode p = 1)
    (htx : s.on (R.MAC_FC_CFG.TX_EN p) = true) (hq : s.g (R.MAC_FC_TIME.QUANTA p) ≠ 0) (hup : s.portUp p = true) :
    s.refresh p = (s.bump (R.MAC_TX_PAUSE_LO p)).modPort p
      (fun t => { t with sent := pauseFrame (s.macSa p) (s.g (R.MAC_FC_TIME.QUANTA p)) }) := by
  simp [State.refresh, State.sendFc, hsent, hmode, htx, hq, hup]

/-- A field of 8 bits holds a mask with one of its bits set or cleared. -/
theorem bit_setBit_mod (v : Nat) {k : Nat} (b : Bool) (hk : k < 8) : bit (setBit v k b % 2 ^ 8) k = b := by
  rw [bit_eq_testBit, Nat.testBit_mod_two_pow, ← bit_eq_testBit, bit_setBit_same]
  simp [hk]

end Sys2Proof.Machine

open Sys2Proof Sys2Proof.Machine

/-- Settles O22: each row is the one branch of its meaning that the state selects, and that branch changes the port's own state, its
status, its events and at most one counter. -/
theorem mergeAndFlowControl : Obligations.MergeAndFlowControl := by
  unfold Obligations.MergeAndFlowControl
  refine ⟨?enable, ?failed, ?again, ?respond, ?verify, ?fragment, ?pause, ?pfc, ?pauseEnd, ?classEnd, ?refresh⟩
  case enable =>
    intro s req p v hp hadm hen hver hup
    have hexec : exec (.mmEnable req p v) s = done s ((s.mmCfgWrite p (v ||| 0x80000000)).txSettle s) := by
      show execMmEnable req p v s = _
      rw [execMmEnable, Nat.mod_eq_of_lt hp, State.byPort_admitted s _ _ _ _ hadm]
    have hsts := (Kept.p ((s.store (R.MAC_MM_CFG p) (v ||| 0x80000000)).modPort p (fun q => { q with verDis := false }))
      (R.MAC_MM_STS.VSTATE p) mmInitial).trans (Kept.p _ (R.MAC_MM_STS.VSTATE p) mmVerifying)
    have hkept := (((PortKept.of_kept (Kept.store s (R.MAC_MM_CFG p) (v ||| 0x80000000))).trans (PortKept.modPort _ p
      (fun q => { q with verDis := false }))).trans (PortKept.of_kept hsts)).trans (PortKept.modPort _ p
        (fun q => { q with attempt := 1, verifySent := q.verifySent + 1 }))
    rw [hexec, State.mmCfgWrite_rise hen (bit_or_top v) hver hup, State.txSettle_of_txCut ?_]
    · refine ⟨_, rfl, ?_, ?_, ?_, fun q hq => ?_, ?_⟩
      · rw [g_passOn_port _ _ hp rfl (by decide) (by decide), State.g_modPort, State.g_setVstate _ p (by decide)]
      · rw [port_passOn, State.port_modPort_same]
      · simp [State.setVstate]
      · simp [State.setVstate, State.port_modPort_ne _ _ hq]
      · exact (hkept.mono (fun a ha => by simpa [R.MAC_MM_STS.VSTATE] using ha)).passOn s
    · intro q
      rw [State.txCut_modPort _ p (by rfl), State.setVstate, State.setVstate, State.port_p, State.port_p,
        State.txCut_modPort _ p (by rfl), State.port_store]
  case failed =>
    intro s p hp hv hlast
    have hexec : exec (.mmVerifyTimeout p) s = done s (s.mmTimeout p) := congrArg (fun k => done s (s.mmTimeout k)) (Nat.mod_eq_of_lt hp)
    rw [hexec, State.mmTimeout_last hv hlast]
    refine ⟨_, rfl, ?_, ?_, ((Kept.p s (R.MAC_MM_STS.VSTATE p) mmFailed).trans (Kept.ev _ (R.MAC_EVT.MM_FAILED p))).passOn s⟩
    · rw [g_passOn_port _ _ hp rfl (by decide) (by decide), State.ev, State.g_p_ne _ _ _ _ (portReg_ne p (by decide)),
        State.g_setVstate s p (by decide)]
    · rw [g_passOn_port _ _ hp rfl (by decide) (by decide)]
      exact State.g_p_fits _ 1 rfl
  case again =>
    intro s p hp hv hmore
    have hexec : exec (.mmVerifyTimeout p) s = done s (s.mmTimeout p) := congrArg (fun k => done s (s.mmTimeout k)) (Nat.mod_eq_of_lt hp)
    rw [hexec, State.mmTimeout_again hv hmore]
    obtain ⟨t, ht, hport, -, hkept⟩ :=
      exists_passOn_modPort s p (fun q => { q with attempt := q.attempt + 1, verifySent := q.verifySent + 1 })
    exact ⟨t, ht, by rw [hport], by rw [hport], hkept⟩
  case respond =>
    intro s p hp hup hen hv
    have hexec : exec (.mmRespondReceived p) s = done s (s.mmRespond p) := congrArg (fun k => done s (s.mmRespond k)) (Nat.mod_eq_of_lt hp)
    rw [hexec, State.mmRespond_verifying hup hen hv]
    refine ⟨_, rfl, ?_, ?_, ((Kept.p s (R.MAC_MM_STS.VSTATE p) mmSucceeded).trans (Kept.ev _ (R.MAC_EVT.MM_VERIFIED p))).passOn s⟩
    · rw [g_passOn_port _ _ hp rfl (by decide) (by decide), State.ev, State.g_p_ne _ _ _ _ (portReg_ne p (by decide)),
        State.g_setVstate s p (by decide)]
    · rw [g_passOn_port _ _ hp rfl (by decide) (by decide)]
      exact State.g_p_fits _ 1 rfl
  case verify =>
    intro s p hp hup hen
    have hexec : exec (.mmVerifyReceived p) s = done s (s.mmVerify p) := congrArg (fun k => done s (s.mmVerify k)) (Nat.mod_eq_of_lt hp)
    rw [hexec, State.mmVerify_enabled hup hen]
    obtain ⟨t, ht, hport, -, hkept⟩ := exists_passOn_modPort s p (fun q => { q with respondSent := q.respondSent + 1 })
    exact ⟨t, ht, by rw [hport], hkept⟩
  case fragment =>
    intro s p n b hp hup hen hasm hlen hlook
    have hexec : exec (.mmFragmentReceived p false false n b true false) s =
        done s ((s.mmFragment p false false n b true false).txSettle s) :=
      congrArg (fun k => done s ((s.mmFragment k false false n b true false).txSettle s)) (Nat.mod_eq_of_lt hp)
    rw [hexec, State.mmFragment_start hup hen hasm hlen hlook, State.txSettle_of_txCut (State.txCut_modPort s p (by rfl))]
    obtain ⟨t, ht, hport, hothers, hkept⟩ := exists_passOn_modPort s p (fun q => { q with asm := some ⟨s.rxOpen p b, n % 4⟩ })
    exact ⟨t, ht, by rw [hport], hothers, hkept⟩
  case pause =>
    intro s p q hp hq hup hmode hrx hsave
    have hexec : exec (.pauseReceived p q) s = done s (s.pauseRx p q) := by
      show execPauseReceived p q s = _
      rw [execPauseReceived, Nat.mod_eq_of_lt hp, Nat.mod_eq_of_lt hq, if_pos hup]
    rw [hexec, State.pauseRx_taken hmode hrx]
    refine ⟨_, rfl, ?_, ?_, ?_, ?_, ?_⟩
    · rw [port_passOn, State.port_modPort_same]
    · rw [State.on, g_passOn_port _ _ hp rfl (by decide) (by decide), State.g_modPort, State.pb, State.g_p_fits _ _ rfl]
      by_cases h : q = 0 <;> simp [h, R.MAC_STS.TX_PAUSED]
    · rw [rd64_passOn_port (a := R.MAC_RX_PAUSE_LO p) _ _ hp rfl (by decide) (by decide), State.rd64_modPort,
        State.pb, State.rd64_p_ne _ _ _ (portReg_ne p (by decide)) (portReg_hi_ne p (by decide)),
        State.rd64_ev_ne _ _ (portReg_ne p (by decide)) (portReg_hi_ne p (by decide)), State.rd64_bump s _ hsave]
    · rw [g_passOn_port _ _ hp rfl (by decide) (by decide), State.g_modPort, State.pb, State.g_p_ne _ _ _ _ (portReg_ne p (by decide))]
      exact State.g_p_fits _ 1 rfl
    · exact ((PortKept.of_kept (((Kept.bump s _).trans (Kept.ev _ (R.MAC_EVT.PAUSE_RX p))).trans
        (Kept.pb _ (R.MAC_STS.TX_PAUSED p) _))).trans (PortKept.modPort _ p _)).passOn s
  case pfc =>
    intro s p q hp hq hq0 hup hmode hrx hign hsave
    have hexec : exec (.pfcReceived p 1 [q]) s = done s (s.pfcRx p 1 [q]) := by
      show execPfcReceived p 1 [q] s = _
      rw [execPfcReceived, Nat.mod_eq_of_lt hp, if_pos hup, List.map_singleton, Nat.mod_eq_of_lt hq]
    rw [hexec, State.pfcRx_class0 hmode hrx hign rfl, bne_iff_ne.mpr hq0]
    refine ⟨_, rfl, ?_, ?_, ?_, ?_⟩
    · rw [port_passOn, State.port_modPort_same]
      exact Tab.get_set_same _ _ _ _
    · rw [g_passOn_port _ _ hp rfl (by decide) (by decide), State.g_modPort, State.g_p_fits _ _ rfl]
      exact bit_setBit_mod _ true (by decide)
    · rw [rd64_passOn_port (a := R.MAC_RX_PFC_LO p) _ _ hp rfl (by decide) (by decide), State.rd64_modPort,
        State.rd64_p_ne _ _ _ (portReg_ne p (by decide)) (portReg_hi_ne p (by decide)),
        State.rd64_ev_ne _ _ (portReg_ne p (by decide)) (portReg_hi_ne p (by decide)), State.rd64_bump s _ hsave]
    · exact ((PortKept.of_kept (((Kept.bump s _).trans (Kept.ev _ (R.MAC_EVT.PAUSE_RX p))).trans
        (Kept.p _ (R.MAC_STS.PFC_PAUSED p) _))).trans (PortKept.modPort _ p _)).passOn s
  case pauseEnd =>
    intro s p hp
    have hexec : exec (.pauseTimerExpiry p none) s = done s (s.pauseEnds p none) :=
      congrArg (fun k => done s (s.pauseEnds k none)) (Nat.mod_eq_of_lt hp)
    rw [hexec, State.pauseEnds_port]
    refine ⟨_, rfl, ?_, ?_, ((PortKept.of_kept (Kept.p s (R.MAC_STS.TX_PAUSED p) 0)).trans (PortKept.modPort _ p _)).passOn s⟩
    · rw [port_passOn, State.port_modPort_same]
    · rw [g_passOn_port _ _ hp rfl (by decide) (by decide), State.g_modPort, State.g_p_fits _ _ rfl, Nat.zero_mod]
  case classEnd =>
    intro s p k hp hk
    have hexec : exec (.pauseTimerExpiry p (some k)) s = done s (s.pauseEnds p (some k)) :=
      congrArg (fun q => done s (s.pauseEnds q (some k))) (Nat.mod_eq_of_lt hp)
    rw [hexec, State.pauseEnds_class s p hk]
    refine ⟨_, rfl, ?_, ?_, ((PortKept.of_kept (Kept.p s (R.MAC_STS.PFC_PAUSED p) _)).trans (PortKept.modPort _ p _)).passOn s⟩
    · rw [port_passOn, State.port_modPort_same, Tab.get, Tab.find?_del_same]
    · rw [g_passOn_port _ _ hp rfl (by decide) (by decide), State.g_modPort, State.g_p_fits _ _ rfl]
      exact bit_setBit_mod _ false hk
  case refresh =>
    intro s p hp hsent hmode htx hq hup hsave
    have hexec : exec (.pauseRefresh p) s = done s (s.refresh p) := congrArg (fun k => done s (s.refresh k)) (Nat.mod_eq_of_lt hp)
    rw [hexec, State.refresh_pause hsent hmode htx hq hup]
    refine ⟨_, rfl, ?_, ?_, ((PortKept.of_kept (Kept.bump s _)).trans (PortKept.modPort _ p _)).passOn s⟩
    · rw [port_passOn, State.port_modPort_same]
    · rw [rd64_passOn_port (a := R.MAC_TX_PAUSE_LO p) _ _ hp rfl (by decide) (by decide), State.rd64_modPort,
        State.rd64_bump s _ hsave]

end

section
/-! SUPPORT. The reception of a whole frame at a port that is UP: its lookup, its admission and its end (R86-R91, R107, R108, R142). -/

namespace Sys2Proof.Machine

/-! ### The frame's way to its end -/

/-- A frame that comes whole, the first of it not received before, is at its end. -/
theorem exec_frameReceive_whole {s : State} {p : Nat} {b : List Byte} (hp : p < 24) (hup : s.portUp p = true) (hrx : s.rx p = none) :
    exec (.frameReceive p b false false) s = done s (((s.setRx p none).rxEnd p (s.rxOpen p b) false).txSettle s) := by
  show done s ((s.receive p b false false).txSettle s) = _
  unfold State.receive
  simp only [hup, hrx, Nat.not_le.mpr hp, decide_false, Bool.not_true, Bool.or_self, Bool.false_eq_true, if_false]

@[simp] theorem State.rd64_setRx (s : State) (p a : Nat) (r : Option RxOpen) : (s.setRx p r).rd64 a = s.rd64 a := rfl
@[simp] theorem State.frames_setRx (s : State) (p : Nat) (r : Option RxOpen) : (s.setRx p r).sw.frames = s.sw.frames := rfl

/-- A frame of registers, after what a port has received has changed, excepts the Carcass. -/
theorem Kept.passOn_setRx {s u : State} {l : List Nat} (s0 : State) (p : Nat) (r : Option RxOpen) (h : Kept (s.setRx p r) u l) :
    Kept { s with sw := (State.passOn s0 u).sw } (State.passOn s0 u) l := by
  rw [passOn_sw, h.sw_eq]
  exact Kept.passOn s0 h

/-- The end of a frame without a PCS error that is not too long, by what its bytes have done until then (R86). -/
theorem State.rxEnd_fits {s s1 : State} {p : Nat} {r r1 : RxOpen} (hmax : r.bytes.length ≤ r.max)
    (htake : s.rxTake p r (r.bytes.take (r.bytes.length - 4)) = (s1, r1)) (hbytes : r1.bytes = r.bytes) :
    s.rxEnd p r false = if r.bytes.length < 64 then s1.rxError p r1 (R.MAC_RUNT_LO p) 2 r.bytes
      else if !fcsGood r.bytes then s1.rxError p r1 (R.MAC_FCS_ERR_LO p) 1 r.bytes
      else if isControl r.bytes then s1.controlRx p r.bytes
      else s1.rxGood p r1 (r.bytes.take (r.bytes.length - 4)) := by
  have hall : r.bytes.take r.max = r.bytes := List.take_of_length_le hmax
  have hsame : ({ r1 with bytes := r.bytes } : RxOpen) = r1 := by rw [← hbytes]
  unfold State.rxEnd
  simp only [hall, htake, hsame, Nat.not_lt.mpr hmax, Bool.false_eq_true, if_false]

/-- A runt is counted and dropped where errored frames are not delivered. -/
theorem State.rxError_undelivered {s : State} {p ctr status : Nat} {r : RxOpen} {b : List Byte} (hframe : r.frame = none)
    (hdel : ((s.bump ctr).ev (R.MAC_EVT.RX_ERR p)).on (R.MAC_CFG.ERR_DEL p) = false) :
    s.rxError p r ctr status b = (s.bump ctr).ev (R.MAC_EVT.RX_ERR p) := by
  have herr : ((s.bump ctr).ev (R.MAC_EVT.RX_ERR p)).errDeliver p r status b = (s.bump ctr).ev (R.MAC_EVT.RX_ERR p) := by
    unfold State.errDeliver
    simp only [hdel, Bool.not_false, if_true]
  unfold State.rxError
  simp only [hframe, herr, ite_self]

/-! ### A good frame (R86, R107, R142) -/

/-- The counters of a good frame that is not a group's. -/
def State.rxCounted (s : State) (p n : Nat) : State := (s.bump (R.MAC_RX_FRAMES_LO p)).bumpBy (R.MAC_RX_OCTETS_LO p) n

theorem Kept.rxCounted (s : State) (p n : Nat) : Kept s (s.rxCounted p n)
    [R.MAC_RX_FRAMES_LO p, R.MAC_RX_FRAMES_LO p + 4, R.MAC_RX_OCTETS_LO p, R.MAC_RX_OCTETS_LO p + 4] :=
  (Kept.bump s _).trans (Kept.bumpBy _ _ _)

/-- Both counters of a good frame advance. -/
theorem State.rd64_rxCounted {s : State} {p : Nat} (n : Nat) (hp : p < 24) (hsave : s.saving = false) :
    (s.rxCounted p n).rd64 (R.MAC_RX_FRAMES_LO p) = (s.rd64 (R.MAC_RX_FRAMES_LO p) + 1) % 2 ^ 64 ∧
      (s.rxCounted p n).rd64 (R.MAC_RX_OCTETS_LO p) = (s.rd64 (R.MAC_RX_OCTETS_LO p) + n) % 2 ^ 64 := by
  have hframes := Kept.bump s (R.MAC_RX_FRAMES_LO p)
  have hoctets := Kept.bumpBy (s.bump (R.MAC_RX_FRAMES_LO p)) (R.MAC_RX_OCTETS_LO p) n
  have hsave' : (s.bump (R.MAC_RX_FRAMES_LO p)).saving = false := by
    rw [hframes.saving_eq, hsave]
    simp only [List.mem_cons, List.not_mem_nil, or_false, R.MAC_RX_FRAMES_LO, R.PWR_SUP_STS.SAVE, R.PWR_SUP_STS]
    omega
  have keeps {t u : State} {j k : Nat} (h : Kept t u [k + 0x4000 * p, k + 0x4000 * p + 4]) (hj : 0x400000 ≤ j ∧ j < 0x404000)
      (hne : j ≠ k ∧ j ≠ k + 4 ∧ j + 4 ≠ k) : u.rd64 (j + 0x4000 * p) = t.rd64 (j + 0x4000 * p) :=
    h.rd64_eq (portReg_off_counter p hne.1 hne.2.1) (portReg_hi_off_counter p hne.2.2 hne.1) (portReg_pass hj.1 hj.2 hp)
      (portReg_hi_pass hj.1 hj.2 hp)
  exact ⟨(keeps hoctets (by decide) (by decide)).trans (State.rd64_bump s _ hsave),
    (State.rd64_bumpBy _ _ _ hsave').trans (congrArg (fun x => (x + n) % 2 ^ 64) (keeps hframes (by decide) (by decide)))⟩

/-- A frame to another address than that of the gPTP messages is not the time engine's. -/
theorem State.isGptp_other (s : State) (p : Nat) {b : List Byte} (hda : frameDa b ≠ [0x01, 0x80, 0xC2, 0x00, 0x00, 0x0E]) :
    s.isGptp p b = false := by
  unfold State.isGptp
  rw [beq_eq_false_iff_ne.mpr hda, Bool.and_false, Bool.false_and]

/-- The learn request of a lookup, if one is due. -/
def State.learnDue (s : State) (l : Option Frame) : State := match l with | some f => s.learnRequest f | none => s

/-- What becomes of the frame that was admitted, if it was: MAXSDU is checked once more, and its cells are settled. -/
def State.rxSettled (s : State) (frame : Option Nat) (len : Nat) (body : List Byte) : State :=
  match frame with | some id => (s.sduCheck id len).ingressEnd id body | none => s

theorem State.rxGood_unicast {s : State} {p : Nat} {r : RxOpen} (body : List Byte) (hgroup : isGroup (frameDa r.bytes) = false)
    (hda : frameDa r.bytes ≠ [0x01, 0x80, 0xC2, 0x00, 0x00, 0x0E]) {a : State × RxOpen}
    (ha : ((s.rxCounted p r.bytes.length).learnDue r.learn).rxAdmit p r body = a) :
    s.rxGood p r body = a.1.rxSettled a.2.frame r.bytes.length body := by
  unfold State.rxGood
  simp only [hgroup, Bool.false_eq_true, if_false]
  rw [State.isGptp_other _ p hda, Bool.and_false, if_neg Bool.false_ne_true]
  subst ha
  rfl

section
variable {s : State} {p : Nat} {r : RxOpen} {body : List Byte}

/-- From its 64th byte on, a frame that may be forwarded is classified, once (R108). -/
theorem State.rxLook_new (hlooked : r.looked = false) (hlen : 64 ≤ r.bytes.length) (hctl : isControl r.bytes = false)
    (hda : frameDa r.bytes ≠ [0x01, 0x80, 0xC2, 0x00, 0x00, 0x0E]) (hfwd : s.pins.forwarding = true)
    {g : State × Option Frame × Option Frame} (hg : g = s.classify p 0 (r.asFrame p body)) :
    s.rxLook p r body = (g.1, { r with looked := true, found := g.2.1, learn := g.2.2 }) := by
  subst hg
  unfold State.rxLook
  simp [hlooked, Nat.not_lt.mpr hlen, hctl, State.isGptp_other s p hda, hfwd]

theorem State.rxAdmit_found {f : Frame} (hfound : r.found = some f) {a : State × Option Nat}
    (ha : a = s.admitFrame p (cellsFor r.max) { f with bytes := body, size := body.length + 4 }) :
    s.rxAdmit p r body = (a.1, { r with found := none, frame := a.2 }) := by
  subst ha
  unfold State.rxAdmit
  simp only [hfound]

/-- Below 128 bytes the lookup is all that a frame's bytes do. -/
theorem State.rxTake_short {s1 : State} {r1 : RxOpen} (hlook : s.rxLook p r body = (s1, r1)) (hlen : r.bytes.length < 128)
    (hframe : r1.frame = none) : s.rxTake p r body = (s1, r1) := by
  unfold State.rxTake
  simp only [hlook, Nat.not_le.mpr hlen, if_false, hframe]

/-- From 128 bytes on its first cell is formed, and the frame is admitted (R142). -/
theorem State.rxTake_long {s1 s2 : State} {r1 r2 : RxOpen} {id : Nat} (hlook : s.rxLook p r body = (s1, r1)) (hlen : 128 ≤ r.bytes.length)
    (hadm : s1.rxAdmit p r1 body = (s2, r2)) (hframe : r2.frame = some id) :
    s.rxTake p r body = (s2.sduCheck id r.bytes.length, r2) := by
  unfold State.rxTake
  simp only [hlook, hlen, if_true, hadm, hframe]

/-- A good frame to one station: what its end does, from what its bytes have done. -/
theorem State.rxEnd_unicast {s1 : State} {r1 : RxOpen} {a : State × RxOpen} (hmin : 64 ≤ r.bytes.length)
    (hmax : r.bytes.length ≤ r.max) (hfcs : fcsGood r.bytes = true) (hctl : isControl r.bytes = false)
    (hda : frameDa r.bytes ≠ [0x01, 0x80, 0xC2, 0x00, 0x00, 0x0E]) (hgroup : isGroup (frameDa r.bytes) = false)
    (hbody : body = r.bytes.take (r.bytes.length - 4))
    (htake : s.rxTake p r body = (s1, r1)) (hbytes : r1.bytes = r.bytes)
    (ha : ((s1.rxCounted p r.bytes.length).learnDue r1.learn).rxAdmit p r1 body = a) :
    s.rxEnd p r false = a.1.rxSettled a.2.frame r.bytes.length body := by
  subst hbody
  rw [State.rxEnd_fits hmax htake hbytes, if_neg (Nat.not_lt.mpr hmin), hfcs, hctl, Bool.not_true, if_neg Bool.false_ne_true,
    if_neg Bool.false_ne_true]
  rw [← hbytes] at hgroup hda ha ⊢
  exact State.rxGood_unicast _ hgroup hda ha

end

end Sys2Proof.Machine

open Sys2Proof Sys2Proof.Machine

/-- Settles O21: a frame that comes whole is taken, then ended; its bytes look it up from the 64th on and have it admitted from the 128th on
(log 21), and its end does what they have not done. -/
theorem frameReception : Obligations.FrameReception := by
  unfold Obligations.FrameReception
  refine ⟨?runt, ?fec, ?counted, ?short, ?long⟩
  case runt =>
    intro s p b hp hup hrx hlen hne hdel hsave
    have hmax : b.length ≤ s.maxFrame p := by
      have := s.maxFrame_ge p
      omega
    have htake : (s.setRx p none).rxTake p (s.rxOpen p b) (b.take (b.length - 4)) = (s.setRx p none, s.rxOpen p b) :=
      State.rxTake_none _ (.inl hlen) rfl rfl
    have hquiet : (((s.setRx p none).bump (R.MAC_RUNT_LO p)).ev (R.MAC_EVT.RX_ERR p)).on (R.MAC_CFG.ERR_DEL p) = false := by
      rw [← hdel, State.on, State.ev, State.g_p_ne _ _ _ _ (portReg_ne p (by decide)),
        (Kept.bump (s.setRx p none) (R.MAC_RUNT_LO p)).g_eq (x := R.MAC_CFG.ERR_DEL p)
          (portReg_off_counter p (by decide) (by decide)) (portReg_pass (by decide) (by decide) hp)]
      rfl
    have hend : (s.setRx p none).rxEnd p (s.rxOpen p b) false = ((s.setRx p none).bump (R.MAC_RUNT_LO p)).ev (R.MAC_EVT.RX_ERR p) :=
      (State.rxEnd_fits (r := s.rxOpen p b) hmax htake rfl).trans ((if_pos hlen).trans (State.rxError_undelivered rfl hquiet))
    have hkept := (Kept.bump (s.setRx p none) (R.MAC_RUNT_LO p)).trans (Kept.ev _ (R.MAC_EVT.RX_ERR p))
    rw [exec_frameReceive_whole hp hup hrx, hend, State.txSettle_of_ports s _ (by rw [hkept.2.2]; rfl)]
    refine ⟨_, rfl, ?_, ?_, ?_, hkept.passOn_setRx s p none⟩
    · rw [rd64_passOn_port (a := R.MAC_RUNT_LO p) _ _ hp rfl (by decide) (by decide),
        State.rd64_ev_ne _ _ (portReg_ne p (by decide)) (portReg_hi_ne p (by decide)), State.rd64_bump (s.setRx p none) _ hsave,
        State.rd64_setRx]
    · rw [g_passOn_port _ _ hp rfl (by decide) (by decide)]
      exact State.g_p_fits _ 1 rfl
    · rw [passOn_sw, hkept.sw_eq, State.frames_setRx]
  case fec =>
    intro s p hp hst hfec hsave
    have hexec : exec (.fecBlockReceived p false) s = done s ((s.bump (R.MAC_FEC_UNCORR_LO p)).ev (R.MAC_EVT.FEC_UNCORR p)) := by
      show execFecBlockReceived p false s = _
      rw [execFecBlockReceived, Nat.mod_eq_of_lt hp]
      simp [hst, hfec]
    refine ⟨_, hexec, ?_, ?_, ((Kept.bump s _).trans (Kept.ev _ (R.MAC_EVT.FEC_UNCORR p))).passOn s⟩
    · rw [rd64_passOn_port (a := R.MAC_FEC_UNCORR_LO p) _ _ hp rfl (by decide) (by decide),
        State.rd64_ev_ne _ _ (portReg_ne p (by decide)) (portReg_hi_ne p (by decide)), State.rd64_bump s _ hsave]
    · rw [g_passOn_port _ _ hp rfl (by decide) (by decide)]
      exact State.g_p_fits _ 1 rfl
  case counted =>
    intro s p b hp hup hrx hlen hmax hfcs hctl hda hgroup hfwd hsave
    have htake : (s.setRx p none).rxTake p (s.rxOpen p b) (b.take (b.length - 4)) = (s.setRx p none, s.rxOpen p b) :=
      State.rxTake_none _ (.inr hfwd) rfl rfl
    have hend : (s.setRx p none).rxEnd p (s.rxOpen p b) false = (s.setRx p none).rxCounted p b.length :=
      State.rxEnd_unicast (r := s.rxOpen p b) hlen hmax hfcs hctl hda hgroup rfl htake rfl (State.rxAdmit_none _ rfl)
    have hkept := Kept.rxCounted (s.setRx p none) p b.length
    obtain ⟨hframes, hoctets⟩ := State.rd64_rxCounted (s := s.setRx p none) b.length hp hsave
    rw [exec_frameReceive_whole hp hup hrx, hend, State.txSettle_of_ports s _ (by rw [hkept.2.2]; rfl)]
    refine ⟨_, rfl, ?_, ?_, ?_, hkept.passOn_setRx s p none⟩
    · rw [rd64_passOn_port (a := R.MAC_RX_FRAMES_LO p) _ _ hp rfl (by decide) (by decide), hframes, State.rd64_setRx]
    · rw [rd64_passOn_port (a := R.MAC_RX_OCTETS_LO p) _ _ hp rfl (by decide) (by decide), hoctets, State.rd64_setRx]
    · rw [passOn_sw, hkept.sw_eq, State.frames_setRx]
  case short =>
    intro s u p id b body g f a hp hup hrx hlen hshort hmax hfcs hctl hda hgroup hfwd hbody hg hf hu ha hid
    have hlook := State.rxLook_new (s := s.setRx p none) (p := p) (r := s.rxOpen p b) (body := body) rfl hlen hctl hda hfwd hg
    have hadm := State.rxAdmit_found (r := { s.rxOpen p b with looked := true, found := g.2.1, learn := g.2.2 }) hf (a := a)
      (ha.trans (by cases g.2.2 <;> rfl : _ = (u.learnDue g.2.2).admitFrame p _ _))
    subst hu
    rw [exec_frameReceive_whole hp hup hrx, State.rxEnd_unicast (r := s.rxOpen p b) hlen hmax hfcs hctl hda hgroup hbody
      (State.rxTake_short hlook hshort rfl) rfl hadm]
    simp only [hid]
    rfl
  case long =>
    intro s u p id b body g f a hp hup hrx hlen hmax hfcs hctl hda hgroup hfwd hbody hg hf ha hid hu
    have hmin : 64 ≤ b.length := by omega
    have hlook := State.rxLook_new (s := s.setRx p none) (p := p) (r := s.rxOpen p b) (body := body) rfl hmin hctl hda hfwd hg
    have hadm := State.rxAdmit_found (r := { s.rxOpen p b with looked := true, found := g.2.1, learn := g.2.2 }) hf ha
    subst hu
    rw [exec_frameReceive_whole hp hup hrx, State.rxEnd_unicast (r := s.rxOpen p b) hmin hmax hfcs hctl hda hgroup hbody
      (State.rxTake_long hlook hlen hadm hid) rfl (State.rxAdmit_none body rfl)]
    simp only [hid]
    cases g.2.2 <;> rfl

end

section
/-! SUPPORT. The way of a frame through the Carcass: what a matching cycle sends, what Dovetail releases, what a MAC sends, and what all
of them leave standing (R92, R149-R154, R162-R167). -/

namespace Sys2Proof.Machine

/-! ### A store over a store -/

theorem Tab.put_put {α : Type} (m : Tab α) (k : Nat) (v w : α) : (m.put k v).put k w = m.put k w := by
  induction m with
  | nil => simp [Tab.put]
  | cons q t ih =>
    obtain ⟨a, x⟩ := q
    rcases Nat.lt_trichotomy k a with h | h | h
    · simp [Tab.put, h]
    · simp [Tab.put, h]
    · simp [Tab.put, Nat.lt_asymm h, Nat.ne_of_gt h, ih]

theorem Tab.del_put {α : Type} (m : Tab α) (k : Nat) (v : α) : (m.put k v).del k = m.del k := by
  induction m with
  | nil => simp [Tab.put, Tab.del]
  | cons q t ih =>
    obtain ⟨a, x⟩ := q
    rcases Nat.lt_trichotomy k a with h | h | h
    · simp [Tab.put, Tab.del, h]
    · simp [Tab.put, Tab.del, h]
    · simp [Tab.put, Tab.del, Nat.lt_asymm h, Nat.ne_of_gt h, Nat.ne_of_lt h, ih]

/-- Of two stores at an index the second stands alone, where the first was no default. -/
theorem Tab.set_set {α : Type} [DecidableEq α] (d : Nat → α) (m : Tab α) (k : Nat) {v : α} (w : α) (hv : v ≠ d k) :
    (m.set d k v).set d k w = m.set d k w := by
  rw [Tab.set, Tab.set, Tab.set, if_neg hv, Tab.put_put, Tab.del_put]

/-! ### Frames and copies -/

@[simp] theorem State.fr_p (s : State) (l : Loc) (v id : Nat) : (s.p l v).fr id = s.fr id := rfl

/-- A frame with a copy is there. -/
theorem State.hasFr_of_copyAt {s : State} {id o : Nat} {c : Copy} (h : (s.fr id).copyAt o = some c) : s.hasFr id = true := by
  cases hf : s.sw.frames.find? id with
  | some x => rw [State.hasFr, hf]; rfl
  | none =>
    rw [State.fr, Tab.get, hf] at h
    cases h

theorem State.fr_modFr {s : State} {id : Nat} (h : s.hasFr id = true) (g : SwFrame → SwFrame) : (s.modFr id g).fr id = g (s.fr id) := by
  rw [State.modFr, if_pos h]
  exact Tab.get_set_same _ _ _ _

theorem SwFrame.copyAt_modCopy (x : SwFrame) (o : Nat) {g : Copy → Copy} (hg : ∀ c, (g c).out = c.out) :
    (x.modCopy o g).copyAt o = (x.copyAt o).map g := by
  have hp : ((fun c : Copy => c.out == o) ∘ fun c => if c.out = o then g c else c) = fun c => c.out == o := by
    funext c
    by_cases h : c.out = o <;> simp [h, hg]
  unfold SwFrame.copyAt SwFrame.modCopy
  rw [List.find?_map, hp]
  cases hf : x.copies.find? (fun c => c.out == o) with
  | none => rfl
  | some c =>
    have ho : c.out = o := by simpa using List.find?_some hf
    simp [ho]

/-! ### What stands -/

/-- From `s` to `t` Dovetail stands, and no transmission at a port begins or ends. -/
def Standing (s t : State) : Prop := t.sw.dove = s.sw.dove ∧ ∀ p, (t.port p).txCut = (s.port p).txCut

namespace Standing

theorem refl (s : State) : Standing s s := ⟨rfl, fun _ => rfl⟩

theorem trans {s t u : State} (h : Standing s t) (k : Standing t u) : Standing s u := ⟨k.1.trans h.1, fun p => (k.2 p).trans (h.2 p)⟩

theorem of_kept {s t : State} {l : List Nat} (h : Kept s t l) : Standing s t := ⟨by rw [h.sw_eq], fun p => by rw [h.port_eq]⟩

theorem ite {s t u : State} {c : Prop} [Decidable c] (ht : Standing s t) (hu : Standing s u) : Standing s (if c then t else u) := by
  split
  · exact ht
  · exact hu

theorem each {α : Type} (s : State) (l : List α) {f : α → State → State} (h : ∀ x t, Standing t (f x t)) :
    Standing s (s.each l f) :=
  State.each_keeps l f s (refl s) (fun x t (ht : Standing s t) => ht.trans (h x t))

theorem p (s : State) (l : Loc) (v : Nat) : Standing s (s.p l v) := of_kept (Kept.p s l v)

theorem ev (s : State) (l : Loc) : Standing s (s.ev l) := of_kept (Kept.ev s l)

theorem bump (s : State) (a : Nat) : Standing s (s.bump a) := of_kept (Kept.bump s a)

theorem bumpBy (s : State) (a n : Nat) : Standing s (s.bumpBy a n) := of_kept (Kept.bumpBy s a n)

theorem modPort (s : State) (p : Nat) {f : Port → Port} (hf : (f (s.port p)).txCut = (s.port p).txCut) : Standing s (s.modPort p f) :=
  ⟨rfl, State.txCut_modPort s p hf⟩

theorem setFr (s : State) (id : Nat) (x : SwFrame) : Standing s (s.setFr id x) := refl s

theorem delFr (s : State) (id : Nat) : Standing s (s.delFr id) := refl s

theorem modFr (s : State) (id : Nat) (g : SwFrame → SwFrame) : Standing s (s.modFr id g) := ite (setFr s id _) (refl s)

theorem modSched (s : State) (o : Nat) (g : Sched → Sched) : Standing s (s.modSched o g) := refl s

theorem sendFc (s : State) (p classes q : Nat) : Standing s (s.sendFc p classes q) := by
  have sends (a : Nat) (b : List Byte) : Standing s ((s.bump a).modPort p (fun t => { t with sent := b })) :=
    (bump s a).trans (modPort _ p rfl)
  exact ite (refl s) (ite (sends _ _) (ite (ite (refl s) (sends _ _)) (refl s)))

theorem xoffChange (s : State) (p on off : Nat) : Standing s (s.xoffChange p on off) := by
  have h1 (n : Nat) : Standing s (s.modPort p (fun t => { t with xoffSent := n })) := modPort s p rfl
  unfold State.xoffChange
  extract_lets was now s1 s2
  have hs2 : Standing s s2 := ite (h1 now) ((h1 now).trans (sendFc s1 _ _ _))
  exact ite (refl s) (ite (ite ((h1 now).trans (sendFc s1 _ _ _)) (ite ((h1 now).trans (sendFc s1 _ _ _)) (h1 now)))
    (ite hs2 (hs2.trans (sendFc s2 _ _ _))))

theorem xoffTouch (s : State) (p : Nat) : Standing s (s.xoffTouch p) := by
  unfold State.xoffTouch
  extract_lets on off s1 s2
  have hs1 : Standing s s1 := each s _ (fun _ t => (Standing.p t _ _).trans (bump _ _))
  have hs2 : Standing s1 s2 := each s1 _ (fun _ t => Standing.p t _ _)
  exact ite (refl s) ((hs1.trans hs2).trans (xoffChange s2 _ _ _))

theorem poolTouch (s : State) : Standing s s.poolTouch := by
  unfold State.poolTouch
  extract_lets tooMuch s1
  have hs1 : Standing s s1 := ((Standing.p s _ _).trans (Standing.p _ _ _)).trans (Standing.p _ _ _)
  exact ite (hs1.trans (ev s1 _)) hs1

theorem returnCells (s : State) (p c own : Nat) (lent : List (Nat × Nat)) : Standing s (s.returnCells p c own lent) :=
  (((Standing.p s _ _).trans (each _ lent (fun _ t => Standing.p t _ _))).trans (xoffTouch _ p)).trans (poolTouch _)

theorem freeCells (s : State) (id : Nat) : Standing s (s.freeCells id) :=
  ite ((setFr s id _).trans (returnCells _ _ _ _ _)) (refl s)

theorem cleanFr (s : State) (id : Nat) : Standing s (s.cleanFr id) :=
  ite (refl s) (ite ((freeCells s id).trans (delFr _ id)) (freeCells s id))

theorem stagedTouch (s : State) (o : Nat) : Standing s (s.stagedTouch o) := Standing.p s _ _

theorem takeCopy (s : State) (id o : Nat) : Standing s (s.takeCopy id o) :=
  (((modFr s id _).trans (modSched _ o _)).trans (stagedTouch _ o)).trans (cleanFr _ id)

theorem setCredit (s : State) (o c : Nat) (v : Int) : Standing s (s.setCredit o c v) := modSched s o _

theorem creditSpend (s : State) (o c bytes : Nat) : Standing s (s.creditSpend o c bytes) := ite (setCredit s o c _) (refl s)

/-- Nothing is to be settled after a command that lets every transmission stand (R82). -/
theorem txSettle {s t : State} (h : Standing s t) : t.txSettle s = t := State.txSettle_of_txCut h.2

end Standing

/-! ### Dovetail (R153) -/

@[simp] theorem State.dove_setDove_same (s : State) (i o : Nat) (d : Dove) : (s.setDove i o d).dove i o = d := Tab.get_set_same _ _ _ _

theorem State.setDove_setDove (s : State) (i o : Nat) {d : Dove} (e : Dove) (hd : d.held ≠ []) :
    (s.setDove i o d).setDove i o e = s.setDove i o e := by
  have hne : d ≠ {} := fun h => hd (by rw [h])
  unfold State.setDove
  rw [Tab.set_set _ _ _ e hne]

theorem State.dove_reseqDrop (s : State) (id o : Nat) : (s.reseqDrop id o).sw.dove = s.sw.dove := by
  have hstomp : ∀ t : State, (t.stomp id o).sw.dove = t.sw.dove := fun t =>
    ((Standing.bump t _).trans (Standing.ev _ (R.MAC_EVT.STOMP o))).1
  have hdrop : ∀ t : State, (t.dropCopy id o).sw.dove = t.sw.dove := fun t => by
    unfold State.dropCopy
    split
    · exact ((Standing.takeCopy _ id o).1).trans (hstomp t)
    · exact (Standing.takeCopy t id o).1
  unfold State.reseqDrop
  split
  · exact (hdrop _).trans ((Standing.bump s _).trans (Standing.ev _ R.SW_EVT.RESEQ_DROP)).1
  · rfl

/-- Where no cell stands at Dovetail, none is released. -/
theorem State.releaseCells_none {s : State} {i o : Nat} (n : Nat) (h : (s.dove i o).held = []) : State.releaseCells i o n s = s := by
  cases n with
  | zero => rfl
  | succ n =>
    unfold State.releaseCells
    simp only [h, List.find?_nil]

/-- The one cell that stands there in order is released or discarded, and Dovetail waits for the next. -/
theorem State.releaseCells_one {s t : State} {i o : Nat} (n : Nat) {c : Cell} {k skip : Bool}
    (hd : s.dove i o = { next := c.seq, held := [c], skip := k }) (hskip : (if c.lost then true else k && !c.first) = skip)
    (ht : (if skip then (s.setDove i o { next := (c.seq + 1) % 1024, held := [], skip := skip }).reseqDrop c.frame o
      else (s.setDove i o { next := (c.seq + 1) % 1024, held := [], skip := skip }).landCell c) = t)
    (hstand : t.sw.dove = (s.setDove i o { next := (c.seq + 1) % 1024, held := [], skip := skip }).sw.dove) :
    State.releaseCells i o (n + 1) s = t := by
  have hempty : (t.dove i o).held = [] := by
    rw [State.dove, hstand]
    exact congrArg Dove.held (State.dove_setDove_same s i o _)
  rw [State.releaseCells]
  simp only [hd, List.find?_cons, beq_self_eq_true, List.filter_cons, bne_self_eq_false, Bool.false_eq_true, if_false, List.filter_nil,
    hskip, ht]
  exact State.releaseCells_none n hempty

/-- A cell released to a port joins its copy. -/
theorem State.landCell_port {s : State} {c : Cell} {y : Copy} (hcopy : (s.fr c.frame).copyAt c.dst = some y) (hdst : c.dst < 24) :
    s.landCell c = (((s.modFr c.frame (fun x => x.modCopy c.dst (fun z => { z with got := z.got + 1 }))).stagedTouch c.dst).cleanFr
      c.frame) := by
  have hthere : (((s.modFr c.frame (fun x => x.modCopy c.dst (fun z => { z with got := z.got + 1 }))).stagedTouch c.dst).fr
      c.frame).copyAt c.dst = some { y with got := y.got + 1 } := by
    rw [State.stagedTouch, State.fr_p, State.fr_modFr (State.hasFr_of_copyAt hcopy),
      SwFrame.copyAt_modCopy _ _ (g := fun z => { z with got := z.got + 1 }) (fun _ => rfl), hcopy]
    rfl
  unfold State.landCell
  simp only [hcopy, hthere, Nat.not_le.mpr hdst, decide_false, Bool.and_false, Bool.false_eq_true, if_false]

theorem Standing.landCell {s : State} {c : Cell} {y : Copy} (hcopy : (s.fr c.frame).copyAt c.dst = some y) (hdst : c.dst < 24) :
    Standing s (s.landCell c) := by
  rw [State.landCell_port hcopy hdst]
  exact ((Standing.modFr s _ _).trans (Standing.stagedTouch _ _)).trans (Standing.cleanFr _ _)

/-- The state once the `n`-th cell in flight has come off its ply. -/
def State.cellTaken (s : State) (n : Nat) : State := { s with sw := { s.sw with flight := s.sw.flight.eraseIdx n } }

/-- A cell that arrives in order, none standing before it, joins its copy. -/
theorem State.cellArrives_inOrder {s : State} {c : Cell} {y : Copy} (hd : s.dove c.src c.dst = { next := c.seq, held := [], skip := false })
    (hlost : c.lost = false) (hcopy : (s.fr c.frame).copyAt c.dst = some y) (hdst : c.dst < 24) :
    s.cellArrives c = (s.setDove c.src c.dst { next := (c.seq + 1) % 1024, held := [], skip := false }).landCell c := by
  have hstand := Standing.landCell (s := s.setDove c.src c.dst { next := (c.seq + 1) % 1024, held := [], skip := false }) hcopy hdst
  have hrel : State.releaseCells c.src c.dst 1024 (s.setDove c.src c.dst { next := c.seq, held := [c], skip := false }) =
      (s.setDove c.src c.dst { next := (c.seq + 1) % 1024, held := [], skip := false }).landCell c :=
    State.releaseCells_one 1023 (c := c) (k := false) (skip := false) (State.dove_setDove_same s _ _ _) (by simp [hlost])
      (by rw [State.setDove_setDove _ _ _ _ (by simp)]; rfl) (by rw [State.setDove_setDove _ _ _ _ (by simp)]; exact hstand.1)
  have hheld : (((s.setDove c.src c.dst { next := (c.seq + 1) % 1024, held := [], skip := false }).landCell c).dove c.src
      c.dst).held = [] := by
    rw [State.dove, hstand.1]
    exact congrArg Dove.held (State.dove_setDove_same s _ _ _)
  have hnear : ¬ 512 ≤ (c.seq + 1024 - c.seq) % 1024 := by
    rw [Nat.add_sub_cancel_left]
    decide
  unfold State.cellArrives
  simp only [hd, hnear, if_false, List.nil_append, hrel, hheld, List.filter_nil, List.length_nil]
  rfl

/-- A gap is lost whose missing cells are not on the way, before a cell that is not the first of its frame: that frame's copy is
discarded as well. -/
theorem State.gapLost_alone {s : State} {i o : Nat} {c : Cell} (hheld : (s.dove i o).held = [c]) (hseq : c.seq < 1024)
    (hnext : (s.dove i o).next < 1024) (hgap : c.seq ≠ (s.dove i o).next) (hfirst : c.first = false)
    (hflight : ∀ x ∈ s.sw.flight, ¬ (x.src = i ∧ x.dst = o)) :
    s.gapLost i o = (s.setDove i o { next := (c.seq + 1) % 1024, held := [], skip := true }).reseqDrop c.frame o := by
  have hne : (c.seq + 1024 - (s.dove i o).next) % 1024 ≠ 0 := by omega
  have hmissing : s.sw.flight.filter (fun x => x.src == i && x.dst == o && decide ((x.seq + 1024 - (s.dove i o).next) % 1024 <
      (c.seq + 1024 - (s.dove i o).next) % 1024)) = [] := by
    rw [List.filter_eq_nil_iff]
    intro x hx hcond
    simp only [Bool.and_eq_true, beq_iff_eq] at hcond
    exact hflight x hx hcond.1
  unfold State.gapLost
  simp only [hheld, minBy, hne, if_false, hmissing]
  exact State.releaseCells_one 1023 (k := true) (skip := true) (State.dove_setDove_same s i o _) (by simp [hfirst])
    (by rw [State.setDove_setDove _ _ _ _ (by simp)]; rfl)
    (by rw [State.setDove_setDove _ _ _ _ (by simp)]; exact State.dove_reseqDrop _ _ _)

end Sys2Proof.Machine
end

section
/-! SUPPORT. A matching cycle with one cell to send (R150, R151), and what a MAC does with its next staged copy (R92, R99, R165). -/

namespace Sys2Proof.Machine

/-! ### One matching cycle -/

/-- A fold whose step turns `a` into `b` at the elements that hit, and leaves `b`, ends in `b` where some element hits. -/
theorem foldl_once {α β : Type} {f : β → α → β} {a b : β} {hit : α → Bool} (ha : ∀ x, f a x = if hit x then b else a)
    (hb : ∀ x, f b x = b) (l : List α) : l.foldl f a = if l.any hit then b else a := by
  induction l with
  | nil => rfl
  | cons x l ih =>
    rw [List.foldl_cons, ha, List.any_cons]
    cases hit x with
    | true => exact List.foldl_fixed' hb l
    | false => exact ih

/-- The rotation of a matching cycle passes every input (R150). -/
theorem mem_rotation (turn : Nat) {i : Nat} (hi : i < 28) : i ∈ (List.range 28).map (fun k => (turn + k) % 28) :=
  List.mem_map.mpr ⟨(i + 28 - turn % 28) % 28, List.mem_range.mpr (Nat.mod_lt _ (by decide)), by omega⟩

/-- Every class has its turn in a matching cycle (R150, R170). -/
theorem State.ranks_any (s : State) (k : Nat) : s.ranks.any (fun ok => ok k) = true := by
  unfold State.ranks
  split
  · rfl
  · simp only [List.any_cons, List.any_nil, Bool.or_false, Bool.or_eq_true, decide_eq_true_eq, beq_iff_eq]
    omega

/-- The next cell of the copy `c` of frame `x`, on ply `p` (R149). -/
def State.nextCell (s : State) (id p : Nat) (x : SwFrame) (c : Copy) : Cell :=
  { src := x.f.ingress, dst := c.out, frame := id, first := c.sent == 0, last := x.whole && c.sent + 1 == cellsFor x.len,
    seq := s.sw.seq.get (fun _ => 0) (pairNo x.f.ingress c.out), ply := p,
    hdr := cellHeader x c (s.sw.seq.get (fun _ => 0) (pairNo x.f.ingress c.out)) c.sent (min 128 (x.len - 128 * c.sent))
      (x.whole && c.sent + 1 == cellsFor x.len) }

/-- The state once that cell, of the only frame there is, has been sent. -/
def State.cellSent (s : State) (id p : Nat) (x : SwFrame) (c : Copy) : State :=
  { s with sw := { s.sw with
      frames := [(id, x.modCopy c.out (fun y => { y with sent := y.sent + 1 }))],
      flight := s.sw.flight ++ [s.nextCell id p x c],
      inPly := s.sw.inPly.set (fun _ => 4) x.f.ingress p, inOut := s.sw.inOut.set (fun _ => 27) x.f.ingress c.out,
      seq := s.sw.seq.set (fun _ => 0) (pairNo x.f.ingress c.out)
        ((s.sw.seq.get (fun _ => 0) (pairNo x.f.ingress c.out) + 1) % 1024) } }

/-- What the cycle has given by then. -/
def cycOne (i o p : Nat) : Cyc :=
  { ins := Tab.set (fun _ => 0) [] i 1, outs := Tab.set (fun _ => 0) [] o 1, plies := Tab.set (fun _ => 0) [] p 1 }

/-- An input that is asked for no cell sends none. -/
theorem State.sendCell_none {ok : Nat → Bool} {s : State} {cy : Cyc} {i : Nat}
    (h : (s.asked i cy).filter (fun r => ok r.2.2) = []) : s.sendCell ok cy i = (s, cy) := by
  unfold State.sendCell
  rw [h]
  cases s.nextPly i <;> rfl

/-- Of one cell asked for, that is the choice. -/
theorem State.choose_one (s : State) (i : Nat) (r : Nat × Nat × Nat) : s.choose i [r] = some r := by
  unfold State.choose
  by_cases hlast : s.sw.inOut.get (fun _ => 27) i < r.2.1 <;> simp [maxBy, minBy, hlast]

/-- A cell sent of the only frame there is, which keeps its one copy, is listed in its place. -/
theorem set_modCopy_one {id : Nat} {x : SwFrame} {c : Copy} (hcopies : x.copies = [c]) (g : Copy → Copy) :
    Tab.set (fun _ => noFrame) [(id, x)] id (x.modCopy c.out g) = [(id, x.modCopy c.out g)] := by
  have hne : x.modCopy c.out g ≠ noFrame := fun h => by
    have := congrArg SwFrame.copies h
    simp [SwFrame.modCopy, hcopies, noFrame] at this
  simp [Tab.set, hne, Tab.put]

section
variable {s : State} {id p : Nat} {x : SwFrame} {c : Copy} (hframes : s.sw.frames = [(id, x)]) (hcopies : x.copies = [c])
  (hfetched : c.fetched = true) (hready : c.sent + 1 = x.ready) (hply : s.nextPly x.f.ingress = some p)
include hframes hcopies hfetched hready

theorem State.asked_one (i : Nat) : s.asked i {} = if i = x.f.ingress then [(id, c.out, x.f.cls)] else [] := by
  have hsent : c.sent < x.ready := by omega
  have houts : Tab.get (fun _ => 0) ({} : Cyc).outs c.out = 0 := rfl
  unfold State.asked
  rw [hframes, List.flatMap_cons, List.flatMap_nil, List.append_nil]
  by_cases hi : i = x.f.ingress
  · simp [hi, hcopies, hfetched, hsent, houts]
  · have hne : x.f.ingress ≠ i := Ne.symm hi
    simp [hi, hne]

omit hframes hfetched in
theorem State.asked_cellSent (i : Nat) (cy : Cyc) : (s.cellSent id p x c).asked i cy = [] := by
  have hlen : (x.modCopy c.out (fun y => { y with sent := y.sent + 1 })).ready = x.ready := rfl
  unfold State.asked State.cellSent
  simp only [List.flatMap_cons, List.flatMap_nil, List.append_nil, hlen]
  simp [SwFrame.modCopy, hcopies, hready]

include hply

/-- The input of the frame sends its cell when the class has its turn; no other input sends one. -/
theorem State.sendCell_one (ok : Nat → Bool) (i : Nat) :
    s.sendCell ok {} i =
      if (i == x.f.ingress && ok x.f.cls) = true then (s.cellSent id p x c, cycOne x.f.ingress c.out p) else (s, {}) := by
  have hasked := State.asked_one hframes hcopies hfetched hready i
  by_cases hi : i = x.f.ingress
  · subst hi
    rw [if_pos rfl] at hasked
    rw [beq_self_eq_true, Bool.true_and]
    cases hok : ok x.f.cls with
    | false => exact State.sendCell_none (by simp [hasked, hok])
    | true =>
      have hfilter : (s.asked x.f.ingress {}).filter (fun r => ok r.2.2) = [(id, c.out, x.f.cls)] := by simp [hasked, hok]
      have hfr : s.fr id = x := by simp [State.fr, hframes, Tab.get, Tab.find?]
      have hcopy : x.copyAt c.out = some c := by simp [SwFrame.copyAt, hcopies]
      have hfirst : ¬ (2 ≤ Tab.get (fun _ => 0) ({} : Cyc).plies p ∨ 2 ≤ Tab.get (fun _ => 0) ({} : Cyc).ins x.f.ingress) := by
        simp [Tab.get]
      unfold State.sendCell
      simp only [hply, hfilter, State.choose_one, if_neg hfirst, hfr, hcopy, Option.getD_some, State.setFr, hframes,
        set_modCopy_one hcopies]
      rfl
  · have hne : (i == x.f.ingress && ok x.f.cls) = false := by simp [hi]
    rw [hne, if_neg Bool.false_ne_true]
    exact State.sendCell_none (by rw [hasked, if_neg hi]; rfl)

/-- A matching cycle with one cell to send sends it. -/
theorem State.matchCycle_one (hin : x.f.ingress < 28) :
    s.matchCycle [] = { s.cellSent id p x c with sw := { (s.cellSent id p x c).sw with turn := (s.sw.turn + 1) % 28 } } := by
  have hstay (ok : Nat → Bool) (i : Nat) :
      (s.cellSent id p x c).sendCell ok (cycOne x.f.ingress c.out p) i = (s.cellSent id p x c, cycOne x.f.ingress c.out p) :=
    State.sendCell_none (by rw [State.asked_cellSent hcopies hready]; rfl)
  have hround (ok : Nat → Bool) (turn : Nat) :
      ((List.range 28).map (fun k => (turn + k) % 28) ++ (List.range 28).map (fun k => (turn + k) % 28)).foldl
        (fun (b : State × Cyc) i => b.1.sendCell ok b.2 i) (s, {}) =
      if ok x.f.cls then (s.cellSent id p x c, cycOne x.f.ingress c.out p) else (s, {}) := by
    have hin' := mem_rotation turn hin
    rw [foldl_once (State.sendCell_one hframes hcopies hfetched hready hply ok) (hstay ok)]
    cases ok x.f.cls with
    | false => simp
    | true =>
      rw [List.any_eq_true.mpr ⟨x.f.ingress, List.mem_append_left _ hin', by simp⟩]
  unfold State.matchCycle
  dsimp only
  rw [foldl_once (fun ok => hround ok s.sw.turn) (fun ok => List.foldl_fixed' (hstay ok) _), s.ranks_any x.f.cls]
  rfl

end

/-! ### The egress scheduler and the MACs -/

/-- A visit of an output with no head past its limit drops none (R165). -/
theorem State.agePass_of_young {s : State} {o : Nat} (n : Nat) (h : (s.heads o).any (fun x => s.tooOld x.2.1.f) = false) :
    s.agePass o n = s := by
  cases n with
  | zero => rfl
  | succ n => rw [State.agePass, h, if_neg Bool.false_ne_true]

/-- An output without a received PAUSE fetches the head of class 7 first, where there is room for it (R154). -/
theorem State.egressFetch_class7 {s : State} {o : Nat} {h : Nat × SwFrame × Copy} (ho : o < 28)
    (hpause : o < 24 → s.g (R.MAC_STS.TX_PAUSED o) = 0) (hyoung : (s.heads o).any (fun x => s.tooOld x.2.1.f) = false)
    (hfree : s.fetching o true = false) (hpick : s.rrPick o 7 = some h) (hroom : s.promised o + h.2.1.need ≤ 96) :
    s.egressFetch o = s.startFetch o h := by
  have hnext : s.nextFrame o = (s, some h) := by
    unfold State.nextFrame
    simp [hfree, hpick]
  have hgo : (decide (o < 24) && s.on (R.MAC_STS.TX_PAUSED o)) = false := by
    by_cases h24 : o < 24
    · simp [State.on, hpause h24]
    · simp [h24]
  unfold State.egressFetch
  simp only [Nat.not_le.mpr ho, if_false, State.agePass_of_young _ hyoung, hgo, Bool.false_eq_true, hnext, hroom, if_true]

theorem Port.txCut_txOver {q : Port} (id : Nat) (h : q.txCut = none) : (q.txOver id).txCut = q.txCut := by
  have hne : q.txCut ≠ some id := by simp [h]
  unfold Port.txOver
  rw [if_neg hne]
  split <;> rfl

/-- Sending a copy lets every transmission stand, where its port had none under way. -/
theorem Standing.sendCopy {s : State} {o : Nat} (id : Nat) (cuts : List Nat) (hcut : (s.port o).txCut = none) :
    Standing s (s.sendCopy o id cuts) := by
  unfold State.sendCopy
  extract_lets x b s0 ended s1 counts
  have hended {t : State} (ht : Standing s t) : Standing s (ended t) :=
    (ht.trans (Standing.modPort t o (Port.txCut_txOver id ((ht.2 o).trans hcut)))).trans (Standing.takeCopy _ id o)
  have hs0 : Standing s s0 := Standing.ite (Standing.bump s _) (Standing.refl s)
  have hs1 : Standing s s1 := ((hs0.trans (Standing.bump s0 _)).trans (Standing.bumpBy _ _ _)).trans (Standing.bumpBy _ _ _)
  exact Standing.ite (hended ((hs0.trans (Standing.bump s0 _)).trans (Standing.ev _ _)))
    (hended ((hs1.trans (Standing.creditSpend s1 _ _ _)).trans (Standing.modPort _ o rfl)))

/-- The express MAC of a port that is UP sends the first staged copy once it has crossed the plies (R92). -/
theorem State.macTransmit_crossed {s : State} {o id : Nat} {c : Copy} (ho : o < 24) (hup : s.portUp o = true)
    (hclosing : (s.port o).closing = false) (hcut : (s.port o).txCut = none) (hheld : (s.port o).txHeld = none)
    (hhead : (s.sched o).exq.head? = some id) (hcopy : (s.fr id).copyAt o = some c) (hcrossed : (s.fr id).crossed c = true)
    (hopen : s.held = false) (hpaused : s.paused o (s.fr id).f.cls = false) (hyoung : s.tooOld (s.fr id).f = false) :
    s.macTransmit o true [] = s.sendCopy o id [] := by
  have hidle : ∀ j, s.inTx j o = false := fun j => by simp [State.inTx, hcut, hheld]
  have hpick : s.macPick o true = some id := by
    obtain ⟨rest, hexq⟩ : ∃ rest, (s.sched o).exq = id :: rest := by
      cases hq : (s.sched o).exq with
      | nil => simp [hq] at hhead
      | cons j rest => exact ⟨rest, by simpa [hq] using hhead⟩
    have hnone : (s.sched o).exq.find? (fun j => s.inTx j o) = none := List.find?_eq_none.mpr (fun j _ => by simp [hidle j])
    unfold State.macPick
    simp only [if_true, hnone]
    rw [hexq, List.find?_cons_of_pos (by simp [hpaused])]
  have hsend : s.transmit o true [] = s.sendCopy o id [] := by
    unfold State.transmit
    simp [Nat.not_le.mpr ho, hup, hpick, hidle, hcopy, State.txFree, hcut, hopen, hyoung, hcrossed]
  unfold State.macTransmit
  simp only [hclosing, Bool.false_and, Bool.false_eq_true, if_false, hsend]
  exact (Standing.sendCopy id [] hcut).txSettle

/-- A flush that ends at a port's output (R163). -/
theorem State.flushDone_of_flushing {s : State} {o : Nat} (ho : o < 24) (hflush : s.on (R.SW_OUT_STS.FLUSHING o) = true) :
    s.flushDone o = (s.p (R.SW_OUT_STS.FLUSHING o) 0).pb (R.SW_OUT_STS.UP o) (s.portUp o && s.pins.forwarding) := by
  unfold State.flushDone
  simp [Nat.not_le.mpr ho, hflush]

end Sys2Proof.Machine

open Sys2Proof Sys2Proof.Machine

/-- Settles O26: a matching cycle turns its state into the one with the cell sent at the one input and class that ask, once; Dovetail
releases the one cell that stands; a staged copy that goes leaves every transmission as it is. -/
theorem carcassFrames : Obligations.CarcassFrames := by
  unfold Obligations.CarcassFrames
  refine ⟨?fetch, ?cycle, ?arrival, ?gap, ?transmit, ?age, ?timeout, ?flush⟩
  case fetch =>
    exact fun s o h ho hpause hyoung hfree hpick hroom =>
      congrArg (done s) (State.egressFetch_class7 ho hpause hyoung hfree hpick hroom)
  case cycle =>
    intro s id p x c hframes hcopies hin hfetched hready hply
    have hcycle := State.matchCycle_one hframes hcopies hfetched hready hply hin
    have hexec : exec (.matchingCycle []) s = done s (s.matchCycle []) :=
      congrArg (done s) (State.txSettle_of_ports s _ (by rw [hcycle]; rfl))
    rw [hexec, hcycle]
    refine ⟨_, rfl, ?_, ?_, ?_, ?_⟩
    · rw [passOn_sw]
      rfl
    · rw [passOn_sw]
      rfl
    · rw [passOn_sw]
    · rw [passOn_sw]
      exact Kept.passOn s (Kept.refl _ [])
  case arrival =>
    intro s n c y hflight hdst hheld hnext hskip hlost hcopy
    have hd : s.dove c.src c.dst = { next := c.seq, held := [], skip := false } := by
      rw [← hnext, ← hheld, ← hskip]
    have harrive : s.arrive n = (s.cellTaken n).cellArrives c := by
      unfold State.arrive
      simp only [hflight]
      rfl
    have hland : s.arrive n = ((s.cellTaken n).setDove c.src c.dst { next := (c.seq + 1) % 1024, held := [], skip := false }).landCell c :=
      harrive.trans (State.cellArrives_inOrder hd hlost hcopy hdst)
    have hcopy' : (((s.cellTaken n).setDove c.src c.dst { next := (c.seq + 1) % 1024, held := [], skip := false }).fr c.frame).copyAt
        c.dst = some y := hcopy
    have hsettle : (s.arrive n).txSettle s = s.arrive n := by
      rw [hland]
      exact State.txSettle_of_txCut (Standing.landCell hcopy' hdst).2
    show done s ((s.arrive n).txSettle s) = _
    rw [hsettle, hland, State.landCell_port hcopy' hdst]
    rfl
  case gap =>
    intro s i o c hi ho hheld hseq hnext hgap hfirst hflight
    show done s ((s.gapLost (i % 28) (o % 28)).txSettle s) = _
    rw [Nat.mod_eq_of_lt hi, Nat.mod_eq_of_lt ho, State.gapLost_alone hheld hseq hnext hgap hfirst hflight]
    rfl
  case transmit =>
    exact fun s o id c ho hup hclosing hcut hheld hhead hcopy hcrossed hopen hpaused hyoung =>
      congrArg (done s) (State.macTransmit_crossed ho hup hclosing hcut hheld hhead hcopy hcrossed hopen hpaused hyoung)
  case age => exact fun s => rfl
  case timeout =>
    intro s o i k h ho hfind
    have htmo : s.mcTimeout o i k = ((s.bump (R.SW_MC_TMO_LO o)).ev R.SW_EVT.MC_TMO).dropCopy h.1 o := by
      unfold State.mcTimeout
      simp only [hfind]
    show done s (s.mcTimeout (o % 28) i k) = _
    rw [Nat.mod_eq_of_lt ho, htmo]
    rfl
  case flush =>
    intro s o ho hflush
    have hexec : exec (.outputFlushComplete o) s = done s (s.flushDone o) := rfl
    have hpass : R.SW_OUT_STS o ∉ passRegs := (by decide : ∀ k, k < 24 → R.SW_OUT_STS k ∉ passRegs) o ho
    rw [hexec, State.flushDone_of_flushing ho hflush]
    refine ⟨_, rfl, ?_, ?_, ?_⟩
    · rw [g_passOn _ _ hpass, State.pb, State.g_p_apart _ _ _ rfl rfl, State.g_p_fits _ _ rfl, Nat.zero_mod]
    · rw [State.on, g_passOn _ _ hpass, State.pb, State.g_p_fits _ _ rfl]
      cases s.portUp o && s.pins.forwarding <;> rfl
    · exact (((Kept.p s (R.SW_OUT_STS.FLUSHING o) 0).trans (Kept.pb _ (R.SW_OUT_STS.UP o) _)).mono (fun a ha => .inl (by
        simpa [R.SW_OUT_STS.FLUSHING, R.SW_OUT_STS.UP] using ha))).passOn s

end

section
/-! SUPPORT. The four tables: what their operations leave, what a lookup finds where no word fails parity, and how a table command
comes to run (R48, R115-R122, R129, R131-R134). -/

namespace Sys2Proof.Machine

/-! ### Registers of the tables -/

theorem passRegs_outside_tbl : ∀ a ∈ passRegs, a < 0x800000 ∨ 0x1000000 ≤ a := by decide

/-- No register of the classification region or the switch core is one that passing events on may change. -/
theorem tblReg_pass {a : Nat} (hlo : 0x800000 ≤ a) (hhi : a < 0x1000000) : a ∉ passRegs := by
  intro h
  have := passRegs_outside_tbl a h
  omega

theorem tblCmd_pass {c : Nat} (hc : c < 7) : R.TBL_CMD c ∉ passRegs := by interval_cases c <;> decide

theorem tblCmd_ne_epoch {c : Nat} (hc : c < 7) : R.TBL_CMD c ≠ R.TBL_EPOCH := by interval_cases c <;> decide

theorem tblCmd_ne_hash {c : Nat} (hc : c < 7) : R.TBL_CMD c ≠ R.TBL_HASH := by interval_cases c <;> decide

/-- A channel's TBL_DATA is apart from its TBL_CMD, and events passed on leave it. -/
theorem tblData_apart {c : Nat} (hc : c < 7) :
    ∀ a ∈ [R.TBL_DATA_LO c, R.TBL_DATA_W1 c, R.TBL_DATA_W2 c, R.TBL_DATA_HI c], a ∉ passRegs ∧ a ≠ R.TBL_CMD c := by
  interval_cases c <;> decide

/-! ### Frames that except the tables -/

/-- From `s` to `t` nothing changes but the tables, the registers of `l`, and what passing events on may change. -/
abbrev TblKept (s t : State) (l : List Nat) : Prop := Kept { s with tbl := t.tbl } t l

theorem TblKept.of_kept {s t : State} {l : List Nat} (h : Kept s t l) : TblKept s t l := by
  obtain ⟨hreg, hq, hrest⟩ := h
  exact ⟨hreg, hq, by rw [hrest]⟩

theorem TblKept.trans {s t u : State} {l m : List Nat} (h : TblKept s t l) (k : TblKept t u m) : TblKept s u (l ++ m) := by
  have h' : Kept { s with tbl := u.tbl } { t with tbl := u.tbl } l := by
    obtain ⟨hreg, hq, hrest⟩ := h
    exact ⟨hreg, hq, by rw [hrest]⟩
  exact Kept.trans h' k

theorem TblKept.mono {s t : State} {l m : List Nat} (h : TblKept s t l) (hl : ∀ a ∈ l, a ∈ m) : TblKept s t m :=
  Kept.mono h (fun a ha => .inl (hl a ha))

/-- A change of the tables alone. -/
theorem TblKept.tables (s : State) (x : Tbl) : TblKept s { s with tbl := x } [] := Kept.refl _ []

theorem TblKept.passOn {s u : State} {l : List Nat} (s0 : State) (h : TblKept s u l) : TblKept s (State.passOn s0 u) l := by
  unfold TblKept
  rw [passOn_tbl]
  exact Kept.passOn s0 h

theorem TblKept.rd_eq {s t : State} {l : List Nat} (h : TblKept s t l) {a : Nat} (ha : a ∉ l) (hp : a ∉ passRegs) : t.rd a = s.rd a :=
  Kept.rd_eq h ha hp

theorem TblKept.g_eq {s t : State} {l : List Nat} (h : TblKept s t l) {x : Loc} (ha : x.addr ∉ l) (hp : x.addr ∉ passRegs) :
    t.g x = s.g x := Kept.g_eq h ha hp

theorem TblKept.saving_eq {s t : State} {l : List Nat} (h : TblKept s t l) (hl : R.PWR_SUP_STS.SAVE.addr ∉ l) : t.saving = s.saving :=
  Kept.saving_eq (s := { s with tbl := t.tbl }) h hl

theorem TblKept.rd64_eq {s t : State} {l : List Nat} (h : TblKept s t l) {a : Nat} (ha : a ∉ l) (ha4 : a + 4 ∉ l) (hp : a ∉ passRegs)
    (hp4 : a + 4 ∉ passRegs) : t.rd64 a = s.rd64 a := Kept.rd64_eq h ha ha4 hp hp4

/-- What is framed by registers alone leaves the tables. -/
theorem Kept.tbl_eq {s t : State} {l : List Nat} (h : Kept s t l) : t.tbl = s.tbl := by rw [h.2.2]

/-! ### Entries -/

@[simp] theorem State.ent_setEnt_same (s : State) (t i : Nat) (e : Ent) : (s.setEnt t i e).ent t i = e := Tab.get_set_same _ _ _ _

@[simp] theorem State.entBad_setEnt_same (s : State) (t i : Nat) (e : Ent) : (s.setEnt t i e).entBad t i = 0 :=
  by rw [State.entBad, State.setEnt, Tab.get_set_same]

theorem State.ents_setEnt_ne (s : State) {t i n : Nat} (e : Ent) (h : n ≠ entNo t i) :
    (s.setEnt t i e).tbl.ents.get (fun _ => {}) n = s.tbl.ents.get (fun _ => {}) n := Tab.get_set_ne _ _ _ h

theorem entNo_inj {t i j : Nat} : entNo t i = entNo t j ↔ i = j := Nat.add_left_cancel_iff

theorem State.entBad_setEnt_ne (s : State) {t i j : Nat} (e : Ent) (h : j ≠ i) : (s.setEnt t i e).entBad t j = s.entBad t j := by
  rw [State.entBad, State.setEnt, Tab.get_set_ne _ _ _ (entNo_inj.not.mpr h), State.entBad]

theorem bit_withField_top (w : Word) (b : Bool) : bit (withField w 31 1 (if b then 1 else 0)).toNat 31 = b := by
  rw [bit_eq_testBit, BitVec.testBit_toNat, getLsbD_withField _ _ _ _ _ (by decide), if_pos (by decide)]
  cases b <;> rfl

/-- A field written twice holds what was written last. -/
theorem withField_withField (w : Word) (lo wd v v' : Nat) : withField (withField w lo wd v') lo wd v = withField w lo wd v := by
  apply BitVec.eq_of_getLsbD_eq
  intro i hi
  simp only [getLsbD_withField _ _ _ _ _ hi]
  split <;> rfl

@[simp] theorem Ent.valid_setValid (t : Nat) (e : Ent) (b : Bool) : (e.setValid t b).valid t = b := by
  have htop := fun w => bit_withField_top w b
  unfold Ent.setValid Ent.valid
  by_cases h2 : t = 2
  · simp only [h2, if_true, htop]
  · by_cases h3 : t = 3
    · simp only [h3, if_true, if_false, htop, (by decide : (3 : Nat) ≠ 2)]
    · simp only [h2, h3, if_false, htop]

theorem Ent.setValid_setValid (t : Nat) (e : Ent) (b b' : Bool) : (e.setValid t b').setValid t b = e.setValid t b := by
  unfold Ent.setValid
  split_ifs <;> simp only [withField_withField]

/-! ### Lookups (R119, R129) -/

/-- The candidate buckets of a key are buckets of the table (R119). -/
theorem bucketsOf_lt (seed : Nat) (k : Word × Word) : (bucketsOf seed k).1 < 4096 ∧ (bucketsOf seed k).2 < 4096 := by
  have hlt (n : Nat) : n % 4096 < 2 ^ 12 := Nat.mod_lt n (by decide)
  refine ⟨hlt _, ?_⟩
  unfold bucketsOf
  dsimp only
  split
  · exact Nat.xor_lt_two_pow (hlt _) (by decide)
  · exact Nat.xor_lt_two_pow (hlt _) (hlt _)

theorem State.lt_of_mem_waysOf {s : State} {k : Word × Word} {i : Nat} (h : i ∈ s.waysOf k) : i < 16384 := by
  obtain ⟨h1, h2⟩ := bucketsOf_lt (s.g R.TBL_HASH.SEED_ACT) k
  simp only [State.waysOf, State.buckets, List.mem_append, List.mem_map, List.mem_range] at h
  rcases h with ⟨w, hw, rfl⟩ | ⟨w, hw, rfl⟩ <;> omega

/-- A key that is found is one of its ways, and its entry is valid. -/
theorem State.findKey_some {s : State} {k : Word × Word} {i : Nat} (h : s.findKey k = some i) :
    i ∈ s.waysOf k ∧ (s.ent 3 i).valid 3 = true := by
  have hp := List.find?_some h
  simp only [Bool.and_eq_true] at hp
  obtain ⟨⟨hvalid, -⟩, -⟩ := hp
  exact ⟨List.mem_of_find?_eq_some h, hvalid⟩

/-- A way that is found free is one of four, and its entry is not valid. -/
theorem State.freeWay_some {s : State} {b w : Nat} (h : s.freeWay b = some w) : w < 4 ∧ (s.ent 3 (b * 4 + w)).valid 3 = false :=
  ⟨List.mem_range.mp (List.mem_of_find?_eq_some h), by simpa using List.find?_some h⟩

/-- A search that meets no parity error leaves the state. -/
theorem State.search_clean {s : State} {k : Word × Word} (h : ∀ j ∈ s.waysOf k, s.entBad 3 j = 0) : s.search k = (s, s.findKey k) := by
  have hall : s.each (s.waysOf k) (fun j t => t.readHit 3 j) = s :=
    State.each_fixed (fun j hj => by simp [State.readHit, h j hj])
  exact congrArg (·, s.findKey k) hall

/-- A bucket with a free way has room for a key that it may hold (R121). -/
theorem State.findRoom_of_free {s : State} {k : Word × Word} {w : Nat} (h : s.freeWay (s.buckets k).1 = some w) :
    s.findRoom k = (s, some ((s.buckets k).1 * 4 + w)) := by
  unfold State.findRoom
  simp only [h]

/-- The entries, their parity and the seed of `u` are those of `s`: a lookup finds the same in both. -/
structure SameLookup (s u : State) : Prop where
  ents : u.tbl.ents = s.tbl.ents
  bad : u.tbl.bad = s.tbl.bad
  seed : u.g R.TBL_HASH.SEED_ACT = s.g R.TBL_HASH.SEED_ACT

namespace SameLookup

variable {s u : State}

theorem of_kept {l : List Nat} (h : Kept s u l) (hl : R.TBL_HASH ∉ l) : SameLookup s u :=
  ⟨by rw [h.tbl_eq], by rw [h.tbl_eq], h.g_eq hl (by decide)⟩

theorem ent (h : SameLookup s u) (t i : Nat) : u.ent t i = s.ent t i := by rw [State.ent, State.ent, h.ents]

theorem entBad (h : SameLookup s u) (t i : Nat) : u.entBad t i = s.entBad t i := by rw [State.entBad, State.entBad, h.bad]

theorem buckets (h : SameLookup s u) (k : Word × Word) : u.buckets k = s.buckets k := by rw [State.buckets, State.buckets, h.seed]

theorem waysOf (h : SameLookup s u) (k : Word × Word) : u.waysOf k = s.waysOf k := by simp only [State.waysOf, h.buckets]

theorem findKey (h : SameLookup s u) (k : Word × Word) : u.findKey k = s.findKey k := by
  simp only [State.findKey, h.waysOf, h.ent, h.entBad]

theorem freeWay (h : SameLookup s u) (b : Nat) : u.freeWay b = s.freeWay b := by simp only [State.freeWay, h.ent]

theorem search (h : SameLookup s u) {k : Word × Word} (hclean : ∀ j ∈ s.waysOf k, s.entBad 3 j = 0) :
    u.search k = (u, s.findKey k) := by
  rw [State.search_clean (fun j hj => by rw [h.entBad]; exact hclean j (h.waysOf k ▸ hj)), h.findKey]

theorem findRoom (h : SameLookup s u) {k : Word × Word} {w : Nat} (hfree : s.freeWay (s.buckets k).1 = some w) :
    u.findRoom k = (u, some ((s.buckets k).1 * 4 + w)) := by
  rw [State.findRoom_of_free (w := w) (by rw [h.buckets, h.freeWay, hfree]), h.buckets]

end SameLookup

/-! ### TBL_DATA -/

theorem Kept.dataOf_eq {s u : State} {l : List Nat} (h : Kept s u l) {c : Nat}
    (hl : ∀ a ∈ [R.TBL_DATA_LO c, R.TBL_DATA_W1 c, R.TBL_DATA_W2 c, R.TBL_DATA_HI c], a ∉ l ∧ a ∉ passRegs) :
    u.dataOf c = s.dataOf c := by
  simp only [List.mem_cons, List.not_mem_nil, or_false, forall_eq_or_imp, forall_eq] at hl
  obtain ⟨⟨h0, p0⟩, ⟨h1, p1⟩, ⟨h2, p2⟩, h3, p3⟩ := hl
  rw [State.dataOf, h.rd_eq h0 p0, h.rd_eq h1 p1, h.rd_eq h2 p2, h.rd_eq h3 p3, State.dataOf]

/-- A command on its way leaves its channel's TBL_DATA. -/
theorem Kept.dataOf_cmd {s u : State} {c : Nat} (h : Kept s u [R.TBL_CMD c]) (hc : c < 7) : u.dataOf c = s.dataOf c :=
  h.dataOf_eq (fun a ha => ⟨by simpa using (tblData_apart hc a ha).2, (tblData_apart hc a ha).1⟩)

theorem State.dataOf_putData (s : State) (c : Nat) (e : Ent) : (s.putData c e).dataOf c = e := by
  simp [State.dataOf, State.putData, State.rd_wr, R.TBL_DATA_LO, R.TBL_DATA_W1, R.TBL_DATA_W2, R.TBL_DATA_HI]

theorem Kept.putData (s : State) (c : Nat) (e : Ent) :
    Kept s (s.putData c e) [R.TBL_DATA_LO c, R.TBL_DATA_W1 c, R.TBL_DATA_W2 c, R.TBL_DATA_HI c] :=
  (((Kept.wr s _ e.w0).trans (Kept.wr _ _ e.w1)).trans (Kept.wr _ _ e.w2)).trans (Kept.wr _ _ e.w3)

/-! ### Commands (R48, R132) -/

theorem Kept.setStat (s : State) (a v : Nat) : Kept s (s.setStat a v) [a] := Kept.p s ⟨a, 30, 2⟩ v

/-- The end of a command that events passed on show (R48). -/
theorem stat_passOn_setStat (s0 s : State) {a v : Nat} (ha : a ∉ passRegs) (hv : v < 4) :
    (State.passOn s0 (s.setStat a v)).stat a = v := by
  rw [State.stat, g_passOn _ _ ha, State.setStat, State.g_p_fits s v rfl]
  exact Nat.mod_eq_of_lt hv

/-- A field of an accepted command below its STAT reads what was written. -/
theorem State.g_putCmd {s : State} {l : Loc} {v : Word} {st : Nat} {r : Row} (hrow : rowOf l.addr = some r) (hfit : l.lo + l.wd ≤ 30)
    (hcmd : ∀ i, i < l.wd → (W r.cmd).getLsbD (l.lo + i) = true) : (s.putCmd l.addr v st).g l = fieldOf v l.lo l.wd := by
  rw [State.g, State.rd_putCmd_same hrow, fieldOf_merge _ _ _ _ _ hcmd, fieldOf_withField_ne _ _ _ _ _ _ (by omega) (.inr hfit)]

theorem rowOf_tblCmd {c : Nat} (hc : c < 7) : ∃ r, rowOf (R.TBL_CMD c) = some r ∧ r.cmd = 0xff003fff := by
  interval_cases c <;> exact ⟨_, rfl, rfl⟩

/-- A field of an accepted table command. -/
theorem State.g_putCmd_tbl (s : State) {c : Nat} (hc : c < 7) {l : Loc} (hl : l.addr = R.TBL_CMD c) (v : Word) (st : Nat)
    (hfit : l.lo + l.wd ≤ 30) (hcmd : ∀ i, i < l.wd → (W 0xff003fff).getLsbD (l.lo + i) = true) :
    (s.putCmd (R.TBL_CMD c) v st).g l = fieldOf v l.lo l.wd := by
  obtain ⟨r, hrow, hbits⟩ := rowOf_tblCmd hc
  rw [← hl] at hrow ⊢
  exact State.g_putCmd hrow hfit (by rwa [hbits])

/-- OP, TABLE and INDEX of an accepted table command. -/
theorem State.fields_putCmd_tbl (s : State) {c op table i : Nat} (hc : c < 7) (hop : op < 16) (htable : table < 4) (hi : i < 16384) :
    let u := s.putCmd (R.TBL_CMD c) (tblWord op table i) statBusy
    u.g (R.TBL_CMD.OP c) = op ∧ u.g (R.TBL_CMD.TABLE c) = table ∧ u.g (R.TBL_CMD.INDEX c) = i := by
  have hword : fieldOf (tblWord op table i) 26 4 = op ∧ fieldOf (tblWord op table i) 24 2 = table ∧
      fieldOf (tblWord op table i) 0 14 = i := by
    simp only [fieldOf, tblWord, W_toNat]
    omega
  obtain ⟨hwop, hwtable, hwindex⟩ := hword
  refine ⟨(s.g_putCmd_tbl hc (l := R.TBL_CMD.OP c) rfl _ _ ?_ ?_).trans hwop,
    (s.g_putCmd_tbl hc (l := R.TBL_CMD.TABLE c) rfl _ _ ?_ ?_).trans hwtable,
    (s.g_putCmd_tbl hc (l := R.TBL_CMD.INDEX c) rfl _ _ ?_ ?_).trans hwindex⟩
  all_goals simp only [R.TBL_CMD.OP, R.TBL_CMD.TABLE, R.TBL_CMD.INDEX]; decide

/-- The table command of number `op` on entry `i` of table `t`, for channel `c`. -/
def State.tblOp (s : State) (c t i : Nat) (differs : Bool) : Nat → State
  | 1 => s.cmdRead c t i
  | 2 => s.cmdWriteOp c t i differs
  | 3 => s.cmdInval c t i differs
  | 4 => s.cmdInsert c t differs
  | 5 => s.cmdDelete c t differs
  | 6 => s.cmdSearch c t
  | 7 => s.cmdFlush c t
  | _ => s.tblEnd c statRefused

theorem State.tblRun_eq (s : State) (c : Nat) (differs : Bool) :
    s.tblRun c differs = s.tblOp c (s.g (R.TBL_CMD.TABLE c)) (s.g (R.TBL_CMD.INDEX c)) differs (s.g (R.TBL_CMD.OP c)) := rfl

/-- A table command that its port admits, at an idle channel with none in progress, runs at once: TBL_CMD alone has changed before
it acts, so it finds what stood before (R48, R132). -/
theorem State.exists_tblCommand {s : State} {req c op table i : Nat} (hc : c < 7) (hop : op < 16) (htable : table < 4) (hi : i < 16384)
    (hadm : Admitted s req (R.TBL_CMD c) (tblWord op table i)) (hidle : s.stat (R.TBL_CMD c) ≠ statBusy) (hfree : s.tblBusy = false)
    (differs : Bool) :
    ∃ u : State, Kept s u [R.TBL_CMD c] ∧ SameLookup s u ∧ u.dataOf c = s.dataOf c ∧
      s.tblCommand req (c % 7) (tblWord op table i) differs = u.tblOp c table i differs op := by
  obtain ⟨hOp, hTable, hIndex⟩ := s.fields_putCmd_tbl hc hop htable hi
  have hk := Kept.putCmd s (R.TBL_CMD c) (tblWord op table i) statBusy
  have hnone : (s.putCmd (R.TBL_CMD c) (tblWord op table i) statBusy).tblBusy = false := by rw [State.tblBusy, hk.tbl_eq]; exact hfree
  refine ⟨_, hk, SameLookup.of_kept hk (by simpa using (tblCmd_ne_hash hc).symm), hk.dataOf_cmd hc, ?_⟩
  rw [Nat.mod_eq_of_lt hc, State.tblCommand, State.byPort_admitted s _ _ _ _ hadm, State.tblAct, State.command_accepted hidle,
    State.tblRunOrWait, if_neg (by rw [hnone]; decide), State.tblRun_eq, hOp, hTable, hIndex]

/-! ### Writes of commands (R133, R134) -/

theorem State.cmdStore_agreeing (s : State) (c t i : Nat) (e : Ent) :
    s.cmdStore c t i e false = (s.cmdWrite t i e).setStat (R.TBL_CMD c) statDone := rfl

theorem State.ent_cmdWrite (s : State) (t i : Nat) (e : Ent) : (s.cmdWrite t i e).ent t i = e ∧ (s.cmdWrite t i e).entBad t i = 0 := by
  unfold State.cmdWrite
  split
  · assumption
  · exact ⟨State.ent_setEnt_same s t i e, State.entBad_setEnt_same s t i e⟩

theorem State.ents_cmdWrite_ne (s : State) {t i n : Nat} (e : Ent) (h : n ≠ entNo t i) :
    (s.cmdWrite t i e).tbl.ents.get (fun _ => {}) n = s.tbl.ents.get (fun _ => {}) n := by
  unfold State.cmdWrite
  split
  · rfl
  · exact s.ents_setEnt_ne e h

theorem State.epoch_cmdWrite (s : State) (t i : Nat) (e : Ent) : (s.cmdWrite t i e).rd R.TBL_EPOCH =
    if s.ent t i = e ∧ s.entBad t i = 0 then s.rd R.TBL_EPOCH else s.rd R.TBL_EPOCH + 1 := by
  unfold State.cmdWrite
  split
  · rfl
  · exact State.rd_wr_same _ _ _

theorem TblKept.cmdWrite (s : State) (t i : Nat) (e : Ent) : TblKept s (s.cmdWrite t i e) [R.TBL_EPOCH] := by
  unfold State.cmdWrite
  split
  · exact Kept.refl _ _
  · exact (TblKept.tables s _).trans (TblKept.of_kept (Kept.wr (s.setEnt t i e) R.TBL_EPOCH _))

/-- From `s` to `t` a command of channel `c` has written `e` to entry `i` of a table and is done; the epoch has advanced by one if
that changed the entry (R134). -/
structure EntryStored (s t : State) (c table i : Nat) (e : Ent) : Prop where
  entry : t.ent table i = e
  parity : t.entBad table i = 0
  others : ∀ n, n ≠ entNo table i → t.tbl.ents.get (fun _ => {}) n = s.tbl.ents.get (fun _ => {}) n
  epoch : t.rd R.TBL_EPOCH = if s.ent table i = e ∧ s.entBad table i = 0 then s.rd R.TBL_EPOCH else s.rd R.TBL_EPOCH + 1
  ended : t.stat (R.TBL_CMD c) = statDone
  frame : TblKept s t [R.TBL_CMD c, R.TBL_EPOCH]

/-- A command that writes an entry and reads it back stores it. -/
theorem EntryStored.cmdStore {s u : State} {c : Nat} (hc : c < 7) (hu : Kept s u [R.TBL_CMD c]) (table i : Nat) (e : Ent) :
    EntryStored s (State.passOn s (u.cmdStore c table i e false)) c table i e := by
  obtain ⟨hent, hbad⟩ := u.ent_cmdWrite table i e
  have hsame : SameLookup s u := SameLookup.of_kept hu (by simpa using (tblCmd_ne_hash hc).symm)
  have hepoch : R.TBL_EPOCH ∉ [R.TBL_CMD c] := by simpa using (tblCmd_ne_epoch hc).symm
  rw [State.cmdStore_agreeing]
  refine ⟨?_, ?_, fun n hn => ?_, ?_, stat_passOn_setStat s _ (tblCmd_pass hc) (by decide), ?_⟩
  · rw [State.ent, passOn_tbl]
    exact hent
  · rw [State.entBad, passOn_tbl]
    exact hbad
  · rw [passOn_tbl]
    exact (u.ents_cmdWrite_ne e hn).trans (by rw [hu.tbl_eq])
  · rw [rd_passOn _ _ (by decide), (Kept.setStat _ _ _).rd_eq hepoch (by decide), u.epoch_cmdWrite, hsame.ent,
      hsame.entBad, hu.rd_eq hepoch (by decide)]
  · have hwritten := (TblKept.of_kept hu).trans (TblKept.cmdWrite u table i e)
    exact (hwritten.trans (TblKept.of_kept (Kept.setStat _ (R.TBL_CMD c) statDone))).mono (by simp) |>.passOn s

/-- A command that changes an entry's VALID advances the epoch. -/
theorem EntryStored.epoch_of_valid {s t : State} {c table i : Nat} {e : Ent} (h : EntryStored s t c table i e)
    (hne : (s.ent table i).valid table ≠ e.valid table) : t.rd R.TBL_EPOCH = s.rd R.TBL_EPOCH + 1 := by
  rw [h.epoch, if_neg (fun ⟨hsame, _⟩ => hne (by rw [hsame]))]

end Sys2Proof.Machine
end

section
/-! SUPPORT. The table commands that read, search and delete (R133). -/

namespace Sys2Proof.Machine

/-- READ of an entry whose words hold good parity. -/
theorem State.cmdRead_of_clean {s : State} {t i : Nat} (c : Nat) (hindex : indexOk t i = true) (hclean : s.entBad t i = 0) :
    s.cmdRead c t i = (s.putData c (s.ent t i)).setStat (R.TBL_CMD c) statDone := by
  unfold State.cmdRead
  simp only [hindex, hclean, Bool.not_true, Bool.false_eq_true, if_false, bne_self_eq_false]
  rfl

/-- INVAL of a valid entry. -/
theorem State.cmdInval_of_valid {s : State} {t i : Nat} (c : Nat) (hindex : indexOk t i = true) (hvalid : (s.ent t i).valid t = true) :
    s.cmdInval c t i false = s.cmdStore c t i ((s.ent t i).setValid t false) false := by
  unfold State.cmdInval
  simp only [hindex, hvalid, Bool.not_true, Bool.false_eq_true, if_false, if_true]

/-- SEARCH for a key that is found. -/
theorem State.cmdSearch_of_found {s u : State} {c i : Nat} (hfound : u.search (u.dataOf c).key = (s, some i)) :
    u.cmdSearch c 3 = ((s.putData c (u.ent 3 i)).p (R.TBL_CMD.INDEX c) i).setStat (R.TBL_CMD c) statDone := by
  unfold State.cmdSearch
  simp only [hfound]
  rfl

/-- DELETE of a key that is found. -/
theorem State.cmdDelete_of_found {s u : State} {c i : Nat} (hfound : u.search (u.dataOf c).key = (s, some i)) :
    u.cmdDelete c 3 false = s.cmdStore c 3 i ((u.ent 3 i).setValid 3 false) false := by
  unfold State.cmdDelete
  simp only [hfound]
  rfl

/-- What a channel shows once its TBL_DATA holds `e` and its command is done. -/
theorem dataOf_passOn {u : State} {c : Nat} (hc : c < 7) (s0 : State) (e : Ent) {v : State} (h : Kept (u.putData c e) v [R.TBL_CMD c]) :
    (State.passOn s0 v).dataOf c = e := by
  have hpass : Kept v (State.passOn s0 v) [] := Quiet.passOn s0 v
  rw [hpass.dataOf_eq (fun a ha => ⟨List.not_mem_nil, (tblData_apart hc a ha).1⟩), h.dataOf_cmd hc, State.dataOf_putData]

end Sys2Proof.Machine

open Sys2Proof Sys2Proof.Machine

/-- Settles O23: each command runs at once on a state in which TBL_CMD alone has changed; what it finds there it finds before, and a
write of an entry that was valid changes it. -/
theorem tableLookups : Obligations.TableLookups := by
  unfold Obligations.TableLookups
  refine ⟨?read, ?search, ?inval, ?delete, ?flush⟩
  case read =>
    intro s req c table i hc htable hi hadm hidle hfree hindex hclean
    obtain ⟨u, hu, hsame, -, hrun⟩ := State.exists_tblCommand hc (by decide) htable hi hadm hidle hfree false
    have hread := State.cmdRead_of_clean c hindex ((hsame.entBad table i).trans hclean)
    rw [hsame.ent] at hread
    refine ⟨_, congrArg (done s) (hrun.trans hread), dataOf_passOn hc s _ (Kept.setStat _ _ _),
      stat_passOn_setStat s _ (tblCmd_pass hc) (by decide), ?_⟩
    exact ((hu.trans (Kept.putData u c (s.ent table i))).trans (Kept.setStat _ (R.TBL_CMD c) statDone)).mono (by simp) |>.passOn s
  case search =>
    intro s req c i hc hadm hidle hfree hfind hclean
    obtain ⟨u, hu, hsame, hdata, hrun⟩ := State.exists_tblCommand hc (by decide) (by decide) (by decide) hadm hidle hfree false
    have hlt : i < 16384 := State.lt_of_mem_waysOf (State.findKey_some hfind).1
    have hfound : u.search (u.dataOf c).key = (u, some i) := by rw [hdata, hsame.search hclean, hfind]
    have hsearch := State.cmdSearch_of_found hfound
    rw [hsame.ent] at hsearch
    refine ⟨_, congrArg (done s) (hrun.trans hsearch), dataOf_passOn hc s _ (((Kept.p _ (R.TBL_CMD.INDEX c) i).trans
      (Kept.setStat _ (R.TBL_CMD c) statDone)).mono (by simp [R.TBL_CMD.INDEX])), ?_,
      stat_passOn_setStat s _ (tblCmd_pass hc) (by decide), ?_⟩
    · rw [g_passOn _ _ (tblCmd_pass hc), State.setStat, State.g_p_apart _ _ _ rfl rfl, State.g_p_fits _ _ rfl]
      exact Nat.mod_eq_of_lt hlt
    · exact (((hu.trans (Kept.putData u c (s.ent 3 i))).trans (Kept.p _ (R.TBL_CMD.INDEX c) i)).trans
        (Kept.setStat _ (R.TBL_CMD c) statDone)).mono (by simp [R.TBL_CMD.INDEX]) |>.passOn s
  case inval =>
    intro s req c table i hc htable hi hadm hidle hfree hindex hvalid
    obtain ⟨u, hu, hsame, -, hrun⟩ := State.exists_tblCommand hc (by decide) htable hi hadm hidle hfree false
    have hinval := State.cmdInval_of_valid (s := u) c hindex (by rwa [hsame.ent])
    rw [hsame.ent] at hinval
    have hstored := EntryStored.cmdStore hc hu table i ((s.ent table i).setValid table false)
    exact ⟨_, congrArg (done s) (hrun.trans hinval), hstored.entry, hstored.others, hstored.epoch_of_valid (by simp [hvalid]),
      hstored.ended, hstored.frame⟩
  case delete =>
    intro s req c i hc hadm hidle hfree hfind hclean
    obtain ⟨u, hu, hsame, hdata, hrun⟩ := State.exists_tblCommand hc (by decide) (by decide) (by decide) hadm hidle hfree false
    have hfound : u.search (u.dataOf c).key = (u, some i) := by rw [hdata, hsame.search hclean, hfind]
    have hdelete := State.cmdDelete_of_found hfound
    rw [hsame.ent] at hdelete
    have hstored := EntryStored.cmdStore hc hu 3 i ((s.ent 3 i).setValid 3 false)
    exact ⟨_, congrArg (done s) (hrun.trans hdelete), hstored.entry, hstored.others,
      hstored.epoch_of_valid (by simp [(State.findKey_some hfind).2]), hstored.ended, hstored.frame⟩
  case flush =>
    intro s req c hc hadm hidle hfree
    obtain ⟨u, hu, -, hdata, hrun⟩ := State.exists_tblCommand hc (by decide) (by decide) (by decide) hadm hidle hfree false
    have hsel : u.rd (R.TBL_DATA_LO c) = s.rd (R.TBL_DATA_LO c) := congrArg Ent.w0 hdata
    refine ⟨_, congrArg (done s) hrun, ?_, stat_passOn_setStat s _ (tblCmd_pass hc) (by decide), ?_⟩
    · rw [passOn_tbl]
      show { u.tbl with flush := some (c, u.rd (R.TBL_DATA_LO c)) } = _
      rw [hu.tbl_eq, hsel]
    · exact (((TblKept.of_kept hu).trans (TblKept.tables u _)).trans (TblKept.of_kept (Kept.setStat _ (R.TBL_CMD c) statBusy))).mono
        (by simp) |>.passOn s

end

section
/-! SUPPORT. The table commands that write, the end of a flush, row repair and the drain (R120, R121, R131, R133-R135, R160). -/

namespace Sys2Proof.Machine

/-! ### WRITE and INSERT (R121, R133) -/

/-- WRITE of an entry at a place where it may stand: a learning entry that is valid, at a way of its key, present nowhere else. -/
theorem State.cmdWriteOp_of_place {s u : State} {c t i : Nat} (hsame : SameLookup s u) (hdata : u.dataOf c = s.dataOf c)
    (hindex : indexOk t i = true)
    (hplace : t = 3 → (s.dataOf c).valid 3 = true → i ∈ s.waysOf (s.dataOf c).key ∧
      (s.findKey (s.dataOf c).key).all (· == i) = true ∧ ∀ j ∈ s.waysOf (s.dataOf c).key, s.entBad 3 j = 0) :
    u.cmdWriteOp c t i false = u.cmdStore c t i (s.dataOf c) false := by
  unfold State.cmdWriteOp
  simp only [hdata, hindex, Bool.not_true, Bool.false_eq_true, if_false]
  split
  case isFalse => rfl
  case isTrue h =>
    obtain ⟨rfl, hvalid⟩ := h
    obtain ⟨hway, honly, hclean⟩ := hplace rfl hvalid
    have hway' : (u.waysOf (s.dataOf c).key).contains i = true := by simpa [hsame.waysOf] using hway
    rw [hsame.search hclean, hway']
    cases hfind : s.findKey (s.dataOf c).key with
    | none => rfl
    | some k =>
      obtain rfl : k = i := by simpa [hfind] using honly
      simp

/-- VALID is no part of a learning entry's key (R118). -/
@[simp] theorem Ent.key_setValid (e : Ent) (b : Bool) : (e.setValid 3 b).key = e.key := by
  obtain ⟨w0, w1, w2, w3⟩ := e
  rfl

/-- INSERT of a key that is absent, with a way of its first bucket free. -/
theorem State.cmdInsert_of_free {s u : State} {c w : Nat} (hsame : SameLookup s u) (hdata : u.dataOf c = s.dataOf c)
    (hfind : s.findKey (s.dataOf c).key = none) (hfree : s.freeWay (s.buckets (s.dataOf c).key).1 = some w)
    (hclean : ∀ j ∈ s.waysOf (s.dataOf c).key, s.entBad 3 j = 0) :
    u.cmdInsert c 3 false = (u.p (R.TBL_CMD.INDEX c) ((s.buckets (s.dataOf c).key).1 * 4 + w)).cmdStore c 3
      ((s.buckets (s.dataOf c).key).1 * 4 + w) ((s.dataOf c).setValid 3 true) false := by
  have hsearch : u.search (s.dataOf c).key = (u, none) := (hsame.search hclean).trans (by rw [hfind])
  have hroom := hsame.findRoom hfree
  unfold State.cmdInsert
  simp only [hdata, Ent.key_setValid, hsearch, hroom, ne_eq, not_true_eq_false, if_false]

/-- INDEX stands through the write of an entry. -/
theorem index_passOn_cmdStore {u : State} {c : Nat} (hc : c < 7) (s0 : State) (t i : Nat) (e : Ent) :
    (State.passOn s0 (u.cmdStore c t i e false)).g (R.TBL_CMD.INDEX c) = u.g (R.TBL_CMD.INDEX c) := by
  rw [g_passOn _ _ (tblCmd_pass hc), State.cmdStore_agreeing, State.setStat, State.g_p_apart _ _ _ rfl rfl]
  exact (TblKept.cmdWrite u t i e).g_eq (by simpa [R.TBL_CMD.INDEX] using tblCmd_ne_epoch hc) (tblCmd_pass hc)

/-! ### SW_MCGRP (R160) -/

theorem State.mcgrpWrite_of_change {s : State} {g mask : Nat} (hmask : mask < 2 ^ 28) (hne : s.g (R.SW_MCGRP.MASK g) ≠ mask) :
    s.mcgrpWrite g mask = (s.p (R.SW_MCGRP.MASK g) mask).epochUp := by
  unfold State.mcgrpWrite
  rw [Nat.mod_eq_of_lt hmask, if_neg hne]

/-! ### Row repair (R131) -/

/-- A row is mapped to a spare where no command's write waits for one and a spare is left. -/
theorem State.rowRepair_of_spare {s : State} {t row n : Nat} (hrepair : s.tbl.repair = none) (hleft : s.sparesLeft t = n + 1) :
    s.rowRepair t row = ({ s with tbl := { s.tbl with spares := s.tbl.spares.set spareRows t n } }.bump R.TBL_ROW_REPAIR_LO).shimRepair
      repRow 4 t row (spareRows t - (n + 1)) := by
  unfold State.rowRepair State.rowSpare
  simp only [hrepair, hleft, Nat.add_one_ne_zero, if_false, Nat.add_sub_cancel]

/-! ### The end of a flush (R120, R133, R134) -/

/-- The learning entries of `l` lose VALID, one after the other. -/
def State.clearValids (s : State) (l : List Nat) : State := s.each l (fun i t => t.setEnt 3 i ((t.ent 3 i).setValid 3 false))

theorem State.clearValids_cons (s : State) (i : Nat) (l : List Nat) :
    s.clearValids (i :: l) = (s.setEnt 3 i ((s.ent 3 i).setValid 3 false)).clearValids l := rfl

theorem State.ents_clearValids_off {l : List Nat} {n : Nat} (s : State) (h : ∀ i ∈ l, n ≠ entNo 3 i) :
    (s.clearValids l).tbl.ents.get (fun _ => {}) n = s.tbl.ents.get (fun _ => {}) n := by
  induction l generalizing s with
  | nil => rfl
  | cons x l ih =>
    rw [State.clearValids_cons, ih _ (fun i hi => h i (List.mem_cons_of_mem x hi)), State.ents_setEnt_ne _ _ (h x List.mem_cons_self)]

theorem State.ent_clearValids_of_mem {l : List Nat} {i : Nat} (s : State) (h : i ∈ l) :
    (s.clearValids l).ent 3 i = (s.ent 3 i).setValid 3 false := by
  induction l generalizing s with
  | nil => cases h
  | cons x l ih =>
    rw [State.clearValids_cons]
    by_cases hl : i ∈ l
    · rw [ih _ hl]
      by_cases hx : i = x
      · rw [hx, State.ent_setEnt_same, Ent.setValid_setValid]
      · exact congrArg (Ent.setValid 3 · false) (s.ents_setEnt_ne _ (entNo_inj.not.mpr hx))
    · obtain rfl : i = x := (List.mem_cons.mp h).resolve_right hl
      have hoff : ∀ j ∈ l, entNo 3 i ≠ entNo 3 j := fun j hj he => hl (entNo_inj.mp he ▸ hj)
      exact (State.ents_clearValids_off _ hoff).trans (State.ent_setEnt_same s 3 i _)

/-- Invalidation changes the tables alone, and of them neither flush nor queue. -/
theorem State.clearValids_frame (s : State) (l : List Nat) :
    TblKept s (s.clearValids l) [] ∧ (s.clearValids l).tbl.flush = s.tbl.flush ∧ (s.clearValids l).tbl.waiting = s.tbl.waiting :=
  State.each_keeps (P := fun t => TblKept s t [] ∧ t.tbl.flush = s.tbl.flush ∧ t.tbl.waiting = s.tbl.waiting) l _ s
    ⟨Kept.refl _ _, rfl, rfl⟩ (fun _ t ⟨hk, hf, hw⟩ => ⟨hk.trans (TblKept.tables t _), hf, hw⟩)

/-- The learning entries that a flush takes. -/
def State.flushGone (s : State) (sel : Word) : List Nat := s.learnList.filter (fun i => flushSelects sel (s.ent 3 i))

/-- The state once a flush has taken its entries. -/
def State.flushed (s : State) (sel : Word) : State := { s with tbl := { s.tbl with flush := none } }.clearValids (s.flushGone sel)

theorem Tab.mem_of_find? {α : Type} {m : Tab α} {k : Nat} {v : α} (h : m.find? k = some v) : (k, v) ∈ m := by
  induction m with
  | nil => cases h
  | cons p m ih =>
    obtain ⟨a, x⟩ := p
    unfold Tab.find? at h
    split at h
    case isTrue hk =>
      obtain rfl := Option.some.inj h
      rw [hk]
      exact List.mem_cons_self
    case isFalse => exact List.mem_cons_of_mem _ (ih h)

/-- An entry that a flush selects is valid, so it is listed in the store. -/
theorem State.mem_flushGone {s : State} {sel : Word} {i : Nat} : i ∈ s.flushGone sel ↔ flushSelects sel (s.ent 3 i) = true := by
  refine ⟨fun h => (List.mem_filter.mp h).2, fun h => List.mem_filter.mpr ⟨?_, h⟩⟩
  have hvalid : (s.ent 3 i).valid 3 = true := by
    simp only [flushSelects, Bool.and_eq_true] at h
    obtain ⟨⟨⟨hvalid, -⟩, -⟩, -⟩ := h
    exact hvalid
  cases hfind : s.tbl.ents.find? (entNo 3 i) with
  | none =>
    rw [State.ent, Tab.get, hfind] at hvalid
    exact absurd hvalid (by decide)
  | some e =>
    refine List.mem_filterMap.mpr ⟨_, Tab.mem_of_find? hfind, ?_⟩
    simp [entNo]

/-- Commands that none waits behind are resumed by nothing. -/
theorem State.tblResume_of_none {s : State} (h : s.tbl.waiting = []) : s.tblResume = s := by
  unfold State.tblResume
  rw [h]
  rfl

/-- The epoch after a flush advances if an entry is gone (R134). -/
def State.flushEpoch (s : State) (sel : Word) : State :=
  if (s.flushGone sel).isEmpty then s.flushed sel else (s.flushed sel).epochUp

/-- A full flush makes SEED the active seed (R120). -/
def State.flushSeed (s : State) (sel : Word) : State :=
  if fieldOf sel 29 3 = 1 then (s.flushEpoch sel).p R.TBL_HASH.SEED_ACT ((s.flushEpoch sel).g R.TBL_HASH.SEED) else s.flushEpoch sel

theorem Kept.flushEpoch (s : State) (sel : Word) : Kept (s.flushed sel) (s.flushEpoch sel) [R.TBL_EPOCH] := by
  unfold State.flushEpoch
  split
  · exact Kept.refl _ _
  · exact Kept.wr _ _ _

theorem Kept.flushSeed (s : State) (sel : Word) : Kept (s.flushEpoch sel) (s.flushSeed sel) [R.TBL_HASH] := by
  unfold State.flushSeed
  split
  · exact Kept.p _ R.TBL_HASH.SEED_ACT _
  · exact Kept.refl _ _

theorem State.flushed_frame (s : State) (sel : Word) :
    TblKept s (s.flushed sel) [] ∧ (s.flushed sel).tbl.flush = none ∧ (s.flushed sel).tbl.waiting = s.tbl.waiting := by
  obtain ⟨hk, hflush, hwait⟩ := State.clearValids_frame { s with tbl := { s.tbl with flush := none } } (s.flushGone sel)
  exact ⟨(TblKept.tables s _).trans hk, hflush, hwait⟩

theorem State.tbl_flushSeed (s : State) (sel : Word) : (s.flushSeed sel).tbl = (s.flushed sel).tbl :=
  (Kept.flushSeed s sel).tbl_eq.trans (Kept.flushEpoch s sel).tbl_eq

theorem State.seed_flushSeed (s : State) (sel : Word) : (s.flushSeed sel).g R.TBL_HASH.SEED_ACT =
    if fieldOf sel 29 3 = 1 then s.g R.TBL_HASH.SEED else s.g R.TBL_HASH.SEED_ACT := by
  obtain ⟨hflushed, -, -⟩ := s.flushed_frame sel
  have hk := hflushed.trans (TblKept.of_kept (Kept.flushEpoch s sel))
  unfold State.flushSeed
  split
  · rw [State.g_p_fits _ _ rfl, hk.g_eq (by decide) (by decide)]
    exact Nat.mod_mod _ _
  · exact hk.g_eq (by decide) (by decide)

/-- The end of a flush whose rows read back as written and behind which no command waits. -/
theorem State.flushComplete_agreeing {s : State} {c : Nat} {sel : Word} (hflush : s.tbl.flush = some (c, sel))
    (hwait : s.tbl.waiting = []) :
    s.flushComplete [] = (s.flushSeed sel).setStat (R.TBL_CMD c) statDone := by
  obtain ⟨-, -, hkept⟩ := s.flushed_frame sel
  have hnone : (s.flushSeed sel).tbl.waiting = [] := by rw [s.tbl_flushSeed, hkept, hwait]
  have hstages : s.flushComplete [] = ((s.flushSeed sel).setStat (R.TBL_CMD c) statDone).tblResume := by
    unfold State.flushComplete
    simp only [hflush, List.filter_nil, List.eraseDups_nil, List.foldl_nil, List.contains_nil, Bool.false_eq_true, if_false,
      List.isEmpty_nil, if_true]
    rfl
  exact hstages.trans (State.tblResume_of_none hnone)

/-! ### The drain (R135) -/

theorem State.drainAct_accepted {s : State} (req : Nat) (v : Word) (hidle : s.stat R.TBL_DRAIN ≠ statBusy) :
    s.drainAct req v = (s.putCmd R.TBL_DRAIN v statBusy).wr R.TBL_DRAIN_EP (s.rd R.TBL_EPOCH) := by
  have hepoch : (s.putCmd R.TBL_DRAIN v statBusy).rd R.TBL_EPOCH = s.rd R.TBL_EPOCH := State.rd_putCmd_ne s v _ (by decide)
  rw [← hepoch]
  exact State.command_accepted hidle

theorem State.drained_of_none {s : State} (hbusy : s.stat R.TBL_DRAIN = statBusy) (hold : s.olderFrames = false) :
    s.drained = (s.setStat R.TBL_DRAIN statDone).ev R.TBL_EVT.DRAINED := by
  unfold State.drained
  simp [hbusy, hold]

theorem State.drainTmo_of_busy {s : State} (hbusy : s.stat R.TBL_DRAIN = statBusy) :
    s.drainTmo = ((s.setStat R.TBL_DRAIN statFailed).ev R.TBL_EVT.DRAIN_TMO).bump R.TBL_DRAIN_TMO_LO := by
  unfold State.drainTmo
  simp [hbusy]

end Sys2Proof.Machine

open Sys2Proof Sys2Proof.Machine

/-- Settles O24: a command that writes stores its entry, by what the lookup finds before it; the end of a flush is an invalidation
of what it selects, then the epoch, the seed and STAT; the drain works on registers. -/
theorem tableWrites : Obligations.TableWrites := by
  unfold Obligations.TableWrites
  refine ⟨?write, ?insert, ?group, ?repair, ?flushed, ?drain, ?drained, ?timeout⟩
  case write =>
    intro s req c table i hc htable hi hadm hidle hfree hindex hplace
    obtain ⟨u, hu, hsame, hdata, hrun⟩ := State.exists_tblCommand hc (by decide) htable hi hadm hidle hfree false
    have hwrite := State.cmdWriteOp_of_place hsame hdata hindex hplace
    have hstored := EntryStored.cmdStore hc hu table i (s.dataOf c)
    exact ⟨_, congrArg (done s) (hrun.trans hwrite), hstored.entry, hstored.parity, hstored.others, hstored.epoch, hstored.ended,
      hstored.frame⟩
  case insert =>
    intro s req c w hc hadm hidle hfree hfind hway hclean
    obtain ⟨u, hu, hsame, hdata, hrun⟩ := State.exists_tblCommand hc (by decide) (by decide) (by decide) hadm hidle hfree false
    have hinsert := State.cmdInsert_of_free hsame hdata hfind hway hclean
    obtain ⟨hw, hinvalid⟩ := State.freeWay_some hway
    have hbucket : (s.buckets (s.dataOf c).key).1 < 4096 := (bucketsOf_lt _ _).1
    have hi : (s.buckets (s.dataOf c).key).1 * 4 + w < 16384 := by omega
    generalize (s.buckets (s.dataOf c).key).1 * 4 + w = i at hinsert hinvalid hi ⊢
    have hnamed : Kept s (u.p (R.TBL_CMD.INDEX c) i) [R.TBL_CMD c] :=
      (hu.trans (Kept.p u (R.TBL_CMD.INDEX c) i)).mono (by simp [R.TBL_CMD.INDEX])
    have hstored := EntryStored.cmdStore hc hnamed 3 i ((s.dataOf c).setValid 3 true)
    refine ⟨_, congrArg (done s) (hrun.trans hinsert), hstored.entry, hstored.others, ?_,
      hstored.epoch_of_valid (by simp [hinvalid]), hstored.ended, hstored.frame⟩
    rw [index_passOn_cmdStore hc, State.g_p_fits _ _ rfl]
    exact Nat.mod_eq_of_lt hi
  case group =>
    intro s req g mask hg hmask hadm hne
    have hlo : 0xc02000 ≤ R.SW_MCGRP g := Nat.le_add_right _ _
    have hhi : R.SW_MCGRP g < 0xc03000 := by simp only [R.SW_MCGRP]; omega
    have hpass : R.SW_MCGRP g ∉ passRegs := tblReg_pass (by omega) (by omega)
    have hepoch : R.TBL_EPOCH ≠ R.SW_MCGRP g := by
      have : R.TBL_EPOCH < 0xc02000 := by decide
      omega
    have hexec : exec (.mcgrpWrite req g mask) s = done s ((s.p (R.SW_MCGRP.MASK g) mask).epochUp) := by
      show done s (s.byPort req (R.SW_MCGRP (g % 1024)) (W mask) false (fun t => t.mcgrpWrite (g % 1024) mask)) = _
      rw [Nat.mod_eq_of_lt hg, State.byPort_admitted s _ _ _ _ hadm, State.mcgrpWrite_of_change hmask hne]
    refine ⟨_, hexec, ?_, ?_, ((Kept.p s (R.SW_MCGRP.MASK g) mask).trans (Kept.wr _ R.TBL_EPOCH _)).passOn s⟩
    · rw [g_passOn _ _ hpass, State.epochUp, State.g_wr_ne _ _ _ hepoch.symm, State.g_p_fits _ _ rfl]
      exact Nat.mod_eq_of_lt hmask
    · rw [rd_passOn _ _ (by decide), State.epochUp, State.rd_wr_same, State.rd_p_ne _ _ _ hepoch]
  case repair =>
    intro s table row n htable hrow hrepair hleft
    show done s (s.rowRepair (table % 4) (row % 4096)) = _
    rw [Nat.mod_eq_of_lt htable, Nat.mod_eq_of_lt hrow, State.rowRepair_of_spare hrepair hleft]
    rfl
  case flushed =>
    intro s c sel hc hflush hwait _
    obtain ⟨hk, hnone, -⟩ := s.flushed_frame sel
    have hstat := Kept.setStat (s.flushSeed sel) (R.TBL_CMD c) statDone
    have htbl : (State.passOn s ((s.flushSeed sel).setStat (R.TBL_CMD c) statDone)).tbl = (s.flushed sel).tbl := by
      rw [passOn_tbl, hstat.tbl_eq, s.tbl_flushSeed]
    have hent (i : Nat) : (State.passOn s ((s.flushSeed sel).setStat (R.TBL_CMD c) statDone)).ent 3 i = (s.flushed sel).ent 3 i := by
      rw [State.ent, htbl, State.ent]
    refine ⟨_, congrArg (done s) (State.flushComplete_agreeing hflush hwait), ?_, stat_passOn_setStat s _ (tblCmd_pass hc) (by decide),
      fun i hi => ?_, fun i hi => ?_, fun n hn => ?_, ?_, ?_⟩
    · rw [htbl, hnone]
    · rw [hent]
      exact State.ent_clearValids_of_mem _ (State.mem_flushGone.mpr hi)
    · rw [hent]
      refine State.ents_clearValids_off _ (fun j hj he => ?_)
      rw [entNo_inj.mp he, State.mem_flushGone.mp hj] at hi
      cases hi
    · rw [htbl]
      exact State.ents_clearValids_off _ (fun j _ he => by simp only [entNo] at he; omega)
    · rw [g_passOn _ _ (by decide), hstat.g_eq (by simpa [R.TBL_HASH.SEED_ACT] using (tblCmd_ne_hash hc).symm) (by decide),
        s.seed_flushSeed]
    · exact (((hk.trans (TblKept.of_kept (Kept.flushEpoch s sel))).trans (TblKept.of_kept (Kept.flushSeed s sel))).trans
        (TblKept.of_kept hstat)).mono (by simp) |>.passOn s
  case drain =>
    intro s req tmo htmo hadm hidle
    obtain ⟨r, hrow, hcmd⟩ : ∃ r, rowOf R.TBL_DRAIN = some r ∧ r.cmd = 0xc000ffff := ⟨_, rfl, rfl⟩
    have hexec : exec (.tblDrain req tmo) s = done s ((s.putCmd R.TBL_DRAIN (W tmo) statBusy).wr R.TBL_DRAIN_EP (s.rd R.TBL_EPOCH)) := by
      show done s (s.byPort req R.TBL_DRAIN (W (tmo % 65536)) false (fun t => t.drainAct req (W (tmo % 65536)))) = _
      rw [Nat.mod_eq_of_lt htmo, State.byPort_admitted s _ _ _ _ hadm, State.drainAct_accepted req _ hidle]
    have hbits : ∀ l : Loc, l.addr = R.TBL_DRAIN → (State.passOn s ((s.putCmd R.TBL_DRAIN (W tmo) statBusy).wr R.TBL_DRAIN_EP
        (s.rd R.TBL_EPOCH))).g l = (s.putCmd R.TBL_DRAIN (W tmo) statBusy).g l := fun l hl => by
      rw [g_passOn _ _ (by rw [hl]; decide), State.g_wr_ne _ _ _ (by rw [hl]; decide)]
    refine ⟨_, hexec, ?_, ?_, ?_, ?_⟩
    · rw [rd_passOn _ _ (by decide), State.rd_wr_same]
    · refine (hbits ⟨R.TBL_DRAIN, 30, 2⟩ rfl).trans (State.stat_putCmd s hrow ?_ (W tmo) (by decide))
      rw [hcmd]
      decide
    · refine (hbits ⟨R.TBL_DRAIN, 0, 16⟩ rfl).trans ((State.g_putCmd (l := ⟨R.TBL_DRAIN, 0, 16⟩) hrow (by decide) ?_).trans ?_)
      · rw [hcmd]
        decide
      · simp only [fieldOf, W_toNat]
        omega
    · exact ((Kept.putCmd s R.TBL_DRAIN (W tmo) statBusy).trans (Kept.wr _ R.TBL_DRAIN_EP _)).passOn s
  case drained =>
    intro s hbusy hold
    refine ⟨_, congrArg (done s) (State.drained_of_none hbusy hold), ?_, ?_,
      ((Kept.setStat s R.TBL_DRAIN statDone).trans (Kept.ev _ R.TBL_EVT.DRAINED)).passOn s⟩
    · rw [State.stat, g_passOn _ _ (by decide)]
      exact (State.g_p_ne _ _ _ _ (by decide)).trans (State.g_p_fits s statDone rfl)
    · rw [g_passOn _ _ (by decide)]
      exact State.g_ev_same _ _ (by decide) (by decide)
  case timeout =>
    intro s hbusy hsave
    have hk := (Kept.setStat s R.TBL_DRAIN statFailed).trans (Kept.ev _ R.TBL_EVT.DRAIN_TMO)
    have hcount := Kept.bump ((s.setStat R.TBL_DRAIN statFailed).ev R.TBL_EVT.DRAIN_TMO) R.TBL_DRAIN_TMO_LO
    refine ⟨_, congrArg (done s) (State.drainTmo_of_busy hbusy), ?_, ?_, ?_, (hk.trans hcount).passOn s⟩
    · rw [State.stat, g_passOn _ _ (by decide), hcount.g_eq (by decide) (by decide)]
      exact (State.g_p_ne _ _ _ _ (by decide)).trans (State.g_p_fits s statFailed rfl)
    · rw [g_passOn _ _ (by decide), hcount.g_eq (by decide) (by decide)]
      exact State.g_ev_same _ _ (by decide) (by decide)
    · rw [rd64_passOn _ _ (by decide) (by decide), State.rd64_bump _ _ (by rw [hk.saving_eq (by decide), hsave]),
        hk.rd64_eq (by decide) (by decide) (by decide) (by decide)]

end

section
/-! SUPPORT. Learning, ageing and scrubbing (R125, R128-R130). -/

namespace Sys2Proof.Machine

/-! ### Learning (R125) -/

/-- The state once the learn engine has taken a request, `rest` being those that wait. -/
def State.learnTaken (s : State) (rest : List LearnReq) : State := { s with tbl := { s.tbl with fifo := rest } }.learnLevel

theorem TblKept.learnTaken (s : State) (rest : List LearnReq) : TblKept s (s.learnTaken rest) [R.TBL_LEARN_STS] :=
  (TblKept.tables s _).trans (TblKept.of_kept (Kept.p _ R.TBL_LEARN_STS.LEVEL _))

theorem SameLookup.learnTaken (s : State) (rest : List LearnReq) : SameLookup s (s.learnTaken rest) :=
  ⟨rfl, rfl, (TblKept.learnTaken s rest).g_eq (by decide) (by decide)⟩

theorem State.level_learnTaken (s : State) {rest : List LearnReq} (h : rest.length < 256) :
    (s.learnTaken rest).g R.TBL_LEARN_STS.LEVEL = rest.length := by
  unfold State.learnTaken State.learnLevel
  rw [State.g_p_fits _ _ rfl]
  exact Nat.mod_eq_of_lt (Nat.lt_trans h (by decide))

/-- The learning entry that a request makes at second `sec` (R118, R125). -/
def LearnReq.entry (r : LearnReq) (sec : Nat) : Ent := ⟨r.lo, r.hi, W (2 ^ 31 + (r.port % 32) * 2 ^ 23), W sec⟩

/-- The oldest request, for a key that is unknown and has a way of its first bucket free, is learnt there. -/
theorem State.learnProcess_of_free {s : State} {r : LearnReq} {rest : List LearnReq} {w : Nat} (hfifo : s.tbl.fifo = r :: rest)
    (hkey : r.hi &&& 0x0FFFFFFF = r.hi) (hfind : s.findKey (r.lo, r.hi) = none)
    (hclean : ∀ j ∈ s.waysOf (r.lo, r.hi), s.entBad 3 j = 0) (hfree : s.freeWay (s.buckets (r.lo, r.hi)).1 = some w)
    (hidle : s.tblBusy = false) (hwait : s.tbl.waiting = []) :
    s.learnProcess false = ((s.learnTaken rest).setEnt 3 ((s.buckets (r.lo, r.hi)).1 * 4 + w) (r.entry (s.g R.TBL_NOW.SEC))).bump
      R.TBL_LEARN_LO := by
  have hsame := SameLookup.learnTaken s rest
  have hnow : (s.learnTaken rest).g R.TBL_NOW.SEC = s.g R.TBL_NOW.SEC := (TblKept.learnTaken s rest).g_eq (by decide) (by decide)
  have hkeyed : (r.entry (s.g R.TBL_NOW.SEC)).key = (r.lo, r.hi) := congrArg (Prod.mk r.lo) hkey
  have hroom : (s.learnTaken rest).findRoom (r.entry (s.g R.TBL_NOW.SEC)).key =
      (s.learnTaken rest, some ((s.buckets (r.lo, r.hi)).1 * 4 + w)) := by rw [hkeyed, hsame.findRoom hfree]
  have hfound : ({ s with tbl := { s.tbl with fifo := rest } }.learnLevel).search (r.lo, r.hi) = (s.learnTaken rest, none) :=
    (hsame.search hclean).trans (by rw [hfind])
  have hgo : (s.tblBusy || !s.tbl.waiting.isEmpty) = false := by simp [hidle, hwait]
  unfold LearnReq.entry at hroom ⊢
  unfold State.learnProcess
  simp only [hfifo, hgo, Bool.false_eq_true, if_false, hfound, State.learnNew, hnow, hroom]
  rfl

/-! ### Ageing (R128) -/

/-- What the scanner's visit at second `now` makes of an entry whose words hold good parity, with the age limit `lim`. -/
def Ent.visited (e : Ent) (now lim : Nat) : Ent :=
  if !e.valid 3 then e
  else if !e.isStatic && lim != 0 && decide (lim ≤ (now + 65536 - e.age) % 65536) then (e.setMv 0).setValid 3 false
  else if 32768 ≤ (now + 65536 - e.age) % 65536 then (e.setMv 0).setAge ((now + 32768) % 65536)
  else e.setMv 0

/-- The visit leaves what is not valid. -/
theorem Ent.visited_of_invalid {e : Ent} (now lim : Nat) (h : e.valid 3 = false) : e.visited now lim = e := by
  unfold Ent.visited
  simp [h]

/-- The visit ages out an entry past the limit that is not STATIC. -/
theorem Ent.valid_visited_of_old {e : Ent} {now lim : Nat} (hvalid : e.valid 3 = true) (hstatic : e.isStatic = false) (hlim : lim ≠ 0)
    (hold : lim ≤ (now + 65536 - e.age) % 65536) : (e.visited now lim).valid 3 = false := by
  have hcond : (!e.isStatic && lim != 0 && decide (lim ≤ (now + 65536 - e.age) % 65536)) = true := by simp [hstatic, hlim, hold]
  unfold Ent.visited
  rw [if_neg (by simp [hvalid]), if_pos hcond]
  exact Ent.valid_setValid 3 _ false

/-- From `s` to `t` the scanner has visited the learning entries `js`: their contents, the parity of entries and the counter of aged
entries alone have changed. -/
structure Visited (s t : State) (js : List Nat) : Prop where
  frame : TblKept s t [R.TBL_AGED_LO, R.TBL_AGED_LO + 4]
  sweep : t.tbl.sweep = s.tbl.sweep
  entries : ∀ j ∈ js, t.ent 3 j = (s.ent 3 j).visited (s.g R.TBL_NOW.SEC) (s.g R.TBL_AGE.LIMIT)
  others : ∀ n, (∀ j ∈ js, n ≠ entNo 3 j) → t.tbl.ents.get (fun _ => {}) n = s.tbl.ents.get (fun _ => {}) n
  clean : ∀ j, s.entBad 3 j = 0 → t.entBad 3 j = 0

namespace Visited

variable {s t u : State}

/-- An entry that is stored as the visit makes it. -/
theorem setEnt (s : State) (i : Nat) : Visited s (s.setEnt 3 i ((s.ent 3 i).visited (s.g R.TBL_NOW.SEC) (s.g R.TBL_AGE.LIMIT))) [i] where
  frame := (TblKept.tables s _).mono (by simp)
  sweep := rfl
  entries j hj := by
    obtain rfl := List.mem_singleton.mp hj
    exact State.ent_setEnt_same s 3 j _
  others n hn := s.ents_setEnt_ne _ (hn i List.mem_cons_self)
  clean j hj := by
    by_cases h : j = i
    · rw [h]
      exact State.entBad_setEnt_same s 3 i _
    · exact (s.entBad_setEnt_ne _ h).trans hj

/-- A count of aged entries follows. -/
theorem bump {js : List Nat} (h : Visited s t js) : Visited s (t.bump R.TBL_AGED_LO) js := by
  have hk := Kept.bump t R.TBL_AGED_LO
  obtain ⟨frame, sweep, entries, others, clean⟩ := h
  refine ⟨(frame.trans (TblKept.of_kept hk)).mono (by simp), ?_, fun j hj => ?_, fun n hn => ?_, fun j hj => ?_⟩
  · rw [hk.tbl_eq, sweep]
  · rw [State.ent, hk.tbl_eq]
    exact entries j hj
  · rw [hk.tbl_eq, others n hn]
  · rw [State.entBad, hk.tbl_eq]
    exact clean j hj

theorem trans {js ks : List Nat} (h : Visited s t js) (k : Visited t u ks) (hd : ∀ j ∈ js, j ∉ ks) : Visited s u (js ++ ks) where
  frame := (h.frame.trans k.frame).mono (by simp)
  sweep := k.sweep.trans h.sweep
  entries j hj := by
    have hnow : t.g R.TBL_NOW.SEC = s.g R.TBL_NOW.SEC := h.frame.g_eq (by decide) (by decide)
    have hlim : t.g R.TBL_AGE.LIMIT = s.g R.TBL_AGE.LIMIT := h.frame.g_eq (by decide) (by decide)
    by_cases hk : j ∈ ks
    · have hjs : ∀ i ∈ js, entNo 3 j ≠ entNo 3 i := fun i hi he => hd i hi (entNo_inj.mp he ▸ hk)
      rw [k.entries j hk, hnow, hlim]
      exact congrArg (Ent.visited · _ _) (h.others _ hjs)
    · have hks : ∀ i ∈ ks, entNo 3 j ≠ entNo 3 i := fun i hi he => hk (entNo_inj.mp he ▸ hi)
      exact (k.others _ hks).trans (h.entries j ((List.mem_append.mp hj).resolve_right hk))
  others n hn := (k.others n (fun j hj => hn j (List.mem_append_right _ hj))).trans
    (h.others n (fun j hj => hn j (List.mem_append_left _ hj)))
  clean j hj := k.clean j (h.clean j hj)

theorem refl_of_invalid (s : State) {i : Nat} (h : (s.ent 3 i).valid 3 = false) : Visited s s [i] where
  frame := Kept.refl _ _
  sweep := rfl
  entries j hj := by
    obtain rfl := List.mem_singleton.mp hj
    rw [Ent.visited_of_invalid _ _ h]
  others _ _ := rfl
  clean _ hj := hj

/-- The visit of one way whose words hold good parity. -/
theorem ageWay {i : Nat} (hclean : s.entBad 3 i = 0) : Visited s (s.ageWay i 0) [i] := by
  have hset := setEnt s i
  unfold Ent.visited at hset
  unfold State.ageWay
  simp only [hclean, Nat.or_self, bne_self_eq_false, Bool.false_eq_true, if_false]
  split
  case isTrue h => exact refl_of_invalid s (by simpa using h)
  case isFalse h =>
    rw [if_neg h] at hset
    split
    case isTrue hold =>
      rw [if_pos hold] at hset
      exact hset.bump
    case isFalse hyoung =>
      rw [if_neg hyoung] at hset
      split
      case isTrue hfar => rwa [if_pos hfar] at hset
      case isFalse hnear => rwa [if_neg hnear] at hset

/-- The visit of several ways of bucket `b`. -/
theorem each_ageWay {b : Nat} (ws : List Nat) (hnodup : ws.Nodup) (hclean : ∀ w ∈ ws, s.entBad 3 (b * 4 + w) = 0) :
    Visited s (s.each ws (fun w t => t.ageWay (b * 4 + w) 0)) (ws.map (b * 4 + ·)) := by
  induction ws generalizing s with
  | nil => exact ⟨Kept.refl _ _, rfl, fun j hj => absurd hj List.not_mem_nil, fun _ _ => rfl, fun _ hj => hj⟩
  | cons w ws ih =>
    obtain ⟨hw, hws⟩ := List.nodup_cons.mp hnodup
    have hfirst : Visited s (s.ageWay (b * 4 + w) 0) [b * 4 + w] := ageWay (hclean w List.mem_cons_self)
    have hrest := ih (s := s.ageWay (b * 4 + w) 0) hws (fun x hx => hfirst.clean _ (hclean x (List.mem_cons_of_mem w hx)))
    refine hfirst.trans hrest (fun j hj hmem => ?_)
    obtain rfl := List.mem_singleton.mp hj
    obtain ⟨x, hx, he⟩ := List.mem_map.mp hmem
    obtain rfl : x = w := Nat.add_left_cancel he
    exact hw hx

end Visited

/-- The state as the sweep goes on to bucket `b`. -/
def State.sweepTo (s : State) (b : Nat) : State := { s with tbl := { s.tbl with sweep := some b } }

/-- The scan of a bucket that is not the last, with no word found to fail parity by the scan. -/
theorem State.ageBucket_of_clean {s : State} {b : Nat} (hsweep : s.tbl.sweep = some b) (hb : b + 1 < 4096) :
    s.ageBucket 0 = (s.sweepTo (b + 1)).each (List.range 4) (fun w t => t.ageWay (b * 4 + w) 0) := by
  unfold State.ageBucket
  simp only [hsweep, hb, if_true, Nat.zero_div, Nat.zero_mod]
  rfl

/-! ### Scrubbing (R129, R130) -/

/-- A detection in an entry of another table than the learning table is counted, logged and reported. -/
theorem State.parityHit_of_lookup {s : State} {t i : Nat} (ht : t < 3) (hi : i < 16384) :
    s.parityHit t i = (((s.bump R.TBL_PAR_ERR_LO).ev R.TBL_EVT.PERR).wr R.TBL_PERR_LOG
      (W (t * 2 ^ 30 + lowWord (s.entBad t i) * 2 ^ 14 + i))).fault (64 + t) (faultInfo 1 t i) := by
  have hne : ¬ t = 3 := by omega
  unfold State.parityHit
  rw [Nat.mod_eq_of_lt (show t < 4 by omega), Nat.mod_eq_of_lt hi]
  simp only [hne, false_and, if_false]

theorem State.scrub_of_bad {s : State} {t i bad : Nat} (ht : t < 3) (hi : i < 16384) (hpos : 0 < bad) (hbad : bad < 16)
    (hclean : s.entBad t i = 0) :
    s.scrub t i bad = ((((s.setBad t i bad).bump R.TBL_PAR_ERR_LO).ev R.TBL_EVT.PERR).wr R.TBL_PERR_LOG
      (W (t * 2 ^ 30 + lowWord bad * 2 ^ 14 + i))).fault (64 + t) (faultInfo 1 t i) := by
  have hmark : (s.setBad t i bad).entBad t i = bad := by rw [State.entBad, State.setBad, Tab.get_set_same]
  have hscrub : s.scrub t i bad = (s.setBad t i bad).parityHit t i := by
    unfold State.scrub
    rw [if_neg (by omega), hclean, Nat.mod_eq_of_lt hbad, Nat.zero_or, if_neg (by omega)]
  rw [hscrub, State.parityHit_of_lookup ht hi, hmark]

theorem tableSize_le (t : Nat) : tableSize t ≤ 16384 := by
  unfold tableSize
  split_ifs <;> decide

end Sys2Proof.Machine

open Sys2Proof Sys2Proof.Machine

/-- Settles O25: the learn engine stores its entry and counts it; the scan of a bucket visits its four ways, each by itself; an entry
found bad is marked, and the detection follows. -/
theorem learningAndAgeing : Obligations.LearningAndAgeing := by
  unfold Obligations.LearningAndAgeing
  refine ⟨?learn, ?second, ?scan, ?scrub⟩
  case learn =>
    intro s r rest w hfifo hlen hkey hfind hclean hfree hsave hidle hwait
    have hlearn := State.learnProcess_of_free hfifo hkey hfind hclean hfree hidle hwait
    generalize (s.buckets (r.lo, r.hi)).1 * 4 + w = i at hlearn ⊢
    have hk : TblKept s ((s.learnTaken rest).setEnt 3 i (r.entry (s.g R.TBL_NOW.SEC))) [R.TBL_LEARN_STS] :=
      (TblKept.learnTaken s rest).trans (TblKept.tables _ _)
    have hcount := Kept.bump ((s.learnTaken rest).setEnt 3 i (r.entry (s.g R.TBL_NOW.SEC))) R.TBL_LEARN_LO
    refine ⟨_, congrArg (done s) hlearn, ?_, fun n hn => ?_, ?_, ?_, ?_, (hk.trans (TblKept.of_kept hcount)).passOn s⟩
    · rw [State.ent, passOn_tbl, hcount.tbl_eq]
      exact State.ent_setEnt_same _ 3 i _
    · rw [passOn_tbl, hcount.tbl_eq]
      exact State.ents_setEnt_ne (s.learnTaken rest) _ hn
    · rw [passOn_tbl, hcount.tbl_eq]
      rfl
    · rw [g_passOn _ _ (by decide), hcount.g_eq (by decide) (by decide)]
      exact s.level_learnTaken hlen
    · have hsaving : ((s.learnTaken rest).setEnt 3 i (r.entry (s.g R.TBL_NOW.SEC))).saving = false :=
        (hk.saving_eq (by decide)).trans hsave
      rw [rd64_passOn _ _ (by decide) (by decide), State.rd64_bump _ _ hsaving, hk.rd64_eq (by decide) (by decide) (by decide) (by decide)]
  case second =>
    intro s
    refine ⟨_, rfl, ?_, passOn_tbl s _, ?_⟩
    · rw [g_passOn _ _ (by decide)]
      exact State.g_p_fits s _ rfl
    · exact ((TblKept.of_kept (Kept.p s R.TBL_NOW.SEC _)).trans (TblKept.tables _ _)).passOn s
  case scan =>
    intro s b hsweep hb hclean
    have hscan : Visited (s.sweepTo (b + 1)) ((s.sweepTo (b + 1)).each (List.range 4) (fun w t => t.ageWay (b * 4 + w) 0))
        ((List.range 4).map (b * 4 + ·)) :=
      Visited.each_ageWay (List.range 4) List.nodup_range (fun w hw => hclean w (List.mem_range.mp hw))
    rw [← State.ageBucket_of_clean hsweep hb] at hscan
    have hvisit (w : Nat) (hw : w < 4) : (State.passOn s (s.ageBucket 0)).ent 3 (b * 4 + w) =
        (s.ent 3 (b * 4 + w)).visited (s.g R.TBL_NOW.SEC) (s.g R.TBL_AGE.LIMIT) := by
      rw [State.ent, passOn_tbl]
      exact hscan.entries _ (List.mem_map.mpr ⟨w, List.mem_range.mpr hw, rfl⟩)
    refine ⟨_, rfl, ?_, fun w hw hvalid hstatic hlim hold => ?_, fun w hw hinvalid => ?_, fun n hn => ?_, ?_⟩
    · rw [passOn_tbl, hscan.sweep]
      rfl
    · rw [hvisit w hw]
      exact Ent.valid_visited_of_old hvalid hstatic hlim hold
    · rw [hvisit w hw, Ent.visited_of_invalid _ _ hinvalid]
    · rw [passOn_tbl]
      refine hscan.others n (fun j hj => ?_)
      obtain ⟨w, hw, rfl⟩ := List.mem_map.mp hj
      exact hn w (List.mem_range.mp hw)
    · exact ((TblKept.tables s _).trans hscan.frame).passOn s
  case scrub =>
    intro s table i bad htable hi hpos hbad hclean
    show done s (s.scrub table (i % tableSize table) bad) = _
    rw [Nat.mod_eq_of_lt hi, State.scrub_of_bad htable (Nat.lt_of_lt_of_le hi (tableSize_le table)) hpos hbad hclean]
    rfl

end

section
/-! SUPPORT. The plies: one that fails with no cell on it, one whose self-test ends, one that is empty, and the command SW_PLY_CMD
with the end of its retest (R48, R168, R170, R171). -/

namespace Sys2Proof.Machine

/-! ### The state of a ply -/

theorem Kept.setPly (s : State) (p v : Nat) : Kept s (s.setPly p v) [R.SW_PLY_STS] := Kept.p s (plyLoc p) v

theorem plyLoc_fits {p : Nat} (hp : p < 5) : (plyLoc p).fits = true := decide_eq_true (by simp only [plyLoc]; omega)

theorem State.ply_setPly_same (s : State) {p v : Nat} (hp : p < 5) (hv : v < 8) : (s.setPly p v).ply p = v := by
  rw [State.ply, State.setPly, State.g_p_fits s v (plyLoc_fits hp)]
  exact Nat.mod_eq_of_lt hv

theorem plyLoc_pass (p : Nat) : (plyLoc p).addr ∉ passRegs := (by decide : R.SW_PLY_STS ∉ passRegs)

theorem ply_passOn (s0 s : State) (p : Nat) : (State.passOn s0 s).ply p = s.ply p := g_passOn s0 s (plyLoc_pass p)

/-! ### Failure (R168, R170) -/

/-- The failure of a ply is no FATAL source (R447). -/
theorem faultClass_ply {p : Nat} (hp : p < 5) : faultClass (80 + p) ≠ 3 := by interval_cases p <;> decide

theorem Standing.fault (s : State) {n : Nat} (info : Word) (h : faultClass n ≠ 3) : Standing s (s.fault n info) := by
  rw [State.fault_of_class h]
  exact Standing.of_kept (Kept.capture s n info)

theorem Standing.bringSpare (s : State) : Standing s s.bringSpare := by
  unfold State.bringSpare
  split
  · exact Standing.ite (Standing.p s _ _) (Standing.refl s)
  · exact Standing.refl s

theorem Standing.plyTouch (s : State) (p : Nat) : Standing s (s.plyTouch p) := by
  unfold State.plyTouch
  extract_lets short s1 s2
  have hs1 : Standing s s1 := Standing.ite (Standing.fault s _ (by decide)) (Standing.refl s)
  have hs2 : Standing s s2 := hs1.trans (Standing.p s1 _ _)
  exact Standing.ite (hs2.trans (Standing.ev s2 _)) hs2

theorem Standing.plyBad (s : State) {p : Nat} (hp : p < 5) : Standing s (s.plyBad p) :=
  (((Standing.p s _ _).trans (Standing.ev _ _)).trans (Standing.bump _ _)).trans (Standing.fault _ _ (faultClass_ply hp))

theorem State.sw_plyBad (s : State) {p : Nat} (hp : p < 5) : (s.plyBad p).sw = s.sw := by
  unfold State.plyBad
  rw [State.fault_of_class (faultClass_ply hp), (Kept.capture _ _ _).sw_eq, (Kept.bump _ _).sw_eq, (Kept.ev _ _).sw_eq,
    (Kept.setPly _ _ _).sw_eq]

/-- The state once ply `p` has left the rotation with no cell on it, to be replaced by the next that trains. -/
def State.plyOut (s : State) (p : Nat) : State := { s.plyBad p with sw := { (s.plyBad p).sw with replaced := some p } }

/-- The state once the spare trains in its place. -/
def State.plyReplaced (s : State) (p : Nat) : State := (s.plyOut p).bringSpare.plyTouch p

theorem Standing.plyOut (s : State) {p : Nat} (hp : p < 5) : Standing s (s.plyOut p) := Standing.plyBad s hp

theorem Standing.plyReplaced (s : State) {p : Nat} (hp : p < 5) : Standing s (s.plyReplaced p) :=
  ((Standing.plyOut s hp).trans (Standing.bringSpare _)).trans (Standing.plyTouch _ p)

/-- An ACTIVE ply without a cell fails, others being in service: none is lost, and the Carcass serves on. -/
theorem State.plyFail_of_empty {s : State} {p : Nat} (hp : p < 5) (hactive : s.ply p = plyActive)
    (hempty : ∀ c ∈ s.sw.flight, c.ply ≠ p) (hserve : (s.plyReplaced p).inService ≠ []) : s.plyFail p = s.plyReplaced p := by
  have hlost : s.sw.flight.filter (fun c => c.ply == p) = [] := List.filter_eq_nil_iff.mpr (fun c hc => by simpa using hempty c hc)
  have hleft : s.sw.flight.filter (not ∘ fun c => c.ply == p) = s.sw.flight :=
    List.filter_eq_self.mpr (fun c hc => by simpa using hempty c hc)
  have hnone : (s.plyBad p).sw.flight.partition (fun c => c.ply == p) = ([], (s.plyBad p).sw.flight) := by
    rw [List.partition_eq_filter_filter, s.sw_plyBad hp, hlost, hleft]
  have hcarries : s.plyCarries p = true := by simp [State.plyCarries, hp, hactive]
  unfold State.plyFail
  rw [hcarries, if_neg (by decide)]
  simp only [hnone]
  exact if_neg (mt List.isEmpty_iff.mp hserve)

/-! ### Self-test and draining (R168) -/

theorem State.plyReady_of_passed {s : State} {p : Nat} (hp : p < 5) (htraining : s.ply p = plyTraining) (hspare : s.sw.replaced = none) :
    s.plyReady p true = ((s.setPly p plyActive).ev R.SW_EVT.PLY_READY).plyTouch p := by
  unfold State.plyReady
  simp [Nat.not_le.mpr hp, htraining, hspare]

theorem State.plyDrained_of_empty {s : State} {p : Nat} (hp : p < 5) (hdraining : s.ply p = plyDraining)
    (hempty : ∀ c ∈ s.sw.flight, c.ply ≠ p) : s.plyDrained p = (s.bringSpare.setPly p plySpare).plyTouch p := by
  have hnone : s.sw.flight.any (fun c => c.ply == p) = false := List.any_eq_false.mpr (fun c hc => by simpa using hempty c hc)
  unfold State.plyDrained
  simp [Nat.not_le.mpr hp, hdraining, hnone]

/-! ### SW_PLY_CMD (R48, R171) -/

/-- The fields of a command word for ply `p`: OP and PLY. -/
theorem plyWord_fields {p op : Nat} (hp : p < 5) (hop : op < 8) :
    fieldOf (W (8 * p + op)) 0 3 = op ∧ fieldOf (W (8 * p + op)) 3 3 = p := by
  simp only [fieldOf, W_toNat]
  omega

/-- An idle SW_PLY_CMD stores the fields of an operation it accepts: RETIRE is done at once, RETEST stays busy. -/
theorem State.plyCommand_accepted {s : State} {req p op : Nat} (hp : p < 5) (hop : op < 8)
    (hadm : Admitted s req R.SW_PLY_CMD (W (8 * p + op))) (hidle : s.stat R.SW_PLY_CMD ≠ statBusy) (hok : s.plyCmdOk op p = true) :
    s.plyCommand req (W (8 * (p % 8) + op)) = (fun u : State => if op = 1 then u.setPly p plyDraining else u)
      (s.putCmd R.SW_PLY_CMD (W (8 * p + op)) (if op = 2 then statBusy else statDone)) := by
  obtain ⟨hwop, hwply⟩ := plyWord_fields hp hop
  rw [Nat.mod_eq_of_lt (Nat.lt_trans hp (by decide)), State.plyCommand, State.byPort_admitted s _ _ _ _ hadm, State.plyAct]
  simp only [hwop, hwply, hok]
  exact State.command_accepted hidle

theorem exec_plyRetire {s : State} {req p : Nat} (hp : p < 5) (hadm : Admitted s req R.SW_PLY_CMD (W (8 * p + 1)))
    (hidle : s.stat R.SW_PLY_CMD ≠ statBusy) (hactive : s.ply p = plyActive) (hothers : 3 ≤ s.otherPlies p) :
    exec (.plyRetire req p) s = done s ((s.putCmd R.SW_PLY_CMD (W (8 * p + 1)) statDone).setPly p plyDraining) :=
  congrArg (done s) (State.plyCommand_accepted hp (by decide) hadm hidle (by simp [State.plyCmdOk, hp, hactive, hothers]))

theorem exec_plyRetest {s : State} {req p : Nat} (hp : p < 5) (hadm : Admitted s req R.SW_PLY_CMD (W (8 * p + 2)))
    (hidle : s.stat R.SW_PLY_CMD ≠ statBusy) (hfailed : s.ply p = plyFailed) :
    exec (.plyRetest req p) s = done s (s.putCmd R.SW_PLY_CMD (W (8 * p + 2)) statBusy) :=
  congrArg (done s) (State.plyCommand_accepted hp (by decide) hadm hidle (by simp [State.plyCmdOk, hp, hfailed]))

theorem rowOf_plyCmd : ∃ r, rowOf R.SW_PLY_CMD = some r ∧ r.cmd = 0xc000003f := ⟨_, rfl, rfl⟩

theorem State.stat_putCmd_ply (s : State) (v : Word) {st : Nat} (hst : st < 4) : (s.putCmd R.SW_PLY_CMD v st).stat R.SW_PLY_CMD = st := by
  obtain ⟨r, hrow, hcmd⟩ := rowOf_plyCmd
  refine s.stat_putCmd hrow ?_ v hst
  rw [hcmd]
  decide

theorem State.plyField_putCmd (s : State) (v : Word) (st : Nat) :
    (s.putCmd R.SW_PLY_CMD v st).g R.SW_PLY_CMD.PLY = fieldOf v 3 3 := by
  obtain ⟨r, hrow, hcmd⟩ := rowOf_plyCmd
  refine State.g_putCmd (l := R.SW_PLY_CMD.PLY) hrow (by decide) ?_
  rw [hcmd]
  decide

theorem State.plyRetestDone_of_busy {s : State} (pass : Bool) (hbusy : s.stat R.SW_PLY_CMD = statBusy) :
    s.plyRetestDone pass =
      if pass then ((s.setStat R.SW_PLY_CMD statDone).setPly (s.g R.SW_PLY_CMD.PLY) plySpare).plyTouch (s.g R.SW_PLY_CMD.PLY)
      else s.setStat R.SW_PLY_CMD statFailed := by
  unfold State.plyRetestDone
  rw [hbusy]
  rfl

end Sys2Proof.Machine

open Sys2Proof Sys2Proof.Machine

/-- Settles O27: with no cell on the ply that fails nothing is lost, and no transmission ends; RETIRE and RETEST store their fields,
and RETIRE the state of its ply too; the ends of self-test, draining and retest are what the model makes of them. -/
theorem plyCommands : Obligations.PlyCommands := by
  unfold Obligations.PlyCommands
  refine ⟨?fail, ?ready, ?drained, ?retire, ?retest, ?passed, ?failed⟩
  case fail =>
    intro s p hp hactive hempty hserve
    have hsettle : (s.plyFail p).txSettle s = s.plyReplaced p := by
      rw [State.plyFail_of_empty hp hactive hempty hserve]
      exact (Standing.plyReplaced s hp).txSettle
    exact congrArg (done s) hsettle
  case ready => exact fun s p hp htraining hspare => congrArg (done s) (State.plyReady_of_passed hp htraining hspare)
  case drained => exact fun s p hp hdraining hempty => congrArg (done s) (State.plyDrained_of_empty hp hdraining hempty)
  case retire =>
    intro s req p hp hadm hidle hactive hothers
    refine ⟨_, exec_plyRetire hp hadm hidle hactive hothers, ?_, ?_, ?_⟩
    · rw [ply_passOn]
      exact State.ply_setPly_same _ hp (by decide)
    · rw [State.stat, g_passOn _ _ (by decide), State.setPly, State.g_p_ne _ _ _ _ (by simp only [plyLoc]; decide)]
      exact s.stat_putCmd_ply _ (by decide)
    · exact ((Kept.putCmd s R.SW_PLY_CMD _ _).trans (Kept.setPly _ p _)).passOn s
  case retest =>
    intro s req p hp hadm hidle hfailed
    obtain ⟨-, hply⟩ := plyWord_fields hp (by decide : 2 < 8)
    refine ⟨_, exec_plyRetest hp hadm hidle hfailed, ?_, ?_, (Kept.putCmd s R.SW_PLY_CMD _ _).passOn s⟩
    · rw [State.stat, g_passOn _ _ (by decide)]
      exact s.stat_putCmd_ply _ (by decide)
    · rw [g_passOn _ _ (by decide), s.plyField_putCmd, hply]
  case passed => exact fun s hbusy => congrArg (done s) (State.plyRetestDone_of_busy true hbusy)
  case failed =>
    intro s hbusy
    exact ⟨_, congrArg (done s) (State.plyRetestDone_of_busy false hbusy), stat_passOn_setStat s s (by decide) (by decide),
      (Kept.setStat s R.SW_PLY_CMD _).passOn s⟩

end

section
/-! SUPPORT. The registers and the own state of a stream context: what each operation leaves, and the enabling and disabling of a
context (R183, R189, R190, R195, R199). -/

namespace Sys2Proof.Machine

/-! ### Registers of the stream region -/

theorem passRegs_outside_str : ∀ a ∈ passRegs, a < 0x1000000 ∨ 0x1400000 ≤ a := by decide

/-- No register of the stream region, of a context or of its counters, is one that passing events on may change. -/
theorem strReg_pass {j w n : Nat} (hlo : 0x1000000 ≤ j) (hhi : j < 0x1030000) (hw : w ≤ 0x80) (hn : n < 256) :
    j + w * n ∉ passRegs := by
  intro h
  have hstr := passRegs_outside_str _ h
  have hle : w * n ≤ 0x80 * 256 := Nat.mul_le_mul hw hn.le
  omega

/-- Nor is the upper word of a pair. -/
theorem strReg_hi_pass {j w n : Nat} (hlo : 0x1000000 ≤ j) (hhi : j < 0x1030000) (hw : w ≤ 0x80) (hn : n < 256) :
    j + w * n + 4 ∉ passRegs := by
  intro h
  have hstr := passRegs_outside_str _ h
  have hle : w * n ≤ 0x80 * 256 := Nat.mul_le_mul hw hn.le
  omega

theorem strCfg_pass {n : Nat} (hn : n < 256) : R.STR_CFG n ∉ passRegs := strReg_pass (by decide) (by decide) (Nat.le_refl _) hn

theorem strSts_pass {n : Nat} (hn : n < 256) : R.STR_STS n ∉ passRegs := strReg_pass (by decide) (by decide) (Nat.le_refl _) hn

/-- A field of context `n` reads after events have been passed on as before. -/
theorem g_passOn_str (s0 s : State) {l : Loc} {j n : Nat} (hn : n < 256) (hl : l.addr = j + 0x80 * n) (hlo : 0x1000000 ≤ j)
    (hhi : j < 0x1000080) : (State.passOn s0 s).g l = s.g l :=
  g_passOn s0 s (hl ▸ strReg_pass hlo (hhi.trans (by decide)) (Nat.le_refl _) hn)

theorem rd64_passOn_str (s0 s : State) {a j w n : Nat} (hn : n < 256) (ha : a = j + w * n) (hlo : 0x1000000 ≤ j)
    (hhi : j < 0x1030000) (hw : w ≤ 0x80) : (State.passOn s0 s).rd64 a = s.rd64 a := by
  subst ha
  exact rd64_passOn s0 s (strReg_pass hlo hhi hw hn) (strReg_hi_pass hlo hhi hw hn)

/-- The registers of a context are below those of the budget and its event. -/
theorem ctxReg_off_budget {j n : Nat} (hn : n < 256) (hhi : j < 0x1000080) : j + 0x80 * n ∉ [R.STR_BUDGET, R.STR_EVT0] := by
  simp only [List.mem_cons, List.not_mem_nil, or_false, R.STR_BUDGET, R.STR_EVT0]
  omega

/-- And below the counters. -/
theorem ctxReg_off_counter {j k n : Nat} (hn : n < 256) (hhi : j < 0x1000080) (hk : 0x1020000 ≤ k) :
    j + 0x80 * n ∉ [k + 8 * n, k + 8 * n + 4] := by
  simp only [List.mem_cons, List.not_mem_nil, or_false]
  omega

/-- Every context has the registers of context 0. -/
theorem rowOf_ctx {j n : Nat} (hn : n < 256) (hj : j < 0x80) : rowOf (0x1000000 + j + 0x80 * n) = rowOf (0x1000000 + j) := by
  have hregion : ∀ a, 0x1000000 ≤ a → a < 0x1400000 → regionOf a = 6 := fun a hlo hhi =>
    regionOf_eq (fun b hb => ((by decide : ∀ b ∈ regionBases.take 7, b ≤ 0x1000000) b hb).trans hlo)
      (fun b hb => Nat.lt_of_lt_of_le hhi ((by decide : ∀ b ∈ regionBases.drop 7, 0x1400000 ≤ b) b hb)) (by decide)
  have harray : ∀ r ∈ rowsStr, 0x1010000 ≤ r.base ∨
      (r.s1 = 0x80 ∧ r.c1 = 256 ∧ r.s2 = 0 ∧ r.c2 = 1 ∧ 0x1000000 ≤ r.base ∧ r.base < 0x1000080) := by decide
  have hholds : ∀ r ∈ rowsStr, r.holds (0x1000000 + j + 0x80 * n) = r.holds (0x1000000 + j) := by
    intro r hr
    rw [Bool.eq_iff_iff]
    rcases harray r hr with hbase | ⟨hs1, hc1, hs2, hc2, hlo, hhi⟩
    · simp only [Row.holds, Bool.and_eq_true, decide_eq_true_eq]
      omega
    · simp only [Row.holds, hs1, hc1, hs2, hc2, Bool.and_eq_true, decide_eq_true_eq, OfNat.ofNat_ne_zero, if_false, if_true]
      omega
  rw [rowOf, rowOf, hregion _ (by omega) (by omega), hregion _ (by omega) (by omega)]
  exact List.find?_congr hholds

theorem rowOf_strCfg {n : Nat} (hn : n < 256) : ∃ r, rowOf (R.STR_CFG n) = some r ∧ r.rw ||| r.rwg = 0xffffe000 :=
  ⟨_, (rowOf_ctx (j := 0) hn (by decide)).trans rfl, rfl⟩

/-- The register of key entry `e` of context `n`: A or B. -/
def keyReg (n e : Nat) : Nat := if e = 0 then R.STR_KEYA n else R.STR_KEYB n

theorem keyReg_eq (n e : Nat) : keyReg n e = 0x1000000 + (if e = 0 then 0x10 else 0x14) + 0x80 * n := by
  unfold keyReg
  split <;> rfl

theorem rowOf_keyReg {n : Nat} (hn : n < 256) (e : Nat) : ∃ r, rowOf (keyReg n e) = some r ∧ r.rw ||| r.rwg = 0x800fffff := by
  rw [keyReg_eq, rowOf_ctx hn (by split <;> decide)]
  split
  · exact ⟨_, rfl, rfl⟩
  · exact ⟨_, rfl, rfl⟩

/-- AUTH reads what a write of STR_CFG gave it. -/
theorem State.auth_store (s : State) {n : Nat} (hn : n < 256) (v : Word) :
    fieldOf ((s.store (R.STR_CFG n) v).rd (R.STR_CFG n)) 28 3 = fieldOf v 28 3 := by
  obtain ⟨r, hrow, hrw⟩ := rowOf_strCfg hn
  refine State.g_store (l := ⟨R.STR_CFG n, 28, 3⟩) hrow ?_
  rw [hrw]
  exact (by decide : ∀ i, i < 3 → (W 0xffffe000).getLsbD (28 + i) = true)

/-- LABEL and SLOT read what a write of a key entry gave them. -/
theorem State.keyFields_store (s : State) {n : Nat} (hn : n < 256) (e : Nat) (v : Word) :
    (s.store (keyReg n e) v).g ⟨keyReg n e, 12, 8⟩ = fieldOf v 12 8 ∧
      (s.store (keyReg n e) v).g ⟨keyReg n e, 0, 12⟩ = fieldOf v 0 12 := by
  obtain ⟨r, hrow, hrw⟩ := rowOf_keyReg hn e
  constructor
  · refine State.g_store (l := ⟨keyReg n e, 12, 8⟩) hrow ?_
    rw [hrw]
    exact (by decide : ∀ i, i < 8 → (W 0x800fffff).getLsbD (12 + i) = true)
  · refine State.g_store (l := ⟨keyReg n e, 0, 12⟩) hrow ?_
    rw [hrw]
    exact (by decide : ∀ i, i < 12 → (W 0x800fffff).getLsbD (0 + i) = true)

/-! ### A context's own state -/

@[simp] theorem State.g_modCtx (s : State) (n : Nat) (l : Loc) (f : StrCtx → StrCtx) : (s.modCtx n f).g l = s.g l := rfl
@[simp] theorem State.rd64_modCtx (s : State) (n a : Nat) (f : StrCtx → StrCtx) : (s.modCtx n f).rd64 a = s.rd64 a := rfl

@[simp] theorem State.ctx_modCtx_same (s : State) (n : Nat) (f : StrCtx → StrCtx) : (s.modCtx n f).ctx n = f (s.ctx n) :=
  Tab.get_set_same _ _ _ _

theorem State.ctx_modCtx_ne (s : State) {n k : Nat} (f : StrCtx → StrCtx) (h : k ≠ n) : (s.modCtx n f).ctx k = s.ctx k :=
  Tab.get_set_ne _ _ _ h

@[simp] theorem State.ctx_p (s : State) (l : Loc) (v k : Nat) : (s.p l v).ctx k = s.ctx k := rfl

theorem Kept.ctx_eq {s t : State} {l : List Nat} (h : Kept s t l) (k : Nat) : t.ctx k = s.ctx k := by
  rw [State.ctx, State.ctx, h.2.2]

@[simp] theorem ctx_passOn (s0 s : State) (k : Nat) : (State.passOn s0 s).ctx k = s.ctx k := (Quiet.passOn s0 s).ctx_eq k

/-- From `s` to `t` nothing changes but the contexts' own state, the registers of `l`, and what passing events on may change. -/
abbrev StrKept (s t : State) (l : List Nat) : Prop := Kept { s with str := t.str } t l

theorem StrKept.of_kept {s t : State} {l : List Nat} (h : Kept s t l) : StrKept s t l := by
  obtain ⟨hreg, hq, hrest⟩ := h
  exact ⟨hreg, hq, by rw [hrest]⟩

theorem StrKept.trans {s t u : State} {l m : List Nat} (h : StrKept s t l) (k : StrKept t u m) : StrKept s u (l ++ m) := by
  have h' : Kept { s with str := u.str } { t with str := u.str } l := by
    obtain ⟨hreg, hq, hrest⟩ := h
    exact ⟨hreg, hq, by rw [hrest]⟩
  exact Kept.trans h' k

theorem StrKept.modCtx (s : State) (n : Nat) (f : StrCtx → StrCtx) : StrKept s (s.modCtx n f) [] := Kept.refl (s.modCtx n f) []

theorem StrKept.passOn {s u : State} {l : List Nat} (s0 : State) (h : StrKept s u l) : StrKept s (State.passOn s0 u) l := by
  unfold StrKept
  rw [passOn_str]
  exact Kept.passOn s0 h

theorem StrKept.ports_eq {s t : State} {l : List Nat} (h : StrKept s t l) : t.ports = s.ports := by rw [h.2.2]

/-- The budget's recomputation is seen in STR_BUDGET and its event alone (R183). -/
theorem Kept.budgetTouch (s : State) : Kept s s.budgetTouch [R.STR_BUDGET, R.STR_EVT0] := by
  unfold State.budgetTouch
  extract_lets l sum excess unm s1
  have hs1 : Kept s s1 [R.STR_BUDGET, R.STR_EVT0] :=
    (((Kept.p s R.STR_BUDGET.SUM _).trans (Kept.pb _ R.STR_BUDGET.OVER _)).trans (Kept.pb _ R.STR_BUDGET.UNMETERED _)).mono
      (fun a ha => .inl (by
        have hone : a = R.STR_BUDGET := by simpa [R.STR_BUDGET.SUM, R.STR_BUDGET.OVER, R.STR_BUDGET.UNMETERED] using ha
        simp [hone]))
  split
  · exact (hs1.trans (Kept.ev s1 _)).mono (fun a ha => .inl (by simpa [R.STR_EVT0.BUDGET, or_assoc] using ha))
  · exact hs1

/-! ### The enabling of a verifying context (R189, R190, R195, R199) -/

/-- A context as it starts with its fields sampled from `w`: no history, the watchdog armed unless the first frame is to arm it. -/
def StrCtx.sampled (c : StrCtx) (w : Word) : StrCtx :=
  { c with cfg := w, hist := 0, span := 0, armed := bit w.toNat 24 && !bit w.toNat 23 }

/-- Context `n` with its fields sampled from STR_CFG and its bucket full. -/
def State.ctxSampled (s : State) (n : Nat) : State :=
  (s.modCtx n (fun c => c.sampled (s.rd (R.STR_CFG n)))).setBucket n (s.g (R.STR_METER.CBS n) * 256000)

theorem State.cfg_ctxSampled (s : State) (n : Nat) : ((s.ctxSampled n).ctx n).cfg = s.rd (R.STR_CFG n) := by
  simp [State.ctxSampled, State.setBucket, StrCtx.sampled]

@[simp] theorem State.rd_ctxSampled (s : State) (n a : Nat) : (s.ctxSampled n).rd a = s.rd a := rfl

theorem State.ctx_ctxSampled_ne (s : State) {n k : Nat} (h : k ≠ n) : (s.ctxSampled n).ctx k = s.ctx k :=
  (State.ctx_modCtx_ne _ _ h).trans (State.ctx_modCtx_ne _ _ h)

theorem StrKept.ctxSampled (s : State) (n : Nat) : StrKept s (s.ctxSampled n) [] :=
  (StrKept.modCtx s n _).trans (StrKept.modCtx _ n _)

/-- Context `n` goes ACTIVE, and the budget follows. -/
def State.ctxActivated (s : State) (n : Nat) : State := (s.setCtxState n ctxActive).budgetTouch

theorem Kept.ctxActivated (s : State) (n : Nat) : Kept s (s.ctxActivated n) [R.STR_STS n, R.STR_BUDGET, R.STR_EVT0] :=
  (Kept.p s (R.STR_STS.STATE n) _).trans (Kept.budgetTouch _)

theorem State.ctxState_ctxActivated (s : State) {n : Nat} (hn : n < 256) : (s.ctxActivated n).ctxState n = ctxActive :=
  ((Kept.budgetTouch _).g_eq (ctxReg_off_budget hn (by decide)) (strSts_pass hn)).trans (State.g_p_fits s _ rfl)

/-- The other registers of the context are as they were. -/
theorem State.rd_ctxActivated (s : State) {a n : Nat} (hlo : 0x1000000 ≤ a) (hhi : a < 0x1010000) (hne : a ≠ R.STR_STS n) :
    (s.ctxActivated n).rd a = s.rd a := by
  refine (Kept.ctxActivated s n).rd_eq ?_ (fun hpass => ?_)
  · simp only [List.mem_cons, List.not_mem_nil, or_false, R.STR_BUDGET, R.STR_EVT0]
    omega
  · have := passRegs_outside_str _ hpass
    omega

/-- Context `n` goes ACTIVE with its replay window closed, HIGH at `h`, taking any sequence number. -/
def State.ctxOpened (s : State) (n h : Nat) : State :=
  (((s.p (R.STR_SEQ_STS.TAKE_ANY n) 1).wr64 (R.STR_WIN_LO n) (2 ^ 64 - 1)).wr64 (R.STR_FRESH_LO n) h).ctxActivated n

theorem Kept.ctxOpened (s : State) (n h : Nat) : Kept s (s.ctxOpened n h)
    [R.STR_STS n, R.STR_SEQ_STS n, R.STR_WIN_LO n, R.STR_WIN_LO n + 4, R.STR_FRESH_LO n, R.STR_FRESH_LO n + 4, R.STR_BUDGET,
      R.STR_EVT0] :=
  ((((Kept.p s (R.STR_SEQ_STS.TAKE_ANY n) 1).trans (Kept.wr64 _ (R.STR_WIN_LO n) _)).trans (Kept.wr64 _ (R.STR_FRESH_LO n) _)).trans
    (Kept.ctxActivated _ n)).mono (fun _ ha => .inl (List.perm_middle.mem_iff.mp ha))

theorem State.rd64_wr64_ne (s : State) {a b : Nat} (v : Nat) (h : b ≠ a) (h4 : b ≠ a + 4) (hhi : b + 4 ≠ a) :
    (s.wr64 a v).rd64 b = s.rd64 b := by
  rw [State.rd64, State.rd_wr64_ne s a v h h4, State.rd_wr64_ne s a v hhi (mt Nat.add_right_cancel h), State.rd64]

/-- A context with AUTH 1 is enabled with HIGH no lower than the stored one. -/
theorem State.strEnable_of_verify {s : State} {n : Nat} (hauth : fieldOf (s.rd (R.STR_CFG n)) 28 3 = 1) :
    s.strEnable n = (s.ctxSampled n).ctxOpened n (max (s.high n) (s.storedHigh n)) := by
  have hhigh : (((s.ctxSampled n).p (R.STR_SEQ_STS.TAKE_ANY n) 1).wr64 (R.STR_WIN_LO n) (2 ^ 64 - 1)).high n = s.high n := by
    rw [State.high, State.rd64_wr64_ne, State.rd64_p_ne]
    · rfl
    all_goals simp only [R.STR_FRESH_LO, R.STR_WIN_LO, R.STR_SEQ_STS.TAKE_ANY, R.STR_SEQ_STS]; omega
  unfold State.strEnable
  simp only [hauth, Nat.reduceLeDiff, OfNat.one_ne_ofNat, false_and, or_self, if_false, one_ne_zero]
  rw [← hhigh]
  rfl

/-! What a context that has been opened shows. -/

theorem State.ctxState_ctxOpened (s : State) {n : Nat} (h : Nat) (hn : n < 256) : (s.ctxOpened n h).ctxState n = ctxActive :=
  State.ctxState_ctxActivated _ hn

theorem State.high_ctxOpened (s : State) {n : Nat} (h : Nat) (hn : n < 256) : (s.ctxOpened n h).high n = h % 2 ^ 64 := by
  rw [State.high, State.ctxOpened, State.rd64, State.rd_ctxActivated, State.rd_ctxActivated]
  · exact State.rd64_wr64_same _ _ _
  all_goals simp only [R.STR_FRESH_LO, R.STR_STS]; omega

theorem State.win_ctxOpened (s : State) {n : Nat} (h : Nat) (hn : n < 256) : (s.ctxOpened n h).win n = 2 ^ 64 - 1 := by
  rw [State.win, State.ctxOpened, State.rd64, State.rd_ctxActivated, State.rd_ctxActivated]
  · refine (State.rd64_wr64_ne _ _ ?_ ?_ ?_).trans (State.rd64_wr64_same _ _ _)
    all_goals simp only [R.STR_FRESH_LO, R.STR_WIN_LO]; omega
  all_goals simp only [R.STR_WIN_LO, R.STR_STS]; omega

theorem State.takeAny_ctxOpened (s : State) {n : Nat} (h : Nat) (hn : n < 256) : (s.ctxOpened n h).g (R.STR_SEQ_STS.TAKE_ANY n) = 1 := by
  rw [State.g, State.ctxOpened, State.rd_ctxActivated, State.rd_wr64_ne, State.rd_wr64_ne]
  · exact State.g_p_fits s 1 rfl
  all_goals simp only [R.STR_SEQ_STS.TAKE_ANY, R.STR_SEQ_STS, R.STR_FRESH_LO, R.STR_WIN_LO, R.STR_STS]; omega

/-- STR_CFG stands as written. -/
theorem State.cfgReg_ctxOpened (s : State) {n : Nat} (h : Nat) (hn : n < 256) :
    (s.ctxOpened n h).rd (R.STR_CFG n) = s.rd (R.STR_CFG n) := by
  refine (Kept.ctxOpened s n h).rd_eq ?_ (strCfg_pass hn)
  simp only [List.mem_cons, List.not_mem_nil, or_false, R.STR_CFG, R.STR_SEQ_STS, R.STR_WIN_LO, R.STR_FRESH_LO, R.STR_STS, R.STR_BUDGET,
    R.STR_EVT0]
  omega

/-- A write of STR_CFG that sets EN enables the context. -/
theorem State.strCfgWrite_rise {s : State} {n : Nat} {v : Word} (hoff : s.on (R.STR_CFG.EN n) = false) (hset : bit v.toNat 31 = true) :
    s.strCfgWrite n v = (s.store (R.STR_CFG n) v).strEnable n := by
  simp [State.strCfgWrite, hoff, hset]

theorem State.strCfgWrite_fall {s : State} {n : Nat} {v : Word} (hon : s.on (R.STR_CFG.EN n) = true) (hclr : bit v.toNat 31 = false) :
    s.strCfgWrite n v = (s.store (R.STR_CFG n) v).strDisable n := by
  simp [State.strCfgWrite, hon, hclr]

theorem exec_strEnable {s : State} {req n : Nat} {v : Word} (hn : n < 256) (hadm : Admitted s req (R.STR_CFG n) (v ||| 0x80000000)) :
    exec (.strEnable req n v) s = done s (s.strCfgWrite n (v ||| 0x80000000)) := by
  show execStrEnable req n v s = _
  rw [execStrEnable, Nat.mod_eq_of_lt hn, State.byPort_admitted s _ _ _ _ hadm]

theorem Kept.storedHigh_eq {s t : State} {l : List Nat} (h : Kept s t l) (n : Nat) : t.storedHigh n = s.storedHigh n := by
  rw [State.storedHigh, h.2.2, State.storedHigh]

theorem State.high_store (s : State) {n : Nat} (v : Word) (hn : n < 256) : (s.store (R.STR_CFG n) v).high n = s.high n :=
  (Kept.store s (R.STR_CFG n) v).rd64_eq (by simp only [List.mem_singleton, R.STR_FRESH_LO, R.STR_CFG]; omega)
    (by simp only [List.mem_singleton, R.STR_FRESH_LO, R.STR_CFG]; omega)
    (strReg_pass (by decide) (by decide) (Nat.le_refl _) hn) (strReg_hi_pass (by decide) (by decide) (Nat.le_refl _) hn)

theorem exec_strEnable_of_verify {s : State} {req n : Nat} {v : Word} (hn : n < 256)
    (hadm : Admitted s req (R.STR_CFG n) (v ||| 0x80000000)) (hoff : s.on (R.STR_CFG.EN n) = false)
    (hauth : fieldOf (v ||| 0x80000000) 28 3 = 1) :
    exec (.strEnable req n v) s = done s (((s.store (R.STR_CFG n) (v ||| 0x80000000)).ctxSampled n).ctxOpened n
      (max (s.high n) (s.storedHigh n))) := by
  rw [exec_strEnable hn hadm, State.strCfgWrite_rise hoff (bit_or_top v),
    State.strEnable_of_verify ((s.auth_store hn _).trans hauth), s.high_store _ hn, (Kept.store s _ _).storedHigh_eq]

/-! ### The disabling of a context (R199) -/

/-- Context `n` DISABLED, its watchdog disarmed. -/
def State.ctxShut (s : State) (n : Nat) : State :=
  (((s.setCtxState n ctxDisabled).p (R.STR_STS.CFG_ERR n) 0).modCtx n (fun c => { c with armed := false })).budgetTouch

/-- With no frame before step 6 nothing is dropped. -/
theorem State.strDisable_of_none {s : State} {n : Nat} (hrx : s.rxOfCtx n = []) (hpend : ∀ q ∈ (s.ctx n).pend, q.stage ≠ 0) :
    s.strDisable n = s.ctxShut n := by
  have hearly : (s.ctx n).pend.filter (fun q => q.stage == 0) = [] := List.filter_eq_nil_iff.mpr (fun q hq => by simpa using hpend q hq)
  unfold State.strDisable
  rw [hrx, hearly]
  rfl

theorem StrKept.ctxShut (s : State) (n : Nat) : StrKept s (s.ctxShut n) [R.STR_STS n, R.STR_BUDGET, R.STR_EVT0] :=
  ((((StrKept.of_kept (Kept.p s (R.STR_STS.STATE n) ctxDisabled)).trans (StrKept.of_kept (Kept.p _ (R.STR_STS.CFG_ERR n) 0))).trans
    (StrKept.modCtx _ n _)).trans (StrKept.of_kept (Kept.budgetTouch _))).mono
      (fun a ha => .inl (by simpa [R.STR_STS.STATE, R.STR_STS.CFG_ERR] using ha))

theorem State.ctx_ctxShut_same (s : State) (n : Nat) : ((s.ctxShut n).ctx n).armed = false := by
  rw [State.ctxShut, (Kept.budgetTouch _).ctx_eq, State.ctx_modCtx_same]

theorem State.ctx_ctxShut_ne (s : State) {n k : Nat} (h : k ≠ n) : (s.ctxShut n).ctx k = s.ctx k := by
  rw [State.ctxShut, (Kept.budgetTouch _).ctx_eq, State.ctx_modCtx_ne _ _ h, State.setCtxState, State.ctx_p, State.ctx_p]

/-- The fields of STR_STS of a context that has been shut. -/
theorem State.sts_ctxShut (s : State) {n : Nat} (hn : n < 256) :
    (s.ctxShut n).ctxState n = ctxDisabled ∧ (s.ctxShut n).g (R.STR_STS.CFG_ERR n) = 0 ∧
      (s.ctxShut n).g (R.STR_STS.ROLLING n) = s.g (R.STR_STS.ROLLING n) := by
  have hbudget : ∀ l : Loc, l.addr = R.STR_STS n →
      (s.ctxShut n).g l = ((s.setCtxState n ctxDisabled).p (R.STR_STS.CFG_ERR n) 0).g l := by
    intro l hl
    rw [State.ctxShut, (Kept.budgetTouch _).g_eq, State.g_modCtx]
    · exact hl ▸ ctxReg_off_budget hn (by decide)
    · exact hl ▸ strSts_pass hn
  refine ⟨?_, ?_, ?_⟩
  · rw [State.ctxState, hbudget _ rfl, State.g_p_apart _ _ 0 rfl rfl]
    exact State.g_p_fits s _ rfl
  · rw [hbudget _ rfl]
    exact State.g_p_fits _ _ rfl
  · rw [hbudget _ rfl, State.g_p_apart _ _ 0 rfl rfl]
    exact State.g_p_apart s (R.STR_STS.STATE n) _ rfl rfl

theorem exec_strDisable {s : State} {req n : Nat} {v : Word} (hn : n < 256) (hadm : Admitted s req (R.STR_CFG n) (v &&& 0x7FFFFFFF)) :
    exec (.strDisable req n v) s = done s ((s.strCfgWrite n (v &&& 0x7FFFFFFF)).txSettle s) := by
  show execStrDisable req n v s = _
  rw [execStrDisable, Nat.mod_eq_of_lt hn, State.byPort_admitted s _ _ _ _ hadm]

/-- STR_CFG written, the context shut. -/
theorem StrKept.disabled (s : State) (n : Nat) (v : Word) :
    StrKept s ((s.store (R.STR_CFG n) v).ctxShut n) [R.STR_CFG n, R.STR_STS n, R.STR_BUDGET, R.STR_EVT0] :=
  (StrKept.of_kept (Kept.store s (R.STR_CFG n) v)).trans (StrKept.ctxShut _ n)

theorem exec_strDisable_of_none {s : State} {req n : Nat} {v : Word} (hn : n < 256)
    (hadm : Admitted s req (R.STR_CFG n) (v &&& 0x7FFFFFFF)) (hon : s.on (R.STR_CFG.EN n) = true) (hrx : s.rxOfCtx n = [])
    (hpend : ∀ q ∈ (s.ctx n).pend, q.stage ≠ 0) :
    exec (.strDisable req n v) s = done s ((s.store (R.STR_CFG n) (v &&& 0x7FFFFFFF)).ctxShut n) := by
  have hstore := Kept.store s (R.STR_CFG n) (v &&& 0x7FFFFFFF)
  have hrx' : (s.store (R.STR_CFG n) (v &&& 0x7FFFFFFF)).rxOfCtx n = [] := by rw [State.rxOfCtx, hstore.sw_eq, ← State.rxOfCtx, hrx]
  rw [exec_strDisable hn hadm, State.strCfgWrite_fall hon (bit_and_rest v), State.strDisable_of_none hrx' (by rwa [hstore.ctx_eq]),
    State.txSettle_of_ports s _ (StrKept.disabled s n _).ports_eq]

end Sys2Proof.Machine
end

section
/-! SUPPORT. The ends of a context's jobs, its key entries, its timers, and what of HIGH is stored (R187, R189-R192, R195, R197). -/

namespace Sys2Proof.Machine

/-! ### Verdicts and tags (R187, R189, R192) -/

section
variable {s : State} {k n id : Nat} {j : Job} {q : StrPend}

theorem State.verifyDone_of_job (hjob : s.jobOn k = some j) (huser : j.user = .strVerify n id) (hpend : s.pendOf n id = some q)
    (hframe : s.hasFr id = true) : s.verifyDone k = (s.endJob k j).verdict n q j.key := by
  unfold State.verifyDone
  simp only [hjob, huser, hpend, hframe, if_true]

theorem State.generateDone_of_job (hjob : s.jobOn k = some j) (huser : j.user = .strGenerate n id) (hpend : s.pendOf n id = some q)
    (hframe : s.hasFr id = true) : s.generateDone k = (s.endJob k j).generated n q j.key := by
  unfold State.generateDone
  simp only [hjob, huser, hpend, hframe, if_true]

variable {key : List Byte}

theorem State.verdict_of_wrong_tag (hyoung : s.tooOld (s.fr q.frame).f = false)
    (htag : tagMatches key (s.fr q.frame).f.bytes (s.ctx n).tagLen = false) :
    s.verdict n q key =
      ((((s.bump (R.STR_AUTH_FAIL_LO n)).alarm (R.STR_ALARM.AUTH_FAIL n)).tapTrigger n 2).strDrop q.frame).verDropped n q := by
  unfold State.verdict
  simp only [hyoung, htag, Bool.false_eq_true, if_false, Bool.not_false, if_true]

/-- A frame without a sequence number whose freshness is new is accepted, and HIGH and the map take it. -/
theorem State.verdict_of_fresh (hseq : q.seq = none) (hyoung : s.tooOld (s.fr q.frame).f = false)
    (htag : tagMatches key (s.fr q.frame).f.bytes (s.ctx n).tagLen = true) (hfresh : windowPasses (s.high n) (s.win n) q.fresh = true) :
    s.verdict n q key =
      (((((s.wr64 (R.STR_FRESH_LO n) (windowTake (s.high n) (s.win n) q.fresh).1).wr64 (R.STR_WIN_LO n)
        (windowTake (s.high n) (s.win n) q.fresh).2).rollover n q.entry).strAccept n q.frame).strFinish n q.frame).wakeSeq n none true := by
  unfold State.verdict
  simp only [hyoung, htag, hseq, State.seqStep, hfresh, Bool.false_eq_true, if_false, Bool.not_true, if_true]

end

/-! ### Key entries (R191) -/

theorem State.entryValid_eq (s : State) (n e : Nat) : s.entryValid n e = s.on ⟨keyReg n e, 31, 1⟩ := by
  unfold State.entryValid keyReg
  split <;> rfl

theorem State.setEntryValid_eq (s : State) (n e : Nat) (b : Bool) : s.setEntryValid n e b = s.pb ⟨keyReg n e, 31, 1⟩ b := by
  unfold State.setEntryValid keyReg
  split <;> rfl

/-- LABEL and SLOT of an entry are those of STR_KEYA or STR_KEYB. -/
theorem State.keyFields_ite {t : State} {n e label slot : Nat} (hlabel : t.g ⟨keyReg n e, 12, 8⟩ = label)
    (hslot : t.g ⟨keyReg n e, 0, 12⟩ = slot) :
    if e = 0 then t.g (R.STR_KEYA.LABEL n) = label ∧ t.g (R.STR_KEYA.SLOT n) = slot
    else t.g (R.STR_KEYB.LABEL n) = label ∧ t.g (R.STR_KEYB.SLOT n) = slot := by
  by_cases he : e = 0
  · rw [keyReg, if_pos he] at hlabel hslot
    exact (if_pos he).symm ▸ ⟨hlabel, hslot⟩
  · rw [keyReg, if_neg he] at hlabel hslot
    exact (if_neg he).symm ▸ ⟨hlabel, hslot⟩

theorem keyReg_ne_sts (n e : Nat) : keyReg n e ≠ R.STR_STS n := by
  rw [keyReg_eq]
  refine mt Nat.add_right_cancel ?_
  split <;> decide

theorem keyReg_pass {n : Nat} (hn : n < 256) (e : Nat) : keyReg n e ∉ passRegs := by
  rw [keyReg_eq]
  split
  · exact strReg_pass (by decide) (by decide) (Nat.le_refl _) hn
  · exact strReg_pass (by decide) (by decide) (Nat.le_refl _) hn

/-- Context `n` is no longer ROLLING. -/
theorem rolling_passOn_p (s0 s : State) {n : Nat} (hn : n < 256) :
    (State.passOn s0 (s.p (R.STR_STS.ROLLING n) 0)).g (R.STR_STS.ROLLING n) = 0 :=
  (g_passOn_str s0 _ hn rfl (by decide) (by decide)).trans (State.g_p_fits s 0 rfl)

/-- A field of a key entry is as it was before ROLLING was cleared. -/
theorem keyField_passOn_p (s0 s : State) {n : Nat} (hn : n < 256) (e lo wd : Nat) :
    (State.passOn s0 (s.p (R.STR_STS.ROLLING n) 0)).g ⟨keyReg n e, lo, wd⟩ = s.g ⟨keyReg n e, lo, wd⟩ :=
  (g_passOn s0 _ (keyReg_pass hn e)).trans (State.g_p_ne s _ _ 0 (keyReg_ne_sts n e))

theorem exec_keyEntryWrite {s : State} {req n e : Nat} {v : Word} (hn : n < 256) (hadm : Admitted s req (keyReg n e) v) :
    exec (.keyEntryWrite req n e v) s = done s ((s.store (keyReg n e) v).p (R.STR_STS.ROLLING n) 0) := by
  show execKeyEntryWrite req n e v s = _
  rw [execKeyEntryWrite, Nat.mod_eq_of_lt hn]
  exact congrArg (done s) (State.byPort_admitted s _ _ _ _ hadm)

theorem State.rollExpiry_of_rolling {s : State} {n : Nat} (hroll : s.g (R.STR_STS.ROLLING n) = 1) :
    s.rollExpiry n = (s.setEntryValid n (s.ctx n).old false).p (R.STR_STS.ROLLING n) 0 := by
  simp [State.rollExpiry, State.on, hroll]

/-! ### Alarms of a context's timers (R195, R197, R201) -/

/-- A timer of context `n` that shows in field `l`, counts at `a`, raises alarm `e` and changes the context's own state. -/
def State.ctxTimer (s : State) (n : Nat) (l : Loc) (v a : Nat) (e : Loc) (f : StrCtx → StrCtx) : State :=
  (((s.p l v).bump a).ev e).modCtx n f

theorem StrKept.ctxTimer (s : State) (n : Nat) (l : Loc) (v a : Nat) (e : Loc) (f : StrCtx → StrCtx) :
    StrKept s (s.ctxTimer n l v a e f) [l.addr, e.addr, a, a + 4] :=
  ((StrKept.of_kept (((Kept.p s l v).trans (Kept.bump _ a)).trans (Kept.ev _ e))).trans (StrKept.modCtx _ n f)).mono
    (fun x hx => .inl (by simp only [List.mem_append, List.mem_cons, List.not_mem_nil, or_false] at hx ⊢; tauto))

theorem State.ctx_ctxTimer_same (s : State) (n : Nat) (l : Loc) (v a : Nat) (e : Loc) (f : StrCtx → StrCtx) :
    (s.ctxTimer n l v a e f).ctx n = f (s.ctx n) := by
  rw [State.ctxTimer, State.ctx_modCtx_same, (Kept.ev _ e).ctx_eq, (Kept.bump _ a).ctx_eq, State.ctx_p]

theorem State.ctx_ctxTimer_ne (s : State) {n k : Nat} (l : Loc) (v a : Nat) (e : Loc) (f : StrCtx → StrCtx) (h : k ≠ n) :
    (s.ctxTimer n l v a e f).ctx k = s.ctx k := by
  rw [State.ctxTimer, State.ctx_modCtx_ne _ f h, (Kept.ev _ e).ctx_eq, (Kept.bump _ a).ctx_eq, State.ctx_p]

/-- What such a timer leaves: field, alarm and counter, and the context's own state; nothing else. -/
theorem exists_passOn_ctxTimer (s : State) {n j c : Nat} {l e : Loc} {v : Nat} (f : StrCtx → StrCtx) (hn : n < 256)
    (hl : l.addr = 0x1000000 + j + 0x80 * n) (hj : j < 0x34) (hc : c < 0x10000) (he : e.addr = R.STR_ALARM n)
    (hlfit : l.fits = true) (hefit : e.fits = true) (hewd : e.wd = 1) (hv : v < 2 ^ l.wd) (hsave : s.saving = false) :
    ∃ t, done s (s.ctxTimer n l v (0x1020000 + c + 8 * n) e f) = .next t ∧ t.g l = v ∧ t.g e = 1 ∧ t.ctx n = f (s.ctx n) ∧
      t.rd64 (0x1020000 + c + 8 * n) = (s.rd64 (0x1020000 + c + 8 * n) + 1) % 2 ^ 64 ∧ (∀ k, k ≠ n → t.ctx k = s.ctx k) ∧
      StrKept s t [l.addr, e.addr, 0x1020000 + c + 8 * n, 0x1020000 + c + 8 * n + 4] := by
  have halarm : e.addr = 0x1000000 + 0x34 + 0x80 * n := he
  have hle : l.addr ≠ e.addr := by omega
  have hlc : l.addr ∉ [0x1020000 + c + 8 * n, 0x1020000 + c + 8 * n + 4] := hl ▸ ctxReg_off_counter hn (by omega) (by omega)
  have hsave1 : (s.p l v).saving = false := (Kept.p s l v).saving_eq (by
    rw [List.mem_singleton, hl]
    simp only [R.PWR_SUP_STS.SAVE, R.PWR_SUP_STS]
    omega) ▸ hsave
  have hlpass : l.addr ∉ passRegs := hl ▸ strReg_pass (by omega) (by omega) (Nat.le_refl _) hn
  refine ⟨_, rfl, ?_, ?_, ?_, ?_, ?_, (StrKept.ctxTimer s n l v _ e f).passOn s⟩
  · rw [g_passOn s _ hlpass, State.ctxTimer, State.g_modCtx, State.ev, State.g_p_ne _ _ _ _ hle, (Kept.bump _ _).g_eq hlc hlpass,
      State.g_p_fits s v hlfit, Nat.mod_eq_of_lt hv]
  · rw [g_passOn_str s _ hn halarm (by omega) (by omega), State.ctxTimer, State.g_modCtx]
    exact State.g_ev_same _ e (of_decide_eq_true hefit) (hewd ▸ Nat.one_pos)
  · rw [ctx_passOn, State.ctx_ctxTimer_same]
  · rw [rd64_passOn_str s _ hn rfl (by omega) (by omega) (by decide), State.ctxTimer, State.rd64_modCtx, State.rd64_ev_ne,
      State.rd64_bump _ _ hsave1, State.rd64_p_ne]
    all_goals simp only [hl, halarm]; omega
  · intro k hk
    rw [ctx_passOn, State.ctx_ctxTimer_ne s l v _ e f hk]

/-- Without a tap no ring is triggered. -/
theorem State.tapTrigger_of_none {s : State} {n : Nat} (b : Nat) (h : s.g (R.STR_CFG.TAP_EN n) = 0) : s.tapTrigger n b = s := by
  simp [State.tapTrigger, State.on, h]

/-- The watchdog of an ACTIVE context without a tap expires. -/
theorem State.silent_of_armed {s : State} {n : Nat} (hn : n < 256) (harmed : (s.ctx n).armed = true) (hactive : s.ctxState n = ctxActive)
    (htap : s.g (R.STR_CFG.TAP_EN n) = 0) :
    s.silent n = s.ctxTimer n (R.STR_STS.STATE n) ctxSilent (R.STR_SILENT_LO n) (R.STR_ALARM.SILENT n)
      (fun c => { c with armed := false }) := by
  have htap' : (s.ctxTimer n (R.STR_STS.STATE n) ctxSilent (R.STR_SILENT_LO n) (R.STR_ALARM.SILENT n)
      (fun c => { c with armed := false })).g (R.STR_CFG.TAP_EN n) = 0 := by
    refine (Kept.g_eq (StrKept.ctxTimer s n _ _ _ _ _) ?_ (strCfg_pass hn)).trans htap
    simp only [List.mem_cons, List.not_mem_nil, or_false, R.STR_CFG.TAP_EN, R.STR_CFG, R.STR_STS.STATE, R.STR_STS, R.STR_ALARM.SILENT,
      R.STR_ALARM, R.STR_SILENT_LO]
    omega
  unfold State.silent
  simp only [harmed, hactive, beq_self_eq_true, Bool.and_self, if_true]
  exact State.tapTrigger_of_none 1 htap'

theorem State.seqReset_of_taken {s : State} {n : Nat} (hseq : (s.ctx n).seqEn = true) (hstate : s.ctxState n ≠ ctxDisabled)
    (htake : s.g (R.STR_SEQ_STS.TAKE_ANY n) = 0) :
    s.seqReset n = s.ctxTimer n (R.STR_SEQ_STS.TAKE_ANY n) 1 (R.STR_SEQ_RESET_LO n) (R.STR_ALARM.SEQ_RESET n)
      (fun c => { c with hist := 0, span := 0 }) := by
  have hcond : ((s.ctx n).seqEn && s.ctxState n != ctxDisabled && !s.on (R.STR_SEQ_STS.TAKE_ANY n)) = true := by
    simp [State.on, hseq, hstate, htake]
  exact if_pos hcond

/-! ### HIGH in the keep-alive store (R190) -/

/-- From `s` to `t` only stored HIGH values have changed. -/
def HighOnly (s t : State) : Prop := t = { s with vault := { s.vault with high := t.vault.high } }

theorem HighOnly.each (s : State) (l : List Nat) (key a : Nat → Nat) :
    HighOnly s (s.each l (fun n t => t.storeHigh (key n) (t.rd64 (a n)))) :=
  State.each_keeps (P := HighOnly s) l _ s rfl (fun x t h => by
    unfold HighOnly State.storeHigh at *
    rw [h])

theorem HighOnly.trans {s t u : State} (h : HighOnly s t) (k : HighOnly t u) : HighOnly s u := by
  unfold HighOnly at *
  rw [k, h]

theorem HighOnly.kept {s t : State} (h : HighOnly s t) (s0 : State) :
    (State.passOn s0 t).vault = { s.vault with high := (State.passOn s0 t).vault.high } ∧
      Kept { s with vault := (State.passOn s0 t).vault } (State.passOn s0 t) [] := by
  rw [passOn_vault]
  refine ⟨by rw [h], Kept.passOn s0 ?_⟩
  have heq : t = { s with vault := t.vault } := by
    rw [h]
  exact heq ▸ Kept.refl t []

theorem State.storedHigh_storeHigh_same (s : State) (n v : Nat) : (s.storeHigh n v).storedHigh n = v := Tab.get_set_same _ _ _ _

theorem State.storedHigh_storeHigh_ne (s : State) {n m : Nat} (v : Nat) (h : n ≠ m) : (s.storeHigh m v).storedHigh n = s.storedHigh n :=
  Tab.get_set_ne _ _ _ h

/-- HIGH of the contexts of `l` is stored. -/
def State.storeHighs (s : State) (l : List Nat) : State := s.each l (fun n t => t.storeHigh n (t.high n))

/-- A context whose HIGH is stored keeps it so. -/
theorem State.storedHigh_storeHighs_of_eq {s : State} {n : Nat} (l : List Nat) (h : s.storedHigh n = s.high n) :
    (s.storeHighs l).storedHigh n = s.high n := by
  refine (State.each_keeps (P := fun t => t.high n = s.high n ∧ t.storedHigh n = s.high n) l _ s ⟨rfl, h⟩ ?_).2
  rintro x t ⟨hhigh, hstored⟩
  refine ⟨hhigh, ?_⟩
  by_cases hx : n = x
  · subst hx
    rw [State.storedHigh_storeHigh_same, hhigh]
  · rw [State.storedHigh_storeHigh_ne t _ hx, hstored]

theorem State.storedHigh_storeHighs_of_mem {l : List Nat} {n : Nat} (s : State) (h : n ∈ l) :
    (s.storeHighs l).storedHigh n = s.high n := by
  induction l generalizing s with
  | nil => cases h
  | cons x l ih =>
    rcases List.mem_cons.mp h with rfl | hmem
    · exact State.storedHigh_storeHighs_of_eq (s := s.storeHigh n (s.high n)) l (State.storedHigh_storeHigh_same s n _)
    · exact ih (s.storeHigh x (s.high x)) hmem

/-- A context that verifies is listed: the default one does not. -/
theorem State.mem_str_of_verifies {s : State} {n : Nat} (h : (s.ctx n).verifies = true) : (n, s.ctx n) ∈ s.str := by
  have hctx : s.ctx n = s.str.get (fun _ => {}) n := rfl
  unfold Tab.get at hctx
  split at hctx
  case h_1 c hfind => exact hctx ▸ Tab.mem_of_find? hfind
  case h_2 =>
    rw [hctx] at h
    exact absurd h (by decide : ¬ ({} : StrCtx).verifies = true)

/-- The contexts whose HIGH is to be stored. -/
def State.persisting (s : State) : List Nat :=
  (s.str.filter (fun p => p.2.verifies && p.2.persist && s.ctxState p.1 != ctxDisabled)).map (·.1)

theorem State.mem_persisting {s : State} {n : Nat} (hverifies : (s.ctx n).verifies = true) (hpersist : (s.ctx n).persist = true)
    (hstate : s.ctxState n ≠ ctxDisabled) : n ∈ s.persisting :=
  List.mem_map.mpr ⟨(n, s.ctx n), List.mem_filter.mpr ⟨State.mem_str_of_verifies hverifies, by simp [hverifies, hpersist, hstate]⟩, rfl⟩

/-- The values of CAN entries, stored after those of the contexts, have places of their own. -/
theorem State.highPersist_eq (s : State) :
    ∃ l : List Nat, s.highPersist = (s.storeHighs s.persisting).each l (fun a t => t.storeHigh (256 + a) (t.rd64 (R.GW_CMA_FRESH_LO a))) :=
  ⟨_, rfl⟩

theorem HighOnly.highPersist (s : State) : HighOnly s s.highPersist := by
  obtain ⟨l, heq⟩ := s.highPersist_eq
  rw [heq]
  exact (HighOnly.each s s.persisting (fun n => n) R.STR_FRESH_LO).trans (HighOnly.each _ l (fun a => 256 + a) R.GW_CMA_FRESH_LO)

theorem State.storedHigh_highPersist {s : State} {n : Nat} (hn : n < 256) (h : n ∈ s.persisting) : s.highPersist.storedHigh n = s.high n := by
  obtain ⟨l, heq⟩ := s.highPersist_eq
  rw [heq]
  refine State.each_keeps (P := fun t => t.storedHigh n = s.high n) l _ _ (State.storedHigh_storeHighs_of_mem s h) (fun a t ht => ?_)
  rw [State.storedHigh_storeHigh_ne t _ (by omega), ht]

end Sys2Proof.Machine

open Sys2Proof Sys2Proof.Machine

/-- Settles O28: what a write of STR_CFG or of a key entry leaves is read back through its frame; the ends of jobs are what the model
makes of them; the two timers that raise an alarm leave alike; and CAN entries store HIGH apart from the contexts. -/
theorem streamContexts : Obligations.StreamContexts := by
  unfold Obligations.StreamContexts
  refine ⟨?enable, ?disable, ?wrongTag, ?accepted, ?generated, ?rolled, ?entryWrite, ?silent, ?seqReset, ?persist⟩
  case enable =>
    intro s req n v hn hadm hoff hauth
    have hcfg : ∀ u : State, ((State.passOn s ((u.ctxSampled n).ctxOpened n (max (s.high n) (s.storedHigh n)))).ctx n).cfg =
        u.rd (R.STR_CFG n) := fun u => by rw [ctx_passOn, (Kept.ctxOpened _ n _).ctx_eq, State.cfg_ctxSampled]
    refine ⟨_, exec_strEnable_of_verify hn hadm hoff hauth, ?_, ?_, ?_, ?_, ?_, ?_, ?_, ?_⟩
    · rw [State.ctxState, g_passOn_str s _ hn rfl (by decide) (by decide)]
      exact State.ctxState_ctxOpened _ _ hn
    · rw [hcfg, rd_passOn s _ (strCfg_pass hn), State.cfgReg_ctxOpened _ _ hn, State.rd_ctxSampled]
    · rw [StrCtx.auth, hcfg, State.auth_store s hn, hauth]
    · exact (rd64_passOn_str s _ hn rfl (by decide) (by decide) (Nat.le_refl _)).trans (State.high_ctxOpened _ _ hn)
    · exact (rd64_passOn_str s _ hn rfl (by decide) (by decide) (Nat.le_refl _)).trans (State.win_ctxOpened _ _ hn)
    · rw [g_passOn_str s _ hn rfl (by decide) (by decide), State.takeAny_ctxOpened _ _ hn]
    · intro k hk
      rw [ctx_passOn, (Kept.ctxOpened _ n _).ctx_eq, State.ctx_ctxSampled_ne _ hk, (Kept.store s _ _).ctx_eq]
    · exact StrKept.passOn s ((StrKept.of_kept (Kept.store s _ _)).trans
        ((StrKept.ctxSampled _ n).trans (StrKept.of_kept (Kept.ctxOpened _ n _))))
  case disable =>
    intro s req n v hn hadm hon hrx hpend
    obtain ⟨hstate, herr, hroll⟩ := (s.store (R.STR_CFG n) (v &&& 0x7FFFFFFF)).sts_ctxShut hn
    refine ⟨_, exec_strDisable_of_none hn hadm hon hrx hpend, ?_, ?_, ?_, ?_, ?_, (StrKept.disabled s n _).passOn s⟩
    · rw [State.ctxState, g_passOn_str s _ hn rfl (by decide) (by decide)]
      exact hstate
    · rw [g_passOn_str s _ hn rfl (by decide) (by decide), herr]
    · rw [g_passOn_str s _ hn rfl (by decide) (by decide), hroll]
      exact (Kept.store s _ _).g_eq (by simp only [List.mem_singleton, R.STR_STS.ROLLING, R.STR_STS, R.STR_CFG]; omega)
        (strSts_pass hn)
    · rw [ctx_passOn, State.ctx_ctxShut_same]
    · intro k hk
      rw [ctx_passOn, State.ctx_ctxShut_ne _ hk, (Kept.store s _ _).ctx_eq]
  case wrongTag =>
    intro s k n id j q hjob huser hpend hframe hyoung htag
    exact congrArg (done s) ((State.verifyDone_of_job hjob huser hpend hframe).trans (State.verdict_of_wrong_tag hyoung htag))
  case accepted =>
    intro s k n id j q hjob huser hpend hframe hseq ⟨hyoung, htag, hfresh⟩
    exact congrArg (done s) ((State.verifyDone_of_job hjob huser hpend hframe).trans (State.verdict_of_fresh hseq hyoung htag hfresh))
  case generated =>
    intro s k n id j q hjob huser hpend hframe
    exact congrArg (done s) (State.generateDone_of_job hjob huser hpend hframe)
  case rolled =>
    intro s n hn hroll
    have hexec : exec (.rollTimerExpiry n) s = done s ((s.setEntryValid n (s.ctx n).old false).p (R.STR_STS.ROLLING n) 0) := by
      show execRollTimerExpiry n s = _
      rw [execRollTimerExpiry, Nat.mod_eq_of_lt hn, State.rollExpiry_of_rolling hroll]
    refine ⟨_, hexec, ?_, rolling_passOn_p s _ hn, ?_⟩
    · rw [State.entryValid_eq, State.on, keyField_passOn_p s _ hn, State.setEntryValid_eq, State.pb, State.g_p_fits _ _ rfl]
      rfl
    · rw [State.setEntryValid_eq]
      exact (((Kept.pb s ⟨keyReg n (s.ctx n).old, 31, 1⟩ false).trans (Kept.p _ (R.STR_STS.ROLLING n) 0)).mono
        (fun a ha => .inl (List.mem_append.mpr (List.mem_append.mp ha).symm))).passOn s
  case entryWrite =>
    intro s req n e v hn hadm
    obtain ⟨hlabel, hslot⟩ := s.keyFields_store hn e v
    rw [← keyField_passOn_p s _ hn] at hlabel hslot
    refine ⟨_, exec_keyEntryWrite hn hadm, rolling_passOn_p s _ hn, State.keyFields_ite hlabel hslot, ?_⟩
    exact (((Kept.store s (keyReg n e) v).trans (Kept.p _ (R.STR_STS.ROLLING n) 0)).mono
      (fun a ha => .inl (List.mem_append.mpr (List.mem_append.mp ha).symm))).passOn s
  case silent =>
    intro s n hn harmed hactive htap hsave
    obtain ⟨t, ht, hstate, halarm, hctx, hcount, hothers, hframe⟩ :=
      exists_passOn_ctxTimer s (l := R.STR_STS.STATE n) (e := R.STR_ALARM.SILENT n) (v := ctxSilent) (c := 0xa000) (j := 0x1c)
        (fun c => { c with armed := false }) hn rfl (by decide) (by decide) rfl rfl rfl rfl (by decide : 2 < 2 ^ 3) hsave
    refine ⟨t, ?_, hstate, by rw [hctx], halarm, hcount, hothers, hframe⟩
    show execStrSilent n s = _
    rw [execStrSilent, Nat.mod_eq_of_lt hn, State.silent_of_armed hn harmed hactive htap]
    exact ht
  case seqReset =>
    intro s n hn hseq hstate htake hsave
    obtain ⟨t, ht, hany, halarm, hctx, hcount, hothers, hframe⟩ :=
      exists_passOn_ctxTimer s (l := R.STR_SEQ_STS.TAKE_ANY n) (e := R.STR_ALARM.SEQ_RESET n) (v := 1) (c := 0x9800) (j := 0x30)
        (fun c => { c with hist := 0, span := 0 }) hn rfl (by decide) (by decide) rfl rfl rfl rfl (by decide : 1 < 2 ^ 1) hsave
    refine ⟨t, ?_, hany, by rw [hctx], halarm, hcount, hothers, hframe⟩
    show execStrSeqReset n s = _
    rw [execStrSeqReset, Nat.mod_eq_of_lt hn, State.seqReset_of_taken hseq hstate htake]
    exact ht
  case persist =>
    intro s
    obtain ⟨hvault, hframe⟩ := (HighOnly.highPersist s).kept s
    refine ⟨_, rfl, fun n hn hverifies hpersist hstate => ?_, hvault, hframe⟩
    rw [State.storedHigh, passOn_vault]
    exact State.storedHigh_highPersist hn (State.mem_persisting hverifies hpersist hstate)

end

section
/-! SUPPORT. The registers of the CAN controllers, a controller's own state, and what starts a controller, stops it, and moves its
state and error counts (R205, R208-R212). -/

namespace Sys2Proof.Machine

/-! ### Registers of the CAN region -/

theorem passRegs_outside_can : ∀ a ∈ passRegs, a < 0x1400000 ∨ 0x1800000 ≤ a := by decide

/-- No register of the CAN region is one that passing events on may change. -/
theorem canReg_pass {a : Nat} (hlo : 0x1400000 ≤ a) (hhi : a < 0x1800000) : a ∉ passRegs := by
  intro h
  have := passRegs_outside_can _ h
  omega

/-- A register of controller `c` stands `0x10000 * c` above that of controller 0. -/
theorem ctlReg_pass {j c : Nat} (hlo : 0x1400000 ≤ j) (hhi : j < 0x1410000) (hc : c < 16) : j + 0x10000 * c ∉ passRegs :=
  canReg_pass (by omega) (by omega)

theorem ctlReg_hi_pass {j c : Nat} (hlo : 0x1400000 ≤ j) (hhi : j < 0x1410000) (hc : c < 16) : j + 0x10000 * c + 4 ∉ passRegs :=
  canReg_pass (by omega) (by omega)

theorem canCfg_pass {c : Nat} (hc : c < 16) : R.CAN_CFG c ∉ passRegs := ctlReg_pass (by decide) (by decide) hc

/-- A field of a controller reads after events have been passed on as before. -/
theorem g_passOn_ctl (s0 s : State) {l : Loc} {j c : Nat} (hc : c < 16) (hl : l.addr = j + 0x10000 * c) (hlo : 0x1400000 ≤ j)
    (hhi : j < 0x1410000) : (State.passOn s0 s).g l = s.g l :=
  g_passOn s0 s (hl ▸ ctlReg_pass hlo hhi hc)

theorem rd64_passOn_ctl (s0 s : State) {a j c : Nat} (hc : c < 16) (ha : a = j + 0x10000 * c) (hlo : 0x1400000 ≤ j)
    (hhi : j < 0x1410000) : (State.passOn s0 s).rd64 a = s.rd64 a := by
  subst ha
  exact rd64_passOn s0 s (ctlReg_pass hlo hhi hc) (ctlReg_hi_pass hlo hhi hc)

/-! ### A controller's own state -/

@[simp] theorem State.g_modCan (s : State) (c : Nat) (l : Loc) (f : Can → Can) : (s.modCan c f).g l = s.g l := rfl
@[simp] theorem State.rd_modCan (s : State) (c a : Nat) (f : Can → Can) : (s.modCan c f).rd a = s.rd a := rfl
@[simp] theorem State.g_annEnd (s : State) (c : Nat) (l : Loc) : (s.annEnd c).g l = s.g l := rfl
@[simp] theorem State.rd_annEnd (s : State) (c a : Nat) : (s.annEnd c).rd a = s.rd a := rfl
@[simp] theorem State.canOf_annEnd (s : State) (c k : Nat) : (s.annEnd c).canOf k = s.canOf k := rfl
@[simp] theorem State.canOf_p (s : State) (l : Loc) (v k : Nat) : (s.p l v).canOf k = s.canOf k := rfl

@[simp] theorem State.canOf_modCan_same (s : State) (c : Nat) (f : Can → Can) : (s.modCan c f).canOf c = f (s.canOf c) :=
  Tab.get_set_same _ _ _ _

theorem State.canOf_modCan_ne (s : State) {c k : Nat} (f : Can → Can) (h : k ≠ c) : (s.modCan c f).canOf k = s.canOf k :=
  Tab.get_set_ne _ _ _ h

theorem Kept.canOf_eq {s t : State} {l : List Nat} (h : Kept s t l) (k : Nat) : t.canOf k = s.canOf k := by
  rw [State.canOf, State.canOf, h.2.2]

@[simp] theorem canOf_passOn (s0 s : State) (k : Nat) : (State.passOn s0 s).canOf k = s.canOf k := (Quiet.passOn s0 s).canOf_eq k

theorem Kept.slp_eq {s t : State} {l : List Nat} (h : Kept s t l) : t.slp = s.slp := by rw [h.2.2]

/-- From `s` to `t` nothing changes but the controllers' own state, the registers of `l`, and what passing events on may change. -/
abbrev CanKept (s t : State) (l : List Nat) : Prop := Kept { s with can := t.can } t l

theorem CanKept.of_kept {s t : State} {l : List Nat} (h : Kept s t l) : CanKept s t l := by
  obtain ⟨hreg, hq, hrest⟩ := h
  exact ⟨hreg, hq, by rw [hrest]⟩

theorem CanKept.trans {s t u : State} {l m : List Nat} (h : CanKept s t l) (k : CanKept t u m) : CanKept s u (l ++ m) := by
  have h' : Kept { s with can := u.can } { t with can := u.can } l := by
    obtain ⟨hreg, hq, hrest⟩ := h
    exact ⟨hreg, hq, by rw [hrest]⟩
  exact Kept.trans h' k

theorem CanKept.modCan (s : State) (c : Nat) (f : Can → Can) : CanKept s (s.modCan c f) [] := Kept.refl (s.modCan c f) []

theorem CanKept.passOn {s u : State} {l : List Nat} (s0 : State) (h : CanKept s u l) : CanKept s (State.passOn s0 u) l := by
  unfold CanKept
  rw [passOn_can]
  exact Kept.passOn s0 h

/-- The same, with the announcements that PREPARE waits for (R367). -/
abbrev AnnKept (s t : State) (l : List Nat) : Prop := Kept { s with can := t.can, slp := t.slp } t l

theorem AnnKept.of_canKept {s t : State} {l : List Nat} (h : CanKept s t l) : AnnKept s t l := by
  obtain ⟨hreg, hq, hrest⟩ := h
  exact ⟨hreg, hq, by rw [hrest]⟩

theorem AnnKept.of_kept {s t : State} {l : List Nat} (h : Kept s t l) : AnnKept s t l := .of_canKept (.of_kept h)

theorem AnnKept.trans {s t u : State} {l m : List Nat} (h : AnnKept s t l) (k : AnnKept t u m) : AnnKept s u (l ++ m) := by
  have h' : Kept { s with can := u.can, slp := u.slp } { t with can := u.can, slp := u.slp } l := by
    obtain ⟨hreg, hq, hrest⟩ := h
    exact ⟨hreg, hq, by rw [hrest]⟩
  exact Kept.trans h' k

theorem AnnKept.annEnd (s : State) (c : Nat) : AnnKept s (s.annEnd c) [] := Kept.refl (s.annEnd c) []

theorem AnnKept.passOn {s u : State} {l : List Nat} (s0 : State) (h : AnnKept s u l) : AnnKept s (State.passOn s0 u) l := by
  unfold AnnKept
  rw [passOn_can, passOn_slp]
  exact Kept.passOn s0 h

/-! ### Enable fields (R508) -/

/-- A write that sets an enable field acts, unless the loader holds it until COMMIT. -/
theorem State.enAct_rise {s : State} {req a b : Nat} {v : Word} (hen : s.on ⟨a, b, 1⟩ = false) (hset : bit v.toNat b = true)
    (hdef : s.deferred req = false) : s.enAct req a b v = .rise := by
  have hwas : bit (s.rd a).toNat b = false := (s.on_eq_bit a b).symm.trans hen
  simp [State.enAct, hwas, hset, hdef]

/-- A write that clears an enable field which acts. -/
theorem State.enAct_fall {s : State} {req a b : Nat} {v : Word} (hen : s.enOn ⟨a, b, 1⟩ = true) (hclr : bit v.toNat b = false) :
    s.enAct req a b v = .fall := by
  obtain ⟨hon, hstored⟩ := Bool.and_eq_true_iff.mp hen
  have hwas : bit (s.rd a).toNat b = true := (s.on_eq_bit a b).symm.trans hon
  have hnot : s.loader.stored.contains (a, b) = false := (Bool.not_eq_true' _).mp hstored
  unfold State.enAct
  rw [hwas, hclr, hnot]
  rfl

/-! ### CAN_CFG.EN (R205, R208, R209) -/

theorem exec_canEnable {s : State} {req c : Nat} {v : Word} (hc : c < 16) (hadm : Admitted s req (R.CAN_CFG c) (v ||| 0x80000000)) :
    exec (.canEnable req c v) s = done s (s.canCfgWrite req c (v ||| 0x80000000)) := by
  show execCanEnable req c v s = _
  rw [execCanEnable, Nat.mod_eq_of_lt hc, State.byPort_admitted s _ _ _ _ hadm]

theorem exec_canDisable {s : State} {req c : Nat} {v : Word} (hc : c < 16) (hadm : Admitted s req (R.CAN_CFG c) (v &&& 0x7FFFFFFF)) :
    exec (.canDisable req c v) s = done s (s.canCfgWrite req c (v &&& 0x7FFFFFFF)) := by
  show execCanDisable req c v s = _
  rw [execCanDisable, Nat.mod_eq_of_lt hc, State.byPort_admitted s _ _ _ _ hadm]

theorem State.canCfgWrite_rise {s : State} {req c : Nat} {v : Word} (hen : s.on (R.CAN_CFG.EN c) = false)
    (hset : bit v.toNat 31 = true) (hdef : s.deferred req = false) :
    s.canCfgWrite req c v = (s.store (R.CAN_CFG c) v).canEnable c := by
  rw [State.canCfgWrite, State.enAct_rise hen hset hdef, State.enDo]

theorem State.canCfgWrite_fall {s : State} {req c : Nat} {v : Word} (hen : s.enOn (R.CAN_CFG.EN c) = true)
    (hclr : bit v.toNat 31 = false) : s.canCfgWrite req c v = (s.store (R.CAN_CFG c) v).canDisable c := by
  rw [State.canCfgWrite, State.enAct_fall hen hclr, State.enDo]

/-- A controller with the configuration `x` sampled. -/
def Can.sampled (k : Can) (x : CanCfg) : Can := { k with cfg := x.cfg, nbt := x.nbt, dbt := x.dbt, xbt := x.xbt, tdc := x.tdc }

/-- A controller whose matrix is off, and waits for a boundary or not. -/
def Can.waiting (k : Can) (armed : Bool) : Can := { k with m := { armed := armed } }

/-- Controller `c` goes INTEGRATING with the configuration `x`. -/
def State.canBegun (s : State) (c : Nat) (x : CanCfg) : State :=
  (((s.modCan c (fun k => k.sampled x)).modCan c (fun k => k.waiting (s.enOn (R.CAN_SCH_CFG.EN c)))).p (R.CAN_STS.STATE c)
    canIntegrating).annEnd c

theorem State.canEnable_of_timingOk {s : State} {c : Nat} (hclosing : (s.canOf c).closing = false)
    (hok : timingOk (s.rd (R.CAN_CFG c)) (s.rd (R.CAN_NBT c)) (s.rd (R.CAN_DBT c)) (s.rd (R.CAN_XBT c)) = true) :
    s.canEnable c = s.canBegun c (s.canSample c) := by
  unfold State.canEnable State.canStart
  simp only [hclosing, Bool.false_eq_true, if_false]
  exact if_pos hok

theorem State.canState_canBegun (s : State) (c : Nat) (x : CanCfg) : (s.canBegun c x).canState c = canIntegrating := by
  rw [State.canBegun, State.canState, State.g_annEnd, State.g_p_fits _ _ rfl]
  rfl

theorem State.canOf_canBegun_same (s : State) (c : Nat) (x : CanCfg) :
    (s.canBegun c x).canOf c = ((s.canOf c).sampled x).waiting (s.enOn (R.CAN_SCH_CFG.EN c)) := by
  simp [State.canBegun]

theorem State.canOf_canBegun_ne (s : State) {c k : Nat} (x : CanCfg) (h : k ≠ c) : (s.canBegun c x).canOf k = s.canOf k := by
  simp [State.canBegun, State.canOf_modCan_ne _ _ h]

theorem State.rd_canBegun_ne (s : State) {a c : Nat} (x : CanCfg) (h : a ≠ R.CAN_STS c) : (s.canBegun c x).rd a = s.rd a := by
  rw [State.canBegun, State.rd_annEnd, State.rd_p_ne _ _ _ h, State.rd_modCan, State.rd_modCan]

theorem State.slp_canBegun (s : State) (c : Nat) (x : CanCfg) : (s.canBegun c x).slp = { s.slp with ann := s.slp.ann.erase c } := rfl

theorem AnnKept.canBegun (s : State) (c : Nat) (x : CanCfg) : AnnKept s (s.canBegun c x) [R.CAN_STS c] :=
  (AnnKept.of_canKept (((CanKept.modCan s c _).trans (CanKept.modCan _ c _)).trans (.of_kept (Kept.p _ (R.CAN_STS.STATE c) _)))).trans
    (AnnKept.annEnd _ c)

/-- A write of CAN_CFG leaves the other fields that EN samples. -/
theorem State.canSample_store (s : State) {c : Nat} (v : Word) (hc : c < 16) :
    (s.store (R.CAN_CFG c) v).canSample c = {
      cfg := (s.store (R.CAN_CFG c) v).rd (R.CAN_CFG c)
      nbt := s.rd (R.CAN_NBT c)
      dbt := s.rd (R.CAN_DBT c)
      xbt := s.rd (R.CAN_XBT c)
      tdc := s.rd (R.CAN_TDC c) } := by
  have hrd : ∀ {j}, 0x1400000 < j → j < 0x1410000 → (s.store (R.CAN_CFG c) v).rd (j + 0x10000 * c) = s.rd (j + 0x10000 * c) :=
    fun hlo hhi => (Kept.store s _ v).rd_eq (by simp only [List.mem_singleton, R.CAN_CFG]; omega) (ctlReg_pass hlo.le hhi hc)
  rw [State.canSample]
  congr 1
  · exact hrd (by decide) (by decide)
  · exact hrd (by decide) (by decide)
  · exact hrd (by decide) (by decide)
  · exact hrd (by decide) (by decide)

/-- What CAN_STS of a controller shows once it is OFF. -/
def State.canStsOff (s : State) (c : Nat) : State :=
  (((s.p (R.CAN_STS.STATE c) canOffSt).p (R.CAN_STS.CFG_ERR c) 0).p (R.CAN_STS.PEX c) 0).p (R.CAN_STS.TXBUSY c) 0

/-- Controller `c` is OFF, its matrix too. -/
def State.canEnded (s : State) (c : Nat) : State :=
  ((((s.canStsOff c).annEnd c).modCan c (fun k => { k with tx := none, closing := false, again := none, sic := false })).modMatrix c
    (fun _ => {})).p (R.CAN_SCH_STS.RUN c) 0

theorem State.setCanState_off (s : State) (c : Nat) : s.setCanState c canOffSt = (s.p (R.CAN_STS.STATE c) canOffSt).annEnd c := rfl

theorem State.p_annEnd (s : State) (c : Nat) (l : Loc) (v : Nat) : (s.annEnd c).p l v = (s.p l v).annEnd c := rfl

theorem State.canDisable_of_idle {s : State} {c : Nat} (hclosing : (s.canOf c).closing = false) (htx : (s.canOf c).tx = none) :
    s.canDisable c = s.canEnded c := by
  unfold State.canDisable
  simp only [hclosing, htx, Option.isSome_none, Bool.false_eq_true, if_false]
  rw [State.canOff, State.setCanState_off, State.p_annEnd, State.p_annEnd, State.p_annEnd, State.matrixStop, State.canEnded,
    State.canStsOff]

theorem State.g_canStsOff (s : State) (c : Nat) :
    (s.canStsOff c).g (R.CAN_STS.STATE c) = canOffSt ∧ (s.canStsOff c).g (R.CAN_STS.CFG_ERR c) = 0 ∧
      (s.canStsOff c).g (R.CAN_STS.TXBUSY c) = 0 := by
  unfold State.canStsOff
  refine ⟨?_, ?_, State.g_p_fits _ 0 rfl⟩
  · rw [State.g_p_apart _ _ 0 rfl rfl, State.g_p_apart _ _ 0 rfl rfl, State.g_p_apart _ _ 0 rfl rfl]
    exact State.g_p_fits _ canOffSt rfl
  · rw [State.g_p_apart _ _ 0 rfl rfl, State.g_p_apart _ _ 0 rfl rfl]
    exact State.g_p_fits _ 0 rfl

theorem Kept.canStsOff (s : State) (c : Nat) : Kept s (s.canStsOff c) [R.CAN_STS c] :=
  ((((Kept.p s (R.CAN_STS.STATE c) _).trans (Kept.p _ (R.CAN_STS.CFG_ERR c) 0)).trans (Kept.p _ (R.CAN_STS.PEX c) 0)).trans
    (Kept.p _ (R.CAN_STS.TXBUSY c) 0)).mono (fun a ha => .inl (by simpa [R.CAN_STS.STATE, R.CAN_STS.CFG_ERR, R.CAN_STS.PEX,
      R.CAN_STS.TXBUSY] using ha))

/-- A field of CAN_STS is not one of CAN_SCH_STS. -/
theorem State.g_canEnded (s : State) {c : Nat} {l : Loc} (hl : l.addr = R.CAN_STS c) : (s.canEnded c).g l = (s.canStsOff c).g l := by
  have hne : l.addr ≠ (R.CAN_SCH_STS.RUN c).addr := by simp [hl, R.CAN_STS, R.CAN_SCH_STS.RUN, R.CAN_SCH_STS]
  rw [State.canEnded, State.g_p_ne _ _ _ _ hne, State.modMatrix, State.g_modCan, State.g_modCan, State.g_annEnd]

theorem State.canOf_canEnded_ne (s : State) {c k : Nat} (h : k ≠ c) : (s.canEnded c).canOf k = s.canOf k := by
  rw [State.canEnded, State.canOf_p, State.modMatrix, State.canOf_modCan_ne _ _ h, State.canOf_modCan_ne _ _ h, State.canOf_annEnd,
    (Kept.canStsOff s c).canOf_eq]

theorem State.slp_canEnded (s : State) (c : Nat) : (s.canEnded c).slp = { s.slp with ann := s.slp.ann.erase c } := rfl

theorem State.run_canEnded (s : State) (c : Nat) : (s.canEnded c).g (R.CAN_SCH_STS.RUN c) = 0 := by
  rw [State.canEnded]
  exact State.g_p_fits _ 0 rfl

theorem AnnKept.canEnded (s : State) (c : Nat) : AnnKept s (s.canEnded c) [R.CAN_STS c, R.CAN_SCH_STS c] :=
  ((AnnKept.of_kept (Kept.canStsOff s c)).trans (AnnKept.annEnd _ c)).trans (AnnKept.of_canKept
    (((CanKept.modCan _ c _).trans (CanKept.modCan _ c _)).trans (.of_kept (Kept.p _ (R.CAN_SCH_STS.RUN c) 0))))

/-! ### Error counts (R210) -/

/-- Counts below 96 as CAN_ERRC shows them, WARN clear. -/
def State.countsShown (s : State) (c tec rec : Nat) : State :=
  ((s.p (R.CAN_ERRC.TEC c) tec).p (R.CAN_ERRC.REC c) rec).pb (R.CAN_STS.WARN c) false

/-- Counts that stay below 96 move no state and raise no event. -/
theorem State.canCounts_of_low {s : State} {c tec rec : Nat} (htec : tec < 96) (hrec : rec < 96) (hstate : s.canState c ≠ canPassive) :
    s.canCounts c tec rec = s.countsShown c tec rec := by
  have htop : ¬ 255 < tec := by omega
  have hpassive : ¬ (s.canState c = canActive ∧ (127 < tec ∨ 127 < rec)) := by omega
  unfold State.canCounts
  simp only [Nat.min_eq_left (show tec ≤ 511 by omega), Nat.min_eq_left (show rec ≤ 255 by omega), Nat.not_le.mpr htec,
    Nat.not_le.mpr hrec, and_false, or_self, decide_false, Bool.or_self, htop, hpassive, hstate, false_and, if_false]
  rfl

theorem Kept.countsShown (s : State) (c tec rec : Nat) : Kept s (s.countsShown c tec rec) [R.CAN_ERRC c, R.CAN_STS c] :=
  (((Kept.p s (R.CAN_ERRC.TEC c) tec).trans (Kept.p _ (R.CAN_ERRC.REC c) rec)).trans (Kept.pb _ (R.CAN_STS.WARN c) false)).mono
    (fun a ha => .inl (by simpa [R.CAN_ERRC.TEC, R.CAN_ERRC.REC, R.CAN_STS.WARN] using ha))

theorem canErrc_ne_sts (c : Nat) : R.CAN_ERRC c ≠ R.CAN_STS c := by simp [R.CAN_ERRC, R.CAN_STS]

theorem State.g_countsShown (s : State) {c tec rec : Nat} (htec : tec < 96) (hrec : rec < 96) :
    (s.countsShown c tec rec).g (R.CAN_ERRC.TEC c) = tec ∧ (s.countsShown c tec rec).g (R.CAN_ERRC.REC c) = rec := by
  unfold State.countsShown State.pb
  constructor
  · rw [State.g_p_ne _ _ _ _ (canErrc_ne_sts c), State.g_p_apart _ _ _ rfl rfl, State.g_p_fits _ _ rfl]
    exact Nat.mod_eq_of_lt (htec.trans (show 96 < 2 ^ 9 by decide))
  · rw [State.g_p_ne _ _ _ _ (canErrc_ne_sts c), State.g_p_fits _ _ rfl]
    exact Nat.mod_eq_of_lt (hrec.trans (show 96 < 2 ^ 8 by decide))

/-- WARN is the only field of CAN_STS that the counts have changed. -/
theorem State.sts_countsShown (s : State) {c tec rec : Nat} {l : Loc} (hl : l.addr = R.CAN_STS c) (hfit : l.fits = true)
    (hwarn : (R.CAN_STS.WARN c).apart l = true) : (s.countsShown c tec rec).g l = s.g l := by
  have hne : l.addr ≠ R.CAN_ERRC c := hl ▸ (canErrc_ne_sts c).symm
  rw [State.countsShown, State.pb, State.g_p_apart _ _ _ hfit hwarn, State.g_p_ne _ _ _ _ hne, State.g_p_ne _ _ _ _ hne]

theorem State.canState_countsShown (s : State) (c tec rec : Nat) : (s.countsShown c tec rec).canState c = s.canState c :=
  State.sts_countsShown s rfl rfl rfl

/-- The two words of a counter of controller `c` are neither CAN_ERRC nor CAN_STS. -/
theorem ctlCounter_off {j c : Nat} (hlo : 0x1400040 ≤ j) :
    R.CAN_ERRC c ∉ [j + 0x10000 * c, j + 0x10000 * c + 4] ∧ R.CAN_STS c ∉ [j + 0x10000 * c, j + 0x10000 * c + 4] := by
  simp only [List.mem_cons, List.not_mem_nil, or_false, R.CAN_ERRC, R.CAN_STS]
  omega

theorem State.canState_bump (s : State) {j c : Nat} (hc : c < 16) (hlo : 0x1400040 ≤ j) :
    (s.bump (j + 0x10000 * c)).canState c = s.canState c :=
  (Kept.bump s _).g_eq (ctlCounter_off hlo).2 (ctlReg_pass (by decide) (by decide) hc)

theorem State.rd64_countsShown (s : State) {j c : Nat} (tec rec : Nat) (hc : c < 16) (hlo : 0x1400040 ≤ j) (hhi : j < 0x1410000) :
    (s.countsShown c tec rec).rd64 (j + 0x10000 * c) = s.rd64 (j + 0x10000 * c) := by
  refine (Kept.countsShown s c tec rec).rd64_eq ?_ ?_ (ctlReg_pass (by omega) hhi hc) (ctlReg_hi_pass (by omega) hhi hc)
  all_goals
    simp only [List.mem_cons, List.not_mem_nil, or_false, R.CAN_ERRC, R.CAN_STS]
    omega

/-- A controller that is ERR_ACTIVE and has seen no protocol exception takes part in the bus (R209, R211). -/
theorem State.canOnBus_of_active {s : State} {c : Nat} (hstate : s.canState c = canActive) (hpex : s.g (R.CAN_STS.PEX c) = 0) :
    s.canOnBus c = true := by
  simp [State.canOnBus, State.on, hstate, hpex]

/-- A stuff error that a receiver detects adds one to REC. -/
theorem State.canErr_stuff {s : State} {c : Nat} (hc : c < 16) (hstate : s.canState c = canActive) (hpex : s.g (R.CAN_STS.PEX c) = 0)
    (hlisten : s.listen c = false) (htec : s.g (R.CAN_ERRC.TEC c) < 96) (hrec : s.g (R.CAN_ERRC.REC c) < 95) :
    s.canErr c 1 false 1 none =
      (s.bump (R.CAN_STUFF_ERR_LO c)).countsShown c (s.g (R.CAN_ERRC.TEC c)) (s.g (R.CAN_ERRC.REC c) + 1) := by
  have hact : (s.bump (R.CAN_STUFF_ERR_LO c)).canState c ≠ canPassive := by
    rw [R.CAN_STUFF_ERR_LO, State.canState_bump s hc (by decide), hstate]
    decide
  rw [← State.canCounts_of_low htec (Nat.succ_lt_succ hrec) hact]
  unfold State.canErr
  simp [State.canOnBus_of_active hstate hpex, hlisten, errWeight, errCtr]

/-! ### The ends of INTEGRATING and BUS_OFF (R209, R212) -/

/-- Controller `c` is ERR_ACTIVE with its counts at zero. -/
def State.canFresh (s : State) (c : Nat) : State :=
  (((s.p (R.CAN_ERRC.TEC c) 0).p (R.CAN_ERRC.REC c) 0).p (R.CAN_STS.WARN c) 0).p (R.CAN_STS.STATE c) canActive

theorem State.integrated_of_busOk {s : State} {c : Nat} (hstate : s.canState c = canIntegrating) (hbus : s.canBusOk c = true) :
    s.integrated c = s.canFresh c := by
  rw [State.integrated, if_pos ⟨hstate, hbus⟩]
  rfl

theorem State.busOffCount_of_lt {s : State} {c n : Nat} (hstate : s.canState c = canBusOff) (hn : n < 128) :
    s.busOffCount c n = s.p (R.CAN_STS.BO_CNT c) n := by
  simp [State.busOffCount, hstate, hn]

theorem State.busOffCount_of_le {s : State} {c n : Nat} (hstate : s.canState c = canBusOff) (hn : 128 ≤ n) :
    s.busOffCount c n = ((s.p (R.CAN_STS.BO_CNT c) 128).canFresh c).ev (R.CAN_EVT.RECOVERED c) := by
  simp only [State.busOffCount, hstate, bne_self_eq_false, Bool.false_eq_true, if_false, Nat.not_lt.mpr hn]
  rfl

theorem Kept.canFresh (s : State) (c : Nat) : Kept s (s.canFresh c) [R.CAN_STS c, R.CAN_ERRC c] :=
  ((((Kept.p s (R.CAN_ERRC.TEC c) 0).trans (Kept.p _ (R.CAN_ERRC.REC c) 0)).trans (Kept.p _ (R.CAN_STS.WARN c) 0)).trans
    (Kept.p _ (R.CAN_STS.STATE c) _)).mono (fun a ha => .inl (by
      simp only [R.CAN_ERRC.TEC, R.CAN_ERRC.REC, R.CAN_STS.WARN, R.CAN_STS.STATE, List.mem_append, List.mem_singleton] at ha
      simp only [List.mem_cons, List.not_mem_nil, or_false]
      tauto))

theorem State.g_canFresh (s : State) (c : Nat) :
    (s.canFresh c).canState c = canActive ∧ (s.canFresh c).g (R.CAN_ERRC.TEC c) = 0 ∧ (s.canFresh c).g (R.CAN_ERRC.REC c) = 0 := by
  unfold State.canFresh
  refine ⟨State.g_p_fits _ canActive rfl, ?_, ?_⟩
  · rw [State.g_p_ne _ _ _ _ (canErrc_ne_sts c), State.g_p_ne _ _ _ _ (canErrc_ne_sts c), State.g_p_apart _ _ _ rfl rfl]
    exact State.g_p_fits _ 0 rfl
  · rw [State.g_p_ne _ _ _ _ (canErrc_ne_sts c), State.g_p_ne _ _ _ _ (canErrc_ne_sts c)]
    exact State.g_p_fits _ 0 rfl

end Sys2Proof.Machine

open Sys2Proof Sys2Proof.Machine

/-- Settles O29: a write of EN that its port admits starts the controller or ends it; eleven recessive bits and the 128th sequence
leave the same fresh controller; and an error below the warning level moves its count alone. -/
theorem canControllerStates : Obligations.CanControllerStates := by
  unfold Obligations.CanControllerStates
  refine ⟨?enable, ?disable, ?integrated, ?counting, ?recovered, ?error, ?pexEnd⟩
  case enable =>
    intro s req c v hc hadm hen hclosing hdef hok
    have hstore := Kept.store s (R.CAN_CFG c) (v ||| 0x80000000)
    have hsample := s.canSample_store (v ||| 0x80000000) hc
    obtain ⟨-, hnbt, hdbt, hxbt, -⟩ := CanCfg.mk.inj hsample
    rw [exec_canEnable hc hadm, State.canCfgWrite_rise hen (bit_or_top v) hdef,
      State.canEnable_of_timingOk (by rwa [hstore.canOf_eq]) (by rwa [hnbt, hdbt, hxbt]), hsample]
    refine ⟨_, rfl, ?_, ?_, ?_, ?_, ?_, ?_, ?_, ?_⟩
    · rw [State.canState, g_passOn_ctl _ _ hc rfl (by decide) (by decide)]
      exact State.canState_canBegun _ c _
    · rw [canOf_passOn, State.canOf_canBegun_same, rd_passOn _ _ (canCfg_pass hc),
        State.rd_canBegun_ne _ _ (by simp [R.CAN_CFG, R.CAN_STS])]
      rfl
    · rw [canOf_passOn, State.canOf_canBegun_same]
      rfl
    · rw [canOf_passOn, State.canOf_canBegun_same]
      rfl
    · rw [canOf_passOn, State.canOf_canBegun_same]
      rfl
    · intro k hk
      rw [canOf_passOn, State.canOf_canBegun_ne _ _ hk, hstore.canOf_eq]
    · rw [passOn_slp, State.slp_canBegun, hstore.slp_eq]
    · exact AnnKept.passOn s ((AnnKept.of_kept hstore).trans (AnnKept.canBegun _ c _))
  case disable =>
    intro s req c v hc hadm hen hclosing htx
    have hstore := Kept.store s (R.CAN_CFG c) (v &&& 0x7FFFFFFF)
    obtain ⟨hstate, herr, hbusy⟩ := (s.store (R.CAN_CFG c) (v &&& 0x7FFFFFFF)).g_canStsOff c
    rw [exec_canDisable hc hadm, State.canCfgWrite_fall hen (bit_and_rest v),
      State.canDisable_of_idle (by rwa [hstore.canOf_eq]) (by rwa [hstore.canOf_eq])]
    refine ⟨_, rfl, ?_, ?_, ?_, ?_, ?_, ?_, ?_⟩
    · rw [State.canState, g_passOn_ctl _ _ hc rfl (by decide) (by decide), State.g_canEnded _ rfl, hstate]
    · rw [g_passOn_ctl _ _ hc rfl (by decide) (by decide), State.g_canEnded _ rfl, herr]
    · rw [g_passOn_ctl _ _ hc rfl (by decide) (by decide), State.g_canEnded _ rfl, hbusy]
    · rw [g_passOn_ctl _ _ hc rfl (by decide) (by decide), State.run_canEnded]
    · intro k hk
      rw [canOf_passOn, State.canOf_canEnded_ne _ hk, hstore.canOf_eq]
    · rw [passOn_slp, State.slp_canEnded, hstore.slp_eq]
    · exact AnnKept.passOn s ((AnnKept.of_kept hstore).trans (AnnKept.canEnded _ c))
  case integrated =>
    intro s c hc hstate hbus
    have hexec : exec (.integrationDone c) s = done s (s.integrated c) := congrArg (fun k => done s (s.integrated k)) (Nat.mod_eq_of_lt hc)
    obtain ⟨hactive, htec, hrec⟩ := s.g_canFresh c
    rw [hexec, State.integrated_of_busOk hstate hbus]
    refine ⟨_, rfl, ?_, ?_, ?_, (Kept.canFresh s c).passOn s⟩
    · rw [State.canState, g_passOn_ctl _ _ hc rfl (by decide) (by decide)]
      exact hactive
    · rw [g_passOn_ctl _ _ hc rfl (by decide) (by decide), htec]
    · rw [g_passOn_ctl _ _ hc rfl (by decide) (by decide), hrec]
  case counting =>
    intro s c n hc hstate hn
    have hexec : exec (.busOffRecovery c n) s = done s (s.busOffCount c n) :=
      congrArg (fun k => done s (s.busOffCount k n)) (Nat.mod_eq_of_lt hc)
    rw [hexec, State.busOffCount_of_lt hstate hn]
    refine ⟨_, rfl, ?_, ?_, (Kept.p s (R.CAN_STS.BO_CNT c) n).passOn s⟩
    · rw [State.canState, g_passOn_ctl _ _ hc rfl (by decide) (by decide), State.g_p_apart _ _ _ rfl rfl]
      exact hstate
    · rw [g_passOn_ctl _ _ hc rfl (by decide) (by decide), State.g_p_fits _ _ rfl]
      exact Nat.mod_eq_of_lt (hn.trans (show 128 < 2 ^ 8 by decide))
  case recovered =>
    intro s c n hc hstate hn
    have hexec : exec (.busOffRecovery c n) s = done s (s.busOffCount c n) :=
      congrArg (fun k => done s (s.busOffCount k n)) (Nat.mod_eq_of_lt hc)
    obtain ⟨hactive, htec, hrec⟩ := (s.p (R.CAN_STS.BO_CNT c) 128).g_canFresh c
    rw [hexec, State.busOffCount_of_le hstate hn]
    refine ⟨_, rfl, ?_, ?_, ?_, ?_, ?_⟩
    · rw [State.canState, g_passOn_ctl _ _ hc rfl (by decide) (by decide), State.ev, State.g_p_ne _ _ _ _ (by
        simp [R.CAN_STS.STATE, R.CAN_STS, R.CAN_EVT.RECOVERED, R.CAN_EVT])]
      exact hactive
    · rw [g_passOn_ctl _ _ hc rfl (by decide) (by decide), State.ev, State.g_p_ne _ _ _ _ (by
        simp [R.CAN_ERRC.TEC, R.CAN_ERRC, R.CAN_EVT.RECOVERED, R.CAN_EVT]), htec]
    · rw [g_passOn_ctl _ _ hc rfl (by decide) (by decide), State.ev, State.g_p_ne _ _ _ _ (by
        simp [R.CAN_ERRC.REC, R.CAN_ERRC, R.CAN_EVT.RECOVERED, R.CAN_EVT]), hrec]
    · rw [g_passOn_ctl _ _ hc rfl (by decide) (by decide)]
      exact State.g_p_fits _ 1 rfl
    · exact (((Kept.p s (R.CAN_STS.BO_CNT c) 128).trans (Kept.canFresh _ c)).trans (Kept.ev _ (R.CAN_EVT.RECOVERED c))).mono
        (fun a ha => .inl (by simpa [R.CAN_STS.BO_CNT, R.CAN_EVT.RECOVERED] using ha)) |>.passOn s
  case error =>
    intro s c hc hstate hpex hlisten htec hrec hsave
    have hexec : exec (.canError c 1 false 1 none) s = done s (s.canErr c 1 false 1 none) :=
      congrArg (fun k => done s (s.canErr k 1 false 1 none)) (Nat.mod_eq_of_lt hc)
    obtain ⟨hshown, hrecShown⟩ := (s.bump (R.CAN_STUFF_ERR_LO c)).g_countsShown (c := c) htec (Nat.succ_lt_succ hrec)
    rw [hexec, State.canErr_stuff hc hstate hpex hlisten htec hrec]
    refine ⟨_, rfl, ?_, ?_, ?_, ?_, ?_⟩
    · rw [g_passOn_ctl _ _ hc rfl (by decide) (by decide), hrecShown]
    · rw [g_passOn_ctl _ _ hc rfl (by decide) (by decide), hshown]
    · rw [State.canState, g_passOn_ctl _ _ hc rfl (by decide) (by decide)]
      exact (State.canState_countsShown _ c _ _).trans ((State.canState_bump s hc (by decide)).trans hstate)
    · exact (rd64_passOn_ctl _ _ hc rfl (by decide) (by decide)).trans
        ((State.rd64_countsShown _ _ _ hc (by decide) (by decide)).trans (State.rd64_bump s _ hsave))
    · exact ((Kept.bump s (R.CAN_STUFF_ERR_LO c)).trans (Kept.countsShown _ c _ _)).passOn s
  case pexEnd =>
    intro s c hc
    have hexec : exec (.pexEnd c) s = done s (s.p (R.CAN_STS.PEX c) 0) :=
      congrArg (fun k => done s (s.p (R.CAN_STS.PEX k) 0)) (Nat.mod_eq_of_lt hc)
    refine ⟨_, hexec, ?_, (Kept.p s (R.CAN_STS.PEX c) 0).passOn s⟩
    rw [g_passOn_ctl _ _ hc rfl (by decide) (by decide)]
    exact State.g_p_fits s 0 rfl

end

section
/-! SUPPORT. What a frame received without error does, and what the capture of the start-of-frame counter leaves (R213-R218). -/

namespace Sys2Proof.Machine

/-! ### Classical frames with a base identifier (R211, R213-R215) -/

/-- A base identifier selects the object of its number, where that is enabled (R213). -/
theorem State.rxSelect_of_base {s : State} {c : Nat} {f : CFrame} (hfmt : f.fmt = 0) (hide : f.ide = false) (hid : f.id < 2048) :
    s.rxSelect c f =
      if s.on (R.CAN_RXC.EN c f.id) then some (f.id, s.g (R.CAN_RXC.DEL c f.id), s.g (R.CAN_RXC.Q c f.id)) else none := by
  unfold State.rxSelect
  simp [hfmt, hide, Nat.mod_eq_of_lt hid]

/-- A good frame is counted and takes one from REC, which stays at zero. -/
def State.canRxGood (s : State) (c : Nat) : State := (s.bump (R.CAN_RX_OK_LO c)).canCounts c (s.g (R.CAN_ERRC.TEC c)) 0

/-- A frame that selects no object is counted and dropped. -/
def State.canRxDropped (s : State) (c : Nat) : State := (s.bump (R.CAN_RX_NOOBJ_LO c)).ev (R.CAN_EVT.NOOBJ c)

theorem Kept.canRxDropped (s : State) (c : Nat) :
    Kept s (s.canRxDropped c) [R.CAN_RX_NOOBJ_LO c, R.CAN_RX_NOOBJ_LO c + 4, R.CAN_EVT c] :=
  (Kept.bump s (R.CAN_RX_NOOBJ_LO c)).trans (Kept.ev _ (R.CAN_EVT.NOOBJ c))

theorem State.rd64_canRxDropped {s : State} (c : Nat) (hsave : s.saving = false) :
    (s.canRxDropped c).rd64 (R.CAN_RX_NOOBJ_LO c) = (s.rd64 (R.CAN_RX_NOOBJ_LO c) + 1) % 2 ^ 64 := by
  rw [State.canRxDropped, State.rd64_ev_ne, State.rd64_bump s _ hsave]
  all_goals
    simp only [R.CAN_RX_NOOBJ_LO, R.CAN_EVT.NOOBJ, R.CAN_EVT]
    omega

/-- The count of good frames stands. -/
theorem State.rxOk_canRxDropped (s : State) {c : Nat} (hc : c < 16) :
    (s.canRxDropped c).rd64 (R.CAN_RX_OK_LO c) = s.rd64 (R.CAN_RX_OK_LO c) := by
  refine (Kept.canRxDropped s c).rd64_eq ?_ ?_ (ctlReg_pass (by decide) (by decide) hc) (ctlReg_hi_pass (by decide) (by decide) hc)
  all_goals
    simp only [List.mem_cons, List.not_mem_nil, or_false, R.CAN_RX_OK_LO, R.CAN_RX_NOOBJ_LO, R.CAN_EVT]
    omega

section
variable {s : State} {c dlc age : Nat} {f : CFrame} {data : List Byte} (hbus : s.canOnBus c = true) (hfmt : f.fmt = 0)
  (hrec : s.g (R.CAN_ERRC.REC c) = 0)
include hbus hfmt hrec

theorem State.canReceive_of_none (hselect : (s.canRxGood c).rxSelect c (s.rxCan c f dlc data age) = none) :
    s.canReceive c f dlc data age = (s.canRxGood c).canRxDropped c := by
  unfold State.canRxGood at hselect
  unfold State.canRxDropped State.canRxGood
  unfold State.canReceive
  simp [hbus, hfmt, hrec, hselect]

theorem State.canReceive_of_object {i del q : Nat} (hselect : (s.canRxGood c).rxSelect c (s.rxCan c f dlc data age) = some (i, del, q))
    (hdel : del ≤ 1) (hworn : (s.canRxGood c).objWorn c i = false) :
    s.canReceive c f dlc data age =
      (let u := (s.canRxGood c).rxStore c i (s.rxCan c f dlc data age)
       u.gwTake { can := c, obj := i, del := del, seq := u.g (R.CAN_RXO_W0.SEQ c i), f := s.rxCan c f dlc data age }) := by
  have hqueue : del ≠ 3 := by omega
  unfold State.canRxGood at hselect hworn ⊢
  unfold State.canReceive
  simp [hbus, hfmt, hrec, hselect, hdel, hqueue, hworn]

end

section
variable {s : State} {c : Nat} (hc : c < 16) (hstate : s.canState c = canActive) (htec : s.g (R.CAN_ERRC.TEC c) < 96)
include hc hstate htec

theorem State.canRxGood_of_low : s.canRxGood c = (s.bump (R.CAN_RX_OK_LO c)).countsShown c (s.g (R.CAN_ERRC.TEC c)) 0 := by
  have hactive : (s.bump (R.CAN_RX_OK_LO c)).canState c ≠ canPassive := by
    rw [R.CAN_RX_OK_LO, State.canState_bump s hc (by decide), hstate]
    decide
  exact State.canCounts_of_low htec (by decide) hactive

theorem Kept.canRxGood : Kept s (s.canRxGood c) [R.CAN_RX_OK_LO c, R.CAN_RX_OK_LO c + 4, R.CAN_ERRC c, R.CAN_STS c] := by
  rw [State.canRxGood_of_low hc hstate htec]
  exact (Kept.bump s (R.CAN_RX_OK_LO c)).trans (Kept.countsShown _ c _ _)

theorem State.rd64_canRxGood (hsave : s.saving = false) :
    (s.canRxGood c).rd64 (R.CAN_RX_OK_LO c) = (s.rd64 (R.CAN_RX_OK_LO c) + 1) % 2 ^ 64 := by
  rw [State.canRxGood_of_low hc hstate htec]
  exact (State.rd64_countsShown _ _ _ hc (by decide) (by decide)).trans (State.rd64_bump s _ hsave)

/-- The count of frames without an object stands. -/
theorem State.noobj_canRxGood : (s.canRxGood c).rd64 (R.CAN_RX_NOOBJ_LO c) = s.rd64 (R.CAN_RX_NOOBJ_LO c) := by
  refine (Kept.canRxGood hc hstate htec).rd64_eq ?_ ?_ (ctlReg_pass (by decide) (by decide) hc) (ctlReg_hi_pass (by decide) (by decide) hc)
  all_goals
    simp only [List.mem_cons, List.not_mem_nil, or_false, R.CAN_RX_OK_LO, R.CAN_RX_NOOBJ_LO, R.CAN_ERRC, R.CAN_STS]
    omega

theorem State.saving_canRxGood : (s.canRxGood c).saving = s.saving :=
  (Kept.canRxGood hc hstate htec).saving_eq (by
    simp only [List.mem_cons, List.not_mem_nil, or_false, R.PWR_SUP_STS.SAVE, R.PWR_SUP_STS, R.CAN_RX_OK_LO, R.CAN_ERRC, R.CAN_STS]
    omega)

/-- The receive configuration of an object stands as it was. -/
theorem State.rxc_canRxGood {i : Nat} {l : Loc} (hi : i < 2048) (hl : l.addr = R.CAN_RXC c i) : (s.canRxGood c).g l = s.g l := by
  have haddr : l.addr = 0x1400800 + 0x10000 * c + 4 * i := hl
  refine (Kept.canRxGood hc hstate htec).g_eq ?_ (canReg_pass (by omega) (by omega))
  simp only [List.mem_cons, List.not_mem_nil, or_false, R.CAN_RX_OK_LO, R.CAN_ERRC, R.CAN_STS]
  omega

theorem State.rxSelect_canRxGood {f : CFrame} (hfmt : f.fmt = 0) (hide : f.ide = false) (hid : f.id < 2048) :
    (s.canRxGood c).rxSelect c f = s.rxSelect c f := by
  rw [State.rxSelect_of_base hfmt hide hid, State.rxSelect_of_base hfmt hide hid, State.on, State.rxc_canRxGood hc hstate htec hid rfl,
    State.rxc_canRxGood hc hstate htec hid rfl, State.rxc_canRxGood hc hstate htec hid rfl, State.on]

theorem State.objWorn_canRxGood (i : Nat) : (s.canRxGood c).objWorn c i = s.objWorn c i := by
  rw [State.objWorn, (Kept.canRxGood hc hstate htec).2.2, State.objWorn]

end

theorem exec_canFrameReceived_base (s : State) {c : Nat} (id dlc age : Nat) (d : List Byte) (hc : c < 16) :
    exec (.canFrameReceived c 0 id false false false false false 0 0 0 dlc d age) s =
      done s (s.canReceive c { fmt := 0, ide := false, id := id, rtr := false, brs := false, esi := false, sec := false } dlc d age) :=
  congrArg (fun k => done s (s.canReceive k { fmt := 0, ide := false, id := id, rtr := false, brs := false, esi := false, sec := false }
    dlc d age)) (Nat.mod_eq_of_lt hc)

/-! ### Receive objects (R216) -/

theorem rxObject_pass {c i : Nat} (hc : c < 16) (hi : i < 2560) : R.CAN_RXO_W0 c i ∉ passRegs :=
  canReg_pass (by simp only [R.CAN_RXO_W0]; omega) (by simp only [R.CAN_RXO_W0]; omega)

theorem exec_rxObjectW0Write {s : State} {req c i : Nat} {v : Word} (hc : c < 16) (hi : i < 2560)
    (hadm : Admitted s req (R.CAN_RXO_W0 c i) v) : exec (.rxObjectW0Write req c i v) s = done s (s.rxoW0Write c i v) := by
  show execRxObjectW0Write req c i v s = _
  rw [execRxObjectW0Write, Nat.mod_eq_of_lt hc, Nat.mod_eq_of_lt hi, State.byPort_admitted s _ _ _ _ hadm]

theorem Kept.rxoW0Write (s : State) (c i : Nat) (v : Word) : Kept s (s.rxoW0Write c i v) [R.CAN_RXO_W0 c i] := by
  unfold State.rxoW0Write
  split
  · exact Kept.wr s _ _
  · exact Kept.refl s _

theorem State.rd_rxoW0Write (s : State) (c i : Nat) (v : Word) : (s.rxoW0Write c i v).rd (R.CAN_RXO_W0 c i) =
    if fieldOf v 26 4 = s.g (R.CAN_RXO_W0.SEQ c i) then s.rd (R.CAN_RXO_W0 c i) &&& ~~~(v &&& 0xC0000000) else s.rd (R.CAN_RXO_W0 c i) := by
  unfold State.rxoW0Write
  split
  · exact State.rd_wr_same s _ _
  · rfl

/-! ### Consecutive registers -/

theorem State.wrList_append (s : State) (a : Nat) (xs ys : List Word) :
    s.wrList a (xs ++ ys) = (s.wrList a xs).wrList (a + 4 * xs.length) ys := by
  induction xs generalizing s a with
  | nil => rfl
  | cons x xs ih =>
    rw [List.cons_append, State.wrList, State.wrList, ih, List.length_cons]
    congr 1
    omega

/-- The registers that a list of `n` words takes up from `a`. -/
theorem Kept.wrList (s : State) (a : Nat) (ws : List Word) : Kept s (s.wrList a ws) ((List.range ws.length).map (fun k => a + 4 * k)) := by
  induction ws generalizing s a with
  | nil => exact Kept.refl s _
  | cons w ws ih =>
    refine ((Kept.wr s a w).trans (ih _ (a + 4))).mono (fun b hb => .inl ?_)
    rcases List.mem_append.mp hb with hb | hb
    · exact List.mem_map.mpr ⟨0, by simp, by simpa using (List.mem_singleton.mp hb).symm⟩
    · obtain ⟨k, hk, rfl⟩ := List.mem_map.mp hb
      exact List.mem_map.mpr ⟨k + 1, by simpa using hk, by omega⟩

theorem State.wrList_pair (s : State) (a n : Nat) : s.wrList a [W n, W (n / 2 ^ 32)] = s.wr64 a n := rfl

/-! ### The capture (R218) -/

/-- The words captured of time base `t`: its value, or zeros where it does not run. -/
def State.capWords (s : State) (t : Nat) : List Word :=
  if ((List.range 4).filter (fun k => s.tbRun k)).contains t then tvWords (s.tbVal t) else [0, 0, 0]

theorem State.length_capWords (s : State) (t : Nat) : (s.capWords t).length = 3 := by
  unfold State.capWords
  split <;> rfl

/-- The words captured of the four time bases. -/
def State.capBases (s : State) : List Word := (List.range 4).flatMap s.capWords

theorem State.length_capBases (s : State) : s.capBases.length = 12 := by
  simp [State.capBases, List.length_flatMap, State.length_capWords]

/-- The last word of a capture: the time bases that run, and CAPSEQ. -/
def State.capLast (s : State) : Word :=
  W (maskOf 4 ((List.range 4).filter (fun t => s.tbRun t)) * 65536 + (s.g R.CAN_XCAP_HI.CAPSEQ + 1) % 65536)

theorem State.capSeq_capLast (s : State) : fieldOf s.capLast 0 16 = (s.g R.CAN_XCAP_HI.CAPSEQ + 1) % 65536 := by
  simp only [fieldOf, State.capLast, W_toNat]
  omega

/-- The last whole millisecond of the counter, which a capture takes. -/
def State.capCtr (s : State) : Nat := s.sofCtr / 80000 * 80000

/-- A capture as its registers show it. -/
def State.capShown (s : State) : State :=
  s.wrList R.CAN_XCAP_LO ([W s.capCtr, W (s.capCtr / 2 ^ 32)] ++ s.capBases ++ [s.capLast])

/-- The state with another state of the gateway's own. -/
def State.withGw (s : State) (gw : Gw) : State := { s with gw := gw }

@[simp] theorem State.g_withGw (s : State) (gw : Gw) (l : Loc) : (s.withGw gw).g l = s.g l := rfl
@[simp] theorem State.rd64_withGw (s : State) (gw : Gw) (a : Nat) : (s.withGw gw).rd64 a = s.rd64 a := rfl

/-- A frame of registers becomes, with the gateway's own state changed as well, one that excepts that state. -/
theorem Kept.passOn_withGw {s u : State} {l : List Nat} (s0 : State) (h : Kept s u l) (gw : Gw) :
    Kept { s with gw := (State.passOn s0 (u.withGw gw)).gw } (State.passOn s0 (u.withGw gw)) l := by
  obtain ⟨hreg, hq, hrest⟩ := h
  rw [passOn_gw]
  refine Kept.passOn s0 ⟨hreg, hq, ?_⟩
  simp only [State.withGw]
  rw [hrest]

/-- Besides its registers a capture changes what the gateway's own state remembers of captures. -/
theorem State.crossCapture_eq (s : State) : ∃ gw, s.crossCapture = s.capShown.withGw gw := ⟨_, rfl⟩

theorem State.capShown_eq (s : State) :
    s.capShown = ((s.wr64 R.CAN_XCAP_LO s.capCtr).wrList (R.CAN_XCAP_LO + 8) s.capBases).wr R.CAN_XCAP_HI s.capLast := by
  rw [State.capShown, State.wrList_append, State.wrList_append, State.wrList_pair, List.length_append, State.length_capBases]
  rfl

theorem Kept.capShown (s : State) : Kept s s.capShown ((List.range 15).map (fun k => R.CAN_XCAP_LO + 4 * k)) := by
  have h := Kept.wrList s R.CAN_XCAP_LO ([W s.capCtr, W (s.capCtr / 2 ^ 32)] ++ s.capBases ++ [s.capLast])
  rwa [List.length_append, List.length_append, State.length_capBases] at h

theorem State.capSeq_capShown (s : State) : s.capShown.g R.CAN_XCAP_HI.CAPSEQ = (s.g R.CAN_XCAP_HI.CAPSEQ + 1) % 65536 := by
  rw [State.capShown_eq]
  exact (State.g_wr_same _ R.CAN_XCAP_HI.CAPSEQ _).trans s.capSeq_capLast

theorem State.rd64_capShown (s : State) : s.capShown.rd64 R.CAN_XCAP_LO = s.capCtr % 2 ^ 64 := by
  have hbases := Kept.wrList (s.wr64 R.CAN_XCAP_LO s.capCtr) (R.CAN_XCAP_LO + 8) s.capBases
  rw [State.length_capBases] at hbases
  have hlast := hbases.trans (Kept.wr _ R.CAN_XCAP_HI s.capLast)
  rw [State.capShown_eq, hlast.rd64_eq (by decide) (by decide) (by decide) (by decide)]
  exact State.rd64_wr64_same s _ _

end Sys2Proof.Machine

open Sys2Proof Sys2Proof.Machine

/-- Settles O30: after the counts a base identifier selects the object that it selected before them; a write of W0 is one store or
none; and the capture is one list of words. -/
theorem canReception : Obligations.CanReception := by
  unfold Obligations.CanReception
  refine ⟨?dropped, ?stored, ?w0Write, ?capture⟩
  case dropped =>
    intro s c id dlc age d hc hid hstate hpex htec hrec hoff hsave
    have hselect : (s.canRxGood c).rxSelect c (s.rxCan c { fmt := 0, ide := false, id := id } dlc d age) = none := by
      rw [State.rxSelect_canRxGood hc hstate htec rfl rfl hid, State.rxSelect_of_base rfl rfl hid]
      exact if_neg (ne_true_of_eq_false hoff)
    have hsave' := (State.saving_canRxGood hc hstate htec).trans hsave
    rw [exec_canFrameReceived_base s id dlc age d hc,
      State.canReceive_of_none (State.canOnBus_of_active hstate hpex) rfl hrec hselect]
    refine ⟨_, rfl, ?_, ?_, ?_, ?_⟩
    · exact (rd64_passOn_ctl _ _ hc rfl (by decide) (by decide)).trans
        ((State.rxOk_canRxDropped _ hc).trans (State.rd64_canRxGood hc hstate htec hsave))
    · refine (rd64_passOn_ctl _ _ hc rfl (by decide) (by decide)).trans ((State.rd64_canRxDropped c hsave').trans ?_)
      rw [State.noobj_canRxGood hc hstate htec]
    · rw [g_passOn_ctl _ _ hc rfl (by decide) (by decide)]
      exact State.g_p_fits _ 1 rfl
    · have hperm := List.Perm.append_left [R.CAN_RX_OK_LO c, R.CAN_RX_OK_LO c + 4] (List.perm_append_comm
        (l₁ := [R.CAN_ERRC c, R.CAN_STS c]) (l₂ := [R.CAN_RX_NOOBJ_LO c, R.CAN_RX_NOOBJ_LO c + 4, R.CAN_EVT c]))
      exact (((Kept.canRxGood hc hstate htec).trans (Kept.canRxDropped _ c)).mono (fun _ ha => .inl (hperm.mem_iff.mp ha))).passOn s
  case stored =>
    intro s c id dlc age d hc hid hstate hpex htec hrec hon hdel hworn
    have hselect : (s.canRxGood c).rxSelect c (s.rxCan c { fmt := 0, ide := false, id := id } dlc d age) =
        some (id, s.g (R.CAN_RXC.DEL c id), s.g (R.CAN_RXC.Q c id)) := by
      rw [State.rxSelect_canRxGood hc hstate htec rfl rfl hid, State.rxSelect_of_base rfl rfl hid]
      exact if_pos hon
    rw [exec_canFrameReceived_base s id dlc age d hc,
      State.canReceive_of_object (State.canOnBus_of_active hstate hpex) rfl hrec hselect hdel
        ((State.objWorn_canRxGood hc hstate htec id).trans hworn)]
    rfl
  case w0Write =>
    intro s req c i v hc hi hadm
    refine ⟨_, exec_rxObjectW0Write hc hi hadm, ?_, (Kept.rxoW0Write s c i v).passOn s⟩
    rw [rd_passOn _ _ (rxObject_pass hc hi), State.rd_rxoW0Write]
  case capture =>
    intro s
    obtain ⟨gw, heq⟩ := s.crossCapture_eq
    have hexec : exec .crossCapture s = done s (s.capShown.withGw gw) := congrArg (done s) heq
    refine ⟨_, hexec, ?_, ?_, (Kept.capShown s).passOn_withGw s gw⟩
    · rw [rd64_passOn _ _ (by decide) (by decide), State.rd64_withGw, s.rd64_capShown]
      rfl
    · rw [g_passOn _ _ (by decide), State.g_withGw, s.capSeq_capShown]

end

section
/-! SUPPORT. What transmission leaves: the frame on the bus, an object's request, and CAN_TXCMD (R219-R222). -/

namespace Sys2Proof.Machine

/-! ### Transmit objects -/

theorem txObject_range {c i : Nat} (hc : c < 16) (hi : i < 512) : 0x1404000 ≤ R.CAN_TXO_W1 c i ∧ R.CAN_TXO_W1 c i < 0x1800000 := by
  simp only [R.CAN_TXO_W1]
  omega

theorem txObject_pass {c i : Nat} (hc : c < 16) (hi : i < 512) : R.CAN_TXO_W1 c i ∉ passRegs :=
  canReg_pass (by have := txObject_range hc hi; omega) (txObject_range hc hi).2

/-- A transmit object of controller `c` lies above the controller's own registers. -/
theorem txObject_ne_ctl {a c i : Nat} (ha : a < 0x1404000 + 0x10000 * c) : R.CAN_TXO_W1 c i ≠ a := by
  simp only [R.CAN_TXO_W1]
  omega

theorem Kept.gw_eq {s t : State} {l : List Nat} (h : Kept s t l) : t.gw = s.gw := by rw [h.2.2]

/-- Which objects hold a long frame is the gateway's own state. -/
theorem State.isLong_congr {s t : State} (h : t.gw = s.gw) (c i : Nat) : t.isLong c i = s.isLong c i := by
  rw [State.isLong, State.longObj, h, State.isLong, State.longObj]

theorem State.reqGone_of_short {s : State} {c i : Nat} (h : s.isLong c i = false) : s.reqGone c i = s := by
  simp [State.reqGone, h]

/-! ### Authentication entries (R249, R252) -/

/-- A register of the CAN region is not the state of an authentication entry. -/
theorem State.cmaFor_wr (s : State) {a : Nat} (v : Word) (g : Bool) (c i : Nat) (ha : a < 0x1800000) :
    (s.wr a v).cmaFor g c i = s.cmaFor g c i := by
  have hstate : ∀ k, (s.wr a v).cmaState k = s.cmaState k := fun k =>
    State.g_wr_ne s _ v (by simp only [R.GW_CMA_STS.STATE, R.GW_CMA_STS]; omega)
  simp only [State.cmaFor, hstate, State.wr_gw]

theorem State.cmaFor_p (s : State) {l : Loc} (v : Nat) (g : Bool) (c i : Nat) (hl : l.addr < 0x1800000) :
    (s.p l v).cmaFor g c i = s.cmaFor g c i := s.cmaFor_wr _ g c i hl

/-- Outside a save a counter's update is two writes. -/
theorem State.cmaFor_bump {s : State} {a : Nat} (g : Bool) (c i : Nat) (ha : a + 4 < 0x1800000) (hsave : s.saving = false) :
    (s.bump a).cmaFor g c i = s.cmaFor g c i := by
  have hbump : s.bump a = s.wr64 a (s.rd64 a + 1) := by
    simp only [State.bump, State.bumpBy, hsave, Bool.false_and, Bool.false_eq_true, if_false, State.count]
  rw [hbump, State.wr64, State.cmaFor_wr _ _ g c i ha, State.cmaFor_wr s _ g c i (by omega)]

/-- An object without an entry is sent without a new job. -/
theorem State.cmaSent_of_none {s : State} {c i : Nat} (h : s.cmaFor true c i = none) : s.cmaSent c i = s := by
  simp only [State.cmaSent, h]

theorem State.cmaChange_of_none {s : State} {c i : Nat} (h : s.cmaFor true c i = none) : s.cmaChange c i = s := by
  simp only [State.cmaChange, h]

/-! ### The start of a frame (R219, R221) -/

/-- The copy of an object at SOF. -/
def State.sofCopy (s : State) (c i : Nat) : CFrame := { s.txoFrame c i with stamp := s.sofStamp c 0 % 2 ^ 32 }

/-- A controller that sends, its transceiver in SIC fast mode or not. -/
def Can.sending (k : Can) (x : CanTx) (fast : Bool) : Can := { k with tx := some x, sic := fast }

/-- A controller that goes on sending object `i`. -/
def State.canSending (s : State) (c i : Nat) (x : CanTx) (fast : Bool) : State :=
  ((s.modCan c (fun k => k.sending x fast)).p (R.CAN_STS.TXBUSY c) 1).p (R.CAN_STS.TXOBJ c) i

theorem State.canTxStart_of_pick {s : State} {c i : Nat} {ex : Bool} (hbus : s.canOnBus c = true) (hlisten : s.listen c = false)
    (htx : (s.canOf c).tx = none) (hclosing : (s.canOf c).closing = false) (hpick : s.txPick c = some (i, ex))
    (hbad : s.txBad c i = false) :
    ∃ fast, s.canTxStart c = s.canSending c i { obj := i, f := s.sofCopy c i, excl := ex } fast := by
  unfold State.canTxStart
  simp only [hbus, hlisten, htx, hclosing, hpick, hbad, Option.isSome_none, Bool.not_true, Bool.or_self, Bool.false_eq_true, if_false]
  exact ⟨_, rfl⟩

theorem CanKept.canSending (s : State) (c i : Nat) (x : CanTx) (fast : Bool) : CanKept s (s.canSending c i x fast) [R.CAN_STS c] :=
  (((CanKept.modCan s c _).trans (.of_kept (Kept.p _ (R.CAN_STS.TXBUSY c) 1))).trans (.of_kept (Kept.p _ (R.CAN_STS.TXOBJ c) i))).mono
    (fun a ha => .inl (by simpa [R.CAN_STS.TXBUSY, R.CAN_STS.TXOBJ] using ha))

theorem State.g_canSending (s : State) {c i : Nat} (x : CanTx) (fast : Bool) (hi : i < 512) :
    (s.canSending c i x fast).g (R.CAN_STS.TXBUSY c) = 1 ∧ (s.canSending c i x fast).g (R.CAN_STS.TXOBJ c) = i := by
  unfold State.canSending
  constructor
  · rw [State.g_p_apart _ _ _ rfl rfl]
    exact State.g_p_fits _ 1 rfl
  · rw [State.g_p_fits _ _ rfl]
    exact Nat.mod_eq_of_lt hi

/-! ### The end of a frame (R219, R225) -/

/-- No frame of controller `c` is on the bus. -/
def State.canTxEnded (s : State) (c : Nat) : State := (s.modCan c (fun k => { k with tx := none, sic := false })).p (R.CAN_STS.TXBUSY c) 0

theorem State.canTxOver_of_running {s : State} {c : Nat} (hstop : (s.matrix c).stop = false) : s.canTxOver c false = s.canTxEnded c := by
  simp [State.canTxOver, hstop, State.schMiss, State.canTxEnded]

theorem State.canOf_canTxEnded_same (s : State) (c : Nat) :
    (s.canTxEnded c).canOf c = { s.canOf c with tx := none, sic := false } := by
  simp [State.canTxEnded]

theorem State.canOf_canTxEnded_ne (s : State) {c k : Nat} (h : k ≠ c) : (s.canTxEnded c).canOf k = s.canOf k := by
  rw [State.canTxEnded, State.canOf_p, State.canOf_modCan_ne _ _ h]

theorem CanKept.canTxEnded (s : State) (c : Nat) : CanKept s (s.canTxEnded c) [R.CAN_STS c] :=
  (CanKept.modCan s c _).trans (.of_kept (Kept.p _ (R.CAN_STS.TXBUSY c) 0))

theorem State.txBusy_canTxEnded (s : State) (c : Nat) : (s.canTxEnded c).g (R.CAN_STS.TXBUSY c) = 0 := by
  rw [State.canTxEnded]
  exact State.g_p_fits _ 0 rfl

/-- The other fields of CAN_STS, and the other registers. -/
theorem State.g_canTxEnded (s : State) {c : Nat} {l : Loc} (hl : l.fits = true)
    (hd : l.addr ≠ R.CAN_STS c ∨ (R.CAN_STS.TXBUSY c).apart l = true) : (s.canTxEnded c).g l = s.g l := by
  rw [State.canTxEnded]
  rcases hd with hd | hd
  · exact State.g_p_ne _ _ _ _ hd
  · exact State.g_p_apart _ _ _ hl hd

/-- The counters stand. -/
theorem State.rd64_canTxEnded (s : State) {j c : Nat} (hlo : 0x1400040 ≤ j) :
    (s.canTxEnded c).rd64 (j + 0x10000 * c) = s.rd64 (j + 0x10000 * c) := by
  rw [State.canTxEnded, State.rd64_p_ne]
  · rfl
  all_goals
    simp only [R.CAN_STS.TXBUSY, R.CAN_STS]
    omega

theorem State.saving_canTxEnded (s : State) (c : Nat) : (s.canTxEnded c).saving = s.saving := by
  rw [State.saving, State.saving, State.g_canTxEnded s rfl (.inl ?_)]
  simp only [R.PWR_SUP_STS.SAVE, R.PWR_SUP_STS, R.CAN_STS]
  omega

theorem State.cmaFor_canTxEnded (s : State) {c : Nat} (g : Bool) (i : Nat) (hc : c < 16) :
    (s.canTxEnded c).cmaFor g c i = s.cmaFor g c i := by
  rw [State.canTxEnded, State.cmaFor_p]
  · rfl
  · simp only [R.CAN_STS.TXBUSY, R.CAN_STS]
    omega

/-- A controller that is not to go OFF stays as it is. -/
theorem State.canAfter_of_open {s : State} {c : Nat} (h : (s.canOf c).closing = false) : s.canAfter c = s := by
  simp [State.canAfter, h]

/-- Arbitration is lost. -/
theorem State.canArb_of_tx {s : State} {c : Nat} {x : CanTx} (htx : (s.canOf c).tx = some x) (hexcl : x.excl = false)
    (hclosing : (s.canOf c).closing = false) (hstop : (s.matrix c).stop = false) :
    s.canArb c = (s.bump (R.CAN_ARB_LOST_LO c)).canTxEnded c := by
  have hsame := (Kept.bump s (R.CAN_ARB_LOST_LO c)).canOf_eq c
  have hstop' : ((s.bump (R.CAN_ARB_LOST_LO c)).matrix c).stop = false := by rwa [State.matrix, hsame]
  unfold State.canArb State.canTxFail
  simp only [htx, hsame, hexcl, Bool.false_and, State.canTxOver_of_running hstop']
  exact State.canAfter_of_open (by rw [State.canOf_canTxEnded_same, hsame, hclosing])

/-! ### Success (R219) -/

/-- Object `i` of controller `c` has been sent by request, its frame stamped `w`. -/
def State.objSent (s : State) (c i : Nat) (w : Word) : State :=
  ((((s.bump (R.CAN_TX_OK_LO c)).p (R.CAN_TXO_W1.DONE c i) 1).wr (R.CAN_TXLAST_LO c) w).wr (R.CAN_TXLAST_HI c) (W (2 ^ 31 + i))).p
    (R.CAN_TXO_W1.REQ c i) 0

theorem Kept.objSent (s : State) (c i : Nat) (w : Word) : Kept s (s.objSent c i w)
    [R.CAN_TX_OK_LO c, R.CAN_TX_OK_LO c + 4, R.CAN_TXO_W1 c i, R.CAN_TXLAST_LO c, R.CAN_TXLAST_HI c] :=
  (((((Kept.bump s (R.CAN_TX_OK_LO c)).trans (Kept.p _ (R.CAN_TXO_W1.DONE c i) 1)).trans (Kept.wr _ (R.CAN_TXLAST_LO c) w)).trans
    (Kept.wr _ (R.CAN_TXLAST_HI c) _)).trans (Kept.p _ (R.CAN_TXO_W1.REQ c i) 0)).mono (fun a ha => .inl (by
      simp only [R.CAN_TXO_W1.DONE, R.CAN_TXO_W1.REQ, List.mem_append, List.mem_cons, List.not_mem_nil, or_false] at ha ⊢
      tauto))

theorem State.g_objSent (s : State) (c i : Nat) (w : Word) :
    (s.objSent c i w).g (R.CAN_TXO_W1.DONE c i) = 1 ∧ (s.objSent c i w).g (R.CAN_TXO_W1.REQ c i) = 0 := by
  have hlo : (R.CAN_TXO_W1.DONE c i).addr ≠ R.CAN_TXLAST_LO c := txObject_ne_ctl (by simp only [R.CAN_TXLAST_LO]; omega)
  have hhi : (R.CAN_TXO_W1.DONE c i).addr ≠ R.CAN_TXLAST_HI c := txObject_ne_ctl (by simp only [R.CAN_TXLAST_HI]; omega)
  unfold State.objSent
  constructor
  · rw [State.g_p_apart _ _ _ rfl rfl, State.g_wr_ne _ _ _ hhi, State.g_wr_ne _ _ _ hlo]
    exact State.g_p_fits _ 1 rfl
  · exact State.g_p_fits _ 0 rfl

theorem State.rd_objSent (s : State) (c i : Nat) (w : Word) :
    (s.objSent c i w).rd (R.CAN_TXLAST_LO c) = w ∧ (s.objSent c i w).rd (R.CAN_TXLAST_HI c) = W (2 ^ 31 + i) := by
  have hlo : R.CAN_TXLAST_LO c ≠ (R.CAN_TXO_W1.REQ c i).addr := (txObject_ne_ctl (by simp only [R.CAN_TXLAST_LO]; omega)).symm
  have hhi : R.CAN_TXLAST_HI c ≠ (R.CAN_TXO_W1.REQ c i).addr := (txObject_ne_ctl (by simp only [R.CAN_TXLAST_HI]; omega)).symm
  have hne : R.CAN_TXLAST_LO c ≠ R.CAN_TXLAST_HI c := by simp [R.CAN_TXLAST_LO, R.CAN_TXLAST_HI]
  unfold State.objSent
  constructor
  · rw [State.rd_p_ne _ _ _ hlo, State.rd_wr_ne _ _ hne, State.rd_wr_same]
  · rw [State.rd_p_ne _ _ _ hhi, State.rd_wr_same]

theorem State.rd64_objSent {s : State} {c i : Nat} (w : Word) (hc : c < 16) (hsave : s.saving = false) :
    (s.objSent c i w).rd64 (R.CAN_TX_OK_LO c) = (s.rd64 (R.CAN_TX_OK_LO c) + 1) % 2 ^ 64 := by
  have hrest := (((Kept.p (s.bump (R.CAN_TX_OK_LO c)) (R.CAN_TXO_W1.DONE c i) 1).trans (Kept.wr _ (R.CAN_TXLAST_LO c) w)).trans
    (Kept.wr _ (R.CAN_TXLAST_HI c) (W (2 ^ 31 + i)))).trans (Kept.p _ (R.CAN_TXO_W1.REQ c i) 0)
  rw [← State.rd64_bump s _ hsave]
  refine hrest.rd64_eq ?_ ?_ (ctlReg_pass (by decide) (by decide) hc) (ctlReg_hi_pass (by decide) (by decide) hc)
  all_goals
    simp only [List.mem_append, List.mem_singleton, R.CAN_TX_OK_LO, R.CAN_TXO_W1.DONE, R.CAN_TXO_W1.REQ, R.CAN_TXO_W1, R.CAN_TXLAST_LO,
      R.CAN_TXLAST_HI]
    omega

theorem State.cmaFor_objSent {s : State} {c i : Nat} (w : Word) (g : Bool) (hc : c < 16) (hi : i < 512) (hsave : s.saving = false) :
    (s.objSent c i w).cmaFor g c i = s.cmaFor g c i := by
  have hobj := (txObject_range hc hi).2
  rw [State.objSent, State.cmaFor_p _ _ g c i hobj, State.cmaFor_wr, State.cmaFor_wr,
    State.cmaFor_p _ _ g c i hobj, State.cmaFor_bump _ _ _ _ hsave]
  all_goals
    simp only [R.CAN_TX_OK_LO, R.CAN_TXLAST_LO, R.CAN_TXLAST_HI]
    omega

/-- The controller's own registers but CAN_TXLAST and the counter are as they were. -/
theorem State.ctl_objSent (s : State) {j c i : Nat} {l : Loc} (w : Word) (hc : c < 16) (hl : l.addr = j + 0x10000 * c)
    (hlo : 0x1400000 ≤ j) (hhi : j < 0x1400034) : (s.objSent c i w).g l = s.g l := by
  refine (Kept.objSent s c i w).g_eq ?_ (hl ▸ ctlReg_pass hlo (hhi.trans (by decide)) hc)
  simp only [hl, List.mem_cons, List.not_mem_nil, or_false, R.CAN_TX_OK_LO, R.CAN_TXO_W1, R.CAN_TXLAST_LO, R.CAN_TXLAST_HI]
  omega

/-- No frame is on the bus, and the object that was sent by request shows it. -/
def State.txLeft (s : State) (c : Nat) (x : CanTx) : State := (s.canTxEnded c).objSent c x.obj (W x.f.stamp)

theorem Kept.txLeft (s : State) (c : Nat) (x : CanTx) : CanKept s (s.txLeft c x)
    [R.CAN_STS c, R.CAN_TX_OK_LO c, R.CAN_TX_OK_LO c + 4, R.CAN_TXO_W1 c x.obj, R.CAN_TXLAST_LO c, R.CAN_TXLAST_HI c] :=
  (CanKept.canTxEnded s c).trans (.of_kept (Kept.objSent _ c x.obj _))

theorem State.canOf_txLeft (s : State) (c : Nat) (x : CanTx) (k : Nat) : (s.txLeft c x).canOf k = (s.canTxEnded c).canOf k :=
  (Kept.objSent _ c x.obj _).canOf_eq k

theorem State.isLong_txLeft (s : State) (c : Nat) (x : CanTx) (i : Nat) : (s.txLeft c x).isLong c i = s.isLong c i :=
  State.isLong_congr (show (s.txLeft c x).gw = s.gw from (Kept.objSent (s.canTxEnded c) c x.obj (W x.f.stamp)).gw_eq) c i

theorem State.errc_txLeft (s : State) {c : Nat} (x : CanTx) {l : Loc} (hc : c < 16) (hfit : l.fits = true) (hl : l.addr = R.CAN_ERRC c) :
    (s.txLeft c x).g l = s.g l :=
  (State.ctl_objSent _ _ hc hl (by decide) (by decide)).trans (State.g_canTxEnded s hfit (.inl (hl ▸ canErrc_ne_sts c)))

theorem State.canState_txLeft (s : State) {c : Nat} (x : CanTx) (hc : c < 16) : (s.txLeft c x).canState c = s.canState c :=
  (State.ctl_objSent _ _ hc rfl (by decide) (by decide)).trans (State.g_canTxEnded s rfl (.inr rfl))

theorem State.cmaFor_txLeft {s : State} {c : Nat} {x : CanTx} (g : Bool) (hc : c < 16) (hobj : x.obj < 512) (hsave : s.saving = false) :
    (s.txLeft c x).cmaFor g c x.obj = s.cmaFor g c x.obj := by
  rw [State.txLeft, State.cmaFor_objSent _ _ hc hobj ((s.saving_canTxEnded c).trans hsave), State.cmaFor_canTxEnded s _ _ hc]

/-- What a frame sent by request with success leaves, TEC having been zero. -/
def State.canTxDone (s : State) (c : Nat) (x : CanTx) : State := (s.txLeft c x).countsShown c 0 (s.g (R.CAN_ERRC.REC c))

theorem State.cmaFor_countsShown (s : State) {c : Nat} (tec rec : Nat) (g : Bool) (i : Nat) (hc : c < 16) :
    (s.countsShown c tec rec).cmaFor g c i = s.cmaFor g c i := by
  rw [State.countsShown, State.pb, State.cmaFor_p, State.cmaFor_p, State.cmaFor_p]
  all_goals
    simp only [R.CAN_ERRC.TEC, R.CAN_ERRC.REC, R.CAN_ERRC, R.CAN_STS.WARN, R.CAN_STS]
    omega

/-- What success does, step by step: the object, the counts, the job of its next content, a controller or an announcement that ends. -/
theorem State.canTxOk_eq {s u : State} {c loop : Nat} {x : CanTx} (htx : (s.canOf c).tx = some x) (hexcl : x.excl = false)
    (hu : u = (((s.tdcMeasure c x.f loop).canTxOver c false).objSent c x.obj (W x.f.stamp)).reqGone c x.obj) :
    s.canTxOk c loop = (((u.canCounts c (u.g (R.CAN_ERRC.TEC c) - 1) (u.g (R.CAN_ERRC.REC c))).cmaSent c x.obj).canAfter c).when
      (x.obj == s.g (R.PWR_SLP_ANN.OBJ c)) (fun t => t.annEnd c) := by
  subst hu
  unfold State.canTxOk
  simp only [htx, hexcl, Bool.false_eq_true, if_false]
  rfl

/-- A classical frame sent by request, of an object without an authentication entry that is not the one announced. -/
theorem State.canTxOk_of_request {s : State} {c loop : Nat} {x : CanTx} (hc : c < 16) (hobj : x.obj < 512) (htx : (s.canOf c).tx = some x)
    (hexcl : x.excl = false) (hfmt : x.f.fmt = 0) (hclosing : (s.canOf c).closing = false) (hstop : (s.matrix c).stop = false)
    (hcma : s.cmaFor true c x.obj = none) (hlong : s.isLong c x.obj = false) (hann : s.g (R.PWR_SLP_ANN.OBJ c) ≠ x.obj)
    (hstate : s.canState c = canActive) (htec : s.g (R.CAN_ERRC.TEC c) = 0) (hrec : s.g (R.CAN_ERRC.REC c) < 96)
    (hsave : s.saving = false) : s.canTxOk c loop = s.canTxDone c x := by
  have hleft : s.txLeft c x = (((s.tdcMeasure c x.f loop).canTxOver c false).objSent c x.obj (W x.f.stamp)).reqGone c x.obj := by
    have hmeasure : s.tdcMeasure c x.f loop = s := if_pos (.inl hfmt)
    rw [hmeasure, State.canTxOver_of_running hstop]
    exact (State.reqGone_of_short ((s.isLong_txLeft c x x.obj).trans hlong)).symm
  have hcounts : (s.txLeft c x).canCounts c ((s.txLeft c x).g (R.CAN_ERRC.TEC c) - 1) ((s.txLeft c x).g (R.CAN_ERRC.REC c)) =
      s.canTxDone c x := by
    have hactive : (s.txLeft c x).canState c ≠ canPassive := by
      rw [s.canState_txLeft x hc, hstate]
      decide
    rw [s.errc_txLeft x hc rfl rfl, s.errc_txLeft x hc rfl rfl, htec]
    exact State.canCounts_of_low (by decide) hrec hactive
  have hnone : (s.canTxDone c x).cmaFor true c x.obj = none := by
    rw [State.canTxDone, State.cmaFor_countsShown _ _ _ _ _ hc, State.cmaFor_txLeft _ hc hobj hsave, hcma]
  have hopen : ((s.canTxDone c x).canOf c).closing = false := by
    rw [State.canTxDone, (Kept.countsShown _ _ _ _).canOf_eq, s.canOf_txLeft, State.canOf_canTxEnded_same, hclosing]
  rw [State.canTxOk_eq htx hexcl hleft, hcounts, State.cmaSent_of_none hnone, State.canAfter_of_open hopen, beq_false_of_ne hann.symm]
  rfl

/-! What success shows. -/

theorem State.canOf_canTxDone (s : State) (c : Nat) (x : CanTx) (k : Nat) : (s.canTxDone c x).canOf k = (s.canTxEnded c).canOf k :=
  ((Kept.countsShown _ c _ _).canOf_eq k).trans (s.canOf_txLeft c x k)

theorem State.txBusy_canTxDone (s : State) {c : Nat} (x : CanTx) (hc : c < 16) : (s.canTxDone c x).g (R.CAN_STS.TXBUSY c) = 0 :=
  (State.sts_countsShown _ rfl rfl rfl).trans ((State.ctl_objSent _ _ hc rfl (by decide) (by decide)).trans (s.txBusy_canTxEnded c))

/-- Neither the object nor CAN_TXLAST is among the registers of the counts. -/
theorem State.rd_canTxDone (s : State) {a c : Nat} (x : CanTx) (hlo : 0x1400034 + 0x10000 * c ≤ a) (hhi : a < 0x1800000) :
    (s.canTxDone c x).rd a = (s.txLeft c x).rd a := by
  refine (Kept.countsShown _ c _ _).rd_eq ?_ (canReg_pass (by omega) hhi)
  simp only [List.mem_cons, List.not_mem_nil, or_false, R.CAN_ERRC, R.CAN_STS]
  omega

theorem CanKept.canTxDone (s : State) (c : Nat) (x : CanTx) : CanKept s (s.canTxDone c x)
    [R.CAN_TX_OK_LO c, R.CAN_TX_OK_LO c + 4, R.CAN_TXO_W1 c x.obj, R.CAN_TXLAST_LO c, R.CAN_TXLAST_HI c, R.CAN_STS c, R.CAN_ERRC c] :=
  ((Kept.txLeft s c x).trans (.of_kept (Kept.countsShown _ c _ _))).mono (fun a ha => .inl (by
    simp only [List.mem_append, List.mem_cons, List.not_mem_nil, or_false] at ha ⊢
    tauto))

/-! ### Requests (R219, R220) -/

/-- W1 of an object after a write of `v` to it: the RW fields as written, DONE cleared where it writes 1, the rest as it was. -/
def State.w1After (s : State) (c i : Nat) (v : Word) : Word :=
  (v &&& 0xF8000FFF) ||| ((s.rd (R.CAN_TXO_W1 c i) &&& ~~~v &&& 0x04000000) ||| (s.rd (R.CAN_TXO_W1 c i) &&& 0x03FFF000))

theorem getLsbD_or_req (v : Word) : (v ||| 0x40000000).getLsbD 30 = true := by
  have h : (0x40000000 : Word).getLsbD 30 = true := rfl
  rw [BitVec.getLsbD_or, h, Bool.or_true]

theorem State.req_w1After (s : State) (c i : Nat) (v : Word) : fieldOf (s.w1After c i (v ||| 0x40000000)) 30 1 = 1 := by
  have hmask : (0xF8000FFF : Word).getLsbD 30 = true := rfl
  have hbit : (s.w1After c i (v ||| 0x40000000)).getLsbD 30 = true := by
    rw [State.w1After, BitVec.getLsbD_or, BitVec.getLsbD_and, getLsbD_or_req, hmask]
    rfl
  have hodd := Nat.testBit_eq_decide_div_mod_eq (x := (s.w1After c i (v ||| 0x40000000)).toNat) (i := 30)
  rw [BitVec.testBit_toNat, hbit] at hodd
  exact of_decide_eq_true hodd.symm

theorem State.request_of_good {s : State} {c i : Nat} (h : s.txBad c i = false) : s.request c i = s := by
  simp [State.request, h]

/-- A write that sets REQ of an object that breaks no condition stores it. -/
theorem State.txoWrite_of_request {s : State} {c i : Nat} {v : Word} (hworn : s.objWorn c (2560 + i) = false)
    (hcma : s.cmaFor true c i = none) (hset : bit v.toNat 30 = true) (hc : c < 16) (hi : i < 512)
    (hbad : (s.wr (R.CAN_TXO_W1 c i) (s.w1After c i v)).txBad c i = false) :
    s.txoWrite c i 1 v = s.wr (R.CAN_TXO_W1 c i) (s.w1After c i v) := by
  have hnone : (s.wr (R.CAN_TXO_W1 c i) (s.w1After c i v)).cmaFor true c i = none :=
    (s.cmaFor_wr _ true c i (txObject_range hc hi).2).trans hcma
  unfold State.txoWrite
  simp only [hworn, hset, bne_self_eq_false, Bool.not_true, Bool.and_false, Bool.false_eq_true, if_false]
  change (if _ then ((s.wr (R.CAN_TXO_W1 c i) (s.w1After c i v)).request c i).cmaChange c i
    else (s.wr (R.CAN_TXO_W1 c i) (s.w1After c i v)).request c i) = _
  rw [State.request_of_good hbad, State.cmaChange_of_none hnone, ite_self]

/-! ### ABORT and ABORT_ALL (R48, R222) -/

theorem rowOf_txCmd {c : Nat} (hc : c < 16) :
    ∃ r, rowOf (R.CAN_TXCMD c) = some r ∧ ∀ i, i < 2 → (W r.cmd).getLsbD (30 + i) = true := by
  interval_cases c <;> exact ⟨_, rfl, by decide⟩

/-- A command that its port admits, at an idle CAN_TXCMD. -/
theorem State.txCommand_of_idle {s : State} {req c : Nat} {v : Word} (hadm : Admitted s req (R.CAN_TXCMD c) v)
    (hidle : s.stat (R.CAN_TXCMD c) ≠ statBusy) (hop : fieldOf v 28 2 = 1 ∨ fieldOf v 28 2 = 2) :
    s.txCommand req c v = if fieldOf v 28 2 = 1 then (s.putCmd (R.CAN_TXCMD c) v statDone).canAbort c (fieldOf v 0 9)
      else (s.putCmd (R.CAN_TXCMD c) v statDone).each ((s.putCmd (R.CAN_TXCMD c) v statDone).pendingReqs c)
        (fun i u => u.canAbort c i) := by
  have hok : (fieldOf v 28 2 == 1 || fieldOf v 28 2 == 2) = true := by simpa using hop
  rw [State.txCommand, State.byPort_admitted s _ _ _ _ hadm, State.txAct]
  simp only [hok]
  exact State.command_accepted hidle

/-- ABORT of an object without a long frame changes its W1 alone. -/
theorem Kept.canAbort {s : State} {c i : Nat} (hlong : s.isLong c i = false) : Kept s (s.canAbort c i) [R.CAN_TXO_W1 c i] := by
  unfold State.canAbort
  split
  · rw [State.reqGone_of_short (by exact hlong)]
    exact Kept.p s (R.CAN_TXO_W1.REQ c i) 0
  · exact Kept.refl s _

theorem State.req_canAbort_same {s : State} {c i : Nat} (hlong : s.isLong c i = false) :
    (s.canAbort c i).g (R.CAN_TXO_W1.REQ c i) = 0 := by
  unfold State.canAbort
  split
  case isTrue hon =>
    rw [State.reqGone_of_short (by exact hlong)]
    exact State.g_p_fits s 0 rfl
  case isFalse hoff => simpa [State.on] using hoff

/-- A REQ that is clear stays so. -/
theorem State.req_canAbort_of_clear {s : State} {c i j : Nat} (hc : c < 16) (hi : i < 512) (hlong : s.isLong c j = false)
    (h : s.g (R.CAN_TXO_W1.REQ c i) = 0) : (s.canAbort c j).g (R.CAN_TXO_W1.REQ c i) = 0 := by
  by_cases hij : i = j
  · subst hij
    exact State.req_canAbort_same hlong
  · refine ((Kept.canAbort hlong).g_eq ?_ (txObject_pass hc hi)).trans h
    simp only [List.mem_singleton, R.CAN_TXO_W1.REQ, R.CAN_TXO_W1]
    omega

theorem Kept.trans_cons {s t u : State} {a : Nat} {l : List Nat} (h : Kept s t [a]) (k : Kept t u l) : Kept s u (a :: l) := h.trans k

/-- W1 of every object of controller `c`. -/
abbrev txW1s (c : Nat) : List Nat := (List.range 512).map (fun i => R.CAN_TXO_W1 c i)

theorem mem_txW1s {a c : Nat} (h : a ∈ txW1s c) : ∃ i, i < 512 ∧ a = R.CAN_TXO_W1 c i := by
  obtain ⟨i, hi, rfl⟩ := List.mem_map.mp h
  exact ⟨i, List.mem_range.mp hi, rfl⟩

/-- No object of a controller holds a long frame where its FIFO has none there. -/
theorem State.isLong_of_none {s : State} {c : Nat} (h : s.longHead c = false) (i : Nat) : s.isLong c i = false := by
  have hnone : s.longObj c = none := by simpa [State.longHead] using h
  rw [State.isLong, hnone]
  rfl

/-- The objects of `l` lose their requests. -/
def State.abortAll (s : State) (c : Nat) (l : List Nat) : State := s.each l (fun i u => u.canAbort c i)

theorem Kept.abortAll {s : State} {c : Nat} (hlong : s.longHead c = false) {l : List Nat} (hl : ∀ i ∈ l, i < 512) :
    Kept s (s.abortAll c l) (txW1s c) := by
  induction l generalizing s with
  | nil => exact Kept.refl s _
  | cons i l ih =>
    have hstep := Kept.canAbort (State.isLong_of_none hlong i)
    have hlong' : (s.canAbort c i).longHead c = false := by rwa [State.longHead, State.longObj, hstep.gw_eq]
    have hfirst : R.CAN_TXO_W1 c i ∈ txW1s c := List.mem_map.mpr ⟨i, List.mem_range.mpr (hl i List.mem_cons_self), rfl⟩
    refine (hstep.trans (ih hlong' (fun k hk => hl k (List.mem_cons_of_mem i hk)))).mono (fun a ha => .inl ?_)
    rcases List.mem_append.mp ha with ha | ha
    · exact List.mem_singleton.mp ha ▸ hfirst
    · exact ha

/-- Whatever is clear, or is of `l`, is clear in the end. -/
theorem State.req_abortAll {s : State} {c i : Nat} (hc : c < 16) (hi : i < 512) (hlong : s.longHead c = false) {l : List Nat}
    (h : s.g (R.CAN_TXO_W1.REQ c i) = 0 ∨ i ∈ l) : (s.abortAll c l).g (R.CAN_TXO_W1.REQ c i) = 0 := by
  induction l generalizing s with
  | nil => exact h.resolve_right List.not_mem_nil
  | cons j l ih =>
    have hshort := State.isLong_of_none hlong
    have hlong' : (s.canAbort c j).longHead c = false := by rwa [State.longHead, State.longObj, (Kept.canAbort (hshort j)).gw_eq]
    refine ih hlong' ?_
    rcases h with hclear | hmem
    · exact .inl (State.req_canAbort_of_clear hc hi (hshort j) hclear)
    · rcases List.mem_cons.mp hmem with rfl | hmem
      · exact .inl (State.req_canAbort_same (hshort i))
      · exact .inr hmem

theorem State.lt_of_mem_pendingReqs {s : State} {c i : Nat} (h : i ∈ s.pendingReqs c) : i < 512 := by
  obtain ⟨p, -, hp⟩ := List.mem_filterMap.mp h
  obtain ⟨⟨hlo, hhi, -⟩, hi⟩ := Option.ite_none_right_eq_some.mp hp
  have hidx := Option.some.inj hi
  omega

/-- W1 of a transmit object resets to zero. -/
theorem resetOf_txObject {c i : Nat} (hc : c < 16) (hi : i < 512) : resetOf (R.CAN_TXO_W1 c i) = 0 := by
  have hregion : regionOf (R.CAN_TXO_W1 c i) = 7 := by
    obtain ⟨hlo, hhi⟩ := txObject_range hc hi
    have hbelow : ∀ b ∈ regionBases.take 8, b ≤ 0x1404000 := by decide
    have habove : ∀ b ∈ regionBases.drop 8, 0x1800000 ≤ b := by decide
    exact regionOf_eq (fun b hb => (hbelow b hb).trans hlo) (fun b hb => Nat.lt_of_lt_of_le hhi (habove b hb)) (by decide)
  have hrows : ∀ r ∈ rowsCan, r.reset = 0 ∨
      (r.s1 = 0x10000 ∧ r.s2 = 0 ∧ 0x1400000 ≤ r.base ∧ r.base < 0x1404000) := by decide
  unfold resetOf
  split
  case h_1 r hrow =>
    have hfind : rowsCan.find? (fun r => r.holds (R.CAN_TXO_W1 c i)) = some r := by
      rw [rowOf, hregion] at hrow
      exact hrow
    have hholds := List.find?_some hfind
    rcases hrows r (List.mem_of_find?_eq_some hfind) with hzero | ⟨hs1, hs2, hlo, hhi⟩
    · rw [hzero]
      rfl
    · simp only [Row.holds, hs1, hs2, R.CAN_TXO_W1, Bool.and_eq_true, decide_eq_true_eq, OfNat.ofNat_ne_zero, if_false, if_true] at hholds
      have hindex : (0x1404004 + 0x10000 * c + 0x50 * i - r.base) / 0x10000 = c := by omega
      omega
  case h_2 => rfl

/-- An object whose REQ is set is listed. -/
theorem State.mem_pendingReqs {s : State} {c i : Nat} (hc : c < 16) (hi : i < 512) (h : s.g (R.CAN_TXO_W1.REQ c i) ≠ 0) :
    i ∈ s.pendingReqs c := by
  have hbit : bit (s.rd (R.CAN_TXO_W1 c i)).toNat 30 = true := by
    rw [← State.on_eq_bit]
    exact bne_iff_ne.mpr h
  have hlisted : (R.CAN_TXO_W1 c i, s.rd (R.CAN_TXO_W1 c i)) ∈ s.regs := by
    have hrd : s.rd (R.CAN_TXO_W1 c i) = s.regs.get resetOf (R.CAN_TXO_W1 c i) := rfl
    unfold Tab.get at hrd
    split at hrd
    case h_1 v hfind => exact hrd ▸ Tab.mem_of_find? hfind
    case h_2 =>
      rw [hrd, resetOf_txObject hc hi] at hbit
      exact absurd hbit (by decide)
  have hplace : R.CAN_TXO_W1 c 0 ≤ R.CAN_TXO_W1 c i ∧ R.CAN_TXO_W1 c i < R.CAN_TXO_W1 c 0 + 0xA000 ∧
      (R.CAN_TXO_W1 c i - R.CAN_TXO_W1 c 0) % 0x50 = 0 ∧ (R.CAN_TXO_W1 c i - R.CAN_TXO_W1 c 0) / 0x50 = i := by
    simp only [R.CAN_TXO_W1]
    omega
  obtain ⟨hlo, hhi, hmod, hdiv⟩ := hplace
  exact List.mem_filterMap.mpr ⟨_, hlisted, by rw [if_pos ⟨hlo, hhi, hmod, hbit⟩, hdiv]⟩

theorem Kept.abortPending {s : State} {c : Nat} (hlong : s.longHead c = false) :
    Kept s (s.abortAll c (s.pendingReqs c)) (txW1s c) :=
  Kept.abortAll hlong (fun _ => State.lt_of_mem_pendingReqs)

/-- Every request of the controller is gone: those that stood are listed. -/
theorem State.req_abortPending {s : State} {c i : Nat} (hc : c < 16) (hi : i < 512) (hlong : s.longHead c = false) :
    (s.abortAll c (s.pendingReqs c)).g (R.CAN_TXO_W1.REQ c i) = 0 :=
  State.req_abortAll hc hi hlong (or_iff_not_imp_left.mpr (State.mem_pendingReqs hc hi))

end Sys2Proof.Machine

open Sys2Proof Sys2Proof.Machine

/-- Settles O31: an end of a frame leaves the bus free, and success the object sent besides; a request is one store; a REQ that is set
is listed, so ABORT_ALL clears it. -/
theorem canTransmission : Obligations.CanTransmission := by
  unfold Obligations.CanTransmission
  refine ⟨?start, ?success, ?lost, ?request, ?abort, ?abortAll⟩
  case start =>
    intro s c i ex hc hi hbus hlisten htx hclosing hpick hbad
    have hexec : exec (.canTxStart c) s = done s (s.canTxStart c) := congrArg (fun k => done s (s.canTxStart k)) (Nat.mod_eq_of_lt hc)
    obtain ⟨fast, hstart⟩ := State.canTxStart_of_pick hbus hlisten htx hclosing hpick hbad
    obtain ⟨hbusy, hobj⟩ := s.g_canSending (c := c) { obj := i, f := s.sofCopy c i, excl := ex } fast hi
    rw [hexec, hstart]
    refine ⟨_, rfl, ?_, ?_, ?_, ?_, (CanKept.canSending s c i _ fast).passOn s⟩
    · rw [canOf_passOn, State.canSending, State.canOf_p, State.canOf_p, State.canOf_modCan_same]
      rfl
    · rw [g_passOn_ctl _ _ hc rfl (by decide) (by decide), hbusy]
    · rw [g_passOn_ctl _ _ hc rfl (by decide) (by decide), hobj]
    · intro k hk
      rw [canOf_passOn, State.canSending, State.canOf_p, State.canOf_p, State.canOf_modCan_ne _ _ hk]
  case success =>
    intro s c k x hc hobj htx hexcl hfmt hclosing hstop hcma hlong hann hstate htec hrec hsave
    have hexec : exec (.canTxSuccess c k) s = done s (s.canTxOk c k) := congrArg (fun j => done s (s.canTxOk j k)) (Nat.mod_eq_of_lt hc)
    obtain ⟨hdone, hreq⟩ := (s.canTxEnded c).g_objSent c x.obj (W x.f.stamp)
    obtain ⟨hlast, hlastHi⟩ := (s.canTxEnded c).rd_objSent c x.obj (W x.f.stamp)
    obtain ⟨hlo, hhi⟩ := txObject_range hc hobj
    have hw1 : (s.canTxDone c x).rd (R.CAN_TXO_W1 c x.obj) = (s.txLeft c x).rd (R.CAN_TXO_W1 c x.obj) :=
      s.rd_canTxDone x (by simp only [R.CAN_TXO_W1]; omega) hhi
    rw [hexec, State.canTxOk_of_request hc hobj htx hexcl hfmt hclosing hstop hcma hlong hann hstate htec hrec hsave]
    refine ⟨_, rfl, ?_, ?_, ?_, ?_, ?_, ?_, ?_, ?_, (CanKept.canTxDone s c x).passOn s⟩
    · rw [canOf_passOn, s.canOf_canTxDone, State.canOf_canTxEnded_same]
    · rw [g_passOn_ctl _ _ hc rfl (by decide) (by decide), s.txBusy_canTxDone x hc]
    · rw [g_passOn _ _ (txObject_pass hc hobj)]
      exact (congrArg (fun w => fieldOf w 26 1) hw1).trans hdone
    · rw [g_passOn _ _ (txObject_pass hc hobj)]
      exact (congrArg (fun w => fieldOf w 30 1) hw1).trans hreq
    · exact (rd_passOn _ _ (ctlReg_pass (by decide) (by decide) hc)).trans ((s.rd_canTxDone x (by omega) (by omega)).trans hlast)
    · exact (rd_passOn _ _ (ctlReg_pass (by decide) (by decide) hc)).trans ((s.rd_canTxDone x (by omega) (by omega)).trans hlastHi)
    · refine (rd64_passOn_ctl _ _ hc rfl (by decide) (by decide)).trans ((State.rd64_countsShown _ _ _ hc (by decide) (by decide)).trans
        ((State.rd64_objSent _ hc ((s.saving_canTxEnded c).trans hsave)).trans ?_))
      exact congrArg (fun n => (n + 1) % 2 ^ 64) (s.rd64_canTxEnded (by decide))
    · intro d hd
      rw [canOf_passOn, s.canOf_canTxDone, s.canOf_canTxEnded_ne hd]
  case lost =>
    intro s c x hc htx hexcl hclosing hstop hsave
    have hexec : exec (.canArbLost c) s = done s (s.canArb c) := congrArg (fun k => done s (s.canArb k)) (Nat.mod_eq_of_lt hc)
    rw [hexec, State.canArb_of_tx htx hexcl hclosing hstop]
    refine ⟨_, rfl, ?_, ?_, ?_, ?_⟩
    · rw [canOf_passOn, State.canOf_canTxEnded_same]
    · rw [g_passOn_ctl _ _ hc rfl (by decide) (by decide), State.txBusy_canTxEnded]
    · exact (rd64_passOn_ctl _ _ hc rfl (by decide) (by decide)).trans
        ((State.rd64_canTxEnded _ (by decide)).trans (State.rd64_bump s _ hsave))
    · exact ((CanKept.of_kept (Kept.bump s _)).trans (CanKept.canTxEnded _ c)).passOn s
  case request =>
    intro s req c i v w hc hi hadm hworn hcma hw hbad
    have hset : bit (v ||| 0x40000000).toNat 30 = true := by
      rw [bit_eq_testBit, BitVec.testBit_toNat, getLsbD_or_req]
    have hexec : exec (.txRequest req c i v) s = done s (s.wr (R.CAN_TXO_W1 c i) (s.w1After c i (v ||| 0x40000000))) := by
      show execTxRequest req c i v s = _
      rw [execTxRequest, Nat.mod_eq_of_lt hc, Nat.mod_eq_of_lt hi, State.byPort_admitted s _ _ _ _ hadm,
        State.txoWrite_of_request hworn hcma hset hc hi (by rw [hw] at hbad; exact hbad)]
    refine ⟨_, hexec, ?_, ?_, (Kept.wr s _ _).passOn s⟩
    · rw [rd_passOn _ _ (txObject_pass hc hi), State.rd_wr_same, hw]
      rfl
    · rw [g_passOn _ _ (txObject_pass hc hi)]
      exact (State.g_wr_same s (R.CAN_TXO_W1.REQ c i) _).trans (s.req_w1After c i v)
  case abort =>
    intro s req c i hc hi hadm hidle hlong
    have hop : fieldOf (W (2 ^ 28 + i)) 28 2 = 1 ∧ fieldOf (W (2 ^ 28 + i)) 0 9 = i := by
      simp only [fieldOf, W_toNat]
      omega
    have hput := Kept.putCmd s (R.CAN_TXCMD c) (W (2 ^ 28 + i)) statDone
    have hshort := (State.isLong_congr hput.gw_eq c i).trans hlong
    have hexec : exec (.canAbort req c i) s = done s ((s.putCmd (R.CAN_TXCMD c) (W (2 ^ 28 + i)) statDone).canAbort c i) := by
      show execCanAbort req c i s = _
      rw [execCanAbort, Nat.mod_eq_of_lt hc, Nat.mod_eq_of_lt hi, State.txCommand_of_idle hadm hidle (.inl hop.1), if_pos hop.1, hop.2]
    obtain ⟨r, hrow, hcmd⟩ := rowOf_txCmd hc
    refine ⟨_, hexec, ?_, ?_, (hput.trans (Kept.canAbort hshort)).passOn s⟩
    · rw [g_passOn _ _ (txObject_pass hc hi), State.req_canAbort_same hshort]
    · rw [State.stat, g_passOn_ctl _ _ hc rfl (by decide) (by decide),
        (Kept.canAbort hshort).g_eq ?_ (ctlReg_pass (by decide) (by decide) hc)]
      · exact State.stat_putCmd s hrow hcmd _ (by decide)
      · exact List.mem_singleton.not.mpr (txObject_ne_ctl (by simp only [R.CAN_TXCMD]; omega)).symm
  case abortAll =>
    intro s req c hc hadm hidle hlong
    have hop : fieldOf (W (2 ^ 29)) 28 2 = 2 := by decide
    have hput := Kept.putCmd s (R.CAN_TXCMD c) (W (2 ^ 29)) statDone
    have hlong' : (s.putCmd (R.CAN_TXCMD c) (W (2 ^ 29)) statDone).longHead c = false := by
      rwa [State.longHead, State.longObj, hput.gw_eq]
    have hexec : exec (.canAbortAll req c) s = done s ((s.putCmd (R.CAN_TXCMD c) (W (2 ^ 29)) statDone).abortAll c
        ((s.putCmd (R.CAN_TXCMD c) (W (2 ^ 29)) statDone).pendingReqs c)) := by
      show execCanAbortAll req c s = _
      rw [execCanAbortAll, Nat.mod_eq_of_lt hc, State.txCommand_of_idle hadm hidle (.inr hop), if_neg (by rw [hop]; decide)]
      rfl
    have hall := Kept.abortPending hlong'
    obtain ⟨r, hrow, hcmd⟩ := rowOf_txCmd hc
    refine ⟨_, hexec, ?_, ?_, (hput.trans_cons hall).passOn s⟩
    · intro i hi
      rw [g_passOn _ _ (txObject_pass hc hi), State.req_abortPending hc hi hlong']
    · rw [State.stat, g_passOn_ctl _ _ hc rfl (by decide) (by decide), hall.g_eq ?_ (ctlReg_pass (by decide) (by decide) hc)]
      · exact State.stat_putCmd s hrow hcmd _ (by decide)
      · intro hmem
        obtain ⟨i, -, heq⟩ := mem_txW1s hmem
        exact txObject_ne_ctl (by simp only [R.CAN_TXCMD]; omega) heq.symm

end

section
/-! SUPPORT. The schedule matrix of a controller: its start, the move to another window, and an exclusive window that is missed
(R223-R225). -/

namespace Sys2Proof.Machine

/-! ### A matrix's own state -/

theorem State.matrix_modMatrix_same (s : State) (c : Nat) (f : Matrix → Matrix) : (s.modMatrix c f).matrix c = f (s.matrix c) := by
  rw [State.modMatrix, State.matrix, State.canOf_modCan_same, State.matrix]

theorem State.canOf_modMatrix_ne (s : State) {c k : Nat} (f : Matrix → Matrix) (h : k ≠ c) : (s.modMatrix c f).canOf k = s.canOf k :=
  State.canOf_modCan_ne s _ h

@[simp] theorem State.matrix_p (s : State) (l : Loc) (v c : Nat) : (s.p l v).matrix c = s.matrix c := rfl

theorem Kept.matrix_eq {s t : State} {l : List Nat} (h : Kept s t l) (c : Nat) : t.matrix c = s.matrix c := by
  rw [State.matrix, h.canOf_eq, State.matrix]

theorem matrix_passOn (s0 s : State) (c : Nat) : (State.passOn s0 s).matrix c = s.matrix c := (Quiet.passOn s0 s).matrix_eq c

/-- A change of the matrix is the matrix that it leaves. -/
theorem State.modMatrix_congr {s : State} {c : Nat} {f g : Matrix → Matrix} (h : f (s.matrix c) = g (s.matrix c)) :
    s.modMatrix c f = s.modMatrix c g := by
  have hm : f (s.canOf c).m = g (s.canOf c).m := h
  rw [State.modMatrix, State.modMatrix, State.modCan, State.modCan, hm]

theorem CanKept.modMatrix (s : State) (c : Nat) (f : Matrix → Matrix) : CanKept s (s.modMatrix c f) [] := CanKept.modCan s c _

/-! ### The start (R223) -/

/-- The fields that a start of the matrix samples. -/
def State.matrixSample (s : State) (c : Nat) : Matrix :=
  { run := true, cyc := s.g (R.CAN_SCH_CFG.CYC c), bc := max 1 (s.g (R.CAN_SCH_BC.BC_US c)), ofs := s.g (R.CAN_SCH_OFS.OFS_US c),
    tb := s.g (R.CAN_SCH_CFG.TB c) }

theorem State.matrixStart_of_armed {s : State} {c : Nat} (harmed : (s.matrix c).armed = true) (hstop : (s.matrix c).stop = false)
    (hstate : s.canState c ≠ canOffSt) (hen : s.enOn (R.CAN_SCH_CFG.EN c) = true) :
    s.matrixStart c = ((s.modMatrix c (fun _ => s.matrixSample c)).p (R.CAN_SCH_STS.RUN c) 1).windowEval c := by
  have hgo : (!(s.matrix c).armed || (s.matrix c).stop || s.canState c == canOffSt || !s.enOn (R.CAN_SCH_CFG.EN c)) = false := by
    simp [harmed, hstop, hstate, hen]
  unfold State.matrixStart
  rw [hgo]
  rfl

/-! ### The move to another window (R223, R224) -/

/-- A matrix in the window `w` of the basic cycle in hand, which began `st` us into it. -/
def Matrix.inWindow (m : Matrix) (w st : Nat) : Matrix := { m with win := some w, since := m.at0.getD 0 + st * 1000, shut := false }

/-- Window `w` of basic cycle `k` begins, `st` us into it, and CAN_SCH_STS shows it. -/
def State.windowShown (s : State) (c k w st : Nat) : State :=
  ((s.modMatrix c (fun m => m.inWindow w st)).p (R.CAN_SCH_STS.CYCLE c) k).p (R.CAN_SCH_STS.WIN c) w

theorem State.exclClose_of_paid {s : State} {c : Nat} (h : (s.matrix c).owed = false) : s.exclClose c = s := by
  simp [State.exclClose, h]

theorem State.matrix_windowShown (s : State) (c k w st : Nat) : (s.windowShown c k w st).matrix c = (s.matrix c).inWindow w st := by
  rw [State.windowShown, State.matrix_p, State.matrix_p, State.matrix_modMatrix_same]

theorem State.canOf_windowShown_ne (s : State) {c d : Nat} (k w st : Nat) (h : d ≠ c) :
    (s.windowShown c k w st).canOf d = s.canOf d := by
  rw [State.windowShown, State.canOf_p, State.canOf_p, State.canOf_modMatrix_ne _ _ h]

theorem CanKept.windowShown (s : State) (c k w st : Nat) : CanKept s (s.windowShown c k w st) [R.CAN_SCH_STS c] :=
  (((CanKept.modMatrix s c _).trans (.of_kept (Kept.p _ (R.CAN_SCH_STS.CYCLE c) k))).trans
    (.of_kept (Kept.p _ (R.CAN_SCH_STS.WIN c) w))).mono (fun a ha => .inl (by simpa [R.CAN_SCH_STS.CYCLE, R.CAN_SCH_STS.WIN] using ha))

theorem State.g_windowShown (s : State) (c k w st : Nat) :
    (s.windowShown c k w st).g (R.CAN_SCH_STS.CYCLE c) = k % 64 ∧ (s.windowShown c k w st).g (R.CAN_SCH_STS.WIN c) = w % 32 := by
  unfold State.windowShown
  constructor
  · rw [State.g_p_apart _ _ _ rfl rfl]
    exact State.g_p_fits _ k rfl
  · exact State.g_p_fits _ w rfl

section
variable {s : State} {c w st : Nat} {e : Word} (howed : (s.matrix c).owed = false)
  (hcycle : (s.matrix c).at0 = some (s.matrixNow c - (s.matrix c).pos (s.matrixNow c) % (s.matrix c).bcNs))
  (hentry : (s.matrix c).entryAt ((s.matrix c).pos (s.matrixNow c) % (s.matrix c).bcNs) = some (w, st, e))
  (hwin : (s.matrix c).win ≠ some w)
include howed hcycle hentry hwin

/-- Within the basic cycle in hand the entry in force is that of another window. -/
theorem State.windowTo_of_entry :
    s.windowTo c = s.windowShown c ((s.matrix c).pos (s.matrixNow c) / (s.matrix c).bcNs) w st := by
  have hmoves : ¬ ((s.matrix c).at0 = some (s.matrixNow c - (s.matrix c).pos (s.matrixNow c) % (s.matrix c).bcNs) ∧
      (s.matrix c).win = some w) := fun h => hwin h.2
  unfold State.windowTo
  simp only [if_pos hcycle, hentry, Option.map_some, if_neg hmoves, State.exclClose_of_paid howed, Option.getD_some]
  rw [State.windowShown, State.modMatrix_congr (g := fun m => m.inWindow w st)]
  simp only [Matrix.inWindow, hcycle, Option.getD_some]

/-- Where that window is not exclusive, the matrix only moves on. -/
theorem State.windowEval_of_entry (hrun : (s.matrix c).run = true) (htb : s.tbRun (s.matrix c).tb = true)
    (htype : fieldOf ((s.matrix c).ents.getD w 0) 29 2 ≠ 0) :
    s.windowEval c = s.windowShown c ((s.matrix c).pos (s.matrixNow c) / (s.matrix c).bcNs) w st := by
  have htyp : ((s.matrix c).inWindow w st).typ ≠ 0 := by
    simp only [Matrix.typ, Matrix.inWindow, hrun, Bool.not_true, Bool.false_eq_true, if_false]
    omega
  have henter : ∀ k, (s.windowShown c k w st).windowEnter c = s.windowShown c k w st := fun k => by
    rw [State.windowEnter, State.matrix_windowShown]
    simp [htyp]
  have hmoved : ¬ (((s.matrix c).inWindow w st).at0 = (s.matrix c).at0 ∧ ((s.matrix c).inWindow w st).win = (s.matrix c).win) :=
    fun h => hwin h.2.symm
  unfold State.windowEval
  simp only [hrun, htb, State.windowTo_of_entry howed hcycle hentry hwin, State.matrix_windowShown, hmoved, henter, Bool.not_true,
    Bool.false_eq_true, if_false]

end

/-! ### A window that is missed (R225) -/

/-- A frame that no attempt on the bus can send any more is missed. -/
def State.windowMissed (s : State) (c : Nat) : State :=
  ((s.modMatrix c (fun m => { m with owed := false })).bump (R.CAN_SCH_MISS_LO c)).ev (R.CAN_EVT.SCH_MISS c)

theorem State.exclClose_of_idle {s : State} {c : Nat} (howed : (s.matrix c).owed = true) (htx : (s.canOf c).tx = none) :
    s.exclClose c = s.windowMissed c := by
  unfold State.exclClose
  simp only [howed, htx, Bool.not_true, Bool.false_eq_true, if_false]
  rfl

theorem Kept.windowMissed (s : State) (c : Nat) : Kept (s.modMatrix c (fun m => { m with owed := false })) (s.windowMissed c)
    [R.CAN_SCH_MISS_LO c, R.CAN_SCH_MISS_LO c + 4, R.CAN_EVT c] :=
  (Kept.bump _ (R.CAN_SCH_MISS_LO c)).trans (Kept.ev _ (R.CAN_EVT.SCH_MISS c))

theorem State.rd64_windowMissed {s : State} (c : Nat) (hsave : s.saving = false) :
    (s.windowMissed c).rd64 (R.CAN_SCH_MISS_LO c) = (s.rd64 (R.CAN_SCH_MISS_LO c) + 1) % 2 ^ 64 := by
  rw [State.windowMissed, State.rd64_ev_ne, State.rd64_bump _ _ (by exact hsave)]
  · rfl
  all_goals
    simp only [R.CAN_SCH_MISS_LO, R.CAN_EVT.SCH_MISS, R.CAN_EVT]
    omega

end Sys2Proof.Machine

open Sys2Proof Sys2Proof.Machine

/-- Settles O32: an armed matrix samples its fields and evaluates its window; with nothing owed a window of another entry is only
shown; and one that is owed, no frame being on the bus, is missed. -/
theorem canMatrix : Obligations.CanMatrix := by
  unfold Obligations.CanMatrix
  refine ⟨?start, ?window, ?missed⟩
  case start =>
    intro s c hc harmed hstop hstate hen
    have hexec : exec (.matrixStart c) s = done s (s.matrixStart c) := congrArg (fun k => done s (s.matrixStart k)) (Nat.mod_eq_of_lt hc)
    exact hexec.trans (congrArg (done s) (State.matrixStart_of_armed harmed hstop hstate hen))
  case window =>
    intro s c w st k e hc hrun htb howed hk hcycle hentry hwin htype
    have hexec : exec (.windowStart c) s = done s (s.windowEval c) := congrArg (fun k => done s (s.windowEval k)) (Nat.mod_eq_of_lt hc)
    rw [hexec, State.windowEval_of_entry howed hcycle hentry hwin hrun htb htype, ← hk]
    obtain ⟨hcyc, hshown⟩ := s.g_windowShown c k w st
    refine ⟨_, rfl, ?_, ?_, ?_, ?_, (CanKept.windowShown s c k w st).passOn s⟩
    · rw [matrix_passOn, State.matrix_windowShown]
      rfl
    · rw [g_passOn_ctl _ _ hc rfl (by decide) (by decide), hcyc]
    · rw [g_passOn_ctl _ _ hc rfl (by decide) (by decide), hshown]
    · intro d hd
      rw [canOf_passOn, State.canOf_windowShown_ne s k w st hd]
  case missed =>
    intro s c hc howed htx hsave
    have hexec : exec (.exclLateExpiry c) s = done s (s.exclClose c) := congrArg (fun k => done s (s.exclClose k)) (Nat.mod_eq_of_lt hc)
    have hmissed := Kept.windowMissed s c
    rw [hexec, State.exclClose_of_idle howed htx]
    refine ⟨_, rfl, ?_, ?_, ?_, ?_, ((CanKept.modMatrix s c _).trans (.of_kept hmissed)).passOn s⟩
    · rw [matrix_passOn, hmissed.matrix_eq, State.matrix_modMatrix_same]
    · rw [g_passOn_ctl _ _ hc rfl (by decide) (by decide)]
      exact State.g_p_fits _ 1 rfl
    · exact (rd64_passOn_ctl _ _ hc rfl (by decide) (by decide)).trans (State.rd64_windowMissed c hsave)
    · intro d hd
      rw [canOf_passOn, hmissed.canOf_eq, State.canOf_modMatrix_ne _ _ hd]

end

section
/-! SUPPORT. The registers of the gateway region and the gateway's own state (R33, R232-R253). -/

namespace Sys2Proof.Machine

/-! ### Registers of the gateway region -/

theorem passRegs_outside_gw : ∀ a ∈ passRegs, a < 0x1800000 ∨ 0x1A00000 ≤ a := by decide

/-- No register of the gateway region is one that passing events on may change. -/
theorem gwReg_pass {a : Nat} (hlo : 0x1800000 ≤ a) (hhi : a < 0x1A00000) : a ∉ passRegs := by
  intro h
  have := passRegs_outside_gw _ h
  omega

theorem regionOf_gw {a : Nat} (hlo : 0x1800000 ≤ a) (hhi : a < 0x1A00000) : regionOf a = 8 :=
  regionOf_eq (fun b hb => ((by decide : ∀ b ∈ regionBases.take 9, b ≤ 0x1800000) b hb).trans hlo)
    (fun b hb => Nat.lt_of_lt_of_le hhi ((by decide : ∀ b ∈ regionBases.drop 9, 0x1A00000 ≤ b) b hb)) (by decide)

/-- An array is one register of each of the `n` blocks of `w` bytes from `b`. -/
def Row.inBlocks (r : Row) (b w n : Nat) : Bool :=
  r.s1 == w && r.c1 == n && r.s2 == 0 && r.c2 == 1 && decide (b ≤ r.base) && decide (r.base < b + w)

/-- An array lies outside those blocks. -/
def Row.offBlocks (r : Row) (b w n : Nat) : Bool :=
  r.s2 == 0 && (decide (b + w * n ≤ r.base) || decide (r.base + r.s1 * r.c1 ≤ b ∧ r.base < b))

/-- An array outside the blocks holds no register of them. -/
theorem Row.holds_of_offBlocks {r : Row} {b w n a : Nat} (h : r.offBlocks b w n = true) (hlo : b ≤ a) (hhi : a < b + w * n) :
    r.holds a = false := by
  simp only [Row.offBlocks, Bool.and_eq_true, beq_iff_eq, Bool.or_eq_true, decide_eq_true_eq] at h
  obtain ⟨hs2, hoff⟩ := h
  rcases hoff with habove | ⟨hend, hbelow⟩
  · have : ¬ r.base ≤ a := by omega
    simp [Row.holds, this]
  · rcases Nat.eq_zero_or_pos r.s1 with hs1 | hs1
    · have : a - r.base ≠ 0 := by omega
      simp [Row.holds, hs1, hs2, this]
    · have hpast : ¬ (a - r.base) / r.s1 < r.c1 := by
        rw [Nat.div_lt_iff_lt_mul hs1, Nat.mul_comm]
        omega
      simp [Row.holds, Nat.ne_of_gt hs1, hpast]

/-- An array of the blocks holds the register at offset `j` of one block where it holds that of the first. -/
theorem Row.holds_of_inBlocks {r : Row} {b w n i j : Nat} (h : r.inBlocks b w n = true) (hj : j < w) (hi : i < n) :
    r.holds (b + j + w * i) = r.holds (b + j) := by
  simp only [Row.inBlocks, Bool.and_eq_true, beq_iff_eq, decide_eq_true_eq] at h
  obtain ⟨⟨⟨⟨⟨hs1, hc1⟩, hs2⟩, hc2⟩, hlo⟩, hhi⟩ := h
  obtain ⟨k, hk⟩ := Nat.exists_eq_add_of_le hlo
  have hw : w ≠ 0 := by omega
  have hiff : ∀ m, m < n → (r.holds (b + j + w * m) = true ↔ j = k) := by
    intro m hm
    simp only [Row.holds, hs1, hc1, hs2, hc2, hw, hk, if_false, if_true, Nat.mul_zero, Nat.zero_lt_one, decide_true, Bool.and_true,
      Bool.and_eq_true, decide_eq_true_eq]
    constructor
    · rintro ⟨hle, -, hrest⟩
      have hquot := Nat.div_mul_le_self (b + j + w * m - (b + k)) w
      have hsum : j + w * m = k + w * ((b + j + w * m - (b + k)) / w) := by
        rw [Nat.mul_comm w ((b + j + w * m - (b + k)) / w)]
        omega
      have hmod := congrArg (· % w) hsum
      simpa only [Nat.add_mul_mod_self_left, Nat.mod_eq_of_lt hj, Nat.mod_eq_of_lt (show k < w by omega)] using hmod
    · rintro rfl
      have : b + j + w * m - (b + j) = w * m := by omega
      rw [this, Nat.mul_div_cancel_left m (Nat.pos_of_ne_zero hw), Nat.mul_comm m w]
      omega
  have h0 := hiff 0 (by omega)
  rw [Nat.mul_zero, Nat.add_zero] at h0
  exact Bool.eq_iff_iff.mpr ((hiff i hi).trans h0.symm)

/-- Every block of registers has the registers of the first. -/
theorem rowOf_block {b w n i j : Nat} (hrows : (rowsGw.all fun r => r.offBlocks b w n || r.inBlocks b w n) = true)
    (hlo : 0x1800000 ≤ b) (hhi : b + w * n ≤ 0x1A00000) (hj : j < w) (hi : i < n) : rowOf (b + j + w * i) = rowOf (b + j) := by
  have hlast : w * i + w ≤ w * n := Nat.mul_le_mul_left w hi
  have hholds : ∀ r ∈ rowsGw, r.holds (b + j + w * i) = r.holds (b + j) := by
    intro r hr
    rcases Bool.or_eq_true_iff.mp (List.all_eq_true.mp hrows r hr) with hoff | hin
    · rw [Row.holds_of_offBlocks hoff (by omega) (by omega), Row.holds_of_offBlocks hoff (by omega) (by omega)]
    · exact Row.holds_of_inBlocks hin hj hi
  rw [rowOf, rowOf, regionOf_gw (by omega) (by omega), regionOf_gw (by omega) (by omega)]
  exact List.find?_congr hholds

theorem rowOf_dst {d j : Nat} (hd : d < 16) (hj : j < 0x10) : rowOf (0x1800100 + j + 0x10 * d) = rowOf (0x1800100 + j) :=
  rowOf_block (by decide) (by decide) (by decide) hj hd

theorem rowOf_pk {k j : Nat} (hk : k < 32) (hj : j < 0x40) : rowOf (0x1820000 + j + 0x40 * k) = rowOf (0x1820000 + j) :=
  rowOf_block (by decide) (by decide) (by decide) hj hk

theorem rowOf_jig {e j : Nat} (he : e < 4096) (hj : j < 0x10) : rowOf (0x1840000 + j + 0x10 * e) = rowOf (0x1840000 + j) :=
  rowOf_block (by decide) (by decide) (by decide) hj he

/-! ### The gateway's own state -/

/-- From `s` to `t` nothing changes but the gateway's own state, the registers of `l`, and what passing events on may change. -/
abbrev GwKept (s t : State) (l : List Nat) : Prop := Kept { s with gw := t.gw } t l

theorem GwKept.of_kept {s t : State} {l : List Nat} (h : Kept s t l) : GwKept s t l := by
  obtain ⟨hreg, hq, hrest⟩ := h
  exact ⟨hreg, hq, by rw [hrest]⟩

theorem GwKept.trans {s t u : State} {l m : List Nat} (h : GwKept s t l) (k : GwKept t u m) : GwKept s u (l ++ m) := by
  have h' : Kept { s with gw := u.gw } { t with gw := u.gw } l := by
    obtain ⟨hreg, hq, hrest⟩ := h
    exact ⟨hreg, hq, by rw [hrest]⟩
  exact Kept.trans h' k

theorem GwKept.withGw (s : State) (gw : Gw) : GwKept s (s.withGw gw) [] := Kept.refl (s.withGw gw) []

theorem GwKept.passOn {s u : State} {l : List Nat} (s0 : State) (h : GwKept s u l) : GwKept s (State.passOn s0 u) l := by
  unfold GwKept
  rw [passOn_gw]
  exact Kept.passOn s0 h

end Sys2Proof.Machine
end

section
/-! SUPPORT. The FIFO and the bucket of a destination (R236, R238), and the packing and unpacking of PDUs (R239-R244). -/

namespace Sys2Proof.Machine

/-! ### The FIFO of a destination (R236) -/

theorem dstReg_pass {d j : Nat} (hj : j < 0x10) (hd : d < 16) : 0x1800100 + j + 0x10 * d ∉ passRegs :=
  gwReg_pass (by omega) (by omega)

theorem State.fifoObj_lt (s : State) (d : Nat) : s.g (R.GW_DST_CFG.FIFO_OBJ d) < 512 := Nat.mod_lt _ (Nat.two_pow_pos 9)

/-- The head of a FIFO, not a long frame, goes into a FIFO_OBJ without a request; the object breaks no condition and has no
authentication entry. -/
theorem State.fifoRefill_of_head {s u : State} {d i : Nat} {f : CFrame} {rest : List CFrame} (hi : i = s.g (R.GW_DST_CFG.FIFO_OBJ d))
    (hen : s.on (R.GW_DST_CFG.FIFO_EN d) = true) (hreq : s.g (R.CAN_TXO_W1.REQ d i) = 0) (hlong : s.longHead d = false)
    (hfifo : s.fifo d = f :: rest) (hlen : f.len ≤ 64)
    (hu : u = (((s.putFrame d i f false).p (R.CAN_TXO_W1.SCHED d i) 0).p (R.CAN_TXO_W1.REQ d i) 1).setFifo d rest)
    (hbad : u.txBad d i = false) (hcma : u.cmaFor true d i = none) : s.fifoRefill d = u := by
  have hshort : decide (64 < f.len) = false := decide_eq_false (Nat.not_lt.mpr hlen)
  have hoff : s.on (R.CAN_TXO_W1.REQ d i) = false := by simp [State.on, hreq]
  have hend : (u.request d i).cmaChange d i = u := by rw [State.request_of_good hbad, State.cmaChange_of_none hcma]
  subst hi hu
  unfold State.fifoRefill
  simp only [hen, hoff, hlong, hfifo, hshort, Bool.not_true, Bool.or_self, Bool.false_and, Bool.false_eq_true, if_false]
  exact hend

theorem State.fifo_setFifo_same (s : State) (d : Nat) (l : List CFrame) : (s.setFifo d l).fifo d = l := Tab.get_set_same _ _ _ _

theorem fifo_passOn (s0 s : State) (d : Nat) : (State.passOn s0 s).fifo d = s.fifo d := by rw [State.fifo, passOn_gw, State.fifo]

theorem State.level_setFifo (s : State) (d : Nat) {l : List CFrame} (h : l.length < 128) :
    (s.setFifo d l).g (R.GW_DST_STS.LEVEL d) = l.length := by
  unfold State.setFifo
  rw [State.g_p_fits _ _ rfl]
  exact Nat.mod_eq_of_lt h

/-- A transmit object is no register of a destination. -/
theorem txObject_ne_dst {c d i : Nat} (hc : c < 16) (hi : i < 512) : (R.CAN_TXO_W1.REQ c i).addr ≠ R.GW_DST_STS d := by
  have := (txObject_range hc hi).2
  simp only [R.CAN_TXO_W1.REQ, R.GW_DST_STS]
  omega

/-- A FIFO's new contents leave every register but the one of its level. -/
theorem State.g_setFifo_ne (s : State) {d : Nat} {l : Loc} (fs : List CFrame) (h : l.addr ≠ R.GW_DST_STS d) :
    (s.setFifo d fs).g l = s.g l :=
  State.g_p_ne _ (R.GW_DST_STS.LEVEL d) l _ h

/-! ### The token bucket of a destination (R238) -/

@[simp] theorem State.tokens_setTokens_same (s : State) (d n : Nat) : (s.setTokens d n).tokens d = n := Tab.get_set_same _ _ _ _

theorem State.tokens_setTokens_ne (s : State) {d k : Nat} (n : Nat) (h : k ≠ d) : (s.setTokens d n).tokens k = s.tokens k :=
  Tab.get_set_ne _ _ _ h

@[simp] theorem tokens_passOn (s0 s : State) (d : Nat) : (State.passOn s0 s).tokens d = s.tokens d := by
  rw [State.tokens, passOn_gw, State.tokens]

theorem Kept.tokens_eq {s t : State} {l : List Nat} (h : Kept s t l) (d : Nat) : t.tokens d = s.tokens d := by
  rw [State.tokens, h.gw_eq, State.tokens]

theorem GwKept.setTokens (s : State) (d n : Nat) : GwKept s (s.setTokens d n) [] := GwKept.withGw s _

theorem exec_tokenRefill {s : State} {d : Nat} (hd : d < 16) (hper : s.g (R.GW_DST_RATE.PER_US d) ≠ 0) :
    exec (.tokenRefill d) s = done s (s.setTokens d (min (s.burst d) (s.tokens d + 1))) := by
  show execTokenRefill d s = _
  rw [execTokenRefill, Nat.mod_eq_of_lt hd]
  exact congrArg (done s) (if_neg hper)

theorem exec_gwRateWrite {s : State} {req d : Nat} {v : Word} (hd : d < 16) (hadm : Admitted s req (R.GW_DST_RATE d) v) :
    exec (.gwRateWrite req d v) s =
      done s ((s.store (R.GW_DST_RATE d) v).setTokens d ((s.store (R.GW_DST_RATE d) v).burst d)) := by
  show execGwRateWrite req d v s = _
  rw [execGwRateWrite, Nat.mod_eq_of_lt hd, State.byPort_admitted s _ _ _ _ hadm, State.gwRateWrite]

theorem rowOf_dstRate {d : Nat} (hd : d < 16) : ∃ r, rowOf (R.GW_DST_RATE d) = some r ∧ r.rw ||| r.rwg = 0xffffff00 :=
  ⟨_, (rowOf_dst (j := 4) hd (by decide)).trans rfl, rfl⟩

/-- PER_US and BURST read what a write of GW_DST_RATE gave them. -/
theorem State.rate_store (s : State) {d : Nat} (hd : d < 16) (v : Word) :
    (s.store (R.GW_DST_RATE d) v).g (R.GW_DST_RATE.PER_US d) = fieldOf v 16 16 ∧
      (s.store (R.GW_DST_RATE d) v).burst d = max 1 (fieldOf v 8 8) := by
  obtain ⟨r, hrow, hrw⟩ := rowOf_dstRate hd
  constructor
  · refine State.g_store (l := R.GW_DST_RATE.PER_US d) hrow ?_
    rw [hrw]
    exact (by decide : ∀ i, i < 16 → (W 0xffffff00).getLsbD (16 + i) = true)
  · refine congrArg (max 1) (State.g_store (l := R.GW_DST_RATE.BURST d) hrow ?_)
    rw [hrw]
    exact (by decide : ∀ i, i < 8 → (W 0xffffff00).getLsbD (8 + i) = true)

/-! ### A packing context's own state (R239, R241) -/

theorem State.pack_modPack_same (s : State) (k : Nat) (f : Pack → Pack) : (s.modPack k f).pack k = f (s.pack k) := Tab.get_set_same _ _ _ _

theorem State.pack_modPack_ne (s : State) {k n : Nat} (f : Pack → Pack) (h : n ≠ k) : (s.modPack k f).pack n = s.pack n :=
  Tab.get_set_ne _ _ _ h

theorem pack_passOn (s0 s : State) (k : Nat) : (State.passOn s0 s).pack k = s.pack k := by rw [State.pack, passOn_gw, State.pack]

theorem Kept.pack_eq {s t : State} {l : List Nat} (h : Kept s t l) (k : Nat) : t.pack k = s.pack k := by
  rw [State.pack, h.gw_eq, State.pack]

theorem packReg_pass {k j : Nat} (hj : j < 0x40) (hk : k < 32) : 0x1820000 + j + 0x40 * k ∉ passRegs :=
  gwReg_pass (by omega) (by omega)

/-- A context's change shows in GW_PK_STS. -/
theorem GwKept.modPack (s : State) (k : Nat) (f : Pack → Pack) : GwKept s (s.modPack k f) [R.GW_PK_STS k] :=
  (((GwKept.withGw s _).trans (.of_kept (Kept.p _ (R.GW_PK_STS.SEQ k) _))).trans (.of_kept (Kept.p _ (R.GW_PK_STS.MSG k) _))).mono
    (fun a ha => .inl (by simpa [R.GW_PK_STS.SEQ, R.GW_PK_STS.MSG] using ha))

theorem State.sts_modPack (s : State) (k : Nat) (f : Pack → Pack) :
    (s.modPack k f).g (R.GW_PK_STS.SEQ k) = (f (s.pack k)).seq % 256 ∧
      (s.modPack k f).g (R.GW_PK_STS.MSG k) = (f (s.pack k)).msgs.length % 64 := by
  rw [← s.pack_modPack_same k f]
  unfold State.modPack
  constructor
  · rw [State.g_p_apart _ _ _ rfl rfl]
    exact State.g_p_fits _ _ rfl
  · exact State.g_p_fits _ _ rfl

/-! ### GW_PK_CFG.EN (R241) -/

theorem State.pkCfgWrite_rise {s : State} {k : Nat} {v : Word} (hoff : s.on (R.GW_PK_CFG.EN k) = false) (hset : bit v.toNat 31 = true) :
    s.pkCfgWrite k v = (s.store (R.GW_PK_CFG k) v).modPack k (fun _ => { cfg := v }) := by
  simp [State.pkCfgWrite, hoff, hset]

theorem State.pkCfgWrite_fall {s : State} {k : Nat} {v : Word} (hon : s.on (R.GW_PK_CFG.EN k) = true) (hclr : bit v.toNat 31 = false) :
    s.pkCfgWrite k v = (s.pkClose k).store (R.GW_PK_CFG k) v := by
  simp [State.pkCfgWrite, hon, hclr]

theorem exec_packEnable {s : State} {req k : Nat} {v : Word} (hk : k < 32) (hadm : Admitted s req (R.GW_PK_CFG k) (v ||| 0x80000000))
    (hoff : s.on (R.GW_PK_CFG.EN k) = false) :
    exec (.packEnable req k v) s =
      done s ((s.store (R.GW_PK_CFG k) (v ||| 0x80000000)).modPack k (fun _ => { cfg := v ||| 0x80000000 })) := by
  show execPackEnable req k v s = _
  rw [execPackEnable, Nat.mod_eq_of_lt hk, State.byPort_admitted s _ _ _ _ hadm, State.pkCfgWrite_rise hoff (bit_or_top v)]

theorem exec_packDisable {s : State} {req k : Nat} {v : Word} (hk : k < 32) (hadm : Admitted s req (R.GW_PK_CFG k) (v &&& 0x7FFFFFFF))
    (hon : s.on (R.GW_PK_CFG.EN k) = true) :
    exec (.packDisable req k v) s = done s ((s.pkClose k).store (R.GW_PK_CFG k) (v &&& 0x7FFFFFFF)) := by
  show execPackDisable req k v s = _
  rw [execPackDisable, Nat.mod_eq_of_lt hk, State.byPort_admitted s _ _ _ _ hadm, State.pkCfgWrite_fall hon (bit_and_rest v)]

theorem rowOf_pkCfg {k : Nat} (hk : k < 32) : ∃ r, rowOf (R.GW_PK_CFG k) = some r ∧ r.rw ||| r.rwg = 0xffc03fff :=
  ⟨_, (rowOf_pk (j := 0) hk (by decide)).trans rfl, rfl⟩

/-- EN reads 0 after a write that clears it. -/
theorem State.pkEn_store_clear (s : State) {k : Nat} (hk : k < 32) (v : Word) :
    (s.store (R.GW_PK_CFG k) (v &&& 0x7FFFFFFF)).g (R.GW_PK_CFG.EN k) = 0 := by
  obtain ⟨r, hrow, hrw⟩ := rowOf_pkCfg hk
  have hstored : (s.store (R.GW_PK_CFG k) (v &&& 0x7FFFFFFF)).g (R.GW_PK_CFG.EN k) = fieldOf (v &&& 0x7FFFFFFF) 31 1 := by
    refine State.g_store (l := R.GW_PK_CFG.EN k) hrow ?_
    rw [hrw]
    exact (by decide : ∀ i, i < 1 → (W 0xffc03fff).getLsbD (31 + i) = true)
  have hclear := bit_and_rest v
  rw [bit, beq_eq_false_iff_ne] at hclear
  rw [hstored, fieldOf]
  omega

/-! ### The closing of a PDU (R239, R241) -/

/-- A context whose PDU has been closed. -/
def Pack.closed (q : Pack) : Pack := { q with msgs := [], seq := (q.seq + 1) % 256 }

/-- The frame of a context's open PDU, as it waits for CANB. -/
def State.pduOf (s : State) (k : Nat) : PduOut :=
  { k := k, msgs := (s.pack k).msgs.length, frame := s.pduFrame k (s.pack k), fh := (s.pack k).fh,
    pcp := if (s.pack k).tag then some (s.pack k).pcp else none }

/-- The state with another list of frames that wait for CANB. -/
def State.withOut (s : State) (l : List PduOut) : State := s.withGw { s.gw with out := l }

/-- The open PDU of context `k` is closed and waits. -/
def State.pduClosed (s : State) (k : Nat) : State := (s.modPack k Pack.closed).withOut (s.gw.out ++ [s.pduOf k])

theorem State.pkClose_of_open {s : State} {k : Nat} (hmsgs : (s.pack k).msgs ≠ []) (hroom : s.gw.out.length < 16) :
    s.pkClose k = s.pduClosed k := by
  have hempty : (s.pack k).msgs.isEmpty = false := by simpa using hmsgs
  have hfull : ¬ 16 ≤ (s.modPack k Pack.closed).gw.out.length := Nat.not_le.mpr hroom
  unfold State.pkClose
  simp only [hempty, Bool.false_eq_true, if_false]
  exact if_neg hfull

@[simp] theorem State.pack_withOut (s : State) (l : List PduOut) (k : Nat) : (s.withOut l).pack k = s.pack k := rfl

theorem State.pack_pduClosed (s : State) (k : Nat) : (s.pduClosed k).pack k = (s.pack k).closed := by
  rw [State.pduClosed, State.pack_withOut, State.pack_modPack_same]

theorem State.out_pduClosed (s : State) (k : Nat) : (s.pduClosed k).gw.out = s.gw.out ++ [s.pduOf k] := rfl

theorem GwKept.pduClosed (s : State) (k : Nat) : GwKept s (s.pduClosed k) [R.GW_PK_STS k] :=
  (GwKept.modPack s k _).trans (.withGw _ _)

/-! ### The head PDU (R145, R242) -/

theorem State.pduPresent_of_head {s : State} {o : PduOut} {rest : List PduOut} (hout : s.gw.out = o :: rest)
    (hfwd : s.pins.forwarding = true)
    (hxoff : s.on (R.SW_USED.XOFF (8 * 26 + o.pcp.getD (s.g (R.TBL_PORT.DEF_PCP 26)))) = false) :
    s.pduPresent = (let u := (s.withOut rest).bump (R.GW_PK_PDU_LO o.k)
      u.ingressWhole 26 o.fh (u.intFrame 26 o.frame)) := by
  unfold State.pduPresent
  simp only [hout, hfwd, hxoff, Bool.not_true, Bool.or_self, Bool.false_eq_true, if_false]
  rfl

/-! ### Unpacking (R243, R244) -/

/-- The state with another list of frames that the Carcass has delivered to CANB. -/
def State.withCanbq (s : State) (l : List Frame) : State := { s with sw := { s.sw with canbq := l } }

/-- A frame of another type is counted and dropped. -/
theorem State.unpack_of_other {s : State} {f : Frame} {rest : List Frame} (hq : s.sw.canbq = f :: rest)
    (htype : beAt f.bytes (typeAt f.bytes) 2 ≠ 0x22F0) : s.unpack = (s.withCanbq rest).bump R.GW_UP_NOCTX_LO := by
  unfold State.unpack
  simp only [hq, bne_iff_ne.mpr htype, Bool.true_or, if_true]
  rfl

/-- Entry `u` takes an NTSCF PDU with sequence number `seq`, `miss` PDUs having been missed before it. -/
def State.upTaken (s : State) (u seq miss : Nat) : State :=
  let v := (s.bump (R.GW_UP_PDU_LO u)).bumpBy (R.GW_UP_SEQ_LO u) miss
  v.withGw { v.gw with upSeq := v.gw.upSeq.set (fun _ => none) u (some seq) }

/-- An NTSCF PDU of entry `u`, the one before it having had the sequence number `q`. -/
theorem State.unpack_of_ntscf {s : State} {f : Frame} {rest : List Frame} {b : List Byte} {u n q : Nat} (hq : s.sw.canbq = f :: rest)
    (hb : b = f.bytes.drop (typeAt f.bytes + 2)) (htype : beAt f.bytes (typeAt f.bytes) 2 = 0x22F0) (hsub : beAt b 0 1 = 0x82)
    (hver : beAt b 1 1 / 16 = 8) (hentry : s.upEntry (beAt b 4 8) = some u) (hn : n = beAt b 1 2 % 2048) (hlen : 12 + n ≤ b.length)
    (hprev : s.gw.upSeq.get (fun _ => none) u = some q) :
    s.unpack = State.upMsgs u n ((s.withCanbq rest).upTaken u (beAt b 3 1) ((beAt b 3 1 + 255 - q) % 256)) ((b.drop 12).take n) := by
  have hentry' : (s.withCanbq rest).upEntry (beAt b 4 8) = some u := hentry
  have hprev' : (s.withCanbq rest).gw.upSeq.get (fun _ => none) u = some q := hprev
  subst hb hn
  unfold State.withCanbq at hentry' hprev'
  unfold State.unpack
  simp only [hq, htype, hsub, hver, hentry', hprev', Nat.not_lt.mpr hlen, bne_self_eq_false, Bool.false_and, Bool.or_self,
    Bool.false_eq_true, if_false, Nat.reduceBEq]
  rfl

end Sys2Proof.Machine

open Sys2Proof Sys2Proof.Machine

/-- Settles O33: a refill whose object nothing refuses or authenticates is the move of the FIFO's head; writes of rates and of
GW_PK_CFG are stores with a change of the gateway's own state; a PDU that closes for either reason is the same; a frame is
unpacked by its type and the entry of its stream. -/
theorem gatewayRoutesAndPdus : Obligations.GatewayRoutesAndPdus := by
  unfold Obligations.GatewayRoutesAndPdus
  refine ⟨?refill, ?token, ?rate, ?packOn, ?packOff, ?hold, ?present, ?other, ?ntscf⟩
  case refill =>
    intro s u d i f rest hd hi hen hreq hlong hfifo hlen hrest hu hbad hcma
    have hexec : exec (.fifoObjectRefill d) s = done s (s.fifoRefill d) := congrArg (fun k => done s (s.fifoRefill k)) (Nat.mod_eq_of_lt hd)
    have hobj : i < 512 := hi ▸ s.fifoObj_lt d
    rw [hexec, State.fifoRefill_of_head hi hen hreq hlong hfifo hlen hu hbad hcma]
    refine ⟨_, rfl, rfl, ?_, ?_, ?_⟩
    · rw [fifo_passOn, hu, State.fifo_setFifo_same]
    · rw [g_passOn _ _ (dstReg_pass (j := 8) (by decide) hd), hu, State.level_setFifo _ _ hrest]
    · rw [g_passOn _ _ (txObject_pass hd hobj), hu, State.g_setFifo_ne _ _ (txObject_ne_dst hd hobj)]
      exact State.g_p_fits _ 1 rfl
  case token =>
    intro s d hd hper
    refine ⟨_, exec_tokenRefill hd hper, ?_, ?_, (GwKept.setTokens s d _).passOn s⟩
    · rw [tokens_passOn, State.tokens_setTokens_same]
    · intro k hk
      rw [tokens_passOn, State.tokens_setTokens_ne s _ hk]
  case rate =>
    intro s req d v hd hadm
    obtain ⟨hper, hburst⟩ := s.rate_store hd v
    have hstore := Kept.store s (R.GW_DST_RATE d) v
    refine ⟨_, exec_gwRateWrite hd hadm, ?_, ?_, ?_, ((GwKept.of_kept hstore).trans (GwKept.setTokens _ d _)).passOn s⟩
    · rw [g_passOn _ _ (dstReg_pass (j := 4) (by decide) hd)]
      exact hper
    · rw [tokens_passOn, State.tokens_setTokens_same, hburst]
    · intro k hk
      rw [tokens_passOn, State.tokens_setTokens_ne _ _ hk, hstore.tokens_eq]
  case packOn =>
    intro s req k v hk hadm hoff
    have hstore := Kept.store s (R.GW_PK_CFG k) (v ||| 0x80000000)
    obtain ⟨hseq, hmsg⟩ := (s.store (R.GW_PK_CFG k) (v ||| 0x80000000)).sts_modPack k (fun _ => { cfg := v ||| 0x80000000 })
    refine ⟨_, exec_packEnable hk hadm hoff, ?_, ?_, ?_, ?_, ((GwKept.of_kept hstore).trans (GwKept.modPack _ k _)).passOn s⟩
    · rw [pack_passOn, State.pack_modPack_same]
    · rw [g_passOn _ _ (packReg_pass (j := 0x1c) (by decide) hk), hseq]
      rfl
    · rw [g_passOn _ _ (packReg_pass (j := 0x1c) (by decide) hk), hmsg]
      rfl
    · intro n hn
      rw [pack_passOn, State.pack_modPack_ne _ _ hn, hstore.pack_eq]
  case packOff =>
    intro s req k v hk hadm hon hmsgs hroom
    have hstore := Kept.store (s.pduClosed k) (R.GW_PK_CFG k) (v &&& 0x7FFFFFFF)
    have hexec := exec_packDisable hk hadm hon
    rw [State.pkClose_of_open hmsgs hroom] at hexec
    refine ⟨_, hexec, ?_, ?_, ?_, ?_⟩
    · rw [g_passOn _ _ (packReg_pass (j := 0) (by decide) hk), State.pkEn_store_clear _ hk]
    · rw [pack_passOn, hstore.pack_eq, State.pack_pduClosed]
      rfl
    · rw [passOn_gw, hstore.gw_eq, State.out_pduClosed]
      rfl
    · exact GwKept.passOn s (((GwKept.pduClosed s k).trans (.of_kept hstore)).mono (fun a ha => .inl ((List.Perm.swap _ _ _).mem_iff.mp ha)))
  case hold =>
    intro s k hk hmsgs hroom
    have hexec : exec (.holdExpiry k) s = done s (s.pkClose k) := congrArg (fun n => done s (s.pkClose n)) (Nat.mod_eq_of_lt hk)
    rw [hexec, State.pkClose_of_open hmsgs hroom]
    refine ⟨_, rfl, ?_, ?_, (GwKept.pduClosed s k).passOn s⟩
    · rw [pack_passOn, State.pack_pduClosed]
      rfl
    · rw [passOn_gw, State.out_pduClosed]
      rfl
  case present =>
    intro s o rest hout hfwd hxoff
    exact congrArg (done s) (State.pduPresent_of_head hout hfwd hxoff)
  case other =>
    intro s f rest hq htype hsave
    have hexec : exec .gwUnpack s = done s ((s.withCanbq rest).bump R.GW_UP_NOCTX_LO) := congrArg (done s) (State.unpack_of_other hq htype)
    have hbump := Kept.bump (s.withCanbq rest) R.GW_UP_NOCTX_LO
    have hsw : (State.passOn s ((s.withCanbq rest).bump R.GW_UP_NOCTX_LO)).sw = { s.sw with canbq := rest } := by
      rw [passOn_sw, hbump.sw_eq]
      rfl
    refine ⟨_, hexec, hsw, ?_, ?_⟩
    · rw [rd64_passOn _ _ (by decide) (by decide)]
      exact State.rd64_bump (s.withCanbq rest) _ hsave
    · rw [hsw]
      exact hbump.passOn s
  case ntscf =>
    intro s f rest b u n q hq hb htype hsub hver hentry hn hlen hprev
    exact congrArg (done s) (State.unpack_of_ntscf hq hb htype hsub hver hentry hn hlen hprev)

end

section
/-! SUPPORT. The moves, timers and entries of the Jig (R245-R248). -/

namespace Sys2Proof.Machine

/-! ### The data of a transmit object (R221) -/

theorem length_wordsOf (n : Nat) (l : List Byte) : (wordsOf n l).length = n := by
  induction n generalizing l with
  | zero => rfl
  | succ n ih => rw [wordsOf, List.length_cons, ih]

/-- The data words of a transmit object. -/
def txDataRegs (c i : Nat) : List Nat := (List.range 16).map (fun k => R.CAN_TXO_W4 c i + 4 * k)

theorem Kept.setTxoData (s : State) (c i : Nat) (d : List Byte) : Kept s (s.setTxoData c i d) (txDataRegs c i) := by
  unfold State.setTxoData
  split
  · exact Kept.refl s _
  · have h := Kept.wrList s (R.CAN_TXO_W4 c i) (wordsOf 16 d)
    rwa [length_wordsOf] at h

theorem lt_of_mem_txDataRegs {a c i : Nat} (hc : c < 16) (hi : i < 512) (h : a ∈ txDataRegs c i) : a < 0x1800000 := by
  obtain ⟨k, hk, rfl⟩ := List.mem_map.mp h
  have := List.mem_range.mp hk
  simp only [R.CAN_TXO_W4]
  omega

/-! ### The move of an entry (R245-R248) -/

theorem State.jigDest_lt (s : State) (e : Nat) : (s.jigDest e).1 < 16 ∧ (s.jigDest e).2 < 512 :=
  ⟨Nat.mod_lt _ (Nat.two_pow_pos 4), Nat.mod_lt _ (Nat.two_pow_pos 9)⟩

/-- The bits of a trigger stand in the destination of entry `e`, and the move is counted. -/
def State.jigPlaced (s : State) (x : JigTrig) (e : Nat) (ps pd : List Nat) : State :=
  (s.jigPut (s.jigDest e).1 (s.jigDest e).2 pd (ps.map (dataBit x.data))).bump R.GW_JIG_MOVE_LO

/-- Entry `e` has made its move, and its timer starts anew. -/
def State.jigMoved (s : State) (x : JigTrig) (e : Nat) (ps pd : List Nat) : State :=
  ((s.jigPlaced x e ps pd).p (R.GW_JIG_STS.TIMED_OUT e) 0).jigTimer e (s.jigTimed e)

theorem Kept.jigPlaced (s : State) (x : JigTrig) (e : Nat) (ps pd : List Nat) :
    Kept s (s.jigPlaced x e ps pd) (txDataRegs (s.jigDest e).1 (s.jigDest e).2 ++ [R.GW_JIG_MOVE_LO, R.GW_JIG_MOVE_LO + 4]) :=
  (Kept.setTxoData s _ _ _).trans (Kept.bump _ _)

/-- The entry stands as it was. -/
theorem State.entry_jigPlaced (s : State) (x : JigTrig) {e : Nat} (ps pd : List Nat) {l : Loc} (he : e < 4096) (hl : l.addr = R.GW_JIG_W1 e) :
    (s.jigPlaced x e ps pd).g l = s.g l := by
  have haddr : l.addr = 0x1840004 + 0x10 * e := hl
  refine (Kept.jigPlaced s x e ps pd).g_eq ?_ (gwReg_pass (by omega) (by omega))
  rw [List.mem_append]
  rintro (hdata | hcount)
  · have := lt_of_mem_txDataRegs (s.jigDest_lt e).1 (s.jigDest_lt e).2 hdata
    omega
  · simp only [List.mem_cons, List.not_mem_nil, or_false, R.GW_JIG_MOVE_LO] at hcount
    omega

/-- An entry with both fields within 512 bits, its source within the frame, makes its move. -/
theorem State.jigMove_of_fields {s : State} {x : JigTrig} {e : Nat} {ps pd : List Nat} (he : e < 4096) (hsrc : s.jigSrc e = some ps)
    (hdst : s.jigDst e = some pd) (hin : ∀ p ∈ ps, p < 8 * x.len) :
    s.jigMove x e = (s.jigMoved x e ps pd, some ((s.jigDest e).1, (s.jigDest e).2, s.on (R.GW_JIG_W1.SET_REQ e))) := by
  have hshort : ps.any (fun p => decide (8 * x.len ≤ p)) = false := by simpa using hin
  have htimed : (s.jigPlaced x e ps pd).jigTimed e = s.jigTimed e := by
    rw [State.jigTimed, s.entry_jigPlaced x ps pd he rfl, State.jigTimed]
  have hset : (s.jigPlaced x e ps pd).on (R.GW_JIG_W1.SET_REQ e) = s.on (R.GW_JIG_W1.SET_REQ e) := by
    rw [State.on, s.entry_jigPlaced x ps pd he rfl, State.on]
  unfold State.jigMoved
  rw [← htimed, ← hset]
  unfold State.jigMove
  simp only [hsrc, hdst, hshort, Bool.false_eq_true, if_false]
  rfl

/-- The state with another list of stores that wait for the Jig. -/
def State.withTrig (s : State) (l : List JigTrig) : State := s.withGw { s.gw with trig := l }

/-- The oldest trigger, of an object with one entry that sets no request, is that entry's move. -/
theorem State.jigRun_of_one {s : State} {x : JigTrig} {rest : List JigTrig} {e : Nat} {ps pd : List Nat} (htrig : s.gw.trig = x :: rest)
    (hone : s.jigEntries x.can x.obj = [e]) (he : e < 4096) (hsrc : s.jigSrc e = some ps) (hdst : s.jigDst e = some pd)
    (hin : ∀ p ∈ ps, p < 8 * x.len) (hset : s.g (R.GW_JIG_W1.SET_REQ e) = 0)
    (hcma : ((s.withTrig rest).jigMoved x e ps pd).cmaFor true (s.jigDest e).1 (s.jigDest e).2 = none) :
    s.jigRun = (s.withTrig rest).jigMoved x e ps pd := by
  have hmove : (s.withTrig rest).jigMove x e = ((s.withTrig rest).jigMoved x e ps pd, some ((s.jigDest e).1, (s.jigDest e).2, false)) := by
    rw [State.jigMove_of_fields (s := s.withTrig rest) he hsrc hdst hin]
    have hoff : (s.withTrig rest).on (R.GW_JIG_W1.SET_REQ e) = false := by
      simp [State.on, State.withTrig, hset]
    rw [hoff]
    rfl
  have hentries : (s.withTrig rest).jigEntries x.can x.obj = [e] := hone
  have hgroup : ((s.withTrig rest).jigMoved x e ps pd).jigGroup (s.jigDest e).1 (s.jigDest e).2 false =
      (s.withTrig rest).jigMoved x e ps pd := State.cmaChange_of_none hcma
  unfold State.withTrig State.withGw at hentries hmove hgroup ⊢
  unfold State.jigRun
  simp only [htrig, hentries, List.foldl_cons, List.foldl_nil, hmove, Option.toList_some, List.nil_append, jigGroups, List.any_nil,
    Bool.or_false, List.filter_nil, State.each, hgroup]

/-! ### Timers (R248) -/

/-- The timer of entry `e` has ended: shown, counted and reported. -/
def State.jigTimedOut (s : State) (e : Nat) : State :=
  (((s.jigTimer e false).p (R.GW_JIG_STS.TIMED_OUT e) 1).bump R.GW_JIG_TMO_LO).ev R.GW_EVT.JIG_TMO

/-- What follows the stop of the timer is seen in registers alone. -/
theorem Kept.jigTimedOut (s : State) (e : Nat) :
    Kept (s.jigTimer e false) (s.jigTimedOut e) [R.GW_JIG_STS e, R.GW_JIG_TMO_LO, R.GW_JIG_TMO_LO + 4, R.GW_EVT] :=
  ((Kept.p _ (R.GW_JIG_STS.TIMED_OUT e) 1).trans (Kept.bump _ R.GW_JIG_TMO_LO)).trans (Kept.ev _ R.GW_EVT.JIG_TMO)

theorem jigReg_pass {e j : Nat} (hj : j < 0x10) (he : e < 4096) : 0x1840000 + j + 0x10 * e ∉ passRegs := gwReg_pass (by omega) (by omega)

theorem jigSts_pass {e : Nat} (he : e < 4096) : R.GW_JIG_STS e ∉ passRegs :=
  gwReg_pass (by simp only [R.GW_JIG_STS]; omega) (by simp only [R.GW_JIG_STS]; omega)

theorem jigReg_ne_sts {e j : Nat} (hj : j < 0x10) (he : e < 4096) (k : Nat) : 0x1840000 + j + 0x10 * e ≠ R.GW_JIG_STS k := by
  simp only [R.GW_JIG_STS]
  omega

theorem State.jigExpire_of_plain {s : State} {e : Nat} (he : e < 4096) (htimer : s.gw.timer.get (fun _ => false) e = true)
    (hvalid : s.on (R.GW_JIG_W1.VALID e) = true) (hsub : s.g (R.GW_JIG_W1.SUB_EN e) = 0) : s.jigExpire e = s.jigTimedOut e := by
  have hplain : (s.jigTimedOut e).on (R.GW_JIG_W1.SUB_EN e) = false := by
    have hkept : (s.jigTimedOut e).g (R.GW_JIG_W1.SUB_EN e) = s.g (R.GW_JIG_W1.SUB_EN e) := by
      refine (Kept.jigTimedOut s e).g_eq ?_ (jigReg_pass (j := 4) (by decide) he)
      simp only [List.mem_cons, List.not_mem_nil, or_false, R.GW_JIG_W1.SUB_EN, R.GW_JIG_W1, R.GW_JIG_STS, R.GW_JIG_TMO_LO, R.GW_EVT]
      omega
    rw [State.on, hkept, hsub]
    rfl
  unfold State.jigTimedOut at hplain ⊢
  unfold State.jigExpire
  simp only [htimer, hvalid, hplain, Bool.not_true, Bool.or_self, Bool.false_eq_true, if_false]

theorem State.g_jigTimedOut (s : State) {e : Nat} (he : e < 4096) :
    (s.jigTimedOut e).g (R.GW_JIG_STS.TIMED_OUT e) = 1 ∧ (s.jigTimedOut e).g R.GW_EVT.JIG_TMO = 1 := by
  refine ⟨?_, State.g_p_fits _ 1 rfl⟩
  have hrest := (Kept.bump ((s.jigTimer e false).p (R.GW_JIG_STS.TIMED_OUT e) 1) R.GW_JIG_TMO_LO).trans (Kept.ev _ R.GW_EVT.JIG_TMO)
  refine (hrest.g_eq ?_ (jigSts_pass he)).trans (State.g_p_fits _ 1 rfl)
  simp only [List.mem_append, List.mem_cons, List.not_mem_nil, or_false, R.GW_JIG_STS.TIMED_OUT, R.GW_JIG_STS, R.GW_JIG_TMO_LO,
    R.GW_EVT.JIG_TMO, R.GW_EVT]
  omega

theorem State.rd64_jigTimedOut {s : State} {e : Nat} (he : e < 4096) (hsave : s.saving = false) :
    (s.jigTimedOut e).rd64 R.GW_JIG_TMO_LO = (s.rd64 R.GW_JIG_TMO_LO + 1) % 2 ^ 64 := by
  have hsts := Kept.p (s.jigTimer e false) (R.GW_JIG_STS.TIMED_OUT e) 1
  have hsave' : ((s.jigTimer e false).p (R.GW_JIG_STS.TIMED_OUT e) 1).saving = false := by
    refine (hsts.saving_eq ?_).trans hsave
    simp only [List.mem_singleton, R.PWR_SUP_STS.SAVE, R.PWR_SUP_STS, R.GW_JIG_STS.TIMED_OUT, R.GW_JIG_STS]
    omega
  rw [State.jigTimedOut, State.rd64_ev_ne _ _ (by decide) (by decide), State.rd64_bump _ _ hsave', State.rd64_p_ne]
  · rfl
  all_goals
    simp only [R.GW_JIG_STS.TIMED_OUT, R.GW_JIG_STS, R.GW_JIG_TMO_LO]
    omega

/-! ### The commit of an entry (R39, R247) -/

/-- The registers of the gateway region show what the map stores (R47). -/
theorem State.peek_gw (s : State) (req : Nat) {a : Nat} (hlo : 0x1800000 ≤ a) (hhi : a < 0x1A00000) : s.peek req a = s.rd a := by
  have hlive : s.live req a = none := by
    unfold State.live State.ldLive
    iterate 26 rw [if_neg]
    all_goals
      simp only [R.GLB_CAP, R.GLB_WHO, R.GLB_UNLOCK, R.GLB_EVT_SUM, R.CFG_FLOOR, R.MGT_FLOOR, R.KEY_STS, R.KEY_SERIAL_LO, R.KEY_SERIAL_HI,
        R.MEM_STS, R.CAN_SOF_CTR_LO, R.CAN_SOF_CTR_HI, R.MGT_MTIME_LO, R.MGT_MTIME_HI, R.MGT_WDT_KICK, R.CQP_STS, R.MGT_IP0, R.MGT_IP1,
        R.STR_EVT0, R.STR_EVT, R.KEY_ATT_PUB, R.FLT_SRC_CFG, R.TB_TIME_LO, R.PWR_LD_BUDGET, R.PWR_LD_GRP, R.PWR_LD_STS]
      omega
  have hwin : ¬ (R.QUE_WIN 0 0 ≤ a ∧ a < R.QUE_WIN 64 0) := by
    simp only [R.QUE_WIN]
    omega
  rw [State.peek, if_neg hwin, hlive, Option.getD_none]

theorem guardedCmd_gw {a : Nat} (hlo : 0x1800000 ≤ a) (hhi : a < 0x1A00000) : guardedCmd a = false := by
  have hne : ∀ b ∈ [R.GLB_SRST, R.KEY_CMD, R.PWR_SLP_CMD, R.MGT_RST, R.MGT_FW_CMD, R.MGT_FL_CMD], a ≠ b := by
    intro b hb hab
    have := (by decide : ∀ b ∈ [R.GLB_SRST, R.KEY_CMD, R.PWR_SLP_CMD, R.MGT_RST, R.MGT_FW_CMD, R.MGT_FL_CMD],
      b < 0x1800000 ∨ 0x1A00000 ≤ b) b hb
    omega
  simpa [guardedCmd, and_assoc] using hne

/-- A register as it stands changes no Res. field. -/
theorem State.keepsRes_rd (s : State) (a : Nat) : s.keepsRes a (s.rd a) = true := by
  unfold State.keepsRes
  cases rowOf a <;> simp

/-- A store of what a register holds changes no register. -/
theorem State.rd_store_of_eq {s : State} {a : Nat} {v : Word} (h : s.rd a = v) (b : Nat) : (s.store a v).rd b = s.rd b := by
  have hmerge : ∀ m : Word, (v &&& ~~~m) ||| (v &&& m) = v := fun m => by
    rw [← BitVec.and_or_distrib_left, BitVec.or_comm, BitVec.or_not_self, BitVec.and_allOnes]
  unfold State.store
  split
  · rw [State.wrBits, h, hmerge, State.rd_wr]
    split
    · next hb => rw [hb, h]
    · rfl
  · rfl

/-- A register of 32 RW bits takes the whole word. -/
theorem State.rd_store_whole {s : State} {a : Nat} {v : Word} {r : Row} (hrow : rowOf a = some r) (hrw : r.rw ||| r.rwg = 0xffffffff) :
    (s.store a v).rd a = v := by
  have hmask : W 0xffffffff = BitVec.allOnes 32 := by decide
  unfold State.store
  simp only [hrow, hrw, State.wrBits, State.rd_wr_same, hmask, BitVec.not_allOnes, BitVec.and_zero, BitVec.zero_or, BitVec.and_allOnes]

/-- The words of a multiword value as a commit stores them, lowest first. -/
def State.storeWords (s : State) (lo : Nat) (ws : List Word) : State := s.each ws.zipIdx (fun p t => t.store (lo + 4 * p.2) p.1)

/-- The commit of words that change no Res. field (R39, R46). -/
theorem State.mwCommit_of_res {s : State} {req lo : Nat} {r : Row} {ws : List Word}
    (hres : ∀ p ∈ ws.zipIdx, s.keepsRes (lo + 4 * p.2) p.1 = true) :
    s.mwCommit req lo r ws = (s.commitAct lo r (s.storeWords lo ws)).getD (s.storeWords lo ws) := by
  have hstep : s.each ws.zipIdx (fun p t => t.resStep req (lo + 4 * p.2) p.1) = s :=
    State.each_fixed (fun p hp => State.resStep_keeps s req _ _ (hres p hp))
  rw [State.mwCommit, hstep, State.storeWords]

/-- A register of the blocks of GW_JIG, by its word. -/
theorem jigWord_range {e k : Nat} (he : e < 4096) (hk : k < 4) :
    0x1800000 ≤ R.GW_JIG_LO e + 4 * k ∧ R.GW_JIG_LO e + 4 * k < 0x1A00000 := by
  simp only [R.GW_JIG_LO]
  omega

theorem jigHi_eq (e : Nat) : R.GW_JIG_HI e = R.GW_JIG_LO e + 4 * 3 := by
  simp only [R.GW_JIG_HI, R.GW_JIG_LO]
  omega

/-- The words of entry `e` that a write of `v` to the last one commits, no other being held. -/
def State.jigWords (s : State) (e : Nat) (v : Word) : List Word := (List.range 3).map (fun k => s.rd (R.GW_JIG_LO e + 4 * k)) ++ [v]

/-- The first three words of entry `e` stored as they are. -/
def State.jigLow (s : State) (e : Nat) : State :=
  s.each (List.range 3) (fun k t => t.store (R.GW_JIG_LO e + 4 * k) (s.rd (R.GW_JIG_LO e + 4 * k)))

/-- Entry `e` with `v` as its last word. -/
def State.jigStored (s : State) (e : Nat) (v : Word) : State := (s.jigLow e).store (R.GW_JIG_HI e) v

/-- Entry `e` committed with `v` as its last word. -/
def State.jigTaken (s : State) (e : Nat) (v : Word) : State := (s.jigStored e v).jigCommitted e

theorem State.storeWords_jigWords (s : State) (e : Nat) (v : Word) : s.storeWords (R.GW_JIG_LO e) (s.jigWords e v) = s.jigStored e v := by
  rw [State.jigStored, jigHi_eq]
  rfl

theorem State.rd_jigLow (s : State) (e a : Nat) : (s.jigLow e).rd a = s.rd a :=
  State.each_keeps (P := fun t => ∀ b, t.rd b = s.rd b) _ _ s (fun _ => rfl)
    (fun _ _ h b => (State.rd_store_of_eq (h _) b).trans (h b)) a

/-- The array of GW_JIG_HI. -/
def jigHiRow : Row := ⟨"GW_JIG_HI", 0x184000c, 0x10, 4096, 0, 1, 3, 4, 0, 0xffffffff, 0, 0, 0, 0, 0, false⟩

theorem rowOf_jigHi {e : Nat} (he : e < 4096) : rowOf (R.GW_JIG_HI e) = some jigHiRow :=
  (rowOf_jig (j := 0xc) he (by decide)).trans rfl

theorem State.jigHi_jigStored (s : State) {e : Nat} (he : e < 4096) (v : Word) : (s.jigStored e v).rd (R.GW_JIG_HI e) = v :=
  State.rd_store_whole (rowOf_jigHi he) rfl

/-- What the entry held is stored as it was: only its last word is new. -/
theorem Kept.jigStored (s : State) (e : Nat) (v : Word) : Kept s (s.jigStored e v) [R.GW_JIG_HI e] := by
  have hlow : Kept s (s.jigLow e) ([_] ++ [_] ++ [_]) := ((Kept.store _ _ _).trans (Kept.store _ _ _)).trans (Kept.store _ _ _)
  have hframe : Kept s (s.jigLow e) [] := ⟨fun a _ _ => s.rd_jigLow e a, hlow.2⟩
  exact hframe.trans (Kept.store _ _ v)

/-- The commit of entry `e` (R39, R247). -/
theorem State.mwCommit_jig {s : State} {req e : Nat} {v : Word} (hres : s.keepsRes (R.GW_JIG_HI e) v = true) :
    s.mwCommit req (R.GW_JIG_LO e) jigHiRow (s.jigWords e v) = s.jigTaken e v := by
  have hkeep : ∀ p ∈ (s.jigWords e v).zipIdx, s.keepsRes (R.GW_JIG_LO e + 4 * p.2) p.1 = true := by
    have hwords : (s.jigWords e v).zipIdx =
        (List.range 3).map (fun k => (s.rd (R.GW_JIG_LO e + 4 * k), k)) ++ [(v, 3)] := rfl
    intro p hp
    rw [hwords, List.mem_append] at hp
    rcases hp with hlow | hlast
    · obtain ⟨k, -, rfl⟩ := List.mem_map.mp hlow
      exact s.keepsRes_rd _
    · rw [List.mem_singleton.mp hlast, ← jigHi_eq]
      exact hres
  have hindex : jigHiRow.at1 (R.GW_JIG_LO e + 4 * jigHiRow.mwIdx) = e := by
    simp only [Row.at1, jigHiRow, R.GW_JIG_LO, OfNat.ofNat_ne_zero, if_false]
    omega
  have hact : ∀ u, s.commitAct (R.GW_JIG_LO e) jigHiRow u = some (u.jigCommitted e) := fun u => by
    unfold State.commitAct
    rw [hindex]
    rfl
  rw [State.mwCommit_of_res hkeep, hact, Option.getD_some, State.storeWords_jigWords, State.jigTaken]

/-- A write of the last word of entry `e`, with no word held, commits it. -/
theorem State.mwWrite_jig {s : State} {req e : Nat} {v : Word} (he : e < 4096) (hhold : s.holding req 8 = none)
    (hres : s.keepsRes (R.GW_JIG_HI e) v = true) :
    s.mwWrite req jigHiRow (R.GW_JIG_HI e) v = (s.setHolding req 8 none).jigTaken e v := by
  have hregion : regionOf (R.GW_JIG_HI e) = 8 := by
    rw [jigHi_eq]
    exact regionOf_gw (jigWord_range he (by decide)).1 (jigWord_range he (by decide)).2
  have hlo : R.GW_JIG_HI e - 4 * jigHiRow.mwIdx = R.GW_JIG_LO e := by
    rw [jigHi_eq]
    exact Nat.add_sub_cancel _ _
  have hwords : (List.range 3).map (fun k => (Tab.find? ([] : Tab Word) k).getD (s.peek req (R.GW_JIG_LO e + 4 * k))) ++ [v] =
      (s.setHolding req 8 none).jigWords e v := by
    refine congrArg (· ++ [v]) (List.map_congr_left (fun k hk => ?_))
    obtain ⟨hlow, hhigh⟩ := jigWord_range he (Nat.lt_succ_of_lt (List.mem_range.mp hk))
    exact s.peek_gw req hlow hhigh
  have hres' : (s.setHolding req 8 none).keepsRes (R.GW_JIG_HI e) v = true := hres
  rw [← State.mwCommit_jig hres', ← hwords]
  unfold State.mwWrite
  simp only [hregion, hhold, hlo]
  rfl

theorem exec_jigEntryCommit {s : State} {req e : Nat} {v : Word} (he : e < 4096) (hadm : Admitted s req (R.GW_JIG_HI e) v)
    (hreq : req ≠ reqDma) (hhold : s.holding req 8 = none) :
    exec (.jigEntryCommit req e v) s =
      done s (((s.setHolding req 8 none).jigTaken e v).respond req false 0) := by
  obtain ⟨hload, hres⟩ := hadm
  have hrange := jigWord_range he (show 3 < 4 by decide)
  rw [← jigHi_eq] at hrange
  obtain ⟨hlow, hhigh⟩ := hrange
  have hregion : regionOf (R.GW_JIG_HI e) ≠ 12 := by
    rw [regionOf_gw hlow hhigh]
    decide
  have hunlock : R.GW_JIG_HI e ≠ R.GLB_UNLOCK := by
    simp only [R.GLB_UNLOCK]
    omega
  show execJigEntryCommit req e v s = _
  rw [execJigEntryCommit, Nat.mod_eq_of_lt he, State.rowWrite_eq_portWrite s req v hregion,
    State.portWrite_multiword (rowOf_jigHi he) (by decide) hload hreq hunlock rfl (guardedCmd_gw hlow hhigh) hregion,
    State.mwWrite_jig he hhold hres]

/-! What a commit leaves: BAD is clear, and the timer runs or not as the entry says. -/

theorem GwKept.jigTaken (s : State) (e : Nat) (v : Word) : GwKept s (s.jigTaken e v) [R.GW_JIG_HI e, R.GW_JIG_STS e] :=
  (GwKept.of_kept ((Kept.jigStored s e v).trans (Kept.p _ (R.GW_JIG_STS.BAD e) 0))).trans (.withGw _ _)

theorem jigHi_pass {e : Nat} (he : e < 4096) : R.GW_JIG_HI e ∉ passRegs := jigReg_pass (j := 0xc) (by decide) he

theorem State.jigHi_jigTaken (s : State) {e : Nat} (he : e < 4096) (v : Word) : (s.jigTaken e v).rd (R.GW_JIG_HI e) = v :=
  (State.rd_p_ne (s.jigStored e v) (R.GW_JIG_STS.BAD e) 0 (jigReg_ne_sts (j := 0xc) (by decide) he e)).trans (s.jigHi_jigStored he v)

theorem State.bad_jigTaken (s : State) (e : Nat) (v : Word) : (s.jigTaken e v).g (R.GW_JIG_STS.BAD e) = 0 :=
  State.g_p_fits (s.jigStored e v) (l := R.GW_JIG_STS.BAD e) 0 rfl

theorem State.jigTimed_jigStored (s : State) {e : Nat} (he : e < 4096) (v : Word) : (s.jigStored e v).jigTimed e = s.jigTimed e := by
  have hkept : (s.jigStored e v).g (R.GW_JIG_W1.TMO_SEL e) = s.g (R.GW_JIG_W1.TMO_SEL e) := by
    refine (Kept.jigStored s e v).g_eq ?_ (jigReg_pass (j := 4) (by decide) he)
    simp only [List.mem_singleton, R.GW_JIG_W1.TMO_SEL, R.GW_JIG_W1, R.GW_JIG_HI]
    omega
  rw [State.jigTimed, hkept, State.jigTimed]

theorem State.gw_jigTaken (s : State) {e : Nat} (he : e < 4096) (v : Word) :
    (s.jigTaken e v).gw = { s.gw with timer := s.gw.timer.set (fun _ => false) e (s.jigTimed e) } := by
  rw [← s.jigTimed_jigStored he v, ← (Kept.jigStored s e v).gw_eq]
  rfl

/-- A frame of what follows a change of a holding register excepts the requesters. -/
theorem GwKept.of_setHolding {s t : State} {l : List Nat} {req n : Nat} {h : Option Holding} (k : GwKept (s.setHolding req n h) t l) :
    Kept { s with gw := t.gw, reqs := t.reqs } t l := by
  have hreqs : t.reqs = (s.setHolding req n h).reqs := by rw [k.2.2]
  rw [hreqs]
  exact k

@[simp] theorem g_respond (s : State) (r : Nat) (e : Bool) (d : Word) (l : Loc) : (s.respond r e d).g l = s.g l := rfl

/-- An answer at the port leaves such a frame. -/
theorem Kept.passOn_respond_withGw {s t : State} {l : List Nat} (s0 : State) (h : Kept { s with gw := t.gw, reqs := t.reqs } t l) (r : Nat)
    (e : Bool) (d : Word) :
    Kept { s with gw := (State.passOn s0 (t.respond r e d)).gw, reqs := (State.passOn s0 (t.respond r e d)).reqs }
      (State.passOn s0 (t.respond r e d)) l := by
  rw [passOn_gw]
  exact Kept.passOn_answered (s := { s with gw := t.gw }) s0 h r e d

end Sys2Proof.Machine
end

section
/-! SUPPORT. The entries of CAN message authentication: their enabling, a verdict and a generation (R249-R252). -/

namespace Sys2Proof.Machine

/-! ### An entry's own state -/

theorem State.cmaOf_modCma_same (s : State) (a : Nat) (f : Cma → Cma) : (s.modCma a f).cmaOf a = f (s.cmaOf a) := Tab.get_set_same _ _ _ _

theorem State.cmaOf_modCma_ne (s : State) {a k : Nat} (f : Cma → Cma) (h : k ≠ a) : (s.modCma a f).cmaOf k = s.cmaOf k :=
  Tab.get_set_ne _ _ _ h

theorem cmaOf_passOn (s0 s : State) (a : Nat) : (State.passOn s0 s).cmaOf a = s.cmaOf a := by rw [State.cmaOf, passOn_gw, State.cmaOf]

theorem Kept.cmaOf_eq {s t : State} {l : List Nat} (h : Kept s t l) (a : Nat) : t.cmaOf a = s.cmaOf a := by
  rw [State.cmaOf, h.gw_eq, State.cmaOf]

theorem GwKept.modCma (s : State) (a : Nat) (f : Cma → Cma) : GwKept s (s.modCma a f) [] := GwKept.withGw s _

/-- A change of an entry is the entry that it leaves. -/
theorem State.modCma_congr {s : State} {a : Nat} {f g : Cma → Cma} (h : f (s.cmaOf a) = g (s.cmaOf a)) : s.modCma a f = s.modCma a g := by
  rw [State.modCma, h, State.modCma]

theorem cmaReg_pass {a j : Nat} (hj : j < 0x20) (ha : a < 256) : 0x1860000 + j + 0x20 * a ∉ passRegs := gwReg_pass (by omega) (by omega)

theorem cmaFresh_pass {a : Nat} (ha : a < 256) : R.GW_CMA_FRESH_LO a ∉ passRegs := cmaReg_pass (j := 8) (by decide) ha

theorem cmaFreshHi_pass {a : Nat} (ha : a < 256) : R.GW_CMA_FRESH_LO a + 4 ∉ passRegs :=
  gwReg_pass (by simp only [R.GW_CMA_FRESH_LO]; omega) (by simp only [R.GW_CMA_FRESH_LO]; omega)

/-! ### The enabling of a verify entry (R190, R249) -/

theorem exec_cmaEnable {s : State} {req a : Nat} {v : Word} (ha : a < 256) (hadm : Admitted s req (R.GW_CMA_CFG a) (v ||| 0x80000000)) :
    exec (.cmaEnable req a v) s = done s (s.cmaCfgWrite a (v ||| 0x80000000)) := by
  show execCmaEnable req a v s = _
  rw [execCmaEnable, Nat.mod_eq_of_lt ha, State.byPort_admitted s _ _ _ _ hadm]

/-- A verify entry's lengths are within their limits (R249). -/
def Cma.verifyOk (e : Cma) : Prop := e.gen = false ∧ 3 ≤ e.macb ∧ e.macb ≤ 8 ∧ e.fvb ≤ 4 ∧ e.size ≤ 64

/-- Entry `a` goes ACTIVE with HIGH at `h`. -/
def State.cmaOpened (s : State) (a h : Nat) : State := (s.wr64 (R.GW_CMA_FRESH_LO a) h).p (R.GW_CMA_STS.STATE a) cmaActive

/-- GW_CMA_CFG stands as written, and entry `a` has taken it. -/
def State.cmaSampled (s : State) (a : Nat) (w : Word) : State := (s.store (R.GW_CMA_CFG a) w).modCma a (fun _ => { cfg := w })

theorem GwKept.cmaSampled (s : State) (a : Nat) (w : Word) : GwKept s (s.cmaSampled a w) [R.GW_CMA_CFG a] :=
  (GwKept.of_kept (Kept.store s _ w)).trans (.modCma _ a _)

theorem State.fresh_cmaSampled (s : State) {a : Nat} (ha : a < 256) (w : Word) :
    (s.cmaSampled a w).rd64 (R.GW_CMA_FRESH_LO a) = s.rd64 (R.GW_CMA_FRESH_LO a) := by
  refine Kept.rd64_eq (GwKept.cmaSampled s a w) ?_ ?_ (cmaFresh_pass ha) (cmaFreshHi_pass ha)
  all_goals
    simp only [List.mem_singleton, R.GW_CMA_FRESH_LO, R.GW_CMA_CFG]
    omega

theorem State.storedHigh_cmaSampled (s : State) (a : Nat) (w : Word) (n : Nat) : (s.cmaSampled a w).storedHigh n = s.storedHigh n :=
  (Kept.store s (R.GW_CMA_CFG a) w).storedHigh_eq n

/-- A write of GW_CMA_CFG that sets EN of a verify entry enables it with HIGH no lower than the stored one. -/
theorem State.cmaCfgWrite_of_verify {s : State} {a : Nat} {w : Word} (ha : a < 256) (hoff : s.on (R.GW_CMA_CFG.EN a) = false)
    (hset : bit w.toNat 31 = true) (hok : ({ cfg := w } : Cma).verifyOk) :
    s.cmaCfgWrite a w = (s.cmaSampled a w).cmaOpened a (max (s.rd64 (R.GW_CMA_FRESH_LO a)) (s.storedHigh (256 + a))) := by
  obtain ⟨hgen, hmin, hmax, hfvb, hsize⟩ := hok
  rw [← s.fresh_cmaSampled ha w, ← s.storedHigh_cmaSampled a w]
  unfold State.cmaCfgWrite
  simp only [hoff, hset, hgen, Nat.not_lt.mpr hmin, Nat.not_lt.mpr hmax, Nat.not_lt.mpr hfvb, Nat.not_lt.mpr hsize, State.when,
    Bool.not_false, Bool.and_self, Bool.false_and, decide_false, Bool.or_self, Bool.false_eq_true, if_false, if_true]
  rfl

theorem Kept.cmaOpened (s : State) (a h : Nat) :
    Kept s (s.cmaOpened a h) [R.GW_CMA_FRESH_LO a, R.GW_CMA_FRESH_LO a + 4, R.GW_CMA_STS a] :=
  (Kept.wr64 s _ h).trans (Kept.p _ (R.GW_CMA_STS.STATE a) _)

theorem State.cmaState_cmaOpened (s : State) (a h : Nat) : (s.cmaOpened a h).cmaState a = cmaActive := State.g_p_fits _ cmaActive rfl

theorem State.fresh_cmaOpened (s : State) (a h : Nat) : (s.cmaOpened a h).rd64 (R.GW_CMA_FRESH_LO a) = h % 2 ^ 64 := by
  rw [State.cmaOpened, State.rd64_p_ne, State.rd64_wr64_same]
  all_goals
    simp only [R.GW_CMA_FRESH_LO, R.GW_CMA_STS.STATE, R.GW_CMA_STS]
    omega

/-! ### Verdicts (R250, R251) -/

section
variable {s : State} {n a : Nat} {j : Job} (hjob : s.jobOn n = some j)
include hjob

theorem State.cmaJobDone_of_verify (huser : j.user = .canVerify a) : s.cmaJobDone n false = (s.endJob n j).cmaVerdict a j.key := by
  unfold State.cmaJobDone
  simp only [hjob, huser]

theorem State.cmaJobDone_of_generate {f : Nat} (huser : j.user = .canGenerate a f) :
    s.cmaJobDone n true = (s.endJob n j).cmaGenerated a f j.key := by
  unfold State.cmaJobDone
  simp only [hjob, huser]

end

/-- The MAC of entry `e` over freshness `f`, data `d` and the identifier word `w0` (R250). -/
def Cma.mac (e : Cma) (key : List Byte) (id : Nat) (w0 : Word) (d : List Byte) (f : Nat) : List Byte :=
  (cmac key (cmaInput id w0 (slice d 0 e.plen) f)).take e.macb

/-- The frame that waits at entry `a`, the only one, has a MAC that matches: HIGH and PASS are set and the frame goes on. -/
theorem State.cmaVerdict_of_match {s : State} {a : Nat} {x : GwIn} {key : List Byte} (hbusy : (s.cmaOf a).busy = true)
    (hver : (s.cmaOf a).ver = [x])
    (hmac : (s.cmaOf a).mac key (s.g (R.GW_CMA_ID.DATA_ID a)) x.f.w0 x.f.data (s.cmaOf a).f =
      slice x.f.data ((s.cmaOf a).plen + (s.cmaOf a).fvb) (s.cmaOf a).macb) :
    s.cmaVerdict a key = (((((s.modCma a (fun y => { y with busy := false, ver := [] })).wr64 (R.GW_CMA_FRESH_LO a) (s.cmaOf a).f).p
      (R.GW_CMA_STS.PASS a) 1).p (R.GW_CMA_STS.SEQ a) x.seq).bump (R.GW_CMA_PASS_LO x.can)).gwGo x := by
  unfold Cma.mac at hmac
  unfold State.cmaVerdict
  simp only [hbusy, hver, hmac, if_true]
  rfl

/-! ### Generations (R250, R252) -/

/-- The object of generate entry `a` with freshness `f`, its MAC and padding in place, and the generation counted. -/
def State.cmaWritten (s : State) (a f : Nat) (key : List Byte) : State :=
  let e := s.cmaOf a
  let old := s.txoData e.can e.obj
  let len := max e.size (s.g (R.CAN_TXO_W1.LEN e.can e.obj))
  (s.setTxoData e.can e.obj (slice old 0 e.plen ++ beBytes e.fvb f ++
    e.mac key (s.g (R.GW_CMA_ID.DATA_ID a)) (s.rd (R.CAN_TXO_W0 e.can e.obj)) old f ++ List.replicate (len - e.size) 0 ++
    old.drop len)).bump (R.GW_CMA_GEN_LO e.can)

theorem State.cmaOf_cmaWritten (s : State) (a f : Nat) (key : List Byte) (k : Nat) : (s.cmaWritten a f key).cmaOf k = s.cmaOf k :=
  ((Kept.setTxoData s _ _ _).trans (Kept.bump _ _)).cmaOf_eq k

/-- An entry whose last job has left the object with the words `ws`. -/
def Cma.authentic (e : Cma) (ws : List Word) : Cma := { e with busy := false, more := 0, auth := some ws }

/-- The job of entry `a` ends with no change of its object waiting. -/
theorem State.cmaGenerated_of_last {s : State} {a f : Nat} {key : List Byte} (hbusy : (s.cmaOf a).busy = true) (hf : (s.cmaOf a).f = f)
    (hmore : (s.cmaOf a).more = 0) :
    s.cmaGenerated a f key = (s.cmaWritten a f key).modCma a
      (fun y => y.authentic ((s.cmaWritten a f key).txo (s.cmaOf a).can (s.cmaOf a).obj)) := by
  have hsame : ∀ ws : List Word, (s.cmaWritten a f key).modCma a (fun y => { y with busy := false, more := y.more - 1, auth := some ws }) =
      (s.cmaWritten a f key).modCma a (fun y => y.authentic ws) := fun ws =>
    State.modCma_congr (by rw [State.cmaOf_cmaWritten, hmore, Cma.authentic])
  rw [← hsame]
  unfold State.cmaGenerated
  simp only [hbusy, hf, hmore, Bool.not_true, bne_self_eq_false, Bool.or_self, Bool.false_eq_true, if_false, if_true]
  rfl

end Sys2Proof.Machine

open Sys2Proof Sys2Proof.Machine

/-- Settles O34: a trigger of one entry is that entry's move; an expiry without a substitute only shows, counts and reports; a commit
stores the last word of its entry and nothing new in the others; and an authentication entry's enabling, verdict and generation
are each the one branch of its meaning that the entry selects. -/
theorem jigAndCanAuthentication : Obligations.JigAndCanAuthentication := by
  unfold Obligations.JigAndCanAuthentication
  refine ⟨?move, ?timeout, ?commit, ?enable, ?verdict, ?generation⟩
  case move =>
    intro s u x rest e ps pd htrig hone he hsrc hdst hin hset hu hcma
    subst hu
    exact congrArg (done s) (State.jigRun_of_one htrig hone he hsrc hdst hin hset hcma)
  case timeout =>
    intro s e he htimer hvalid hsub hsave
    have hexec : exec (.jigTimeout e) s = done s (s.jigExpire e) := congrArg (fun k => done s (s.jigExpire k)) (Nat.mod_eq_of_lt he)
    obtain ⟨hshown, hevent⟩ := s.g_jigTimedOut he
    have hrest := Kept.jigTimedOut s e
    rw [hexec, State.jigExpire_of_plain he htimer hvalid hsub]
    refine ⟨_, rfl, ?_, ?_, ?_, ?_, ?_⟩
    · rw [g_passOn _ _ (jigSts_pass he), hshown]
    · rw [g_passOn _ _ (by decide), hevent]
    · rw [rd64_passOn _ _ (by decide) (by decide), State.rd64_jigTimedOut he hsave]
    · rw [passOn_gw, hrest.gw_eq]
      rfl
    · have hgw : GwKept s (s.jigTimedOut e) ([] ++ [R.GW_JIG_STS e, R.GW_JIG_TMO_LO, R.GW_JIG_TMO_LO + 4, R.GW_EVT]) :=
        (GwKept.withGw s _).trans (.of_kept hrest)
      refine GwKept.passOn s (hgw.mono (fun a ha => .inl ?_))
      simp only [List.nil_append, List.mem_cons, List.not_mem_nil, or_false] at ha ⊢
      tauto
  case commit =>
    intro s req e v he hadm hreq hhold
    refine ⟨_, exec_jigEntryCommit he hadm hreq hhold, ?_, ?_, ?_, resp_passOn_respond s _ req false 0,
      Kept.passOn_respond_withGw s (GwKept.of_setHolding (.jigTaken _ e v)) req false 0⟩
    · rw [rd_passOn _ _ (jigHi_pass he), rd_respond, State.jigHi_jigTaken _ he]
    · rw [g_passOn _ _ (jigSts_pass he), g_respond, State.bad_jigTaken]
    · rw [passOn_gw]
      exact (s.setHolding req 8 none).gw_jigTaken he v
  case enable =>
    intro s req a v w ha hw hadm hoff hgen hmin hmax hfvb hsize
    subst hw
    have hexec := exec_cmaEnable ha hadm
    rw [State.cmaCfgWrite_of_verify ha hoff (bit_or_top v) ⟨hgen, hmin, hmax, hfvb, hsize⟩] at hexec
    have hopened := Kept.cmaOpened (s.cmaSampled a (v ||| 0x80000000)) a (max (s.rd64 (R.GW_CMA_FRESH_LO a)) (s.storedHigh (256 + a)))
    refine ⟨_, hexec, ?_, ?_, ?_, ?_, ?_⟩
    · rw [cmaOf_passOn, hopened.cmaOf_eq, State.cmaSampled, State.cmaOf_modCma_same]
    · rw [State.cmaState, g_passOn _ _ (cmaReg_pass (j := 0x10) (by decide) ha)]
      exact State.cmaState_cmaOpened _ a _
    · rw [rd64_passOn _ _ (cmaFresh_pass ha) (cmaFreshHi_pass ha), State.fresh_cmaOpened]
    · intro k hk
      rw [cmaOf_passOn, hopened.cmaOf_eq, State.cmaSampled, State.cmaOf_modCma_ne _ _ hk, (Kept.store s _ _).cmaOf_eq]
    · refine GwKept.passOn s (((GwKept.cmaSampled s a _).trans (.of_kept hopened)).mono (fun b hb => .inl ?_))
      simp only [List.mem_append, List.mem_cons, List.not_mem_nil, or_false] at hb ⊢
      tauto
  case verdict =>
    intro s u n a j x hjob huser hu hbusy hver hmac
    subst hu
    exact congrArg (done s) ((State.cmaJobDone_of_verify hjob huser).trans (State.cmaVerdict_of_match hbusy hver hmac))
  case generation =>
    intro s u v n a f len j e hjob huser hu he hbusy hf hmore hlen hv
    subst hu he hlen hv
    exact congrArg (done s) ((State.cmaJobDone_of_generate hjob huser).trans (State.cmaGenerated_of_last hbusy hf hmore))

end

section
/-! SUPPORT. The registers of the time region, the own states of time bases and generators, and the enable fields of a register of
the region (R256-R281, R508). -/

namespace Sys2Proof.Machine

/-! ### Registers of the time region -/

theorem passRegs_outside_time : ∀ a ∈ passRegs, a < 0x1A00000 ∨ 0x1C00000 ≤ a := by decide

/-- No register of the time region is one that passing events on may change. -/
theorem timeReg_pass {a : Nat} (hlo : 0x1A00000 ≤ a) (hhi : a < 0x1C00000) : a ∉ passRegs := by
  intro h
  have := passRegs_outside_time _ h
  omega

/-- The register of an array of the region, by its base and stride. -/
theorem timeArray_pass {j w n : Nat} (hlo : 0x1A00000 ≤ j) (hhi : j + w * n < 0x1C00000) : j + w * n ∉ passRegs :=
  timeReg_pass (by omega) hhi

theorem regionOf_time {a : Nat} (hlo : 0x1A00000 ≤ a) (hhi : a < 0x1C00000) : regionOf a = 9 :=
  regionOf_eq (fun b hb => ((by decide : ∀ b ∈ regionBases.take 10, b ≤ 0x1A00000) b hb).trans hlo)
    (fun b hb => Nat.lt_of_lt_of_le hhi ((by decide : ∀ b ∈ regionBases.drop 10, 0x1C00000 ≤ b) b hb)) (by decide)

theorem tbCfg_pass {n : Nat} (hn : n < 4) : R.TB_CFG n ∉ passRegs := timeArray_pass (by decide) (by omega)

theorem tbSts_pass {n : Nat} (hn : n < 4) : R.TB_STS n ∉ passRegs := timeArray_pass (by decide) (by omega)

theorem tbCmd_pass {n : Nat} (hn : n < 4) : R.TB_CMD n ∉ passRegs := timeArray_pass (by decide) (by omega)

theorem tgSts_pass {g : Nat} (hg : g < 32) : R.TG_STS g ∉ passRegs := timeArray_pass (by decide) (by omega)

/-- A status register of a generator stands above those of the time bases. -/
theorem tgSts_ne {a g : Nat} (ha : a < 0x1A10000) : R.TG_STS g ≠ a := by
  simp only [R.TG_STS]
  omega

/-! ### Enable fields (R508) -/

/-- A one-bit field of RW bits is on where the word written to it has its bit. -/
theorem State.on_store (s : State) {a b : Nat} {v : Word} {r : Row} (hrow : rowOf a = some r)
    (hrw : (W (r.rw ||| r.rwg)).getLsbD b = true) : (s.store a v).on ⟨a, b, 1⟩ = bit v.toNat b := by
  have hfield : (s.store a v).g ⟨a, b, 1⟩ = (s.wr a v).g ⟨a, b, 1⟩ := by
    rw [State.g_store (l := ⟨a, b, 1⟩) hrow (fun i hi => by rwa [Nat.lt_one_iff.mp hi]), State.g_wr_same s ⟨a, b, 1⟩ v]
  rw [State.on, hfield]
  exact ((s.wr a v).on_eq_bit a b).trans (by rw [State.rd_wr_same])

/-- A write that gives an enable field the value it has does nothing to it. -/
theorem State.enAct_same {s : State} {req a b : Nat} {v : Word} (h : bit v.toNat b = s.on ⟨a, b, 1⟩) : s.enAct req a b v = .none := by
  have hwas : bit (s.rd a).toNat b = bit v.toNat b := (s.on_eq_bit a b).symm.trans h.symm
  unfold State.enAct
  rw [hwas]
  cases bit v.toNat b <;> rfl

/-! ### A time base's own state -/

@[simp] theorem State.g_modTb (s : State) (n : Nat) (l : Loc) (f : TimeBase → TimeBase) : (s.modTb n f).g l = s.g l := rfl

@[simp] theorem State.tb_modTb_same (s : State) (n : Nat) (f : TimeBase → TimeBase) : (s.modTb n f).tb n = f (s.tb n) :=
  Tab.get_set_same _ _ _ _

theorem State.tb_modTb_ne (s : State) {n k : Nat} (f : TimeBase → TimeBase) (h : k ≠ n) : (s.modTb n f).tb k = s.tb k :=
  Tab.get_set_ne _ _ _ h

theorem Kept.tb_eq {s t : State} {l : List Nat} (h : Kept s t l) (n : Nat) : t.tb n = s.tb n := by
  rw [State.tb, State.tb, h.2.2]

@[simp] theorem tb_passOn (s0 s : State) (n : Nat) : (State.passOn s0 s).tb n = s.tb n := (Quiet.passOn s0 s).tb_eq n

/-- A frame of registers stands with the same change of a time base on both sides. -/
theorem Kept.modTb {s t : State} {l : List Nat} (h : Kept s t l) (n : Nat) (f : TimeBase → TimeBase) :
    Kept (s.modTb n f) (t.modTb n f) l := by
  have htb := h.tb_eq n
  obtain ⟨hreg, hq, hrest⟩ := h
  refine ⟨hreg, hq, ?_⟩
  simp only [State.modTb, htb]
  rw [hrest]

/-- What follows a change of one time base with registers alone leaves that change and a frame that excepts the time bases. -/
theorem Kept.of_modTb {s t : State} {l : List Nat} {n : Nat} {f : TimeBase → TimeBase} (h : Kept (s.modTb n f) t l) :
    t.tb n = f (s.tb n) ∧ (∀ k, k ≠ n → t.tb k = s.tb k) ∧ Kept { s with tbs := t.tbs } t l := by
  have htbs : t.tbs = (s.modTb n f).tbs := by rw [h.2.2]
  refine ⟨by rw [h.tb_eq, State.tb_modTb_same], fun k hk => by rw [h.tb_eq, State.tb_modTb_ne s f hk], ?_⟩
  rw [htbs]
  exact h

/-! ### A generator's own state -/

@[simp] theorem State.g_modGen (s : State) (g : Nat) (l : Loc) (f : Gen → Gen) : (s.modGen g f).g l = s.g l := rfl

@[simp] theorem State.gen_modGen_same (s : State) (g : Nat) (f : Gen → Gen) : (s.modGen g f).gen g = f (s.gen g) :=
  Tab.get_set_same _ _ _ _

theorem State.gen_modGen_ne (s : State) {g k : Nat} (f : Gen → Gen) (h : k ≠ g) : (s.modGen g f).gen k = s.gen k :=
  Tab.get_set_ne _ _ _ h

theorem Kept.gen_eq {s t : State} {l : List Nat} (h : Kept s t l) (g : Nat) : t.gen g = s.gen g := by
  rw [State.gen, State.gen, h.2.2]

@[simp] theorem gen_passOn (s0 s : State) (g : Nat) : (State.passOn s0 s).gen g = s.gen g := (Quiet.passOn s0 s).gen_eq g

/-- The running generators are those of a state with the same generators and the same RUN fields. -/
theorem State.gensWhere_congr {s t : State} (p : Gen → Bool) (hgen : ∀ g, t.gen g = s.gen g)
    (hrun : ∀ g, g < 32 → t.rd (R.TG_STS g) = s.rd (R.TG_STS g)) : t.gensWhere p = s.gensWhere p := by
  refine List.filter_congr (fun g hg => ?_)
  rw [State.genRun, State.genRun, State.on, State.on, State.g, State.g]
  simp only [R.TG_STS.RUN, hrun _ (List.mem_range.mp hg), hgen]

theorem Kept.gensWhere_eq {s t : State} {l : List Nat} (h : Kept s t l) (hl : ∀ a ∈ l, a < 0x1A10000) (p : Gen → Bool) :
    t.gensWhere p = s.gensWhere p :=
  State.gensWhere_congr p h.gen_eq (fun _ hg => h.rd_eq (fun hm => tgSts_ne (hl _ hm) rfl) (tgSts_pass hg))

end Sys2Proof.Machine
end

section
/-! SUPPORT. Time bases: what a write of TB_CFG starts and stops, the commit of TB_INC, and the commands of TB_CMD with what a step
leaves (R257-R264). -/

namespace Sys2Proof.Machine

/-! ### TB_CFG (R259, R262, R508) -/

theorem rowOf_tbCfg {n : Nat} (hn : n < 4) : ∃ r, rowOf (R.TB_CFG n) = some r ∧ r.rw ||| r.rwg = 0xfe000000 := by
  interval_cases n <;> exact ⟨_, rfl, rfl⟩

/-- EN, SRV_EN and SRC read what a write of TB_CFG gave them. -/
theorem State.tbCfg_store (s : State) {n : Nat} (hn : n < 4) (v : Word) :
    (s.store (R.TB_CFG n) v).on (R.TB_CFG.EN n) = bit v.toNat 31 ∧ (s.store (R.TB_CFG n) v).on (R.TB_CFG.SRV_EN n) = bit v.toNat 30 ∧
      (s.store (R.TB_CFG n) v).g (R.TB_CFG.SRC n) = fieldOf v (R.TB_CFG.SRC n).lo (R.TB_CFG.SRC n).wd := by
  obtain ⟨r, hrow, hrw⟩ := rowOf_tbCfg hn
  refine ⟨s.on_store hrow (by rw [hrw]; decide), s.on_store hrow (by rw [hrw]; decide), State.g_store (l := R.TB_CFG.SRC n) hrow ?_⟩
  rw [hrw]
  exact (by decide : ∀ i, i < 2 → (W 0xfe000000).getLsbD (28 + i) = true)

theorem tbCfg_ne_sts (n : Nat) : R.TB_CFG n ≠ R.TB_STS n := by
  simp only [R.TB_CFG, R.TB_STS]
  omega

theorem tbCfg_ne_cmd (n : Nat) : R.TB_CFG n ≠ R.TB_CMD n := by
  simp only [R.TB_CFG, R.TB_CMD]
  omega

theorem tbCfg_off_sts_cmd (n : Nat) : R.TB_CFG n ∉ [R.TB_STS n, R.TB_CMD n] := by simp [tbCfg_ne_sts, tbCfg_ne_cmd]

section
variable {s : State} {req n : Nat} {v : Word}

theorem State.tbCfgWrite_rise (hoff : s.on (R.TB_CFG.EN n) = false) (hset : bit v.toNat 31 = true) (hdef : s.deferred req = false)
    (hsrv : bit v.toNat 30 = s.on (R.TB_CFG.SRV_EN n)) : s.tbCfgWrite req n v = (s.store (R.TB_CFG n) v).tbEnable n := by
  rw [State.tbCfgWrite, State.enAct_rise hoff hset hdef, State.enAct_same hsrv]
  rfl

theorem State.tbCfgWrite_fall (hon : s.enOn (R.TB_CFG.EN n) = true) (hclr : bit v.toNat 31 = false)
    (hsrv : bit v.toNat 30 = s.on (R.TB_CFG.SRV_EN n)) : s.tbCfgWrite req n v = (s.store (R.TB_CFG n) v).tbDisable n := by
  rw [State.tbCfgWrite, State.enAct_fall hon hclr, State.enAct_same hsrv]
  rfl

theorem State.tbCfgWrite_servo (hen : bit v.toNat 31 = s.on (R.TB_CFG.EN n)) (hoff : s.on (R.TB_CFG.SRV_EN n) = false)
    (hset : bit v.toNat 30 = true) (hdef : s.deferred req = false) :
    s.tbCfgWrite req n v = (s.store (R.TB_CFG n) v).srvEnable n := by
  rw [State.tbCfgWrite, State.enAct_same hen, State.enAct_rise hoff hset hdef]
  rfl

theorem exec_tbEnable (hn : n < 4) (hadm : Admitted s req (R.TB_CFG n) (v ||| 0x80000000)) :
    exec (.tbEnable req n v) s = done s (s.tbCfgWrite req n (v ||| 0x80000000)) := by
  show execTbEnable req n v s = _
  rw [execTbEnable, Nat.mod_eq_of_lt hn, State.byPort_admitted s _ _ _ _ hadm]

theorem exec_tbDisable (hn : n < 4) (hadm : Admitted s req (R.TB_CFG n) (v &&& 0x7FFFFFFF)) :
    exec (.tbDisable req n v) s = done s (s.tbCfgWrite req n (v &&& 0x7FFFFFFF)) := by
  show execTbDisable req n v s = _
  rw [execTbDisable, Nat.mod_eq_of_lt hn, State.byPort_admitted s _ _ _ _ hadm]

theorem exec_servoEnable (hn : n < 4) (hadm : Admitted s req (R.TB_CFG n) (v ||| 0x40000000)) :
    exec (.servoEnable req n v) s = done s (s.tbCfgWrite req n (v ||| 0x40000000)) := by
  show execServoEnable req n v s = _
  rw [execServoEnable, Nat.mod_eq_of_lt hn, State.byPort_admitted s _ _ _ _ hadm]

end

theorem bit_or_srvEn (v : Word) : bit (v ||| 0x40000000).toNat 30 = true := by
  have h : (0x40000000 : Word).getLsbD 30 = true := rfl
  simp only [bit_eq_testBit, BitVec.testBit_toNat, BitVec.getLsbD_or, h, Bool.or_true]

/-! ### The stop of a time base (R259, R260, R264) -/

/-- A time base without a slew. -/
def TimeBase.unslewed (b : TimeBase) : TimeBase := { b with slew := none }

/-- Time base `n` with its slew given up and its servo OFF. -/
def State.tbQuiet (s : State) (n : Nat) : State := (s.modTb n TimeBase.unslewed).setSrv n srvOff

/-- Time base `n` stopped: the command of a slew that was in progress shows failed. -/
def State.tbHalted (s : State) (n : Nat) : State :=
  (if (s.tb n).slew.isSome then (s.tbQuiet n).setStat (R.TB_CMD n) statFailed else s.tbQuiet n).p (R.TB_STS.RUN n) 0

theorem Kept.tbHalted (s : State) (n : Nat) : Kept (s.modTb n TimeBase.unslewed) (s.tbHalted n) [R.TB_STS n, R.TB_CMD n] := by
  have hquiet : Kept (s.modTb n TimeBase.unslewed) (s.tbQuiet n) [R.TB_STS n] := Kept.p _ (R.TB_STS.SRV n) srvOff
  have hrun := fun t : State => Kept.p t (R.TB_STS.RUN n) 0
  unfold State.tbHalted
  split
  · refine ((hquiet.trans (Kept.setStat _ (R.TB_CMD n) statFailed)).trans (hrun _)).mono (fun a ha => .inl ?_)
    simp only [List.mem_append, List.mem_cons, List.not_mem_nil, or_false, R.TB_STS.RUN] at ha ⊢
    tauto
  · refine (hquiet.trans (hrun _)).mono (fun a ha => .inl ?_)
    simp only [List.mem_append, List.mem_cons, List.not_mem_nil, or_false, R.TB_STS.RUN] at ha ⊢
    tauto

/-- A time base on which no generator runs stops alone. -/
theorem State.tbDisable_of_none {s : State} {n : Nat} (hn : n < 4) (h : s.gensWhere (fun q => q.tb == n) = []) :
    s.tbDisable n = s.tbHalted n := by
  have hlist : ∀ a ∈ [R.TB_STS n, R.TB_CMD n], a < 0x1A10000 := by
    simp only [List.mem_cons, List.not_mem_nil, or_false, forall_eq_or_imp, forall_eq, R.TB_STS, R.TB_CMD]
    omega
  have hnone : (s.tbHalted n).gensWhere (fun q => q.tb == n) = [] := ((Kept.tbHalted s n).gensWhere_eq hlist _).trans h
  have hstop : s.tbDisable n = (s.tbHalted n).each ((s.tbHalted n).gensWhere (fun q => q.tb == n))
      (fun g u => if u.genRun g then (u.tgErr g).dropFollowers g else u) := rfl
  rw [hstop, hnone]
  rfl

theorem tbCmd_ne_sts (n k : Nat) : R.TB_CMD n ≠ R.TB_STS k := by
  simp only [R.TB_CMD, R.TB_STS]
  omega

/-- What TB_STS and TB_CMD show of a time base that has stopped. -/
theorem State.g_tbHalted (s : State) (n : Nat) :
    (s.tbHalted n).g (R.TB_STS.RUN n) = 0 ∧ (s.tbHalted n).g (R.TB_STS.SRV n) = 0 ∧
      (s.tbHalted n).stat (R.TB_CMD n) = if (s.tb n).slew.isSome then statFailed else s.stat (R.TB_CMD n) := by
  have hsrv : (s.tbQuiet n).g (R.TB_STS.SRV n) = 0 := State.g_p_fits _ 0 rfl
  have hstat : (s.tbQuiet n).stat (R.TB_CMD n) = s.stat (R.TB_CMD n) := State.g_p_ne _ _ _ _ (tbCmd_ne_sts n n)
  unfold State.tbHalted
  refine ⟨State.g_p_fits _ 0 rfl, ?_, ?_⟩
  · rw [State.g_p_apart _ _ _ rfl rfl]
    split
    · exact (State.g_p_ne _ _ _ _ (tbCmd_ne_sts n n).symm).trans hsrv
    · exact hsrv
  · refine (State.g_p_ne _ _ _ _ (tbCmd_ne_sts n n)).trans ?_
    split
    · exact State.g_p_fits _ statFailed rfl
    · exact hstat

/-! ### SRV_EN (R262, R264) -/

/-- A time base whose servo samples its configuration at SRV_EN. -/
def TimeBase.served (b : TimeBase) (src idx : Nat) (step : Bool) : TimeBase :=
  { b with src := src, idx := idx, stepEn := step, first := true, good := 0 }

/-- A servo referenced to PPS_IN or to a gPTP domain starts in ACQUIRE. -/
theorem State.srvEnable_of_direct {s : State} {n : Nat} (hsrc : s.g (R.TB_CFG.SRC n) ≤ 1) :
    s.srvEnable n = (s.modTb n (fun b => b.served (s.g (R.TB_CFG.SRC n)) (s.g (R.TB_CFG.SRC_IDX n)) (s.on (R.TB_CFG.STEP_EN n)))).setSrv n
      srvAcquire := by
  unfold State.srvEnable
  exact if_neg (by omega)

/-! ### TB_INC (R257, R258) -/

/-- The array of TB_INC_HI. -/
def tbIncHiRow : Row := ⟨"TB_INC_HI", 0x1a00018, 0x100, 4, 0, 1, 1, 2, 2, 0xff, 0, 0, 0, 0, 0xffffff00, false⟩

theorem rowOf_tbIncHi {n : Nat} (hn : n < 4) : rowOf (R.TB_INC_HI n) = some tbIncHiRow := by interval_cases n <;> rfl

theorem tbIncHi_eq (n : Nat) : R.TB_INC_HI n = R.TB_INC_LO n + 4 := by
  simp only [R.TB_INC_HI, R.TB_INC_LO]
  omega

theorem tbIncHi_sub (n : Nat) : R.TB_INC_HI n - 4 = R.TB_INC_LO n := by rw [tbIncHi_eq, Nat.add_sub_cancel]

theorem tbInc_pass {n : Nat} (hn : n < 4) : R.TB_INC_LO n ∉ passRegs ∧ R.TB_INC_HI n ∉ passRegs :=
  ⟨timeArray_pass (by decide) (by omega), timeArray_pass (by decide) (by omega)⟩

/-- The increment stands after an answer and the events passed on. -/
theorem tbInc_passOn_respond (s0 s : State) {n : Nat} (hn : n < 4) (r : Nat) (e : Bool) (d : Word) :
    (State.passOn s0 (s.respond r e d)).tbInc n = s.tbInc n := by
  obtain ⟨hlo, hhi⟩ := tbInc_pass hn
  rw [State.tbInc, g_passOn _ _ hhi, rd_passOn _ _ hlo, g_respond, rd_respond, State.tbInc]

/-- A frame of registers after a change of a holding register excepts the requesters. -/
theorem Kept.of_setHolding {s t : State} {l : List Nat} {req n : Nat} {h : Option Holding} (k : Kept (s.setHolding req n h) t l) :
    Kept { s with reqs := t.reqs } t l := by
  have hreqs : t.reqs = (s.setHolding req n h).reqs := by rw [k.2.2]
  rw [hreqs]
  exact k

/-- TB_INC_LO shows what the map stores (R47). -/
theorem State.peek_tbIncLo (s : State) (req : Nat) {n : Nat} (hn : n < 4) : s.peek req (R.TB_INC_LO n) = s.rd (R.TB_INC_LO n) := by
  interval_cases n <;> rfl

/-- TB_INC of time base `n` set to `hi` whole ns and the fraction `lo`. -/
def State.tbIncSet (s : State) (n hi : Nat) (lo : Word) : State := (s.wr (R.TB_INC_LO n) lo).p (R.TB_INC_HI.INT n) hi

theorem Kept.tbIncSet (s : State) (n hi : Nat) (lo : Word) : Kept s (s.tbIncSet n hi lo) [R.TB_INC_LO n, R.TB_INC_HI n] :=
  (Kept.wr s (R.TB_INC_LO n) lo).trans (Kept.p _ (R.TB_INC_HI.INT n) hi)

theorem State.tbInc_tbIncSet (s : State) (n : Nat) {hi : Nat} (lo : Word) (hhi : hi < 256) :
    (s.tbIncSet n hi lo).tbInc n = hi * 4294967296 + lo.toNat := by
  have hint : (s.tbIncSet n hi lo).g (R.TB_INC_HI.INT n) = hi :=
    (State.g_p_fits _ hi rfl).trans (Nat.mod_eq_of_lt (show hi < 2 ^ 8 from hhi))
  have hlo : (s.tbIncSet n hi lo).rd (R.TB_INC_LO n) = lo := by
    rw [State.tbIncSet, State.rd_p_ne, State.rd_wr_same]
    simp only [R.TB_INC_LO, R.TB_INC_HI.INT, R.TB_INC_HI]
    omega
  rw [State.tbInc, hint, hlo]

/-- Without ADJ the effective increment is TB_INC. -/
theorem tbRaw_zero (inc : Nat) : tbRaw inc 0 = inc := by
  rw [tbRaw, Int.add_zero, Int.mul_ediv_cancel _ (by decide)]

/-- A commit within the range, with no ADJ in force, sets the increment and clamps nothing (R258). -/
theorem State.tbIncCommit_of_range {s : State} {n : Nat} {lo hi : Word} (hadj : (s.tb n).adj = 0)
    (hmin : tbEMin ≤ ((fieldOf hi 0 8 * 4294967296 + lo.toNat : Nat) : Int))
    (hmax : ((fieldOf hi 0 8 * 4294967296 + lo.toNat : Nat) : Int) ≤ tbEMax) :
    s.tbIncCommit n lo hi = s.tbIncSet n (fieldOf hi 0 8) lo := by
  have hinc := s.tbInc_tbIncSet n lo (hi := fieldOf hi 0 8) (Nat.mod_lt _ (by decide))
  have hadj' : ((s.tbIncSet n (fieldOf hi 0 8) lo).tb n).adj = 0 := by rw [(Kept.tbIncSet s n _ lo).tb_eq, hadj]
  have hraw : tbRaw ((s.tbIncSet n (fieldOf hi 0 8) lo).tbInc n) ((s.tbIncSet n (fieldOf hi 0 8) lo).tb n).adj =
      ((fieldOf hi 0 8 * 4294967296 + lo.toNat : Nat) : Int) := by
    rw [hinc, hadj', tbRaw_zero]
  have hunclamped : (s.tbIncSet n (fieldOf hi 0 8) lo).tbClamp n = s.tbIncSet n (fieldOf hi 0 8) lo := by
    unfold State.tbClamp
    rw [hraw]
    exact if_neg (by omega)
  unfold State.tbIncCommit
  exact (if_neg (by omega)).trans hunclamped

section
variable {s : State} {req n : Nat} {v : Word} (hn : n < 4)
  (hmin : tbEMin ≤ ((fieldOf v 0 8 * 4294967296 + (s.rd (R.TB_INC_LO n)).toNat : Nat) : Int))
  (hmax : ((fieldOf v 0 8 * 4294967296 + (s.rd (R.TB_INC_LO n)).toNat : Nat) : Int) ≤ tbEMax)
include hn hmin hmax

/-- The commit of TB_INC with its lower word as it stands (R39, R258). -/
theorem State.mwCommit_tbInc (hadj : (s.tb n).adj = 0) (hres : s.keepsRes (R.TB_INC_HI n) v = true) :
    s.mwCommit req (R.TB_INC_LO n) tbIncHiRow [s.rd (R.TB_INC_LO n), v] = s.tbIncSet n (fieldOf v 0 8) (s.rd (R.TB_INC_LO n)) := by
  have hkeep : ∀ p ∈ [s.rd (R.TB_INC_LO n), v].zipIdx, s.keepsRes (R.TB_INC_LO n + 4 * p.2) p.1 = true := by
    rw [tbIncHi_eq] at hres
    simp only [List.zipIdx, List.mem_cons, List.not_mem_nil, or_false, forall_eq_or_imp, forall_eq]
    exact ⟨s.keepsRes_rd _, hres⟩
  have hindex : tbIncHiRow.at1 (R.TB_INC_LO n + 4 * tbIncHiRow.mwIdx) = n := by
    simp only [Row.at1, tbIncHiRow, R.TB_INC_LO, OfNat.ofNat_ne_zero, if_false]
    omega
  have hact : ∀ u : State, s.commitAct (R.TB_INC_LO n) tbIncHiRow u =
      some (s.tbIncCommit n (u.rd (R.TB_INC_LO n)) (u.rd (R.TB_INC_LO n + 4))) := fun u => by
    unfold State.commitAct
    rw [hindex]
    rfl
  have hne : R.TB_INC_LO n ≠ R.TB_INC_LO n + 4 := by omega
  have hstored : s.storeWords (R.TB_INC_LO n) [s.rd (R.TB_INC_LO n), v] =
      (s.store (R.TB_INC_LO n) (s.rd (R.TB_INC_LO n))).store (R.TB_INC_HI n) v := by
    rw [tbIncHi_eq]
    rfl
  have hlow : (s.storeWords (R.TB_INC_LO n) [s.rd (R.TB_INC_LO n), v]).rd (R.TB_INC_LO n) = s.rd (R.TB_INC_LO n) := by
    have hne : R.TB_INC_LO n ∉ [R.TB_INC_HI n] := by simp [tbIncHi_eq]
    rw [hstored, (Kept.store _ _ v).rd_eq hne (tbInc_pass hn).1, State.rd_store_of_eq rfl]
  have hhigh : fieldOf ((s.storeWords (R.TB_INC_LO n) [s.rd (R.TB_INC_LO n), v]).rd (R.TB_INC_LO n + 4)) 0 8 = fieldOf v 0 8 := by
    rw [hstored, ← tbIncHi_eq]
    exact State.g_store (l := R.TB_INC_HI.INT n) (rowOf_tbIncHi hn) (by decide : ∀ i, i < 8 → (W 0xff).getLsbD (0 + i) = true)
  rw [State.mwCommit_of_res hkeep, hact, Option.getD_some, State.tbIncCommit_of_range hadj (by rwa [hlow, hhigh]) (by rwa [hlow, hhigh]),
    hlow, hhigh]

theorem exec_tbIncCommit (hreq : req ≠ reqDma) (hadm : Admitted s req (R.TB_INC_HI n) v) (hhold : s.holding req 9 = none)
    (hadj : (s.tb n).adj = 0) :
    exec (.tbIncCommit req n v) s =
      done s (((s.setHolding req 9 none).tbIncSet n (fieldOf v 0 8) (s.rd (R.TB_INC_LO n))).respond req false 0) := by
  obtain ⟨hload, hres⟩ := hadm
  have hregion : regionOf (R.TB_INC_HI n) = 9 := regionOf_time (Nat.le_add_right_of_le (by decide)) (by simp only [R.TB_INC_HI]; omega)
  have hunlock : R.TB_INC_HI n ≠ R.GLB_UNLOCK := by
    simp only [R.TB_INC_HI, R.GLB_UNLOCK]
    omega
  have hguard : guardedCmd (R.TB_INC_HI n) = false := by interval_cases n <;> rfl
  have hlow : ((s.heldFor req 9 (R.TB_INC_LO n)).find? 0).getD (s.peek req (R.TB_INC_LO n)) = s.rd (R.TB_INC_LO n) := by
    rw [State.heldFor, hhold, ← s.peek_tbIncLo req hn]
    rfl
  have hcommit := State.mwCommit_tbInc (s := s.setHolding req 9 none) (req := req) hn hmin hmax hadj hres
  show execTbIncCommit req n v s = _
  rw [execTbIncCommit, Nat.mod_eq_of_lt hn, State.rowWrite_eq_portWrite s req v (by rw [hregion]; decide),
    State.portWrite_multiword (rowOf_tbIncHi hn) (by decide) hload hreq hunlock rfl hguard (by rw [hregion]; decide),
    State.mwWrite_hi rfl rfl, hregion, tbIncHi_sub, hlow]
  exact congrArg (fun t : State => done s (t.respond req false 0)) hcommit

end

end Sys2Proof.Machine
end

section
/-! SUPPORT. What a step of a time base leaves of the time bases, and the commands of TB_CMD (R48, R256, R260, R261). -/

namespace Sys2Proof.Machine

/-! ### What responds to a step (R261) -/

/-- From `s` to `t` the time bases and their registers stand: what responds to a step changes neither. -/
structure BasesKept (s t : State) : Prop where
  tbs : t.tbs = s.tbs
  rd : ∀ a, 0x1A00000 ≤ a → a < 0x1A10000 → t.rd a = s.rd a

/-- A register that is none of a time base. -/
abbrev BesideBases (a : Nat) : Prop := a < 0x1A00000 ∨ 0x1A10000 ≤ a

/-- An array that begins above them. -/
theorem besideBases_above {j w n : Nat} (h : 0x1A10000 ≤ j) : BesideBases (j + w * n) ∧ BesideBases (j + w * n + 4) :=
  ⟨.inr (by omega), .inr (by omega)⟩

namespace BasesKept

theorem refl (s : State) : BasesKept s s := ⟨rfl, fun _ _ _ => rfl⟩

theorem trans {s t u : State} (h : BasesKept s t) (k : BasesKept t u) : BasesKept s u :=
  ⟨k.tbs.trans h.tbs, fun a hlo hhi => (k.rd a hlo hhi).trans (h.rd a hlo hhi)⟩

theorem of_kept {s t : State} {l : List Nat} (h : Kept s t l) (hl : ∀ a ∈ l, BesideBases a) : BasesKept s t := by
  refine ⟨by rw [h.2.2], fun a hlo hhi => h.rd_eq (fun hm => ?_) (timeReg_pass hlo (by omega))⟩
  have := hl a hm
  omega

theorem ite {s t u : State} {c : Prop} [Decidable c] (ht : BasesKept s t) (hu : BasesKept s u) : BasesKept s (if c then t else u) := by
  split
  · exact ht
  · exact hu

theorem each {α : Type} (s : State) (l : List α) {f : α → State → State} (h : ∀ x ∈ l, ∀ t, BasesKept t (f x t)) :
    BasesKept s (s.each l f) := by
  unfold State.each
  induction l generalizing s with
  | nil => exact refl s
  | cons x l ih => exact (h x (by simp) s).trans (ih (f x s) (fun y hy => h y (by simp [hy])))

theorem p (s : State) {l : Loc} (v : Nat) (h : BesideBases l.addr) : BasesKept s (s.p l v) :=
  of_kept (Kept.p s l v) (by simpa using h)

theorem ev (s : State) {l : Loc} (h : BesideBases l.addr) : BasesKept s (s.ev l) := p s 1 h

theorem bumpBy (s : State) {a : Nat} (n : Nat) (h : BesideBases a ∧ BesideBases (a + 4)) : BasesKept s (s.bumpBy a n) :=
  of_kept (Kept.bumpBy s a n) (by simpa using h)

theorem modGen (s : State) (g : Nat) (f : Gen → Gen) : BasesKept s (s.modGen g f) := ⟨rfl, fun _ _ _ => rfl⟩

theorem modCan (s : State) (c : Nat) (f : Can → Can) : BasesKept s (s.modCan c f) := ⟨rfl, fun _ _ _ => rfl⟩

theorem modMatrix (s : State) (c : Nat) (f : Matrix → Matrix) : BasesKept s (s.modMatrix c f) := modCan s c _

/-! The generators on the time base (R274). -/

theorem pinRest (s : State) (g : Nat) : BasesKept s (s.pinRest g) := modGen s g _

theorem stopped (s : State) (g : Nat) : BasesKept s (s.p (R.TG_STS.RUN g) 0) := p s 0 (besideBases_above (by decide)).1

theorem tgErr (s : State) (g : Nat) : BasesKept s (s.tgErr g) :=
  (((stopped s g).trans (p _ 1 (besideBases_above (by decide)).1)).trans (ev _ (by decide))).trans (pinRest _ g)

theorem tgSkip (s : State) (g n : Nat) : BasesKept s (s.tgSkip g n) :=
  ite (refl s) ((bumpBy s n (besideBases_above (by decide))).trans (ev _ (by decide)))

theorem tgEnd (s : State) (g : Nat) : BasesKept s (s.tgEnd g) := (stopped s g).trans (each _ _ (fun k _ t => tgErr t k))

theorem genStep' (s : State) (g : Nat) (forward : Bool) : BasesKept s (s.genStep' g forward) :=
  ite (ite ((tgSkip s g 1).trans (tgEnd _ g)) (refl s)) ((modGen s g _).trans (tgSkip _ g _))

/-! The messages that wait to be sent (R271). -/

theorem tpOut (s : State) (l : List (Nat × TpOut)) : BasesKept s { s with tpOut := l } := ⟨rfl, fun _ _ _ => rfl⟩

/-- What a step changes of the gateway, of the messages received and of the domains (R261, R271). -/
theorem told (s : State) (gw : Gw) (tpIn : List TpMsg) (doms : Tab Dom) : BasesKept s { s with gw := gw, tpIn := tpIn, doms := doms } :=
  ⟨rfl, fun _ _ _ => rfl⟩

theorem rxStepped (s : State) (n : Nat) : BasesKept s (s.rxStepped n) := ⟨rfl, fun _ _ _ => rfl⟩

theorem asmStepped (s : State) (n : Nat) : BasesKept s (s.asmStepped n) := ⟨rfl, fun _ _ _ => rfl⟩

theorem outStepped (s : State) (n : Nat) : BasesKept s (s.outStepped n) :=
  (tpOut s _).trans (each _ _ (fun _ _ t => bumpBy t 1 (besideBases_above (by decide))))

/-! The schedule matrices on the time base (R227). -/

section
variable (s : State) {c : Nat} (hc : c < 16)
include hc

/-- The register of controller `c` that stands at `j` for controller 0. -/
theorem beside_can {j : Nat} (hhi : j < 0x1410000) : BesideBases (j + 0x10000 * c) ∧ BesideBases (j + 0x10000 * c + 4) :=
  ⟨.inl (by omega), .inl (by omega)⟩

theorem schMiss (n : Nat) : BasesKept s (s.schMiss c n) :=
  ite (refl s) ((bumpBy s n (beside_can hc (by decide))).trans (ev _ (beside_can hc (by decide)).1))

theorem exclClose : BasesKept s (s.exclClose c) := by
  have hpaid := modMatrix s c (fun m => { m with owed := false })
  have hmissed := hpaid.trans (schMiss _ hc 1)
  unfold State.exclClose
  refine ite (refl s) ?_
  split
  · exact ite (hpaid.trans (modCan _ c _)) hmissed
  · exact hmissed

theorem windowEnter : BasesKept s (s.windowEnter c) :=
  ite (refl s) (ite (bumpBy s 1 (beside_can hc (by decide)))
    (ite (((bumpBy s 1 (beside_can hc (by decide))).trans (ev _ (beside_can hc (by decide)).1)).trans
      (schMiss _ hc 1)) (modMatrix s c _)))

theorem windowTo : BasesKept s (s.windowTo c) :=
  ite (refl s) (((exclClose s hc).trans (modMatrix _ c _)).trans
    ((p _ _ (beside_can hc (by decide)).1).trans (p _ _ (beside_can hc (by decide)).1)))

theorem windowAgain : BasesKept s (s.windowAgain c) :=
  ite ((modCan s c _).trans (windowEnter _ hc)) (modCan s c _)

theorem matrixStep (old : Nat) : BasesKept s (s.matrixStep c old) := by
  have hto := fun n => (windowTo s hc).trans (schMiss _ hc n)
  exact ite (refl s) (ite ((hto _).trans (windowAgain _ hc)) (ite ((hto _).trans (windowAgain _ hc)) (ite (hto _)
    ((hto _).trans (modMatrix _ c _)))))

end

end BasesKept

/-! ### A step (R260, R261) -/

/-- Time base `n` at value `v`, the step counted and shown. -/
def State.tbMoved (s : State) (n v : Nat) : State :=
  (((s.modTb n (fun b => { b with v := v % tvMod })).inc (R.TB_STS.STEPS n)).bump (R.TB_STEP_LO n)).ev (R.TB_EVT.STEP n)

theorem Kept.tbMoved (s : State) (n v : Nat) : Kept (s.modTb n (fun b => { b with v := v % tvMod })) (s.tbMoved n v)
    [R.TB_STS n, R.TB_STEP_LO n, R.TB_STEP_LO n + 4, R.TB_EVT n] :=
  ((Kept.p _ (R.TB_STS.STEPS n) _).trans (Kept.bump _ (R.TB_STEP_LO n))).trans (Kept.ev _ (R.TB_EVT.STEP n))

/-- What follows the step itself leaves the time bases. -/
theorem BasesKept.tbStep (s : State) (n v : Nat) : BasesKept (s.tbMoved n v) (s.tbStep n v) :=
  ((((((told _ _ _ _).trans (rxStepped _ n)).trans (asmStepped _ n)).trans (outStepped _ n)).trans
    (each _ _ (fun _ hc t => ite (matrixStep t (List.mem_range.mp hc) _) (refl t))))).trans (each _ _ (fun g _ t => genStep' t g _))

/-- A step gives the time base its value and leaves the state of its command. -/
theorem State.tbStep_shows (s : State) {n : Nat} (hn : n < 4) (v : Nat) :
    (s.tbStep n v).tbVal n = v % tvMod ∧ (s.tbStep n v).stat (R.TB_CMD n) = s.stat (R.TB_CMD n) := by
  have hstep := BasesKept.tbStep s n v
  have hmoved := Kept.tbMoved s n v
  have hcmd : R.TB_CMD n ∉ [R.TB_STS n, R.TB_STEP_LO n, R.TB_STEP_LO n + 4, R.TB_EVT n] := by
    simp only [List.mem_cons, List.not_mem_nil, or_false, R.TB_CMD, R.TB_STS, R.TB_STEP_LO, R.TB_EVT]
    omega
  have htb : (s.tbStep n v).tb n = (s.tbMoved n v).tb n := by rw [State.tb, State.tb, hstep.tbs]
  constructor
  · rw [State.tbVal, htb, hmoved.tb_eq, State.tb_modTb_same]
  · have hrd : (s.tbStep n v).rd (R.TB_CMD n) = s.rd (R.TB_CMD n) :=
      (hstep.rd (R.TB_CMD n) (Nat.le_add_right_of_le (by decide)) (by simp only [R.TB_CMD]; omega)).trans
        (hmoved.rd_eq hcmd (tbCmd_pass hn))
    simp only [State.stat, State.g, hrd]

theorem tvAdd_lt (v : Nat) (d : Int) : tvAdd v d < tvMod := by
  have hpos : (0 : Int) < (tvMod : Int) := by decide
  have hlo := Int.emod_nonneg ((v : Int) + d) hpos.ne'
  have hhi := Int.emod_lt_of_pos ((v : Int) + d) hpos
  rw [tvAdd]
  omega

/-! ### TB_CMD (R48, R260) -/

theorem rowOf_tbCmd {n : Nat} (hn : n < 4) : ∃ r, rowOf (R.TB_CMD n) = some r ∧ ∀ i, i < 2 → (W r.cmd).getLsbD (30 + i) = true := by
  interval_cases n <;> exact ⟨_, rfl, by decide⟩

theorem tbSrvAdj_pass {n : Nat} (hn : n < 4) : R.TB_SRV_ADJ n ∉ passRegs := timeArray_pass (by decide) (by omega)

theorem tbCmd_ne_adj (n : Nat) : R.TB_CMD n ≠ R.TB_SRV_ADJ n := by
  simp only [R.TB_CMD, R.TB_SRV_ADJ]
  omega

theorem State.stat_putCmd_tb (s : State) {n : Nat} (hn : n < 4) (v : Word) {st : Nat} (hst : st < 4) :
    (s.putCmd (R.TB_CMD n) v st).stat (R.TB_CMD n) = st := by
  obtain ⟨r, hrow, hcmd⟩ := rowOf_tbCmd hn
  exact s.stat_putCmd hrow hcmd v hst

/-- TB_SET and TB_OFS are no part of TB_CMD. -/
theorem State.rdTv_putCmd_tb (s : State) (n : Nat) (v : Word) (st : Nat) :
    (s.putCmd (R.TB_CMD n) v st).rdTv (R.TB_SET_LO n) = s.rdTv (R.TB_SET_LO n) := by
  have hne : ∀ k, k < 12 → R.TB_SET_LO n + k ≠ R.TB_CMD n := fun k hk => by
    simp only [R.TB_SET_LO, R.TB_CMD]
    omega
  rw [State.rdTv, State.rd_putCmd_ne s (b := R.TB_SET_LO n) v st (hne 0 (by decide)),
    State.rd_putCmd_ne s v st (hne 4 (by decide)), State.rd_putCmd_ne s v st (hne 8 (by decide)), State.rdTv]

theorem State.tbOfs_putCmd_tb (s : State) (n : Nat) (v : Word) (st : Nat) : (s.putCmd (R.TB_CMD n) v st).tbOfs n = s.tbOfs n := by
  have hne : ∀ k, k < 8 → R.TB_OFS_LO n + k ≠ R.TB_CMD n := fun k hk => by
    simp only [R.TB_OFS_LO, R.TB_CMD]
    omega
  rw [State.tbOfs, State.rd64, State.rd_putCmd_ne s (b := R.TB_OFS_LO n) v st (hne 0 (by decide)),
    State.rd_putCmd_ne s v st (hne 4 (by decide)), State.tbOfs, State.rd64]

section
variable {s : State} {req n : Nat} (hn : n < 4) (hidle : s.stat (R.TB_CMD n) ≠ statBusy)
include hn hidle

/-- SET with a valid value steps the time base to it. -/
theorem exec_tbSet {v : Nat} (hadm : Admitted s req (R.TB_CMD n) 1) (hgood : (s.tb n).setBad = false)
    (hv : s.rdTv (R.TB_SET_LO n) = some v) : exec (.tbSet req n) s = done s ((s.putCmd (R.TB_CMD n) 1 statDone).tbStep n v) := by
  have hok : s.tbCmdOk n (fieldOf 1 0 3) = true := by simp [State.tbCmdOk, fieldOf, hgood, hv]
  have hset : ((s.putCmd (R.TB_CMD n) 1 statDone).rdTv (R.TB_SET_LO n)).getD 0 = v := by rw [State.rdTv_putCmd_tb, hv, Option.getD_some]
  show execTbSet req n s = _
  rw [execTbSet, Nat.mod_eq_of_lt hn, State.tbCommand, State.byPort_admitted s _ _ _ _ hadm, State.tbAct, hok,
    State.command_accepted hidle, ← hset]
  rfl

/-- ADD steps the time base by TB_OFS. -/
theorem exec_tbAdd (hadm : Admitted s req (R.TB_CMD n) 2) : exec (.tbAdd req n) s =
    done s ((s.putCmd (R.TB_CMD n) 2 statDone).tbStep n (tvAdd (s.tbVal n) (s.tbOfs n * 4294967296))) := by
  have hval : (s.putCmd (R.TB_CMD n) 2 statDone).tbVal n = s.tbVal n := congrArg TimeBase.v ((Kept.putCmd s _ _ _).tb_eq n)
  show execTbAdd req n s = _
  rw [execTbAdd, Nat.mod_eq_of_lt hn, State.tbCommand, State.byPort_admitted s _ _ _ _ hadm, State.tbAct,
    show s.tbCmdOk n (fieldOf 2 0 3) = true from rfl, State.command_accepted hidle, ← s.tbOfs_putCmd_tb n 2 statDone, ← hval]
  rfl

/-- SLEW takes TB_OFS as the offset to spend. -/
theorem exec_tbSlew (hadm : Admitted s req (R.TB_CMD n) 3) (hofs : (s.tbOfs n).natAbs < 2147483648)
    (hsrv : s.on (R.TB_CFG.SRV_EN n) = false) (hen : s.on (R.TB_CFG.EN n) = true) (hroom : s.atLimit n (s.tbOfs n) = false) :
    exec (.tbSlew req n) s =
      done s ((s.putCmd (R.TB_CMD n) 3 statBusy).modTb n (fun b => { b with slew := some (s.tbOfs n * 4294967296) })) := by
  have hok : s.tbCmdOk n (fieldOf 3 0 3) = true := by simp [State.tbCmdOk, fieldOf, hofs, hsrv, hen, hroom]
  show execTbSlew req n s = _
  rw [execTbSlew, Nat.mod_eq_of_lt hn, State.tbCommand, State.byPort_admitted s _ _ _ _ hadm, State.tbAct, hok,
    State.command_accepted hidle, ← s.tbOfs_putCmd_tb n 3 statBusy]
  rfl

/-- ADJ_ZERO clears ADJ and the integral, and TB_SRV_ADJ shows it. -/
theorem exec_tbAdjZero (hadm : Admitted s req (R.TB_CMD n) 4) (hsrv : s.on (R.TB_CFG.SRV_EN n) = false) : exec (.tbAdjZero req n) s =
    done s (((s.putCmd (R.TB_CMD n) 4 statDone).modTb n (fun b => { b with adj := 0, integ := 0 })).wr (R.TB_SRV_ADJ n) 0) := by
  have hok : s.tbCmdOk n (fieldOf 4 0 3) = true := by simp [State.tbCmdOk, fieldOf, hsrv]
  have hshow : ((s.putCmd (R.TB_CMD n) 4 statDone).modTb n (fun b => { b with adj := 0, integ := 0 })).adjShow n =
      ((s.putCmd (R.TB_CMD n) 4 statDone).modTb n (fun b => { b with adj := 0, integ := 0 })).wr (R.TB_SRV_ADJ n) 0 := by
    rw [State.adjShow, State.tb_modTb_same]
    rfl
  show execTbAdjZero req n s = _
  rw [execTbAdjZero, Nat.mod_eq_of_lt hn, State.tbCommand, State.byPort_admitted s _ _ _ _ hadm, State.tbAct, hok,
    State.command_accepted hidle, ← hshow]
  rfl

end

/-- The offset of a slew is spent. -/
theorem exec_slewComplete {s : State} {n : Nat} (hn : n < 4) (hslew : (s.tb n).slew = some 0) :
    exec (.slewComplete n) s = done s ((s.modTb n TimeBase.unslewed).setStat (R.TB_CMD n) statDone) := by
  show execSlewComplete n s = _
  rw [execSlewComplete, Nat.mod_eq_of_lt hn, State.slewDone, if_pos hslew]
  rfl

end Sys2Proof.Machine
end

section

open Sys2Proof Sys2Proof.Machine

/-- Settles O35: a write of TB_CFG is one of its enable fields, whose act is a change of the time base's own state and of TB_STS; a
commit of TB_INC within its range clamps nothing; what responds to a step leaves the time bases and TB_CMD. -/
theorem timeBaseCommands : Obligations.TimeBaseCommands := by
  unfold Obligations.TimeBaseCommands
  refine ⟨?enable, ?disable, ?servo, ?inc, ?set, ?add, ?slew, ?spent, ?zero⟩
  case enable =>
    intro s req n v hn hadm hoff hsrv hdef
    have hstore := Kept.store s (R.TB_CFG n) (v ||| 0x80000000)
    have hframe : Kept s ((s.store (R.TB_CFG n) (v ||| 0x80000000)).tbEnable n) [R.TB_CFG n, R.TB_STS n] :=
      hstore.trans (Kept.p _ (R.TB_STS.RUN n) 1)
    obtain ⟨hen, -, -⟩ := s.tbCfg_store hn (v ||| 0x80000000)
    rw [exec_tbEnable hn hadm, State.tbCfgWrite_rise hoff (bit_or_top v) hdef hsrv]
    refine ⟨_, rfl, ?_, ?_, ?_, hframe.passOn s⟩
    · rw [State.on, g_passOn _ _ (tbCfg_pass hn), State.tbEnable, State.g_p_ne _ _ _ _ (tbCfg_ne_sts n)]
      exact hen.trans (bit_or_top v)
    · rw [State.tbRun, State.on, g_passOn _ _ (tbSts_pass hn), State.tbEnable, State.g_p_fits _ 1 rfl]
      rfl
    · rw [State.tbVal, tb_passOn, hframe.tb_eq, State.tbVal]
  case disable =>
    intro s req n v hn hadm hon hsrv hnone
    have hstore := Kept.store s (R.TB_CFG n) (v &&& 0x7FFFFFFF)
    have hnone' : (s.store (R.TB_CFG n) (v &&& 0x7FFFFFFF)).gensWhere (fun q => q.tb == n) = [] :=
      (hstore.gensWhere_eq (by simp only [List.mem_singleton, forall_eq, R.TB_CFG]; omega) _).trans hnone
    have hhalted := (hstore.modTb n TimeBase.unslewed).trans (Kept.tbHalted _ n)
    obtain ⟨htb, hothers, hframe⟩ := (hhalted.passOn s).of_modTb
    obtain ⟨hen, -, -⟩ := s.tbCfg_store hn (v &&& 0x7FFFFFFF)
    obtain ⟨hrun, hservo, hstat⟩ := (s.store (R.TB_CFG n) (v &&& 0x7FFFFFFF)).g_tbHalted n
    rw [exec_tbDisable hn hadm, State.tbCfgWrite_fall hon (bit_and_rest v) hsrv, State.tbDisable_of_none hn hnone']
    refine ⟨_, rfl, ?_, ?_, ?_, ?_, ?_, ?_, hothers, hframe⟩
    · rw [State.on, g_passOn _ _ (tbCfg_pass hn), (Kept.tbHalted _ n).g_eq (tbCfg_off_sts_cmd n) (tbCfg_pass hn)]
      exact hen.trans (bit_and_rest v)
    · rw [State.tbRun, State.on, g_passOn _ _ (tbSts_pass hn), hrun]
      rfl
    · rw [State.tbVal, htb]
      rfl
    · rw [htb]
      rfl
    · rw [g_passOn _ _ (tbSts_pass hn), hservo]
    · rw [State.stat, g_passOn _ _ (tbCmd_pass hn)]
      refine hstat.trans ?_
      rw [hstore.tb_eq, State.stat, hstore.g_eq (by simpa using (tbCfg_ne_cmd n).symm) (tbCmd_pass hn), State.stat]
  case servo =>
    intro s req n v hn hadm hoff hen hdef hsrc
    have hstore := Kept.store s (R.TB_CFG n) (v ||| 0x40000000)
    obtain ⟨-, hsrv, hfield⟩ := s.tbCfg_store hn (v ||| 0x40000000)
    have hframe := fun f => ((hstore.modTb n f).trans (Kept.p _ (R.TB_STS.SRV n) srvAcquire)).passOn s
    rw [exec_servoEnable hn hadm, State.tbCfgWrite_servo hen hoff (bit_or_srvEn v) hdef,
      State.srvEnable_of_direct (by rw [hfield]; exact hsrc), hfield]
    obtain ⟨htb, hothers, hkept⟩ := (hframe _).of_modTb
    refine ⟨_, rfl, ?_, ?_, ?_, ?_, hothers, hkept⟩
    · rw [State.on, g_passOn _ _ (tbCfg_pass hn), State.setSrv, State.g_p_ne _ _ _ _ (tbCfg_ne_sts n)]
      exact hsrv.trans (bit_or_srvEn v)
    · rw [g_passOn _ _ (tbSts_pass hn)]
      exact State.g_p_fits _ srvAcquire rfl
    · exact congrArg TimeBase.src htb
    · exact (congrArg TimeBase.v htb).trans rfl
  case inc =>
    intro s req n v hn hreq hadm hhold hadj hmin hmax
    have hhi : fieldOf v 0 8 < 256 := Nat.mod_lt _ (by decide)
    refine ⟨_, exec_tbIncCommit hn hmin hmax hreq hadm hhold hadj, ?_, ?_⟩
    · rw [tbInc_passOn_respond s _ hn, State.tbInc_tbIncSet _ n _ hhi]
    · exact (Kept.tbIncSet (s.setHolding req 9 none) n _ _).of_setHolding.passOn_answered s req false 0
  case set =>
    intro s req n v hn hadm hidle hgood hv
    obtain ⟨hval, hstat⟩ := (s.putCmd (R.TB_CMD n) 1 statDone).tbStep_shows hn v
    refine ⟨_, exec_tbSet hn hidle hadm hgood hv, rfl, ?_, ?_⟩
    · rw [State.tbVal, tb_passOn]
      exact hval
    · rw [State.stat, g_passOn _ _ (tbCmd_pass hn)]
      exact hstat.trans (s.stat_putCmd_tb hn 1 (by decide))
  case add =>
    intro s req n hn hadm hidle
    obtain ⟨hval, hstat⟩ :=
      (s.putCmd (R.TB_CMD n) 2 statDone).tbStep_shows hn (tvAdd (s.tbVal n) (s.tbOfs n * 4294967296))
    refine ⟨_, exec_tbAdd hn hidle hadm, rfl, ?_, ?_⟩
    · rw [State.tbVal, tb_passOn]
      exact hval.trans (Nat.mod_eq_of_lt (tvAdd_lt _ _))
    · rw [State.stat, g_passOn _ _ (tbCmd_pass hn)]
      exact hstat.trans (s.stat_putCmd_tb hn 2 (by decide))
  case slew =>
    intro s req n hn hadm hidle hofs hsrv hen hroom
    obtain ⟨htb, hothers, hframe⟩ := (((Kept.putCmd s (R.TB_CMD n) 3 statBusy).modTb n _).passOn s).of_modTb
    refine ⟨_, exec_tbSlew hn hidle hadm hofs hsrv hen hroom, htb, ?_, hothers, hframe⟩
    rw [State.stat, g_passOn _ _ (tbCmd_pass hn)]
    exact s.stat_putCmd_tb hn 3 (by decide)
  case spent =>
    intro s n hn hslew
    obtain ⟨htb, hothers, hframe⟩ := ((Kept.setStat (s.modTb n TimeBase.unslewed) (R.TB_CMD n) statDone).passOn s).of_modTb
    exact ⟨_, exec_slewComplete hn hslew, htb, stat_passOn_setStat s _ (tbCmd_pass hn) (by decide), hothers, hframe⟩
  case zero =>
    intro s req n hn hadm hidle hsrv
    obtain ⟨htb, hothers, hframe⟩ :=
      ((((Kept.putCmd s (R.TB_CMD n) 4 statDone).modTb n _).trans (Kept.wr _ (R.TB_SRV_ADJ n) 0)).passOn s).of_modTb
    refine ⟨_, exec_tbAdjZero hn hidle hadm hsrv, htb, ?_, ?_, hothers, hframe⟩
    · rw [rd_passOn _ _ (tbSrvAdj_pass hn), State.rd_wr_same]
    · rw [State.stat, g_passOn _ _ (tbCmd_pass hn), State.g_wr_ne _ _ _ (tbCmd_ne_adj n)]
      exact s.stat_putCmd_tb hn 4 (by decide)

end

section
/-! SUPPORT. Servos that follow another time base or hold over, and the ring of a capture input (R262-R264, R278). -/

namespace Sys2Proof.Machine

/-! ### Servos (R262, R264) -/

/-- The sample of a servo that follows a running time base is an update by the difference of the two. -/
theorem exec_servoTbSample {s : State} {n : Nat} (hn : n < 4) (hsrv : s.srv n ≠ srvOff) (hsrc : (s.tb n).src = 2)
    (hrun : s.tbRun n = true) (href : s.tbRun (s.tb n).idx = true) : exec (.servoTbSample n) s = done s
      (let r := s.wholeNs (tvDiff (s.tbVal n) (s.tbVal (s.tb n).idx))
       r.1.srvUpdate n r.2) := by
  show execServoTbSample n s = _
  rw [execServoTbSample, Nat.mod_eq_of_lt hn, State.tbSample]
  exact congrArg (done s) (if_neg (by simp [hsrv, hsrc, hrun, href]))

/-- A time base whose servo counts its updates within LOCK_NS afresh. -/
def TimeBase.unjudged (b : TimeBase) : TimeBase := { b with good := 0 }

/-- The servo of time base `n` in HOLDOVER, with its event. -/
def State.srvHeld (s : State) (n : Nat) : State :=
  ((s.setSrv n srvHoldover).ev (R.TB_EVT.HOLDOVER n)).modTb n TimeBase.unjudged

theorem exec_servoHoldover {s : State} {n : Nat} (hn : n < 4) (hsrv : s.srv n = srvLocked) :
    exec (.servoHoldover n) s = done s (s.srvHeld n) := by
  show execServoHoldover n s = _
  rw [execServoHoldover, Nat.mod_eq_of_lt hn, State.holdover]
  exact congrArg (done s) (if_pos (.inr hsrv))

theorem Kept.srvHeld (s : State) (n : Nat) : Kept (s.modTb n TimeBase.unjudged) (s.srvHeld n) [R.TB_STS n, R.TB_EVT n] :=
  ((Kept.p s (R.TB_STS.SRV n) srvHoldover).trans (Kept.ev _ (R.TB_EVT.HOLDOVER n))).modTb n _

theorem State.g_srvHeld (s : State) (n : Nat) :
    (s.srvHeld n).g (R.TB_STS.SRV n) = srvHoldover ∧ (s.srvHeld n).g (R.TB_EVT.HOLDOVER n) = 1 := by
  have hne : R.TB_STS n ≠ R.TB_EVT n := by
    simp only [R.TB_STS, R.TB_EVT]
    omega
  rw [State.srvHeld, State.g_modTb, State.g_modTb]
  exact ⟨(State.g_p_ne _ _ _ _ hne).trans (State.g_p_fits _ srvHoldover rfl), State.g_p_fits _ 1 rfl⟩

theorem tbEvt_pass {n : Nat} (hn : n < 4) : R.TB_EVT n ∉ passRegs := timeArray_pass (by decide) (by omega)

/-! ### Captures (R278) -/

/-- The stamp `v` of a rising edge at input `i` in the ring entry at `e`: WR advances and TIME_EVT.CAP is set. -/
def State.capPut (s : State) (i e v : Nat) : State :=
  ((((s.wr e (tvW0 v ||| 0x80000000)).wr (e + 4) (tvW1 v)).wr (e + 8) (tvW2 v)).p (R.CAP_PTR.WR i) (s.g (R.CAP_PTR.WR i) + 1)).ev
    R.TIME_EVT.CAP

/-- The ring entry that the next stamp of input `i` takes. -/
def State.capEntry (s : State) (i : Nat) : Nat := R.CAP_ENT_LO i (s.g (R.CAP_PTR.WR i) % 16)

/-- A selected rising edge at an input that serves no servo and triggers no recorder ring is stamped. -/
theorem exec_capEdge {s : State} {i pulse : Nat} (hi : i < 8) (hen : s.enOn (R.CAP_CFG.EN i) = true)
    (hpulse : 8 * s.g (R.CAP_CFG.FILT i) ≤ pulse) (hedge : s.g (R.CAP_CFG.EDGE i) ≠ 2)
    (hroom : (s.g (R.CAP_PTR.WR i) + 32 - s.g (R.CAP_PTR.RD i)) % 32 ≠ 16)
    (hrings : ∀ r, r < 64 → s.g (R.MEM_RING_TRIG.CAPSEL r) ≠ i) :
    exec (.capEdge i true pulse) s = done s (s.capPut i (s.capEntry i) (s.capStamp i (s.g (R.CAP_CFG.TB i)))) := by
  have hnone : (List.range 64).filter (fun r => s.g (R.MEM_RING_TRIG.CAPSEL r) == i) = [] :=
    List.filter_eq_nil_iff.mpr (fun r hr => by simpa using hrings r (List.mem_range.mp hr))
  have hpps : i ≠ 8 := by omega
  show execCapEdge i true s pulse = _
  rw [execCapEdge, Nat.mod_eq_of_lt (show i < 9 by omega)]
  unfold State.capEdge
  simp only [Nat.not_lt.mpr hpulse, hpps, false_and, hen, Bool.true_or, Bool.true_and, bne_iff_ne.mpr hedge, hroom, hnone, if_false,
    if_true, Bool.not_true, Bool.false_eq_true]
  rfl

/-- Where the entries of a ring lie. -/
theorem State.capEntry_range (s : State) {i : Nat} (hi : i < 8) :
    R.CAP_PTR i < s.capEntry i ∧ s.capEntry i + 8 < R.CAP_PTR (i + 1) ∧ 0x1A00000 ≤ s.capEntry i ∧
      R.CAP_PTR (i + 1) < R.TIME_EVT := by
  simp only [State.capEntry, R.CAP_ENT_LO, R.CAP_PTR, R.TIME_EVT]
  omega

theorem capPtr_pass {i : Nat} (hi : i < 8) : R.CAP_PTR i ∉ passRegs := timeArray_pass (by decide) (by omega)

theorem Kept.capPut (s : State) (i e v : Nat) : Kept s (s.capPut i e v) [e, e + 4, e + 8, R.CAP_PTR i, R.TIME_EVT] :=
  ((((Kept.wr s e _).trans (Kept.wr _ (e + 4) _)).trans (Kept.wr _ (e + 8) _)).trans (Kept.p _ (R.CAP_PTR.WR i) _)).trans
    (Kept.ev _ R.TIME_EVT.CAP)

theorem State.rd_capPut (s : State) {i e : Nat} (v : Nat) (hlo : R.CAP_PTR i < e) (hhi : e + 8 < R.TIME_EVT) :
    (s.capPut i e v).rd e = tvW0 v ||| 0x80000000 ∧ (s.capPut i e v).rd (e + 4) = tvW1 v ∧ (s.capPut i e v).rd (e + 8) = tvW2 v := by
  have hwords : ∀ a, e ≤ a → a ≤ e + 8 →
      (s.capPut i e v).rd a = (((s.wr e (tvW0 v ||| 0x80000000)).wr (e + 4) (tvW1 v)).wr (e + 8) (tvW2 v)).rd a := fun a ha ha' => by
    have hptr : a ≠ (R.CAP_PTR.WR i).addr := fun h => by
      have : a = R.CAP_PTR i := h
      omega
    have hevt : a ≠ R.TIME_EVT.CAP.addr := fun h => by
      have : a = R.TIME_EVT := h
      omega
    rw [State.capPut, State.rd_ev_ne _ _ hevt, State.rd_p_ne _ _ _ hptr]
  refine ⟨?_, ?_, ?_⟩
  · rw [hwords e (Nat.le_refl e) (by omega), State.rd_wr_ne _ _ (by omega), State.rd_wr_ne _ _ (by omega), State.rd_wr_same]
  · rw [hwords (e + 4) (by omega) (by omega), State.rd_wr_ne _ _ (by omega), State.rd_wr_same]
  · rw [hwords (e + 8) (by omega) (by omega), State.rd_wr_same]

theorem State.g_capPut (s : State) {i : Nat} (e v : Nat) (hi : i < 8) :
    (s.capPut i e v).g (R.CAP_PTR.WR i) = (s.g (R.CAP_PTR.WR i) + 1) % 32 ∧ (s.capPut i e v).g R.TIME_EVT.CAP = 1 := by
  have hne : (R.CAP_PTR.WR i).addr ≠ R.TIME_EVT.CAP.addr := by
    simp only [R.CAP_PTR.WR, R.CAP_PTR, R.TIME_EVT.CAP, R.TIME_EVT]
    omega
  exact ⟨(State.g_p_ne _ _ _ _ hne).trans (State.g_p_fits _ _ rfl), State.g_p_fits _ 1 rfl⟩

end Sys2Proof.Machine
end

section
/-! SUPPORT. Trigger generators: what a write of TG_CFG starts and stops, the edge of one that runs free, and the end of its pulse
(R273-R277). -/

namespace Sys2Proof.Machine

/-! ### The own states of the generators -/

/-- A frame of registers stands with the same generators on both sides. -/
theorem Kept.withGens {s t : State} {l : List Nat} (h : Kept s t l) (x : Tab Gen) : Kept { s with gens := x } { t with gens := x } l := by
  obtain ⟨hreg, hq, hrest⟩ := h
  refine ⟨hreg, hq, ?_⟩
  simp only
  rw [hrest]

/-- What follows a change of the generators with registers alone leaves a frame that excepts them. -/
theorem Kept.of_gens {s t : State} {l : List Nat} {x : Tab Gen} (h : Kept { s with gens := x } t l) :
    Kept { s with gens := t.gens } t l := by
  have hgens : t.gens = x := by rw [h.2.2]
  rw [hgens]
  exact h

/-- The generator `f` changes, from `s` to `u`, is the only one. -/
theorem Kept.gen_of_modGen {s u t : State} {l l' : List Nat} {g : Nat} {f : Gen → Gen} (hu : Kept s u l') (h : Kept (u.modGen g f) t l) :
    t.gen g = f (s.gen g) ∧ ∀ k, k ≠ g → t.gen k = s.gen k :=
  ⟨by rw [h.gen_eq, State.gen_modGen_same, hu.gen_eq], fun k hk => by rw [h.gen_eq, State.gen_modGen_ne u f hk, hu.gen_eq]⟩

/-! ### TG_CFG (R273, R508) -/

theorem rowOf_tgCfg {g : Nat} (hg : g < 32) : ∃ r, rowOf (R.TG_CFG g) = some r ∧ r.rw ||| r.rwg = 0xfff00000 := by
  interval_cases g <;> exact ⟨_, rfl, rfl⟩

section
variable {s : State} {req g : Nat} {v : Word}

theorem State.tgCfgWrite_rise (hoff : s.on (R.TG_CFG.EN g) = false) (hset : bit v.toNat 31 = true) (hdef : s.deferred req = false) :
    s.tgCfgWrite req g v = (s.store (R.TG_CFG g) v).tgEnable g := by
  rw [State.tgCfgWrite, State.enAct_rise hoff hset hdef]
  rfl

theorem State.tgCfgWrite_fall (hon : s.enOn (R.TG_CFG.EN g) = true) (hclr : bit v.toNat 31 = false) :
    s.tgCfgWrite req g v = (s.store (R.TG_CFG g) v).tgDisable g := by
  rw [State.tgCfgWrite, State.enAct_fall hon hclr]
  rfl

theorem exec_tgEnable (hg : g < 32) (hadm : Admitted s req (R.TG_CFG g) (v ||| 0x80000000)) :
    exec (.tgEnable req g v) s = done s (s.tgCfgWrite req g (v ||| 0x80000000)) := by
  show execTgEnable req g v s = _
  rw [execTgEnable, Nat.mod_eq_of_lt hg, State.byPort_admitted s _ _ _ _ hadm]

theorem exec_tgDisable (hg : g < 32) (hadm : Admitted s req (R.TG_CFG g) (v &&& 0x7FFFFFFF)) :
    exec (.tgDisable req g v) s = done s (s.tgCfgWrite req g (v &&& 0x7FFFFFFF)) := by
  show execTgDisable req g v s = _
  rw [execTgDisable, Nat.mod_eq_of_lt hg, State.byPort_admitted s _ _ _ _ hadm]

end

/-- A bit of RW bits of TG_CFG reads what a write gave it. -/
theorem State.bit_tgCfg_store (s : State) {g b : Nat} (hg : g < 32) (v : Word) (hb : (W 0xfff00000).getLsbD b = true) :
    bit ((s.store (R.TG_CFG g) v).rd (R.TG_CFG g)).toNat b = bit v.toNat b := by
  obtain ⟨r, hrow, hrw⟩ := rowOf_tgCfg hg
  rw [← State.on_eq_bit]
  exact s.on_store hrow (by rwa [hrw])

/-- TB reads what a write of TG_CFG gave it. -/
theorem State.tgCfgTb_store (s : State) {g : Nat} (hg : g < 32) (v : Word) :
    fieldOf ((s.store (R.TG_CFG g) v).rd (R.TG_CFG g)) 28 2 = fieldOf v 28 2 := by
  obtain ⟨r, hrow, hrw⟩ := rowOf_tgCfg hg
  refine State.g_store (l := ⟨R.TG_CFG g, 28, 2⟩) hrow ?_
  rw [hrw]
  exact (by decide : ∀ i, i < 2 → (W 0xfff00000).getLsbD (28 + i) = true)

/-! A write of TG_CFG leaves the status of a time base and of a generator, and the start. -/

theorem tgSts_ne_cfg (k g : Nat) : R.TG_STS k ∉ [R.TG_CFG g] := by
  simp only [List.mem_singleton, R.TG_STS, R.TG_CFG]
  omega

theorem State.tbRun_tgCfg_store (s : State) {n : Nat} (g : Nat) (v : Word) (hn : n < 4) :
    (s.store (R.TG_CFG g) v).tbRun n = s.tbRun n := by
  rw [State.tbRun, State.on, (Kept.store s (R.TG_CFG g) v).g_eq (by
    simp only [List.mem_singleton, R.TB_STS.RUN, R.TB_STS, R.TG_CFG]
    omega) (tbSts_pass hn)]
  rfl

theorem State.rdTv_tgCfg_store (s : State) {g : Nat} (v : Word) (hg : g < 32) :
    (s.store (R.TG_CFG g) v).rdTv (R.TG_START_LO g) = s.rdTv (R.TG_START_LO g) := by
  have hword : ∀ i, i ≤ 8 → (s.store (R.TG_CFG g) v).rd (R.TG_START_LO g + i) = s.rd (R.TG_START_LO g + i) := fun i hi =>
    (Kept.store s (R.TG_CFG g) v).rd_eq (by
      simp only [List.mem_singleton, R.TG_START_LO, R.TG_CFG]
      omega) (timeReg_pass (by simp only [R.TG_START_LO]; omega) (by simp only [R.TG_START_LO]; omega))
  have hword0 : (s.store (R.TG_CFG g) v).rd (R.TG_START_LO g) = s.rd (R.TG_START_LO g) := hword 0 (by decide)
  rw [State.rdTv, hword0, hword 4 (by decide), hword 8 (by decide)]
  rfl

/-! ### EN set (R273) -/

/-- The configuration that generator `g` samples at EN, with a start of `start` in 1/256 ns. -/
def State.genSampled (s : State) (g start : Nat) : Gen :=
  let w := s.rd (R.TG_CFG g)
  { s.gen g with
    oneShot := bit w.toNat 30, tb := fieldOf w 28 2, pol := bit w.toNat 27, pinEn := bit w.toNat 26 && decide (g < 16),
    link := bit w.toNat 25, lead := fieldOf w 20 5, start := start, per := s.g (R.TG_PER_LO.NS g) * 256 + s.g (R.TG_PER_HI.FRAC g),
    width := s.g (R.TG_WIDTH.NS g), made := [] }

/-- Generator `g` sampled, its pin at rest, before its first edge. -/
def State.genArmed (s : State) (g start : Nat) : State :=
  ((s.modGen g (fun _ => s.genSampled g start)).pinRest g).modGen g (fun x => { x with next := 0 })

/-- A one-shot generator without pin and link whose start lies ahead of its running time base runs. -/
theorem State.tgEnable_oneShot {s : State} {g v : Nat} (hone : bit (s.rd (R.TG_CFG g)).toNat 30 = true)
    (hpin : bit (s.rd (R.TG_CFG g)).toNat 26 = false) (hlink : bit (s.rd (R.TG_CFG g)).toNat 25 = false)
    (hrun : s.tbRun (fieldOf (s.rd (R.TG_CFG g)) 28 2) = true) (hgood : (s.gen g).startBad = false)
    (hstart : s.rdTv (R.TG_START_LO g) = some v) (hahead : tv256 (s.tbVal (fieldOf (s.rd (R.TG_CFG g)) 28 2)) < tv256 v) :
    s.tgEnable g = (s.genArmed g (tv256 v)).p (R.TG_STS.RUN g) 1 := by
  unfold State.tgEnable
  rw [hstart]
  exact (if_neg (by simp [hone, hpin, hlink, hrun, hgood])).trans ((if_pos hone).trans (if_neg (Nat.not_le.mpr hahead)))

theorem Kept.genArmed (s : State) (g start : Nat) : Kept { s with gens := (s.genArmed g start).gens } (s.genArmed g start) [] :=
  Kept.refl _ _

theorem State.gen_genArmed_same (s : State) (g start : Nat) :
    (s.genArmed g start).gen g = { s.genSampled g start with pin := (s.genSampled g start).pol, next := 0 } := by
  rw [State.genArmed, State.gen_modGen_same, State.pinRest, State.gen_modGen_same, State.gen_modGen_same]

theorem State.gen_genArmed_ne (s : State) {g k : Nat} (start : Nat) (hk : k ≠ g) : (s.genArmed g start).gen k = s.gen k := by
  rw [State.genArmed, State.gen_modGen_ne _ _ hk, State.pinRest, State.gen_modGen_ne _ _ hk, State.gen_modGen_ne _ _ hk]

/-- A write that sets EN of such a generator. -/
theorem State.tgEnable_store {s : State} {g v : Nat} {x : Word} (hg : g < 32) (hone : bit x.toNat 30 = true) (hpin : bit x.toNat 26 = false)
    (hlink : bit x.toNat 25 = false) (hrun : s.tbRun (fieldOf x 28 2) = true) (hgood : (s.gen g).startBad = false)
    (hstart : s.rdTv (R.TG_START_LO g) = some v) (hahead : tv256 (s.tbVal (fieldOf x 28 2)) < tv256 v) :
    (s.store (R.TG_CFG g) x).tgEnable g = ((s.store (R.TG_CFG g) x).genArmed g (tv256 v)).p (R.TG_STS.RUN g) 1 := by
  have hstore := Kept.store s (R.TG_CFG g) x
  have htb := s.tgCfgTb_store hg x
  refine State.tgEnable_oneShot ((s.bit_tgCfg_store hg x (by decide)).trans hone) ((s.bit_tgCfg_store hg x (by decide)).trans hpin)
    ((s.bit_tgCfg_store hg x (by decide)).trans hlink) ?_ ((congrArg Gen.startBad (hstore.gen_eq g)).trans hgood)
    ((s.rdTv_tgCfg_store x hg).trans hstart) ?_
  · rw [htb]
    exact (s.tbRun_tgCfg_store g x (Nat.mod_lt _ (by decide))).trans hrun
  · rw [htb, State.tbVal, hstore.tb_eq]
    exact hahead

/-- The configuration that such a write samples. -/
theorem State.genSampled_store (s : State) {g : Nat} (start : Nat) {x : Word} (hg : g < 32) (hone : bit x.toNat 30 = true) :
    ((s.store (R.TG_CFG g) x).genSampled g start).oneShot = true ∧
      ((s.store (R.TG_CFG g) x).genSampled g start).tb = fieldOf x 28 2 :=
  ⟨(s.bit_tgCfg_store hg x (by decide)).trans hone, s.tgCfgTb_store hg x⟩

/-! ### EN cleared (R274, R275) -/

/-- Generator `g` stopped, its pin at rest. -/
def State.genStopped (s : State) (g : Nat) : State := ((s.p (R.TG_STS.RUN g) 0).p (R.TG_STS.CFG_ERR g) 0).pinRest g

theorem State.g_genStopped (s : State) (g : Nat) :
    (s.genStopped g).g (R.TG_STS.RUN g) = 0 ∧ (s.genStopped g).g (R.TG_STS.CFG_ERR g) = 0 := by
  rw [State.genStopped, State.pinRest, State.g_modGen, State.g_modGen]
  exact ⟨(State.g_p_apart _ _ _ rfl rfl).trans (State.g_p_fits _ 0 rfl), State.g_p_fits _ 0 rfl⟩

theorem Kept.tgSts (s : State) (g : Nat) : Kept s ((s.p (R.TG_STS.RUN g) 0).p (R.TG_STS.CFG_ERR g) 0) [R.TG_STS g] :=
  ((Kept.p s (R.TG_STS.RUN g) 0).trans (Kept.p _ (R.TG_STS.CFG_ERR g) 0)).mono (fun a ha => .inl (by
    simpa only [List.mem_append, List.mem_singleton, R.TG_STS.RUN, R.TG_STS.CFG_ERR, or_self] using ha))

theorem State.genStopped_ne (s : State) {g k : Nat} (hk : k < 32) (hne : k ≠ g) :
    (s.genStopped g).genRun k = s.genRun k ∧ (s.genStopped g).gen k = s.gen k := by
  have hsts : R.TG_STS k ∉ [R.TG_STS g] := by
    simp only [List.mem_singleton, R.TG_STS]
    omega
  refine ⟨?_, (State.gen_modGen_ne _ _ hne).trans ((Kept.tgSts s g).gen_eq k)⟩
  rw [State.genRun, State.on, State.genStopped, State.pinRest, State.g_modGen, (Kept.tgSts s g).g_eq hsts (tgSts_pass hk)]
  rfl

/-- With `g` stopped no generator that runs is linked where none was before. -/
theorem State.gensWhere_genStopped {s : State} {g : Nat} (h : s.gensWhere (fun q => q.link) = []) :
    (s.genStopped g).gensWhere (fun q => q.link && q.lead == g) = [] := by
  refine List.filter_eq_nil_iff.mpr (fun k hk hsel => ?_)
  obtain ⟨hrun, hsel⟩ := Bool.and_eq_true_iff.mp hsel
  obtain ⟨hlink, -⟩ := Bool.and_eq_true_iff.mp hsel
  have hne : k ≠ g := by
    rintro rfl
    rw [State.genRun, State.on, (s.g_genStopped k).1] at hrun
    exact absurd hrun (by decide)
  obtain ⟨hrun', hgen⟩ := s.genStopped_ne (List.mem_range.mp hk) hne
  rw [hrun'] at hrun
  rw [hgen] at hlink
  exact List.filter_eq_nil_iff.mp h k hk (Bool.and_eq_true_iff.mpr ⟨hrun, hlink⟩)

/-- A generator that ends stops no other where no running generator is linked. -/
theorem State.tgDisable_of_unlinked {s : State} {g : Nat} (h : s.gensWhere (fun q => q.link) = []) : s.tgDisable g = s.genStopped g := by
  have hdrop : s.tgDisable g =
      (s.genStopped g).each ((s.genStopped g).gensWhere (fun q => q.link && q.lead == g)) (fun k t => t.tgErr k) := rfl
  rw [hdrop, State.gensWhere_genStopped h]
  rfl

/-! ### Edges (R273, R276, R277) -/

/-- A generator after its edge `next` at tick `tick`, none being made before it. -/
def Gen.fired (q : Gen) (tick : Nat) : Gen :=
  { q with next := q.next + 1, made := [q.next], lastTick := tick, pin := if q.pinEn then !q.pol else q.pin }

/-- The edge of generator `g` made and counted. -/
def State.genFired (s : State) (g : Nat) : State :=
  ((s.modGen g (fun x => { x with next := x.next + 1 })).modGen g (fun x =>
    { x with made := (s.gen g).next :: x.made.take 3, lastTick := s.tick, pin := if x.pinEn then !x.pol else x.pin })).inc
      (R.TG_STS.EDGES g)

/-- The first edge of a periodic generator that is not linked is made as soon as it is due. -/
theorem State.genEdge_first {s : State} {g : Nat} (hrun : s.genRun g = true) (hone : (s.gen g).oneShot = false)
    (hlink : (s.gen g).link = false) (hmade : (s.gen g).made = []) (hdue : (s.gen g).at (s.gen g).next ≤ tv256 (s.tbVal (s.gen g).tb)) :
    s.genEdge g = (s.genFired g, true) := by
  unfold State.genEdge
  simp only [hrun, hone, hlink, hmade, Nat.not_lt.mpr hdue, decide_false, Bool.not_true, Bool.or_false, Bool.false_and, Bool.and_false,
    List.isEmpty_nil, Bool.false_eq_true, if_false]
  rfl

theorem State.gen_genFired (s : State) {g : Nat} (hmade : (s.gen g).made = []) :
    (s.genFired g).gen g = (s.gen g).fired s.tick ∧ ∀ k, k ≠ g → (s.genFired g).gen k = s.gen k := by
  refine ⟨?_, fun k hk => ?_⟩
  · refine ((Kept.p _ (R.TG_STS.EDGES g) _).gen_eq g).trans ?_
    rw [State.gen_modGen_same, State.gen_modGen_same, hmade]
    rfl
  · exact ((Kept.p _ (R.TG_STS.EDGES g) _).gen_eq k).trans ((State.gen_modGen_ne _ _ hk).trans (State.gen_modGen_ne _ _ hk))

theorem Kept.genFired (s : State) (g : Nat) : Kept { s with gens := (s.genFired g).gens } (s.genFired g) [R.TG_STS g] :=
  (Kept.p _ (R.TG_STS.EDGES g) _).of_gens

theorem State.g_genFired (s : State) (g : Nat) : (s.genFired g).g (R.TG_STS.EDGES g) = (s.g (R.TG_STS.EDGES g) + 1) % 65536 :=
  State.g_p_fits _ _ rfl

theorem State.g_genFired_ne (s : State) (g : Nat) {l : Loc} (h : l.addr ≠ R.TG_STS g) : (s.genFired g).g l = s.g l :=
  State.g_p_ne _ _ _ _ h

/-- An edge that triggers neither a recorder ring nor a DMA channel does no more. -/
theorem exec_tgEdge_first {s : State} {g : Nat} (hg : g < 32) (hrun : s.genRun g = true) (hone : (s.gen g).oneShot = false)
    (hlink : (s.gen g).link = false) (hmade : (s.gen g).made = []) (hdue : (s.gen g).at (s.gen g).next ≤ tv256 (s.tbVal (s.gen g).tb))
    (hrings : ∀ r, r < 64 → s.g (R.MEM_RING_TRIG.TGSEL r) ≠ g)
    (hchans : ∀ c, c < 256 → s.g (R.DMA_CH_CFG.TRIG c) ≠ 1 ∨ s.g (R.DMA_CH_CFG.TG c) ≠ g) :
    exec (.tgEdge g) s = done s (s.genFired g) := by
  have hring : (List.range 64).filter (fun r => (s.genFired g).g (R.MEM_RING_TRIG.TGSEL r) == g) = [] := by
    refine List.filter_eq_nil_iff.mpr (fun r hr => ?_)
    rw [s.g_genFired_ne g (by simp only [R.MEM_RING_TRIG.TGSEL, R.MEM_RING_TRIG, R.TG_STS]; omega)]
    simpa using hrings r (List.mem_range.mp hr)
  have hchan : (List.range 256).filter (fun c =>
      (s.genFired g).g (R.DMA_CH_CFG.TRIG c) == 1 && (s.genFired g).g (R.DMA_CH_CFG.TG c) == g) = [] := by
    refine List.filter_eq_nil_iff.mpr (fun c hc => ?_)
    rw [s.g_genFired_ne g (by simp only [R.DMA_CH_CFG.TRIG, R.DMA_CH_CFG, R.TG_STS]; omega),
      s.g_genFired_ne g (by simp only [R.DMA_CH_CFG.TG, R.DMA_CH_CFG, R.TG_STS]; omega)]
    simpa [imp_iff_not_or] using hchans c (List.mem_range.mp hc)
  show execTgEdge g s = _
  rw [execTgEdge, Nat.mod_eq_of_lt hg, State.tgEdge, State.genEdge_first hrun hone hlink hmade hdue]
  simp only
  rw [hring]
  show done s ((s.genFired g).dmaEdge g) = _
  rw [State.dmaEdge, hchan]
  rfl

theorem exec_tgPinWidthEnd {s : State} {g : Nat} (hg : g < 32) (hpin : (s.gen g).pinEn = true) :
    exec (.tgPinWidthEnd g) s = done s (s.pinRest g) := by
  show execTgPinWidthEnd g s = _
  rw [execTgPinWidthEnd, Nat.mod_eq_of_lt hg, State.pinEnd, if_pos hpin]

theorem exec_tgEdgeCommand {s : State} {g : Nat} (hg : g < 32) (hrun : s.genRun g = true) (hlost : s.tenon.lostState = false) :
    exec (.tgEdgeCommand g) s = done s { s with edges := s.edges ++ [g] } := by
  show execTgEdgeCommand g s = _
  rw [execTgEdgeCommand, Nat.mod_eq_of_lt hg, hrun, hlost]
  rfl

/-- The power die, its link not lost, acts on the oldest edge command. -/
theorem State.dieEdge_cons {s : State} {g : Nat} {rest : List Nat} (late : Bool) (hedges : s.edges = g :: rest)
    (hlost : s.tenon.lostState = false) : s.dieEdge late =
      ({ s with edges := rest }.when late (fun u => (u.bump (R.TG_LATE_LO g)).ev R.TIME_EVT.TG_LATE)).each (List.range 24) (fun n u =>
        let v := if u.ldMode n = 3 ∧ u.g (R.PWR_LD_CTL.TG n) = g ∧ u.ldActive n then u.periodStart n else u
        if v.on (R.PWR_LD_ADCC.TRIG_EN n) && v.g (R.PWR_LD_ADCC.TG n) == g then v.adcStart n else v) := by
  unfold State.dieEdge
  rw [hedges]
  exact if_neg (by simp [hlost])

end Sys2Proof.Machine
end

section

open Sys2Proof Sys2Proof.Machine

/-- Settles O36: a sample is an update by the difference of the two bases; HOLDOVER and the ring of a capture are their registers; a
write of TG_CFG is its EN, and with no running generator linked one that stops stops alone; the first edge of a periodic generator that
nothing listens to is made and counted; the power die acts on the oldest edge command. -/
theorem servosAndTriggers : Obligations.ServosAndTriggers := by
  unfold Obligations.ServosAndTriggers
  refine ⟨?sample, ?holdover, ?capture, ?start, ?stop, ?edge, ?width, ?command, ?die⟩
  case sample =>
    intro s n hn hsrv hsrc hrun href
    exact exec_servoTbSample hn hsrv hsrc hrun href
  case holdover =>
    intro s n hn hsrv
    obtain ⟨hheld, hevent⟩ := s.g_srvHeld n
    obtain ⟨htb, hothers, hframe⟩ := ((Kept.srvHeld s n).passOn s).of_modTb
    refine ⟨_, exec_servoHoldover hn hsrv, ?_, ?_, htb, hothers, hframe⟩
    · rw [State.srv, g_passOn _ _ (tbSts_pass hn), hheld]
    · rw [g_passOn _ _ (tbEvt_pass hn), hevent]
  case capture =>
    intro s i pulse hi hen hpulse hedge hroom hrings
    obtain ⟨hlo, hhi, hbase, htop⟩ := s.capEntry_range hi
    have hlow : ∀ a, s.capEntry i ≤ a → a ≤ s.capEntry i + 8 → a ∉ passRegs := fun a ha ha' =>
      timeReg_pass (hbase.trans ha) (ha'.trans_lt (hhi.trans (htop.trans (by decide))))
    obtain ⟨hword0, hword1, hword2⟩ := s.rd_capPut (s.capStamp i (s.g (R.CAP_CFG.TB i))) hlo (hhi.trans htop)
    obtain ⟨hwr, hevent⟩ := s.g_capPut (s.capEntry i) (s.capStamp i (s.g (R.CAP_CFG.TB i))) hi
    refine ⟨_, exec_capEdge hi hen hpulse hedge hroom hrings, ?_, ?_, ?_, ?_, ?_, (Kept.capPut s i (s.capEntry i) _).passOn s⟩
    · exact (rd_passOn _ _ (hlow (s.capEntry i) (Nat.le_refl _) (by omega))).trans hword0
    · exact (rd_passOn _ _ (hlow (s.capEntry i + 4) (by omega) (by omega))).trans hword1
    · exact (rd_passOn _ _ (hlow (s.capEntry i + 8) (by omega) (Nat.le_refl _))).trans hword2
    · rw [g_passOn _ _ (capPtr_pass hi), hwr]
    · rw [g_passOn _ _ (by decide), hevent]
  case start =>
    intro s req g v x hg hadm hoff hdef hone hpin hlink hrun hgood hstart hahead
    have hstore := Kept.store s (R.TG_CFG g) (x ||| 0x80000000)
    have harmed := ((hstore.withGens _).trans ((Kept.genArmed _ g (tv256 v)).trans (Kept.p _ (R.TG_STS.RUN g) 1))).passOn s
    obtain ⟨hshot, hbase⟩ := s.genSampled_store (tv256 v) hg hone
    have hgen : ∀ k, (State.passOn s (((s.store (R.TG_CFG g) (x ||| 0x80000000)).genArmed g (tv256 v)).p (R.TG_STS.RUN g) 1)).gen k =
        ((s.store (R.TG_CFG g) (x ||| 0x80000000)).genArmed g (tv256 v)).gen k :=
      ((Kept.p _ (R.TG_STS.RUN g) 1).passOn s).gen_eq
    rw [exec_tgEnable hg hadm, State.tgCfgWrite_rise hoff (bit_or_top x) hdef,
      State.tgEnable_store hg hone hpin hlink hrun hgood hstart hahead]
    refine ⟨_, rfl, ?_, ?_, ?_, ?_, ?_, fun k hk => ?_, harmed.of_gens⟩
    · rw [State.genRun, State.on, g_passOn _ _ (tgSts_pass hg), State.g_p_fits _ 1 rfl]
      rfl
    · rw [hgen, State.gen_genArmed_same, hshot]
    · rw [hgen, State.gen_genArmed_same, State.genSampled]
    · rw [hgen, State.gen_genArmed_same]
    · rw [hgen, State.gen_genArmed_same, hbase]
    · rw [hgen, State.gen_genArmed_ne _ _ hk, hstore.gen_eq]
  case stop =>
    intro s req g x hg hadm hon hnone
    have hstore := Kept.store s (R.TG_CFG g) (x &&& 0x7FFFFFFF)
    have hnone' := (State.gensWhere_congr (fun q => q.link) hstore.gen_eq
      (fun k hk => hstore.rd_eq (tgSts_ne_cfg k g) (tgSts_pass hk))).trans hnone
    have hstopped := hstore.trans (Kept.tgSts _ g)
    obtain ⟨hrun, herr⟩ := (s.store (R.TG_CFG g) (x &&& 0x7FFFFFFF)).g_genStopped g
    obtain ⟨hgen, hothers⟩ := hstopped.gen_of_modGen (f := fun q => { q with pin := q.pol }) (Quiet.passOn s _)
    rw [exec_tgDisable hg hadm, State.tgCfgWrite_fall hon (bit_and_rest x), State.tgDisable_of_unlinked hnone']
    refine ⟨_, rfl, ?_, ?_, hgen, hothers, ((hstopped.withGens _).passOn s).of_gens⟩
    · rw [State.genRun, State.on, g_passOn _ _ (tgSts_pass hg), hrun]
      rfl
    · rw [g_passOn _ _ (tgSts_pass hg), herr]
  case edge =>
    intro s g hg hrun hone hlink hmade hdue hrings hchans
    obtain ⟨hgen, hothers⟩ := s.gen_genFired hmade
    refine ⟨_, exec_tgEdge_first hg hrun hone hlink hmade hdue hrings hchans, ?_, ?_, ?_, ((Kept.genFired s g).passOn s).of_gens⟩
    · rw [gen_passOn, hgen]
      rfl
    · rw [g_passOn _ _ (tgSts_pass hg), s.g_genFired]
    · intro k hk
      rw [gen_passOn, hothers k hk]
  case width =>
    intro s g hg hpin
    obtain ⟨hgen, hothers⟩ := (Kept.refl s []).gen_of_modGen (g := g) (f := fun q => { q with pin := q.pol }) (Quiet.passOn s _)
    exact ⟨_, exec_tgPinWidthEnd hg hpin, hgen, hothers, (((Kept.refl s []).withGens _).passOn s).of_gens⟩
  case command =>
    intro s g hg hrun hlost
    refine ⟨_, exec_tgEdgeCommand hg hrun hlost, passOn_edges _ _, ?_⟩
    rw [passOn_edges]
    exact Quiet.passOn s { s with edges := s.edges ++ [g] }
  case die =>
    intro s late g rest hedges hlost
    exact congrArg (done s) (State.dieEdge_cons late hedges hlost)

end

section
/-! SUPPORT. gPTP: messages taken, the link-delay service of a port, and the domains (R265-R271). -/

namespace Sys2Proof.Machine

/-! ### The own states of domains and of the link-delay service -/

@[simp] theorem State.dom_modDom_same (s : State) (d : Nat) (f : Dom → Dom) : (s.modDom d f).dom d = f (s.dom d) :=
  Tab.get_set_same _ _ _ _

theorem State.dom_modDom_ne (s : State) {d k : Nat} (f : Dom → Dom) (h : k ≠ d) : (s.modDom d f).dom k = s.dom k :=
  Tab.get_set_ne _ _ _ h

theorem Kept.dom_eq {s t : State} {l : List Nat} (h : Kept s t l) (d : Nat) : t.dom d = s.dom d := by
  rw [State.dom, State.dom, h.2.2]

theorem Kept.domNamed_eq {s t : State} {l : List Nat} (h : Kept s t l) (x : Nat) : t.domNamed x = s.domNamed x := by
  simp only [State.domNamed, h.dom_eq]

/-- A frame of registers stands with the same change of a domain on both sides. -/
theorem Kept.modDom {s t : State} {l : List Nat} (h : Kept s t l) (d : Nat) (f : Dom → Dom) : Kept (s.modDom d f) (t.modDom d f) l := by
  have hdom := h.dom_eq d
  obtain ⟨hreg, hq, hrest⟩ := h
  refine ⟨hreg, hq, ?_⟩
  simp only [State.modDom, hdom]
  rw [hrest]

/-- What follows a change of one domain with registers alone leaves that change and a frame that excepts the domains. -/
theorem Kept.of_modDom {s t : State} {l : List Nat} {d : Nat} {f : Dom → Dom} (h : Kept (s.modDom d f) t l) :
    t.dom d = f (s.dom d) ∧ (∀ k, k ≠ d → t.dom k = s.dom k) ∧ Kept { s with doms := t.doms } t l := by
  have hdoms : t.doms = (s.modDom d f).doms := by rw [h.2.2]
  refine ⟨by rw [h.dom_eq, State.dom_modDom_same], fun k hk => by rw [h.dom_eq, State.dom_modDom_ne s f hk], ?_⟩
  rw [hdoms]
  exact h

@[simp] theorem State.pd_modPd_same (s : State) (n : Nat) (f : Pdelay → Pdelay) : (s.modPd n f).pd n = f (s.pd n) :=
  Tab.get_set_same _ _ _ _

theorem State.pd_modPd_ne (s : State) {n k : Nat} (f : Pdelay → Pdelay) (h : k ≠ n) : (s.modPd n f).pd k = s.pd k :=
  Tab.get_set_ne _ _ _ h

@[simp] theorem State.pd_modPort (s : State) (n k : Nat) (f : Port → Port) : (s.modPort n f).pd k = s.pd k := rfl

@[simp] theorem pd_passOn (s0 s : State) (n : Nat) : (State.passOn s0 s).pd n = s.pd n := by
  rw [State.pd, passOn_pdelay, State.pd]

theorem State.on_of_one {s : State} {l : Loc} (h : s.g l = 1) : s.on l = true := by
  rw [State.on, h]
  rfl

/-! ### Messages (R265) -/

/-- A message taken is the only thing that changes. -/
theorem State.tpTake_eq {s u : State} {p : TpMsg → Bool} {m : TpMsg} (h : s.tpTake p = some (m, u)) :
    u = { s with tpIn := s.tpIn.erase m } := by
  obtain ⟨m', -, hpair⟩ := Option.map_eq_some_iff.mp h
  obtain ⟨rfl, rfl⟩ := Prod.mk.inj hpair
  rfl

section
variable {s u : State} {m : TpMsg}

/-- A message of no service goes to TP_GLB.Q with COPY, where the queue has room. -/
theorem exec_gptpOther_copied (htake : s.tpTake (fun x => !x.isPd && !s.isRelay x) = some (m, u)) (hcopy : u.g R.TP_GLB.COPY = 1)
    (hroom : u.offer (u.g R.TP_GLB.Q)
      (ethEntry 0 m.port 6 1 0 m.frame.stampTb m.frame.stamp (m.frame.bytes ++ fcsOf m.frame.bytes)).length ≠ .noRoom) :
    exec .gptpOtherMessage s = done s (u.qFrame (u.g R.TP_GLB.Q)
      (ethEntry 0 m.port 6 1 0 m.frame.stampTb m.frame.stamp (m.frame.bytes ++ fcsOf m.frame.bytes))) := by
  have hon := State.on_of_one hcopy
  show done s s.tpOther = _
  rw [State.tpOther, htake]
  simp only [hon, if_true, beq_false_of_ne hroom, Bool.and_false, Bool.false_eq_true, if_false]

theorem exec_gptpOther_discarded (htake : s.tpTake (fun x => !x.isPd && !s.isRelay x) = some (m, u)) (hcopy : u.g R.TP_GLB.COPY = 0) :
    exec .gptpOtherMessage s = done s u := by
  have hon : u.on R.TP_GLB.COPY = false := by simp [State.on, hcopy]
  show done s s.tpOther = _
  rw [State.tpOther, htake]
  simp only [hon, Bool.false_eq_true, if_false]

/-! ### Link delay (R267) -/

/-- A link-delay service that begins its next request. -/
def Pdelay.requested (q : Pdelay) : Pdelay :=
  { q with seq := (q.seq + 1) % 65536, pending := true, parts := 0, dup := false, valid := false }

/-- The request of port `n` with its next sequenceId. -/
def State.pdReqBody (s : State) (n : Nat) : List Byte :=
  s.gpHeader n gpPdReq 54 0 0x0008 0 (((s.pd n).seq + 1) % 65536) 5 (unsigned 8 (signed 4 (s.g (R.TP_PORT_CFG.PD_LOG n)))) ++
    List.replicate 20 0

theorem State.pd_sendPdReq_same (s : State) (n : Nat) (body : List Byte) :
    (s.sendPdReq n body).pd n = { s.pd n with t1 := s.txStamp n (s.pdTb n) } := by
  rw [State.sendPdReq, State.sendEvent, State.pd_modPort, State.pd_modPd_same]

theorem State.pd_sendPdReq_ne (s : State) {n k : Nat} (body : List Byte) (h : k ≠ n) : (s.sendPdReq n body).pd k = s.pd k := by
  rw [State.sendPdReq, State.sendEvent, State.pd_modPort, State.pd_modPd_ne _ _ h]

theorem State.event_sendPdReq (s : State) (n : Nat) (body : List Byte) :
    ((s.sendPdReq n body).port n).event = s.gpFrame n body := by
  rw [State.sendPdReq, State.sendEvent, State.port_modPort_same]
  rfl

theorem Kept.sendPdReq (s : State) (n : Nat) (f : Pdelay → Pdelay) (body : List Byte) :
    Kept { s with pdelay := ((s.modPd n f).sendPdReq n body).pdelay, ports := ((s.modPd n f).sendPdReq n body).ports }
      ((s.modPd n f).sendPdReq n body) [] :=
  Kept.refl _ _

/-- With no request awaiting its response the timer sends the next. -/
theorem exec_pdelayReqTimer {n : Nat} (hn : n < 24) (hen : s.g (R.TP_PORT_CFG.PD_EN n) = 1) (hup : s.portUp n = true)
    (hfree : s.paused n 6 = false) (hidle : (s.pd n).pending = false) :
    exec (.pdelayReqTimer n) s = done s ((s.modPd n Pdelay.requested).sendPdReq n (s.pdReqBody n)) := by
  have hon := State.on_of_one hen
  have hjudge : s.pdJudge n = s := if_neg (by simp [hidle])
  have hhold : s.tpHolds n = false := hfree
  show execPdelayReqTimer n s = _
  rw [execPdelayReqTimer, Nat.mod_eq_of_lt hn, State.pdTimer, hon, hup, hjudge, hhold]
  rfl

/-- The first part of a response is kept. -/
def Pdelay.responded (q : Pdelay) (t4 t2 : Nat) : Pdelay := { q with parts := 1, t4 := t4, t2 := t2 }

theorem exec_pdelayResp_first (htake : s.tpTake (fun x => x.type == gpPdResp || x.type == gpPdFollow) = some (m, u))
    (htype : m.type = gpPdResp) (hen : u.g (R.TP_PORT_CFG.PD_EN m.port) = 1) (hpending : (u.pd m.port).pending = true)
    (hseq : m.seq = (u.pd m.port).seq) (hparts : (u.pd m.port).parts = 0) :
    exec .pdelayRespReceived s =
      done s (u.modPd m.port (fun q => q.responded (m.stamp (u.pdTb m.port)) (tvAdd m.time (m.corr * 65536)))) := by
  have hon := State.on_of_one hen
  have hmod : u.modPd m.port (fun x =>
        { x with parts := setBit x.parts 0 true, t4 := m.stamp (u.pdTb m.port), t2 := tvAdd m.time (m.corr * 65536) }) =
      u.modPd m.port (fun q => q.responded (m.stamp (u.pdTb m.port)) (tvAdd m.time (m.corr * 65536))) := by
    rw [State.modPd, State.modPd, hparts]
    rfl
  have hnew : bit (u.pd m.port).parts 0 = false := by
    rw [hparts]
    rfl
  show done s s.pdPart = _
  rw [State.pdPart, htake]
  simp only [hon, hpending, hseq, htype, hnew, if_true, Bool.not_true, Bool.false_or, bne_self_eq_false, Bool.false_eq_true, if_false]
  rw [hmod]
  exact congrArg (done s) (if_neg (by simp [State.pd_modPd_same, Pdelay.responded]))

/-- A request is answered in two steps. -/
theorem exec_pdelayReqReceived (htake : s.tpTake (fun x => x.type == gpPdReq) = some (m, u))
    (hen : u.g (R.TP_PORT_CFG.PD_EN m.port) = 1) (hup : u.portUp m.port = true) (hfree : u.paused m.port 6 = false) :
    exec .pdelayReqReceived s = done s (u.sendPdResp m.port m.domain m.seq (m.stamp (u.pdTb m.port)) m.source) := by
  have hon := State.on_of_one hen
  have hhold : u.tpHolds m.port = false := hfree
  show done s s.pdAnswer = _
  rw [State.pdAnswer, htake]
  simp only [hon, hup, hhold, Bool.not_true, Bool.or_self, Bool.false_eq_true, if_false]

/-! ### Sync (R268, R269) -/

/-- The record of a Sync. -/
def TpMsg.syncRec (m : TpMsg) : SyncRec := { seq := m.seq, stamps := m.stamps, corr := m.corr, stepped := m.stepped }

/-- A domain that awaits `r`. -/
def Dom.awaiting (q : Dom) (r : Option SyncRec) : Dom := { q with await := r }

section
variable {d : Nat}

/-- A two-step Sync at the slave port, with none awaited, waits for its Follow_Up. -/
theorem exec_syncReceived_twoStep (htake : s.tpTake (fun x => x.type == gpSync && (s.domNamed x.domain).isSome) = some (m, u))
    (hdom : u.domNamed m.domain = some d) (hslave : m.port = (u.dom d).slave) (hcap : u.asCapable m.port = true) (htwo : m.twoStep = true)
    (hnone : (u.dom d).await = none) : exec .syncReceived s = done s (u.modDom d (fun q => q.awaiting (some m.syncRec))) := by
  have hgive : u.syncGiveUp d = u := if_neg (by simp [hnone])
  show done s s.syncIn = _
  rw [State.syncIn, htake]
  simp only [hdom, hslave.symm, hcap, htwo, hgive, ne_eq, not_true, Bool.not_true, Bool.false_eq_true, or_self, if_false, if_true]
  rfl

/-- A Follow_Up of the Sync awaited accepts it. -/
theorem exec_followUpReceived_awaited {r : SyncRec}
    (htake : s.tpTake (fun x => x.type == gpFollow && (s.domNamed x.domain).isSome) = some (m, u))
    (hdom : u.domNamed m.domain = some d) (hawait : (u.dom d).await = some r) (hslave : m.port = (u.dom d).slave) (hseq : m.seq = r.seq) :
    exec .followUpReceived s = done s
      ((u.modDom d (fun q => { q with await := none })).syncAccept d r m.time (r.corr + m.corr) m.csro m.info) := by
  show done s s.followIn = _
  rw [State.followIn, htake]
  simp only [hdom, hawait]
  exact congrArg (done s) (if_neg (by simp [hslave, hseq]))

end

end

section
variable {s : State} {d : Nat}

/-- The counters of the engine. -/
theorem tpCount_pass {a : Nat} (hlo : 0x1A50000 ≤ a) (hhi : a < 0x1A60000) : a ∉ passRegs := timeReg_pass (by omega) (by omega)

theorem tpDomSts_pass (hd : d < 4) : R.TP_DOM_STS d ∉ passRegs := timeArray_pass (by decide) (by omega)

/-! What counts a Sync and sets its event: the counter at `a`, the event `l`. -/

/-- A counter of the engine is none of its events. -/
theorem tpCount_evt {a : Nat} {l : Loc} (hl : l.addr = R.TIME_EVT) (hlo : 0x1A50000 ≤ a) : a ≠ l.addr ∧ a + 4 ≠ l.addr := by
  have hevt : R.TIME_EVT < 0x1A50000 := by decide
  omega

theorem State.rd64_bump_ev (t : State) {a : Nat} {l : Loc} (hl : l.addr = R.TIME_EVT) (hlo : 0x1A50000 ≤ a) (hsave : t.saving = false) :
    ((t.bump a).ev l).rd64 a = (t.rd64 a + 1) % 2 ^ 64 := by
  obtain ⟨hne, hne'⟩ := tpCount_evt hl hlo
  rw [State.rd64_ev_ne _ _ hne hne', State.rd64_bump _ _ hsave]

/-- A Sync that has had no Follow_Up is given up. -/
theorem exec_followUpTimeout {r : SyncRec} (hd : d < 4) (hawait : (s.dom d).await = some r) :
    exec (.followUpTimeout d) s = done s ((s.modDom d (fun q => q.awaiting none)).syncDrop d) := by
  show execFollowUpTimeout d s = _
  rw [execFollowUpTimeout, Nat.mod_eq_of_lt hd, State.syncGiveUp, hawait]
  rfl

/-- A domain whose Sync interval is not timed. -/
def Dom.untimed (q : Dom) : Dom := { q with timing := false }

/-- Domain `d` with no Sync for three intervals. -/
def State.syncLost (s : State) (d : Nat) : State :=
  (((s.modDom d Dom.untimed).p (R.TP_DOM_STS.SYNC_OK d) 0).bump (R.TP_SYNC_TMO_LO d)).ev R.TIME_EVT.TP_SYNC_TMO

theorem exec_syncTmo (hd : d < 4) (hen : (s.dom d).en = true) (hslave : (s.dom d).slave ≠ 31) (htiming : (s.dom d).timing = true) :
    exec (.syncTmo d) s = done s (s.syncLost d) := by
  show execSyncTmo d s = _
  rw [execSyncTmo, Nat.mod_eq_of_lt hd, State.syncTimeout]
  exact congrArg (done s) (if_pos (by simp [hen, hslave, htiming]))

theorem Kept.syncLost (s : State) (d : Nat) : Kept (s.modDom d Dom.untimed) (s.syncLost d)
    [R.TP_DOM_STS d, R.TP_SYNC_TMO_LO d, R.TP_SYNC_TMO_LO d + 4, R.TIME_EVT] :=
  ((Kept.p _ (R.TP_DOM_STS.SYNC_OK d) 0).trans (Kept.bump _ (R.TP_SYNC_TMO_LO d))).trans (Kept.ev _ R.TIME_EVT.TP_SYNC_TMO)

/-- What the registers show of a domain with no Sync for three intervals. -/
theorem State.syncLost_shows (hd : d < 4) (hsave : s.saving = false) :
    (s.syncLost d).g (R.TP_DOM_STS.SYNC_OK d) = 0 ∧ (s.syncLost d).g R.TIME_EVT.TP_SYNC_TMO = 1 ∧
      (s.syncLost d).rd64 (R.TP_SYNC_TMO_LO d) = (s.rd64 (R.TP_SYNC_TMO_LO d) + 1) % 2 ^ 64 := by
  have hlo : 0x1A50000 ≤ R.TP_SYNC_TMO_LO d := Nat.le_add_right_of_le (by decide)
  have hsts : R.TP_DOM_STS d < R.TIME_EVT ∧ R.TIME_EVT < 0x1A50000 := by
    simp only [R.TP_DOM_STS, R.TIME_EVT]
    omega
  have hclr : ((s.modDom d Dom.untimed).p (R.TP_DOM_STS.SYNC_OK d) 0).g (R.TP_DOM_STS.SYNC_OK d) = 0 := State.g_p_fits _ 0 rfl
  have hsave' : ((s.modDom d Dom.untimed).p (R.TP_DOM_STS.SYNC_OK d) 0).saving = false :=
    ((Kept.p _ (R.TP_DOM_STS.SYNC_OK d) 0).saving_eq (by
      simp only [List.mem_singleton, R.PWR_SUP_STS.SAVE, R.PWR_SUP_STS, R.TP_DOM_STS.SYNC_OK, R.TP_DOM_STS]
      omega)).trans hsave
  refine ⟨?_, State.g_p_fits _ 1 rfl, (State.rd64_bump_ev _ rfl hlo hsave').trans ?_⟩
  · refine (State.g_p_ne _ _ _ _ (show R.TP_DOM_STS d ≠ R.TIME_EVT by omega)).trans
      (((Kept.bump _ _).g_eq ?_ (tpDomSts_pass hd)).trans hclr)
    simp only [List.mem_cons, List.not_mem_nil, or_false, R.TP_DOM_STS.SYNC_OK]
    omega
  · rw [State.rd64_p_ne _ _ _ (show R.TP_SYNC_TMO_LO d ≠ R.TP_DOM_STS d by omega)
      (show R.TP_SYNC_TMO_LO d + 4 ≠ R.TP_DOM_STS d by omega)]
    rfl

/-- The grandmaster sends a Sync at every master port, or it waits there. -/
theorem exec_grandmasterSync (hd : d < 4) (hen : (s.dom d).en = true) (hslave : (s.dom d).slave = 31) :
    exec (.grandmasterSync d) s = done s (s.each (s.masterPorts d) (fun n u =>
      if u.tpHolds n then u.tpWait n (.gm d ((s.g (R.TP_DOM_STS.SEQ d) + 1) % 65536))
      else u.sendGm d n ((s.g (R.TP_DOM_STS.SEQ d) + 1) % 65536))) := by
  show execGrandmasterSync d s = _
  rw [execGrandmasterSync, Nat.mod_eq_of_lt hd, State.gmSync]
  exact congrArg (done s) (if_pos (by simp [hen, hslave]))


/-! ### TP_DOM_CFG (R271, R508) -/

theorem rowOf_tpDomCfg (hd : d < 4) : ∃ r, rowOf (R.TP_DOM_CFG d) = some r ∧ r.rw ||| r.rwg = 0xff8f00ff := by
  interval_cases d <;> exact ⟨_, rfl, rfl⟩

theorem State.on_tpDomCfg_store (s : State) {b : Nat} (hd : d < 4) (v : Word) (hb : (W 0xff8f00ff).getLsbD b = true) :
    (s.store (R.TP_DOM_CFG d) v).on ⟨R.TP_DOM_CFG d, b, 1⟩ = bit v.toNat b := by
  obtain ⟨r, hrow, hrw⟩ := rowOf_tpDomCfg hd
  exact s.on_store hrow (by rwa [hrw])

theorem State.g_tpDomCfg_store (s : State) {lo wd : Nat} (hd : d < 4) (v : Word)
    (hb : ∀ i, i < wd → (W 0xff8f00ff).getLsbD (lo + i) = true) :
    (s.store (R.TP_DOM_CFG d) v).g ⟨R.TP_DOM_CFG d, lo, wd⟩ = fieldOf v lo wd := by
  obtain ⟨r, hrow, hrw⟩ := rowOf_tpDomCfg hd
  exact State.g_store (l := ⟨R.TP_DOM_CFG d, lo, wd⟩) hrow (by rwa [hrw])

/-- The domain that a write of `v` at TP_DOM_CFG enables, its master ports `masters`. -/
def domSampled (v : Word) (masters : Nat) : Dom :=
  { en := true, oneStep := bit v.toNat 30, tb := fieldOf v 28 2, slave := fieldOf v 23 5, number := fieldOf v 0 8,
    log := fieldOf v 16 4, masters := masters, timing := fieldOf v 23 5 != 31 }

theorem State.domCfgWrite_rise {req : Nat} {v : Word} (hoff : s.on (R.TP_DOM_CFG.EN d) = false) (hset : bit v.toNat 31 = true)
    (hdef : s.deferred req = false) : s.domCfgWrite req d v = (s.store (R.TP_DOM_CFG d) v).domEnable d := by
  rw [State.domCfgWrite, State.enAct_rise hoff hset hdef]
  rfl

/-- EN samples a configuration that R271 lets. -/
theorem State.domEnable_store {v : Word} (hd : d < 4) (hslave : fieldOf v 23 5 < 24 ∨ fieldOf v 23 5 = 31)
    (hmin : -5 ≤ signed 4 (fieldOf v 16 4)) (hmax : signed 4 (fieldOf v 16 4) ≤ 0) (hnew : s.domNamed (fieldOf v 0 8) = none) :
    (s.store (R.TP_DOM_CFG d) v).domEnable d =
      (s.store (R.TP_DOM_CFG d) v).modDom d (fun _ => domSampled v (s.g (R.TP_DOM_MASTER.MASK d))) := by
  have hstore := Kept.store s (R.TP_DOM_CFG d) v
  have hport : (s.store (R.TP_DOM_CFG d) v).g (R.TP_DOM_CFG.SLAVE d) = fieldOf v 23 5 := s.g_tpDomCfg_store hd v (by decide)
  have hlog : (s.store (R.TP_DOM_CFG d) v).g (R.TP_DOM_CFG.SYNC_LOG d) = fieldOf v 16 4 := s.g_tpDomCfg_store hd v (by decide)
  have hnumber : (s.store (R.TP_DOM_CFG d) v).g (R.TP_DOM_CFG.DOMAIN d) = fieldOf v 0 8 := s.g_tpDomCfg_store hd v (by decide)
  have htb : (s.store (R.TP_DOM_CFG d) v).g (R.TP_DOM_CFG.TB d) = fieldOf v 28 2 := s.g_tpDomCfg_store hd v (by decide)
  have hone : (s.store (R.TP_DOM_CFG d) v).on (R.TP_DOM_CFG.ONE_STEP d) = bit v.toNat 30 := s.on_tpDomCfg_store hd v (by decide)
  have hmask : (s.store (R.TP_DOM_CFG d) v).g (R.TP_DOM_MASTER.MASK d) = s.g (R.TP_DOM_MASTER.MASK d) :=
    hstore.g_eq (by simp only [List.mem_singleton, R.TP_DOM_MASTER.MASK, R.TP_DOM_MASTER, R.TP_DOM_CFG]; omega)
      (timeArray_pass (by decide) (by omega))
  have hname : ((s.store (R.TP_DOM_CFG d) v).domNamed (fieldOf v 0 8)).isSome = false := by rw [hstore.domNamed_eq, hnew]; rfl
  unfold State.domEnable
  rw [hport, hlog, hnumber, htb, hone, hmask]
  exact if_neg (by rw [hname]; simp only [Bool.false_eq_true, or_false]; omega)

theorem exec_tpDomEnable {req : Nat} {v : Word} (hd : d < 4) (hadm : Admitted s req (R.TP_DOM_CFG d) (v ||| 0x80000000)) :
    exec (.tpDomEnable req d v) s = done s (s.domCfgWrite req d (v ||| 0x80000000)) := by
  show execTpDomEnable req d v s = _
  rw [execTpDomEnable, Nat.mod_eq_of_lt hd, State.byPort_admitted s _ _ _ _ hadm]

end

end Sys2Proof.Machine
end

section

open Sys2Proof Sys2Proof.Machine

/-- Settles O37: a message is taken off the queue and nothing else, then each message and timeout changes the service of its port or one
domain, with the registers that count it; EN of TP_DOM_CFG samples what its write stored. -/
theorem gptpService : Obligations.GptpService := by
  unfold Obligations.GptpService
  refine ⟨?request, ?answer, ?response, ?sync, ?followUp, ?givenUp, ?copied, ?discarded, ?timeout, ?grandmaster, ?enable⟩
  case request =>
    intro s n hn hen hup hfree hidle
    refine ⟨_, exec_pdelayReqTimer hn hen hup hfree hidle, ?_, ?_, fun k hk => ?_, ?_⟩
    · rw [pd_passOn, State.pd_sendPdReq_same, State.pd_modPd_same]
      rfl
    · rw [port_passOn, State.event_sendPdReq]
      rfl
    · rw [pd_passOn, State.pd_sendPdReq_ne _ _ hk, State.pd_modPd_ne _ _ hk]
    · rw [passOn_pdelay, passOn_ports]
      exact (Kept.sendPdReq s n _ _).passOn s
  case answer =>
    intro s u m htake hen hup hfree
    exact exec_pdelayReqReceived htake hen hup hfree
  case response =>
    intro s u m htake htype hen hpending hseq hparts
    have hpd : ∀ k, u.pd k = s.pd k := fun k => by rw [State.tpTake_eq htake]; rfl
    refine ⟨_, exec_pdelayResp_first htake htype hen hpending hseq hparts, passOn_tpIn _ _, ?_, fun k hk => ?_, ?_⟩
    · rw [pd_passOn, State.pd_modPd_same]
      rfl
    · rw [pd_passOn, State.pd_modPd_ne _ _ hk, hpd]
    · rw [passOn_tpIn, passOn_pdelay, State.tpTake_eq htake]
      exact Quiet.passOn s _
  case sync =>
    intro s u m d htake hdom hslave hcap htwo hnone
    have hdoms : ∀ k, u.dom k = s.dom k := fun k => by rw [State.tpTake_eq htake]; rfl
    refine ⟨_, exec_syncReceived_twoStep htake hdom hslave hcap htwo hnone, passOn_tpIn _ _, ?_, fun k hk => ?_, ?_⟩
    · rw [(Quiet.passOn s _).dom_eq, State.dom_modDom_same]
      rfl
    · rw [(Quiet.passOn s _).dom_eq, State.dom_modDom_ne _ _ hk, hdoms]
    · rw [passOn_tpIn, passOn_doms, State.tpTake_eq htake]
      exact Quiet.passOn s _
  case followUp =>
    intro s u m d r htake hdom hawait hslave hseq
    exact exec_followUpReceived_awaited htake hdom hawait hslave hseq
  case givenUp =>
    intro s d r hd hawait hsave
    have hdrop : Kept (s.modDom d (fun q => q.awaiting none)) ((s.modDom d (fun q => q.awaiting none)).syncDrop d)
        [R.TP_SYNC_DROP_LO d, R.TP_SYNC_DROP_LO d + 4, R.TIME_EVT] := (Kept.bump _ _).trans (Kept.ev _ R.TIME_EVT.TP_SYNC_DROP)
    obtain ⟨hdom, hothers, hframe⟩ := (hdrop.passOn s).of_modDom
    have hlo : 0x1A50000 ≤ R.TP_SYNC_DROP_LO d := Nat.le_add_right_of_le (by decide)
    have hhi : R.TP_SYNC_DROP_LO d + 4 < 0x1A60000 := by
      simp only [R.TP_SYNC_DROP_LO]
      omega
    refine ⟨_, exec_followUpTimeout hd hawait, hdom, ?_, ?_, hothers, hframe⟩
    · rw [rd64_passOn _ _ (tpCount_pass hlo (by omega)) (tpCount_pass (by omega) (by omega))]
      exact State.rd64_bump_ev _ rfl hlo hsave
    · rw [g_passOn _ _ (by decide)]
      exact State.g_p_fits _ 1 rfl
  case copied =>
    intro s u m e htake hcopy he hroom
    subst he
    exact exec_gptpOther_copied htake hcopy hroom
  case discarded =>
    intro s u m htake hcopy
    obtain rfl := State.tpTake_eq htake
    refine ⟨_, exec_gptpOther_discarded htake hcopy, passOn_tpIn _ _, ?_⟩
    rw [passOn_tpIn]
    exact Quiet.passOn s { s with tpIn := s.tpIn.erase m }
  case timeout =>
    intro s d hd hen hslave htiming hsave
    have hlo : 0x1A50000 ≤ R.TP_SYNC_TMO_LO d := Nat.le_add_right_of_le (by decide)
    have hhi : R.TP_SYNC_TMO_LO d + 4 < 0x1A60000 := by
      simp only [R.TP_SYNC_TMO_LO]
      omega
    obtain ⟨hok, hevent, hcount⟩ := State.syncLost_shows hd hsave
    obtain ⟨hdom, hothers, hframe⟩ := ((Kept.syncLost s d).passOn s).of_modDom
    refine ⟨_, exec_syncTmo hd hen hslave htiming, hdom, ?_, ?_, ?_, hothers, hframe⟩
    · rw [g_passOn _ _ (tpDomSts_pass hd), hok]
    · rw [g_passOn _ _ (by decide), hevent]
    · rw [rd64_passOn _ _ (tpCount_pass hlo (by omega)) (tpCount_pass (by omega) (by omega)), hcount]
  case grandmaster =>
    intro s d hd hen hslave
    exact exec_grandmasterSync hd hen hslave
  case enable =>
    intro s req d v hd hadm hoff hdef hslave hmin hmax hnew
    obtain ⟨hdom, hothers, hframe⟩ := (((Kept.store s (R.TP_DOM_CFG d) (v ||| 0x80000000)).modDom d
      (fun _ => domSampled (v ||| 0x80000000) (s.g (R.TP_DOM_MASTER.MASK d)))).passOn s).of_modDom
    rw [exec_tpDomEnable hd hadm, State.domCfgWrite_rise hoff (bit_or_top v) hdef, State.domEnable_store hd hslave hmin hmax hnew]
    exact ⟨_, rfl, hdom, hothers, hframe⟩

end
